-- ==== Sys2Proof/Word.lean ====
section
/-! DEFINITION. Words and bytes of the UM3250 (R9, R10) and their plainest arithmetic. -/
namespace Sys2Proof

/-- A byte. -/
abbrev Byte := BitVec 8

/-- A hardware register or a mailbox word: 32 bits (R10). -/
abbrev Word := BitVec 32

/-- The number a Bool writes into a one-bit field. -/
def b2n (b : Bool) : Nat := if b then 1 else 0

end Sys2Proof
end

