-- ==== Sys2Proof/Machine/Bits.lean ====
section
/-! DEFINITION. Fields of words, byte orders and the checks the spec computes from bits; ordering lists. -/

/-- An element put behind those that come before it or are equal in an ordered list. -/
def List.orderInsert' {α : Type} (le : α → α → Bool) (x : α) : List α → List α
  | [] => [x]
  | y :: l => if le y x then y :: List.orderInsert' le x l else x :: y :: l

/-- A list in order; equal elements keep theirs. -/
def List.orderBy {α : Type} (l : List α) (le : α → α → Bool) : List α :=
  l.foldl (fun acc x => List.orderInsert' le x acc) []

namespace Sys2Proof

/-- Bits `hi` to `lo` of a number, as a field written [hi:lo] (R10). -/
def bits (w hi lo : Nat) : Nat := w / 2 ^ lo % 2 ^ (hi + 1 - lo)

/-- Bit `i` of a number. -/
def bit (w i : Nat) : Bool := w.testBit i

/-- Little-endian bytes of a number (R433). -/
def leBytes : Nat → Nat → List Byte
  | 0, _ => []
  | n + 1, v => BitVec.ofNat 8 v :: leBytes n (v / 256)

/-- The number little-endian bytes write (R433). -/
def leNat : List Byte → Nat
  | [] => 0
  | b :: bs => b.toNat + 256 * leNat bs

/-- The number big-endian bytes write. -/
def beNat (bs : List Byte) : Nat := leNat bs.reverse

/-- Big-endian bytes of a number. -/
def beBytes (n v : Nat) : List Byte := (leBytes n v).reverse

/-- Division rounded up. -/
def ceilDiv (a b : Nat) : Nat := (a + b - 1) / b

/-- Words of a little-endian byte list (R433); a short tail is filled with zeros. -/
def leWords : Nat → List Byte → List Nat
  | 0, _ => []
  | n + 1, bs => leNat (bs.take 4) :: leWords n (bs.drop 4)

/-- The signed value of the low `w` bits of a number. -/
def signedOf (w v : Nat) : Int := if v % 2 ^ w < 2 ^ (w - 1) then v % 2 ^ w else (v % 2 ^ w : Int) - 2 ^ w

/-- A number held at a field's maximum (R520). -/
def satTo (w v : Nat) : Nat := min v (2 ^ w - 1)

/-- One step of a CRC, most significant bit first: the register, of `w` bits, takes in one bit. -/
def crcStep (w poly : Nat) (r : Nat) (b : Bool) : Nat :=
  let top := r.testBit (w - 1) != b
  let r' := r * 2 % 2 ^ w
  if top then r' ^^^ poly else r'

/-- A CRC of `w` bits over bits given most significant first. -/
def crcBits (w poly init : Nat) (bs : List Bool) : Nat := bs.foldl (crcStep w poly) init

/-- The bits of a number of `n` bits, most significant first. -/
def msbBits : Nat → Nat → List Bool
  | 0, _ => []
  | n + 1, v => v.testBit n :: msbBits n v

/-- The number that bits write, most significant first. -/
def bitsNum (bs : List Bool) : Nat := bs.foldl (fun n b => 2 * n + if b then 1 else 0) 0

/-- CRC-32 with the IEEE 802.3 polynomial, as Ethernet computes it: each byte least significant bit first, begun from and ended with all ones. -/
def crcIeee (bs : List Byte) : Nat :=
  let r := crcBits 32 0x04C11DB7 0xFFFFFFFF ((bs.map (fun b => (msbBits 8 b.toNat).reverse)).flatten)
  bitsNum (msbBits 32 r).reverse ^^^ 0xFFFFFFFF

/-- A CRC over bytes, each most significant bit first. -/
def crcBytes (w poly init : Nat) (bs : List Byte) : Nat :=
  bs.foldl (fun r b => crcBits w poly r (msbBits 8 b.toNat)) init

end Sys2Proof
end

