-- ==== Sys2Proof/Machine/Event.lean ====
section
/-! DEFINITION. The 142 event kinds of R509 with their codes (Table 20.3), severities and clear forms (Table 20.2), the event
record of Table 20.4, and the packing of the data word (R511). -/
namespace Sys2Proof

/-- The event kinds, one per kind; a pair of Table 20.2 is one kind, named by its set form (R508). -/
inductive EvKind where
  | MBOX_AUTH_FAIL
  | FW_UPDATED
  | FW_UPDATE_FAIL
  | PACE_LOW
  | PACE_GUARD_TRIP
  | AVS_LIMIT
  | AVS_LOCK
  | AVS_BUS_FAULT
  | PACE_MONITOR_FAULT
  | BRIDGE_OVERRUN
  | BRIDGE_UNDERRUN
  | LANE_SEGMENT_SWAP
  | LANE_SLICE_SWAP
  | LANE_DEGRADED
  | LANE_FAILED
  | TREE_LOS
  | MODULE_ABSENT
  | MODULE_UNMANAGED
  | MODULE_ALARM
  | MODULE_BUS_FAULT
  | BMEM_QUALIFIED
  | PRELOAD_LATE
  | SLEEP_LIGHT
  | DARK_CHANNEL_SN
  | PLOAM_QUEUE_FULL
  | KEY_SWITCHED
  | FRAME_MISALIGNED
  | REF_SWITCH
  | REF_LOSS
  | TOD_LOCK
  | TOD_STEP
  | PPS_LOSS
  | TOD_MSG_ERROR
  | TERM_SN_ACQUIRED
  | TERM_ACTIVATED
  | TERM_RANGE_FAIL
  | RANGE_OUT
  | SN_DISCOVERED
  | SN_DUPLICATE
  | EQD_UPDATED
  | DRIFT_TIW
  | TERM_LOB
  | TERM_DEACTIVATED
  | ROGUE_OPEN
  | ROGUE_SUSPECT
  | ROGUE_ISOLATED
  | ROGUE_UNRESOLVED
  | DELIM_CAND_OVERFLOW
  | PLOAMU_MIC_FAIL
  | GEM_UNKNOWN_PORT
  | REASM_FULL
  | US_SD
  | US_SF
  | DBA_OVERCOMMIT
  | DBA_LATENCY_MISS
  | DBA_LEDGER_CLAMP
  | DBA_PREANN_DROP
  | DBA_CUT
  | DBA_UNSERVED
  | GM_LATE
  | GM_EMPTY
  | GM_TRIM
  | RULESET_SWAPPED
  | RULESET_DRAINED
  | RECIRC_DROP
  | RECIRC_LIMIT
  | SPOOF_DROP
  | TABLE_EVICT
  | TABLE_FULL
  | MAC_FROZEN
  | LEARN_DROP
  | TABLE_PARITY
  | QUEUE_TAIL_DROP
  | GATE_NEVER_FITS
  | GATE_LIST_ACTIVE
  | QUEUE_DELAY_HIGH
  | POOL_WARN
  | POOL_FREEZE
  | POOL_CRITICAL
  | BUF_DOUBLE_FREE
  | BUF_FOREIGN_FREE
  | BUF_STALE_OP
  | GLACIER_FULL
  | DRAM_UE
  | DRAM_RETRAIN_FORCED
  | CIPHER_MISMATCH
  | CIPHER_NO_AGREE
  | CIPHER_OVERLOAD
  | RNG_RESEED_LATE
  | ENTROPY_FAIL
  | KEY_UNWRAP_FAIL
  | TERM_REKEY_FAIL
  | CT_AUTH_FAIL
  | UPLINK_LINK_DOWN
  | MACSEC_VERDICT_FAIL
  | MACSEC_PN_WARN
  | MACSEC_PN_EXHAUSTED
  | TETHER_LANE_LOF
  | TETHER_SKEW_FAIL
  | TETHER_AUTH_FAIL
  | TETHER_KEY_TIMEOUT
  | TETHER_SEQ_GAP
  | SMP_OVERRUN
  | MIRROR_NOT_READY
  | PAIR_TIMELINE_MISMATCH
  | PAIR_LOST
  | PROT_SWITCH
  | PROT_SWITCH_BLOCKED
  | PROT_HELD
  | PROT_TOKEN_CONFLICT
  | PROT_SELF_FENCE
  | DMA_DESC_ERR
  | DMA_BUS_ERR
  | DMA_QUEUE_DROP
  | HOST_FLR
  | ROLE_LOCKOUT
  | MAKER_EN_CHANGE
  | CRED_ENROLLED
  | CRED_CHANGED
  | AUDIT_PERSIST_FAIL
  | CAL_CLAMPED
  | CAL_OVERLAY_BAD
  | IMAGE_FALLBACK
  | UNIT_SUSPECT
  | UNIT_ICED
  | UNIT_REPAIRED
  | UNIT_CONDEMNED
  | UNIT_GHOST
  | UNIT_READMITTED
  | UNIT_SLOW
  | FAULT_ESCALATED
  | REGION_RESTART
  | REGION_ICED
  | CAPACITY_LOST
  | SPARES_LOW
  | SRAM_UE
  | SELF_TEST_FAIL
  | CONTROL_PAIR_SWITCHED
  | CONTROL_PAIR_FAULT
  | EVENT_LOSS
  | POWER_STATE_CHANGE
  | TEMP_ALARM
  deriving DecidableEq, Repr

/-- Kind codes of Table 20.3 (R509). -/
def EvKind.code : EvKind → Nat
  | .MBOX_AUTH_FAIL => 1
  | .FW_UPDATED => 2
  | .FW_UPDATE_FAIL => 3
  | .PACE_LOW => 4
  | .PACE_GUARD_TRIP => 5
  | .AVS_LIMIT => 6
  | .AVS_LOCK => 7
  | .AVS_BUS_FAULT => 8
  | .PACE_MONITOR_FAULT => 9
  | .BRIDGE_OVERRUN => 10
  | .BRIDGE_UNDERRUN => 11
  | .LANE_SEGMENT_SWAP => 12
  | .LANE_SLICE_SWAP => 13
  | .LANE_DEGRADED => 14
  | .LANE_FAILED => 15
  | .TREE_LOS => 16
  | .MODULE_ABSENT => 17
  | .MODULE_UNMANAGED => 18
  | .MODULE_ALARM => 19
  | .MODULE_BUS_FAULT => 20
  | .BMEM_QUALIFIED => 21
  | .PRELOAD_LATE => 22
  | .SLEEP_LIGHT => 23
  | .DARK_CHANNEL_SN => 24
  | .PLOAM_QUEUE_FULL => 25
  | .KEY_SWITCHED => 26
  | .FRAME_MISALIGNED => 27
  | .REF_SWITCH => 28
  | .REF_LOSS => 29
  | .TOD_LOCK => 30
  | .TOD_STEP => 31
  | .PPS_LOSS => 32
  | .TOD_MSG_ERROR => 33
  | .TERM_SN_ACQUIRED => 34
  | .TERM_ACTIVATED => 35
  | .TERM_RANGE_FAIL => 36
  | .RANGE_OUT => 37
  | .SN_DISCOVERED => 38
  | .SN_DUPLICATE => 39
  | .EQD_UPDATED => 40
  | .DRIFT_TIW => 41
  | .TERM_LOB => 42
  | .TERM_DEACTIVATED => 43
  | .ROGUE_OPEN => 44
  | .ROGUE_SUSPECT => 45
  | .ROGUE_ISOLATED => 46
  | .ROGUE_UNRESOLVED => 47
  | .DELIM_CAND_OVERFLOW => 48
  | .PLOAMU_MIC_FAIL => 49
  | .GEM_UNKNOWN_PORT => 50
  | .REASM_FULL => 51
  | .US_SD => 52
  | .US_SF => 53
  | .DBA_OVERCOMMIT => 54
  | .DBA_LATENCY_MISS => 55
  | .DBA_LEDGER_CLAMP => 56
  | .DBA_PREANN_DROP => 57
  | .DBA_CUT => 58
  | .DBA_UNSERVED => 59
  | .GM_LATE => 60
  | .GM_EMPTY => 61
  | .GM_TRIM => 62
  | .RULESET_SWAPPED => 63
  | .RULESET_DRAINED => 64
  | .RECIRC_DROP => 65
  | .RECIRC_LIMIT => 66
  | .SPOOF_DROP => 67
  | .TABLE_EVICT => 68
  | .TABLE_FULL => 69
  | .MAC_FROZEN => 70
  | .LEARN_DROP => 71
  | .TABLE_PARITY => 72
  | .QUEUE_TAIL_DROP => 73
  | .GATE_NEVER_FITS => 74
  | .GATE_LIST_ACTIVE => 75
  | .QUEUE_DELAY_HIGH => 76
  | .POOL_WARN => 77
  | .POOL_FREEZE => 78
  | .POOL_CRITICAL => 79
  | .BUF_DOUBLE_FREE => 80
  | .BUF_FOREIGN_FREE => 81
  | .BUF_STALE_OP => 82
  | .GLACIER_FULL => 83
  | .DRAM_UE => 84
  | .DRAM_RETRAIN_FORCED => 85
  | .CIPHER_MISMATCH => 86
  | .CIPHER_NO_AGREE => 87
  | .CIPHER_OVERLOAD => 88
  | .RNG_RESEED_LATE => 89
  | .ENTROPY_FAIL => 90
  | .KEY_UNWRAP_FAIL => 91
  | .TERM_REKEY_FAIL => 92
  | .CT_AUTH_FAIL => 93
  | .UPLINK_LINK_DOWN => 94
  | .MACSEC_VERDICT_FAIL => 95
  | .MACSEC_PN_WARN => 96
  | .MACSEC_PN_EXHAUSTED => 97
  | .TETHER_LANE_LOF => 98
  | .TETHER_SKEW_FAIL => 99
  | .TETHER_AUTH_FAIL => 100
  | .TETHER_KEY_TIMEOUT => 101
  | .TETHER_SEQ_GAP => 102
  | .SMP_OVERRUN => 103
  | .MIRROR_NOT_READY => 104
  | .PAIR_TIMELINE_MISMATCH => 105
  | .PAIR_LOST => 106
  | .PROT_SWITCH => 107
  | .PROT_SWITCH_BLOCKED => 108
  | .PROT_HELD => 109
  | .PROT_TOKEN_CONFLICT => 110
  | .PROT_SELF_FENCE => 111
  | .DMA_DESC_ERR => 112
  | .DMA_BUS_ERR => 113
  | .DMA_QUEUE_DROP => 114
  | .HOST_FLR => 115
  | .ROLE_LOCKOUT => 116
  | .MAKER_EN_CHANGE => 117
  | .CRED_ENROLLED => 118
  | .CRED_CHANGED => 119
  | .AUDIT_PERSIST_FAIL => 120
  | .CAL_CLAMPED => 121
  | .CAL_OVERLAY_BAD => 122
  | .IMAGE_FALLBACK => 123
  | .UNIT_SUSPECT => 124
  | .UNIT_ICED => 125
  | .UNIT_REPAIRED => 126
  | .UNIT_CONDEMNED => 127
  | .UNIT_GHOST => 128
  | .UNIT_READMITTED => 129
  | .UNIT_SLOW => 130
  | .FAULT_ESCALATED => 131
  | .REGION_RESTART => 132
  | .REGION_ICED => 133
  | .CAPACITY_LOST => 134
  | .SPARES_LOW => 135
  | .SRAM_UE => 136
  | .SELF_TEST_FAIL => 137
  | .CONTROL_PAIR_SWITCHED => 138
  | .CONTROL_PAIR_FAULT => 139
  | .EVENT_LOSS => 140
  | .POWER_STATE_CHANGE => 141
  | .TEMP_ALARM => 142

/-- The kind a code names. -/
def EvKind.ofCode : Nat → Option EvKind
  | 1 => some .MBOX_AUTH_FAIL
  | 2 => some .FW_UPDATED
  | 3 => some .FW_UPDATE_FAIL
  | 4 => some .PACE_LOW
  | 5 => some .PACE_GUARD_TRIP
  | 6 => some .AVS_LIMIT
  | 7 => some .AVS_LOCK
  | 8 => some .AVS_BUS_FAULT
  | 9 => some .PACE_MONITOR_FAULT
  | 10 => some .BRIDGE_OVERRUN
  | 11 => some .BRIDGE_UNDERRUN
  | 12 => some .LANE_SEGMENT_SWAP
  | 13 => some .LANE_SLICE_SWAP
  | 14 => some .LANE_DEGRADED
  | 15 => some .LANE_FAILED
  | 16 => some .TREE_LOS
  | 17 => some .MODULE_ABSENT
  | 18 => some .MODULE_UNMANAGED
  | 19 => some .MODULE_ALARM
  | 20 => some .MODULE_BUS_FAULT
  | 21 => some .BMEM_QUALIFIED
  | 22 => some .PRELOAD_LATE
  | 23 => some .SLEEP_LIGHT
  | 24 => some .DARK_CHANNEL_SN
  | 25 => some .PLOAM_QUEUE_FULL
  | 26 => some .KEY_SWITCHED
  | 27 => some .FRAME_MISALIGNED
  | 28 => some .REF_SWITCH
  | 29 => some .REF_LOSS
  | 30 => some .TOD_LOCK
  | 31 => some .TOD_STEP
  | 32 => some .PPS_LOSS
  | 33 => some .TOD_MSG_ERROR
  | 34 => some .TERM_SN_ACQUIRED
  | 35 => some .TERM_ACTIVATED
  | 36 => some .TERM_RANGE_FAIL
  | 37 => some .RANGE_OUT
  | 38 => some .SN_DISCOVERED
  | 39 => some .SN_DUPLICATE
  | 40 => some .EQD_UPDATED
  | 41 => some .DRIFT_TIW
  | 42 => some .TERM_LOB
  | 43 => some .TERM_DEACTIVATED
  | 44 => some .ROGUE_OPEN
  | 45 => some .ROGUE_SUSPECT
  | 46 => some .ROGUE_ISOLATED
  | 47 => some .ROGUE_UNRESOLVED
  | 48 => some .DELIM_CAND_OVERFLOW
  | 49 => some .PLOAMU_MIC_FAIL
  | 50 => some .GEM_UNKNOWN_PORT
  | 51 => some .REASM_FULL
  | 52 => some .US_SD
  | 53 => some .US_SF
  | 54 => some .DBA_OVERCOMMIT
  | 55 => some .DBA_LATENCY_MISS
  | 56 => some .DBA_LEDGER_CLAMP
  | 57 => some .DBA_PREANN_DROP
  | 58 => some .DBA_CUT
  | 59 => some .DBA_UNSERVED
  | 60 => some .GM_LATE
  | 61 => some .GM_EMPTY
  | 62 => some .GM_TRIM
  | 63 => some .RULESET_SWAPPED
  | 64 => some .RULESET_DRAINED
  | 65 => some .RECIRC_DROP
  | 66 => some .RECIRC_LIMIT
  | 67 => some .SPOOF_DROP
  | 68 => some .TABLE_EVICT
  | 69 => some .TABLE_FULL
  | 70 => some .MAC_FROZEN
  | 71 => some .LEARN_DROP
  | 72 => some .TABLE_PARITY
  | 73 => some .QUEUE_TAIL_DROP
  | 74 => some .GATE_NEVER_FITS
  | 75 => some .GATE_LIST_ACTIVE
  | 76 => some .QUEUE_DELAY_HIGH
  | 77 => some .POOL_WARN
  | 78 => some .POOL_FREEZE
  | 79 => some .POOL_CRITICAL
  | 80 => some .BUF_DOUBLE_FREE
  | 81 => some .BUF_FOREIGN_FREE
  | 82 => some .BUF_STALE_OP
  | 83 => some .GLACIER_FULL
  | 84 => some .DRAM_UE
  | 85 => some .DRAM_RETRAIN_FORCED
  | 86 => some .CIPHER_MISMATCH
  | 87 => some .CIPHER_NO_AGREE
  | 88 => some .CIPHER_OVERLOAD
  | 89 => some .RNG_RESEED_LATE
  | 90 => some .ENTROPY_FAIL
  | 91 => some .KEY_UNWRAP_FAIL
  | 92 => some .TERM_REKEY_FAIL
  | 93 => some .CT_AUTH_FAIL
  | 94 => some .UPLINK_LINK_DOWN
  | 95 => some .MACSEC_VERDICT_FAIL
  | 96 => some .MACSEC_PN_WARN
  | 97 => some .MACSEC_PN_EXHAUSTED
  | 98 => some .TETHER_LANE_LOF
  | 99 => some .TETHER_SKEW_FAIL
  | 100 => some .TETHER_AUTH_FAIL
  | 101 => some .TETHER_KEY_TIMEOUT
  | 102 => some .TETHER_SEQ_GAP
  | 103 => some .SMP_OVERRUN
  | 104 => some .MIRROR_NOT_READY
  | 105 => some .PAIR_TIMELINE_MISMATCH
  | 106 => some .PAIR_LOST
  | 107 => some .PROT_SWITCH
  | 108 => some .PROT_SWITCH_BLOCKED
  | 109 => some .PROT_HELD
  | 110 => some .PROT_TOKEN_CONFLICT
  | 111 => some .PROT_SELF_FENCE
  | 112 => some .DMA_DESC_ERR
  | 113 => some .DMA_BUS_ERR
  | 114 => some .DMA_QUEUE_DROP
  | 115 => some .HOST_FLR
  | 116 => some .ROLE_LOCKOUT
  | 117 => some .MAKER_EN_CHANGE
  | 118 => some .CRED_ENROLLED
  | 119 => some .CRED_CHANGED
  | 120 => some .AUDIT_PERSIST_FAIL
  | 121 => some .CAL_CLAMPED
  | 122 => some .CAL_OVERLAY_BAD
  | 123 => some .IMAGE_FALLBACK
  | 124 => some .UNIT_SUSPECT
  | 125 => some .UNIT_ICED
  | 126 => some .UNIT_REPAIRED
  | 127 => some .UNIT_CONDEMNED
  | 128 => some .UNIT_GHOST
  | 129 => some .UNIT_READMITTED
  | 130 => some .UNIT_SLOW
  | 131 => some .FAULT_ESCALATED
  | 132 => some .REGION_RESTART
  | 133 => some .REGION_ICED
  | 134 => some .CAPACITY_LOST
  | 135 => some .SPARES_LOW
  | 136 => some .SRAM_UE
  | 137 => some .SELF_TEST_FAIL
  | 138 => some .CONTROL_PAIR_SWITCHED
  | 139 => some .CONTROL_PAIR_FAULT
  | 140 => some .EVENT_LOSS
  | 141 => some .POWER_STATE_CHANGE
  | 142 => some .TEMP_ALARM
  | _ => none

/-- Severity: 0 Info, 1 Minor, 2 Major, 3 Critical (R510); a clear form has the severity of its own row (R508). -/
def EvKind.severity (k : EvKind) (clear : Bool) : Nat :=
  match k with
  | .MBOX_AUTH_FAIL => 1
  | .FW_UPDATED => 0
  | .FW_UPDATE_FAIL => 2
  | .PACE_LOW => 2
  | .PACE_GUARD_TRIP => 1
  | .AVS_LIMIT => 2
  | .AVS_LOCK => 0
  | .AVS_BUS_FAULT => 2
  | .PACE_MONITOR_FAULT => 1
  | .BRIDGE_OVERRUN => 2
  | .BRIDGE_UNDERRUN => 2
  | .LANE_SEGMENT_SWAP => 0
  | .LANE_SLICE_SWAP => 0
  | .LANE_DEGRADED => 2
  | .LANE_FAILED => 3
  | .TREE_LOS => if clear then 0 else 3
  | .MODULE_ABSENT => if clear then 0 else 2
  | .MODULE_UNMANAGED => 1
  | .MODULE_ALARM => 2
  | .MODULE_BUS_FAULT => 2
  | .BMEM_QUALIFIED => if clear then 1 else 0
  | .PRELOAD_LATE => 2
  | .SLEEP_LIGHT => 1
  | .DARK_CHANNEL_SN => 0
  | .PLOAM_QUEUE_FULL => 1
  | .KEY_SWITCHED => 0
  | .FRAME_MISALIGNED => 2
  | .REF_SWITCH => 2
  | .REF_LOSS => 3
  | .TOD_LOCK => 0
  | .TOD_STEP => 1
  | .PPS_LOSS => if clear then 0 else 2
  | .TOD_MSG_ERROR => 1
  | .TERM_SN_ACQUIRED => 0
  | .TERM_ACTIVATED => 0
  | .TERM_RANGE_FAIL => 2
  | .RANGE_OUT => 2
  | .SN_DISCOVERED => 0
  | .SN_DUPLICATE => 2
  | .EQD_UPDATED => 0
  | .DRIFT_TIW => 2
  | .TERM_LOB => if clear then 0 else 2
  | .TERM_DEACTIVATED => 1
  | .ROGUE_OPEN => 2
  | .ROGUE_SUSPECT => 2
  | .ROGUE_ISOLATED => 3
  | .ROGUE_UNRESOLVED => 2
  | .DELIM_CAND_OVERFLOW => 1
  | .PLOAMU_MIC_FAIL => 1
  | .GEM_UNKNOWN_PORT => 1
  | .REASM_FULL => 2
  | .US_SD => if clear then 0 else 2
  | .US_SF => if clear then 0 else 3
  | .DBA_OVERCOMMIT => 2
  | .DBA_LATENCY_MISS => 1
  | .DBA_LEDGER_CLAMP => 1
  | .DBA_PREANN_DROP => 1
  | .DBA_CUT => if clear then 0 else 1
  | .DBA_UNSERVED => 2
  | .GM_LATE => 2
  | .GM_EMPTY => 2
  | .GM_TRIM => 1
  | .RULESET_SWAPPED => 0
  | .RULESET_DRAINED => 0
  | .RECIRC_DROP => 1
  | .RECIRC_LIMIT => 1
  | .SPOOF_DROP => 1
  | .TABLE_EVICT => 1
  | .TABLE_FULL => 2
  | .MAC_FROZEN => if clear then 0 else 1
  | .LEARN_DROP => 1
  | .TABLE_PARITY => 1
  | .QUEUE_TAIL_DROP => 1
  | .GATE_NEVER_FITS => 1
  | .GATE_LIST_ACTIVE => 0
  | .QUEUE_DELAY_HIGH => 1
  | .POOL_WARN => if clear then 0 else 1
  | .POOL_FREEZE => if clear then 0 else 2
  | .POOL_CRITICAL => if clear then 0 else 3
  | .BUF_DOUBLE_FREE => 2
  | .BUF_FOREIGN_FREE => 2
  | .BUF_STALE_OP => 1
  | .GLACIER_FULL => 2
  | .DRAM_UE => 2
  | .DRAM_RETRAIN_FORCED => 1
  | .CIPHER_MISMATCH => 1
  | .CIPHER_NO_AGREE => 2
  | .CIPHER_OVERLOAD => 2
  | .RNG_RESEED_LATE => 2
  | .ENTROPY_FAIL => 3
  | .KEY_UNWRAP_FAIL => 1
  | .TERM_REKEY_FAIL => 1
  | .CT_AUTH_FAIL => 2
  | .UPLINK_LINK_DOWN => if clear then 0 else 2
  | .MACSEC_VERDICT_FAIL => 1
  | .MACSEC_PN_WARN => 1
  | .MACSEC_PN_EXHAUSTED => 2
  | .TETHER_LANE_LOF => 1
  | .TETHER_SKEW_FAIL => 2
  | .TETHER_AUTH_FAIL => 2
  | .TETHER_KEY_TIMEOUT => 1
  | .TETHER_SEQ_GAP => 1
  | .SMP_OVERRUN => 1
  | .MIRROR_NOT_READY => if clear then 0 else 2
  | .PAIR_TIMELINE_MISMATCH => 2
  | .PAIR_LOST => 3
  | .PROT_SWITCH => 2
  | .PROT_SWITCH_BLOCKED => 3
  | .PROT_HELD => 2
  | .PROT_TOKEN_CONFLICT => 3
  | .PROT_SELF_FENCE => 3
  | .DMA_DESC_ERR => 2
  | .DMA_BUS_ERR => 2
  | .DMA_QUEUE_DROP => 1
  | .HOST_FLR => 2
  | .ROLE_LOCKOUT => 2
  | .MAKER_EN_CHANGE => 0
  | .CRED_ENROLLED => 0
  | .CRED_CHANGED => 0
  | .AUDIT_PERSIST_FAIL => 2
  | .CAL_CLAMPED => 1
  | .CAL_OVERLAY_BAD => 2
  | .IMAGE_FALLBACK => 2
  | .UNIT_SUSPECT => 1
  | .UNIT_ICED => 2
  | .UNIT_REPAIRED => 0
  | .UNIT_CONDEMNED => 2
  | .UNIT_GHOST => 1
  | .UNIT_READMITTED => 0
  | .UNIT_SLOW => 1
  | .FAULT_ESCALATED => 2
  | .REGION_RESTART => 3
  | .REGION_ICED => 3
  | .CAPACITY_LOST => 2
  | .SPARES_LOW => 1
  | .SRAM_UE => 2
  | .SELF_TEST_FAIL => 2
  | .CONTROL_PAIR_SWITCHED => 2
  | .CONTROL_PAIR_FAULT => 3
  | .EVENT_LOSS => 2
  | .POWER_STATE_CHANGE => 0
  | .TEMP_ALARM => 2

/-- An event record (Table 20.4), with SEQ 0 until C.7 numbers it (R512). -/
structure EvRec where
  source : Nat
  kind : EvKind
  severity : Nat
  region : Nat
  clear : Bool
  seq : Nat
  time : Nat
  data : Nat
  deriving DecidableEq, Repr

/-- The four words of a record, word 0 first (Table 20.4). -/
def EvRec.words (r : EvRec) : List (BitVec 32) :=
  [BitVec.ofNat 32 (r.source * 2 ^ 21 + r.kind.code * 2 ^ 13 + r.severity * 2 ^ 11 + r.region * 2 ^ 7 + (if r.clear then 2 ^ 6 else 0)),
   BitVec.ofNat 32 (r.seq * 2 ^ 16 + r.time / 2 ^ 32 % 2 ^ 16),
   BitVec.ofNat 32 r.time,
   BitVec.ofNat 32 r.data]

/-- R511: the fields fill DATA from bit 31 down in the order named, each with its width, and the last takes the bits left and
saturates; `used` counts the bits already filled. -/
def evDataFrom (used : Nat) : List (Nat × Nat) → Nat → Nat
  | [], last => min last (2 ^ (32 - used) - 1)
  | (w, v) :: fs, last => (v % 2 ^ w) * 2 ^ (32 - used - w) + evDataFrom (used + w) fs last

/-- The data word of a record: the leading fields as (width, value), then the last field. -/
def evData (fs : List (Nat × Nat)) (last : Nat) : Nat := evDataFrom 0 fs last

/-- A signed last field of `w` bits, in two's complement and saturated (R511). -/
def evSigned (w : Nat) (v : Int) : Nat :=
  let c := max (-(2 ^ (w - 1) : Int)) (min v (2 ^ (w - 1) - 1))
  (BitVec.ofInt w c).toNat

end Sys2Proof
end

