-- ==== Sys2Proof/Config.lean ====
section
/-! DEFINITION. What one unit fixes at the factory and what the spec leaves open, as constants without a body: nothing in Lean can
evaluate one, so a statement about a value of one holds for every value. Log entry 5 (DESIGN CHOICE). -/
namespace Sys2Proof.Config

/-- FREE VALUE. The k-th value drawn from a source the spec leaves open (the entropy source C.6, a random victim): applied to the
counter `State.free`. -/
opaque freeNat : Nat → Nat

/-- AES-CMAC under a key of a message (NIST SP 800-38B); left uninterpreted. -/
opaque cmacCode : Nat → List Byte → BitVec 128

/-- Its 16 bytes, the most significant first. -/
def cmac (key : Nat) (message : List Byte) : List Byte :=
  (List.range 16).map fun i => (cmacCode key message).extractLsb' (8 * (15 - i)) 8

/-- SHA-384 (FIPS 180-4); left uninterpreted. -/
opaque sha384 : List Byte → Nat

/-- AES key wrap and unwrap of R345 (NIST SP 800-38F): wrapped form of a key under another, and what unwrapping answers, when the
integrity check passes. -/
opaque keyWrap : Nat → Nat → Nat
opaque keyUnwrap : Nat → Nat → Option Nat

/-- The body bytes of a command's response by command code, where the spec states no layout; only LENGTH and the MAC read them. -/
opaque encodeBody : Nat → List Int → List Byte

/-- Outputs of a generator as one number: its seed, the first output and how many follow (R333). -/
opaque genBits : Nat → Nat → Nat → Nat

/-- Fused presets of the calibration items (Table 18.3), by parameter key and instance; and the range of a preset code. -/
opaque fusedPreset : Nat → Nat → Int
opaque presetMin : Int
opaque presetMax : Int

/-- Fused factory value F, bound B of a calibration item's instance, and its absolute range (R469). -/
opaque calF : Nat → Nat → Int
opaque calB : Nat → Nat → Int
opaque calLo : Nat → Int
opaque calHi : Nat → Int
opaque calStep : Nat → Nat

/-- The voltage loop's first target in mV, from the fused voltage-pace table and the die temperature in 0.1 °C (R47). -/
opaque firstTarget : List Int → Int → Nat

/-- What an overlay entry of item 1 asks of a transmit tap, by parameter key, instance, mode (true: replacement) and value, and the fused bound
of that tap (R57, R469). -/
opaque tapAsked : Nat → Nat → Bool → Int → Int
opaque tapBound : Nat → Nat → Int

/-- Fused burst-receiver seeds by RSSI class × 5 + rate code (R62, item 4 of Table 18.3): CDR frequency offset, taps, equaliser code and threshold, in that order. -/
opaque seedOf : Nat → List Int

/-- What an overlay entry of item 4 asks of value `k` of a seed, by instance, `k`, mode (true: replacement) and value, and the fused bound of that value
(R469). -/
opaque seedAsked : Nat → Nat → Bool → Int → Int
opaque seedBound : Nat → Nat → Int

/-- The seed of a rate for a late preload (R76), and the discovery seed of a rate (R74), in the same order. -/
opaque lateSeed : Nat → List Int
opaque discoverySeed : Nat → List Int

/-- Unit serial number, 64 bits (Table 16.1); fused credentials of roles 2 and 3 (R457); device storage key (R350). -/
opaque serial : Nat
opaque makerCredential : Nat
opaque enrolSecret : Nat
opaque storageKey : Nat

/-- JEDEC manufacturer identity in IDCODE, 11 bits (R559), and Vendor ID (R404). -/
opaque jedecId : Nat
opaque vendorId : Nat

/-- The period of the free oscillator that device time runs from when every reference is lost (R96), in units of 2^-32 ns. -/
opaque freeOscPeriod : Nat

/-- What R136 adds to ρ for the part of an equalisation delay finer than the unit of Ranging_Time in a channel's standard, by rate and
EQD_BITS, in units of 1/64 UI. -/
opaque eqdFiner : Nat → Int → Int

/-- Steps of StartTime in position units, and of GrantSize in bytes, by channel number, less one (R210): the channel's standard fixes them. -/
opaque startStep : Nat → Nat
opaque sizeStep : Nat → Nat

/-- The KEK that a standard derives from a terminal's MSK, or its default KEK (R349), and a terminal's answer decrypted under it. -/
opaque termKek : Option Nat → Nat
opaque keyDecrypt : Nat → Nat → Nat

/-- Integrity code of a downstream OMCI message under the key that the standard derives from a terminal's MSK, or its default key: the first 4 bytes
are sent. -/
opaque omciCode : Option Nat → List Byte → List Byte

/-- Integrity code of a PLOAM message, given by its contents as numbers, under the PLOAM integrity key that the standard derives from a terminal's
MSK, or the default key (R100). -/
opaque ploamCode : Option Nat → List Nat → Nat

/-- PSync, operation control structure and scrambler preset of a superframe count on a channel's standard, by channel number (R97). -/
opaque psync : Nat → Nat
opaque opControl : Nat → Nat
opaque scramblerPreset : Nat → Nat → Nat

/-- Byte k of the keystream under a key from a counter block, given by the numbers it is formed of (R107, R330). -/
opaque keystream : Nat → List Nat → Nat → BitVec 8

/-- Byte of the upstream scrambler that a channel's standard sets at the start of each burst, by channel number and place in the burst (R158). -/
opaque usScrambler : Nat → Nat → BitVec 8

/-- Spare cells of a block at boot, as its fuses record (R495), by block instance. -/
opaque spareCells : Nat → Nat

/-- The 8 bytes of an allocation structure in a channel's standard, as a number, by channel number and its fields: Alloc-ID, DBRu, PLOAMu, StartTime as
a position, GrantSize in bytes, burst profile index (R204). -/
opaque allocStructure : Nat → List Nat → Nat

/-- Alloc-ID of a discovery grant, by channel number and rate: the channel's standard fixes it. -/
opaque discAllocId : Nat → Nat → Nat

end Sys2Proof.Config
end

