-- ==== Sys2Proof/Machine/Param.lean ====
section
/-! DEFINITION. The firmware parameters: one constructor per row of the parameter tables of spec/02 to spec/21
(Tables 2.5, 3.6, 4.6, 5.9, 6.3, 7.4, 8.6, 9.9, 10.7, 11.4, 12.9, 13.9, 14.4, 15.6, 16.9, 17.11, 18.6, 19.11, 20.7 and 21.7),
with the key, instance range, range and default of the row in the unit of R443. -/
namespace Sys2Proof

/-- The parameters of the parameter tables, under the names the tables give them (R442). -/
inductive Param where
  | PACE_BAND_LOW
  | PACE_BAND_HIGH
  | VDD_MIN
  | VDD_MAX
  | AVS_STEP_UP
  | AVS_STEP_DOWN
  | AVS_DOWN_HOLD
  | AVS_FF_LOAD
  | AVS_FF_STEP
  | PACE_GUARD
  | AVS_SETTLE
  | AVS_MODE
  | AVS_FIXED_V
  | AVS_BUS_PRIMARY
  | PACE_NOW
  | PACE_MIN_HOLD
  | CONTROL_PACE
  | VDD_TARGET
  | VDD_READ
  | CIPHER_LOAD
  | TX_SWING
  | TX_FFE_PRE
  | TX_FFE_POST
  | TX_POLARITY
  | RX_POLARITY
  | BRST_OFFSET
  | BRST_WIDTH
  | RSSI_LEAD
  | RSSI_WIDTH
  | RSSI_SETTLE
  | RSSI_LOC
  | RSSI_PERIOD
  | LOS_SOURCE
  | LOS_WINDOW
  | LOS_POLARITY
  | MMS_SPEED
  | MMS_SEL_SETUP
  | MMS_POLL
  | SLEEP_UP_EN
  | SLEEP_MIN_GAP
  | DARK_LEAD
  | BMEM_QUAL_RUN
  | BMEM_DEMOTE_WINDOW
  | BMEM_CLEAN_PHASE
  | LANE_SPARE_STATE
  | LANE_ASLEEP_TIME
  | FRAG_MAX
  | FRAG_OPEN_MAX
  | DS_PLOAM_MAX
  | KEY_SWITCH_LEAD
  | TOD_BAUD
  | TOD_PPS_POLARITY
  | TOD_PPS_WINDOW
  | TOD_PPS_DELAY
  | TOD_STEP_LIMIT
  | TOD_SLEW_MAX
  | TOD_TX_DELAY
  | TOD_STAMP_INTERVAL
  | DEVICE_TIME
  | TOD_STATE
  | TOD_PHASE_ERR
  | TOD_UTC_OFFSET
  | FRAME_ALIGN_ERR
  | SFC_NOW
  | TOD_STAMP
  | EXPRESS_WAIT_MAX
  | PLOAM_QUEUE_FILL
  | DISC_PERIOD
  | DISC_MIN_KM
  | DISC_MAX_KM
  | DISC_RATES
  | ACT_MODE
  | RANGE_TEQD
  | RANGE_DIFF_KM
  | RANGE_ATTEMPTS
  | RANGE_RETRY
  | RANGE_PARALLEL
  | ONU_ID_HOLD
  | PROFILE_BCAST_PERIOD
  | PROFILE_MODE
  | DRIFT_LIMIT
  | DRIFT_CONFIRM
  | DRIFT_TIW
  | DRIFT_SETTLE
  | LOB_COUNT
  | LOB_DEACT_TIME
  | ROGUE_MODE
  | ROGUE_OBS_OPEN
  | ROGUE_OBS_WINDOW
  | ROGUE_QUIET_LEN
  | ROGUE_PROBES
  | ROGUE_AUTO_DISABLE
  | ROGUE_HOLDOFF
  | DISC_COLLISIONS
  | TERM_STATE_COUNT
  | ROGUE_PHASE
  | HUNT_ERR_MAX
  | BER_SD_EXP
  | BER_SF_EXP
  | BER_WIN_FACTOR
  | BER_WIN_MAX
  | BER_CLEAR_RATIO
  | REASM_TIMEOUT
  | REASM_MAX_SDU
  | US_FEC_CORR_BITS
  | US_FEC_UNCORR
  | US_BER_EST
  | US_DEFECT_STATE
  | US_BIP_ERR
  | US_DELIM_STATS
  | HEADER_ONU_MISMATCH
  | US_REPORT_DISCARDS
  | US_GEM_DISCARDS
  | REASM_GRANULES_FREE
  | DBA_ADMIT_PCT
  | DBA_POLL_INTERVAL
  | DBA_MIN_GRANT
  | DBA_SPLIT_EN
  | DBA_LOOP_FLOOR
  | DBA_LEDGER
  | DBA_DEMAND
  | DBA_GRANTED
  | DBA_LATENCY_MISSES
  | DBA_FIXED_LOST
  | DBA_STALE_REPORTS
  | DBA_CAPACITY
  | DBA_CUT_STATE
  | GM_RATE_GAP
  | GM_DISC_ALIGN
  | GM_STRUCTS_USED
  | GM_TRIMMED_BYTES
  | GM_SWITCHES
  | GM_MISSED
  | GM_BUILD_TIME
  | PARSE_DEPTH_BYTES
  | PARSE_DEPTH_HDRS
  | MALFORMED_ACTION
  | DEPTH_ACTION
  | CLASS_MISS_ACTION
  | US_MISS_ACTION
  | DS_MISS_ACTION
  | VXLAN_PORT
  | GTPU_PORT
  | MPLS_ETH_PW
  | TPID_EXTRA
  | SWAP_WAIT_MAX
  | ANTISPOOF_MODE
  | ANTISPOOF_MAC_LIMIT
  | SPOOF_PUNT
  | MALFORMED_COUNT
  | DEPTH_EXCEEDED_COUNT
  | RULESET_STATE
  | RECIRC_STATS
  | SPOOF_DROPS
  | PARSE_LANES
  | TABLE_HASH_SEED
  | EVICT_POLICY
  | AGING_PERIOD
  | LEARN_EN
  | LEARN_FID
  | LEARN_HOLD
  | MOVE_LIMIT
  | MOVE_WINDOW
  | FREEZE_TIME
  | MOVE_FREEZE_EN
  | BRIDGE_MISS_ACTION
  | US_FLOW_PROFILE
  | BIND_PROFILE_V4
  | BIND_PROFILE_V6
  | TABLE_FILL
  | TABLE_EVICTIONS
  | TABLE_INSERT_FAILS
  | AGED_OUT
  | LEARN_DROPS
  | MOVES_REFUSED
  | PARITY_REPAIRS
  | FLOW_KIND_ERR
  | EXPRESS_EN
  | MCAST_QUANTUM
  | SHAPE_ADJ
  | GATE_GUARD_MODE
  | GATE_GUARD_NS
  | HIST_DEPTH_BASE
  | HIST_DELAY_BASE
  | GATE_STATE
  | NEVER_FITS_COUNT
  | GATE_HOLDS
  | LEVEL_OVERRIDE_MISS
  | QUEUE_DROP_SUM
  | SCHED_QUEUES_BOUND
  | POOL_BUF_SIZE
  | POOL_SIZE
  | POOL_WARN
  | POOL_FREEZE
  | POOL_THAW
  | POOL_CRITICAL
  | POOL_FEED_MASK
  | POOL_PAUSE_MACS
  | POOL_PAUSE_CLASSES
  | QUEUE_DEEP
  | GLACIER_HEAD
  | GLACIER_EIGHTHS
  | POOL_IN_USE
  | POOL_FLAGS
  | POOL_EMPTY_DROPS
  | BUF_FREE_FAULTS
  | CT_OVERRUNS
  | GLACIER_USE
  | GLACIER_DROPS
  | POOL_OVERSIZE
  | DRAM_TARGET
  | DRAM_RETRAIN_PERIOD
  | DRAM_PORT_LATE
  | DRAM_ECC_CE
  | MACSEC_SPEC_BLOCKS
  | KEY_REKEY_PERIOD
  | KEY_EXCH_TIMEOUT
  | CELL_ODD_LIMIT
  | ENTROPY_MODE
  | CIPHER_PAIRS
  | TAPE_UNITS
  | CIPHER_MISMATCH
  | CIPHER_LATE_DROPS
  | KEY_MISSING_DROPS
  | MACSEC_SPEC_HITS
  | CT_AUTH_FAIL
  | DS_REKEY_IDLE
  | UPLINK_BREAKOUT
  | UPLINK_MEDIA
  | UPLINK_AN_EN
  | UPLINK_ENABLE
  | UPLINK_UP_HOLD
  | UPLINK_MTU
  | UPLINK_FC_MODE
  | UPLINK_PFC_QUANTA
  | UPLINK_PFC_REFRESH_PCT
  | UPLINK_TX_PRESET
  | MACSEC_EN
  | MACSEC_VALIDATE
  | MACSEC_REPLAY_WINDOW
  | MACSEC_CONF_OFFSET
  | MACSEC_PN_WARN
  | UPLINK_LINK_STATE
  | UPLINK_PAUSE_STATE
  | TETHER_GROUPING
  | TETHER_MIRROR_SLOTS
  | TETHER_LEARN_SLOTS
  | TETHER_SLEEP_EN
  | TETHER_IDLE_TIME
  | TETHER_Q_LIMIT
  | TETHER_TX_PRESET
  | PROT_AUTO_SWITCH
  | PROT_HOME
  | PROT_FEEDER_DELTA
  | PROT_DEAD_TIME
  | PROT_AUTO_DEAD
  | PROT_POPUP_PER_FRAME
  | PROT_TX_WAKE
  | PAIR_ALIGN_MAX
  | TETHER_LANE_STATE
  | PROT_TOKEN_MASK
  | MIRROR_READY_MASK
  | TETHER_AUTH_FAILS
  | TETHER_Q_DROPS
  | DMA_QUEUE_LIMIT
  | DMA_QUEUE_DROPS
  | PCIE_ERR_COUNT
  | MBOX_STATS
  | MBOX_AUTH_FAILS
  | FW_STATE
  | SESSION_IDLE
  | AUTH_FAIL_LIMIT
  | AUTH_LOCKOUT
  | SESSION_STATE
  | AUDIT_HEAD
  | CAL_OVERLAY_VERSION
  | SECURITY_MIN
  | ENROLLED
  | SCRUB_PERIOD
  | SUSPECT_CE_LIMIT
  | STALL_LIMIT
  | SLOW_RATIO
  | SLOW_TIME
  | MAINT_START
  | MAINT_LEN
  | SUSPECT_SWAP
  | READMIT_DAYS
  | UNIT_COUNTS
  | SPARE_CELLS
  | GHOST_COUNT
  | HANDLER_STATE
  | SRAM_CE_COUNT
  | EVENT_BATCH
  | EVENT_BATCH_TIME
  | EVENT_SOURCE_BURST
  | EVENT_IRQ_HOLDOFF
  | TELEMETRY_PERIOD
  | TELEMETRY_FLUSH
  | EVENT_MASKED
  | EVENT_SHED
  | EVENT_STORE_FILL
  | EVENT_LOST
  | TELEMETRY_HEAD
  | TELEMETRY_DROPS
  | DARK_AUTO
  | DARK_IDLE_TIME
  | DRAM_SR_IDLE
  | TEMP_ALARM_C
  | TEMP_TRIP_C
  | POWER_STATE
  | DARK_MASK
  | TEMP_NOW
  | CORE_POWER
  | BOOT_STAGE_TIME
  deriving DecidableEq, Repr

/-- What a parameter's table row states (R442, R443, R448): key, lowest and highest instance, range, step, roles that may write it
(bit 0 operator, bit 1 installer, bit 2 maker), TYPE and EFFECT of Table 17.7, and whether it is cleared by every read ("since
last read", R445) or kept in the boot flash (R447). -/
structure ParamInfo where
  key : Nat
  ilo : Nat
  ihi : Nat
  lo : Int
  hi : Int
  step : Nat
  roles : Nat
  type : Nat
  effect : Nat
  sinceRead : Bool
  nextBoot : Bool
  deriving DecidableEq, Repr

/-- The table row of each parameter. -/
def Param.info : Param → ParamInfo
  | .PACE_BAND_LOW => ⟨0x020001, 0, 0, 260, 290, 1, 2, 0, 1, false, false⟩
  | .PACE_BAND_HIGH => ⟨0x020002, 0, 0, 275, 320, 1, 2, 0, 1, false, false⟩
  | .VDD_MIN => ⟨0x020003, 0, 0, 680, 750, 1, 2, 0, 1, false, false⟩
  | .VDD_MAX => ⟨0x020004, 0, 0, 750, 800, 1, 2, 0, 1, false, false⟩
  | .AVS_STEP_UP => ⟨0x020005, 0, 0, 2, 20, 1, 2, 0, 1, false, false⟩
  | .AVS_STEP_DOWN => ⟨0x020006, 0, 0, 1, 10, 1, 2, 0, 1, false, false⟩
  | .AVS_DOWN_HOLD => ⟨0x020007, 0, 0, 1, 64, 1, 2, 0, 1, false, false⟩
  | .AVS_FF_LOAD => ⟨0x020008, 0, 0, 10, 50, 1, 2, 0, 1, false, false⟩
  | .AVS_FF_STEP => ⟨0x020009, 0, 0, 5, 30, 1, 2, 0, 1, false, false⟩
  | .PACE_GUARD => ⟨0x02000A, 0, 0, 250, 270, 1, 2, 0, 1, false, false⟩
  | .AVS_SETTLE => ⟨0x02000B, 0, 0, 2, 50, 1, 2, 0, 1, false, false⟩
  | .AVS_MODE => ⟨0x02000C, 0, 0, 0, 1, 1, 6, 2, 0, false, false⟩
  | .AVS_FIXED_V => ⟨0x02000D, 0, 0, 680, 800, 1, 6, 0, 0, false, false⟩
  | .AVS_BUS_PRIMARY => ⟨0x02000E, 0, 0, 0, 1, 1, 2, 2, 1, false, false⟩
  | .PACE_NOW => ⟨0x020100, 0, 3327, 0, 0, 1, 0, 5, 1, false, false⟩
  | .PACE_MIN_HOLD => ⟨0x020101, 0, 3327, 0, 0, 1, 0, 4, 1, true, false⟩
  | .CONTROL_PACE => ⟨0x020102, 0, 0, 0, 0, 1, 0, 5, 1, false, false⟩
  | .VDD_TARGET => ⟨0x020103, 0, 0, 0, 0, 1, 0, 5, 1, false, false⟩
  | .VDD_READ => ⟨0x020104, 0, 0, 0, 0, 1, 0, 5, 1, false, false⟩
  | .CIPHER_LOAD => ⟨0x020105, 0, 12, 0, 0, 1, 0, 5, 1, false, false⟩
  | .TX_SWING => ⟨0x030001, 0, 63, 400, 1000, 25, 2, 0, 1, false, false⟩
  | .TX_FFE_PRE => ⟨0x030002, 0, 63, 0, 15, 1, 2, 0, 1, false, false⟩
  | .TX_FFE_POST => ⟨0x030003, 0, 63, 0, 15, 1, 2, 0, 1, false, false⟩
  | .TX_POLARITY => ⟨0x030004, 0, 63, 0, 1, 1, 2, 2, 3, false, false⟩
  | .RX_POLARITY => ⟨0x030005, 0, 63, 0, 1, 1, 2, 2, 3, false, false⟩
  | .BRST_OFFSET => ⟨0x030010, 0, 31, 0, 80, 1, 2, 0, 1, false, false⟩
  | .BRST_WIDTH => ⟨0x030011, 0, 31, 20, 120, 1, 2, 0, 1, false, false⟩
  | .RSSI_LEAD => ⟨0x030012, 0, 31, 20, 1000, 1, 2, 0, 1, false, false⟩
  | .RSSI_WIDTH => ⟨0x030013, 0, 31, 50, 2000, 1, 2, 0, 1, false, false⟩
  | .RSSI_SETTLE => ⟨0x030014, 0, 31, 1, 100, 1, 2, 0, 1, false, false⟩
  | .RSSI_LOC => ⟨0x030015, 0, 63, 0, 65535, 1, 2, 0, 1, false, false⟩
  | .RSSI_PERIOD => ⟨0x030016, 0, 31, 5, 3600, 1, 1, 0, 1, false, false⟩
  | .LOS_SOURCE => ⟨0x030020, 0, 31, 0, 3, 1, 2, 2, 1, false, false⟩
  | .LOS_WINDOW => ⟨0x030021, 0, 31, 125, 10000, 125, 2, 0, 1, false, false⟩
  | .LOS_POLARITY => ⟨0x030022, 0, 31, 0, 1, 1, 2, 2, 0, false, false⟩
  | .MMS_SPEED => ⟨0x030030, 0, 3, 100, 400, 1, 2, 2, 1, false, false⟩
  | .MMS_SEL_SETUP => ⟨0x030031, 0, 3, 10, 2000, 1, 2, 0, 1, false, false⟩
  | .MMS_POLL => ⟨0x030032, 0, 31, 10, 1000, 1, 2, 0, 1, false, false⟩
  | .SLEEP_UP_EN => ⟨0x030040, 0, 63, 0, 1, 1, 1, 2, 1, false, false⟩
  | .SLEEP_MIN_GAP => ⟨0x030041, 0, 63, 96, 100000, 1, 1, 0, 1, false, false⟩
  | .DARK_LEAD => ⟨0x030042, 0, 63, 2, 64, 1, 1, 0, 1, false, false⟩
  | .BMEM_QUAL_RUN => ⟨0x030050, 0, 31, 16, 127, 1, 2, 0, 1, false, false⟩
  | .BMEM_DEMOTE_WINDOW => ⟨0x030051, 0, 31, 100, 1000, 1, 2, 0, 1, false, false⟩
  | .BMEM_CLEAN_PHASE => ⟨0x030052, 0, 31, 4, 32, 1, 2, 0, 1, false, false⟩
  | .LANE_SPARE_STATE => ⟨0x030100, 0, 127, 0, 0, 1, 0, 5, 1, false, false⟩
  | .LANE_ASLEEP_TIME => ⟨0x030101, 0, 127, 0, 0, 1, 0, 4, 1, true, false⟩
  | .FRAG_MAX => ⟨0x040001, 0, 63, 128, 4096, 1, 1, 0, 1, false, false⟩
  | .FRAG_OPEN_MAX => ⟨0x040002, 0, 63, 1, 64, 1, 1, 0, 1, false, false⟩
  | .DS_PLOAM_MAX => ⟨0x040003, 0, 63, 1, 8, 1, 2, 0, 1, false, false⟩
  | .KEY_SWITCH_LEAD => ⟨0x040004, 0, 63, 8, 1024, 1, 1, 0, 1, false, false⟩
  | .TOD_BAUD => ⟨0x040010, 0, 0, 9600, 921600, 1, 2, 0, 1, false, false⟩
  | .TOD_PPS_POLARITY => ⟨0x040011, 0, 0, 0, 1, 1, 2, 2, 1, false, false⟩
  | .TOD_PPS_WINDOW => ⟨0x040012, 0, 0, 100, 100000, 1, 2, 0, 1, false, false⟩
  | .TOD_PPS_DELAY => ⟨0x040013, 0, 0, 0, 10000, 1, 2, 0, 1, false, false⟩
  | .TOD_STEP_LIMIT => ⟨0x040014, 0, 0, 100, 1000000, 1, 2, 0, 1, false, false⟩
  | .TOD_SLEW_MAX => ⟨0x040015, 0, 0, 1, 100, 1, 2, 0, 1, false, false⟩
  | .TOD_TX_DELAY => ⟨0x040016, 0, 63, 0, 1000, 1, 2, 0, 1, false, false⟩
  | .TOD_STAMP_INTERVAL => ⟨0x040017, 0, 0, 8, 65536, 1, 1, 0, 1, false, false⟩
  | .DEVICE_TIME => ⟨0x040100, 0, 0, 0, 0, 1, 0, 5, 1, false, false⟩
  | .TOD_STATE => ⟨0x040101, 0, 0, 0, 0, 1, 0, 5, 1, false, false⟩
  | .TOD_PHASE_ERR => ⟨0x040102, 0, 0, 0, 0, 1, 0, 5, 1, false, false⟩
  | .TOD_UTC_OFFSET => ⟨0x040103, 0, 0, 0, 0, 1, 0, 5, 1, false, false⟩
  | .FRAME_ALIGN_ERR => ⟨0x040104, 0, 0, 0, 0, 1, 0, 5, 1, false, false⟩
  | .SFC_NOW => ⟨0x040105, 0, 0, 0, 0, 1, 0, 5, 1, false, false⟩
  | .TOD_STAMP => ⟨0x040106, 0, 63, 0, 0, 1, 0, 5, 1, false, false⟩
  | .EXPRESS_WAIT_MAX => ⟨0x040107, 0, 63, 0, 0, 1, 0, 4, 1, true, false⟩
  | .PLOAM_QUEUE_FILL => ⟨0x040108, 0, 63, 0, 0, 1, 0, 5, 1, false, false⟩
  | .DISC_PERIOD => ⟨0x050001, 0, 31, 10, 10000, 1, 1, 0, 1, false, false⟩
  | .DISC_MIN_KM => ⟨0x050002, 0, 63, 0, 59, 1, 2, 0, 1, false, false⟩
  | .DISC_MAX_KM => ⟨0x050003, 0, 63, 1, 60, 1, 2, 0, 1, false, false⟩
  | .DISC_RATES => ⟨0x050004, 0, 63, 0, 31, 1, 1, 3, 1, false, false⟩
  | .ACT_MODE => ⟨0x050005, 0, 63, 0, 1, 1, 1, 2, 1, false, false⟩
  | .RANGE_TEQD => ⟨0x050010, 0, 63, 200, 1000, 1, 2, 0, 3, false, false⟩
  | .RANGE_DIFF_KM => ⟨0x050011, 0, 63, 10, 60, 1, 2, 0, 1, false, false⟩
  | .RANGE_ATTEMPTS => ⟨0x050012, 0, 63, 1, 8, 1, 2, 0, 1, false, false⟩
  | .RANGE_RETRY => ⟨0x050013, 0, 63, 1, 64, 1, 2, 0, 1, false, false⟩
  | .RANGE_PARALLEL => ⟨0x050014, 0, 63, 1, 32, 1, 2, 0, 1, false, false⟩
  | .ONU_ID_HOLD => ⟨0x050015, 0, 63, 4, 1024, 1, 2, 0, 1, false, false⟩
  | .PROFILE_BCAST_PERIOD => ⟨0x050016, 0, 63, 1, 80, 1, 2, 0, 1, false, false⟩
  | .PROFILE_MODE => ⟨0x050017, 0, 63, 0, 1, 1, 1, 2, 1, false, false⟩
  | .DRIFT_LIMIT => ⟨0x050020, 0, 63, 64, 512, 1, 2, 0, 1, false, false⟩
  | .DRIFT_CONFIRM => ⟨0x050021, 0, 63, 1, 16, 1, 2, 0, 1, false, false⟩
  | .DRIFT_TIW => ⟨0x050022, 0, 63, 10, 80, 1, 2, 0, 1, false, false⟩
  | .DRIFT_SETTLE => ⟨0x050023, 0, 63, 4, 64, 1, 2, 0, 1, false, false⟩
  | .LOB_COUNT => ⟨0x050030, 0, 63, 2, 16, 1, 2, 0, 1, false, false⟩
  | .LOB_DEACT_TIME => ⟨0x050031, 0, 63, 10, 60000, 1, 1, 0, 1, false, false⟩
  | .ROGUE_MODE => ⟨0x050040, 0, 63, 0, 2, 1, 1, 2, 1, false, false⟩
  | .ROGUE_OBS_OPEN => ⟨0x050041, 0, 63, 1, 64, 1, 1, 0, 1, false, false⟩
  | .ROGUE_OBS_WINDOW => ⟨0x050042, 0, 63, 10, 10000, 1, 1, 0, 1, false, false⟩
  | .ROGUE_QUIET_LEN => ⟨0x050043, 0, 63, 2, 100, 1, 2, 0, 1, false, false⟩
  | .ROGUE_PROBES => ⟨0x050044, 0, 63, 2, 16, 1, 2, 0, 1, false, false⟩
  | .ROGUE_AUTO_DISABLE => ⟨0x050045, 0, 63, 0, 1, 1, 1, 2, 1, false, false⟩
  | .ROGUE_HOLDOFF => ⟨0x050046, 0, 63, 1, 3600, 1, 1, 0, 1, false, false⟩
  | .DISC_COLLISIONS => ⟨0x050100, 0, 63, 0, 0, 1, 0, 4, 1, true, false⟩
  | .TERM_STATE_COUNT => ⟨0x050101, 0, 63, 0, 0, 1, 0, 5, 1, false, false⟩
  | .ROGUE_PHASE => ⟨0x050102, 0, 63, 0, 0, 1, 0, 5, 1, false, false⟩
  | .HUNT_ERR_MAX => ⟨0x060001, 0, 63, 0, 8, 1, 2, 0, 1, false, false⟩
  | .BER_SD_EXP => ⟨0x060010, 0, 63, 3, 9, 1, 1, 0, 1, false, false⟩
  | .BER_SF_EXP => ⟨0x060011, 0, 63, 3, 9, 1, 1, 0, 1, false, false⟩
  | .BER_WIN_FACTOR => ⟨0x060012, 0, 63, 1, 100, 1, 1, 0, 1, false, false⟩
  | .BER_WIN_MAX => ⟨0x060013, 0, 63, 10, 60000, 1, 1, 0, 1, false, false⟩
  | .BER_CLEAR_RATIO => ⟨0x060014, 0, 63, 1, 100, 1, 1, 0, 1, false, false⟩
  | .REASM_TIMEOUT => ⟨0x060020, 0, 63, 250, 100000, 125, 1, 0, 1, false, false⟩
  | .REASM_MAX_SDU => ⟨0x060021, 0, 63, 64, 10240, 1, 1, 0, 1, false, false⟩
  | .US_FEC_CORR_BITS => ⟨0x060100, 0, 8191, 0, 0, 1, 0, 4, 1, true, false⟩
  | .US_FEC_UNCORR => ⟨0x060101, 0, 8191, 0, 0, 1, 0, 4, 1, true, false⟩
  | .US_BER_EST => ⟨0x060102, 0, 8191, 0, 0, 1, 0, 5, 1, false, false⟩
  | .US_DEFECT_STATE => ⟨0x060103, 0, 8191, 0, 0, 1, 0, 5, 1, false, false⟩
  | .US_BIP_ERR => ⟨0x060104, 0, 8191, 0, 0, 1, 0, 4, 1, true, false⟩
  | .US_DELIM_STATS => ⟨0x060105, 0, 63, 0, 0, 1, 0, 4, 1, true, false⟩
  | .HEADER_ONU_MISMATCH => ⟨0x060106, 0, 63, 0, 0, 1, 0, 4, 1, true, false⟩
  | .US_REPORT_DISCARDS => ⟨0x060107, 0, 63, 0, 0, 1, 0, 5, 1, false, false⟩
  | .US_GEM_DISCARDS => ⟨0x060108, 0, 63, 0, 0, 1, 0, 5, 1, false, false⟩
  | .REASM_GRANULES_FREE => ⟨0x060109, 0, 7, 0, 0, 1, 0, 5, 1, false, false⟩
  | .DBA_ADMIT_PCT => ⟨0x070001, 0, 63, 50, 95, 1, 2, 0, 1, false, false⟩
  | .DBA_POLL_INTERVAL => ⟨0x070002, 0, 63, 1, 800, 1, 1, 0, 1, false, false⟩
  | .DBA_MIN_GRANT => ⟨0x070003, 0, 63, 4, 2048, 4, 1, 0, 1, false, false⟩
  | .DBA_SPLIT_EN => ⟨0x070004, 0, 63, 0, 1, 1, 1, 2, 1, false, false⟩
  | .DBA_LOOP_FLOOR => ⟨0x070100, 0, 63, 0, 0, 1, 0, 5, 1, false, false⟩
  | .DBA_LEDGER => ⟨0x070101, 0, 32767, 0, 0, 1, 0, 5, 1, false, false⟩
  | .DBA_DEMAND => ⟨0x070102, 0, 32767, 0, 0, 1, 0, 5, 1, false, false⟩
  | .DBA_GRANTED => ⟨0x070103, 0, 32767, 0, 0, 1, 0, 4, 1, true, false⟩
  | .DBA_LATENCY_MISSES => ⟨0x070104, 0, 32767, 0, 0, 1, 0, 4, 1, true, false⟩
  | .DBA_FIXED_LOST => ⟨0x070105, 0, 32767, 0, 0, 1, 0, 4, 1, true, false⟩
  | .DBA_STALE_REPORTS => ⟨0x070106, 0, 63, 0, 0, 1, 0, 4, 1, true, false⟩
  | .DBA_CAPACITY => ⟨0x070107, 0, 63, 0, 0, 1, 0, 5, 1, false, false⟩
  | .DBA_CUT_STATE => ⟨0x070108, 0, 0, 0, 0, 1, 0, 5, 1, false, false⟩
  | .GM_RATE_GAP => ⟨0x070040, 0, 63, 16, 128, 8, 2, 0, 1, false, false⟩
  | .GM_DISC_ALIGN => ⟨0x070041, 0, 63, 0, 1, 1, 1, 2, 1, false, false⟩
  | .GM_STRUCTS_USED => ⟨0x070140, 0, 63, 0, 0, 1, 0, 5, 1, false, false⟩
  | .GM_TRIMMED_BYTES => ⟨0x070141, 0, 63, 0, 0, 1, 0, 4, 1, true, false⟩
  | .GM_SWITCHES => ⟨0x070142, 0, 63, 0, 0, 1, 0, 5, 1, false, false⟩
  | .GM_MISSED => ⟨0x070143, 0, 63, 0, 0, 1, 0, 4, 1, true, false⟩
  | .GM_BUILD_TIME => ⟨0x070144, 0, 63, 0, 0, 1, 0, 4, 1, true, false⟩
  | .PARSE_DEPTH_BYTES => ⟨0x080001, 0, 95, 64, 256, 1, 1, 0, 1, false, false⟩
  | .PARSE_DEPTH_HDRS => ⟨0x080002, 0, 95, 4, 24, 1, 1, 0, 1, false, false⟩
  | .MALFORMED_ACTION => ⟨0x080003, 0, 95, 0, 2, 1, 1, 2, 1, false, false⟩
  | .DEPTH_ACTION => ⟨0x080004, 0, 95, 0, 2, 1, 1, 2, 1, false, false⟩
  | .CLASS_MISS_ACTION => ⟨0x080005, 0, 31, 0, 2, 1, 1, 2, 1, false, false⟩
  | .US_MISS_ACTION => ⟨0x080006, 0, 63, 0, 1, 1, 1, 2, 1, false, false⟩
  | .DS_MISS_ACTION => ⟨0x080007, 0, 31, 0, 1, 1, 1, 2, 1, false, false⟩
  | .VXLAN_PORT => ⟨0x080010, 0, 0, 1, 65535, 1, 1, 0, 1, false, false⟩
  | .GTPU_PORT => ⟨0x080011, 0, 0, 1, 65535, 1, 1, 0, 1, false, false⟩
  | .MPLS_ETH_PW => ⟨0x080012, 0, 0, 0, 1, 1, 1, 2, 1, false, false⟩
  | .TPID_EXTRA => ⟨0x080013, 0, 0, 1536, 65535, 1, 1, 0, 1, false, false⟩
  | .SWAP_WAIT_MAX => ⟨0x080020, 0, 0, 1, 1000, 1, 1, 0, 1, false, false⟩
  | .ANTISPOOF_MODE => ⟨0x080030, 0, 131071, 0, 15, 1, 1, 3, 1, false, false⟩
  | .ANTISPOOF_MAC_LIMIT => ⟨0x080031, 0, 131071, 1, 255, 1, 1, 0, 1, false, false⟩
  | .SPOOF_PUNT => ⟨0x080032, 0, 63, 0, 1, 1, 1, 2, 1, false, false⟩
  | .MALFORMED_COUNT => ⟨0x080100, 0, 95, 0, 0, 1, 0, 4, 1, true, false⟩
  | .DEPTH_EXCEEDED_COUNT => ⟨0x080101, 0, 95, 0, 0, 1, 0, 4, 1, true, false⟩
  | .RULESET_STATE => ⟨0x080102, 0, 0, 0, 0, 1, 0, 5, 1, false, false⟩
  | .RECIRC_STATS => ⟨0x080103, 0, 1, 0, 0, 1, 0, 4, 1, true, false⟩
  | .SPOOF_DROPS => ⟨0x080104, 0, 63, 0, 0, 1, 0, 4, 1, true, false⟩
  | .PARSE_LANES => ⟨0x080105, 0, 1, 0, 0, 1, 0, 5, 1, false, false⟩
  | .TABLE_HASH_SEED => ⟨0x090001, 0, 1, 0, 65535, 1, 2, 0, 2, false, true⟩
  | .EVICT_POLICY => ⟨0x090002, 0, 1, 0, 1, 1, 1, 2, 1, false, false⟩
  | .AGING_PERIOD => ⟨0x090003, 0, 1, 0, 3600, 1, 1, 0, 1, false, false⟩
  | .LEARN_EN => ⟨0x090010, 0, 63, 0, 1, 1, 1, 2, 1, false, false⟩
  | .LEARN_FID => ⟨0x090011, 0, 131071, 0, 4095, 1, 1, 0, 1, false, false⟩
  | .LEARN_HOLD => ⟨0x090012, 0, 0, 10, 10000, 1, 1, 0, 1, false, false⟩
  | .MOVE_LIMIT => ⟨0x090013, 0, 0, 1, 15, 1, 1, 0, 1, false, false⟩
  | .MOVE_WINDOW => ⟨0x090014, 0, 0, 100, 10000, 1, 1, 0, 1, false, false⟩
  | .FREEZE_TIME => ⟨0x090015, 0, 0, 1, 1000, 1, 1, 0, 1, false, false⟩
  | .MOVE_FREEZE_EN => ⟨0x090016, 0, 0, 0, 1, 1, 1, 2, 1, false, false⟩
  | .BRIDGE_MISS_ACTION => ⟨0x090017, 0, 31, 0, 1, 1, 1, 2, 1, false, false⟩
  | .US_FLOW_PROFILE => ⟨0x090020, 0, 63, 0, 255, 1, 1, 0, 1, false, false⟩
  | .BIND_PROFILE_V4 => ⟨0x090021, 0, 0, 0, 255, 1, 1, 0, 1, false, false⟩
  | .BIND_PROFILE_V6 => ⟨0x090022, 0, 0, 0, 255, 1, 1, 0, 1, false, false⟩
  | .TABLE_FILL => ⟨0x090100, 0, 1, 0, 0, 1, 0, 5, 1, false, false⟩
  | .TABLE_EVICTIONS => ⟨0x090101, 0, 1, 0, 0, 1, 0, 4, 1, true, false⟩
  | .TABLE_INSERT_FAILS => ⟨0x090102, 0, 1, 0, 0, 1, 0, 4, 1, true, false⟩
  | .AGED_OUT => ⟨0x090103, 0, 1, 0, 0, 1, 0, 4, 1, true, false⟩
  | .LEARN_DROPS => ⟨0x090104, 0, 0, 0, 0, 1, 0, 4, 1, true, false⟩
  | .MOVES_REFUSED => ⟨0x090105, 0, 0, 0, 0, 1, 0, 4, 1, true, false⟩
  | .PARITY_REPAIRS => ⟨0x090106, 0, 1, 0, 0, 1, 0, 4, 1, true, false⟩
  | .FLOW_KIND_ERR => ⟨0x090107, 0, 0, 0, 0, 1, 0, 4, 1, true, false⟩
  | .EXPRESS_EN => ⟨0x0A0001, 0, 95, 0, 1, 1, 1, 2, 1, false, false⟩
  | .MCAST_QUANTUM => ⟨0x0A0002, 0, 63, 64, 65536, 1, 1, 0, 1, false, false⟩
  | .SHAPE_ADJ => ⟨0x0A0003, 0, 95, (-64), 64, 1, 1, 1, 1, false, false⟩
  | .GATE_GUARD_MODE => ⟨0x0A0010, 0, 95, 0, 1, 1, 1, 2, 1, false, false⟩
  | .GATE_GUARD_NS => ⟨0x0A0011, 0, 95, 10, 1000000, 1, 1, 0, 1, false, false⟩
  | .HIST_DEPTH_BASE => ⟨0x0A0020, 0, 0, 64, 65536, 1, 1, 0, 1, false, false⟩
  | .HIST_DELAY_BASE => ⟨0x0A0021, 0, 0, 100, 1000000, 1, 1, 0, 1, false, false⟩
  | .GATE_STATE => ⟨0x0A0100, 0, 95, 0, 0, 1, 0, 5, 1, false, false⟩
  | .NEVER_FITS_COUNT => ⟨0x0A0101, 0, 95, 0, 0, 1, 0, 4, 1, true, false⟩
  | .GATE_HOLDS => ⟨0x0A0102, 0, 95, 0, 0, 1, 0, 4, 1, true, false⟩
  | .LEVEL_OVERRIDE_MISS => ⟨0x0A0103, 0, 0, 0, 0, 1, 0, 4, 1, true, false⟩
  | .QUEUE_DROP_SUM => ⟨0x0A0104, 0, 95, 0, 0, 1, 0, 4, 1, true, false⟩
  | .SCHED_QUEUES_BOUND => ⟨0x0A0105, 0, 7, 0, 0, 1, 0, 5, 1, false, false⟩
  | .POOL_BUF_SIZE => ⟨0x0B0001, 0, 3, 256, 10240, 256, 2, 0, 2, false, true⟩
  | .POOL_SIZE => ⟨0x0B0002, 0, 3, 64, 65536, 64, 2, 0, 2, false, true⟩
  | .POOL_WARN => ⟨0x0B0003, 0, 3, 10, 98, 1, 1, 0, 1, false, false⟩
  | .POOL_FREEZE => ⟨0x0B0004, 0, 3, 20, 98, 1, 1, 0, 1, false, false⟩
  | .POOL_THAW => ⟨0x0B0005, 0, 3, 10, 97, 1, 1, 0, 1, false, false⟩
  | .POOL_CRITICAL => ⟨0x0B0006, 0, 3, 30, 99, 1, 1, 0, 1, false, false⟩
  | .POOL_FEED_MASK => ⟨0x0B0007, 0, 3, 0, 18446744073709551615, 1, 1, 3, 1, false, false⟩
  | .POOL_PAUSE_MACS => ⟨0x0B0008, 0, 3, 0, 4294967295, 1, 1, 3, 1, false, false⟩
  | .POOL_PAUSE_CLASSES => ⟨0x0B0009, 0, 3, 0, 255, 1, 1, 3, 1, false, false⟩
  | .QUEUE_DEEP => ⟨0x0B0010, 0, 81919, 0, 1, 1, 1, 2, 1, false, false⟩
  | .GLACIER_HEAD => ⟨0x0B0011, 0, 0, 16, 1024, 1, 1, 0, 1, false, false⟩
  | .GLACIER_EIGHTHS => ⟨0x0B0012, 0, 0, 1, 6, 1, 2, 0, 2, false, true⟩
  | .POOL_IN_USE => ⟨0x0B0100, 0, 3, 0, 0, 1, 0, 5, 1, false, false⟩
  | .POOL_FLAGS => ⟨0x0B0101, 0, 3, 0, 0, 1, 0, 5, 1, false, false⟩
  | .POOL_EMPTY_DROPS => ⟨0x0B0102, 0, 3, 0, 0, 1, 0, 4, 1, true, false⟩
  | .BUF_FREE_FAULTS => ⟨0x0B0103, 0, 0, 0, 0, 1, 0, 4, 1, true, false⟩
  | .CT_OVERRUNS => ⟨0x0B0104, 0, 0, 0, 0, 1, 0, 4, 1, true, false⟩
  | .GLACIER_USE => ⟨0x0B0105, 0, 0, 0, 0, 1, 0, 5, 1, false, false⟩
  | .GLACIER_DROPS => ⟨0x0B0106, 0, 0, 0, 0, 1, 0, 4, 1, true, false⟩
  | .POOL_OVERSIZE => ⟨0x0B0107, 0, 0, 0, 0, 1, 0, 4, 1, true, false⟩
  | .DRAM_TARGET => ⟨0x0C0001, 0, 5, 200, 100000, 1, 2, 0, 1, false, false⟩
  | .DRAM_RETRAIN_PERIOD => ⟨0x0C0002, 0, 0, 10, 10000, 1, 2, 0, 1, false, false⟩
  | .DRAM_PORT_LATE => ⟨0x0C0100, 0, 5, 0, 0, 1, 0, 4, 1, true, false⟩
  | .DRAM_ECC_CE => ⟨0x0C0101, 0, 7, 0, 0, 1, 0, 4, 1, true, false⟩
  | .MACSEC_SPEC_BLOCKS => ⟨0x0D0001, 0, 31, 0, 96, 1, 1, 0, 1, false, false⟩
  | .KEY_REKEY_PERIOD => ⟨0x0D0002, 0, 63, 0, 86400, 1, 1, 0, 1, false, false⟩
  | .KEY_EXCH_TIMEOUT => ⟨0x0D0003, 0, 63, 10, 10000, 1, 2, 0, 1, false, false⟩
  | .CELL_ODD_LIMIT => ⟨0x0D0004, 0, 0, 2, 8, 1, 2, 0, 1, false, false⟩
  | .ENTROPY_MODE => ⟨0x0D0005, 0, 0, 0, 1, 1, 6, 2, 0, false, false⟩
  | .CIPHER_PAIRS => ⟨0x0D0100, 0, 12, 0, 0, 1, 0, 5, 1, false, false⟩
  | .TAPE_UNITS => ⟨0x0D0101, 0, 7, 0, 0, 1, 0, 5, 1, false, false⟩
  | .CIPHER_MISMATCH => ⟨0x0D0102, 0, 12, 0, 0, 1, 0, 4, 1, true, false⟩
  | .CIPHER_LATE_DROPS => ⟨0x0D0103, 0, 12, 0, 0, 1, 0, 4, 1, true, false⟩
  | .KEY_MISSING_DROPS => ⟨0x0D0104, 0, 95, 0, 0, 1, 0, 4, 1, true, false⟩
  | .MACSEC_SPEC_HITS => ⟨0x0D0105, 0, 31, 0, 0, 1, 0, 4, 1, true, false⟩
  | .CT_AUTH_FAIL => ⟨0x0D0106, 0, 31, 0, 0, 1, 0, 4, 1, true, false⟩
  | .DS_REKEY_IDLE => ⟨0x0D0107, 0, 63, 0, 0, 1, 0, 4, 1, true, false⟩
  | .UPLINK_BREAKOUT => ⟨0x0E0001, 0, 3, 0, 3, 1, 2, 2, 3, false, true⟩
  | .UPLINK_MEDIA => ⟨0x0E0002, 0, 3, 0, 2, 1, 2, 2, 3, false, true⟩
  | .UPLINK_AN_EN => ⟨0x0E0003, 0, 3, 0, 1, 1, 2, 2, 3, false, true⟩
  | .UPLINK_ENABLE => ⟨0x0E0004, 0, 31, 0, 1, 1, 1, 2, 0, false, false⟩
  | .UPLINK_UP_HOLD => ⟨0x0E0005, 0, 31, 0, 1000, 1, 1, 0, 1, false, false⟩
  | .UPLINK_MTU => ⟨0x0E0006, 0, 31, 1518, 10240, 1, 1, 0, 1, false, false⟩
  | .UPLINK_FC_MODE => ⟨0x0E0010, 0, 31, 0, 2, 1, 1, 2, 1, false, false⟩
  | .UPLINK_PFC_QUANTA => ⟨0x0E0011, 0, 31, 1, 65535, 1, 1, 0, 1, false, false⟩
  | .UPLINK_PFC_REFRESH_PCT => ⟨0x0E0012, 0, 31, 25, 90, 1, 1, 0, 1, false, false⟩
  | .UPLINK_TX_PRESET => ⟨0x0E0020, 0, 31, Config.presetMin, Config.presetMax, 1, 2, 0, 3, false, false⟩
  | .MACSEC_EN => ⟨0x0E0030, 0, 31, 0, 1, 1, 1, 2, 1, false, false⟩
  | .MACSEC_VALIDATE => ⟨0x0E0031, 0, 31, 0, 2, 1, 1, 2, 1, false, false⟩
  | .MACSEC_REPLAY_WINDOW => ⟨0x0E0032, 0, 31, 0, 4294967295, 1, 1, 0, 1, false, false⟩
  | .MACSEC_CONF_OFFSET => ⟨0x0E0033, 0, 31, 0, 50, 1, 1, 2, 1, false, false⟩
  | .MACSEC_PN_WARN => ⟨0x0E0034, 0, 31, 50, 99, 1, 1, 0, 1, false, false⟩
  | .UPLINK_LINK_STATE => ⟨0x0E0100, 0, 31, 0, 0, 1, 0, 5, 1, false, false⟩
  | .UPLINK_PAUSE_STATE => ⟨0x0E0101, 0, 31, 0, 0, 1, 0, 5, 1, false, false⟩
  | .TETHER_GROUPING => ⟨0x0F0001, 0, 1, 0, 3, 1, 2, 2, 3, false, false⟩
  | .TETHER_MIRROR_SLOTS => ⟨0x0F0002, 0, 0, 4, 64, 1, 2, 0, 3, false, false⟩
  | .TETHER_LEARN_SLOTS => ⟨0x0F0003, 0, 0, 2, 32, 1, 2, 0, 3, false, false⟩
  | .TETHER_SLEEP_EN => ⟨0x0F0004, 0, 1, 0, 1, 1, 1, 2, 1, false, false⟩
  | .TETHER_IDLE_TIME => ⟨0x0F0005, 0, 1, 1, 1000, 1, 1, 0, 1, false, false⟩
  | .TETHER_Q_LIMIT => ⟨0x0F0006, 0, 0, 64, 4096, 1, 1, 0, 1, false, false⟩
  | .TETHER_TX_PRESET => ⟨0x0F0007, 0, 33, Config.presetMin, Config.presetMax, 1, 2, 0, 3, false, false⟩
  | .PROT_AUTO_SWITCH => ⟨0x0F0010, 0, 31, 0, 1, 1, 1, 2, 1, false, false⟩
  | .PROT_HOME => ⟨0x0F0011, 0, 31, 0, 2, 1, 2, 2, 1, false, false⟩
  | .PROT_FEEDER_DELTA => ⟨0x0F0012, 0, 31, (-100000000), 100000000, 1, 2, 1, 3, false, false⟩
  | .PROT_DEAD_TIME => ⟨0x0F0013, 0, 0, 5, 1000, 1, 2, 0, 0, false, false⟩
  | .PROT_AUTO_DEAD => ⟨0x0F0014, 0, 0, 0, 1, 1, 2, 2, 0, false, false⟩
  | .PROT_POPUP_PER_FRAME => ⟨0x0F0015, 0, 0, 8, 64, 1, 2, 0, 1, false, false⟩
  | .PROT_TX_WAKE => ⟨0x0F0016, 0, 0, 10, 500, 1, 2, 0, 1, false, false⟩
  | .PAIR_ALIGN_MAX => ⟨0x0F0017, 0, 0, 10, 1000, 1, 2, 0, 1, false, false⟩
  | .TETHER_LANE_STATE => ⟨0x0F0100, 0, 33, 0, 0, 1, 0, 5, 1, false, false⟩
  | .PROT_TOKEN_MASK => ⟨0x0F0101, 0, 0, 0, 0, 1, 0, 5, 1, false, false⟩
  | .MIRROR_READY_MASK => ⟨0x0F0102, 0, 0, 0, 0, 1, 0, 5, 1, false, false⟩
  | .TETHER_AUTH_FAILS => ⟨0x0F0103, 0, 1, 0, 0, 1, 0, 4, 1, true, false⟩
  | .TETHER_Q_DROPS => ⟨0x0F0104, 0, 127, 0, 0, 1, 0, 4, 1, true, false⟩
  | .DMA_QUEUE_LIMIT => ⟨0x100001, 0, 63, 16, 16384, 1, 1, 0, 1, false, false⟩
  | .DMA_QUEUE_DROPS => ⟨0x100100, 0, 63, 0, 0, 1, 0, 4, 1, true, false⟩
  | .PCIE_ERR_COUNT => ⟨0x100101, 0, 0, 0, 0, 1, 0, 4, 1, true, false⟩
  | .MBOX_STATS => ⟨0x010100, 0, 15, 0, 0, 1, 0, 4, 1, true, false⟩
  | .MBOX_AUTH_FAILS => ⟨0x010101, 0, 0, 0, 0, 1, 0, 4, 1, true, false⟩
  | .FW_STATE => ⟨0x010102, 0, 0, 0, 0, 1, 0, 5, 1, false, false⟩
  | .SESSION_IDLE => ⟨0x110001, 0, 0, 60, 3600, 1, 2, 0, 1, false, false⟩
  | .AUTH_FAIL_LIMIT => ⟨0x110002, 0, 0, 3, 16, 1, 2, 0, 1, false, false⟩
  | .AUTH_LOCKOUT => ⟨0x110003, 0, 0, 10, 3600, 1, 2, 0, 1, false, false⟩
  | .SESSION_STATE => ⟨0x110100, 0, 0, 0, 0, 1, 0, 5, 1, false, false⟩
  | .AUDIT_HEAD => ⟨0x110101, 0, 0, 0, 0, 1, 0, 5, 1, false, false⟩
  | .CAL_OVERLAY_VERSION => ⟨0x110102, 0, 0, 0, 0, 1, 0, 5, 1, false, false⟩
  | .SECURITY_MIN => ⟨0x110103, 0, 0, 0, 0, 1, 0, 5, 1, false, false⟩
  | .ENROLLED => ⟨0x110104, 0, 0, 0, 0, 1, 0, 5, 1, false, false⟩
  | .SCRUB_PERIOD => ⟨0x120001, 0, 0, 1, 600, 1, 2, 0, 1, false, false⟩
  | .SUSPECT_CE_LIMIT => ⟨0x120002, 0, 0, 2, 1000, 1, 2, 0, 1, false, false⟩
  | .STALL_LIMIT => ⟨0x120003, 0, 0, 2, 20, 1, 2, 0, 1, false, false⟩
  | .SLOW_RATIO => ⟨0x120004, 0, 0, 80, 98, 1, 2, 0, 1, false, false⟩
  | .SLOW_TIME => ⟨0x120005, 0, 0, 100, 10000, 1, 2, 0, 1, false, false⟩
  | .MAINT_START => ⟨0x120006, 0, 0, 0, 1439, 1, 1, 0, 1, false, false⟩
  | .MAINT_LEN => ⟨0x120007, 0, 0, 0, 480, 1, 1, 0, 1, false, false⟩
  | .SUSPECT_SWAP => ⟨0x120008, 0, 0, 0, 1, 1, 1, 2, 1, false, false⟩
  | .READMIT_DAYS => ⟨0x120009, 0, 0, 1, 30, 1, 1, 0, 1, false, false⟩
  | .UNIT_COUNTS => ⟨0x120100, 0, 12, 0, 0, 1, 0, 5, 1, false, false⟩
  | .SPARE_CELLS => ⟨0x120101, 0, 3327, 0, 0, 1, 0, 5, 1, false, false⟩
  | .GHOST_COUNT => ⟨0x120102, 0, 12, 0, 0, 1, 0, 4, 1, true, false⟩
  | .HANDLER_STATE => ⟨0x120103, 0, 13, 0, 0, 1, 0, 4, 1, true, false⟩
  | .SRAM_CE_COUNT => ⟨0x120104, 0, 12, 0, 0, 1, 0, 4, 1, true, false⟩
  | .EVENT_BATCH => ⟨0x130001, 0, 0, 1, 256, 1, 1, 0, 1, false, false⟩
  | .EVENT_BATCH_TIME => ⟨0x130002, 0, 0, 1, 10000, 1, 1, 0, 1, false, false⟩
  | .EVENT_SOURCE_BURST => ⟨0x130003, 0, 0, 16, 1024, 1, 2, 0, 1, false, false⟩
  | .EVENT_IRQ_HOLDOFF => ⟨0x130004, 0, 0, 0, 10000, 1, 1, 0, 1, false, false⟩
  | .TELEMETRY_PERIOD => ⟨0x130005, 0, 0, 10, 60000, 1, 1, 0, 1, false, false⟩
  | .TELEMETRY_FLUSH => ⟨0x130006, 0, 0, 10, 100000, 1, 1, 0, 1, false, false⟩
  | .EVENT_MASKED => ⟨0x130100, 1, 142, 0, 0, 1, 0, 4, 1, true, false⟩
  | .EVENT_SHED => ⟨0x130101, 0, 1623, 0, 0, 1, 0, 4, 1, true, false⟩
  | .EVENT_STORE_FILL => ⟨0x130102, 0, 0, 0, 0, 1, 0, 5, 1, false, false⟩
  | .EVENT_LOST => ⟨0x130103, 0, 0, 0, 0, 1, 0, 4, 1, true, false⟩
  | .TELEMETRY_HEAD => ⟨0x130104, 0, 0, 0, 0, 1, 0, 5, 1, false, false⟩
  | .TELEMETRY_DROPS => ⟨0x130105, 0, 0, 0, 0, 1, 0, 4, 1, true, false⟩
  | .DARK_AUTO => ⟨0x020020, 0, 63, 0, 1, 1, 1, 2, 1, false, false⟩
  | .DARK_IDLE_TIME => ⟨0x020021, 0, 63, 1, 3600, 1, 1, 0, 1, false, false⟩
  | .DRAM_SR_IDLE => ⟨0x020022, 0, 0, 1, 1000, 1, 2, 0, 1, false, false⟩
  | .TEMP_ALARM_C => ⟨0x020023, 0, 0, 70, 115, 1, 1, 0, 1, false, false⟩
  | .TEMP_TRIP_C => ⟨0x020024, 0, 0, 110, 125, 1, 2, 0, 1, false, false⟩
  | .POWER_STATE => ⟨0x020110, 0, 0, 0, 0, 1, 0, 5, 1, false, false⟩
  | .DARK_MASK => ⟨0x020111, 0, 0, 0, 0, 1, 0, 5, 1, false, false⟩
  | .TEMP_NOW => ⟨0x020112, 0, 63, 0, 0, 1, 0, 5, 1, false, false⟩
  | .CORE_POWER => ⟨0x020113, 0, 0, 0, 0, 1, 0, 5, 1, false, false⟩
  | .BOOT_STAGE_TIME => ⟨0x020114, 1, 10, 0, 0, 1, 0, 5, 1, false, false⟩

def Param.key (p : Param) : Nat := p.info.key

/-- Read-only items are 0x0100 to 0x01FF (R442). -/
def Param.readOnly (p : Param) : Bool := p.info.type ≥ 4

/-- The default of the table row, before any calibration overlay (R469). Read-only items have none. -/
def Param.default (p : Param) (i : Nat) : Int :=
  match p with
  | .PACE_BAND_LOW => 270
  | .PACE_BAND_HIGH => 290
  | .VDD_MIN => 680
  | .VDD_MAX => 800
  | .AVS_STEP_UP => 5
  | .AVS_STEP_DOWN => 2
  | .AVS_DOWN_HOLD => 8
  | .AVS_FF_LOAD => 25
  | .AVS_FF_STEP => 10
  | .PACE_GUARD => 255
  | .AVS_SETTLE => 10
  | .AVS_FIXED_V => 750
  | .TX_SWING => Config.fusedPreset p.key i
  | .TX_FFE_PRE => Config.fusedPreset p.key i
  | .TX_FFE_POST => Config.fusedPreset p.key i
  | .BRST_OFFSET => 20
  | .BRST_WIDTH => 40
  | .RSSI_LEAD => 100
  | .RSSI_WIDTH => 200
  | .RSSI_SETTLE => 10
  | .RSSI_PERIOD => 10
  | .LOS_SOURCE => 2
  | .LOS_WINDOW => 250
  | .MMS_SPEED => 400
  | .MMS_SEL_SETUP => 2000
  | .MMS_POLL => 100
  | .SLEEP_UP_EN => 1
  | .SLEEP_MIN_GAP => 96
  | .DARK_LEAD => 8
  | .BMEM_QUAL_RUN => 64
  | .BMEM_DEMOTE_WINDOW => 1000
  | .BMEM_CLEAN_PHASE => 16
  | .FRAG_MAX => 512
  | .FRAG_OPEN_MAX => 8
  | .DS_PLOAM_MAX => 4
  | .KEY_SWITCH_LEAD => 32
  | .TOD_BAUD => 115200
  | .TOD_PPS_WINDOW => 1000
  | .TOD_STEP_LIMIT => 1000
  | .TOD_SLEW_MAX => 10
  | .TOD_STAMP_INTERVAL => 8000
  | .DISC_PERIOD => 100
  | .DISC_MAX_KM => 60
  | .DISC_RATES => if i % 2 = 0 then 28 else 3
  | .ACT_MODE => 1
  | .RANGE_TEQD => 625
  | .RANGE_DIFF_KM => 40
  | .RANGE_ATTEMPTS => 3
  | .RANGE_RETRY => 4
  | .RANGE_PARALLEL => 8
  | .ONU_ID_HOLD => 16
  | .PROFILE_BCAST_PERIOD => 8
  | .DRIFT_LIMIT => 128
  | .DRIFT_CONFIRM => 4
  | .DRIFT_TIW => 40
  | .DRIFT_SETTLE => 16
  | .LOB_COUNT => 4
  | .LOB_DEACT_TIME => 1000
  | .ROGUE_MODE => 2
  | .ROGUE_OBS_OPEN => 3
  | .ROGUE_OBS_WINDOW => 1000
  | .ROGUE_QUIET_LEN => 20
  | .ROGUE_PROBES => 4
  | .ROGUE_AUTO_DISABLE => 1
  | .ROGUE_HOLDOFF => 60
  | .HUNT_ERR_MAX => 2
  | .BER_SD_EXP => 6
  | .BER_SF_EXP => 4
  | .BER_WIN_FACTOR => 10
  | .BER_WIN_MAX => 10000
  | .BER_CLEAR_RATIO => 10
  | .REASM_TIMEOUT => 4000
  | .REASM_MAX_SDU => 9600
  | .DBA_ADMIT_PCT => 80
  | .DBA_POLL_INTERVAL => 8
  | .DBA_MIN_GRANT => 64
  | .DBA_SPLIT_EN => 1
  | .GM_RATE_GAP => 32
  | .GM_DISC_ALIGN => 1
  | .PARSE_DEPTH_BYTES => 128
  | .PARSE_DEPTH_HDRS => 16
  | .VXLAN_PORT => 4789
  | .GTPU_PORT => 2152
  | .TPID_EXTRA => 0x9100
  | .SWAP_WAIT_MAX => 10
  | .ANTISPOOF_MODE => 3
  | .ANTISPOOF_MAC_LIMIT => 8
  | .EVICT_POLICY => 1
  | .AGING_PERIOD => 300
  | .LEARN_EN => 1
  | .LEARN_FID => 4095
  | .LEARN_HOLD => 100
  | .MOVE_LIMIT => 4
  | .MOVE_WINDOW => 1000
  | .FREEZE_TIME => 60
  | .MOVE_FREEZE_EN => 1
  | .BIND_PROFILE_V4 => 254
  | .BIND_PROFILE_V6 => 255
  | .EXPRESS_EN => 1
  | .MCAST_QUANTUM => 1536
  | .SHAPE_ADJ => if i < 32 then 20 else 8
  | .GATE_GUARD_NS => 1000
  | .HIST_DEPTH_BASE => 256
  | .HIST_DELAY_BASE => 1000
  | .POOL_BUF_SIZE => [256, 1024, 4096, 10240].getD i 0
  | .POOL_SIZE => [16384, 16384, 16384, 16000].getD i 0
  | .POOL_WARN => 75
  | .POOL_FREEZE => 90
  | .POOL_THAW => 80
  | .POOL_CRITICAL => 97
  | .POOL_FEED_MASK => 18446744073709551615
  | .POOL_PAUSE_MACS => 4294967295
  | .POOL_PAUSE_CLASSES => 15
  | .GLACIER_HEAD => 64
  | .GLACIER_EIGHTHS => 6
  | .DRAM_TARGET => [4000, 2000, 2000, 500, 20000, 10000].getD i 0
  | .DRAM_RETRAIN_PERIOD => 100
  | .MACSEC_SPEC_BLOCKS => 24
  | .KEY_EXCH_TIMEOUT => 1000
  | .CELL_ODD_LIMIT => 2
  | .UPLINK_UP_HOLD => 10
  | .UPLINK_MTU => 9600
  | .UPLINK_FC_MODE => 2
  | .UPLINK_PFC_QUANTA => 65535
  | .UPLINK_PFC_REFRESH_PCT => 50
  | .UPLINK_TX_PRESET => Config.fusedPreset p.key i
  | .MACSEC_VALIDATE => 2
  | .MACSEC_PN_WARN => 75
  | .TETHER_MIRROR_SLOTS => 24
  | .TETHER_LEARN_SLOTS => 8
  | .TETHER_SLEEP_EN => 1
  | .TETHER_IDLE_TIME => 10
  | .TETHER_Q_LIMIT => 1024
  | .TETHER_TX_PRESET => Config.fusedPreset p.key i
  | .PROT_AUTO_SWITCH => 1
  | .PROT_DEAD_TIME => 20
  | .PROT_AUTO_DEAD => 1
  | .PROT_POPUP_PER_FRAME => 64
  | .PROT_TX_WAKE => 500
  | .PAIR_ALIGN_MAX => 100
  | .DMA_QUEUE_LIMIT => 1024
  | .SESSION_IDLE => 900
  | .AUTH_FAIL_LIMIT => 5
  | .AUTH_LOCKOUT => 60
  | .SCRUB_PERIOD => 10
  | .SUSPECT_CE_LIMIT => 16
  | .STALL_LIMIT => 10
  | .SLOW_RATIO => 92
  | .SLOW_TIME => 200
  | .MAINT_START => 120
  | .MAINT_LEN => 60
  | .SUSPECT_SWAP => 1
  | .READMIT_DAYS => 7
  | .EVENT_BATCH => 16
  | .EVENT_BATCH_TIME => 10
  | .EVENT_SOURCE_BURST => 64
  | .EVENT_IRQ_HOLDOFF => 50
  | .TELEMETRY_PERIOD => 1000
  | .TELEMETRY_FLUSH => 100
  | .DARK_IDLE_TIME => 60
  | .DRAM_SR_IDLE => 10
  | .TEMP_ALARM_C => 105
  | .TEMP_TRIP_C => 120
  | _ => 0

/-- The parameter a key names, when there is one (R444). -/
def Param.ofKey (k : Nat) : Option Param :=
  match k with
  | 0x020001 => some .PACE_BAND_LOW
  | 0x020002 => some .PACE_BAND_HIGH
  | 0x020003 => some .VDD_MIN
  | 0x020004 => some .VDD_MAX
  | 0x020005 => some .AVS_STEP_UP
  | 0x020006 => some .AVS_STEP_DOWN
  | 0x020007 => some .AVS_DOWN_HOLD
  | 0x020008 => some .AVS_FF_LOAD
  | 0x020009 => some .AVS_FF_STEP
  | 0x02000A => some .PACE_GUARD
  | 0x02000B => some .AVS_SETTLE
  | 0x02000C => some .AVS_MODE
  | 0x02000D => some .AVS_FIXED_V
  | 0x02000E => some .AVS_BUS_PRIMARY
  | 0x020100 => some .PACE_NOW
  | 0x020101 => some .PACE_MIN_HOLD
  | 0x020102 => some .CONTROL_PACE
  | 0x020103 => some .VDD_TARGET
  | 0x020104 => some .VDD_READ
  | 0x020105 => some .CIPHER_LOAD
  | 0x030001 => some .TX_SWING
  | 0x030002 => some .TX_FFE_PRE
  | 0x030003 => some .TX_FFE_POST
  | 0x030004 => some .TX_POLARITY
  | 0x030005 => some .RX_POLARITY
  | 0x030010 => some .BRST_OFFSET
  | 0x030011 => some .BRST_WIDTH
  | 0x030012 => some .RSSI_LEAD
  | 0x030013 => some .RSSI_WIDTH
  | 0x030014 => some .RSSI_SETTLE
  | 0x030015 => some .RSSI_LOC
  | 0x030016 => some .RSSI_PERIOD
  | 0x030020 => some .LOS_SOURCE
  | 0x030021 => some .LOS_WINDOW
  | 0x030022 => some .LOS_POLARITY
  | 0x030030 => some .MMS_SPEED
  | 0x030031 => some .MMS_SEL_SETUP
  | 0x030032 => some .MMS_POLL
  | 0x030040 => some .SLEEP_UP_EN
  | 0x030041 => some .SLEEP_MIN_GAP
  | 0x030042 => some .DARK_LEAD
  | 0x030050 => some .BMEM_QUAL_RUN
  | 0x030051 => some .BMEM_DEMOTE_WINDOW
  | 0x030052 => some .BMEM_CLEAN_PHASE
  | 0x030100 => some .LANE_SPARE_STATE
  | 0x030101 => some .LANE_ASLEEP_TIME
  | 0x040001 => some .FRAG_MAX
  | 0x040002 => some .FRAG_OPEN_MAX
  | 0x040003 => some .DS_PLOAM_MAX
  | 0x040004 => some .KEY_SWITCH_LEAD
  | 0x040010 => some .TOD_BAUD
  | 0x040011 => some .TOD_PPS_POLARITY
  | 0x040012 => some .TOD_PPS_WINDOW
  | 0x040013 => some .TOD_PPS_DELAY
  | 0x040014 => some .TOD_STEP_LIMIT
  | 0x040015 => some .TOD_SLEW_MAX
  | 0x040016 => some .TOD_TX_DELAY
  | 0x040017 => some .TOD_STAMP_INTERVAL
  | 0x040100 => some .DEVICE_TIME
  | 0x040101 => some .TOD_STATE
  | 0x040102 => some .TOD_PHASE_ERR
  | 0x040103 => some .TOD_UTC_OFFSET
  | 0x040104 => some .FRAME_ALIGN_ERR
  | 0x040105 => some .SFC_NOW
  | 0x040106 => some .TOD_STAMP
  | 0x040107 => some .EXPRESS_WAIT_MAX
  | 0x040108 => some .PLOAM_QUEUE_FILL
  | 0x050001 => some .DISC_PERIOD
  | 0x050002 => some .DISC_MIN_KM
  | 0x050003 => some .DISC_MAX_KM
  | 0x050004 => some .DISC_RATES
  | 0x050005 => some .ACT_MODE
  | 0x050010 => some .RANGE_TEQD
  | 0x050011 => some .RANGE_DIFF_KM
  | 0x050012 => some .RANGE_ATTEMPTS
  | 0x050013 => some .RANGE_RETRY
  | 0x050014 => some .RANGE_PARALLEL
  | 0x050015 => some .ONU_ID_HOLD
  | 0x050016 => some .PROFILE_BCAST_PERIOD
  | 0x050017 => some .PROFILE_MODE
  | 0x050020 => some .DRIFT_LIMIT
  | 0x050021 => some .DRIFT_CONFIRM
  | 0x050022 => some .DRIFT_TIW
  | 0x050023 => some .DRIFT_SETTLE
  | 0x050030 => some .LOB_COUNT
  | 0x050031 => some .LOB_DEACT_TIME
  | 0x050040 => some .ROGUE_MODE
  | 0x050041 => some .ROGUE_OBS_OPEN
  | 0x050042 => some .ROGUE_OBS_WINDOW
  | 0x050043 => some .ROGUE_QUIET_LEN
  | 0x050044 => some .ROGUE_PROBES
  | 0x050045 => some .ROGUE_AUTO_DISABLE
  | 0x050046 => some .ROGUE_HOLDOFF
  | 0x050100 => some .DISC_COLLISIONS
  | 0x050101 => some .TERM_STATE_COUNT
  | 0x050102 => some .ROGUE_PHASE
  | 0x060001 => some .HUNT_ERR_MAX
  | 0x060010 => some .BER_SD_EXP
  | 0x060011 => some .BER_SF_EXP
  | 0x060012 => some .BER_WIN_FACTOR
  | 0x060013 => some .BER_WIN_MAX
  | 0x060014 => some .BER_CLEAR_RATIO
  | 0x060020 => some .REASM_TIMEOUT
  | 0x060021 => some .REASM_MAX_SDU
  | 0x060100 => some .US_FEC_CORR_BITS
  | 0x060101 => some .US_FEC_UNCORR
  | 0x060102 => some .US_BER_EST
  | 0x060103 => some .US_DEFECT_STATE
  | 0x060104 => some .US_BIP_ERR
  | 0x060105 => some .US_DELIM_STATS
  | 0x060106 => some .HEADER_ONU_MISMATCH
  | 0x060107 => some .US_REPORT_DISCARDS
  | 0x060108 => some .US_GEM_DISCARDS
  | 0x060109 => some .REASM_GRANULES_FREE
  | 0x070001 => some .DBA_ADMIT_PCT
  | 0x070002 => some .DBA_POLL_INTERVAL
  | 0x070003 => some .DBA_MIN_GRANT
  | 0x070004 => some .DBA_SPLIT_EN
  | 0x070100 => some .DBA_LOOP_FLOOR
  | 0x070101 => some .DBA_LEDGER
  | 0x070102 => some .DBA_DEMAND
  | 0x070103 => some .DBA_GRANTED
  | 0x070104 => some .DBA_LATENCY_MISSES
  | 0x070105 => some .DBA_FIXED_LOST
  | 0x070106 => some .DBA_STALE_REPORTS
  | 0x070107 => some .DBA_CAPACITY
  | 0x070108 => some .DBA_CUT_STATE
  | 0x070040 => some .GM_RATE_GAP
  | 0x070041 => some .GM_DISC_ALIGN
  | 0x070140 => some .GM_STRUCTS_USED
  | 0x070141 => some .GM_TRIMMED_BYTES
  | 0x070142 => some .GM_SWITCHES
  | 0x070143 => some .GM_MISSED
  | 0x070144 => some .GM_BUILD_TIME
  | 0x080001 => some .PARSE_DEPTH_BYTES
  | 0x080002 => some .PARSE_DEPTH_HDRS
  | 0x080003 => some .MALFORMED_ACTION
  | 0x080004 => some .DEPTH_ACTION
  | 0x080005 => some .CLASS_MISS_ACTION
  | 0x080006 => some .US_MISS_ACTION
  | 0x080007 => some .DS_MISS_ACTION
  | 0x080010 => some .VXLAN_PORT
  | 0x080011 => some .GTPU_PORT
  | 0x080012 => some .MPLS_ETH_PW
  | 0x080013 => some .TPID_EXTRA
  | 0x080020 => some .SWAP_WAIT_MAX
  | 0x080030 => some .ANTISPOOF_MODE
  | 0x080031 => some .ANTISPOOF_MAC_LIMIT
  | 0x080032 => some .SPOOF_PUNT
  | 0x080100 => some .MALFORMED_COUNT
  | 0x080101 => some .DEPTH_EXCEEDED_COUNT
  | 0x080102 => some .RULESET_STATE
  | 0x080103 => some .RECIRC_STATS
  | 0x080104 => some .SPOOF_DROPS
  | 0x080105 => some .PARSE_LANES
  | 0x090001 => some .TABLE_HASH_SEED
  | 0x090002 => some .EVICT_POLICY
  | 0x090003 => some .AGING_PERIOD
  | 0x090010 => some .LEARN_EN
  | 0x090011 => some .LEARN_FID
  | 0x090012 => some .LEARN_HOLD
  | 0x090013 => some .MOVE_LIMIT
  | 0x090014 => some .MOVE_WINDOW
  | 0x090015 => some .FREEZE_TIME
  | 0x090016 => some .MOVE_FREEZE_EN
  | 0x090017 => some .BRIDGE_MISS_ACTION
  | 0x090020 => some .US_FLOW_PROFILE
  | 0x090021 => some .BIND_PROFILE_V4
  | 0x090022 => some .BIND_PROFILE_V6
  | 0x090100 => some .TABLE_FILL
  | 0x090101 => some .TABLE_EVICTIONS
  | 0x090102 => some .TABLE_INSERT_FAILS
  | 0x090103 => some .AGED_OUT
  | 0x090104 => some .LEARN_DROPS
  | 0x090105 => some .MOVES_REFUSED
  | 0x090106 => some .PARITY_REPAIRS
  | 0x090107 => some .FLOW_KIND_ERR
  | 0x0A0001 => some .EXPRESS_EN
  | 0x0A0002 => some .MCAST_QUANTUM
  | 0x0A0003 => some .SHAPE_ADJ
  | 0x0A0010 => some .GATE_GUARD_MODE
  | 0x0A0011 => some .GATE_GUARD_NS
  | 0x0A0020 => some .HIST_DEPTH_BASE
  | 0x0A0021 => some .HIST_DELAY_BASE
  | 0x0A0100 => some .GATE_STATE
  | 0x0A0101 => some .NEVER_FITS_COUNT
  | 0x0A0102 => some .GATE_HOLDS
  | 0x0A0103 => some .LEVEL_OVERRIDE_MISS
  | 0x0A0104 => some .QUEUE_DROP_SUM
  | 0x0A0105 => some .SCHED_QUEUES_BOUND
  | 0x0B0001 => some .POOL_BUF_SIZE
  | 0x0B0002 => some .POOL_SIZE
  | 0x0B0003 => some .POOL_WARN
  | 0x0B0004 => some .POOL_FREEZE
  | 0x0B0005 => some .POOL_THAW
  | 0x0B0006 => some .POOL_CRITICAL
  | 0x0B0007 => some .POOL_FEED_MASK
  | 0x0B0008 => some .POOL_PAUSE_MACS
  | 0x0B0009 => some .POOL_PAUSE_CLASSES
  | 0x0B0010 => some .QUEUE_DEEP
  | 0x0B0011 => some .GLACIER_HEAD
  | 0x0B0012 => some .GLACIER_EIGHTHS
  | 0x0B0100 => some .POOL_IN_USE
  | 0x0B0101 => some .POOL_FLAGS
  | 0x0B0102 => some .POOL_EMPTY_DROPS
  | 0x0B0103 => some .BUF_FREE_FAULTS
  | 0x0B0104 => some .CT_OVERRUNS
  | 0x0B0105 => some .GLACIER_USE
  | 0x0B0106 => some .GLACIER_DROPS
  | 0x0B0107 => some .POOL_OVERSIZE
  | 0x0C0001 => some .DRAM_TARGET
  | 0x0C0002 => some .DRAM_RETRAIN_PERIOD
  | 0x0C0100 => some .DRAM_PORT_LATE
  | 0x0C0101 => some .DRAM_ECC_CE
  | 0x0D0001 => some .MACSEC_SPEC_BLOCKS
  | 0x0D0002 => some .KEY_REKEY_PERIOD
  | 0x0D0003 => some .KEY_EXCH_TIMEOUT
  | 0x0D0004 => some .CELL_ODD_LIMIT
  | 0x0D0005 => some .ENTROPY_MODE
  | 0x0D0100 => some .CIPHER_PAIRS
  | 0x0D0101 => some .TAPE_UNITS
  | 0x0D0102 => some .CIPHER_MISMATCH
  | 0x0D0103 => some .CIPHER_LATE_DROPS
  | 0x0D0104 => some .KEY_MISSING_DROPS
  | 0x0D0105 => some .MACSEC_SPEC_HITS
  | 0x0D0106 => some .CT_AUTH_FAIL
  | 0x0D0107 => some .DS_REKEY_IDLE
  | 0x0E0001 => some .UPLINK_BREAKOUT
  | 0x0E0002 => some .UPLINK_MEDIA
  | 0x0E0003 => some .UPLINK_AN_EN
  | 0x0E0004 => some .UPLINK_ENABLE
  | 0x0E0005 => some .UPLINK_UP_HOLD
  | 0x0E0006 => some .UPLINK_MTU
  | 0x0E0010 => some .UPLINK_FC_MODE
  | 0x0E0011 => some .UPLINK_PFC_QUANTA
  | 0x0E0012 => some .UPLINK_PFC_REFRESH_PCT
  | 0x0E0020 => some .UPLINK_TX_PRESET
  | 0x0E0030 => some .MACSEC_EN
  | 0x0E0031 => some .MACSEC_VALIDATE
  | 0x0E0032 => some .MACSEC_REPLAY_WINDOW
  | 0x0E0033 => some .MACSEC_CONF_OFFSET
  | 0x0E0034 => some .MACSEC_PN_WARN
  | 0x0E0100 => some .UPLINK_LINK_STATE
  | 0x0E0101 => some .UPLINK_PAUSE_STATE
  | 0x0F0001 => some .TETHER_GROUPING
  | 0x0F0002 => some .TETHER_MIRROR_SLOTS
  | 0x0F0003 => some .TETHER_LEARN_SLOTS
  | 0x0F0004 => some .TETHER_SLEEP_EN
  | 0x0F0005 => some .TETHER_IDLE_TIME
  | 0x0F0006 => some .TETHER_Q_LIMIT
  | 0x0F0007 => some .TETHER_TX_PRESET
  | 0x0F0010 => some .PROT_AUTO_SWITCH
  | 0x0F0011 => some .PROT_HOME
  | 0x0F0012 => some .PROT_FEEDER_DELTA
  | 0x0F0013 => some .PROT_DEAD_TIME
  | 0x0F0014 => some .PROT_AUTO_DEAD
  | 0x0F0015 => some .PROT_POPUP_PER_FRAME
  | 0x0F0016 => some .PROT_TX_WAKE
  | 0x0F0017 => some .PAIR_ALIGN_MAX
  | 0x0F0100 => some .TETHER_LANE_STATE
  | 0x0F0101 => some .PROT_TOKEN_MASK
  | 0x0F0102 => some .MIRROR_READY_MASK
  | 0x0F0103 => some .TETHER_AUTH_FAILS
  | 0x0F0104 => some .TETHER_Q_DROPS
  | 0x100001 => some .DMA_QUEUE_LIMIT
  | 0x100100 => some .DMA_QUEUE_DROPS
  | 0x100101 => some .PCIE_ERR_COUNT
  | 0x010100 => some .MBOX_STATS
  | 0x010101 => some .MBOX_AUTH_FAILS
  | 0x010102 => some .FW_STATE
  | 0x110001 => some .SESSION_IDLE
  | 0x110002 => some .AUTH_FAIL_LIMIT
  | 0x110003 => some .AUTH_LOCKOUT
  | 0x110100 => some .SESSION_STATE
  | 0x110101 => some .AUDIT_HEAD
  | 0x110102 => some .CAL_OVERLAY_VERSION
  | 0x110103 => some .SECURITY_MIN
  | 0x110104 => some .ENROLLED
  | 0x120001 => some .SCRUB_PERIOD
  | 0x120002 => some .SUSPECT_CE_LIMIT
  | 0x120003 => some .STALL_LIMIT
  | 0x120004 => some .SLOW_RATIO
  | 0x120005 => some .SLOW_TIME
  | 0x120006 => some .MAINT_START
  | 0x120007 => some .MAINT_LEN
  | 0x120008 => some .SUSPECT_SWAP
  | 0x120009 => some .READMIT_DAYS
  | 0x120100 => some .UNIT_COUNTS
  | 0x120101 => some .SPARE_CELLS
  | 0x120102 => some .GHOST_COUNT
  | 0x120103 => some .HANDLER_STATE
  | 0x120104 => some .SRAM_CE_COUNT
  | 0x130001 => some .EVENT_BATCH
  | 0x130002 => some .EVENT_BATCH_TIME
  | 0x130003 => some .EVENT_SOURCE_BURST
  | 0x130004 => some .EVENT_IRQ_HOLDOFF
  | 0x130005 => some .TELEMETRY_PERIOD
  | 0x130006 => some .TELEMETRY_FLUSH
  | 0x130100 => some .EVENT_MASKED
  | 0x130101 => some .EVENT_SHED
  | 0x130102 => some .EVENT_STORE_FILL
  | 0x130103 => some .EVENT_LOST
  | 0x130104 => some .TELEMETRY_HEAD
  | 0x130105 => some .TELEMETRY_DROPS
  | 0x020020 => some .DARK_AUTO
  | 0x020021 => some .DARK_IDLE_TIME
  | 0x020022 => some .DRAM_SR_IDLE
  | 0x020023 => some .TEMP_ALARM_C
  | 0x020024 => some .TEMP_TRIP_C
  | 0x020110 => some .POWER_STATE
  | 0x020111 => some .DARK_MASK
  | 0x020112 => some .TEMP_NOW
  | 0x020113 => some .CORE_POWER
  | 0x020114 => some .BOOT_STAGE_TIME
  | _ => none

end Sys2Proof
end

