-- ==== Sys2Proof/Machine/Tab.lean ====
section
/-! DEFINITION. Sparse tables: the address spaces and object tables of the device as lists of (index, entry) pairs in one canonical
form: indexes strictly rising, and no entry equal to what an unlisted index reads as (`default`). -/
namespace Sys2Proof

/-- A table by index. -/
abbrev Tab (α : Type) := List (Nat × α)

namespace Tab
variable {α : Type}

/-- What an index reads as: its entry, or `d` where none is listed. -/
def getD (d : α) : Tab α → Nat → α
  | [], _ => d
  | (k, v) :: t, i => if k = i then v else getD d t i

/-- What an index reads as where an unlisted index reads as the type's default. -/
def get [Inhabited α] (t : Tab α) (i : Nat) : α := getD default t i

/-- The table without an index. -/
def erase (t : Tab α) (i : Nat) : Tab α := t.filter (fun c => c.1 != i)

/-- An entry put in its place among rising indexes. -/
def insert (i : Nat) (v : α) : Tab α → Tab α
  | [] => [(i, v)]
  | (k, w) :: t => if i < k then (i, v) :: (k, w) :: t else (k, w) :: insert i v t

/-- An index written; writing what an unlisted index reads as removes the entry. -/
def set [Inhabited α] [DecidableEq α] (t : Tab α) (i : Nat) (v : α) : Tab α :=
  if v = default then erase t i else insert i v (erase t i)

/-- An index's entry changed by a function. -/
def mod [Inhabited α] [DecidableEq α] (t : Tab α) (i : Nat) (f : α → α) : Tab α := set t i (f (get t i))

/-- Every listed index for which `p` holds of index and entry. -/
def keys (t : Tab α) (p : Nat → α → Bool) : List Nat := (t.filter (fun c => p c.1 c.2)).map (·.1)

/-- Indexes strictly rising. -/
def rising : Tab α → Bool
  | [] => true
  | [_] => true
  | a :: b :: t => a.1 < b.1 && rising (b :: t)

/-- The canonical form. -/
def wf [Inhabited α] [DecidableEq α] (t : Tab α) : Bool :=
  rising t && t.all (fun c => decide (c.2 ≠ default))

/-- The entries written at `i`, `i + 1`, … in turn. -/
def setRange [Inhabited α] [DecidableEq α] (t : Tab α) (i : Nat) : List α → Tab α
  | [] => t
  | v :: vs => setRange (set t i v) (i + 1) vs

/-- `n` entries read from `i` on. -/
def getRange [Inhabited α] (t : Tab α) (i : Nat) : Nat → List α
  | 0 => []
  | n + 1 => get t i :: getRange t (i + 1) n

end Tab
end Sys2Proof
end

