-- ==== Sys2Proof/Types/Base.lean ====
section
/-! DEFINITION. Names shared by all subsystems: status codes, the objects commands name, what a started command waits for, frames,
telemetry records, messages to the host and everything that leaves the device. -/
namespace Sys2Proof

/-- Status codes of Table 17.5 (R438). -/
inductive Status where
  | ok | busy | badArg | noRight | noObject | alreadyExists | noSpace | staleEpoch | authFail | faulted | timeout | notReady | deferred
  deriving DecidableEq, Repr, Inhabited

def Status.code : Status → Nat
  | .ok => 0 | .busy => 1 | .badArg => 2 | .noRight => 3 | .noObject => 4 | .alreadyExists => 5 | .noSpace => 6
  | .staleEpoch => 7 | .authFail => 8 | .faulted => 9 | .timeout => 10 | .notReady => 11 | .deferred => 12

/-- The objects of R439 that commands name, and the lane of R548. -/
inductive Obj where
  | terminal (t : Nat)
  | alloc (a : Nat)
  | gem (g : Nat)
  | dsQueue (q : Nat)
  | upQueue (q : Nat)
  | policer (n : Nat)
  | marker (n : Nat)
  | gate (g : Nat)
  | keySlot (k : Nat)
  | dmaChannel (c : Nat)
  | treeChannel (c : Nat)
  | tree (t : Nat)
  | ruleSet
  | flowKey (k : Nat)
  | macKey (k : Nat)
  | param (key inst : Nat)
  | lane (type inst : Nat)
  deriving DecidableEq, Repr

/-- What a started command waits for before its response; each names the object of its procedure. -/
inductive WaitFor where
  | channelStop (c : Nat)
  | termGone (t : Nat)
  | termStep (t : Nat)
  | reranged (t : Nat)
  | rogueEnd (c : Nat)
  | ploamSent (t : Nat)
  | chanFirst (c : Nat)
  | rekey (t : Nat)
  | swapDrain
  | queueDrained (uplink : Bool) (q : Nat)
  | module (id : Nat)
  | regulator (id : Nat)
  | rssi (t : Nat)
  | flush (id : Nat)
  | serialTurn (id : Nat)
  | firmware
  | auditPersist (n : Nat)
  | commission (tree : Nat)
  | protSwitch
  | hibernateExit
  | unitTest (u : Nat)
  | keyDrained (k : Nat)
  | keyCommit (k : Nat)
  | keyFree (k : Nat)
  | retry (n : Nat)
  | pairSwitch
  deriving DecidableEq, Repr

/-- A buffer by its ID and the generation its holder knows; shared by the copies of a replicated packet (R305, R306). -/
structure BufRef where
  id : Nat
  gen : Nat
  shared : Bool := false
  deriving DecidableEq, Repr, Inhabited

/-- A frame inside the device: identity, length L from destination address to FCS (R276), its bytes, the buffer that holds it, and whether
it ends with an invalid FCS (R314, R352). -/
structure Frame where
  id : Nat
  len : Nat
  bytes : List Byte := []
  buf : Option BufRef := none
  bad : Bool := false
  deriving DecidableEq, Repr, Inhabited

/-- A telemetry record (R522): TYPE, INSTANCE, device time and payload words 3 to 7. -/
structure TelRec where
  type : Nat
  inst : Nat
  time : Nat
  payload : List Nat
  deriving DecidableEq, Repr, Inhabited

/-- What a DMA message carries, by FUNC (Table 16.3). -/
inductive Payload where
  | omci (term : Nat) (bytes : List Byte)
  | frame (f : Frame)
  | events (rs : List (EvRec × Option Nat))
  | telemetry (rs : List TelRec)
  deriving DecidableEq, Repr

/-- A whole message for a DMA channel's device-side queue (R416, R417): bytes, META and contents. -/
structure DmaMsg where
  len : Nat
  meta_ : Nat
  payload : Payload
  /-- The buffer of class 13 that holds it, once M.16 has granted one (R303, R417). -/
  buf : Option BufRef := none
  deriving DecidableEq, Repr

end Sys2Proof
end

