-- ==== Sys2Proof/Types/Core.lean ====
section
/-! DEFINITION. Time and the parameter store. -/
namespace Sys2Proof

/-- Device time and elapsed time, both in units of 2^-32 ns: a 64-bit count of nanoseconds with a 32-bit fraction (R111). Elapsed
time is the model's own: it is never slewed or stepped. -/
structure Clock where
  dev : Nat := 0
  up : Nat := 0
  deriving DecidableEq, Repr, Inhabited

/-- References present and what device time runs from (R95, R96, R111): PON references 0 and 1, the Ethernet reference, and the PON
reference selected. -/
structure ClkState where
  ref0 : Bool := false
  ref1 : Bool := false
  eth : Bool := true  -- log entry 3 (DESIGN CHOICE)
  selected : Bool := false
  deriving DecidableEq, Repr, Inhabited

/-- The parameter store: values written (`none`: the default), the boot flash copies of "Next boot" parameters (R447), the values in
force since the last restart for parameters that take effect then, and the read-only items that subsystems count or post. Each is
indexed by key × 2^20 + instance (R442). -/
structure ParamStore where
  vals : Tab (Option Int) := []
  flash : Tab (Option Int) := []
  inForce : Tab (Option Int) := []
  ro : Tab Int := []
  deriving DecidableEq, Repr, Inhabited

end Sys2Proof
end

