-- ==== Sys2Proof/Types/Fwd.lean ====
section
/-! DEFINITION. State of forwarding: rule sets (spec/09), tables and learning (spec/10), queues, meters and gates (spec/11), buffers, the
Glacier and the DRAM (spec/12), uplinks and MACsec (spec/14). -/
namespace Sys2Proof

/-! ### Rule sets and packets (spec/09) -/

/-- A rule (Tables 9.5 and 9.6): value and mask of 384 bits, words 0 to 2 of its action, and CONTROL's VALID. An invalid one keeps its contents. -/
structure Rule where
  value : Nat
  mask : Nat
  w0 : Nat
  w1 : Nat
  w2 : Nat
  valid : Bool := true
  deriving DecidableEq, Repr, Inhabited

/-- The two banks, the same in both uplink regions (R232, R235 to R237). Log entry 96 (DESIGN CHOICE). -/
structure RuleSets where
  /-- The bank of the active set. -/
  active : Nat := 0
  epoch : Nat := 0
  draining : Option Nat := none
  /-- Rules written, by bank × 8192 + index; HITS by region × 16384 + that. -/
  rules : Tab (Option Rule) := []
  hits : Tab Nat := []
  /-- Packets in flight by region × 16 + epoch. -/
  inFlight : Tab Nat := []
  deriving DecidableEq, Repr, Inhabited

/-- A downstream packet between the MAC and its last match (R235, R239). -/
structure Pkt where
  frame : Frame
  mac : Nat
  epoch : Nat := 0
  second : Bool := false
  copy : Nat := 0
  deriving DecidableEq, Repr, Inhabited

/-- Where a frame goes: a downstream queue, an uplink-bound queue, or the bridge queue of a GEM index (R258, R276). -/
inductive Dest where
  | down (q : Nat)
  | up (q : Nat)
  | bridge (gem : Nat)
  deriving DecidableEq, Repr

/-- A classified and metered frame on its way to its queue (R276): client class of its ingress, level override, colour 0 green, 1 yellow,
2 red, parse port, and GEM index on upstream. -/
structure Job where
  frame : Frame
  cls : Nat
  dest : Dest
  level : Option Nat := none
  colour : Nat := 0
  port : Nat := 0
  gem : Nat := 0
  deriving DecidableEq, Repr

/-! ### Buffers (spec/12) -/

/-- What an allocation is for: a frame for its queue, a packet that recirculates with its further copies, the head of a queue's Glacier run. -/
inductive WantFor where
  | job (j : Job)
  | recirc (p : Pkt) (copies : Nat)
  | glacier (watch : Nat)
  deriving DecidableEq, Repr

/-- An allocation asked of M.16: class, length, one that CRITICAL still serves (R312), a cut-through write (R314). -/
structure Want where
  cls : Nat
  len : Nat
  exempt : Bool
  ct : Bool
  what : WantFor
  deriving DecidableEq, Repr

/-- Operations on a buffer (Table 12.3). -/
inductive BufOp where
  | take (cls id gen : Nat)
  | handover (src dst : Nat) (last : Bool) (id gen : Nat)
  | free (cls : Nat) (last : Bool) (id gen : Nat)
  deriving DecidableEq, Repr

/-- A buffer state word (Table 12.2); the free-list link NEXT is the pool's list. -/
structure BufWord where
  alloc : Bool := false
  refcnt : Nat := 0
  holders : Nat := 0
  gen : Nat := 0
  pool : Nat := 0
  length : Nat := 0
  ct : Bool := false
  deriving DecidableEq, Repr, Inhabited

/-- A pool (R302, R309, R310): buffers taken that were never used before, those freed since in order, in use, flags, time frozen. -/
structure Pool where
  fresh : Nat := 0
  freed : List Nat := []
  inUse : Nat := 0
  warn : Bool := false
  frozen : Bool := false
  critical : Bool := false
  frozenAt : Nat := 0
  deriving DecidableEq, Repr, Inhabited

/-- A fault log record (Table 12.5). -/
structure BufFault where
  id : Nat
  named : Nat
  cls : Nat
  kind : Nat
  gen : Nat
  time : Nat
  deriving DecidableEq, Repr

/-- A request at the DRAM controller (R320, R321): bank, row, write, acceptance time, reached level 3. -/
structure DramReq where
  bank : Nat
  row : Nat
  write : Bool
  at_ : Nat
  late : Bool := false
  deriving DecidableEq, Repr, Inhabited

/-- A DRAM channel (R321 to R324). -/
structure DramCh where
  /-- Requests waiting by port, oldest first. -/
  ports : Tab (List DramReq) := []
  lastPort : Nat := 5
  /-- Open row by bank; by port, requests that passed older ones in a row. -/
  rows : Tab (Option Nat) := []
  passes : Tab Nat := []
  /-- Intervals the refresh due is postponed by, and postponements counted. -/
  postponed : Nat := 0
  postponements : Nat := 0
  trained : Bool := false
  retrainDue : Bool := false
  corrected : Nat := 0
  uncorrectable : Nat := 0
  deriving DecidableEq, Repr, Inhabited

/-! ### Tables and learning (spec/10) -/

/-- What a table entry holds beside VALID, STATIC, HIT, AGE and REMAINDER (Tables 10.2 and 10.3). -/
inductive EntVal where
  | flow (kind queue : Nat) (meter : Bool) (marker : Bool) (index : Nat)
  | mac (port moves : Nat) (frozen : Bool) (stamp : Nat)
  deriving DecidableEq, Repr

/-- A valid entry of either table. -/
structure Ent where
  isStatic : Bool
  hit : Bool
  age : Nat
  rem : Nat
  v : EntVal
  /-- HIT and AGE of the control copy in the DRAM, which holds the rest alike (R269). -/
  copyHit : Bool := false
  copyAge : Nat := 0
  deriving DecidableEq, Repr

/-- An eviction record (R260): key, the victim's result, time. -/
structure EvictRec where
  key : Nat
  v : EntVal
  time : Nat
  deriving DecidableEq, Repr

/-- A table: slots by bucket × 4 + slot, overflow entries with their buckets, pass count, scanner, eviction log (R254, R259 to R263). -/
structure TableState where
  slots : Tab (Option Ent) := []
  ovf : Tab (Option (Nat × Ent)) := []
  passes : Nat := 0
  /-- A pass in progress; the scanner stopped after a write of 0. -/
  scanning : Bool := false
  log : List EvictRec := []
  overrun : Nat := 0
  /-- Evictions since the last TABLE_EVICT. -/
  sinceEvent : Nat := 0
  deriving DecidableEq, Repr, Inhabited

/-- An entry of FLOW_ADD (Table 10.2): lookup key K, KIND, QUEUE, METER_EN, METER_TYPE, METER. -/
structure FlowArg where
  key : Nat
  kind : Nat
  queue : Nat
  meter : Bool
  marker : Bool
  index : Nat
  deriving DecidableEq, Repr

/-- A MAC-table key, and the GEM index of an entry of MAC_ADD (Table 10.3). -/
structure MacArg where
  fid : Nat
  addr : Nat
  gem : Nat := 0
  deriving DecidableEq, Repr

/-- A host operation on a table that waits for its turn in the serialiser (R265, R270): entries with the command's flags, keys, or an address. -/
inductive TableOp where
  | flowAdd (flags : Nat) (entries : List FlowArg)
  | flowDelete (keys : List Nat)
  | macAdd (flags : Nat) (entries : List MacArg)
  | macDelete (entries : List MacArg)
  | unfreeze (fid addr : Nat)
  deriving DecidableEq, Repr

/-- A learning message (Table 10.4). -/
structure SerMsg where
  type : Nat
  peer : Bool
  fid : Nat
  gem : Nat
  addr : Nat
  chan : Nat
  time : Nat
  /-- A host operation in place of a message, with the mailbox of its command. -/
  host : Option (Nat × TableOp) := none
  deriving DecidableEq, Repr

/-- A message in a suppression filter (R265). -/
structure Heard where
  fid : Nat
  addr : Nat
  gem : Nat
  at_ : Nat
  deriving DecidableEq, Repr

/-! ### Queues, meters, gates (spec/11) -/

/-- A shaper (R283): CIR in kb/s, CBS in bytes where written, content in units of 1/8,000,000 byte and the time it stands for in ns. -/
structure Shaper where
  cir : Nat := 0
  cbs : Option Nat := none
  content : Int := 0
  at_ : Nat := 0
  /-- A change that waits for the next hand-over decision (R284). -/
  next : Option (Nat × Option Nat) := none
  deriving DecidableEq, Repr, Inhabited

/-- A frame in a queue: its enqueue time, and the acknowledgement of its DRAM write while it is in a Glacier run (R316). -/
structure QFrame where
  frame : Frame
  at_ : Nat
  acked : Bool := false
  /-- Enqueued behind a run, to which it must be appended (R316). -/
  arrival : Bool := false
  deriving DecidableEq, Repr, Inhabited

/-- A queue's counters (Table 11.3): enqueued, served, and dropped by cause. Log entry 285 (DESIGN CHOICE). -/
structure QCounts where
  enqueued : Nat := 0
  served : Nat := 0
  disabled : Nat := 0
  size : Nat := 0
  colour : Nat := 0
  tail : Nat := 0
  flushed : Nat := 0
  neverFits : Nat := 0
  glacier : Nat := 0
  deriving DecidableEq, Repr, Inhabited

/-- A downstream or uplink-bound queue (Table 11.1): `bind` is the GEM index or the MAC, `level` the strict level or the class. -/
structure Queue where
  enable : Bool := false
  bind : Option Nat := none
  level : Nat := 0
  bridge : Bool := false
  quantum : Nat := 1536
  limit : Nat := 262144
  yellow : Option Nat := none
  maxFrame : Nat := 9600
  shaper : Shaper := {}
  /-- Frames on chip from the head; those of the Glacier run; those on chip behind the run. -/
  frames : List QFrame := []
  run : List QFrame := []
  tail : List QFrame := []
  /-- Bytes of the run's first page already returned; a return in progress, and asked of M.16. -/
  runOff : Nat := 0
  returning : Bool := false
  asked : Bool := false
  deficit : Nat := 0
  open_ : Bool := false
  /-- The head frame has been counted in GATE_HOLDS. -/
  held : Bool := false
  counts : QCounts := {}
  deriving DecidableEq, Repr, Inhabited

/-- Deficit of a member at a level (R279). -/
structure Drr where
  deficit : Nat := 0
  open_ : Bool := false
  deriving DecidableEq, Repr, Inhabited

/-- A scheduler node: T_QUANTUM of a terminal where written, and a shaper. -/
structure SchedNode where
  quantum : Nat := 3072
  shaper : Shaper := {}
  deriving DecidableEq, Repr, Inhabited

/-- A single-rate policer (R285), its content in units of 1/8,000,000 byte. -/
structure Policer where
  cir : Nat := 0
  cbs : Nat := 64
  content : Int := 0
  at_ : Nat := 0
  passed : Nat := 0
  dropped : Nat := 0
  deriving DecidableEq, Repr, Inhabited

/-- A three-colour marker (R286): mode 0 RFC 2698, 1 RFC 4115; the second rate and size are PIR, PBS or EIR, EBS. -/
structure Marker where
  mode : Nat := 0
  aware : Bool := false
  redAction : Nat := 0
  markDei : Bool := false
  cir : Nat := 0
  cbs : Nat := 64
  pir : Nat := 0
  pbs : Nat := 64
  c : Int := 0
  p : Int := 0
  at_ : Nat := 0
  green : Nat := 0
  yellow : Nat := 0
  red : Nat := 0
  deriving DecidableEq, Repr, Inhabited

/-- A gate control list in force from `start` on (R289, R290): entries as (open gates, interval in ns). -/
structure GateList where
  entries : List (Nat × Nat)
  cycle : Nat
  start : Nat
  deriving DecidableEq, Repr

/-- A gate instance: operational list, pending list (with its switch instant as its start), a return to no list, gate states of the interval
last begun, and that interval's start + 1 (0: none). -/
structure GateState where
  oper : Option GateList := none
  pending : Option GateList := none
  clearAt : Option Nat := none
  current : Nat := 255
  begun : Nat := 0
  deriving DecidableEq, Repr, Inhabited

/-- Histograms of a queue (R297). -/
structure Hist where
  depth : Tab Nat := []
  delay : Tab Nat := []
  deriving DecidableEq, Repr, Inhabited

/-! ### Uplinks (spec/14) -/

/-- An uplink MAC: link (R360), pauses (R362, R363), statistics (Table 14.3) by number, receive SCs (R364), SecY failure counters. -/
structure MacState where
  up : Bool := false
  aligned : Bool := false
  trained : Bool := false
  /-- Fault sequences in a row, and when the last one came, in elapsed ns. -/
  faults : Nat := 0
  faultAt : Option Nat := none
  /-- Classes the partner pauses, with the device time each resumes. -/
  paused : Tab (Option Nat) := []
  /-- Freezes that pause classes here: pool, classes. -/
  freezes : List (Nat × Nat) := []
  /-- Classes that the partner was last told are paused; a pause frame due and not yet started, and due for every paused class (R363). -/
  told : Nat := 0
  pauseDue : Bool := false
  pauseAll : Bool := false
  /-- End of the frame in transmission, in elapsed ns, and the frame. -/
  busyUntil : Nat := 0
  sending : Option Nat := none
  /-- The encoding SA (R367). -/
  encoding : Option Nat := none
  stats : Tab Nat := []
  scs : List Nat := []
  secFails : Tab Nat := []
  deriving DecidableEq, Repr, Inhabited

/-- A secure association (R364 to R368): its MAC, SCI of a receive SC (none: transmit), AN, in use, extended packet numbers, next PN (of a
receive SA one above the highest accepted), lowest PN as set, and its 802.1AE counters: 0 passed, 1 to 3 by reason of Table 14.2, 7 dropped past
the last PN. -/
structure Sa where
  mac : Nat
  sci : Option Nat
  an : Nat
  enabled : Bool
  xpn : Bool
  pn : Nat
  lowest : Nat := 0
  warned : Bool := false
  exhausted : Bool := false
  counts : Tab Nat := []
  deriving DecidableEq, Repr

/-! ### All of it -/

/-- Key profiles 254 and 255 as set at reset (R251). -/
def bindProfiles : Tab (Option (List Nat)) :=
  [(254, some [3 * 2 ^ 30 + 17 * 2 ^ 14, 1 * 2 ^ 30 + 202 * 2 ^ 21 + 32 * 2 ^ 14, 0, 0]),
   (255, some [3 * 2 ^ 30 + 17 * 2 ^ 14, 2 * 2 ^ 30 + 256 * 2 ^ 21 + 64 * 2 ^ 14, 0, 0])]

/-- Forwarding. -/
structure FwdState where
  rules : RuleSets := {}
  /-- Packets waiting for a parse lane, and recirculation queues, by uplink region. -/
  toParse : Tab (List Pkt) := []
  recirc : Tab (List Pkt) := []
  /-- Key profiles: four extracts; none is all-zero. -/
  profiles : Tab (Option (List Nat)) := bindProfiles
  /-- Flow table (0) and MAC table (1). -/
  tables : Tab TableState := []
  serial : List SerMsg := []
  /-- Suppression filters of Tn.19 and Tn.20, by region × 2 + block, oldest first. -/
  heard : Tab (List Heard) := []
  wants : List Want := []
  ops : List BufOp := []
  jobs : List Job := []
  bufs : Tab BufWord := []
  pools : Tab Pool := []
  faultLog : List BufFault := []
  faultOverrun : Nat := 0
  /-- Pool messages emitted and not yet delivered, oldest first: pool, kind (0 freeze, 1 thaw, 2 critical, 3 critical over), consumer (0 the
  solver, 1 uplink MACs, 2 M.48). -/
  poolMsgs : List (Nat × Nat × Nat) := []
  /-- Pools frozen and critical as M.48 knows them. -/
  moverFrozen : List Nat := []
  moverCritical : List Nat := []
  dram : Tab DramCh := []
  downQ : Tab Queue := []
  upQ : Tab Queue := []
  termNodes : Tab SchedNode := []
  chanNodes : Tab SchedNode := []
  macNodes : Tab SchedNode := []
  /-- Members (terminal, or 8192 + channel for multicast) × 8 + level; member in turn by channel × 8 + level; queue in turn by member × 8 +
  level, and by MAC × 8 + class for uplinks. -/
  members : Tab Drr := []
  outer : Tab Nat := []
  inner : Tab Nat := []
  innerUp : Tab Nat := []
  /-- When each scheduler block may decide again while its capacity is lowered, in 0.01 ns of elapsed time (R280). -/
  schedNext : Tab Nat := []
  policers : Tab Policer := []
  markers : Tab Marker := []
  gates : Tab GateState := []
  /-- Watch slots: watch index and DELAY_LIMIT in ns. -/
  watch : Tab (Option (Nat × Nat)) := []
  hists : Tab Hist := []
  macs : Tab MacState := []
  sas : Tab (Option Sa) := []
  deriving DecidableEq, Repr, Inhabited

end Sys2Proof
end

