-- ==== Sys2Proof/Types/Host.lean ====
section
/-! DEFINITION. State of the host side: mailboxes (spec/17), roles, sessions, audit and calibration (spec/18), host port and DMA
channels (spec/16), events and telemetry (spec/20), power and bring-up (spec/21), lane test and boundary scan (spec/22). -/
namespace Sys2Proof

/-! ### Mailboxes (spec/17) -/

/-- STATE of MB_STATUS (R429, Table 17.2). -/
inductive MbState where
  | idle | posted | running | respReady | reset
  deriving DecidableEq, Repr, Inhabited

/-- A command in C.2: the request's header and body as copied at acceptance (R430), its place in acceptance order, the objects it
names (R439), the role and key of its session, and how far it has run (R441). -/
structure Cmd where
  code : Nat
  seq : Nat
  session : Nat
  flags : Nat
  /-- Role of the session: 0 operator, 1 installer, 2 maker, 3 enrolment, 7 none. -/
  role : Nat
  /-- Session key for the response's MAC, when the request passed check 3 of R435. -/
  key : Option Nat
  body : List Byte
  index : Nat
  objs : List Obj
  started : Bool := false
  switched : Bool := false
  committed : Nat := 0
  wait : Option WaitFor := none
  /-- A result held back until its audit record is in the flash (R468). -/
  reply : Option (Status × Nat × List Int) := none
  /-- MAKER_EN at the acceptance (R459). -/
  maker : Bool := false
  deriving DecidableEq, Repr

/-- A response as C.2 writes it (Table 17.4). The body is the list of values its chapter names. Log entry 6 (DESIGN CHOICE). -/
structure Response where
  code : Nat
  seq : Nat
  session : Nat
  status : Nat
  switched : Bool
  detail : Nat
  body : List Int
  mac : Nat
  doneTime : Nat
  deriving DecidableEq, Repr

/-- Mailbox n: MB_STATUS, MB_CTRL, MB_COUNT, the request area and the response area (R428). -/
structure Mailbox where
  state : MbState := .idle
  respReady : Bool := false
  doorbellErr : Bool := false
  lastSeq : Nat := 0
  irqEn : Bool := true
  /-- VECTOR as written; none is the default n. -/
  vector : Option Nat := none
  completed : Nat := 0
  request : Tab Byte := []
  response : Option Response := none
  cmd : Option Cmd := none
  deriving DecidableEq, Repr, Inhabited

/-! ### Roles, sessions, audit, calibration (spec/18) -/

/-- A pending challenge of R462 step 2. -/
structure Challenge where
  id : Nat
  nh : Nat
  nd : Nat
  opened : Nat
  deriving DecidableEq, Repr

/-- An open session (R462, R463) with the freshness record of R435; its key is in the role's session slot. -/
structure Session where
  id : Nat
  highest : Option Nat := none
  /-- Bit k: SEQ highest - k has been accepted, k < 64. -/
  seen : Nat := 0
  lastUse : Nat := 0
  deriving DecidableEq, Repr

/-- One role's credential state. -/
structure RoleState where
  session : Option Session := none
  challenge : Option Challenge := none
  /-- Times of failed answers (R464). -/
  fails : List Nat := []
  locked : Bool := false
  /-- Credential in the boot flash, wrapped under the device storage key (R458); roles 0 and 1 only. -/
  wrapped : Option Nat := none
  deriving DecidableEq, Repr, Inhabited

/-- An audit record (Table 18.2). -/
structure AuditRec where
  time : Nat
  command : Nat
  status : Nat
  role : Nat
  mailbox : Nat
  switched : Bool
  session : Nat
  seq : Nat
  deriving DecidableEq, Repr

/-- The audit ring (R466 to R468): records held with their numbers and chain values, oldest first. -/
structure Audit where
  next : Nat := 0
  /-- (number, record, chain value after it) of the records held. -/
  ring : List (Nat × AuditRec × Nat) := []
  /-- Chain value of the record before the oldest held. -/
  base : Option Nat := none
  /-- Number of records persisted, and what the audit area holds. -/
  persisted : Nat := 0
  flash : List (Nat × AuditRec × Nat) := []
  /-- Chain value of the record before the oldest in the area. -/
  flashBase : Option Nat := none
  oldestUnpersisted : Option Nat := none
  failing : Bool := false
  /-- Refusals recorded and in excess in the running second (R465). -/
  refusals : Nat := 0
  excess : Nat := 0
  deriving DecidableEq, Repr, Inhabited

/-- One entry of a calibration overlay (R470). -/
structure CalEntry where
  item : Nat
  inst : Nat
  replace : Bool
  value : Int
  deriving DecidableEq, Repr

/-- A calibration overlay (R470). -/
structure Overlay where
  version : Nat
  entries : List CalEntry
  deriving DecidableEq, Repr

/-- Roles, audit and calibration. -/
structure RolesState where
  roles : Tab RoleState := []
  makerEn : Bool := false
  enrolled : Bool := false
  audit : Audit := {}
  /-- The two flash copies of the overlay, and the one in force since boot. -/
  overlayA : Option Overlay := none
  overlayB : Option Overlay := none
  overlay : Option Overlay := none
  deriving DecidableEq, Repr, Inhabited

/-! ### Firmware and control pairs (spec/17, R441, R450 to R452; spec/19 R490) -/

/-- What a check of a boot image finds (R471, Table 18.4). -/
structure ImageCheck where
  signature : Bool
  payload : Bool
  major : Nat
  minor : Nat
  build : Nat
  security : Nat
  stateFormat : Nat
  deriving DecidableEq, Repr, Inhabited

/-- A control pair's condition (R24, R490). -/
inductive PairState where
  | absent | active | standby | restarting | condemned
  deriving DecidableEq, Repr, Inhabited

/-- Progress of FW_ACTIVATE (R451). -/
inductive FwProgress where
  | none | rebuilding | loading
  deriving DecidableEq, Repr, Inhabited

/-- Firmware, images and control pairs. -/
structure FwState where
  /-- Active pair: false pair A (C.0), true pair B (C.1). -/
  pairB : Bool := false
  stateA : PairState := .active
  stateB : PairState := .absent
  /-- Image booted, image running on the active pair, boot image: false A, true B. -/
  booted : Bool := false
  running : Bool := false
  bootImage : Bool := false
  /-- 32-bit count of the boot-select record (R472). -/
  bootCount : Nat := 0
  /-- Header of the running image, and of the other one. -/
  header : ImageCheck := default
  newHeader : ImageCheck := default
  progress : FwProgress := .none
  standbyOnRunning : Bool := false
  /-- Bytes of images A and B written by FW_IMAGE_WRITE (an unlisted byte is erased or as shipped). -/
  imageA : Tab (Option Byte) := []
  imageB : Tab (Option Byte) := []
  /-- 64 KiB sectors of the other image erased by the update in hand (R450). -/
  erasedSectors : List Nat := []
  securityMin : Nat := 0
  /-- No command starts its effect while a pair switch is in hand (R441). -/
  hold : Bool := false
  /-- Pairs that restart and self-test after a fault (R490). -/
  testA : Bool := false
  testB : Bool := false
  /-- Signal-link commands from the standby pair discarded, per region (R24). -/
  discarded : Tab Nat := []
  /-- Region handlers' copies of signal-link commands accepted, per region. -/
  accepted : Tab Nat := []
  deriving DecidableEq, Repr, Inhabited

/-! ### Host port and DMA (spec/16) -/

/-- A trigger set, operational or shadow (R411). -/
structure TrigSet where
  fallback : Nat := 0
  chainSrc : Nat := 0
  hi : Nat := 0
  lo : Nat := 0
  timer : Nat := 0
  burst : Nat := 0
  count : Nat := 0
  time : Nat := 0
  deriving DecidableEq, Repr, Inhabited

/-- STATE of CH_STATUS. -/
inductive ChState where
  | disabled | idle | active | stopped | error
  deriving DecidableEq, Repr, Inhabited

/-- The descriptor in progress: ring index, its fields (Table 16.5), bytes moved and whether this message began in it. -/
structure DescRun where
  index : Nat
  length : Nat
  irq : Bool
  sop : Bool
  eop : Bool
  meta_ : Nat
  moved : Nat := 0
  /-- BUF_ADDR, and with IDX = 1 ELEM_SIZE and the offsets of the index table (R413). -/
  addr : Nat := 0
  elem : Nat := 0
  offsets : List Nat := []
  deriving DecidableEq, Repr

/-- One DMA channel (Table 16.4). -/
structure DmaCh where
  enable : Bool := false
  func : Nat := 0
  /-- VECTOR as written; none is the default of Table 16.2. -/
  vector : Option Nat := none
  irqEn : Bool := false
  state : ChState := .disabled
  req : Bool := false
  lateWrite : Bool := false
  abort : Bool := false
  abortDone : Bool := false
  descErr : Bool := false
  busErr : Bool := false
  cfgErr : Bool := false
  irqPend : Bool := false
  errIndex : Nat := 0
  ringBaseLo : Nat := 0
  ringBaseHi : Nat := 0
  ringLog2 : Nat := 3
  head : Nat := 0
  tail : Nat := 0
  doneCount : Nat := 0
  oper : TrigSet := {}
  shadow : TrigSet := {}
  pending : Bool := false
  residue : Nat := 0
  /-- Device-side queue, oldest first (R417). -/
  queue : List DmaMsg := []
  /-- Message in hand: bytes of the front message already moved, and descriptors it has used. -/
  taken : Bool := false
  msgMoved : Nat := 0
  msgDescs : Nat := 0
  run : Option DescRun := none
  /-- The last burst of the descriptor in progress has ended. -/
  burstEnded : Bool := false
  /-- OWN rereads done at this index (R415). -/
  rereads : Option Nat := none
  /-- From-host message being gathered: META of its SOP descriptor and bytes. -/
  gather : Option (Nat × List Byte) := none
  /-- Completions not yet covered by an interrupt (R420). -/
  uncovered : Nat := 0
  /-- A fallback trigger lets the channel run (R418). -/
  timerRun : Bool := false
  chainRun : Bool := false
  discards : Nat := 0
  deriving DecidableEq, Repr, Inhabited

/-- An MSI-X table entry (R409). -/
structure MsixEntry where
  addrLo : Nat := 0
  addrHi : Nat := 0
  data : Nat := 0
  masked : Bool := true  -- log entry 162 (PRESUMED)
  deriving DecidableEq, Repr, Inhabited

/-- The endpoint (spec/16). -/
structure HostPort where
  timeHiLatch : Nat := 0
  bar2Base : Nat := 0
  flrCount : Nat := 0
  width : Nat := 0
  speed : Nat := 0
  perst : Bool := false
  msix : Tab MsixEntry := []
  /-- Pending bits of masked vectors. -/
  pba : Tab Bool := []
  channels : Tab DmaCh := []
  /-- The channel last used by each FUNC and direction, for messages spread in turn (R410). -/
  lastOf : Tab Nat := []
  /-- Messages for a FUNC on their way to C.9, oldest first. -/
  staged : List (Nat × DmaMsg) := []
  /-- OMCI messages lost at the queue limit, per terminal (R417). -/
  omciLost : Tab Nat := []
  /-- Upstream OMCI messages whose integrity check failed, per terminal (Table 1.4). -/
  omciBad : Tab Nat := []
  deriving DecidableEq, Repr, Inhabited

/-! ### Events and telemetry (spec/20) -/

/-- A kind's route (R515): destination, and a vector; `none` in `vector` is the kind's default vector. -/
structure Route where
  store : Bool := false
  vector : Option (Option Nat) := none
  deriving DecidableEq, Repr, Inhabited

/-- Rate limiting of a kind at one instance (R513): time of the last record and of the occurrences of the last second. -/
structure RateState where
  last : Option Nat := none
  times : List Nat := []
  deriving DecidableEq, Repr, Inhabited

/-- An event vector's holdoff (R518). -/
structure VecState where
  holdoff : Bool := false
  due : Bool := false
  deriving DecidableEq, Repr, Inhabited

/-- Events and telemetry. -/
structure EvState where
  /-- Records raised and not yet at C.7, in the order raised. -/
  transit : List EvRec := []
  seq : Nat := 0
  /-- Records of each source in the running 1 ms period (R513). -/
  burst : Tab Nat := []
  maskKind : Tab Bool := []
  maskSource : Tab Bool := []
  routes : Tab Route := []
  /-- Open batch: each record with the vector of its route at arrival (R515, R516), and the EVENT_BATCH in force for it. -/
  batch : List (EvRec × Option Nat) := []
  batchMax : Nat := 0
  /-- The store of C.7, at most 256 records in SEQ order (R517), each with its vector. -/
  store : List (EvRec × Option Nat) := []
  vectors : Tab VecState := []
  rate : Tab RateState := []
  /-- The one EVENT_LOSS waiting: cause, count, and time of its first loss (R519). -/
  loss : Option (Nat × Nat × Nat) := none
  /-- Records lost since the previous batch (R516). -/
  lostSinceBatch : Nat := 0
  /-- Type mask of TELEMETRY_SET (R522). -/
  telMask : Nat := 2
  /-- Telemetry ring: (byte offset, record), oldest first, and those not yet exported. -/
  telRing : List (Nat × TelRec) := []
  telHead : Nat := 0
  /-- Records produced and not yet written to the ring. -/
  telStaged : List TelRec := []
  /-- Records of the open telemetry message (R523), and the number in the ring not yet exported. -/
  telOpen : List TelRec := []
  telUnexported : Nat := 0
  deriving DecidableEq, Repr, Inhabited

/-! ### Power and bring-up (spec/21) -/

/-- The device's power state (R537) or the transition in hand (R543). -/
inductive DevPower where
  | active | standby | hibernate | bringup | hibernateExit | off
  deriving DecidableEq, Repr, Inhabited

/-- Reset, power and bring-up. -/
structure PowerState where
  resetN : Bool := true
  pwrGood : Bool := true
  thermTripN : Bool := true
  dev : DevPower := .bringup
  /-- Step in progress (DEV_STATE.STAGE), and whether step 3 has ended, mailboxes are ready, and the device has halted. -/
  stage : Nat := 3
  ready : Bool := false
  halted : Bool := false
  /-- Start of the step in progress. -/
  stepStart : Nat := 0
  stageTime : Tab Nat := []
  /-- No PON reference at step 8: lane calibration deferred (R532). -/
  calDeferred : Bool := false
  ponCalibrated : Bool := false
  /-- Channels in the Dark channel state, and those due to enter or leave it at the next frame start with the cause. -/
  dark : Tab Bool := []
  darkDue : Tab (Option (Bool × Nat)) := []
  alarmed : Tab Bool := []
  tripRun : Tab Nat := []
  /-- DRAM channels in self-refresh (R539). -/
  selfRefresh : Tab Bool := []
  imageFallback : Bool := false
  deriving DecidableEq, Repr, Inhabited

/-! ### Lane test and boundary scan (spec/22) -/

/-- A lane's generator, checker, injector and loop (R551 to R556). -/
structure LaneTest where
  gen : Bool := false
  chk : Bool := false
  pattern : Nat := 0
  invert : Bool := false
  loop : Nat := 0
  locked : Bool := false
  compared : Nat := 0
  errors : Nat := 0
  losses : Nat := 0
  injBits : Nat := 0
  injLeft : Nat := 0
  injInterval : Nat := 0
  /-- An injection that replaces the one in progress at the next injection start (R555). -/
  injNext : Option (Nat × Nat × Nat) := none
  deriving DecidableEq, Repr, Inhabited

/-- The test access port (R559): instruction register, and the boundary register's preloaded values. -/
structure TapState where
  ir : Nat := 2
  preload : Nat := 0
  deriving DecidableEq, Repr, Inhabited

end Sys2Proof
end

