-- ==== Sys2Proof/Types/Key.lean ====
section
/-! DEFINITION. Key slots and the cipher field (spec/13). -/
namespace Sys2Proof

/-- A key: value, and 256 bits long. -/
structure KeyVal where
  key : Nat
  long : Bool := false
  deriving DecidableEq, Repr, Inhabited

/-- A key as M.46 stores it: two shares (R332). -/
structure KeyShares where
  share0 : Nat
  share1 : Nat
  long : Bool := false
  deriving DecidableEq, Repr, Inhabited

/-- The key that two shares hold. -/
def KeyShares.key (v : KeyShares) : Nat := v.share0 ^^^ v.share1

/-- A key slot (R343, Table 13.5): the current generation, the MSK of a terminal slot, and the generation that drains. -/
structure KeySlot where
  cur : Option KeyShares := none
  msk : Option KeyShares := none
  old : Option KeyShares := none
  gen : Nat := 0
  /-- NEXT_PENDING: a rewrite committed, the old generation still draining; ERASE_PENDING. -/
  draining : Bool := false
  erasing : Bool := false
  /-- COMMIT_TIME: device time bits [47:0]. -/
  commitTime : Nat := 0
  /-- A tether slot's generation held pending (R381). -/
  pending : Option KeyVal := none
  /-- Body of the response that waits for a commit. -/
  reply : List Int := []
  deriving DecidableEq, Repr, Inhabited

/-- A switch announced (R108): the new index, and S once the first copy was sent. -/
structure KeySwitch where
  index : Nat
  s : Option Nat := none
  deriving DecidableEq, Repr, Inhabited

/-- A PON pair: pairs 0 to 8191 of terminals, 8192 + c of channel c (R107, R108). -/
structure KeyPair where
  /-- Index in force: 0 none yet. -/
  inForce : Nat := 0
  pending : Option KeySwitch := none
  /-- A forced write of the index in force: slot, key, elapsed time from which a frame start commits it (R347). -/
  forced : Option (Nat × KeyVal × Nat) := none
  lastSwitch : Nat := 0
  deriving DecidableEq, Repr, Inhabited

/-- A block's generator (R332, R333): its seed and the outputs of 24 bits taken since. -/
structure Generator where
  seed : Nat := 0
  outputs : Nat := 0
  /-- A reseed is late; stopped at 2^22 outputs. -/
  late : Bool := false
  stopped : Bool := false
  deriving DecidableEq, Repr, Inhabited

/-- What a cell is sent for a block: its own shares of the key, and the random bits of its S-box evaluations (R332). -/
structure CellWork where
  /-- Block role and cell. -/
  block : Nat
  cell : Nat
  share0 : Nat
  share1 : Nat
  mask : Nat
  deriving DecidableEq, Repr, Inhabited

/-- A block of a job on a cell pair (R330, R331): its operation, when the pair delivers it, and the attempts that mismatched, with their outputs. -/
structure PairWork where
  op : Nat
  job : Nat
  index : Nat
  a : CellWork
  b : CellWork
  due : Nat
  attempts : List ((CellWork × Nat) × (CellWork × Nat)) := []
  deriving DecidableEq, Repr, Inhabited

/-- A job of a dispatcher (R334, R336): class 0 receive, 1 express tapes, 2 transmit, 3 integrity codes and host jobs, 4 speculative; the key latched
for it; blocks in all, given to pairs, delivered out of order, and released in block order; an operation of it failed; the mailbox of a host job. -/
structure CipherJob where
  id : Nat
  cls : Nat
  key : Option KeyShares
  blocks : Nat
  issued : Nat := 0
  done : List Nat := []
  released : Nat := 0
  failed : Bool := false
  mailbox : Option Nat := none
  deriving DecidableEq, Repr, Inhabited

/-- A region's dispatcher: jobs, blocks on pairs, and mismatched ones that wait for a fresh pair. -/
structure CipherRegion where
  oddCount : Nat := 0
  failed : Nat := 0
  jobs : List CipherJob := []
  flight : List PairWork := []
  retries : List PairWork := []
  nextJob : Nat := 0
  nextOp : Nat := 0
  deriving DecidableEq, Repr, Inhabited

/-- M.46, C.6's health and the dispatchers. -/
structure CipherState where
  slots : Tab KeySlot := []
  pairs : Tab KeyPair := []
  generators : Tab Generator := []
  /-- Health tests failed (R333). -/
  entropyBad : Bool := false
  regions : Tab CipherRegion := []
  /-- Cells found odd too often: they receive no further work (R331), by cell address. -/
  barred : Tab Bool := []
  /-- Times a cell was found odd in the last second, by cell address. -/
  odd : Tab (List Nat) := []
  /-- Express cut-through frames whose verdict is awaited (R352): MAC, SA, frame identity, PN. -/
  cutThrough : List (Nat × Nat × Nat × Nat) := []
  /-- Key slots wrapped in the system segment at Hibernate (R350). -/
  saved : Tab KeySlot := []
  /-- Verifications failed in CMAC_JOB (R351). -/
  authFails : Nat := 0
  deriving DecidableEq, Repr, Inhabited

end Sys2Proof
end

