-- ==== Sys2Proof/Types/Dba.lean ====
section
/-! DEFINITION. Allocations, the solver and grant maps (spec/05 R122, spec/07, spec/08). -/
namespace Sys2Proof

/-- A contract (Table 7.1). -/
structure Contract where
  rf : Nat := 0
  ra : Nat := 256
  rna : Nat := 0
  rm : Nat := 1024
  w : Nat := 1
  lat : Nat := 0
  preann : Nat := 0
  deriving DecidableEq, Repr, Inhabited

/-- A backlog stamp (R182): time on the frame timeline in ns, bytes, counted as missed. -/
structure Stamp where
  time : Nat
  bytes : Nat
  missed : Bool := false
  deriving DecidableEq, Repr, Inhabited

/-- An allocation: its map entry (Table 5.1), contract, ledger, demand and grant history (R172 to R191). -/
structure Alloc where
  valid : Bool := false
  chan : Nat := 0
  allocId : Nat := 0
  dflt : Bool := false
  term : Nat := 0
  contract : Contract := {}
  /-- A contract to take effect at the next cut-off (R173). -/
  nextContract : Option Contract := none
  acc : Nat := 0
  ledger : Int := 0
  resetLedger : Bool := false
  demand : Nat := 0
  stamps : List Stamp := []
  /-- (frame, payload bytes) of the last 16 maps, newest first (R177). -/
  history : List (Nat × Nat) := []
  /-- Report in the store: FRAME and BUFOCC, newest (R177). -/
  report : Option (Nat × Nat) := none
  /-- Frame of its last grant, frames in a row without what it wants of tier 4a and of tier 4b, ledger as last mirrored and its frame (R176, R189,
  R199). -/
  lastGrant : Option Nat := none
  withheldA : Nat := 0
  withheldB : Nat := 0
  mirrored : Int := 0
  mirroredAt : Nat := 0
  /-- Ledger as the control copy has it, updated every 64 frames (R487). -/
  copied : Int := 0  -- log entry 295 (DESIGN CHOICE)
  deriving DecidableEq, Repr, Inhabited

/-- A pre-announcement (R194). -/
structure Preann where
  alloc : Nat
  frame : Nat
  bytes : Nat
  bursts : Nat
  deriving DecidableEq, Repr, Inhabited

/-- What an allocation is granted in a frame: bytes by tier, bursts of its tier 1 and 2 bytes. -/
structure Grant where
  alloc : Nat
  fixed : Nat := 0
  t2 : Nat := 0
  poll : Bool := false
  t3 : Nat := 0
  t4a : Nat := 0
  t4b : Nat := 0
  n : Nat := 1
  deriving DecidableEq, Repr, Inhabited

/-- A terminal's part of a solution. -/
structure TermGrant where
  term : Nat
  rate : Nat
  short : Bool
  ploamu : Bool
  /-- Its burst memory entry in Tn.12. -/
  entry : Nat := 0
  /-- |Δ| of an update in progress, in bits (R213). -/
  slack : Nat := 0
  grants : List Grant
  deriving DecidableEq, Repr, Inhabited

/-- Kinds of window (Table 8.3). -/
inductive WinKind where
  | discovery | ranging (term : Nat) | quiet
  deriving DecidableEq, Repr, Inhabited

/-- A window asked for and not yet booked (R208): rate, offsets of its interval from the grant's StartTime in ns, first carrying frame. -/
structure WinReq where
  kind : WinKind
  rate : Nat
  from_ : Int
  to_ : Int
  firstFrame : Nat := 0
  /-- Restricted to re-admitted serial numbers (R147). -/
  readmit : Bool := false
  deriving DecidableEq, Repr, Inhabited

/-- A booked window: carrying frame, StartTime in ns, interval in ns on the frame timeline. -/
structure Window where
  kind : WinKind
  rate : Nat
  frame : Nat
  start : Nat
  from_ : Int
  to_ : Int
  readmit : Bool := false
  deriving DecidableEq, Repr, Inhabited

/-- An allocation structure of a BWmap (R204): Alloc-ID, flags, StartTime position and GrantSize, profile. -/
structure BwStruct where
  allocId : Nat
  dbru : Bool := true
  ploamu : Bool := false
  start : Nat
  size : Nat
  profile : Nat
  deriving DecidableEq, Repr, Inhabited

/-- KIND of a lane entry (Table 8.3). -/
inductive LaneKind where
  | burst | discovery | ranging | quiet
  deriving DecidableEq, Repr, Inhabited

/-- A lane entry (Table 8.3), positions in position units. -/
structure LaneEntry where
  start : Nat
  duration : Nat
  kind : LaneKind
  short : Bool := false
  sleepAfter : Bool := false
  rate : Nat
  /-- Terminal of a burst and its burst memory entry in Tn.12; none and 0 for windows. -/
  term : Option Nat := none
  entry : Nat := 0
  cont : Bool := false
  deriving DecidableEq, Repr, Inhabited

/-- A map (Tables 8.1 to 8.3) with the payload bytes of each allocation, as the solver charges them (R190). -/
structure GrantMap where
  frame : Nat := 0
  fallback : Bool := false
  /-- No map was held: the frame carries no structure (R207). -/
  empty : Bool := false
  structs : List BwStruct := []
  lane : List LaneEntry := []
  lastRate : Nat := 0
  lastTerm : Option Nat := none
  switches : Nat := 0
  /-- (allocation index, payload bytes) granted. -/
  granted : List (Nat × Nat) := []
  /-- Of those, in tier 3, 4a and 4b (Table 20.5). -/
  tiers : List Nat := []
  /-- Preamble start of the last burst of each allocation (R212). -/
  pins : List (Nat × Nat) := []
  deriving DecidableEq, Repr, Inhabited

/-- What the constructor builds a map from besides the solution, as it stood at the cut-off (R217): Alloc-ID and LAT by allocation index, ONU-IDs of
terminals with a window, the window calendar, Teqd in ns, GM_RATE_GAP, DBA_MIN_GRANT, SLEEP_UP_EN and SLEEP_MIN_GAP. -/
structure MapInputs where
  allocs : List (Nat × Nat × Nat) := []
  onus : List (Nat × Nat) := []
  calendar : List Window := []
  teqd : Int := 0
  rateGap : Nat := 0
  minGrant : Nat := 0
  sleepUp : Bool := false
  sleepGap : Nat := 0
  deriving DecidableEq, Repr, Inhabited

/-- A solution posted for a channel (R203). -/
structure Solution where
  frame : Nat := 0
  inputs : MapInputs := {}
  terms : List TermGrant := []
  /-- (allocation index, entitlement E) (R190). -/
  ideal : List (Nat × Int) := []
  /-- Time by tier in the cost unit: 1, 2, polls, 3, 4a, 4b; structures used. -/
  tierTime : List Nat := []
  structures : Nat := 0
  deriving DecidableEq, Repr, Inhabited

/-- A map copy on its way to the tree region with its fallback for the next frame (R204). -/
structure MapCopy where
  map : GrantMap
  fallback : GrantMap
  deriving DecidableEq, Repr, Inhabited

/-- A channel's part of the solver, constructor and framer maps. -/
structure ChanMaps where
  requests : List WinReq := []
  calendar : List Window := []
  solution : Option Solution := none
  /-- E of the run in hand, kept until the frame's map is sent. -/
  entitled : List (Nat × Int) := []
  posted : Option MapCopy := none
  /-- Held in the framer: built map, whether its CRC is good, fallback. -/
  built : Option (GrantMap × Bool) := none
  /-- Fallback maps held, for the frame to come and the one after it. -/
  fallbacks : List GrantMap := []
  /-- Decided at the framing deadline; none with `decided` is a filler frame (R488). -/
  chosen : Option GrantMap := none
  /-- Frame of the last framing deadline passed. -/
  deadline : Nat := 0
  sent : GrantMap := {}
  /-- Time of the cut-off of the run in hand, for GM_BUILD_TIME. -/
  cutoffAt : Nat := 0
  lastTimes : List Nat := []
  cut : Bool := false
  highest : Option Nat := none
  deriving DecidableEq, Repr, Inhabited

/-- M.40 to M.45. -/
structure DbaState where
  allocs : Tab Alloc := []
  preanns : List Preann := []
  /-- Reports on their way to the report store (R160): allocation, FRAME, BUFOCC. -/
  transit : List (Nat × Nat × Nat) := []
  /-- Pools frozen as the solver has been told (R28), and as latched at the last cut-off. -/
  frozen : Nat := 0
  latchedFrozen : Nat := 0
  /-- Upstream capacity percentage, highest rate and report sequence of each channel as latched (R197). -/
  capacity : Tab (Option (Nat × Nat × Nat)) := []
  /-- Frame of the last run, and pre-announcements dropped (R194). -/
  lastRun : Nat := 0
  /-- Ledger clamps counted (R190). -/
  clamps : Nat := 0
  preannDrops : Nat := 0
  deriving DecidableEq, Repr, Inhabited

end Sys2Proof
end

