-- ==== Sys2Proof/Types/Lane.lean ====
section
/-! DEFINITION. State of tree lanes, optics signals, module management and burst memory (spec/03). -/
namespace Sys2Proof

/-- STATE of a burst memory entry (Table 3.5). -/
inductive BmState where
  | empty | seed | learned
  deriving DecidableEq, Repr, Inhabited

/-- What a receive lane starts a burst from: rate, CDR phase in 1/64 UI, frequency offset in 0.01 ppm, taps D1 to D5, equaliser code and
threshold offset (R58, R74). -/
structure LaneSettings where
  rate : Nat := 0
  phase : Int := 0
  freqOff : Int := 0
  taps : List Int := [0, 0, 0, 0, 0]
  ctle : Nat := 0
  thresh : Int := 0
  deriving DecidableEq, Repr, Inhabited

/-- A burst memory entry (Table 3.5); its index is the terminal. -/
structure BmEntry where
  valid : Bool := false
  state : BmState := .empty
  channel : Nat := 0
  rate : Nat := 0
  shortQual : Bool := false
  set : LaneSettings := {}
  rssiClass : Nat := 8
  cleanRun : Nat := 0
  sinceMiss : Nat := 0
  missSeen : Bool := false
  lastFrame : Nat := 0
  phaseRef : Int := 0
  generation : Nat := 0
  deriving DecidableEq, Repr, Inhabited

/-- What a receive lane is to receive next: a lane entry of the map sent with frame `frame`, or, with no entry, that whole upstream frame under
an empty map, at a rate (R205, R207). -/
structure PlanEntry where
  frame : Nat
  entry : Option LaneEntry
  rate : Nat
  deriving DecidableEq, Repr, Inhabited

/-- What a transmit lane drives (R57, R85): swing in 1/32 mV, pre and post taps. -/
structure Drive where
  swing : Int
  pre : Int
  post : Int
  deriving DecidableEq, Repr, Inhabited

/-- One serial lane of a tree (R55, R81, R85, R86). -/
structure LaneState where
  active : LaneSettings := {}
  next : LaneSettings := {}
  /-- Terminals of the burst in hand and of the preloaded one; none for a window. -/
  activeFor : Option Nat := none
  nextFor : Option Nat := none
  /-- Phase preloaded for the burst in hand, and whether its preload was late (R76). -/
  preloadPhase : Int := 0
  lateNext : Bool := false
  late : Bool := false
  /-- The maps' entries still to come; the one preloaded; the one in hand, whether its reset pulse has been given (R60) and whether a sleep
  window follows it (R81). -/
  plan : List PlanEntry := []
  nextEntry : Option PlanEntry := none
  current : Option PlanEntry := none
  pulsed : Bool := false
  sleepDue : Bool := false
  asleep : Bool := false
  sleepStart : Nat := 0
  /-- Time asleep in ns that LANE_ASLEEP_TIME does not hold yet. -/
  asleepNs : Nat := 0
  /-- Swing and taps in force on a transmit lane. -/
  drive : Option Drive := none
  /-- Units replaced or lost, as a mask (LANE_SPARE_STATE), faults waiting for the next boundary or gap, spares used. -/
  failedMask : Nat := 0
  waiting : List Nat := []
  sparesUsed : Nat := 0
  lost : Nat := 0
  failed : Bool := false
  /-- The slice shadowed now (R86). -/
  shadow : Nat := 0
  deriving DecidableEq, Repr, Inhabited

/-- A two-wire transaction (R66, R70). -/
inductive ModTxn where
  | poll (tree : Nat)
  | read (id tree page bank offset count : Nat)
  | write (id tree page bank offset : Nat) (data : List Byte)
  | rssi (tree term : Nat)
  /-- A page that C.11 reads of its own (R68). -/
  | page (tree number : Nat)
  deriving DecidableEq, Repr

/-- A two-wire master (R66, R67, R70). -/
structure Master where
  select : Option Nat := none
  setup : Bool := false
  running : Option ModTxn := none
  retried : Bool := false
  polls : List ModTxn := []
  passes : List ModTxn := []
  reads : List ModTxn := []
  deriving DecidableEq, Repr, Inhabited

/-- The measurement outstanding on a tree (R62). -/
structure RssiRun where
  term : Nat
  /-- The pulse has been driven and RSSI_SETTLE runs. -/
  settling : Bool
  deriving DecidableEq, Repr

/-- A tree's optics: signals, loss of light, RSSI rounds, module. -/
structure TreeOptics where
  losPin : Bool := false
  /-- The pin has been active, and inactive, at some time in the window (R63). -/
  pinSeenActive : Bool := false
  pinSeenIdle : Bool := false
  granted : Nat := 0
  delimiters : Nat := 0
  loss : Bool := false
  rssi : Option RssiRun := none
  /-- Terminals of the round still to be measured, a further round due, terminals asked for out of turn. -/
  round : List Nat := []
  roundDue : Bool := false
  asked : List Nat := []
  absentPolls : Nat := 0
  absent : Bool := false
  managed : Bool := false
  managing : Bool := false
  holdoff : Bool := false
  /-- Pages 00h, 01h and 02h as C.11 read them (R68). -/
  pages : Tab (List Byte) := []
  /-- TREEn_BRST and TREEn_RSSI are low until the first frame start after a restart (R65). -/
  heldLow : Bool := false
  deriving DecidableEq, Repr, Inhabited

/-- Lanes, optics and modules. -/
structure LanesState where
  lanes : Tab LaneState := []
  optics : Tab TreeOptics := []
  masters : Tab Master := []
  bmem : Tab BmEntry := []
  nextTxn : Nat := 0
  /-- Dark channels whose wake run is in progress (R83), and those kept awake for an activation (R84). -/
  wakeRun : Tab Bool := []
  keepAwake : Tab Bool := []
  deriving DecidableEq, Repr, Inhabited

end Sys2Proof
end

