-- ==== Sys2Proof/Types/Term.lean ====
section
/-! DEFINITION. Terminals, the identifiers bound to them, PLOAM messages and rogue investigations (spec/05). -/
namespace Sys2Proof

/-- Terminal states (Table 5.3); `free` is an index not provisioned. -/
inductive TermState where
  | free | absent | snAcquired | ranging | operation | lost | disabled
  deriving DecidableEq, Repr, Inhabited

/-- Downstream PLOAM messages (R99). -/
inductive PloamKind where
  | assignOnuId (onu : Nat)
  | rangingTime (eqd : Int)
  | popup
  /-- The copy of three (R127). -/
  | deactivate (copy : Nat)
  | disableSn (enable : Bool)
  /-- Key switch announcement of a pair (R108): new index, copy, and S once fixed. -/
  | keyAnnounce (pair index copy : Nat) (s : Option Nat)
  | profile (index rate : Nat)
  /-- Key exchange request into an index (R349). -/
  | keyRequest (index : Nat)
  deriving DecidableEq, Repr, Inhabited

/-- A message and the terminal addressed; `none` is broadcast. -/
structure PloamMsg where
  kind : PloamKind
  term : Option Nat
  /-- Its message integrity code (R100). -/
  mic : Nat := 0
  deriving DecidableEq, Repr, Inhabited

/-- An equalisation-delay update in progress (R142). -/
structure DriftUpdate where
  delta : Int
  /-- PHASE at step 1 and the delay before it. -/
  phase : Int
  oldEqd : Int
  /-- Second DRIFT_SETTLE running. -/
  again : Bool := false
  deriving DecidableEq, Repr, Inhabited

/-- A ranging result waiting for its Ranging_Time (R136). -/
structure RangeResult where
  eqd : Int
  rho : Int
  deriving DecidableEq, Repr, Inhabited

/-- A terminal key exchange (R349): the index requested and the requests sent. -/
structure KeyExchange where
  index : Nat
  tries : Nat
  deriving DecidableEq, Repr, Inhabited

/-- A terminal (Table 5.4) and the procedures in hand on it. -/
structure Terminal where
  state : TermState := .free
  chan : Nat := 0
  serial : Nat := 0
  /-- ONU-ID asked for at creation; none is the lowest free (R125). -/
  wantOnu : Option Nat := none
  onu : Option Nat := none
  defAlloc : Nat := 0
  omciGem : Nat := 0
  /-- Its burst memory entry in Tn.12 (R71, Table 8.3). -/
  entry : Nat := 0
  rate : Nat := 0
  profileShort : Bool := false
  eqdBits : Int := 0
  eqdPs : Int := 0
  measRt : Nat := 0
  /-- RESP_TIME: bit 15 with the nominal value (R128). -/
  respTime : Nat := 35000
  regId : List Byte := []
  reason : Nat := 0
  dyingGasp : Bool := false
  /-- When the last Dying_Gasp arrived (R143, R159). -/
  gaspAt : Option Nat := none
  /-- A deactivation in hand, by its reason (R127). -/
  deact : Option Nat := none
  /-- Rate it may be acquired at only (R133); not retried until TERM_RERANGE (R137). -/
  onlyRate : Option Nat := none
  blocked : Bool := false
  /-- Answer time A in ns (R132), ranging windows failed, ranging window around the expected arrival instead (R141), its last window
  not counted (R138). -/
  answer : Nat := 0
  attempts : Nat := 0
  centred : Bool := false
  result : Option RangeResult := none
  update : Option DriftUpdate := none
  driftRun : Nat := 0
  missRun : Nat := 0
  /-- Firmware asks for a PLOAMu message (R186). -/
  askPloamu : Bool := false
  /-- Re-admission (R147): windows left to answer in; previous ONU-ID and delay are kept. -/
  readmit : Option Nat := none
  exchange : Option KeyExchange := none
  /-- RANGE_ATTEMPTS of this activation; TERM_DELETE waits for the deactivation. -/
  maxAttempts : Nat := 3
  deleting : Bool := false
  /-- A POPUP after a switch is still to be sent; until then it is not granted (R395). -/
  popupDue : Bool := false
  deriving DecidableEq, Repr, Inhabited

/-- A GEM map entry (Table 5.2). -/
structure GemEntry where
  valid : Bool := false
  chan : Nat := 0
  /-- 0 clear, 1 terminal unicast pair, 2 channel broadcast pair. -/
  cipher : Nat := 0
  dir : Nat := 0
  omci : Bool := false
  mcast : Bool := false
  port : Nat := 0
  term : Nat := 0
  /-- Downstream SDUs dropped at GEM_UNMAP (R124). -/
  dropped : Nat := 0
  deriving DecidableEq, Repr, Inhabited

/-- An observation (R144): kind 0 gap, 1 sleep, 2 window light; the terminal whose burst ended last, and ns since. -/
structure Observation where
  kind : Nat
  term : Option Nat
  since : Nat
  time : Nat
  deriving DecidableEq, Repr, Inhabited

/-- A suspect of an investigation (R145): how many of the observations of phase 1 it precedes, and whether the kind is trailing light. -/
structure Suspect where
  term : Nat
  tally : Nat
  trailing : Bool := false
  deriving DecidableEq, Repr, Inhabited

/-- What the bisection of R147 does next. -/
inductive Bisect where
  /-- Disable sent to every candidate: probe whether light persists. -/
  | all
  /-- First half E re-admitted: probe. -/
  | half (e : List Nat)
  /-- Everyone but the last candidate re-admitted: probe once more. -/
  | last (x : Nat)
  deriving DecidableEq, Repr, Inhabited

/-- An investigation on a tree channel (R144 to R147). -/
structure Rogue where
  /-- 0 none, 1 correlation, 2 probe, 3 bisection. -/
  phase : Nat := 0
  holdoff : Bool := false
  /-- Observations of the last ROGUE_OBS_WINDOW, and those of phase 1. -/
  recent : List Observation := []
  collected : List Observation := []
  /-- Probes still to run and probes that saw light. -/
  probesLeft : Nat := 0
  lit : Nat := 0
  candidates : List Nat := []
  /-- Terminals this investigation has disabled. -/
  disabled : List Nat := []
  step : Option Bisect := none
  suspects : List Suspect := []
  /-- When the last investigation ended, in ns on the frame timeline (R138). -/
  endedAt : Option Int := none
  deriving DecidableEq, Repr, Inhabited

end Sys2Proof
end

