-- ==== Sys2Proof/Types/Chan.lean ====
section
/-! DEFINITION. Tree channels: framer, PLOAM queues, the frame timeline and device time's state (spec/04, spec/06). -/
namespace Sys2Proof

/-- A downstream SDU handed to the framer: its GEM index, the frame, and when it arrived. -/
structure DsSdu where
  gem : Nat
  frame : Frame
  arrived : Nat
  express : Bool
  deriving DecidableEq, Repr, Inhabited

/-- A partly sent SDU (R104): bytes sent and the fragment size it began with (R105). -/
structure OpenSdu where
  sdu : DsSdu
  sent : Nat
  frag : Nat
  deriving DecidableEq, Repr, Inhabited

/-- An XGEM frame carried over to the next framing sublayer frame (R102): SDU, payload bytes from `at_` on, LF. -/
structure Carry where
  sdu : DsSdu
  at_ : Nat
  len : Nat
  last : Bool
  deriving DecidableEq, Repr, Inhabited

/-- A channel's framer (R101 to R105). -/
structure Framer where
  express : List DsSdu := []
  waiting : Option DsSdu := none
  /-- OMCI messages waiting for the waiting slot (Table 1.4). -/
  omci : List DsSdu := []  -- log entry 41 (DESIGN CHOICE)
  /-- Open SDUs in the order begun, and the place of the one whose turn is next. -/
  round : List OpenSdu := []
  turn : Nat := 0
  carry : Option Carry := none
  /-- Payload bytes left before the trailer of the frame in transmission. -/
  space : Nat := 0
  /-- The frame's payload is idle XGEM frames only. -/
  idleOnly : Bool := true
  deriving DecidableEq, Repr, Inhabited

/-- How a channel is stopping (R117). -/
inductive StopState where
  | no | afterFrame | forced (copies : Nat)
  deriving DecidableEq, Repr, Inhabited

/-- An open SDU of a GEM port (R165, R166); `dead`: its SDU is discarded up to the next LF = 1 fragment. -/
structure Reasm where
  /-- REASM_MAX_SDU when it was opened. -/
  max : Nat
  len : Nat
  bytes : List Byte
  last : Nat
  dead : Bool := false
  deriving DecidableEq, Repr, Inhabited

/-- An integration window (R168). -/
structure BerWindow where
  opened : Nat := 0
  bits : Nat := 0
  corrected : Nat := 0
  /-- Exponent, factor, time limit in ms and clear ratio in force since it opened; none until the first burst opens it. -/
  rule : Option (Nat × Nat × Nat × Nat) := none
  deriving DecidableEq, Repr, Inhabited

/-- Keystream dispatched for a terminal's grants of a frame when its map arrived (R341): key index, key as latched, and the dispatcher's job. -/
structure Keystream where
  frame : Nat
  index : Nat
  key : KeyShares
  job : Nat
  deriving DecidableEq, Repr, Inhabited

/-- A burst being received: the frame whose map grants it and its start there, the delimiter's bit position from its scheduled start, the arrival
measurement in 1/64 UI and whether the position is the scheduled one (R155); information bytes decoded, and those of uncorrectable codewords as
ranges (R158); allocations whose delineation is lost (R162); and its keystream. -/
structure BurstRx where
  frame : Nat
  start : Nat
  pos : Int
  arrival : Int
  scheduled : Bool
  decoded : Nat := 0
  bad : List (Nat × Nat) := []
  lost : List Nat := []
  ks : Option Keystream := none
  deriving DecidableEq, Repr, Inhabited

/-- A terminal's line state (R168, R169): SD and SF, the burst in hand, none after a delimiter miss (R156), and keystream for bursts to come. -/
structure LineState where
  rx : Option BurstRx := none
  ks : List Keystream := []
  /-- Key shares fetched, by index, when the terminal's burst memory was last preloaded (R16). -/
  keys : List (Nat × KeyShares) := []
  sd : BerWindow := {}
  sf : BerWindow := {}
  sdOn : Bool := false
  sfOn : Bool := false
  micFails : Nat := 0
  ploamErrored : Nat := 0
  deriving DecidableEq, Repr, Inhabited

/-- An upstream SDU released by reassembly (R165): terminal, GEM index, frame. -/
structure UsSdu where
  term : Nat
  gem : Nat
  frame : Frame
  deriving DecidableEq, Repr, Inhabited

/-- A tree channel. -/
structure ChanState where
  enabled : Bool := false
  /-- Superframe count of the first frame of a channel being enabled, and the start itself not yet answered (R117). -/
  enableAt : Option Nat := none
  firstFrame : Bool := false
  stop : StopState := .no
  urgent : List PloamMsg := []
  normal : List PloamMsg := []
  /-- Messages that firmware holds because a queue is full: urgent, message (R99). -/
  held : List (Bool × PloamMsg) := []
  /-- Taken at the framing deadline for the frame to come: urgent, message. -/
  taken : List (Bool × PloamMsg) := []
  framer : Framer := {}
  maps : ChanMaps := {}
  /-- Unknown serial numbers (R132), and when each was last raised. -/
  unknown : List Nat := []
  raised : List (Nat × Nat) := []
  onuHeld : List Nat := []
  /-- Rate of the last discovery window (R130). -/
  lastDisc : Option Nat := none
  rogue : Rogue := {}
  /-- Upstream messages handed to the active control pair since the last frame start, in burst order: terminal, contents (Table 1.4). -/
  toPair : List (Nat × List Nat) := []
  /-- Bursts of deactivated or unbound holders received and discarded (R217). -/
  discarded : Nat := 0
  deriving DecidableEq, Repr, Inhabited

/-- State of device time (Table 4.4). -/
inductive TodState where
  | free | acquiring | locked | holdover
  deriving DecidableEq, Repr, Inhabited

/-- Device time's corrections (R112 to R115). -/
structure TodData where
  state : TodState := .free
  /-- Stamp of the last edge; the accepted message naming the next edge, and the last that disagreed. -/
  lastEdge : Option Nat := none
  named : Option Nat := none
  disagreed : Option Nat := none
  /-- Second expected at the next edge. -/
  expected : Option Nat := none
  /-- Edges outside the window in a row: stamps, newest first; edges ≤ 100 ns in a row; edges missed in a row. -/
  outside : List Nat := []
  good : Nat := 0
  missing : Nat := 0
  everLocked : Bool := false
  /-- When HOLDOVER was entered, and how long it lasted. -/
  holdSince : Nat := 0
  heldFor : Nat := 0
  /-- Slew still to remove in units of 2^-32 ns, signed, and the correction it began with in ns (R114). -/
  slew : Int := 0
  slewTotal : Nat := 0
  /-- TOD_SLEW_MAX as the last edge found it, in ppm. -/
  slewMax : Nat := 10
  /-- Device time at which the expected second is due. -/
  expectedAt : Nat := 0
  /-- Messages discarded, edges not used. -/
  msgErrors : Nat := 0
  edgesUnused : Nat := 0
  deriving DecidableEq, Repr, Inhabited

/-- The frame timeline (R91 to R93). -/
structure Timeline where
  /-- Superframe count of the next frame start; none while no timeline stands. -/
  next : Option Nat := none
  /-- Elapsed time of the last frame start; before the first one, 125 µs earlier than it. -/
  startAt : Nat := 0
  /-- Count of the last frame started. -/
  sfc : Nat := 0
  /-- Frames in a row misaligned, and the event raised. -/
  misRun : Nat := 0
  misRaised : Bool := false
  alignErr : Int := 0
  deriving DecidableEq, Repr, Inhabited

/-- Framing, device time and upstream reception. -/
structure PonState where
  tl : Timeline := {}
  tod : TodData := {}
  gems : Tab GemEntry := []
  line : Tab LineState := []
  reasm : Tab (Option Reasm) := []
  /-- SDUs released and waiting for Tn.19 and Tn.20 (R165). -/
  released : List UsSdu := []
  deriving DecidableEq, Repr, Inhabited

end Sys2Proof
end

