-- ==== Sys2Proof/Types/Prot.lean ====
section
/-! DEFINITION. The tether, the state mirror and service tokens (spec/15). -/
namespace Sys2Proof

/-- Bodies of mirror records (Table 15.4). -/
inductive MirrorBody where
  | terminal (v : Terminal) (phaseRef : Int)
  | alloc (a : Alloc)
  | gem (e : GemEntry)
  | contract (c : Contract)
  | ledger (ledger : Int) (acc demand : Nat) (stamps : List Stamp)
  /-- Words 0 and 1 of Table 13.5, S, wrapped blob, data key or MSK. -/
  | key (word0 word1 s blob : Nat) (msk : Bool)
  | keyErase
  | channel (enabled : Bool) (teqd : Nat) (delta : Int)
  | checkpoint
  | bulkBegin (n : Nat)
  | bulkEnd (n : Nat)
  deriving DecidableEq, Repr, Inhabited

/-- A mirror record (R387): stream, INDEX, SEQ, superframe count at emission, wrap slot W. -/
structure MirrorRec where
  stream : Nat
  index : Nat
  seq : Nat
  sfc : Nat
  w : Bool := false
  body : MirrorBody
  deriving DecidableEq, Repr

/-- How far a token's release has come (R394): none, stream frozen and waiting for the peer's SEQ, RELEASE set since an elapsed time,
blocked: dark until PROT_CLAIM. -/
inductive Release where
  | none | draining | released (since : Nat) | blocked
  deriving DecidableEq, Repr, Inhabited

/-- A tree's service token (R389). -/
structure Token where
  held : Bool := false
  epoch : Nat := 0
  release : Release := .none
  /-- Fenced after a missing refresh (R391). -/
  fenced : Bool := false
  /-- Taken at this elapsed time; the first frame g_s has not started yet (R395). -/
  takenAt : Option Nat := none
  /-- TAKEN is shown in our messages: taken after the peer's release. -/
  taken : Bool := false
  cause : Nat := 0
  /-- Its mirror was ready here when the last group was lost (R397). -/
  readyAtLoss : Bool := false
  deriving DecidableEq, Repr, Inhabited

/-- A mirror stream (R388). -/
structure Stream where
  emitted : Nat := 0
  applied : Nat := 0
  /-- Applied without a gap since a BULK_END. -/
  clean : Bool := false
  inBulk : Bool := false
  /-- A CHECKPOINT has arrived since one was last found absent (R388). -/
  checkpoint : Bool := false
  resync : Bool := false
  ready : Bool := false
  deriving DecidableEq, Repr, Inhabited

/-- A pair message (Table 15.3). -/
structure PairMsg where
  member : Bool := false
  /-- 0 unpaired, 1 paired, 2 held. -/
  state : Nat := 0
  count : Nat := 0
  sfc : Nat := 0
  phaseNs : Nat := 0
  echoCount : Nat := 0
  echoHold : Nat := 0
  hold : List Bool := []
  ready : List Bool := []
  health : List Bool := []
  release : List Bool := []
  taken : List Bool := []
  epochs : List Nat := []
  seqs : List Nat := []
  keySlot : Option Nat := none
  keyCheck : Nat := 0
  keyCommit : Option Nat := none
  deviceSeq : Nat := 0
  resync : List Bool := []
  deriving DecidableEq, Repr, Inhabited

/-- A tether data lane (R375, R376): in frame at a bit position, candidates tracked as (position, hits), misses in a row, fifth candidates discarded,
skew in UI; the last 2,111 bits received, and the payload in clear of the lane frame that ended last. -/
structure TetherLane where
  inFrame : Bool := false
  pos : Nat := 0
  cands : List (Nat × Nat) := []
  misses : Nat := 0
  dropped : Nat := 0
  skew : Nat := 0
  past : Nat := 0
  payload : Option Nat := none
  deriving DecidableEq, Repr, Inhabited

/-- A group (R374): up, and down because of its skew. -/
structure TetherGroup where
  up : Bool := false
  skewFailed : Bool := false
  deriving DecidableEq, Repr, Inhabited

/-- A frame of the traffic tributary with its descriptor (R379): uplink-bound, queue, yellow. -/
structure TetherFrame where
  up : Bool
  queue : Nat
  yellow : Bool
  frame : Frame
  deriving DecidableEq, Repr, Inhabited

/-- What a tether frame carries, by tributary (R377, R379, R387, R31). -/
inductive TetherPayload where
  | idle
  | traffic (f : TetherFrame)
  | mirror (rs : List MirrorRec)
  | learning (ms : List SerMsg)
  deriving DecidableEq, Repr

/-- A tether frame as received (Table 15.1): CTR_LO, the key generation that GEN names, whether its tag checks, and its payload. -/
structure TetherRx where
  counter : Nat
  gen : Bool
  tagGood : Bool
  payload : TetherPayload
  deriving DecidableEq, Repr

/-- A serial management port (R385): bytes waiting to the tether, and to the pins; drops. -/
structure SmpPort where
  toTether : List Byte := []
  toPins : List Byte := []
  /-- Group frames until the byte on the pins is out: 8 bits at 12.5 MHz last 10 of them. -/
  wait : Nat := 0
  dropsIn : Nat := 0
  dropsOut : Nat := 0
  deriving DecidableEq, Repr, Inhabited

/-- A commissioning measurement (R392): terminals named, differences measured. -/
structure Commission where
  terms : List Nat
  diffs : List Int := []
  deriving DecidableEq, Repr, Inhabited

/-- Region H and protection. -/
structure ProtState where
  paired : Bool := false
  memberB : Bool := false
  heldState : Bool := false
  tokens : Tab Token := []
  streams : Tab Stream := []
  /-- Lanes by tether lane instance, groups by port × 4 + group. -/
  lanes : Tab TetherLane := []
  groups : Tab TetherGroup := []
  /-- The carrier group (R377). -/
  carrier : Option Nat := none
  /-- Frame counters by key × 8 + group: the next one sent, the last accepted (R380); header bytes skipped by group (R378). -/
  txCounters : Tab Nat := []
  rxCounters : Tab (Option Nat) := []
  skipped : Tab Nat := []
  /-- Tether queues, their deficits, and by group the queue in turn (R379). -/
  queues : Tab (List TetherFrame) := []
  drr : Tab Drr := []
  turn : Tab Nat := []
  /-- Records received and not yet applied, oldest first. -/
  mirrorIn : List MirrorRec := []
  smp : Tab SmpPort := []
  /-- A port direction asleep (port × 2 + direction; 0 sent). -/
  sleeping : Tab Bool := []
  msgCount : Nat := 0
  lastAccepted : Option Nat := none
  /-- Latest message accepted, the elapsed times of its acceptance and of its start. -/
  peer : Option PairMsg := none
  peerAt : Nat := 0
  peerStart : Nat := 0
  delay : Nat := 0
  offset : Int := 0
  mismatch : Bool := false
  mismatchAt : Nat := 0
  /-- Heartbeats: level driven, refresh in time, fenced; edges of the peer. -/
  hbLevel : Bool := false
  hbRefreshed : Option Nat := none
  fenced : Bool := false
  hbEdgeAt : Option Nat := none
  /-- PAIR_LOST stands; the peer is silent; it has been, and no message has been accepted since (R397, R398). -/
  pairLost : Bool := false
  silent : Bool := false
  wasSilent : Bool := false
  /-- The tether key write pending (R381): slot k, its mailbox's wait, commit count named, elapsed time it began. -/
  keySlot : Option Nat := none
  keyCommit : Option Nat := none
  keySince : Nat := 0
  /-- Wrap slot committed most recently: false 18,574. -/
  wrap15 : Bool := false
  commission : Tab (Option Commission) := []
  deriving DecidableEq, Repr, Inhabited

end Sys2Proof
end

