-- ==== Sys2Proof/Types/Out.lean ====
section
/-! DEFINITION. What leaves the device: each thing the spec says it sends or drives, in the order sent. -/
namespace Sys2Proof

/-- PSBd and coding of a downstream PHY frame (R97): PSync and operation control structure of the channel's standard, the scrambler's preset, and
the codewords in order, as number, information bytes first, parity bytes last. -/
structure DsPhy where
  psync : Nat
  control : Nat
  preset : Nat
  codewords : List (Nat × Nat × Nat)
  deriving DecidableEq, Repr, Inhabited

/-- One thing sent. -/
inductive Out where
  /-- MSI-X message of a vector (R409). -/
  | msix (vector : Nat)
  /-- Data returned for a BAR read (R10, R407, R408). -/
  | readData (value : Nat)
  /-- A burst to host memory, in pieces of address and bytes, and one from it (R413, R419): channel, ring index; to the host, the message's
  contents and the place in them where the burst begins. -/
  | dmaData (ch index at_ : Nat) (pieces : List (Nat × Nat)) (p : Payload)
  | dmaRead (ch index : Nat) (pieces : List (Nat × Nat))
  /-- Words 6 and 7 of a descriptor: META, DSTAT, DONE (R420). -/
  | dmaStatus (ch index meta_ dstat done : Nat)
  /-- Word 0 of a descriptor with OWN = 0 (R420). -/
  | dmaOwn (ch index : Nat) (sop eop : Bool)
  /-- A voltage target in mV over AVSBus or, `pmbus`, as VOUT_COMMAND (R44). -/
  | voltage (pmbus : Bool) (mv : Nat)
  /-- A regulator transaction passed through (R45). -/
  | regulator (cmd data : Nat)
  /-- A transmit bridge was empty at a word-clock (R51): a tree lane's codeword ends in zeros and a parity that fails the code check; a tether
  lane sends idle fill and its tributary marks the frame invalid. -/
  | badCodeword (lane : Nat)
  | tetherInvalid (lane : Nat)
  /-- A pulse on TREEn_BRST: offset and width in 0.1 ns (R60). -/
  | brst (tree offset width : Nat)
  /-- Swing in 1/32 mV, pre and post taps of a transmit lane (R57, R85). -/
  | txDrive (lane : Nat) (swing pre post : Int)
  /-- A pulse on TREEn_RSSI: lead and width in ns (R62). -/
  | rssi (tree lead width : Nat)
  /-- A two-wire transaction started, nine clocks and a STOP, and the module writes C.11 makes of its own (R66 to R68, R64). -/
  | twoWire (tree : Nat) (txn : List Nat)
  | busClear (master : Nat)
  | moduleLowPowerOff (tree : Nat)
  | laneControls (tree : Nat) (ch0 ch1 : Bool)
  /-- A downstream frame of a channel (R97, R98): superframe count, PSBd and coding, allocation structures, PLOAM messages. -/
  | dsFrame (c sfc : Nat) (phy : DsPhy) (structs : List BwStruct) (ploam : List PloamMsg)
  /-- An XGEM frame (R101, R107): channel, Port-ID, key index, its place among the frame's information bytes, SDU, offset and length of the payload,
  LF, and the payload as sent, encrypted where it has a key. -/
  | xgem (c port keyIndex pos : Nat) (frame at_ len : Nat) (last : Bool) (payload : List Byte)
  /-- Idle XGEM frames of a channel: bytes filled (R102). -/
  | idle (c bytes : Nat)
  /-- A frame leaving an uplink MAC, with the SA and PN that protect it (R361, R364). -/
  | uplink (mac : Nat) (frame : Frame) (sa : Option (Nat × Nat))
  /-- A frame in transmission ends with an invalid FCS (R51), its bytes from here on zeros on a tree channel (R352). -/
  | badFcs (id : Nat)
  /-- A PAUSE, or PFC, frame of a MAC: classes named, those of them paused, and their quanta (R363). -/
  | pause (mac : Nat) (pfc : Bool) (classes paused quanta : Nat)
  /-- A lane frame of a tether data lane (R375): its 64-bit pattern, and the preset of its payload's scrambler; what the payload carries is given
  where it is sent. -/
  | laneFrame (lane pattern preset : Nat)
  /-- A learning message forwarded to the peer (R31, R264). -/
  | learn (m : SerMsg)
  /-- A frame of the traffic tributary: group (port × 4 + group), key slot and frame counter that protect it (R379, R380). -/
  | tether (group slot gen counter : Nat) (f : TetherFrame)
  /-- A pair message, sent on every port with an up group (R383). -/
  | pairMsg (m : PairMsg)
  /-- A management channel byte in an overhead slot, and a byte clocked out on SMPk_OD (R382, R385). -/
  | mgmt (smp : Nat) (b : Byte)
  | smp (smp : Nat) (b : Byte)
  /-- PAIR_HB_OUT driven to a level (R391). -/
  | heartbeat (level : Bool)
  /-- A burst's scheduled preamble start sent to the peer: terminal (R392). -/
  | commission (term : Nat)
  /-- A mirror record handed to the mirror tributary (R387). -/
  | mirror (r : MirrorRec)
  /-- An error injection on a lane: type, instance, consecutive inverted bits (R555). -/
  | injected (type inst bits : Nat)
  /-- A TDO value: the identity code or one bypass bit (R559). -/
  | tdo (value : Nat)
  deriving DecidableEq, Repr

end Sys2Proof
end

