-- ==== Sys2Proof/Types/Pace.lean ====
section
/-! DEFINITION. State of units (spec/19 R476 to R478) and of pace and adaptive voltage (spec/02). -/
namespace Sys2Proof

/-- Unit states (Table 19.2). -/
inductive UnitState where
  | inService | spare | suspect | iced | condemned
  deriving DecidableEq, Repr, Inhabited

/-- A unit as the handlers and the repair log know it; `none` is the state it has at boot. -/
structure UnitRec where
  state : Option UnitState := none
  slow : Bool := false
  icings : Nat := 0
  cause : Nat := 0
  /-- The unit whose role a spare holds. -/
  holds : Option Nat := none
  /-- The spare that holds this unit's role. -/
  replacedBy : Option Nat := none
  /-- Corrected errors of the running hour (R477): times. -/
  corrections : List Nat := []
  /-- Readmission (R501): forbidden by READMIT_POLICY, a test due in the window now open, pace points passed, elapsed time of the first, and
  roles barred. -/
  forbidden : Bool := false
  testDue : Bool := false
  testPoints : Nat := 0
  firstTest : Nat := 0
  barred : List Nat := []
  /-- Swapped out as a suspect and awaiting its test (R498). -/
  swapped : Bool := false
  /-- Its role has been lost for want of a spare (R489). -/
  lost : Bool := false
  deriving DecidableEq, Repr, Inhabited

/-- A fault detected and on its way to a handler (R479, R482): the unit, and the row of Table 19.3 that is its cause. -/
structure FaultReport where
  unit : Nat
  cause : Nat
  deriving DecidableEq, Repr, Inhabited

/-- A handler's slot or queue entry (R482): the unit, its cause, since when, marked repeat, the block at fault where it escalated, a suspect's
swap (R498), and the spare that is loading its role (R486). -/
structure FaultEntry where
  unit : Nat
  cause : Nat
  since : Nat
  again : Bool := false
  origin : Nat := 0
  swap : Bool := false
  spare : Option Nat := none
  deriving DecidableEq, Repr, Inhabited

/-- A handler (R481): recovery slot, queue, and reports subsumed since last read. -/
structure Handler where
  slot : Option FaultEntry := none
  queue : List FaultEntry := []
  subsumed : Nat := 0
  deriving DecidableEq, Repr, Inhabited

/-- A record of the field repair log (Table 19.8). -/
structure RepairRec where
  time : Nat
  unit : Nat
  action : Nat
  role : Nat
  cause : Nat
  deriving DecidableEq, Repr

/-- Handlers, spares and repair maps. -/
structure FaultState where
  /-- By the address of the block or region they serve; the chip handler at 0. -/
  handlers : Tab Handler := []
  /-- Spare cells used up, by block instance. -/
  spareUsed : Tab Nat := []
  /-- Factory repair map as the fuses give it: unit, and the spare in its role (0: none); field repair log. -/
  factory : List (Nat × Nat) := []
  log : List RepairRec := []
  /-- Readmission forbidden for the device; a maintenance window is open. -/
  readmitOff : Bool := false
  window : Bool := false
  /-- Elapsed times of the last lockstep failures of pairs A and B (R490). -/
  lockFailA : Option Nat := none
  lockFailB : Option Nat := none
  /-- Parity repairs of the last second, by table × 8 + bank (Table 19.3). -/
  parity : Tab (List Nat) := []
  deriving DecidableEq, Repr, Inhabited

/-- A block's pace as C.8 keeps it (R36 to R40, R43), in units of G hc/s / 1,000. -/
structure BlockPace where
  /-- Sample of the window in hand, and whether its throughput counters showed a stall. -/
  sample : Option (Nat × Bool) := none
  /-- Windows in a row more than 25 % from the region median. -/
  apart : Nat := 0
  faulty : Bool := false
  /-- Below 2.5 G hc/s with reduced capacity reported; windows in a row at or above it since. -/
  low : Bool := false
  backRun : Nat := 0
  /-- Pace that the reduced capacity is reported by while it is. -/
  lowPace : Nat := 0
  deriving DecidableEq, Repr, Inhabited

/-- A regulator transaction waiting in C.8 (R45): identity, PMBus command, data, and what the regulator answers. -/
structure RegTxn where
  id : Nat
  cmd : Nat
  data : Nat
  answer : List Nat
  deriving DecidableEq, Repr, Inhabited

/-- The figures of a capacity report (R26): the region's whole current capacity. -/
structure Capacity where
  /-- Cell pairs in service, P (R337). -/
  cipherPairs : Nat := 0
  /-- MACsec or tether transmit work in 1/1,000 of its rated rate, P ÷ 2,816 or P ÷ 1,792 (R337). -/
  transmit : Nat := 0
  parseLanes : Nat := 0
  tableBanks : Nat := 0
  /-- Scheduler throughput of M.32 to M.39, in percent. -/
  schedulers : List Nat := []
  /-- Per tree channel of a tree region (R197): upstream capacity percentage, and highest rate code served. -/
  percent : List Nat := []
  highest : List Nat := []
  deriving DecidableEq, Repr, Inhabited

/-- A capacity report sent by a region (R26). -/
structure CapReport where
  seq : Nat
  figures : Capacity
  deriving DecidableEq, Repr, Inhabited

/-- What a consumer holds of a region's reports: the sequence number last applied and the figures. -/
structure CapacityHeld where
  last : Option Nat := none
  figures : Option Capacity := none
  deriving DecidableEq, Repr, Inhabited

/-- Where the loop stands after a target was sent (R42). -/
inductive Settle where
  | ready | settling | partialWindow | fullWindow
  deriving DecidableEq, Repr, Inhabited

/-- C.8. -/
structure PaceState where
  blocks : Tab BlockPace := []
  late : Nat := 0
  loads : Tab Nat := []
  target : Nat := 750
  control : Option (Nat × Nat) := none
  aboveRun : Nat := 0
  inBandRun : Nat := 0
  sinceUp : Nat := 8
  locked : Bool := false
  settle : Settle := .ready
  attempts : Nat := 0
  avsFailed : Bool := false
  pmFailed : Bool := false
  regulator : List RegTxn := []
  nextTxn : Nat := 0
  current : Nat := 0
  temperature : Int := 0
  status : Nat := 0
  /-- Capacity reports: sequence number of each region's last, the reports it has sent, newest first, and what each consumer holds. -/
  capSeq : Tab Nat := []
  capSent : Tab (List CapReport) := []
  held : Tab CapacityHeld := []
  /-- Drops and underruns of each lane bridge, and lanes whose present burst, codeword or frame is spoiled (R50, R51). -/
  overruns : Tab Nat := []
  underruns : Tab Nat := []
  spoiled : Tab Bool := []
  deriving DecidableEq, Repr, Inhabited

end Sys2Proof
end

