-- ==== Sys2Proof/Types/Operands.lean ====
section
/-! DEFINITION. What rows of the table carry beside plain numbers. Log entry 226 (DESIGN CHOICE). -/
namespace Sys2Proof

/-- One route of EVENT_ROUTE_SET: kind code, destination, vector (R515). -/
structure RouteEntry where
  kind : Nat
  store : Bool
  vector : Option Nat
  deriving DecidableEq, Repr

/-- What a PMBus status read answers (R44): output voltage in mV, current in mA, temperature in °C, status word. -/
structure RegStatus where
  mv : Nat
  ma : Nat
  temperature : Int
  status : Nat
  deriving DecidableEq, Repr

/-- A candidate of the delimiter hunt (R151, R152): position in bits from the scheduled start, or from the start of the reserved interval of a window,
mismatched bits, and the ONU-ID that its next position names once the HEC has corrected it; none where it cannot. -/
structure Candidate where
  pos : Int
  mismatch : Nat
  header : Option Nat
  deriving DecidableEq, Repr

/-- A granted burst as received (R151 to R159): candidates in bit order, arrival phase in 1/64 UI, dying gasp flag, BIP errors of its trailer,
and the arrival difference a commissioning peer measured for it, peer less holder, in ps (R392). -/
structure UsBurst where
  cands : List Candidate
  phase : Int
  gasp : Bool
  bip : Nat
  feeder : Option Int
  deriving DecidableEq, Repr

/-- An upstream XGEM frame (R162 to R165): its allocation index, the place of its header among the burst's information bytes, header HEC correctable,
idle, Port-ID, key index, LF, frame identity, and the payload as the decoder passes it, scrambled. -/
structure UsGem where
  alloc : Nat
  at_ : Nat
  header : Bool
  idle : Bool
  port : Nat
  key : Nat
  last : Bool
  id : Nat
  payload : List Byte
  deriving DecidableEq, Repr

/-- A rule as RULE_WRITE carries it (Table 9.5): value, mask, four action words, CONTROL, and the reserved bytes 124 to 127. -/
structure RuleEntry where
  value : Nat
  mask : Nat
  words : List Nat
  control : Nat
  rsv : Nat
  deriving DecidableEq, Repr

/-- A damaged slot that a table lookup reads, as the environment has it: table and slot of the bucket (R269). -/
abbrev Parity := Option (Fin 2 × Fin 4)

/-- A shaper by what it shapes: a queue by watch index, a terminal, a tree channel, an uplink MAC (Table 11.1). -/
inductive ShaperRef where
  | queue (w : Nat)
  | term (t : Nat)
  | chan (c : Nat)
  | mac (m : Nat)
  deriving DecidableEq, Repr

/-- Fields that a QUEUE_CONFIG writes (Table 11.1): GEM_INDEX or UMAC in `bind`, LEVEL or CLASS in `level`. -/
structure QueueArg where
  enable : Option Nat := none
  bind : Option Nat := none
  level : Option Nat := none
  bridge : Option Nat := none
  quantum : Option Nat := none
  limit : Option Nat := none
  yellow : Option Nat := none
  maxFrame : Option Nat := none
  cir : Option Nat := none
  cbs : Option Nat := none
  deriving DecidableEq, Repr

/-- A request accepted at M.49: requester port, bank, row, write, age in ns (R320). -/
structure DramArg where
  port : Fin 6
  bank : Nat
  row : Nat
  write : Bool
  age : Nat
  deriving DecidableEq, Repr

/-- SecTAG of a received frame and what MACsec makes of it (Table 14.2): valid TCI, SL and length, SCI, AN, packet number as recovered, ICV check
(none: the verdict comes later, on the cut-through path), and the frame without its tag and ICV. -/
structure SecTag where
  valid : Bool
  sci : Nat
  an : Nat
  pn : Nat
  icv : Option Bool
  inner : Frame
  deriving DecidableEq, Repr

/-- Who receives a capacity report (Table 1.7). -/
inductive Consumer where
  | dba | schedulers | cipher | control
  deriving DecidableEq, Repr

/-- Who acts on a pool's messages (R28). -/
inductive PoolConsumer where
  | dba | uplinkMacs | glacier
  deriving DecidableEq, Repr

/-- What a step of bring-up or of a Hibernate exit finds (Table 21.2, Table 21.5): the checks of images A and B; the control pairs' self-tests and
the units that failed; the fused factory map as unit and spare; AVS lock; the DRAM's size and whether every channel trained; the overlay copies
found in the flash and which of A and B are valid. -/
inductive BootStep where
  | rom
  | image (a b : ImageCheck)
  | selfTest (pairA pairB : Bool) (failed : List Word)
  | repairMap (factory : List (Word × Word))
  | avs (locked : Bool)
  | lanes
  | dram (bytes : Nat) (trained : Bool)
  | restore (copies : Nat) (goodA goodB : Bool)
  deriving DecidableEq, Repr

end Sys2Proof
end

