-- ==== Sys2Proof/Syntax.lean ====
section
/-! DEFINITION. The commands the block takes: one constructor per row of the opcode table, in the table's order, with what the
outside world or the circuits supply to it. A host command carries the mailbox it runs in; its header, flags and, where the spec
gives its layout, its body are the bytes C.2 copied from that mailbox's request area (R430). -/
namespace Sys2Proof

/-- The rows of the table of operations and events. -/
inductive Instr where
  /-- SIGNAL_COMMAND (R24): A region receives a signal-link command; one from the standby pair is discarded and counted. -/
  | signalCommand (region : Fin 13) (standby : Bool)
  /-- CAPACITY_REPORT (R26): A consumer receives a capacity report and applies it only if its sequence number is later than the last applied. -/
  | capacityReport (consumer : Consumer) (region : Fin 13) (seq : BitVec 16)
  /-- FREEZE_MESSAGE (R28): A consumer receives a pool freeze message and starts its relief action (grant cut, priority pause, spill). -/
  | freezeMessage (pool : Fin 4) (consumer : PoolConsumer)
  /-- THAW_MESSAGE (R28): A consumer receives a pool thaw message and reverses its relief action. -/
  | thawMessage (pool : Fin 4) (consumer : PoolConsumer)
  /-- CRITICAL_MESSAGE (R312): M.48 receives a pool critical message and gives spill-out precedence over returns. -/
  | criticalMessage (pool : Fin 4)
  /-- PACE_WINDOW_CLOSE (R41): The 12.5 µs pace window closes; C.8 computes the control pace, evaluates the voltage loop rules and may send a new target. -/
  | paceWindowClose (loads : List Nat)
  /-- PACE_SAMPLE (R38): A block's pace sample reaches C.8; a sample arriving after the next window has closed is discarded and counted. -/
  | paceSample (inst : Fin 3328) (count : Nat) (stalled late : Bool)
  /-- AVS_SETTLE_EXPIRY (R42): AVS_SETTLE passes after a target write, so the loop may evaluate again after one full window. -/
  | avsSettleExpiry
  /-- AVSBUS_TRANSACTION_DONE (R44): An AVSBus transaction completes; after 3 failed attempts C.8 falls back to PMBus VOUT_COMMAND and raises AVS_BUS_FAULT. -/
  | avsbusTransactionDone (ok pmbusOk : Bool)
  /-- AVSBUS_RETRY (R44): Every 100 ms after an AVSBus failure, C.8 retries AVSBus. -/
  | avsbusRetry (ok : Bool)
  /-- PMBUS_STATUS_POLL (R44): Every 1 ms C.8 reads regulator voltage, current, temperature and status over PMBus. -/
  | pmbusStatusPoll (answer : Option RegStatus)
  /-- REGULATOR_PASSTHROUGH (R45): Command that queues a regulator transaction in C.8, run after the current target write; VOUT_COMMAND only in mode 1. -/
  | regulatorPassthrough (mb : Fin 16) (cmd data : Nat) (answer : List Nat)
  /-- BRIDGE_OVERRUN (R50): A receive bridge is full when its clocked side has a word; the word is dropped and its burst, codeword or frame marked errored. -/
  | bridgeOverrun (type : Fin 3) (inst : Fin 128)
  /-- BRIDGE_UNDERRUN (R51): A transmit bridge is empty at a word-clock; the codeword, frame or tether frame is spoiled as its lane type defines. -/
  | bridgeUnderrun (type : Fin 3) (inst : Fin 128)
  /-- BRST_PULSE (R60): At BRST_OFFSET after each scheduled channel 0 burst or window end, the device pulses TREEn_BRST for BRST_WIDTH. -/
  | brstPulse (tree : Fin 32)
  /-- RSSI_ROUND_START (R62): An RSSI measurement round starts after ranging completes and every RSSI_PERIOD, or when the previous round finishes. -/
  | rssiRoundStart (tree : Fin 32)
  /-- RSSI_WINDOW (R62): On a chosen burst the lane block drives TREEn_RSSI from RSSI_LEAD after preamble start for RSSI_WIDTH. -/
  | rssiWindow (term : Fin 8192) (payloadNs : Nat)
  /-- RSSI_SETTLE_EXPIRY (R62): RSSI_SETTLE after the window, C.11 reads the module power value. -/
  | rssiSettleExpiry (tree : Fin 32)
  /-- TREE_LOS_PIN (R63): The TREEn_LOS input changes level. -/
  | treeLosPin (tree : Fin 32) (level : Bool)
  /-- LOS_WINDOW_EXPIRY (R63): A LOS_WINDOW ends; the device declares or clears tree loss by the LOS_SOURCE criterion. -/
  | losWindowExpiry (tree : Fin 32)
  /-- MMS_SEL_SETUP_EXPIRY (R66): MMS_SEL_SETUP passes after a select change and the master issues its first START. -/
  | mmsSelSetupExpiry (master : Fin 4)
  /-- MODULE_TRANSACTION_DONE (R70): A two-wire transaction completes and the master starts the next by priority: status polls, pass-through, RSSI reads. -/
  | moduleTransactionDone (master : Fin 4) (data : List Byte)
  /-- MMS_BUS_STUCK (R67): Clock stretching beyond 10 ms or SDA low for 2 ms; the master issues 9 clocks and a STOP and retries once. -/
  | mmsBusStuck (master : Fin 4)
  /-- MMS_SELECT_HOLDOFF_EXPIRY (R67): One second after a bus fault, the select is used again. -/
  | mmsSelectHoldoffExpiry (tree : Fin 32)
  /-- MODULE_MANAGE_START (R68): On tree enable or a module answering again, C.11 reads the revision and pages and takes the module out of low power. -/
  | moduleManageStart (tree : Fin 32) (revision : Byte)
  /-- MODULE_READY (R68): ModuleReady is seen and C.11 applies the lane controls of pages 10h and 11h. -/
  | moduleReady (tree : Fin 32)
  /-- MODULE_POLL (R69): Every MMS_POLL, C.11 reads each managed module's state and latched flags. -/
  | modulePoll (tree : Fin 32) (flags : Option (List (Byte × Byte)))
  /-- MODULE_READ (R70): Command reading 1–128 module bytes by pass-through. -/
  | moduleRead (mb : Fin 16) (tree page bank offset count : Nat)
  /-- MODULE_WRITE (R70): Command writing 1–8 module bytes, refused on protected bytes while the tree is enabled. -/
  | moduleWrite (mb : Fin 16) (tree page bank offset : Nat) (data : List Byte)
  /-- RSSI_MEASURE (R70): Command measuring one terminal's received power out of turn. -/
  | rssiMeasure (mb : Fin 16) (term : Nat)
  /-- BMEM_READ (R70): Command returning a terminal's burst memory entry. -/
  | bmemRead (mb : Fin 16) (term : Nat)
  /-- BMEM_RESET (R80): Command returning a burst memory entry to seed. -/
  | bmemReset (mb : Fin 16) (term : Nat)
  /-- BURST_PRELOAD (R74): Tn.12 writes the next bank for a burst or window from its entry, seed or discovery seed by the preload deadline. -/
  | burstPreload (c : Fin 64) (late : Bool)
  /-- BANK_SWAP (R74): At preamble start − 16 ns the receive lane swaps to the next bank, unless the burst continues the same terminal. -/
  | bankSwap (c : Fin 64)
  /-- BURST_WRITE_BACK (R77): At a burst's end Tn.12 writes its final state into the entry on a good delimiter and header, and updates the qualification counters. -/
  | burstWriteBack (term : Fin 8192) (final : LaneSettings)
  /-- LANE_SLEEP_START (R81): At a sleep window's start the receive lane powers down. -/
  | laneSleepStart (c : Fin 64)
  /-- LANE_WAKE_START (R81): At a sleep window's end the receive lane begins its 32 ns wake. -/
  | laneWakeStart (c : Fin 64)
  /-- SLEEP_LIGHT (R82): The signal detector sees light in a sleep window; it is passed to rogue investigation as an observation. -/
  | sleepLight (c : Fin 64) (offset : Nat) (last : Option (Fin 8192)) (since : Nat)
  /-- DARK_WAKE_RUN_START (R83): DARK_LEAD frames before a discovery window on a dark channel, the transmit lane wakes and sends full frames. -/
  | darkWakeRunStart (c : Fin 64)
  /-- DARK_WAKE_RUN_END (R83): At the end of the frame in which the window closes, the dark channel's lanes sleep again. -/
  | darkWakeRunEnd (c : Fin 64)
  /-- DRIVER_SEGMENT_FAULT (R85): A driver segment's current monitor leaves its fused window. -/
  | driverSegmentFault (c : Fin 64) (segment : Fin 40)
  /-- LANE_SEGMENT_SWAP (R85): At the next codeword boundary a spare segment replaces the faulty one, or the lane degrades or fails. -/
  | laneSegmentSwap (c : Fin 64)
  /-- SLICE_SHADOW_PERIOD (R86): Each 1 ms shadow period of the spare CDR slice ends and the active slice is judged. -/
  | sliceShadowPeriod (c : Fin 64) (differ total : Nat) (eyeLow : Bool)
  /-- LANE_SLICE_SWAP (R86): At the next gap between bursts the spare slice takes a faulty slice's place. -/
  | laneSliceSwap (c : Fin 64)
  /-- FRAME_START (R91): Every 125 µs a frame starts on all enabled channels; alignment error is computed, stamps taken, key switches and queued PLOAM handled. -/
  | frameStart
  /-- PON_REF_LOSS (R95): A PON reference fails; the device switches to the other or, with both lost, stops every PON channel. -/
  | ponRefLoss (ref : Fin 2)
  /-- ETH_REF_LOSS (R96): The Ethernet reference is lost while both PON references are lost; device time runs from the free oscillator. -/
  | ethRefLoss
  /-- REF_RETURN (R96): A reference returns; device time changes source, and deferred PON lane calibration may run. -/
  | refReturn (ref : Fin 3)
  /-- FRAGMENT_BOUNDARY (R103): At a fragment boundary the framer sends waiting express SDUs whole, then the next non-express fragment round robin. -/
  | fragmentBoundary (c : Fin 64) (rekeyIdleNs : Nat)
  /-- PPS_EDGE (R114): An edge on PPS_IN is stamped and, if accepted, device time is slewed or stepped and the time state updated. -/
  | ppsEdge (time : Nat) (rising : Bool)
  /-- PPS_EDGE_MISSING (R115): An expected edge fails to arrive; two in a row take LOCKED to HOLDOVER. -/
  | ppsEdgeMissing
  /-- TOD_MESSAGE (R113): A 16-byte ToD message is received whole and accepted or discarded. -/
  | todMessage (bytes : List Byte)
  /-- CHANNEL_ENABLE (R117): Command that starts framing on a tree channel at the first frame start at least 250 µs later. -/
  | channelEnable (mb : Fin 16) (c : Nat)
  /-- CHANNEL_DISABLE (R117): Command that stops a tree channel, with FORCE sending broadcast deactivation first. -/
  | channelDisable (mb : Fin 16) (c : Nat)
  /-- CHANNEL_STOP (R117): A channel stops after its current or third-deactivation frame; terminals are deactivated and queued PLOAM discarded. -/
  | channelStop (c : Fin 64)
  /-- TIME_READ (R117): Command returning device time, state, phase error, superframe count and alignment error latched together. -/
  | timeRead (mb : Fin 16)
  /-- DISCOVERY_WINDOW_DUE (R129): Each DISC_PERIOD a discovery window falls due on a tree and is booked or skipped. -/
  | discoveryWindowDue (tree : Fin 32)
  /-- PROFILE_BROADCAST (R131): Every PROFILE_BCAST_PERIOD frames the burst profile set is queued on each enabled rate. -/
  | profileBroadcast (c : Fin 64)
  /-- SN_ANSWER (R132): A valid Serial_Number_ONU burst in a discovery interval is acted on by Table 5.5. -/
  | snAnswer (c : Fin 64) (cands : List Candidate) (serial mic answer : Nat)
  /-- REGISTRATION_BURST (R135): A ranging burst is received; M is measured, EQD computed and Ranging_Time queued; the terminal enters OPERATION. -/
  | registrationBurst (term : Fin 8192) (cands : List Candidate) (m64 : Nat) (regId : List Byte) (resp : Option Nat) (mic : Nat)
  /-- RANGING_WINDOW_MISS (R138): A ranging window yields no valid burst; retry or deactivation after RANGE_ATTEMPTS. -/
  | rangingWindowMiss (term : Fin 8192) (late : Bool)
  /-- RANGE_RETRY_EXPIRY (R138): RANGE_RETRY frames after a failed window, another ranging window is placed. -/
  | rangeRetryExpiry (term : Fin 8192)
  /-- DRIFT_SETTLE_EXPIRY (R142): DRIFT_SETTLE passes without completion; Ranging_Time is resent, or after a second period the terminal is re-ranged. -/
  | driftSettleExpiry (term : Fin 8192)
  /-- LOB_DEACT_EXPIRY (R143): LOB_DEACT_TIME passes in LOST and the terminal is deactivated with reason 2. -/
  | lobDeactExpiry (term : Fin 8192)
  /-- ONU_ID_HOLD_EXPIRY (R127): ONU_ID_HOLD frames after deactivation the ONU-ID becomes free on the channel. -/
  | onuIdHoldExpiry (c : Fin 64) (onu : Fin 1023)
  /-- ROGUE_OBSERVATION (R144): Light is seen in an ungranted gap, a sleep window or a silent discovery or ranging interval; an investigation may open. -/
  | rogueObservation (c : Fin 64) (window : Bool) (last : Option (Fin 8192)) (since : Nat)
  /-- ROGUE_CORRELATION_END (R145): Phase 1 ends with 16 observations or after 2 s, naming a suspect or moving to probing. -/
  | rogueCorrelationEnd (c : Fin 64)
  /-- ROGUE_PROBE_RESULT (R145): A quiet probe window ends and its light result is recorded; after the probes the phase outcome follows. -/
  | rogueProbeResult (c : Fin 64) (light : Bool)
  /-- ROGUE_BISECTION_STEP (R147): A bisection step's probes end and the candidate set is halved, kept or re-admitted. -/
  | rogueBisectionStep (c : Fin 64)
  /-- READMISSION_ANSWER (R147): A re-admitted terminal answers and receives its ONU-ID and stored EQD without ranging. -/
  | readmissionAnswer (term : Fin 8192)
  /-- ROGUE_HOLDOFF_EXPIRY (R144): ROGUE_HOLDOFF after an unresolved investigation, automatic investigation may open again. -/
  | rogueHoldoffExpiry (c : Fin 64)
  /-- TERM_CREATE (R125): Command provisioning a terminal index. -/
  | termCreate (mb : Fin 16) (term c serial onu alloc gem : Nat)
  /-- TERM_DELETE (R148): Command deactivating a terminal, unbinding its creation maps and freeing the index. -/
  | termDelete (mb : Fin 16) (term : Nat)
  /-- TERM_DEACTIVATE (R127): Command deactivating a terminal with reason 1. -/
  | termDeactivate (mb : Fin 16) (term : Nat)
  /-- TERM_DISABLE (R148): Command sending Disable_Serial_Number (disable) and setting DISABLED. -/
  | termDisable (mb : Fin 16) (term : Nat)
  /-- TERM_ENABLE (R148): Command sending Disable_Serial_Number (enable) and setting ABSENT. -/
  | termEnable (mb : Fin 16) (term : Nat)
  /-- TERM_READ (R148): Command returning the terminal object latched together. -/
  | termRead (mb : Fin 16) (term : Nat)
  /-- TERM_RERANGE (R133): Command re-ranging a terminal in place or at a target rate. -/
  | termRerange (mb : Fin 16) (term : Nat) (rate : Option Nat)
  /-- ALLOC_MAP (R122): Command binding an allocation index to a channel, Alloc-ID and terminal. -/
  | allocMap (mb : Fin 16) (alloc c allocId term : Nat)
  /-- ALLOC_UNMAP (R124): Command unbinding an allocation index from the next cut-off. -/
  | allocUnmap (mb : Fin 16) (alloc : Nat)
  /-- GEM_MAP (R123): Command binding a GEM index to a channel and Port-ID. -/
  | gemMap (mb : Fin 16) (gem : Nat) (entry : GemEntry)
  /-- GEM_UNMAP (R124): Command unbinding a GEM index, dropping its queued SDUs and queuing a MAC flush. -/
  | gemUnmap (mb : Fin 16) (gem : Nat)
  /-- SN_LIST_READ (R148): Command returning and clearing a channel's unknown-serial list. -/
  | snListRead (mb : Fin 16) (c : Nat)
  /-- ROGUE_START (R144): Command opening a rogue investigation on a tree channel. -/
  | rogueStart (mb : Fin 16) (c : Nat)
  /-- ROGUE_STATUS (R148): Command returning investigation phase, candidate count and suspects. -/
  | rogueStatus (mb : Fin 16) (c : Nat)
  /-- ROGUE_STOP (R148): Command ending an investigation and re-admitting disabled terminals. -/
  | rogueStop (mb : Fin 16) (c : Nat)
  /-- COMMAND_STEP_WAIT_TIMEOUT (R148): A command waiting for a procedure step on its terminal reaches 50 ms and fails with BUSY. -/
  | commandStepWaitTimeout (mb : Fin 16)
  /-- UPSTREAM_BURST (R151): A granted burst's delimiter is confirmed by its header check and the burst is received. -/
  | upstreamBurst (term : Fin 8192) (burst : UsBurst)
  /-- DELIMITER_MISS (R156): A hunt window closes without a confirmed candidate; loss-of-burst and demotion counters are updated. -/
  | delimiterMiss (term : Fin 8192) (cands : List Candidate)
  /-- FEC_CODEWORD (R157): An upstream codeword is decoded, its corrected bits counted, and its information descrambled. -/
  | fecCodeword (term : Fin 8192) (info : Nat) (errs : List Byte) (iterations : Nat)
  /-- PLOAMU_MESSAGE (R159): A PLOAMu message is integrity-checked and passed to the active control pair or discarded. -/
  | ploamuMessage (term : Fin 8192) (message : List Nat) (mic : Nat) (answer : Option Nat)
  /-- BURST_REPORT (R160): A report is extracted and sent to the solver, or discarded and counted. -/
  | burstReport (term : Fin 8192) (alloc : Fin 32768) (at_ : Nat) (crc : Bool) (occupancy : Nat)
  /-- REPORT_ARRIVAL (R179): A report's write into the solver's report store completes. -/
  | reportArrival
  /-- XGEM_FRAME (R162): An upstream XGEM header is delineated and its frame checked, decrypted and reassembled or discarded. -/
  | xgemFrame (term : Fin 8192) (gem : UsGem)
  /-- REASM_TIMEOUT_EXPIRY (R166): At a frame start an open SDU past REASM_TIMEOUT is discarded. -/
  | reasmTimeoutExpiry
  /-- BER_WINDOW_CLOSE (R168): An SD or SF integration window closes by volume or time and the defect is declared or cleared. -/
  | berWindowClose (term : Fin 8192) (fail : Bool)
  /-- REPORT_CUTOFF (R187): At t_g − 30 µs the solver latches its inputs, books windows and lays out tiers for every channel. -/
  | reportCutoff
  /-- ALLOC_CONTRACT (R174): Command setting an allocation contract with admission control. -/
  | allocContract (mb : Fin 16) (alloc rf ra rna rm w lat preann : Nat)
  /-- ALLOC_CONTRACT_READ (R200): Command returning contract, demand, ledger and stamps. -/
  | allocContractRead (mb : Fin 16) (alloc : Nat)
  /-- DBA_PREANNOUNCE (R194): Command pre-announcing grants for named frames. -/
  | dbaPreannounce (mb : Fin 16)
  /-- DBA_PREANN_CANCEL (R194): Command removing pending unlatched pre-announcements. -/
  | dbaPreannCancel (mb : Fin 16) (alloc : Nat) (frame : Option Nat)
  /-- LEDGER_RESET (R200): Command setting a ledger to 0 at the next cut-off. -/
  | ledgerReset (mb : Fin 16) (alloc : Nat)
  /-- DBA_STATUS_READ (R200): Command returning one channel's last-frame time by tier, structures and cut state. -/
  | dbaStatusRead (mb : Fin 16) (c : Nat)
  /-- SOLVER_OUTPUT_POSTED (R203): A solver block posts a channel's solution and the constructor places its bursts and builds the map and fallback. -/
  | solverOutputPosted (c : Fin 64)
  /-- MAP_DELIVERY (R206): A map copy arrives at the framer, lane block and Tn.12; upstream keystream is precomputed. -/
  | mapDelivery (c : Fin 64) (errors : List (Nat × Byte))
  /-- FRAMING_DEADLINE (R207): At t_g − 8 µs each framer chooses the built, fallback or empty map and takes its PLOAM messages. -/
  | framingDeadline
  /-- GM_READ (R218): Command returning the last map sent on a tree channel. -/
  | gmRead (mb : Fin 16) (c : Nat)
  /-- GM_CALENDAR_READ (R218): Command returning a channel's booked windows. -/
  | gmCalendarRead (mb : Fin 16) (c : Nat)
  /-- UPLINK_FRAME_RX (R361): A frame is received whole by an uplink MAC and accepted or discarded and counted. -/
  | uplinkFrameRx (mac : Fin 32) (frame : Frame) (pcsError fcsBad : Bool) (tag : Option SecTag)
  /-- PARSE_PASS (R222): A packet enters a parse lane, is stamped, parsed and classified against the rule bank of its epoch. -/
  | parsePass (region : Fin 2) (parity : Parity)
  /-- RECIRC_PASS (R239): A recirculated packet or copy takes a free lane slot for its second pass. -/
  | recircPass (region : Fin 2) (parity : Parity)
  /-- UPSTREAM_SDU_PARSE (R243): Tn.19–Tn.20 parse a released SDU, run spoofing checks, learning and the flow lookup. -/
  | upstreamSduParse (region : Fin 8) (second : Bool) (parity : Parity)
  /-- RULESET_DRAINED (R236): The old epoch's in-flight counts reach zero in both regions and its bank becomes staging. -/
  | rulesetDrained
  /-- SWAP_WAIT_EXPIRY (R237): A waiting RULESET_SWAP reaches SWAP_WAIT_MAX and fails with TIMEOUT. -/
  | swapWaitExpiry (mb : Fin 16)
  /-- RULE_WRITE (R238): Command writing rules into the staging set in both regions. -/
  | ruleWrite (mb : Fin 16) (start expect : Nat) (rules : List RuleEntry)
  /-- RULE_READ (R245): Command reading rules with hits from a set. -/
  | ruleRead (mb : Fin 16) (set start count : Nat)
  /-- RULESET_COPY (R245): Command copying the active set into staging. -/
  | rulesetCopy (mb : Fin 16)
  /-- RULESET_SWAP (R236): Command making staging active under a new epoch in both regions. -/
  | rulesetSwap (mb : Fin 16)
  /-- RULESET_STATUS (R245): Command returning epochs and in-flight counts. -/
  | rulesetStatus (mb : Fin 16)
  /-- LEARN_MESSAGE_APPLY (R266): At its turn in the serialiser a learning message inserts, refreshes or moves a MAC entry, then is forwarded to the peer if local. -/
  | learnMessageApply (parity : Parity)
  /-- MAC_FLUSH_APPLY (R268): At its turn a flush message deletes dynamic MAC entries of a GEM index or FID. -/
  | macFlushApply
  /-- AGING_PASS_START (R262): An aging pass starts and the table's pass count increments. -/
  | agingPassStart (table : Fin 2)
  /-- AGING_SCAN (R262): The scanner visits an entry and clears HIT or deletes it. -/
  | agingScan (table : Fin 2) (ovf : Bool) (index : Nat)
  /-- MOVE_WINDOW_SWEEP (R267): Every 4,096 ticks M.29 visits every MAC entry, ending freezes and resetting expired move windows. -/
  | moveWindowSweep
  /-- FLOW_PROFILE_SET (R248): Command writing a flow-table key profile. -/
  | flowProfileSet (mb : Fin 16) (profile : Nat) (extracts : List Nat)
  /-- FLOW_ADD (R261): Command inserting flow entries. -/
  | flowAdd (mb : Fin 16) (entries : List FlowArg)
  /-- FLOW_DELETE (R270): Command deleting flow entries by key. -/
  | flowDelete (mb : Fin 16) (keys : List Nat)
  /-- FLOW_READ (R270): Command returning flow entries with recovered keys. -/
  | flowRead (mb : Fin 16) (keys : List Nat) (buckets : Option (Nat × Nat))
  /-- MAC_ADD (R261): Command inserting MAC entries. -/
  | macAdd (mb : Fin 16) (entries : List MacArg)
  /-- MAC_DELETE (R270): Command deleting MAC entries by key. -/
  | macDelete (mb : Fin 16) (entries : List MacArg)
  /-- MAC_READ (R270): Command returning MAC entries with recovered keys. -/
  | macRead (mb : Fin 16) (entries : List MacArg) (buckets : Option (Nat × Nat))
  /-- MAC_FLUSH (R268): Command queuing a flush by GEM index or FID. -/
  | macFlush (mb : Fin 16) (byFid : Bool) (index : Nat)
  /-- MAC_UNFREEZE (R270): Command ending an address freeze at its serialiser turn. -/
  | macUnfreeze (mb : Fin 16) (fid addr : Nat)
  /-- EVICT_LOG_READ (R260): Command returning and releasing eviction records. -/
  | evictLogRead (mb : Fin 16) (table count : Nat)
  /-- TABLE_STATUS (R270): Command returning table fill, pass count, queue depth and overrun. -/
  | tableStatus (mb : Fin 16)
  /-- ENQUEUE (R276): A classified frame is placed on its queue after level override, bridging and admission checks. -/
  | enqueue
  /-- SCHED_HANDOVER (R280): The framer or MAC becomes ready and the scheduler hands over one frame by strict level, DRR, shapers and gates. -/
  | schedHandover (inst : Fin 104)
  /-- GATE_INTERVAL_START (R290): A gate control list interval begins and gate states change. -/
  | gateIntervalStart (inst : Fin 96)
  /-- GATE_LIST_SWITCH (R290): At the switch instant a pending gate list becomes operational. -/
  | gateListSwitch (inst : Fin 96)
  /-- QUEUE_SAMPLE (R295): M.47 samples a queue's depth and head-of-line delay into its histograms. -/
  | queueSample (queue : Fin 81920)
  /-- WATCH_SAMPLE (R296): Every 10 µs a watched queue is sampled and written to telemetry. -/
  | watchSample (slot : Fin 256)
  /-- QUEUE_DRAINED (R298): A disabled queue without FLUSH becomes empty and QUEUE_DISABLE responds. -/
  | queueDrained (queue : Fin 81920)
  /-- QUEUE_DRAIN_TIMEOUT (R298): A disabled queue is not empty after 1 s and the command returns TIMEOUT. -/
  | queueDrainTimeout (queue : Fin 81920)
  /-- QUEUE_CONFIG (R275): Command writing a queue object. -/
  | queueConfig (mb : Fin 16) (queue : Nat) (arg : QueueArg)
  /-- QUEUE_READ (R299): Command returning a queue's object, depth, deficit and counters. -/
  | queueRead (mb : Fin 16) (queue : Nat)
  /-- QUEUE_DISABLE (R298): Command disabling a queue, optionally flushing it. -/
  | queueDisable (mb : Fin 16) (queue : Nat)
  /-- SCHED_NODE_SET (R284): Command writing a terminal, tree channel or MAC scheduler node. -/
  | schedNodeSet (mb : Fin 16) (node : ShaperRef) (quantum cir cbs : Option Nat)
  /-- POLICER_SET (R285): Command writing a policer. -/
  | policerSet (mb : Fin 16) (policer cir cbs : Nat)
  /-- MARKER_SET (R286): Command writing a three-colour marker. -/
  | markerSet (mb : Fin 16) (marker mode : Nat) (aware : Bool) (redAction : Nat) (markDei : Bool) (cir cbs pir pbs : Nat)
  /-- METER_READ (R299): Command returning a meter's settings, content and counters. -/
  | meterRead (mb : Fin 16) (marker : Bool) (index : Nat)
  /-- GATE_LIST_SET (R290): Command loading a pending gate list. -/
  | gateListSet (mb : Fin 16) (inst cycle configTime : Nat) (entries : List Nat)
  /-- GATE_LIST_CLEAR (R299): Command returning all gates to open at the next cycle boundary. -/
  | gateListClear (mb : Fin 16) (inst : Nat)
  /-- GATE_STATUS (R299): Command returning gate lists and states. -/
  | gateStatus (mb : Fin 16) (inst : Nat)
  /-- WATCH_SET (R296): Command setting or clearing a watch slot. -/
  | watchSet (mb : Fin 16) (slot : Nat) (queue : Option Nat) (delayLimit : Nat)
  /-- HIST_READ (R297): Command returning queue histograms, optionally clearing them. -/
  | histRead (mb : Fin 16) (start count : Nat)
  /-- BUFFER_ALLOC (R306): M.16 serves an ALLOC request from its pool or returns an empty response, and tests thresholds. -/
  | bufferAlloc (cls : Fin 16) (length : Nat) (mb : Option (Fin 16))
  /-- BUFFER_TAKE (R306): M.16 applies a TAKE operation or rejects it. -/
  | bufferTake (cls : Fin 16) (id : Fin 262144) (gen : Fin 64)
  /-- BUFFER_HANDOVER (R306): M.16 applies a HANDOVER operation or rejects it. -/
  | bufferHandover (src dst : Fin 16) (last : Bool) (id : Fin 262144) (gen : Fin 64)
  /-- BUFFER_FREE (R306): M.16 applies a FREE, returning the buffer at zero references and testing thresholds. -/
  | bufferFree (cls : Fin 16) (last : Bool) (id : Fin 262144) (gen : Fin 64)
  /-- GLACIER_SPILL (R316): M.48 writes a deep queue's frame to its Glacier run. -/
  | glacierSpill (queue : Fin 81920)
  /-- GLACIER_SPILL_ACK (R316): A spill's DRAM write is acknowledged and the frame's buffer freed. -/
  | glacierSpillAck (queue : Fin 81920)
  /-- GLACIER_RETURN (R317): M.48 returns a frame from the head of a run into a new buffer. -/
  | glacierReturn (queue : Fin 81920) (error : Bool)
  /-- DRAM_REQUEST (R321): A channel controller serves a requester port's request by urgency, round robin and age. -/
  | dramRequest (channel : Fin 8) (arrived : List DramArg) (ecc : Fin 3)
  /-- DRAM_REFRESH (R322): A refresh falls due, postponed at most eight intervals under urgent load. -/
  | dramRefresh (channel : Fin 8)
  /-- DRAM_RETRAIN_CHECK (R323): Every DRAM_RETRAIN_PERIOD each channel retrains in a quiet window. -/
  | dramRetrainCheck (channel : Fin 8)
  /-- DRAM_RETRAIN_FORCED (R323): No window opens within twice the period and retraining is forced. -/
  | dramRetrainForced (channel : Fin 8)
  /-- POOL_STATUS (R326): Command returning pool counts and flags. -/
  | poolStatus (mb : Fin 16)
  /-- BUF_FAULT_LOG_READ (R308): Command returning and releasing buffer fault records. -/
  | bufFaultLogRead (mb : Fin 16) (count : Nat)
  /-- GLACIER_STATUS (R326): Command returning Glacier use and runs. -/
  | glacierStatus (mb : Fin 16) (rateIn rateOut : Nat)
  /-- DRAM_STATUS (R326): Command returning DRAM channel and port state. -/
  | dramStatus (mb : Fin 16)
  /-- CIPHER_PAIR_RESULT (R331): A cell pair finishes a block; equal outputs are released, a mismatch retries on fresh pairs or fails. -/
  | cipherPairResult (region : Fin 13) (op outA outB : Nat) (job : Option (Fin 16))
  /-- RNG_RESEED (R333): A generator reaches 2^20 outputs and is reseeded, or continues late. -/
  | rngReseed (block : Fin 3328) (late : Bool)
  /-- ENTROPY_FAIL (R333): C.6 health tests fail. -/
  | entropyFail (test : BitVec 8)
  /-- GENERATOR_STOP (R333): In mode 1 a generator reaches 2^22 outputs past its seed and its block stops. -/
  | generatorStop (block : Fin 3328)
  /-- KEY_GENERATION_DRAINED (R346): Operations latched on an old key generation reach zero and it is zeroised. -/
  | keyGenerationDrained (slot : Fin 18640)
  /-- KEY_EXCHANGE_START (R349): A terminal key exchange starts by command, KEY_REKEY_PERIOD or first activation. -/
  | keyExchangeStart (term : Fin 8192)
  /-- KEY_EXCH_TIMEOUT (R349): No valid answer arrives in KEY_EXCH_TIMEOUT; the request is repeated or TERM_REKEY_FAIL raised. -/
  | keyExchTimeout (term : Fin 8192)
  /-- MACSEC_VERDICT (R352): An express MACsec frame's verdict reaches its consumers, which release or spoil the frame. -/
  | macsecVerdict (id : Nat) (good : Bool)
  /-- KEY_WRITE (R345): Command unwrapping and writing a key into a slot. -/
  | keyWrite (mb : Fin 16)
  /-- KEY_ERASE (R348): Command erasing a key slot. -/
  | keyErase (mb : Fin 16) (slot : Nat)
  /-- KEY_STATUS (R344): Command returning slot states. -/
  | keyStatus (mb : Fin 16) (slots : List (Nat × Nat))
  /-- KEY_GENERATE (R353): Command filling a slot from C.6 and returning it wrapped. -/
  | keyGenerate (mb : Fin 16)
  /-- TERM_REKEY (R349): Command starting a terminal key exchange. -/
  | termRekey (mb : Fin 16) (term : Nat)
  /-- BCAST_KEY_EXPORT (R353): Command returning a broadcast key under a terminal's KEK. -/
  | bcastKeyExport (mb : Fin 16) (slot term : Nat)
  /-- CMAC_JOB (R353): Command computing or verifying AES-CMAC. -/
  | cmacJob (mb : Fin 16) (slot tagLen : Nat) (data : List Byte) (tag : Nat)
  /-- CIPHER_STATUS (R353): Command returning per-region cipher state. -/
  | cipherStatus (mb : Fin 16)
  /-- UPLINK_LINK_UP (R360): Training, alignment and UPLINK_UP_HOLD without faults bring a MAC link up. -/
  | uplinkLinkUp (mac : Fin 32)
  /-- UPLINK_ALIGNMENT_LOSS (R360): The PCS loses alignment and the link goes down with cause 1. -/
  | uplinkAlignmentLoss (mac : Fin 32)
  /-- UPLINK_FAULT_SEQUENCE (R360): A fault sequence is received; 4 consecutive take the link down with cause 2. -/
  | uplinkFaultSequence (mac : Fin 32)
  /-- UPLINK_TRAINING_FAIL (R360): Link training fails after the link was up; the link goes down with cause 3. -/
  | uplinkTrainingFail (mac : Fin 32) (noAbility : Bool)
  /-- PAUSE_FRAME_RX (R362): A PAUSE or PFC frame is received and pauses or releases classes, or is discarded by mode. -/
  | pauseFrameRx (mac : Fin 32) (pfc : Bool) (quanta : Nat) (classes : List (Fin 8 × Nat))
  /-- PAUSE_QUANTA_EXPIRY (R362): A received pause time runs out and the class resumes. -/
  | pauseQuantaExpiry (mac : Fin 32) (cls : Fin 8)
  /-- PFC_REFRESH (R363): While a device pause stands, the pause frame is repeated every refresh interval. -/
  | pfcRefresh (mac : Fin 32)
  /-- UPLINK_STATUS (R370): Command returning link and pause states of MACs. -/
  | uplinkStatus (mb : Fin 16) (start count : Nat)
  /-- UPLINK_STATS (R370): Command returning and clearing a MAC's counters. -/
  | uplinkStats (mb : Fin 16) (mac : Nat) (pcs : List Nat)
  /-- UPLINK_RESTART (R357): Command restarting a port with its stored mode. -/
  | uplinkRestart (mb : Fin 16) (port : Nat)
  /-- MACSEC_SC_SET (R370): Command creating or deleting a receive SC. -/
  | macsecScSet (mb : Fin 16) (mac sci : Nat) (delete : Bool)
  /-- MACSEC_SA_SET (R367): Command binding, enabling or disabling an SA. -/
  | macsecSaSet (mb : Fin 16) (sa mac : Nat) (sci : Option Nat) (an : Nat) (xpn : Bool) (pn : Nat) (enable : Bool)
  /-- MACSEC_SA_READ (R370): Command returning an SA's state and counters. -/
  | macsecSaRead (mb : Fin 16) (sa : Nat)
  /-- TETHER_LANE_FRAME (R376): A tether lane frame period ends; the lane hunts, confirms or loses frame. -/
  | tetherLaneFrame (lane : Fin 34) (bits : BitVec 2048) (skew : Nat)
  /-- TETHER_FRAME_RX (R380): A tether frame is received whole, authenticated and passed to its tributary. -/
  | tetherFrameRx (port : Fin 2) (group : Fin 4) (skipped : Nat) (rx : TetherRx)
  /-- MULTIFRAME_START (R383): Each 4.096 µs multiframe the device sends a pair message and may commit a tether key. -/
  | multiframeStart
  /-- PAIR_MESSAGE_RX (R383): A pair message is accepted; delay, timeline, tokens, readiness and key matching are updated. -/
  | pairMessageRx (port : Fin 2) (tagGood : Bool) (msg : PairMsg) (held : Nat) (round : Nat) (timeline : Nat)
  /-- TETHER_KEY_TIMEOUT (R381): No key check match within 10 s; the pending generation is zeroised. -/
  | tetherKeyTimeout
  /-- SMP_BYTE_IN (R385): A complete byte on a serial management port is queued for the next overhead slot. -/
  | smpByteIn (smp : Fin 4) (byte : Byte)
  /-- TETHER_IDLE_EXPIRY (R386): A port direction idle for TETHER_IDLE_TIME goes to sleep. -/
  | tetherIdleExpiry (port : Fin 2) (received : Bool)
  /-- TETHER_WAKE (R386): Data queued for a sleeping direction wakes it. -/
  | tetherWake (port : Fin 2) (received : Bool)
  /-- MIRROR_RECORD_RX (R388): A mirror record is applied in SEQ order, or a gap starts resynchronisation. -/
  | mirrorRecordRx
  /-- CHECKPOINT_EMIT (R388): Every 1 ms a CHECKPOINT is emitted on every stream. -/
  | checkpointEmit
  /-- CHECKPOINT_ABSENT (R388): No CHECKPOINT applied within 2 ms makes the tree not ready. -/
  | checkpointAbsent (stream : Fin 33)
  /-- HEARTBEAT_TOGGLE (R391): Every 500 µs PAIR_HB_OUT toggles while refreshed. -/
  | heartbeatToggle
  /-- HEARTBEAT_REFRESH (R391): C.7 receives a refresh from the active control pair. -/
  | heartbeatRefresh
  /-- PROT_SELF_FENCE (R391): Refresh missing for PROT_DEAD_TIME ÷ 2; toggling stops and every TXDIS is held high. -/
  | protSelfFence
  /-- PAIR_HB_IN_EDGE (R397): An edge is seen on PAIR_HB_IN. -/
  | pairHbInEdge
  /-- PEER_SILENT (R397): All groups down and no heartbeat for PROT_DEAD_TIME; ready trees' tokens are taken. -/
  | peerSilent
  /-- SWITCH_TAKEN_TIMEOUT (R394): No TAKEN within 10 ms of release; PROT_SWITCH_BLOCKED and the tree stays dark. -/
  | switchTakenTimeout (tree : Fin 32)
  /-- TETHER_STATUS (R400): Command returning tether lane and group state. -/
  | tetherStatus (mb : Fin 16)
  /-- TETHER_RESTART (R400): Command applying grouping and slot parameters to a port. -/
  | tetherRestart (mb : Fin 16) (port : Nat)
  /-- PROT_PAIR (R390): Command setting member and pair state. -/
  | protPair (mb : Fin 16) (memberB : Bool) (paired : Bool)
  /-- PROT_COMMISSION (R392): Command measuring the feeder delay difference δ. -/
  | protCommission (mb : Fin 16) (tree : Nat)
  /-- PROT_SWITCH (R394): Command moving tokens of named trees to the peer. -/
  | protSwitch (mb : Fin 16) (named : List Nat)
  /-- PROT_CLAIM (R390): Command taking tokens. -/
  | protClaim (mb : Fin 16) (named : List Nat)
  /-- PROT_READMIT (R398): Command ending the held state. -/
  | protReadmit (mb : Fin 16)
  /-- PROT_STATUS (R400): Command returning token and mirror state of both devices. -/
  | protStatus (mb : Fin 16)
  /-- MIRROR_RESYNC (R400): Command requesting bulk resend of named trees. -/
  | mirrorResync (mb : Fin 16) (named : List Nat)
  /-- FUNCTION_LEVEL_RESET (R405): An FLR stops every DMA channel, resets mailboxes and ends sessions. -/
  | functionLevelReset
  /-- PCIE_PERST (R567): PERST_N low resets the PCIe endpoint only. -/
  | pciePerst (low : Bool)
  /-- REGISTER_WRITE (R406): A BAR 0 write to a register with no behaviour of its own, including undefined and bad-size accesses. -/
  | registerWrite (addr size : Nat) (value : Word) (late : Bool)
  /-- DEVICE_TIME_LO_READ (R407): A read of DEVICE_TIME_LO returns the low word and latches the high word. -/
  | deviceTimeLoRead
  /-- HOST_FLR_COUNT_READ (R407): A read of HOST_FLR_COUNT returns and clears it. -/
  | hostFlrCountRead
  /-- DONE_COUNT_READ (R411): A read of a channel's DONE_COUNT returns and clears it. -/
  | doneCountRead (c : Fin 64)
  /-- MB_COUNT_READ (R428): A read of MB_COUNT returns and clears it. -/
  | mbCountRead (n : Fin 16)
  /-- BAR2_ACCESS (R408): A BAR 2 access reads telemetry if a session is open; writes are discarded and counted. -/
  | bar2Access (write : Bool) (off : Fin 67108864)
  /-- CH_ENABLE_SET (R411): ENABLE written 0 → 1 resets HEAD and TAIL and sets the channel idle. -/
  | chEnableSet (c : Fin 64)
  /-- CH_ENABLE_CLEAR (R411): ENABLE written 1 → 0 disables the channel after any burst in progress. -/
  | chEnableClear (c : Fin 64)
  /-- CH_ABORT (R421): ABORT written completes the burst and descriptor in progress and stops the channel. -/
  | chAbort (c : Fin 64)
  /-- CH_RESUME (R411): RESUME written moves a stopped channel to idle from RING_HEAD. -/
  | chResume (c : Fin 64)
  /-- RING_TAIL_WRITE (R415): A write of RING_TAIL gives the device descriptors up to the new tail. -/
  | ringTailWrite (c : Fin 64) (tail : BitVec 16)
  /-- SHADOW_COMMIT (R422): A COMMIT write sets PENDING for the next hand-over. -/
  | shadowCommit (c : Fin 64) (late : Bool)
  /-- DMA_MESSAGE_ENQUEUE (R417): A message joins a to-host channel's queue, or is dropped at DMA_QUEUE_LIMIT; REQ is tested. -/
  | dmaMessageEnqueue (func : Fin 5)
  /-- DMA_DESCRIPTOR_TAKE (R414): The device takes an owned descriptor and checks it. -/
  | dmaDescriptorTake (c : Fin 64) (desc index : List Word)
  /-- DMA_OWN_REREAD (R415): 1 µs after reading OWN = 0 the device reads again, erroring after 3 tries. -/
  | dmaOwnReread (c : Fin 64) (desc index : List Word)
  /-- DMA_BURST (R419): A channel starts and completes one burst and then re-examines its triggers. -/
  | dmaBurst (c : Fin 64) (data : List Byte)
  /-- DMA_TRIGGER_TIMER (R418): The fallback timer reaches TIMER and the channel runs bursts until it holds no work. -/
  | dmaTriggerTimer (c : Fin 64)
  /-- DMA_DESCRIPTOR_COMPLETE (R420): A descriptor's last burst ends and its status and OWN are written; interrupts may be raised. -/
  | dmaDescriptorComplete (c : Fin 64)
  /-- DMA_COALESCE_TIMEOUT (R420): TIME µs after the first uncovered completion an interrupt is raised. -/
  | dmaCoalesceTimeout (c : Fin 64)
  /-- DMA_BUS_ERROR (R423): A bad or poisoned completion or a 50 ms read timeout puts the channel in error. -/
  | dmaBusError (c : Fin 64) (canWrite : Bool)
  /-- DMA_CHANNEL_OPEN (R410): Command assigning a function to a channel. -/
  | dmaChannelOpen (mb : Fin 16) (chan func : Nat)
  /-- DMA_CHANNEL_CLOSE (R410): Command aborting, disabling and clearing a channel. -/
  | dmaChannelClose (mb : Fin 16) (chan : Nat)
  /-- DMA_STATUS (R425): Command returning every channel's state. -/
  | dmaStatus (mb : Fin 16)
  /-- MB_DOORBELL (R429): A RING write submits a request in idle, or sets DOORBELL_ERR otherwise. -/
  | mbDoorbell (n : Fin 16)
  /-- MAILBOX_ACCEPT (R430): C.2 copies and checks a posted request; acceptance runs the header checks before the command. -/
  | mailboxAccept (n : Fin 16) (objs : List Obj)
  /-- RESP_READY_CLEAR (R429): RESP_READY written 1 returns a mailbox to idle. -/
  | respReadyClear (n : Fin 16)
  /-- CONTROL_PAIR_TAKEOVER (R441): A new active pair resumes running commands from C.2's commit records. -/
  | controlPairTakeover
  /-- IDENT_READ (R454): Command returning identity, stepping, firmware and serial. -/
  | identRead (mb : Fin 16)
  /-- PARAM_READ (R445): Command reading parameters at one instant. -/
  | paramRead (mb : Fin 16)
  /-- PARAM_WRITE (R446): Command writing parameters, atomically if flagged. -/
  | paramWrite (mb : Fin 16)
  /-- PARAM_DESCRIBE (R448): Command returning a parameter's descriptor. -/
  | paramDescribe (mb : Fin 16) (key inst : Nat)
  /-- FW_IMAGE_WRITE (R450): Command writing part of the image not running. -/
  | fwImageWrite (mb : Fin 16)
  /-- FW_ACTIVATE (R451): Command updating firmware by loading the standby pair and switching. -/
  | fwActivate (mb : Fin 16) (check : ImageCheck)
  /-- FW_REBUILD_TIMEOUT (R451): The standby pair does not rebuild handler state within 10 s and the update fails. -/
  | fwRebuildTimeout
  /-- FW_STANDBY_LOAD_DONE (R451): The former active pair finishes loading the new image, or fails with FW_UPDATE_FAIL. -/
  | fwStandbyLoadDone (ok : Bool)
  /-- FW_COMMIT (R452): Command making the running image the boot image. -/
  | fwCommit (mb : Fin 16)
  /-- FW_STATUS (R454): Command returning image versions and update progress. -/
  | fwStatus (mb : Fin 16)
  /-- SESSION_OPEN (R462): Command requesting a session challenge for a role. -/
  | sessionOpen (mb : Fin 16)
  /-- SESSION_AUTH (R462): Command answering a challenge and opening the session. -/
  | sessionAuth (mb : Fin 16)
  /-- SESSION_CLOSE (R463): Command closing the caller's session. -/
  | sessionClose (mb : Fin 16)
  /-- SESSION_IDLE_EXPIRY (R463): SESSION_IDLE passes without a request and the session closes. -/
  | sessionIdleExpiry (role : Fin 4)
  /-- AUTH_LOCKOUT_EXPIRY (R464): AUTH_LOCKOUT passes and the role may open sessions again. -/
  | authLockoutExpiry (role : Fin 4)
  /-- MAKER_EN_CHANGE (R459): The debounced MAKER_EN level changes; deassertion closes the maker session. -/
  | makerEnChange (level : Bool)
  /-- CRED_ENROL (R460): Command enrolling the installer credential once. -/
  | credEnrol (mb : Fin 16) (wrapped : Nat)
  /-- CRED_SET (R461): Command setting the operator credential. -/
  | credSet (mb : Fin 16) (wrapped : Nat)
  /-- AUDIT_SUMMARY (R465): At the end of each second an excess of refusals is written as one summary record. -/
  | auditSummary
  /-- AUDIT_PERSIST (R468): Unpersisted records are written to flash at 64 records, after 1 s, or for a critical command. -/
  | auditPersist (ok : Bool)
  /-- AUDIT_PERSIST_RETRY (R468): Every 1 s after a failed flash write the persist is retried. -/
  | auditPersistRetry (ok : Bool)
  /-- AUDIT_READ (R467): Command returning audit records and chain head. -/
  | auditRead (mb : Fin 16) (start count : Nat)
  /-- CAL_READ (R469): Command returning factory, user and effective calibration values. -/
  | calRead (mb : Fin 16) (item inst : Nat)
  /-- CAL_OVERLAY_WRITE (R470): Command writing a signed calibration overlay. -/
  | calOverlayWrite (mb : Fin 16)
  /-- FAULT_REPORT (R482): A fault report reaches a handler and is subsumed, ghosted, escalated, taken or queued. -/
  | faultReport
  /-- HANDSHAKE_STALL (R479): A stage holds a request unacknowledged for STALL_LIMIT and is reported as a cell fault. -/
  | handshakeStall (block : Fin 3328) (cell : BitVec 16)
  /-- SRAM_UE (R479): An uncorrectable SRAM word is reported as a cell fault. -/
  | sramUe (block : Fin 3328) (cell : BitVec 16)
  /-- SRAM_CORRECTION (R477): A corrected SRAM error is counted; at SUSPECT_CE_LIMIT per hour the unit becomes suspect. -/
  | sramCorrection (block : Fin 3328) (cell : BitVec 16)
  /-- SCRUB_READ (R480): The scrubber reads and corrects a word in its SCRUB_PERIOD pass. -/
  | scrubRead (block : Fin 3328) (cell : BitVec 16) (wrong : Bool)
  /-- CELL_REPAIR_DONE (R485): A spare cell takes the faulty cell's place and the handler slot frees for the next queued fault. -/
  | cellRepairDone (block : Fin 3328) (spare : BitVec 16)
  /-- BLOCK_REPLACEMENT_DONE (R486): A spare block has loaded its role and resumes; the handler takes its next entry. -/
  | blockReplacementDone (region : Fin 13)
  /-- REGION_RESTART_DONE (R487): A region restart completes and its blocks resume. -/
  | regionRestartDone (good : Bool)
  /-- RECOVERY_TIMEOUT (R483): A recovery exceeds its level's time limit and is escalated. -/
  | recoveryTimeout (handler : Word)
  /-- LOCKSTEP_MISMATCH (R490): The active control pair's lockstep compare fails and the standby pair takes over. -/
  | lockstepMismatch (pair : Bool)
  /-- CONTROL_PAIR_SELF_TEST_DONE (R490): A failed control pair's restart self-test ends; it becomes standby or is condemned. -/
  | controlPairSelfTestDone (pair pass : Bool)
  /-- UNIT_SLOW (R491): A block stays below SLOW_RATIO of its median for SLOW_TIME and is declared slow. -/
  | unitSlow (block : Fin 3328)
  /-- UNIT_GHOST (R500): Output of an iced unit reaches its fence and is dropped and counted. -/
  | unitGhost (unit : Word)
  /-- SPARE_SELF_TEST (R497): Hourly self-test of an idle spare ends; a failed spare is condemned. -/
  | spareSelfTest (unit : Word) (pass : Bool)
  /-- MAINTENANCE_WINDOW_START (R498): The daily maintenance window opens; suspect swaps and readmission tests run. -/
  | maintenanceWindowStart
  /-- READMISSION_TEST_DONE (R501): A readmission self-test at one pace point ends; after three the unit becomes a spare, or it is condemned. -/
  | readmissionTestDone (unit : Word) (pass : Bool)
  /-- FAULT_STATUS (R504): Command returning handler slots and queues. -/
  | faultStatus (mb : Fin 16)
  /-- UNIT_STATUS (R504): Command returning a unit's state. -/
  | unitStatus (mb : Fin 16) (unit : Word)
  /-- READMIT_POLICY (R501): Command forbidding or allowing readmission. -/
  | readmitPolicy (mb : Fin 16) (allow : Bool) (units : List Word)
  /-- READMIT_OVERRIDE (R502): Maker command readmitting a unit after one test run. -/
  | readmitOverride (mb : Fin 16) (unit : Word) (pass : Bool)
  /-- REPAIR_MAP_READ (R504): Command returning factory and field repair maps. -/
  | repairMapRead (mb : Fin 16) (start : Nat)
  /-- REPAIR_MAP_WRITE (R504): Maker command appending condemn or return-to-spare records. -/
  | repairMapWrite (mb : Fin 16) (records : List (Word × Nat))
  /-- CONTROL_PAIR_SWITCH (R441): Command handing control to the standby pair. -/
  | controlPairSwitch (mb : Fin 16)
  /-- EVENT_ARRIVAL (R512): An event record reaches C.7 and is masked, shed, or given a SEQ and routed. -/
  | eventArrival (source : Fin 1624)
  /-- EVENT_SHED_PERIOD (R513): Each 1 ms period of device time the per-source burst counts restart. -/
  | eventShedPeriod
  /-- EVENT_BATCH_TIMEOUT (R516): EVENT_BATCH_TIME after a batch's first record the batch closes. -/
  | eventBatchTimeout
  /-- EVENT_IRQ_HOLDOFF_EXPIRY (R518): A vector's holdoff ends and one message covers records that became visible meanwhile. -/
  | eventIrqHoldoffExpiry (vector : Fin 64)
  /-- TELEMETRY_RECORD (R522): A telemetry record of a selected type is written to the ring, or dropped when the ring is full. -/
  | telemetryRecord
  /-- TELEMETRY_PERIOD_EXPIRY (R522): Every TELEMETRY_PERIOD terminal line records are produced. -/
  | telemetryPeriodExpiry
  /-- TELEMETRY_FLUSH_EXPIRY (R523): TELEMETRY_FLUSH after its first record a telemetry message closes. -/
  | telemetryFlushExpiry
  /-- EVENT_MASK_SET (R514): Command masking or unmasking kinds or sources. -/
  | eventMaskSet (mb : Fin 16) (mask : Bool) (kinds sources : List Nat)
  /-- EVENT_ROUTE_SET (R515): Command setting routes of kinds. -/
  | eventRouteSet (mb : Fin 16) (routes : List RouteEntry)
  /-- EVENT_READ (R517): Command returning and releasing store records. -/
  | eventRead (mb : Fin 16) (count : Nat)
  /-- TELEMETRY_SET (R522): Command setting telemetry types and period. -/
  | telemetrySet (mb : Fin 16) (mask period : Nat)
  /-- COUNTER_SNAPSHOT (R521): Command sampling counters at one instant, optionally clearing. -/
  | counterSnapshot (mb : Fin 16)
  /-- RESET_ASSERT (R529): RESET_N or PWR_GOOD falls; within 1 µs TXDIS goes high, lanes idle and state is lost. -/
  | resetAssert (pwrGood : Bool)
  /-- RESET_RELEASE (R532): RESET_N rises with PWR_GOOD high and bring-up begins. -/
  | resetRelease
  /-- BRINGUP_STEP_DONE (R532): A bring-up or Hibernate-exit step completes and the next begins, or bring-up halts. -/
  | bringupStepDone (result : BootStep)
  /-- DARK_IDLE_EXPIRY (R538): A channel with DARK_AUTO has no active terminal for DARK_IDLE_TIME and enters Dark channel at the next frame. -/
  | darkIdleExpiry (c : Fin 64)
  /-- DARK_CHANNEL_EXIT (R538): A terminal acquired on a dark channel reaches OPERATION and the channel becomes active at the next frame. -/
  | darkChannelExit (c : Fin 64)
  /-- DRAM_SR_IDLE_EXPIRY (R539): In Standby a DRAM channel idle for DRAM_SR_IDLE enters self-refresh. -/
  | dramSrIdleExpiry (d : Fin 8)
  /-- POWER_STATE_SET (R537): Command entering or leaving Dark channel, Standby or Hibernate. -/
  | powerStateSet (mb : Fin 16)
  /-- POWER_STATUS (R545): Command returning power state and readings. -/
  | powerStatus (mb : Fin 16)
  /-- TEMP_SAMPLE (R544): Every 1 ms the sensors are read; alarms raised or thermal trip driven. -/
  | tempSample (temps : List Int)
  /-- LANE_PRBS_SET (R551): Command starting or stopping a lane PRBS generator and checker. -/
  | lanePrbsSet (mb : Fin 16)
  /-- LANE_PRBS_READ (R554): Command returning checker lock and error counts. -/
  | lanePrbsRead (mb : Fin 16) (compared errors : Nat)
  /-- LANE_ERR_INJECT (R555): Command injecting errors into a lane's generator output. -/
  | laneErrInject (mb : Fin 16)
  /-- ERROR_INJECTION (R555): At each INTERVAL an injection of BITS inverted bits is made until COUNT is reached. -/
  | errorInjection (type : Fin 3) (inst : Fin 128)
  /-- LANE_LOOP_SET (R556): Command setting or clearing a lane loopback. -/
  | laneLoopSet (mb : Fin 16)
  /-- SELF_TEST (R504): Maker command running a factory test on a unit. -/
  | selfTest (mb : Fin 16) (unit : Word) (result : Nat)
  /-- TAP_RESET (R559): TRST_N or the TAP state machine resets the TAP, selecting IDCODE. -/
  | tapReset
  /-- EXTEST (R560): Boundary scan EXTEST instruction, effective only while RESET_N is low. -/
  | extest
  /-- SAMPLE_PRELOAD (R560): Boundary scan SAMPLE/PRELOAD instruction, usable at any time. -/
  | samplePreload (balls preload : Nat)
  /-- IDCODE (R559): Boundary scan IDCODE instruction returning the device identity code. -/
  | idcode
  /-- CLAMP (R560): Boundary scan CLAMP instruction, effective only while RESET_N is low. -/
  | clamp
  /-- HIGHZ (R560): Boundary scan HIGHZ instruction, effective only while RESET_N is low. -/
  | highz
  /-- EXTEST_PULSE (R560): IEEE 1149.6 EXTEST_PULSE instruction, effective only while RESET_N is low. -/
  | extestPulse
  /-- EXTEST_TRAIN (R560): IEEE 1149.6 EXTEST_TRAIN instruction, effective only while RESET_N is low. -/
  | extestTrain
  /-- BYPASS (R559): Boundary scan BYPASS instruction, also selected by undefined opcodes. -/
  | bypass
  /-- SHAPER_CONFORMS (R283): A shaper's refilling content climbs back to zero, so the queue, member, level or class it held becomes eligible and the scheduler can hand over again. -/
  | shaperConforms (shaper : ShaperRef)
  /-- ENTROPY_RECOVERED (R333): C.6's health tests pass again, KEY_GENERATE stops failing with FAULTED and stopped generators can be reseeded. -/
  | entropyRecovered
  /-- TETHER_CLOCK_LOSS (R373): A tether port's forwarded clock lane is lost and every data lane of that port and direction goes out of frame at once. -/
  | tetherClockLoss (port : Fin 2)
  /-- MAINTENANCE_WINDOW_END (R498): MAINT_LEN after it opened, the daily maintenance window closes and no further suspect swaps or readmission tests start. -/
  | maintenanceWindowEnd
  /-- COMMISSION_TIMEOUT (R392): One second after PROT_COMMISSION starts, fewer than 4 bursts have been measured, and the command fails with TIMEOUT. -/
  | commissionTimeout (tree : Fin 32)
  /-- PRBS_LOCK (R552): A lane's PRBS checker sees 1,024 consecutive error-free bits and declares lock, then starts comparing every bit. -/
  | prbsLock (type : Fin 3) (inst : Fin 128)
  /-- PRBS_LOCK_LOSS (R552): A locked PRBS checker sees more than 128 errors in 1,024 bits, counts a lock loss and seeds again. -/
  | prbsLockLoss (type : Fin 3) (inst : Fin 128) (compared errors : Nat)
  deriving DecidableEq, Repr

end Sys2Proof
end

