-- ==== Sys2Proof/WellFormed.lean ====
section
/-! DEFINITION. Which commands can be spelled at all: an operand fits the field or the reading that carries it (R10, R433, the body layouts of
each command). What a command answers to a value out of range is its meaning's affair (BAD_ARG, NO_OBJECT). -/
namespace Sys2Proof

/-- A number fits a field of `w` bits. -/
def fits (w n : Nat) : Bool := decide (n < 2 ^ w)

/-- Bytes fit a request body (R433). -/
def fitsBody (bs : List Byte) : Bool := decide (bs.length ≤ 4064)

/-- The operands of a command fit what carries them. -/
def Instr.wellFormed : Instr → Bool
  | .signalCommand _ _ => true
  | .capacityReport _ _ _ => true
  | .freezeMessage _ _ => true
  | .thawMessage _ _ => true
  | .criticalMessage _ => true
  | .paceWindowClose loads => loads.length == 13 && loads.all (fun l => decide (l ≤ 100))
  | .paceSample _ count _ _ => fits 32 count
  | .avsSettleExpiry => true
  | .avsbusTransactionDone _ _ => true
  | .avsbusRetry _ => true
  | .pmbusStatusPoll _ => true
  | .regulatorPassthrough _ cmd data answer => fits 32 cmd && fits 32 data && answer.all (fits 32)
  | .bridgeOverrun _ _ => true
  | .bridgeUnderrun _ _ => true
  | .brstPulse _ => true
  | .rssiRoundStart _ => true
  | .rssiWindow _ payloadNs => fits 64 payloadNs
  | .rssiSettleExpiry _ => true
  | .treeLosPin _ _ => true
  | .losWindowExpiry _ => true
  | .mmsSelSetupExpiry _ => true
  | .moduleTransactionDone _ data => fitsBody data
  | .mmsBusStuck _ => true
  | .mmsSelectHoldoffExpiry _ => true
  | .moduleManageStart _ _ => true
  | .moduleReady _ => true
  | .modulePoll _ _ => true
  | .moduleRead _ tree page bank offset count => fits 32 tree && fits 32 page && fits 32 bank && fits 32 offset && fits 32 count
  | .moduleWrite _ tree page bank offset data => fits 32 tree && fits 32 page && fits 32 bank && fits 32 offset && fitsBody data
  | .rssiMeasure _ term => fits 32 term
  | .bmemRead _ term => fits 32 term
  | .bmemReset _ term => fits 32 term
  | .burstPreload _ _ => true
  | .bankSwap _ => true
  | .burstWriteBack _ _ => true
  | .laneSleepStart _ => true
  | .laneWakeStart _ => true
  | .sleepLight _ offset _ since => fits 64 offset && fits 64 since
  | .darkWakeRunStart _ => true
  | .darkWakeRunEnd _ => true
  | .driverSegmentFault _ _ => true
  | .laneSegmentSwap _ => true
  | .sliceShadowPeriod _ differ total _ => decide (differ ≤ total)
  | .laneSliceSwap _ => true
  | .frameStart => true
  | .ponRefLoss _ => true
  | .ethRefLoss => true
  | .refReturn _ => true
  | .fragmentBoundary _ rekeyIdleNs => fits 64 rekeyIdleNs
  | .ppsEdge time _ => fits 64 time
  | .ppsEdgeMissing => true
  | .todMessage bytes => bytes.length == 16
  | .channelEnable _ c => fits 32 c
  | .channelDisable _ c => fits 32 c
  | .channelStop _ => true
  | .timeRead _ => true
  | .discoveryWindowDue _ => true
  | .profileBroadcast _ => true
  | .snAnswer _ _ serial mic answer => fits 64 serial && fits 64 mic && fits 64 answer
  | .registrationBurst _ _ m64 regId _ mic => fits 64 m64 && decide (regId.length ≤ 36) && fits 64 mic
  | .rangingWindowMiss _ _ => true
  | .rangeRetryExpiry _ => true
  | .driftSettleExpiry _ => true
  | .lobDeactExpiry _ => true
  | .onuIdHoldExpiry _ _ => true
  | .rogueObservation _ _ _ since => fits 64 since
  | .rogueCorrelationEnd _ => true
  | .rogueProbeResult _ _ => true
  | .rogueBisectionStep _ => true
  | .readmissionAnswer _ => true
  | .rogueHoldoffExpiry _ => true
  | .termCreate _ term c serial onu alloc gem => fits 32 term && fits 32 c && fits 64 serial && fits 32 onu && fits 32 alloc && fits 32 gem
  | .termDelete _ term => fits 32 term
  | .termDeactivate _ term => fits 32 term
  | .termDisable _ term => fits 32 term
  | .termEnable _ term => fits 32 term
  | .termRead _ term => fits 32 term
  | .termRerange _ term rate => fits 32 term && rate.all (fits 32)
  | .allocMap _ alloc c allocId term => fits 32 alloc && fits 32 c && fits 32 allocId && fits 32 term
  | .allocUnmap _ alloc => fits 32 alloc
  | .gemMap _ gem _ => fits 32 gem
  | .gemUnmap _ gem => fits 32 gem
  | .snListRead _ c => fits 32 c
  | .rogueStart _ c => fits 32 c
  | .rogueStatus _ c => fits 32 c
  | .rogueStop _ c => fits 32 c
  | .commandStepWaitTimeout _ => true
  | .upstreamBurst _ _ => true
  | .delimiterMiss _ _ => true
  | .fecCodeword _ info errs _ => decide (info ≤ 1824) && decide (errs.length ≤ 2160)
  | .ploamuMessage _ message mic _ => message.all (fits 64) && fits 64 mic
  | .burstReport _ _ at_ _ occupancy => fits 24 at_ && fits 24 occupancy
  | .reportArrival => true
  | .xgemFrame _ _ => true
  | .reasmTimeoutExpiry => true
  | .berWindowClose _ _ => true
  | .reportCutoff => true
  | .allocContract _ alloc rf ra rna rm w lat preann => fits 32 alloc && fits 32 rf && fits 32 ra && fits 32 rna && fits 32 rm && fits 32 w && fits 32 lat && fits 32 preann
  | .allocContractRead _ alloc => fits 32 alloc
  | .dbaPreannounce _ => true
  | .dbaPreannCancel _ alloc frame => fits 32 alloc && frame.all (fits 64)
  | .ledgerReset _ alloc => fits 32 alloc
  | .dbaStatusRead _ c => fits 32 c
  | .solverOutputPosted _ => true
  | .mapDelivery _ _ => true
  | .framingDeadline => true
  | .gmRead _ c => fits 32 c
  | .gmCalendarRead _ c => fits 32 c
  | .uplinkFrameRx _ frame _ _ _ => frame.bytes.length == frame.len || frame.bytes.isEmpty
  | .parsePass _ _ => true
  | .recircPass _ _ => true
  | .upstreamSduParse _ _ _ => true
  | .rulesetDrained => true
  | .swapWaitExpiry _ => true
  | .ruleWrite _ start expect rules => fits 32 start && fits 32 expect && rules.all (fun r => fits 384 r.value && fits 384 r.mask && r.words.length == 4 && r.words.all (fits 32) && fits 32 r.control && fits 32 r.rsv)
  | .ruleRead _ set start count => fits 32 set && fits 32 start && fits 32 count
  | .rulesetCopy _ => true
  | .rulesetSwap _ => true
  | .rulesetStatus _ => true
  | .learnMessageApply _ => true
  | .macFlushApply => true
  | .agingPassStart _ => true
  | .agingScan _ _ index => fits 32 index
  | .moveWindowSweep => true
  | .flowProfileSet _ profile extracts => fits 32 profile && extracts.all (fits 32)
  | .flowAdd _ entries => entries.all (fun e => fits 96 e.key)
  | .flowDelete _ keys => keys.all (fits 96)
  | .flowRead _ keys _ => keys.all (fits 96)
  | .macAdd _ entries => entries.all (fun e => fits 48 e.addr && fits 32 e.fid && fits 32 e.gem)
  | .macDelete _ entries => entries.all (fun e => fits 48 e.addr && fits 32 e.fid)
  | .macRead _ entries _ => entries.all (fun e => fits 48 e.addr && fits 32 e.fid)
  | .macFlush _ _ index => fits 32 index
  | .macUnfreeze _ fid addr => fits 32 fid && fits 48 addr
  | .evictLogRead _ table count => fits 32 table && fits 32 count
  | .tableStatus _ => true
  | .enqueue => true
  | .schedHandover _ => true
  | .gateIntervalStart _ => true
  | .gateListSwitch _ => true
  | .queueSample _ => true
  | .watchSample _ => true
  | .queueDrained _ => true
  | .queueDrainTimeout _ => true
  | .queueConfig _ queue _ => fits 32 queue
  | .queueRead _ queue => fits 32 queue
  | .queueDisable _ queue => fits 32 queue
  | .schedNodeSet _ _ quantum cir cbs => quantum.all (fits 32) && cir.all (fits 32) && cbs.all (fits 32)
  | .policerSet _ policer cir cbs => fits 32 policer && fits 32 cir && fits 32 cbs
  | .markerSet _ marker mode _ redAction _ cir cbs pir pbs => fits 32 marker && fits 32 mode && fits 32 redAction && fits 32 cir && fits 32 cbs && fits 32 pir && fits 32 pbs
  | .meterRead _ _ index => fits 32 index
  | .gateListSet _ inst cycle configTime entries => fits 32 inst && fits 32 cycle && fits 64 configTime && entries.all (fits 64)
  | .gateListClear _ inst => fits 32 inst
  | .gateStatus _ inst => fits 32 inst
  | .watchSet _ slot queue delayLimit => fits 32 slot && queue.all (fits 32) && fits 32 delayLimit
  | .histRead _ start count => fits 32 start && fits 32 count
  | .bufferAlloc _ length _ => decide (length < 2 ^ 14)
  | .bufferTake _ _ _ => true
  | .bufferHandover _ _ _ _ _ => true
  | .bufferFree _ _ _ _ => true
  | .glacierSpill _ => true
  | .glacierSpillAck _ => true
  | .glacierReturn _ _ => true
  | .dramRequest _ _ _ => true
  | .dramRefresh _ => true
  | .dramRetrainCheck _ => true
  | .dramRetrainForced _ => true
  | .poolStatus _ => true
  | .bufFaultLogRead _ count => fits 32 count
  | .glacierStatus _ rateIn rateOut => fits 32 rateIn && fits 32 rateOut
  | .dramStatus _ => true
  | .cipherPairResult _ op outA outB _ => fits 64 op && fits 128 outA && fits 128 outB
  | .rngReseed _ _ => true
  | .entropyFail _ => true
  | .generatorStop _ => true
  | .keyGenerationDrained _ => true
  | .keyExchangeStart _ => true
  | .keyExchTimeout _ => true
  | .macsecVerdict _ _ => true
  | .keyWrite _ => true
  | .keyErase _ slot => fits 32 slot
  | .keyStatus _ slots => slots.all (fun p => fits 32 p.1 && fits 32 p.2)
  | .keyGenerate _ => true
  | .termRekey _ term => fits 32 term
  | .bcastKeyExport _ slot term => fits 32 slot && fits 32 term
  | .cmacJob _ slot tagLen data tag => fits 32 slot && fits 32 tagLen && fitsBody data && fits 128 tag
  | .cipherStatus _ => true
  | .uplinkLinkUp _ => true
  | .uplinkAlignmentLoss _ => true
  | .uplinkFaultSequence _ => true
  | .uplinkTrainingFail _ _ => true
  | .pauseFrameRx _ _ quanta classes => fits 16 quanta && classes.all (fun p => fits 16 p.2)
  | .pauseQuantaExpiry _ _ => true
  | .pfcRefresh _ => true
  | .uplinkStatus _ start count => fits 32 start && fits 32 count
  | .uplinkStats _ mac pcs => fits 32 mac && pcs.all (fits 32)
  | .uplinkRestart _ port => fits 32 port
  | .macsecScSet _ mac sci _ => fits 32 mac && fits 64 sci
  | .macsecSaSet _ sa mac sci an _ pn _ => fits 32 sa && fits 32 mac && sci.all (fits 64) && fits 32 an && fits 64 pn
  | .macsecSaRead _ sa => fits 32 sa
  | .tetherLaneFrame _ _ skew => fits 32 skew
  | .tetherFrameRx _ _ _ rx => fits 64 rx.counter
  | .multiframeStart => true
  | .pairMessageRx _ _ msg _ _ _ => fits 32 msg.count && msg.hold.length == 32
  | .tetherKeyTimeout => true
  | .smpByteIn _ _ => true
  | .tetherIdleExpiry _ _ => true
  | .tetherWake _ _ => true
  | .mirrorRecordRx => true
  | .checkpointEmit => true
  | .checkpointAbsent _ => true
  | .heartbeatToggle => true
  | .heartbeatRefresh => true
  | .protSelfFence => true
  | .pairHbInEdge => true
  | .peerSilent => true
  | .switchTakenTimeout _ => true
  | .tetherStatus _ => true
  | .tetherRestart _ port => fits 32 port
  | .protPair _ _ _ => true
  | .protCommission _ tree => fits 32 tree
  | .protSwitch _ named => named.all (fits 32)
  | .protClaim _ named => named.all (fits 32)
  | .protReadmit _ => true
  | .protStatus _ => true
  | .mirrorResync _ named => named.all (fits 32)
  | .functionLevelReset => true
  | .pciePerst _ => true
  | .registerWrite addr size _ _ => fits 20 addr && decide (size ≤ 8)
  | .deviceTimeLoRead => true
  | .hostFlrCountRead => true
  | .doneCountRead _ => true
  | .mbCountRead _ => true
  | .bar2Access _ _ => true
  | .chEnableSet _ => true
  | .chEnableClear _ => true
  | .chAbort _ => true
  | .chResume _ => true
  | .ringTailWrite _ _ => true
  | .shadowCommit _ _ => true
  | .dmaMessageEnqueue _ => true
  | .dmaDescriptorTake _ desc index => desc.length == 8 && decide (index.length < 8192)
  | .dmaOwnReread _ desc index => desc.length == 8 && decide (index.length < 8192)
  | .dmaBurst _ data => decide (data.length ≤ 4096)
  | .dmaTriggerTimer _ => true
  | .dmaDescriptorComplete _ => true
  | .dmaCoalesceTimeout _ => true
  | .dmaBusError _ _ => true
  | .dmaChannelOpen _ chan func => fits 32 chan && fits 32 func
  | .dmaChannelClose _ chan => fits 32 chan
  | .dmaStatus _ => true
  | .mbDoorbell _ => true
  | .mailboxAccept _ _ => true
  | .respReadyClear _ => true
  | .controlPairTakeover => true
  | .identRead _ => true
  | .paramRead _ => true
  | .paramWrite _ => true
  | .paramDescribe _ key inst => fits 32 key && fits 32 inst
  | .fwImageWrite _ => true
  | .fwActivate _ _ => true
  | .fwRebuildTimeout => true
  | .fwStandbyLoadDone _ => true
  | .fwCommit _ => true
  | .fwStatus _ => true
  | .sessionOpen _ => true
  | .sessionAuth _ => true
  | .sessionClose _ => true
  | .sessionIdleExpiry _ => true
  | .authLockoutExpiry _ => true
  | .makerEnChange _ => true
  | .credEnrol _ _ => true
  | .credSet _ _ => true
  | .auditSummary => true
  | .auditPersist _ => true
  | .auditPersistRetry _ => true
  | .auditRead _ start count => fits 32 start && fits 32 count
  | .calRead _ item inst => fits 32 item && fits 32 inst
  | .calOverlayWrite _ => true
  | .faultReport => true
  | .handshakeStall _ _ => true
  | .sramUe _ _ => true
  | .sramCorrection _ _ => true
  | .scrubRead _ _ _ => true
  | .cellRepairDone _ _ => true
  | .blockReplacementDone _ => true
  | .regionRestartDone _ => true
  | .recoveryTimeout _ => true
  | .lockstepMismatch _ => true
  | .controlPairSelfTestDone _ _ => true
  | .unitSlow _ => true
  | .unitGhost _ => true
  | .spareSelfTest _ _ => true
  | .maintenanceWindowStart => true
  | .readmissionTestDone _ _ => true
  | .faultStatus _ => true
  | .unitStatus _ _ => true
  | .readmitPolicy _ _ _ => true
  | .readmitOverride _ _ _ => true
  | .repairMapRead _ start => fits 32 start
  | .repairMapWrite _ records => records.all (fun p => fits 32 p.2)
  | .controlPairSwitch _ => true
  | .eventArrival _ => true
  | .eventShedPeriod => true
  | .eventBatchTimeout => true
  | .eventIrqHoldoffExpiry _ => true
  | .telemetryRecord => true
  | .telemetryPeriodExpiry => true
  | .telemetryFlushExpiry => true
  | .eventMaskSet _ _ kinds sources => kinds.all (fits 32) && sources.all (fits 32)
  | .eventRouteSet _ routes => routes.all (fun r => fits 32 r.kind && r.vector.all (fits 32))
  | .eventRead _ count => fits 32 count
  | .telemetrySet _ mask period => fits 32 mask && fits 32 period
  | .counterSnapshot _ => true
  | .resetAssert _ => true
  | .resetRelease => true
  | .bringupStepDone _ => true
  | .darkIdleExpiry _ => true
  | .darkChannelExit _ => true
  | .dramSrIdleExpiry _ => true
  | .powerStateSet _ => true
  | .powerStatus _ => true
  | .tempSample temps => temps.length == 64
  | .lanePrbsSet _ => true
  | .lanePrbsRead _ compared errors => decide (errors ≤ compared)
  | .laneErrInject _ => true
  | .errorInjection _ _ => true
  | .laneLoopSet _ => true
  | .selfTest _ _ result => fits 32 result
  | .tapReset => true
  | .extest => true
  | .samplePreload _ _ => true
  | .idcode => true
  | .clamp => true
  | .highz => true
  | .extestPulse => true
  | .extestTrain => true
  | .bypass => true
  | .shaperConforms _ => true
  | .entropyRecovered => true
  | .tetherClockLoss _ => true
  | .maintenanceWindowEnd => true
  | .commissionTimeout _ => true
  | .prbsLock _ _ => true
  | .prbsLockLoss _ _ compared errors => decide (errors ≤ compared)

/-- The mailbox a host command runs in, and its code (Table 17.10); nothing for an event. -/
def Instr.command : Instr → Option (Fin 16 × Nat)
  | .signalCommand _ _ => none
  | .capacityReport _ _ _ => none
  | .freezeMessage _ _ => none
  | .thawMessage _ _ => none
  | .criticalMessage _ => none
  | .paceWindowClose _ => none
  | .paceSample _ _ _ _ => none
  | .avsSettleExpiry => none
  | .avsbusTransactionDone _ _ => none
  | .avsbusRetry _ => none
  | .pmbusStatusPoll _ => none
  | .regulatorPassthrough mb _ _ _ => some (mb, 0x0201)
  | .bridgeOverrun _ _ => none
  | .bridgeUnderrun _ _ => none
  | .brstPulse _ => none
  | .rssiRoundStart _ => none
  | .rssiWindow _ _ => none
  | .rssiSettleExpiry _ => none
  | .treeLosPin _ _ => none
  | .losWindowExpiry _ => none
  | .mmsSelSetupExpiry _ => none
  | .moduleTransactionDone _ _ => none
  | .mmsBusStuck _ => none
  | .mmsSelectHoldoffExpiry _ => none
  | .moduleManageStart _ _ => none
  | .moduleReady _ => none
  | .modulePoll _ _ => none
  | .moduleRead mb _ _ _ _ _ => some (mb, 0x0320)
  | .moduleWrite mb _ _ _ _ _ => some (mb, 0x0321)
  | .rssiMeasure mb _ => some (mb, 0x0330)
  | .bmemRead mb _ => some (mb, 0x0310)
  | .bmemReset mb _ => some (mb, 0x0311)
  | .burstPreload _ _ => none
  | .bankSwap _ => none
  | .burstWriteBack _ _ => none
  | .laneSleepStart _ => none
  | .laneWakeStart _ => none
  | .sleepLight _ _ _ _ => none
  | .darkWakeRunStart _ => none
  | .darkWakeRunEnd _ => none
  | .driverSegmentFault _ _ => none
  | .laneSegmentSwap _ => none
  | .sliceShadowPeriod _ _ _ _ => none
  | .laneSliceSwap _ => none
  | .frameStart => none
  | .ponRefLoss _ => none
  | .ethRefLoss => none
  | .refReturn _ => none
  | .fragmentBoundary _ _ => none
  | .ppsEdge _ _ => none
  | .ppsEdgeMissing => none
  | .todMessage _ => none
  | .channelEnable mb _ => some (mb, 0x0401)
  | .channelDisable mb _ => some (mb, 0x0402)
  | .channelStop _ => none
  | .timeRead mb => some (mb, 0x0410)
  | .discoveryWindowDue _ => none
  | .profileBroadcast _ => none
  | .snAnswer _ _ _ _ _ => none
  | .registrationBurst _ _ _ _ _ _ => none
  | .rangingWindowMiss _ _ => none
  | .rangeRetryExpiry _ => none
  | .driftSettleExpiry _ => none
  | .lobDeactExpiry _ => none
  | .onuIdHoldExpiry _ _ => none
  | .rogueObservation _ _ _ _ => none
  | .rogueCorrelationEnd _ => none
  | .rogueProbeResult _ _ => none
  | .rogueBisectionStep _ => none
  | .readmissionAnswer _ => none
  | .rogueHoldoffExpiry _ => none
  | .termCreate mb _ _ _ _ _ _ => some (mb, 0x0501)
  | .termDelete mb _ => some (mb, 0x0502)
  | .termDeactivate mb _ => some (mb, 0x0503)
  | .termDisable mb _ => some (mb, 0x0504)
  | .termEnable mb _ => some (mb, 0x0505)
  | .termRead mb _ => some (mb, 0x0506)
  | .termRerange mb _ _ => some (mb, 0x0507)
  | .allocMap mb _ _ _ _ => some (mb, 0x0510)
  | .allocUnmap mb _ => some (mb, 0x0511)
  | .gemMap mb _ _ => some (mb, 0x0512)
  | .gemUnmap mb _ => some (mb, 0x0513)
  | .snListRead mb _ => some (mb, 0x0520)
  | .rogueStart mb _ => some (mb, 0x0530)
  | .rogueStatus mb _ => some (mb, 0x0531)
  | .rogueStop mb _ => some (mb, 0x0532)
  | .commandStepWaitTimeout _ => none
  | .upstreamBurst _ _ => none
  | .delimiterMiss _ _ => none
  | .fecCodeword _ _ _ _ => none
  | .ploamuMessage _ _ _ _ => none
  | .burstReport _ _ _ _ _ => none
  | .reportArrival => none
  | .xgemFrame _ _ => none
  | .reasmTimeoutExpiry => none
  | .berWindowClose _ _ => none
  | .reportCutoff => none
  | .allocContract mb _ _ _ _ _ _ _ _ => some (mb, 0x0701)
  | .allocContractRead mb _ => some (mb, 0x0702)
  | .dbaPreannounce mb => some (mb, 0x0710)
  | .dbaPreannCancel mb _ _ => some (mb, 0x0711)
  | .ledgerReset mb _ => some (mb, 0x0720)
  | .dbaStatusRead mb _ => some (mb, 0x0730)
  | .solverOutputPosted _ => none
  | .mapDelivery _ _ => none
  | .framingDeadline => none
  | .gmRead mb _ => some (mb, 0x0740)
  | .gmCalendarRead mb _ => some (mb, 0x0741)
  | .uplinkFrameRx _ _ _ _ _ => none
  | .parsePass _ _ => none
  | .recircPass _ _ => none
  | .upstreamSduParse _ _ _ => none
  | .rulesetDrained => none
  | .swapWaitExpiry _ => none
  | .ruleWrite mb _ _ _ => some (mb, 0x0801)
  | .ruleRead mb _ _ _ => some (mb, 0x0802)
  | .rulesetCopy mb => some (mb, 0x0803)
  | .rulesetSwap mb => some (mb, 0x0804)
  | .rulesetStatus mb => some (mb, 0x0805)
  | .learnMessageApply _ => none
  | .macFlushApply => none
  | .agingPassStart _ => none
  | .agingScan _ _ _ => none
  | .moveWindowSweep => none
  | .flowProfileSet mb _ _ => some (mb, 0x0901)
  | .flowAdd mb _ => some (mb, 0x0902)
  | .flowDelete mb _ => some (mb, 0x0903)
  | .flowRead mb _ _ => some (mb, 0x0904)
  | .macAdd mb _ => some (mb, 0x0910)
  | .macDelete mb _ => some (mb, 0x0911)
  | .macRead mb _ _ => some (mb, 0x0912)
  | .macFlush mb _ _ => some (mb, 0x0913)
  | .macUnfreeze mb _ _ => some (mb, 0x0914)
  | .evictLogRead mb _ _ => some (mb, 0x0920)
  | .tableStatus mb => some (mb, 0x0921)
  | .enqueue => none
  | .schedHandover _ => none
  | .gateIntervalStart _ => none
  | .gateListSwitch _ => none
  | .queueSample _ => none
  | .watchSample _ => none
  | .queueDrained _ => none
  | .queueDrainTimeout _ => none
  | .queueConfig mb _ _ => some (mb, 0x0A01)
  | .queueRead mb _ => some (mb, 0x0A02)
  | .queueDisable mb _ => some (mb, 0x0A03)
  | .schedNodeSet mb _ _ _ _ => some (mb, 0x0A10)
  | .policerSet mb _ _ _ => some (mb, 0x0A20)
  | .markerSet mb _ _ _ _ _ _ _ _ _ => some (mb, 0x0A21)
  | .meterRead mb _ _ => some (mb, 0x0A22)
  | .gateListSet mb _ _ _ _ => some (mb, 0x0A30)
  | .gateListClear mb _ => some (mb, 0x0A31)
  | .gateStatus mb _ => some (mb, 0x0A32)
  | .watchSet mb _ _ _ => some (mb, 0x0A40)
  | .histRead mb _ _ => some (mb, 0x0A41)
  | .bufferAlloc _ _ _ => none
  | .bufferTake _ _ _ => none
  | .bufferHandover _ _ _ _ _ => none
  | .bufferFree _ _ _ _ => none
  | .glacierSpill _ => none
  | .glacierSpillAck _ => none
  | .glacierReturn _ _ => none
  | .dramRequest _ _ _ => none
  | .dramRefresh _ => none
  | .dramRetrainCheck _ => none
  | .dramRetrainForced _ => none
  | .poolStatus mb => some (mb, 0x0B01)
  | .bufFaultLogRead mb _ => some (mb, 0x0B02)
  | .glacierStatus mb _ _ => some (mb, 0x0B03)
  | .dramStatus mb => some (mb, 0x0C01)
  | .cipherPairResult _ _ _ _ _ => none
  | .rngReseed _ _ => none
  | .entropyFail _ => none
  | .generatorStop _ => none
  | .keyGenerationDrained _ => none
  | .keyExchangeStart _ => none
  | .keyExchTimeout _ => none
  | .macsecVerdict _ _ => none
  | .keyWrite mb => some (mb, 0x0D01)
  | .keyErase mb _ => some (mb, 0x0D02)
  | .keyStatus mb _ => some (mb, 0x0D03)
  | .keyGenerate mb => some (mb, 0x0D04)
  | .termRekey mb _ => some (mb, 0x0D05)
  | .bcastKeyExport mb _ _ => some (mb, 0x0D06)
  | .cmacJob mb _ _ _ _ => some (mb, 0x0D10)
  | .cipherStatus mb => some (mb, 0x0D20)
  | .uplinkLinkUp _ => none
  | .uplinkAlignmentLoss _ => none
  | .uplinkFaultSequence _ => none
  | .uplinkTrainingFail _ _ => none
  | .pauseFrameRx _ _ _ _ => none
  | .pauseQuantaExpiry _ _ => none
  | .pfcRefresh _ => none
  | .uplinkStatus mb _ _ => some (mb, 0x0E01)
  | .uplinkStats mb _ _ => some (mb, 0x0E02)
  | .uplinkRestart mb _ => some (mb, 0x0E03)
  | .macsecScSet mb _ _ _ => some (mb, 0x0E10)
  | .macsecSaSet mb _ _ _ _ _ _ _ => some (mb, 0x0E11)
  | .macsecSaRead mb _ => some (mb, 0x0E12)
  | .tetherLaneFrame _ _ _ => none
  | .tetherFrameRx _ _ _ _ => none
  | .multiframeStart => none
  | .pairMessageRx _ _ _ _ _ _ => none
  | .tetherKeyTimeout => none
  | .smpByteIn _ _ => none
  | .tetherIdleExpiry _ _ => none
  | .tetherWake _ _ => none
  | .mirrorRecordRx => none
  | .checkpointEmit => none
  | .checkpointAbsent _ => none
  | .heartbeatToggle => none
  | .heartbeatRefresh => none
  | .protSelfFence => none
  | .pairHbInEdge => none
  | .peerSilent => none
  | .switchTakenTimeout _ => none
  | .tetherStatus mb => some (mb, 0x0F01)
  | .tetherRestart mb _ => some (mb, 0x0F02)
  | .protPair mb _ _ => some (mb, 0x0F10)
  | .protCommission mb _ => some (mb, 0x0F11)
  | .protSwitch mb _ => some (mb, 0x0F12)
  | .protClaim mb _ => some (mb, 0x0F13)
  | .protReadmit mb => some (mb, 0x0F14)
  | .protStatus mb => some (mb, 0x0F15)
  | .mirrorResync mb _ => some (mb, 0x0F16)
  | .functionLevelReset => none
  | .pciePerst _ => none
  | .registerWrite _ _ _ _ => none
  | .deviceTimeLoRead => none
  | .hostFlrCountRead => none
  | .doneCountRead _ => none
  | .mbCountRead _ => none
  | .bar2Access _ _ => none
  | .chEnableSet _ => none
  | .chEnableClear _ => none
  | .chAbort _ => none
  | .chResume _ => none
  | .ringTailWrite _ _ => none
  | .shadowCommit _ _ => none
  | .dmaMessageEnqueue _ => none
  | .dmaDescriptorTake _ _ _ => none
  | .dmaOwnReread _ _ _ => none
  | .dmaBurst _ _ => none
  | .dmaTriggerTimer _ => none
  | .dmaDescriptorComplete _ => none
  | .dmaCoalesceTimeout _ => none
  | .dmaBusError _ _ => none
  | .dmaChannelOpen mb _ _ => some (mb, 0x1001)
  | .dmaChannelClose mb _ => some (mb, 0x1002)
  | .dmaStatus mb => some (mb, 0x1003)
  | .mbDoorbell _ => none
  | .mailboxAccept _ _ => none
  | .respReadyClear _ => none
  | .controlPairTakeover => none
  | .identRead mb => some (mb, 0x0101)
  | .paramRead mb => some (mb, 0x0102)
  | .paramWrite mb => some (mb, 0x0103)
  | .paramDescribe mb _ _ => some (mb, 0x0104)
  | .fwImageWrite mb => some (mb, 0x0110)
  | .fwActivate mb _ => some (mb, 0x0111)
  | .fwRebuildTimeout => none
  | .fwStandbyLoadDone _ => none
  | .fwCommit mb => some (mb, 0x0112)
  | .fwStatus mb => some (mb, 0x0113)
  | .sessionOpen mb => some (mb, 0x1101)
  | .sessionAuth mb => some (mb, 0x1102)
  | .sessionClose mb => some (mb, 0x1103)
  | .sessionIdleExpiry _ => none
  | .authLockoutExpiry _ => none
  | .makerEnChange _ => none
  | .credEnrol mb _ => some (mb, 0x1110)
  | .credSet mb _ => some (mb, 0x1111)
  | .auditSummary => none
  | .auditPersist _ => none
  | .auditPersistRetry _ => none
  | .auditRead mb _ _ => some (mb, 0x1120)
  | .calRead mb _ _ => some (mb, 0x1130)
  | .calOverlayWrite mb => some (mb, 0x1131)
  | .faultReport => none
  | .handshakeStall _ _ => none
  | .sramUe _ _ => none
  | .sramCorrection _ _ => none
  | .scrubRead _ _ _ => none
  | .cellRepairDone _ _ => none
  | .blockReplacementDone _ => none
  | .regionRestartDone _ => none
  | .recoveryTimeout _ => none
  | .lockstepMismatch _ => none
  | .controlPairSelfTestDone _ _ => none
  | .unitSlow _ => none
  | .unitGhost _ => none
  | .spareSelfTest _ _ => none
  | .maintenanceWindowStart => none
  | .readmissionTestDone _ _ => none
  | .faultStatus mb => some (mb, 0x1201)
  | .unitStatus mb _ => some (mb, 0x1202)
  | .readmitPolicy mb _ _ => some (mb, 0x1203)
  | .readmitOverride mb _ _ => some (mb, 0x1204)
  | .repairMapRead mb _ => some (mb, 0x1205)
  | .repairMapWrite mb _ => some (mb, 0x1206)
  | .controlPairSwitch mb => some (mb, 0x1207)
  | .eventArrival _ => none
  | .eventShedPeriod => none
  | .eventBatchTimeout => none
  | .eventIrqHoldoffExpiry _ => none
  | .telemetryRecord => none
  | .telemetryPeriodExpiry => none
  | .telemetryFlushExpiry => none
  | .eventMaskSet mb _ _ _ => some (mb, 0x1301)
  | .eventRouteSet mb _ => some (mb, 0x1302)
  | .eventRead mb _ => some (mb, 0x1303)
  | .telemetrySet mb _ _ => some (mb, 0x1310)
  | .counterSnapshot mb => some (mb, 0x1311)
  | .resetAssert _ => none
  | .resetRelease => none
  | .bringupStepDone _ => none
  | .darkIdleExpiry _ => none
  | .darkChannelExit _ => none
  | .dramSrIdleExpiry _ => none
  | .powerStateSet mb => some (mb, 0x0210)
  | .powerStatus mb => some (mb, 0x0211)
  | .tempSample _ => none
  | .lanePrbsSet mb => some (mb, 0x1401)
  | .lanePrbsRead mb _ _ => some (mb, 0x1402)
  | .laneErrInject mb => some (mb, 0x1403)
  | .errorInjection _ _ => none
  | .laneLoopSet mb => some (mb, 0x1404)
  | .selfTest mb _ _ => some (mb, 0x1410)
  | .tapReset => none
  | .extest => none
  | .samplePreload _ _ => none
  | .idcode => none
  | .clamp => none
  | .highz => none
  | .extestPulse => none
  | .extestTrain => none
  | .bypass => none
  | .shaperConforms _ => none
  | .entropyRecovered => none
  | .tetherClockLoss _ => none
  | .maintenanceWindowEnd => none
  | .commissionTimeout _ => none
  | .prbsLock _ _ => none
  | .prbsLockLoss _ _ _ _ => none

end Sys2Proof
end

