-- ==== Sys2Proof/Machine/Frac.lean ====
section
/-! DEFINITION. Exact fractions: the solver's shares (R189 to R191) and the delays of the upstream timeline are computed exactly and
rounded once, where the spec rounds. -/
namespace Sys2Proof

/-- A fraction; the denominator is never 0 when built by `Frac.of`. -/
structure Frac where
  num : Int := 0
  den : Nat := 1
  deriving DecidableEq, Repr, Inhabited

namespace Frac

/-- `n ÷ d` in lowest terms; 0 when `d` is 0. -/
def of (n : Int) (d : Nat := 1) : Frac :=
  let g := Nat.gcd n.natAbs d
  if d = 0 then {} else ⟨n / (g : Int), d / g⟩

def add (a b : Frac) : Frac := of (a.num * b.den + b.num * a.den) (a.den * b.den)
def sub (a b : Frac) : Frac := of (a.num * b.den - b.num * a.den) (a.den * b.den)
def mul (a b : Frac) : Frac := of (a.num * b.num) (a.den * b.den)

/-- Quotient; 0 when the divisor is 0. -/
def div (a b : Frac) : Frac :=
  if b.num < 0 then of (-(a.num * b.den)) (a.den * b.num.natAbs) else of (a.num * b.den) (a.den * b.num.natAbs)

def le (a b : Frac) : Bool := a.num * b.den ≤ b.num * a.den
def lt (a b : Frac) : Bool := a.num * b.den < b.num * a.den

def floor (a : Frac) : Int := a.num / (a.den : Int)

/-- Nearest integer, halves up. -/
def round (a : Frac) : Int := (2 * a.num + a.den) / (2 * a.den : Int)

def sum (l : List Frac) : Frac := l.foldl add {}

end Frac
end Sys2Proof
end

