-- ==== Sys2Proof/Machine/State.lean ====
section
/-! DEFINITION. The state of the UM3250, the reasons a step can stop, and the state right after reset. -/
namespace Sys2Proof.Machine

/-- The whole device, subsystem by subsystem. Every field's default is its value right after the release of RESET_N. -/
structure State where
  /-- Commands waiting, first in first out. -/
  pending : List Instr := []
  time : Clock := {}
  clk : ClkState := {}
  par : ParamStore := {}
  mb : Tab Mailbox := []
  /-- Acceptances so far (R430). -/
  accepted : Nat := 0
  roles : RolesState := {}
  fw : FwState := {}
  host : HostPort := {}
  ev : EvState := {}
  power : PowerState := {}
  /-- DRAM size in bytes as read at bring-up step 9 (R532). -/
  dramBytes : Nat := 0
  pace : PaceState := {}
  /-- Units by address (R476), and faults detected and on their way to a handler. -/
  units : Tab UnitRec := []
  reports : List FaultReport := []
  fault : FaultState := {}
  lanes : LanesState := {}
  terms : Tab Terminal := []
  chans : Tab ChanState := []
  pon : PonState := {}
  dba : DbaState := {}
  cipher : CipherState := {}
  prot : ProtState := {}
  fwd : FwdState := {}
  laneTest : Tab LaneTest := []
  tap : TapState := {}
  /-- What has left the device, oldest first. -/
  outbox : List Out := []  -- log entry 13 (DESIGN CHOICE)
  /-- Free values drawn so far: the argument of the next. -/
  free : Nat := 0  -- log entry 4 (DESIGN CHOICE)
  deriving DecidableEq, Repr, Inhabited

/-- Faults: none. Every command of the table completes (a device error is a response status, an error flag or an event). Safe: no
behaviour of the device is replaced by a stop. Log entry 9 (DESIGN CHOICE). -/
inductive Fault where
  deriving DecidableEq, Repr

/-- Refusals. -/
inductive Refusal where
  /-- Raised by `exec` for a row of the table that has no meaning yet. Safe: the machine stops where the device goes on. -/
  | notModelled (mnemonic : String)
  deriving DecidableEq, Repr

/-- The machine right after the release of RESET_N: bring-up step 3 in progress (R532), every other field at its reset value. Log entry 2 (DESIGN CHOICE). -/
def State.reset : State := {}

end Sys2Proof.Machine
end

