-- ==== Sys2Proof/Machine/Ops.lean ====
section
/-! DEFINITION. The operations every meaning is written over: time, parameters and counters, raising events, MSI-X messages,
responses, audit records and the start of a host command. -/
namespace Sys2Proof.Machine

/-- What a meaning answers. -/
abbrev Res := Host.Outcome State Fault Refusal

/-! ### Time -/

/-- Device time in whole nanoseconds (R111). -/
def State.now (s : State) : Nat := s.time.dev / 2 ^ 32 % 2 ^ 64

/-- Elapsed time in whole nanoseconds, for limits and periods. -/
def State.up (s : State) : Nat := s.time.up / 2 ^ 32

/-- One second in nanoseconds. -/
def second : Nat := 1000000000

/-- One millisecond in nanoseconds. -/
def msec : Nat := 1000000

/-! ### Output and free values -/

def State.emit (s : State) (o : Out) : State := { s with outbox := s.outbox ++ [o] }

/-- A free value: nothing fixes it. The counter moves on, so each draw is a fresh one. -/
def State.draw (s : State) : Nat × State := (Config.freeNat s.free, { s with free := s.free + 1 })

/-! ### Parameters (R442 to R447) and calibration (R469) -/

/-- Index of a parameter's instance in the parameter store. -/
def pkey (p : Param) (i : Nat) : Nat := p.key * 2 ^ 20 + i

/-- The overlay entry in force for an item's instance. -/
def calEntry (o : Option Overlay) (item inst : Nat) : Option CalEntry :=
  match o with
  | none => none
  | some v => v.entries.reverse.find? (fun e => e.item == item && e.inst == inst)

/-- A value rounded to a step: the nearest multiple, halves upwards. -/
def roundStep (step : Nat) (v : Int) : Int :=
  if step ≤ 1 then v else ((2 * v + step) / (2 * step)) * step

/-- The value an item takes before the clamp of R469. -/
def calAsked (o : Option Overlay) (item inst : Nat) : Int :=
  match calEntry o item inst with
  | none => Config.calF item inst
  | some e => if e.replace then e.value else Config.calF item inst + e.value

/-- The clamp of R469: within the absolute range and within the fused bound of the factory value. -/
def calClamp (item inst : Nat) (v : Int) : Int :=
  max (max (Config.calLo item) (Config.calF item inst - Config.calB item inst))
    (min v (min (Config.calHi item) (Config.calF item inst + Config.calB item inst)))

/-- Effective value of a calibration item (R469). -/
def calEffective (o : Option Overlay) (item inst : Nat) : Int :=
  roundStep (Config.calStep item) (calClamp item inst (calAsked o item inst))

/-- Effective default of a transmit tap (R57): its fused preset, or what the overlay's entry of item 1 asks, clamped as R469 says to 0 to 15 and to
the fused bound. -/
def tapEffective (o : Option Overlay) (p : Param) (i : Nat) : Int :=
  let f := Config.fusedPreset p.key i
  let asked := match calEntry o 1 i with
    | none => f
    | some e => Config.tapAsked p.key i e.replace e.value
  max (max 0 (f - Config.tapBound p.key i)) (min asked (min 15 (f + Config.tapBound p.key i)))

/-- Effective seed of an RSSI class and rate: its fused values, each as the overlay's entry of item 4 asks, within its bound (R469). Log entry 290 (DESIGN CHOICE). -/
def seedEffective (o : Option Overlay) (n : Nat) : List Int :=
  match calEntry o 4 n with
  | none => Config.seedOf n
  | some e => (Config.seedOf n).zipIdx.map (fun x =>
      max (x.1 - Config.seedBound n x.2) (min (Config.seedAsked n x.2 e.replace e.value) (x.1 + Config.seedBound n x.2)))

/-- A parameter's default: that of its table, or the effective calibration value where the default is the fused preset (R469). Log entry 180 (DEDUCED). -/
def State.defaultOf (s : State) (p : Param) (i : Nat) : Int :=
  match p with
  | .TX_SWING => calEffective s.roles.overlay 1 i
  | .TX_FFE_PRE => tapEffective s.roles.overlay p i
  | .TX_FFE_POST => tapEffective s.roles.overlay p i
  | .UPLINK_TX_PRESET => calEffective s.roles.overlay 2 i
  | .TETHER_TX_PRESET => calEffective s.roles.overlay 3 i
  | _ => p.default i

/-- A settable parameter's value as last written. -/
def State.get (s : State) (p : Param) (i : Nat := 0) : Int :=
  (s.par.vals.get (pkey p i)).getD (s.defaultOf p i)

/-- The same as a number, for parameters that are never negative. -/
def State.getN (s : State) (p : Param) (i : Nat := 0) : Nat := (s.get p i).toNat

/-- The value in force of a parameter that takes effect at a restart, channel enable or boot. -/
def State.getF (s : State) (p : Param) (i : Nat := 0) : Int :=
  (s.par.inForce.get (pkey p i)).getD (s.defaultOf p i)

def State.getFN (s : State) (p : Param) (i : Nat := 0) : Nat := (s.getF p i).toNat

def State.setPar (s : State) (p : Param) (i : Nat) (v : Int) : State :=
  { s with par.vals := s.par.vals.set (pkey p i) (some v) }

/-- A parameter's written value takes effect now. -/
def State.enforce (s : State) (p : Param) (i : Nat) : State :=
  { s with par.inForce := s.par.inForce.set (pkey p i) (some (s.get p i)) }

/-- A read-only item that a subsystem counts or posts. -/
def State.ro (s : State) (p : Param) (i : Nat := 0) : Int := s.par.ro.get (pkey p i)

def State.setRo (s : State) (p : Param) (i : Nat) (v : Int) : State :=
  { s with par.ro := s.par.ro.set (pkey p i) v }

/-- A field [hi:lo] of a number increased by `n`, held at the field's maximum (R520). -/
def addField (v hi lo n : Nat) : Nat :=
  let f := bits v hi lo
  v - f * 2 ^ lo + min (f + n) (2 ^ (hi + 1 - lo) - 1) * 2 ^ lo

/-- A field [hi:lo] of a number replaced. -/
def setField (v hi lo f : Nat) : Nat := v - bits v hi lo * 2 ^ lo + f % 2 ^ (hi + 1 - lo) * 2 ^ lo

/-- A counting field of a read-only item increased, saturating (R520). -/
def State.bumpF (s : State) (p : Param) (i hi lo : Nat) (n : Nat := 1) : State :=
  s.setRo p i (addField (s.ro p i).toNat hi lo n : Nat)

/-- A counter increased, saturating at 32 bits (R520). -/
def State.bump (s : State) (p : Param) (i : Nat) (n : Nat := 1) : State := s.bumpF p i 31 0 n

/-! ### Event sources (R507, Table 20.1) and raising events -/

/-- Log entry 203 (DESIGN CHOICE). -/
def srcTree (t slot : Nat) : Nat := t * 24 + slot
/-- Source of a tree channel's function, `base` the slot of channel 0. -/
def srcChan (c base : Nat) : Nat := c / 2 * 24 + base + c % 2
def srcUplink (p slot : Nat) : Nat := 768 + p * 40 + slot
/-- Source of an uplink MAC's function, `base` the slot of MAC 8p. -/
def srcMac (m base : Nat) : Nat := 768 + m / 8 * 40 + base + m % 8
def srcTether (p slot : Nat) : Nat := 928 + p * 48 + slot
def srcRegion (r slot : Nat) : Nat := 1024 + r * 20 + slot
def srcDram (d slot : Nat) : Nat := 1284 + d * 12 + slot
def srcDma (c slot : Nat) : Nat := 1380 + c * 2 + slot
def srcChip (slot : Nat) : Nat := 1508 + slot

/-- Region numbers (Table 0.5). -/
def regionOfTree (t : Nat) : Nat := t / 4
def regionOfChan (c : Nat) : Nat := c / 8
def regionOfMac (m : Nat) : Nat := 8 + m / 16
def regM : Nat := 10
def regH : Nat := 11
def regC : Nat := 12

/-- A record handed to the handlers on its way to C.7 (R510, R512). Log entry 15 (DESIGN CHOICE). -/
def State.raiseAs (s : State) (k : EvKind) (clear : Bool) (source region data : Nat) : State :=
  { s with ev.transit := s.ev.transit ++ [⟨source, k, k.severity clear, region, clear, 0, s.now, data⟩] }

def State.raise (s : State) (k : EvKind) (source region data : Nat) : State := s.raiseAs k false source region data

/-- The occurrences of the last second, this one with them. -/
def recent (now : Nat) (l : List Nat) : List Nat := now :: l.filter (fun t => decide (now - t < second))

/-- Index of a kind's occurrences at one instance. -/
def rateKey (k : EvKind) (inst : Nat) : Nat := k.code * 2 ^ 32 + inst

/-- A kind raised at most once per `period` at one instance (R513): the record carries `data` of the occurrences of the last second. -/
def State.raiseEvery (s : State) (period : Nat) (k : EvKind) (inst source region : Nat) (data : Nat → Nat) : State :=
  let key := rateKey k inst
  let r := s.ev.rate.get key
  let times := recent s.up r.times
  let due := match r.last with
    | none => true
    | some t => decide (period ≤ s.up - t)
  let s := { s with ev.rate := s.ev.rate.set key ⟨if due then some s.up else r.last, times⟩ }
  if due then s.raise k source region (data times.length) else s

/-- At most once per second. -/
def State.raiseSec (s : State) (k : EvKind) (inst source region : Nat) (data : Nat → Nat) : State :=
  s.raiseEvery second k inst source region data

/-! ### MSI-X (R409) -/

/-- The posted write of a vector; a masked vector sets its pending bit instead. -/
def State.msix (s : State) (v : Nat) : State :=
  if (s.host.msix.get v).masked then { s with host.pba := s.host.pba.set v true } else s.emit (.msix v)

/-! ### The command catalogue (Table 17.10) -/

/-- Rights (bit 0 operator, 1 installer, 2 maker, 3 enrolment, 4 none needed) and defined FLAGS bits (R436) of a command code. -/
def cmdInfo : Nat → Option (Nat × Nat)
  | 0x0101 => some (16, 0)  -- IDENT_READ
  | 0x0102 => some (7, 0)  -- PARAM_READ
  | 0x0103 => some (7, 1)  -- PARAM_WRITE
  | 0x0104 => some (7, 0)  -- PARAM_DESCRIBE
  | 0x0110 => some (6, 0)  -- FW_IMAGE_WRITE
  | 0x0111 => some (6, 0)  -- FW_ACTIVATE
  | 0x0112 => some (6, 0)  -- FW_COMMIT
  | 0x0113 => some (7, 0)  -- FW_STATUS
  | 0x0201 => some (6, 0)  -- REGULATOR_PASSTHROUGH
  | 0x0210 => some (3, 0)  -- POWER_STATE_SET
  | 0x0211 => some (7, 0)  -- POWER_STATUS
  | 0x0310 => some (7, 0)  -- BMEM_READ
  | 0x0311 => some (3, 0)  -- BMEM_RESET
  | 0x0320 => some (7, 0)  -- MODULE_READ
  | 0x0321 => some (6, 0)  -- MODULE_WRITE
  | 0x0330 => some (3, 0)  -- RSSI_MEASURE
  | 0x0401 => some (3, 0)  -- CHANNEL_ENABLE
  | 0x0402 => some (3, 1)  -- CHANNEL_DISABLE
  | 0x0410 => some (7, 0)  -- TIME_READ
  | 0x0501 => some (3, 0)  -- TERM_CREATE
  | 0x0502 => some (3, 0)  -- TERM_DELETE
  | 0x0503 => some (1, 0)  -- TERM_DEACTIVATE
  | 0x0504 => some (1, 0)  -- TERM_DISABLE
  | 0x0505 => some (1, 0)  -- TERM_ENABLE
  | 0x0506 => some (7, 0)  -- TERM_READ
  | 0x0507 => some (3, 0)  -- TERM_RERANGE
  | 0x0510 => some (1, 0)  -- ALLOC_MAP
  | 0x0511 => some (1, 0)  -- ALLOC_UNMAP
  | 0x0512 => some (1, 0)  -- GEM_MAP
  | 0x0513 => some (1, 0)  -- GEM_UNMAP
  | 0x0520 => some (3, 0)  -- SN_LIST_READ
  | 0x0530 => some (3, 0)  -- ROGUE_START
  | 0x0531 => some (7, 0)  -- ROGUE_STATUS
  | 0x0532 => some (3, 0)  -- ROGUE_STOP
  | 0x0701 => some (1, 0)  -- ALLOC_CONTRACT
  | 0x0702 => some (7, 0)  -- ALLOC_CONTRACT_READ
  | 0x0710 => some (1, 0)  -- DBA_PREANNOUNCE
  | 0x0711 => some (1, 0)  -- DBA_PREANN_CANCEL
  | 0x0720 => some (1, 0)  -- LEDGER_RESET
  | 0x0730 => some (7, 0)  -- DBA_STATUS_READ
  | 0x0740 => some (7, 0)  -- GM_READ
  | 0x0741 => some (7, 0)  -- GM_CALENDAR_READ
  | 0x0801 => some (1, 0)  -- RULE_WRITE
  | 0x0802 => some (7, 0)  -- RULE_READ
  | 0x0803 => some (1, 0)  -- RULESET_COPY
  | 0x0804 => some (1, 0)  -- RULESET_SWAP
  | 0x0805 => some (7, 0)  -- RULESET_STATUS
  | 0x0901 => some (1, 0)  -- FLOW_PROFILE_SET
  | 0x0902 => some (1, 3)  -- FLOW_ADD
  | 0x0903 => some (1, 0)  -- FLOW_DELETE
  | 0x0904 => some (7, 0)  -- FLOW_READ
  | 0x0910 => some (1, 3)  -- MAC_ADD
  | 0x0911 => some (1, 0)  -- MAC_DELETE
  | 0x0912 => some (7, 0)  -- MAC_READ
  | 0x0913 => some (1, 0)  -- MAC_FLUSH
  | 0x0914 => some (1, 0)  -- MAC_UNFREEZE
  | 0x0920 => some (7, 0)  -- EVICT_LOG_READ
  | 0x0921 => some (7, 0)  -- TABLE_STATUS
  | 0x0A01 => some (1, 0)  -- QUEUE_CONFIG
  | 0x0A02 => some (7, 0)  -- QUEUE_READ
  | 0x0A03 => some (1, 1)  -- QUEUE_DISABLE
  | 0x0A10 => some (1, 0)  -- SCHED_NODE_SET
  | 0x0A20 => some (1, 0)  -- POLICER_SET
  | 0x0A21 => some (1, 0)  -- MARKER_SET
  | 0x0A22 => some (7, 0)  -- METER_READ
  | 0x0A30 => some (1, 0)  -- GATE_LIST_SET
  | 0x0A31 => some (1, 0)  -- GATE_LIST_CLEAR
  | 0x0A32 => some (7, 0)  -- GATE_STATUS
  | 0x0A40 => some (1, 0)  -- WATCH_SET
  | 0x0A41 => some (7, 1)  -- HIST_READ
  | 0x0B01 => some (7, 0)  -- POOL_STATUS
  | 0x0B02 => some (7, 0)  -- BUF_FAULT_LOG_READ
  | 0x0B03 => some (7, 0)  -- GLACIER_STATUS
  | 0x0C01 => some (7, 0)  -- DRAM_STATUS
  | 0x0D01 => some (3, 0)  -- KEY_WRITE
  | 0x0D02 => some (3, 0)  -- KEY_ERASE
  | 0x0D03 => some (7, 0)  -- KEY_STATUS
  | 0x0D04 => some (3, 0)  -- KEY_GENERATE
  | 0x0D05 => some (1, 0)  -- TERM_REKEY
  | 0x0D06 => some (1, 0)  -- BCAST_KEY_EXPORT
  | 0x0D10 => some (1, 1)  -- CMAC_JOB
  | 0x0D20 => some (7, 0)  -- CIPHER_STATUS
  | 0x0E01 => some (7, 0)  -- UPLINK_STATUS
  | 0x0E02 => some (7, 0)  -- UPLINK_STATS
  | 0x0E03 => some (2, 0)  -- UPLINK_RESTART
  | 0x0E10 => some (1, 0)  -- MACSEC_SC_SET
  | 0x0E11 => some (1, 0)  -- MACSEC_SA_SET
  | 0x0E12 => some (7, 0)  -- MACSEC_SA_READ
  | 0x0F01 => some (7, 0)  -- TETHER_STATUS
  | 0x0F02 => some (2, 0)  -- TETHER_RESTART
  | 0x0F10 => some (2, 0)  -- PROT_PAIR
  | 0x0F11 => some (2, 0)  -- PROT_COMMISSION
  | 0x0F12 => some (1, 0)  -- PROT_SWITCH
  | 0x0F13 => some (3, 0)  -- PROT_CLAIM
  | 0x0F14 => some (1, 0)  -- PROT_READMIT
  | 0x0F15 => some (7, 0)  -- PROT_STATUS
  | 0x0F16 => some (1, 0)  -- MIRROR_RESYNC
  | 0x1001 => some (7, 0)  -- DMA_CHANNEL_OPEN
  | 0x1002 => some (7, 0)  -- DMA_CHANNEL_CLOSE
  | 0x1003 => some (7, 0)  -- DMA_STATUS
  | 0x1101 => some (16, 0)  -- SESSION_OPEN
  | 0x1102 => some (16, 0)  -- SESSION_AUTH
  | 0x1103 => some (15, 0)  -- SESSION_CLOSE
  | 0x1110 => some (8, 0)  -- CRED_ENROL
  | 0x1111 => some (2, 0)  -- CRED_SET
  | 0x1120 => some (7, 0)  -- AUDIT_READ
  | 0x1130 => some (6, 0)  -- CAL_READ
  | 0x1131 => some (2, 0)  -- CAL_OVERLAY_WRITE
  | 0x1201 => some (7, 0)  -- FAULT_STATUS
  | 0x1202 => some (7, 0)  -- UNIT_STATUS
  | 0x1203 => some (1, 0)  -- READMIT_POLICY
  | 0x1204 => some (4, 0)  -- READMIT_OVERRIDE
  | 0x1205 => some (6, 0)  -- REPAIR_MAP_READ
  | 0x1206 => some (4, 0)  -- REPAIR_MAP_WRITE
  | 0x1207 => some (6, 0)  -- CONTROL_PAIR_SWITCH
  | 0x1301 => some (3, 0)  -- EVENT_MASK_SET
  | 0x1302 => some (3, 0)  -- EVENT_ROUTE_SET
  | 0x1303 => some (7, 0)  -- EVENT_READ
  | 0x1310 => some (1, 0)  -- TELEMETRY_SET
  | 0x1311 => some (7, 1)  -- COUNTER_SNAPSHOT
  | 0x1401 => some (6, 0)  -- LANE_PRBS_SET
  | 0x1402 => some (6, 1)  -- LANE_PRBS_READ
  | 0x1403 => some (6, 0)  -- LANE_ERR_INJECT
  | 0x1404 => some (6, 0)  -- LANE_LOOP_SET
  | 0x1410 => some (4, 0)  -- SELF_TEST
  | _ => none

/-- Commands that leave no audit record under an operator session (R465): names ending in _READ or _STATUS, IDENT_READ,
PARAM_DESCRIBE and COUNTER_SNAPSHOT; HIST_READ only without CLEAR. -/
def auditExempt (code flags : Nat) : Bool :=
  [0x0101, 0x0102, 0x0104, 0x0113, 0x0211, 0x0310, 0x0320, 0x0410, 0x0506, 0x0520, 0x0531, 0x0702, 0x0730, 0x0740, 0x0741, 0x0802, 0x0805, 0x0904, 0x0912, 0x0920, 0x0921, 0x0A02, 0x0A22, 0x0A32, 0x0B01, 0x0B02, 0x0B03, 0x0C01, 0x0D03, 0x0D20, 0x0E01, 0x0E12, 0x0F01, 0x0F15, 0x1003, 0x1120, 0x1130, 0x1201, 0x1202, 0x1205, 0x1303, 0x1311, 0x1402].contains code || (code == 0x0A41 && !flags.testBit 0)

/-! ### Audit (R465 to R468) -/

/-- The 128 bits of a record (Table 18.2). Log entry 177 (DESIGN CHOICE). -/
def auditValue (r : AuditRec) : Nat :=
  r.time % 2 ^ 48 * 2 ^ 80 + r.command * 2 ^ 64 + r.status * 2 ^ 56 + r.role % 8 * 2 ^ 53 + r.mailbox * 2 ^ 49
    + b2n r.switched * 2 ^ 48 + r.session * 2 ^ 16 + r.seq

/-- C of the record before the first (R467). -/
def chainStart : Nat := Config.sha384 (leBytes 8 Config.serial)

/-- The chain value after the last record of a ring. -/
def chainOf (ring : List (Nat × AuditRec × Nat)) : Nat :=
  match ring.getLast? with
  | none => chainStart
  | some e => e.2.2

/-- One record appended, numbered and chained (R466, R467); the ring keeps the last 4,096. -/
def State.auditAdd (s : State) (r : AuditRec) : State :=
  let a := s.roles.audit
  let n := a.next
  let c := Config.sha384 (beBytes 48 (chainOf a.ring) ++ beBytes 8 n ++ beBytes 16 (auditValue r))
  let ring := a.ring ++ [(n, r, c)]
  let old := ring.take (ring.length - 4096)
  { s with roles.audit := { a with next := n + 1, ring := ring.drop (ring.length - 4096),
                                   base := (old.getLast?.map (·.2.2)) <|> a.base,
                                   oldestUnpersisted := a.oldestUnpersisted <|> some s.up } }

/-- Is a record of this command due at its end (R465)? -/
def audited (c : Cmd) : Bool :=
  if c.role = 7 then c.code == 0x1102 else c.role != 0 || !auditExempt c.code c.flags

/-- Commands whose response waits for the flash (R468). -/
def auditCritical (c : Cmd) : Bool :=
  c.role == 2 || [0x1110, 0x1111, 0x1131, 0x0110, 0x0111, 0x0112, 0x0113, 0x1206, 0x1204].contains c.code

/-- The audit record of a command ending with a status. -/
def auditOf (s : State) (mb : Nat) (c : Cmd) (st : Status) : AuditRec :=
  ⟨s.now % 2 ^ 48, c.code, st.code, c.role, mb, c.switched, c.session, c.seq⟩

/-- A refusal with NO_RIGHT or AUTH_FAIL at checks 2 to 5, recorded at most 16 times a second, the rest counted (R465). -/
def State.auditRefusal (s : State) (r : AuditRec) : State :=
  if s.roles.audit.refusals < 16 then
    let s := s.auditAdd r
    { s with roles.audit.refusals := s.roles.audit.refusals + 1 }
  else { s with roles.audit.excess := s.roles.audit.excess + 1 }

/-! ### Mailboxes and responses (R429, R431, R434) -/

def State.mbox (s : State) (n : Nat) : Mailbox := s.mb.get n

def State.setMbox (s : State) (n : Nat) (m : Mailbox) : State := { s with mb := s.mb.set n m }

/-- VECTOR of MB_CTRL; default n. -/
def mbVector (n : Nat) (m : Mailbox) : Nat := m.vector.getD n

/-- The header of a response with its MAC field zero, followed by its body: what the response MAC is computed over (R434, R435). -/
def responseBytes (c : Cmd) (st detail time : Nat) (body : List Byte) : List Byte :=
  leBytes 4 (c.code * 2 ^ 16 + c.seq) ++ leBytes 4 c.session
    ++ leBytes 4 (st * 2 ^ 24 + b2n c.switched * 2 ^ 23 + min body.length 4064) ++ leBytes 4 detail
    ++ leBytes 8 0 ++ leBytes 8 time ++ body

/-- Codes whose responses the spec lays out as little-endian words of 32 bits: PARAM_READ and PARAM_WRITE (Table 17.6), PARAM_DESCRIBE (Table 17.7),
BMEM_READ (Table 3.5), DBA_PREANNOUNCE (Table 7.2), KEY_STATUS (Table 13.5), EVENT_READ (Table 20.4) and COUNTER_SNAPSHOT (R521). -/
def wordBodies : List Nat := [0x0102, 0x0103, 0x0104, 0x0310, 0x0710, 0x0D03, 0x1303, 0x1311]

/-- A field of `n` words, the lowest first, in two's complement. -/
def wordsLe (n : Nat) (v : Int) : List Int := (List.range n).map (fun i => v / 2 ^ (32 * i) % 2 ^ 32)

/-- The bytes of a response body: the words, or the bytes, that the spec lays out (R195, R218); any other body is encoded as the implementation has
it. -/
def bodyBytes (code : Nat) (body : List Int) : List Byte :=
  if wordBodies.contains code then (body.map (fun w => leBytes 4 (w % 2 ^ 32).toNat)).flatten
  else if code = 0x0740 then body.map (BitVec.ofInt 8)
  else Config.encodeBody code body

/-- Session slot of a role (R457). -/
def sessionSlot (r : Nat) : Nat := 18580 + r

/-- Requests accepted under a role's session and not answered yet. -/
def underSession (s : State) (r : Nat) : Bool := s.mb.any (fun e => e.2.cmd.any (fun c => c.role == r && c.key.isSome))

/-- The key of a session that has closed is zeroised once the last request accepted under it has responded (R463). -/
def State.dropKey (s : State) (r : Nat) : State :=
  let v := s.cipher.slots.get (sessionSlot r)
  if v.erasing && !underSession s r then { s with cipher.slots := s.cipher.slots.set (sessionSlot r) { gen := v.gen } } else s

/-- C.2 writes the response, then sets response ready, and only then raises the interrupt (R431). A mailbox in reset goes to idle
with its response discarded (R429, R432). -/
def State.post (s : State) (n : Nat) (c : Cmd) (st : Status) (detail : Nat) (body : List Int) : State :=
  let m := s.mbox n
  if m.state = .reset then (s.setMbox n { m with state := .idle, cmd := none }).dropKey c.role
  else
    let mac := match c.key with
      | none => 0
      | some k => leNat ((Config.cmac k (responseBytes c st.code detail s.now (bodyBytes c.code body))).take 8)
    let r : Response := ⟨c.code, c.seq, c.session, st.code, c.switched, detail, body, mac, s.now⟩
    let s := (s.setMbox n { m with state := .respReady, respReady := true, cmd := none, response := some r,
                                   completed := satTo 32 (m.completed + 1) }).dropKey c.role
    if m.irqEn then s.msix (mbVector n m) else s

/-- A command ends: its audit record is written with the result it returns (R465), and the response is posted, at once or, for the
commands R468 names, after the record is in the flash. -/
def State.respond (s : State) (n : Nat) (st : Status) (detail : Nat) (body : List Int) : State :=
  match (s.mbox n).cmd with
  | none => s
  | some c =>
    if audited c then
      let s := s.auditAdd (auditOf s n c st)
      if auditCritical c then
        s.setMbox n { s.mbox n with cmd := some { c with wait := some (.auditPersist (s.roles.audit.next - 1)), reply := some (st, detail, body) } }
      else s.post n c st detail body
    else s.post n c st detail body

/-- Mailboxes whose command waits for `w`. -/
def waiters (s : State) (w : WaitFor) : List Nat :=
  s.mb.keys (fun _ m => match m.cmd with
    | some c => decide (c.wait = some w)
    | none => false)

/-- Every command waiting for `w` responds. -/
def State.respondAll (s : State) (w : WaitFor) (st : Status) (detail : Nat) (body : List Int) : State :=
  (waiters s w).foldl (fun s n => s.respond n st detail body) s

/-- How a command's own part ends: with a response, or started and waiting, its commit recorded or not (R441). -/
inductive Reply where
  | done (st : Status) (detail : Nat) (body : List Int)
  | wait (w : WaitFor) (committed : Bool)
  /-- Not started yet: it starts again once `w` is over (R148, R346). -/
  | hold (w : WaitFor)

/-- OK with a body. -/
def okay (s : State) (body : List Int := []) : State × Reply := (s, .done .ok 0 body)

/-- A refusal by the command's own checks: no effect applied. -/
def fail (s : State) (st : Status) : State × Reply := (s, .done st 0 [])

/-- Two commands conflict when they name the same object (R439). -/
def conflicts (a b : List Obj) : Bool := a.any (fun o => b.contains o)

/-- A command may start its effect: accepted, not started, no earlier conflicting command unanswered (R439), no pair switch in
hand (R441). -/
def startable (s : State) (c : Cmd) : Bool :=
  !c.started && c.reply.isNone && !s.fw.hold &&
    s.mb.all (fun e => match e.2.cmd with
      | some d => !(decide (d.index < c.index) && conflicts d.objs c.objs)
      | none => true)

/-- A started command waits for `w`, with its commit recorded or not (R441). -/
def State.await (s : State) (n : Nat) (w : WaitFor) (k : Bool) : State :=
  match (s.mbox n).cmd with
  | none => s
  | some c => s.setMbox n { s.mbox n with cmd := some { c with wait := some w, committed := if k then 1 else 0 } }

/-- A command that has not started waits for `w` and starts again (R148, R346). -/
def State.park (s : State) (n : Nat) (w : WaitFor) : State :=
  match (s.mbox n).cmd with
  | none => s
  | some c => s.setMbox n { s.mbox n with cmd := some { c with wait := some w, started := false } }

/-- FLAGS bits that a command code defines (R436). -/
def cmdFlags (code : Nat) : Nat :=
  match cmdInfo code with
  | some (_, f) => f
  | none => 0

/-- The command of code `code` running in mailbox `n` starts its effect: first the command's own rights test where it has one
(R435 step 5), then the FLAGS test of R436, then its body. Where no such command may start, nothing changes. Log entry 170 (DEDUCED). -/
def State.commandWith (s : State) (n code : Nat) (pre : Cmd → State → Option Status)
    (body : Cmd → State → State × Reply) : State :=
  match (s.mbox n).cmd with
  | none => s
  | some c =>
    if c.code = code && startable s c then
      let s := s.setMbox n { s.mbox n with cmd := some { c with started := true } }
      match pre c s with
      | some st => s.respond n st 0 []
      | none =>
        if c.flags &&& cmdFlags code = c.flags then
          match body c s with
          | (s, .done st d b) => s.respond n st d b
          | (s, .wait w k) => s.await n w k
          | (s, .hold w) => s.park n w
        else s.respond n .badArg 0 []
    else s

def State.command (s : State) (n code : Nat) (body : Cmd → State → State × Reply) : State :=
  s.commandWith n code (fun _ _ => none) body

/-- The meaning of a command row. Log entry 8 (DESIGN CHOICE). -/
def hostCmd (s : State) (n : Fin 16) (code : Nat) (body : Cmd → State → State × Reply) : Res :=
  .next (s.command n code body)

/-- Entries in request order, each with its own status (R437): a failed entry does not stop later ones. Answers the state, the
number applied, the index and status of the first that failed, and the entries' results. Log entry 229 (DEDUCED). -/
def runEntries {α : Type} (f : State → α → State × Status × List Int) :
    State → Nat → List α → State × Nat × Option (Nat × Status) × List Int
  | s, _, [] => (s, 0, none, [])
  | s, i, e :: es =>
    let (s, st, out) := f s e
    let (s, n, bad, outs) := runEntries f s (i + 1) es
    let good := st = .ok || st = .deferred
    (s, if good then n + 1 else n, if good then bad else some (i, st), out ++ outs)

/-- The reply of a command that carries entries (R437). -/
def entriesReply (n : Nat) (bad : Option (Nat × Status)) (body : List Int) : Reply :=
  match bad with
  | none => .done .ok (n * 2 ^ 16 + 0xFFFF) body
  | some (i, st) => .done st (n * 2 ^ 16 + i) body

/-- A command that carries entries. -/
def entriesCmd {α : Type} (f : State → α → State × Status × List Int) (s : State) (es : List α) : State × Reply :=
  let (s, n, bad, out) := runEntries f s 0 es
  (s, entriesReply n bad out)

/-- Word `i` of a command's body, little-endian (R433). -/
def bodyWord (c : Cmd) (i : Nat) : Nat := leNat ((c.body.drop (4 * i)).take 4)

/-- RESET_N is low or the device has tripped: the inputs of Table 23.2 are ignored (R563). -/
def inReset (s : State) : Bool := s.power.dev == .off

/-- Inputs that Table 23.2 ignores in Hibernate too (R563). -/
def pinsIgnored (s : State) : Bool := inReset s || s.power.dev == .hibernate || s.power.dev == .hibernateExit

end Sys2Proof.Machine
end

