-- ==== Sys2Proof/Machine/Units.lean ====
section
/-! DEFINITION. Units, their addresses and states (R12, R476, R477), and reporting a fault. -/
namespace Sys2Proof.Machine

/-- Unit addresses (Table 19.1). -/
def cellAddr (region block cell : Nat) : Nat := 1 * 2 ^ 28 + region * 2 ^ 24 + block * 2 ^ 16 + cell
def blockAddr (region block : Nat) : Nat := 2 * 2 ^ 28 + region * 2 ^ 24 + block * 2 ^ 16
def regionAddr (region : Nat) : Nat := 3 * 2 ^ 28 + region * 2 ^ 24
def pairAddr (b : Bool) : Nat := 4 * 2 ^ 28 + 12 * 2 ^ 24 + b2n b

def addrLevel (u : Nat) : Nat := bits u 31 28
def addrRegion (u : Nat) : Nat := bits u 27 24
def addrBlock (u : Nat) : Nat := bits u 23 16

/-- Blocks of Table 1.1 in a region. -/
def blockCount (region : Nat) : Nat :=
  if region < 8 then 21 else if region < 10 then 34 else if region = 10 then 58 else if region = 11 then 21 else if region = 12 then 13 else 0

/-- Address of a block instance, region × 256 + block (R48). -/
def instAddr (inst : Nat) : Nat := blockAddr (inst / 256) (inst % 256)

def State.unit (s : State) (u : Nat) : UnitRec := s.units.get u
def State.setUnit (s : State) (u : Nat) (v : UnitRec) : State := { s with units := s.units.set u v }

/-- A unit's state; at boot a unit with a role is in service, and a spare block (64 and above) or spare cell is spare. -/
def unitState (s : State) (u : Nat) : UnitState :=
  (s.unit u).state.getD (if addrLevel u = 2 && 64 ≤ addrBlock u then .spare else .inService)

/-- Iced or condemned: fenced (R477, R499). -/
def fenced (s : State) (u : Nat) : Bool := unitState s u == .iced || unitState s u == .condemned

/-- A unit is out of service and no spare holds its role; a region also while the chip handler restarts it (R487). -/
def outOfRole (s : State) (u : Nat) : Bool :=
  (fenced s u && (s.unit u).replacedBy.isNone) || (s.fault.handlers.get 0).slot.any (fun e => e.unit == u)

/-- Does a block of an instance exist and hold a role? -/
def blockInService (s : State) (inst : Nat) : Bool :=
  (decide (inst % 256 < blockCount (inst / 256)) || decide (64 ≤ inst % 256 ∧ inst % 256 < 72)) &&
    (unitState s (instAddr inst) == .inService || unitState s (instAddr inst) == .suspect)

/-- A detected fault on its way to its handler (R479). -/
def State.report (s : State) (u cause : Nat) : State := { s with reports := s.reports ++ [⟨u, cause⟩] }

end Sys2Proof.Machine
end

