-- ==== Sys2Proof/Machine/Pon.lean ====
section
/-! DEFINITION. What the subsystems of a tree share: its lanes, channels, terminals, service token (R389) and mirror stream (R387),
TREEn_TXDIS (R64), the effective Teqd (R392), PLOAM queues (R99) and key pairs (R108). -/
namespace Sys2Proof.Machine

/-! ### Lanes, trees and channels (R55) -/

def State.chan (s : State) (c : Nat) : ChanState := s.chans.get c
def State.setChan (s : State) (c : Nat) (v : ChanState) : State := { s with chans := s.chans.set c v }
def State.term (s : State) (t : Nat) : Terminal := s.terms.get t
def State.setTerm (s : State) (t : Nat) (v : Terminal) : State := { s with terms := s.terms.set t v }

/-- Lane instances of a tree channel's transmit and receive lanes: tree × 4 + lane number. -/
def txLane (c : Nat) : Nat := c / 2 * 4 + c % 2
def rxLane (c : Nat) : Nat := c / 2 * 4 + 2 + c % 2

def State.ln (s : State) (i : Nat) : LaneState := s.lanes.lanes.get i
def State.setLn (s : State) (i : Nat) (v : LaneState) : State := { s with lanes.lanes := s.lanes.lanes.set i v }
def State.optic (s : State) (t : Nat) : TreeOptics := s.lanes.optics.get t
def State.setOptic (s : State) (t : Nat) (v : TreeOptics) : State := { s with lanes.optics := s.lanes.optics.set t v }
def State.bm (s : State) (t : Nat) : BmEntry := s.lanes.bmem.get t
def State.setBm (s : State) (t : Nat) (v : BmEntry) : State := { s with lanes.bmem := s.lanes.bmem.set t v }
def State.alloc (s : State) (a : Nat) : Alloc := s.dba.allocs.get a
def State.setAlloc (s : State) (a : Nat) (v : Alloc) : State := { s with dba.allocs := s.dba.allocs.set a v }
def State.gem (s : State) (g : Nat) : GemEntry := s.pon.gems.get g
def State.setGem (s : State) (g : Nat) (v : GemEntry) : State := { s with pon.gems := s.pon.gems.set g v }
def State.pair (s : State) (p : Nat) : KeyPair := s.cipher.pairs.get p
def State.setPair (s : State) (p : Nat) (v : KeyPair) : State := { s with cipher.pairs := s.cipher.pairs.set p v }
def State.line (s : State) (t : Nat) : LineState := s.pon.line.get t
def State.setLine (s : State) (t : Nat) (l : LineState) : State := { s with pon.line := s.pon.line.set t l }
def State.slot (s : State) (k : Nat) : KeySlot := s.cipher.slots.get k
def State.setSlot (s : State) (k : Nat) (v : KeySlot) : State := { s with cipher.slots := s.cipher.slots.set k v }

/-- A tree is enabled while either channel is. -/
def treeEnabled (s : State) (t : Nat) : Bool := (s.chan (2 * t)).enabled || (s.chan (2 * t + 1)).enabled

/-! ### Tokens and mirror records -/

def State.token (s : State) (t : Nat) : Token := s.prot.tokens.get t
def State.setToken (s : State) (t : Nat) (v : Token) : State := { s with prot.tokens := s.prot.tokens.set t v }
def State.stream (s : State) (t : Nat) : Stream := s.prot.streams.get t
def State.setStream (s : State) (t : Nat) (v : Stream) : State := { s with prot.streams := s.prot.streams.set t v }

/-- The device holds the tree's token (R389). -/
def holds (s : State) (t : Nat) : Bool := (s.token t).held

/-- The tree's activation procedures run here (R128): the token is held and no switch has begun (R394). -/
def runs (s : State) (t : Nat) : Bool := holds s t && (s.token t).release == .none

/-- Key k of a port and tributary for frames sent, or `peer`, received (R381). -/
def tetherKey (s : State) (p t : Nat) (peer : Bool) : Nat := 6 * p + 3 * b2n (s.prot.memberB != peer) + t

/-- A tether frame's counter taken: the next of its key and group (R380). -/
def State.takeCounter (s : State) (g t : Nat) : State :=
  let i := tetherKey s (g / 4) t false * 8 + g
  { s with prot.txCounters := s.prot.txCounters.set i (s.prot.txCounters.get i + 1) }

/-- What is sent on a tributary of the carrier group, one tether frame each; without a carrier nothing is sent (R377). Log entry 147 (DESIGN CHOICE). -/
def State.sendCarrier (s : State) (t : Nat) (o : Out) : State :=
  match s.prot.carrier with
  | none => s
  | some g => (s.takeCounter g t).emit o

/-- A mirror record emitted on its stream with the next SEQ (R30, R387, R388): a tree's stream by the holder of its token until a switch
begins, stream 32 always. Log entry 148 (DEDUCED). -/
def State.mirror (s : State) (stream index : Nat) (b : MirrorBody) : State :=
  if stream = 32 || runs s stream then
    let n := ((s.stream stream).emitted + 1) % 2 ^ 32
    let s := s.setStream stream { s.stream stream with emitted := n }
    s.sendCarrier 1 (.mirror ⟨stream, index, n, s.pon.tl.sfc % 2 ^ 32, s.prot.wrap15, b⟩)
  else s

/-- A terminal's record (Table 15.4). -/
def State.mirrorTerm (s : State) (t : Nat) : State :=
  s.mirror ((s.term t).chan / 2) t (.terminal (s.term t) (s.bm t).phaseRef)

/-- A terminal written; a change of state, ONU-ID or equalisation delay is mirrored (R128). -/
def State.putTerm (s : State) (t : Nat) (v : Terminal) : State :=
  let o := s.term t
  let s := s.setTerm t v
  if o.state = v.state && o.onu = v.onu && o.eqdBits = v.eqdBits && o.chan = v.chan then s else s.mirrorTerm t

/-- An allocation map entry written and mirrored (R122, R128). -/
def State.putAlloc (s : State) (a : Nat) (v : Alloc) : State := (s.setAlloc a v).mirror (v.chan / 2) a (.alloc v)

/-- A GEM map entry written and mirrored (R123, R128). -/
def State.putGem (s : State) (g : Nat) (v : GemEntry) : State := (s.setGem g v).mirror (v.chan / 2) g (.gem v)

/-! ### TREEn_TXDIS (R64) -/

/-- TREEn_TXDIS is high. No command of the table turns a tree's transmitters off but the disabling of its channels. Log entry 58 (DEDUCED). -/
def txdis (s : State) (t : Nat) : Bool :=
  let k := s.token t
  !s.power.resetN || !s.power.pwrGood || !s.power.thermTripN || !treeEnabled s t || !k.held || k.fenced || s.power.halted
    || (match k.release with
        | .released _ => true
        | .blocked => true
        | _ => false)
    || ((s.ln (4 * t)).failed && (s.ln (4 * t + 1)).failed)

/-- Frames are sent on a channel now (R99, R118). -/
def sends (s : State) (c : Nat) : Bool :=
  (s.chan c).enabled && !txdis s (c / 2) && !(s.ln (txLane c)).failed && (!s.power.dark.get c || s.lanes.wakeRun.get c || s.lanes.keepAwake.get c) && (s.token (c / 2)).takenAt.isNone

/-- Channels enabled or being enabled. -/
def liveChannels (s : State) : List Nat := s.chans.keys (fun _ v => v.enabled || v.enableAt.isSome)

/-- The timeline ends when no channel is left. Log entry 48 (DESIGN CHOICE). -/
def State.endTimeline (s : State) : State := if (liveChannels s).isEmpty then { s with pon.tl.next := none } else s

/-- A channel that is being enabled is stopped before its first frame has left: the command answers FAULTED and it stays disabled (R117); the
timeline goes with it where it was the last (R92). -/
def State.cancelEnable (s : State) (c : Nat) : State :=
  let v := s.chan c
  if v.enableAt.isSome || v.firstFrame then
    ((s.setChan c { v with enableAt := none, firstFrame := false, enabled := false, urgent := [], normal := [], held := [], taken := [] }).respondAll
      (.chanFirst c) .faulted 0 []).endTimeline
  else s

/-- A channel takes PLOAM messages: it is enabled, or has begun to be (R117). -/
def takesPloam (s : State) (c : Nat) : Bool := (s.chan c).enabled || (s.chan c).enableAt.isSome

/-- A recovery of a tree's region, lane block, framer or burst receiver is in hand: bursts in it are excluded from every count (R488). -/
def recovering (s : State) (c : Nat) : Bool :=
  let r := regionOfChan c
  let k := c / 2 % 4
  outOfRole s (regionAddr r) || outOfRole s (blockAddr r k) || outOfRole s (blockAddr r (4 + k)) || outOfRole s (blockAddr r (8 + k))

/-! ### Rates and delays -/

/-- A rate code in units of 2.48832 Gb/s (Table 3.5). -/
def rateMult : Nat → Nat
  | 0 => 1
  | 1 => 4
  | 2 => 5
  | 3 => 10
  | _ => 20

/-- A delay in ps as units of 1/64 UI at a rate. -/
def ui64 (rate : Nat) (ps : Int) : Frac := Frac.of (ps * (rateMult rate * 248832 * 64)) 100000000

/-- Units of 1/64 UI at a rate as ps. -/
def psOf (rate : Nat) (u : Int) : Frac := Frac.of (u * 100000000) (rateMult rate * 248832 * 64)

/-- Effective Teqd of a channel in ps (R392). -/
def teqdPs (s : State) (c : Nat) : Int :=
  s.getF .RANGE_TEQD c * 1000000 + if s.prot.memberB then 2 * s.getF .PROT_FEEDER_DELTA (c / 2) else 0

/-- The same in ns. -/
def teqdNs (s : State) (c : Nat) : Int := teqdPs s c / 1000

/-! ### PLOAM queues (R99) -/

/-- Messages a queue holds at most. -/
def ploamDepth : Nat := 64

/-- MSK of a terminal (R349). -/
def slotMsk (s : State) (t : Nat) : Option Nat := (s.slot (2 * t)).msk.map (·.key)

/-- A message's contents as numbers: the terminal addressed, its ONU-ID, then kind and fields. -/
def ploamWords (s : State) (m : PloamMsg) : List Nat :=
  let num (v : Int) : Nat := (BitVec.ofInt 64 v).toNat
  [m.term.getD 8192, (m.term.bind (fun t => (s.term t).onu)).getD 1023] ++ match m.kind with
    | .assignOnuId o => [0, o]
    | .rangingTime e => [1, num e]
    | .popup => [2]
    | .deactivate n => [3, n]
    | .disableSn b => [4, b2n b]
    | .keyAnnounce p i n at_ => [5, p, i, n, at_.getD (2 ^ 51)]
    | .profile i r => [6, i, r]
    | .keyRequest i => [7, i]

/-- A message with its integrity code: under the terminal's PLOAM integrity key, or the default key for a broadcast message and for a terminal without
an MSK (R100). Log entry 255 (DEDUCED). -/
def sealPloam (s : State) (m : PloamMsg) : PloamMsg :=
  { m with mic := Config.ploamCode (m.term.bind (slotMsk s)) (ploamWords s m) }

/-- A message queued on a channel, with its integrity code; held by firmware when its queue is full, discarded on a disabled channel. Log entry 39 (DESIGN CHOICE). -/
def State.queuePloam (s : State) (c : Nat) (urgent : Bool) (m : PloamMsg) : State :=
  let v := s.chan c
  let q := if urgent then v.urgent else v.normal
  let m := sealPloam s m
  if !takesPloam s c then s
  else if v.held.any (fun h => h.1 == urgent) || ploamDepth ≤ q.length then
    (s.setChan c { v with held := v.held ++ [(urgent, m)] }).raise .PLOAM_QUEUE_FULL (srcChan c 6) (regionOfChan c)
      (evData [(6, c)] (b2n (!urgent)))
  else if urgent then s.setChan c { v with urgent := v.urgent ++ [m] }
  else s.setChan c { v with normal := v.normal ++ [m] }

/-- A message that goes out ahead of every other urgent one (R108). Log entry 40 (DESIGN CHOICE). -/
def State.ploamFirst (s : State) (c : Nat) (m : PloamMsg) : State :=
  if takesPloam s c then s.setChan c { s.chan c with urgent := sealPloam s m :: (s.chan c).urgent } else s

/-- Every message waiting on a channel, taken or not. -/
def waitingPloam (v : ChanState) : List PloamMsg := v.urgent ++ v.normal ++ v.held.map (·.2) ++ v.taken.map (·.2)

/-- Messages that fail `keep` removed from a channel's queues. -/
def State.filterPloam (s : State) (c : Nat) (keep : PloamMsg → Bool) : State :=
  let v := s.chan c
  s.setChan c { v with urgent := v.urgent.filter keep, normal := v.normal.filter keep, held := v.held.filter (fun h => keep h.2),
                       taken := v.taken.filter (fun h => keep h.2) }

/-- Messages taken for a frame that is not sent are at the front of their queues again (R99). -/
def State.returnTaken (s : State) (c : Nat) : State :=
  let v := s.chan c
  s.setChan c { v with urgent := (v.taken.filter (·.1)).map (·.2) ++ v.urgent, normal := (v.taken.filter (fun h => !h.1)).map (·.2) ++ v.normal,
                       taken := [] }

/-- Does a message complete a procedure step (R148)? -/
def stepKind : PloamKind → Bool
  | .assignOnuId _ => true
  | .rangingTime _ => true
  | .deactivate _ => true
  | .keyRequest _ => true
  | _ => false

/-- A step of a procedure is in progress on a terminal (R148): its message is not yet transmitted. -/
def stepping (s : State) (t : Nat) : Bool :=
  (waitingPloam (s.chan (s.term t).chan)).any (fun m => m.term == some t && stepKind m.kind)

/-! ### Key pairs (R107, R108, R343) -/

/-- Pair of a terminal, and of a channel's broadcast key. -/
def termPair (t : Nat) : Nat := t
def bcastPair (c : Nat) : Nat := 8192 + c

/-- Slot of a pair's index (Table 13.4). -/
def pairSlot (p i : Nat) : Nat := 2 * p + i - 1

/-- Tree channel that a pair belongs to. -/
def pairChan (s : State) (p : Nat) : Nat := if p < 8192 then (s.term p).chan else p - 8192

/-- A pair's index in force changes: KEY_SWITCHED (R108 step 5). -/
def State.switchKey (s : State) (p index sfc : Nat) : State :=
  let c := pairChan s p
  (s.setPair p { s.pair p with inForce := index, pending := none, lastSwitch := s.up }).raise .KEY_SWITCHED (srcChan c 6) (regionOfChan c)
    (evData [(14, p), (2, index)] (sfc % 65536))

/-- A key is committed to an index of a pair (R108): its switch is announced, and on a channel that is not enabled the index is in force
at once. -/
def State.commitSwitch (s : State) (p index : Nat) : State :=
  let c := pairChan s p
  if takesPloam s c then
    (s.setPair p { s.pair p with pending := some ⟨index, none⟩ }).queuePloam c true
      { kind := .keyAnnounce p index 1 none, term := if p < 8192 then some p else none }
  else s.switchKey p index s.pon.tl.sfc

/-- A pending switch abandoned (R110, R348). -/
def State.abandonSwitch (s : State) (p : Nat) : State :=
  let s := s.setPair p { s.pair p with pending := none }
  s.filterPloam (pairChan s p) (fun m => match m.kind with
    | .keyAnnounce q _ _ _ => q != p
    | _ => true)

end Sys2Proof.Machine
end

