-- ==== Sys2Proof/Machine/Fwd.lean ====
section
/-! DEFINITION. Forwarding state read and written: queues, buffers' pending operations, tables, MACs; emptying queues and queueing flushes
(R124, R268, R277, R298). -/
namespace Sys2Proof.Machine

def State.dq (s : State) (q : Nat) : Queue := s.fwd.downQ.get q
def State.setDq (s : State) (q : Nat) (v : Queue) : State := { s with fwd.downQ := s.fwd.downQ.set q v }
def State.uq (s : State) (q : Nat) : Queue := s.fwd.upQ.get q
def State.setUq (s : State) (q : Nat) (v : Queue) : State := { s with fwd.upQ := s.fwd.upQ.set q v }
def State.pool (s : State) (p : Nat) : Pool := s.fwd.pools.get p
def State.setPool (s : State) (p : Nat) (v : Pool) : State := { s with fwd.pools := s.fwd.pools.set p v }
def State.mac (s : State) (m : Nat) : MacState := s.fwd.macs.get m
def State.setMac (s : State) (m : Nat) (v : MacState) : State := { s with fwd.macs := s.fwd.macs.set m v }
def State.table (s : State) (t : Nat) : TableState := s.fwd.tables.get t
def State.setTable (s : State) (t : Nat) (v : TableState) : State := { s with fwd.tables := s.fwd.tables.set t v }

/-- A queue by watch index (R295): downstream queue q is q, uplink-bound queue q is 65,536 + q. -/
def State.queueAt (s : State) (w : Nat) : Queue := if w < 65536 then s.dq w else s.uq (w - 65536)
def State.setQueue (s : State) (w : Nat) (v : Queue) : State := if w < 65536 then s.setDq w v else s.setUq (w - 65536) v

/-- Client class that holds a queue's frames (Table 12.1). -/
def queueClass (w : Nat) : Nat := if w < 65536 then 10 else 11

/-- An operation sent to M.16. -/
def State.bufOp (s : State) (o : BufOp) : State := { s with fwd.ops := s.fwd.ops ++ [o] }

/-- LAST of a class that gives up a reference (R306): set, but for a shared buffer only where class 14 holds no other copy. -/
def lastOf (s : State) (cls : Nat) (b : BufRef) : Bool :=
  !b.shared || (cls == 14 && !(s.fwd.recirc.any (fun e => e.2.any (fun k => k.frame.buf.any (fun x => x.id == b.id))))
    && !(s.fwd.jobs.any (fun j => j.cls == 14 && j.frame.buf.any (fun x => x.id == b.id))))

/-- A frame's buffer freed by the class that holds it. -/
def State.freeFrame (s : State) (cls : Nat) (f : Frame) : State :=
  match f.buf with
  | none => s
  | some b => s.bufOp (.free cls (lastOf s cls b) b.id b.gen)

def onChip (q : Queue) : Nat := (q.frames ++ q.tail).foldl (fun n x => n + x.frame.len) 0

/-- Depth of a queue: on chip and in the Glacier (R276, R315). -/
def depthOf (q : Queue) : Nat := onChip q + q.run.foldl (fun n x => n + x.frame.len) 0

def queueEmpty (q : Queue) : Bool := q.frames.isEmpty && q.run.isEmpty && q.tail.isEmpty

/-- Every queued frame of a queue dropped and its buffer released (R298, R124). -/
def State.emptyQueue (s : State) (w : Nat) : State :=
  let q := s.queueAt w
  let s := (q.frames ++ q.tail).foldl (fun s x => s.freeFrame (queueClass w) x.frame) s
  let s := (q.run.filter (fun x => !x.acked)).foldl (fun s x => s.freeFrame 12 x.frame) s
  let n := q.frames.length + q.run.length + q.tail.length
  s.setQueue w { q with frames := [], run := [], tail := [], runOff := 0, returning := false, held := false,
                        counts := { q.counts with flushed := q.counts.flushed + n } }

/-- Watch slots of a queue that is disabled or unbound are left empty (R296). -/
def State.unwatch (s : State) (w : Nat) : State :=
  (s.fwd.watch.keys (fun _ v => v.any (fun x => x.1 == w))).foldl (fun s i => { s with fwd.watch := s.fwd.watch.set i none }) s

/-- A queue's command that waits for it to empty responds once it has (R298). -/
def State.drainTest (s : State) (w : Nat) : State :=
  if queueEmpty (s.queueAt w) then s.respondAll (.queueDrained (decide (65536 ≤ w)) (w % 65536)) .ok 0 [] else s

/-- SCHED_QUEUES_BOUND: downstream queues bound in a scheduler block, which serves one tree region (R273). -/
def boundIn (s : State) (r : Nat) : Nat :=
  (s.fwd.downQ.keys (fun _ q => match q.bind with
    | some g => (s.gem g).chan / 8 == r
    | none => false)).length

/-- Every queue bound to a GEM index disabled, unbound and emptied, its frames counted (R124, R277). -/
def State.dropGem (s : State) (g : Nat) : State :=
  (s.fwd.downQ.keys (fun _ q => q.bind == some g)).foldl (fun s w =>
    let n := (s.dq w).frames.length + (s.dq w).run.length + (s.dq w).tail.length
    let s := s.emptyQueue w
    let s := (s.setDq w { s.dq w with enable := false, bind := none, bridge := false }).unwatch w
    (s.setGem g { s.gem g with dropped := (s.gem g).dropped + n }).drainTest w) s

/-- A message joins the serialiser's queue; one that finds it full is dropped and counted (R265). Log entry 272 (DESIGN CHOICE). -/
def State.queueSer (s : State) (m : SerMsg) : State :=
  if 4096 ≤ s.fwd.serial.length then
    (s.bumpF .LEARN_DROPS 0 31 16).raiseSec .LEARN_DROP 0 (srcRegion regM 18) regM (fun n => evData [] n)
  else { s with fwd.serial := s.fwd.serial ++ [m] }

/-- A message of TYPE 1 or 2 of local origin: GEM index or FID to flush (Table 10.4). -/
def flushMsg (s : State) (byFid : Bool) (index : Nat) : SerMsg :=
  { type := if byFid then 2 else 1, peer := false, fid := if byFid then index else 0, gem := if byFid then 0 else index, addr := 0, chan := 0,
    time := s.now % 2 ^ 32 }

/-- A flush message for a GEM index queued at M.29 (R268). -/
def State.flushGem (s : State) (g : Nat) : State := s.queueSer (flushMsg s false g)

end Sys2Proof.Machine
end

