-- ==== Sys2Proof/Machine/Framer.lean ====
section
/-! DEFINITION. A channel's framer as its users see it: what it holds, what is begun, and the layout of the PHY frame (R97, R98, R104, R106). -/
namespace Sys2Proof.Machine

/-! ### PHY frames (Table 4.1) -/

/-- Line rate of a tree channel in units of 10 kb/s, and i and p of its FEC code. -/
def lineRate (c : Nat) : Nat := if c % 2 = 0 then 4976640 else 995328
def fecInfo (c : Nat) : Nat := if c % 2 = 0 then 1824 else 216
def fecParity (c : Nat) : Nat := if c % 2 = 0 then 336 else 32

/-- Codewords of a frame: number, information bytes, parity bytes. -/
def frameCodewords (c : Nat) : List (Nat × Nat × Nat) := if c % 2 = 0 then [(359, 1824, 336), (1, 1800, 336)] else [(627, 216, 32)]

/-- Information bytes of a frame, and all its bytes with the 24 of the PSBd. -/
def frameInfo (c : Nat) : Nat := (frameCodewords c).foldl (fun n x => n + x.1 * x.2.1) 0
def frameBytes (c : Nat) : Nat := (frameCodewords c).foldl (fun n x => n + x.1 * (x.2.1 + x.2.2)) 24

/-- PSBd and coding of the frame with a superframe count. -/
def dsPhy (c sfc : Nat) : DsPhy := ⟨Config.psync (c % 2), Config.opControl (c % 2), Config.scramblerPreset (c % 2) sfc, frameCodewords c⟩

/-- Header bytes of a framing sublayer frame with `a` allocation structures and `p` messages; its payload bytes (R98). -/
def headerBytes (a p : Nat) : Nat := 4 + 8 * a + 48 * p
def payloadSpace (c a p : Nat) : Nat := frameInfo c - headerBytes a p - 4

/-- Frame-boundary run of a header of `h` bytes (R106). -/
def boundaryRun (c h : Nat) : Nat := 28 + fecParity c + h + fecParity c * (h / fecInfo c)

/-! ### SDUs in a framer (R104) -/

/-- Every SDU that a framer holds, a carried one that is still open counted once. -/
def framerSdus (f : Framer) : List DsSdu :=
  let open_ := f.round.map (·.sdu)
  f.express ++ f.waiting.toList ++ f.omci ++ open_ ++ ((f.carry.toList.map (·.sdu)).filter (fun x => !open_.contains x))

/-- A framer without the open SDUs that fail `keep`; the turn stays with the SDU that has it. -/
def keepOpen (f : Framer) (keep : OpenSdu → Bool) : Framer :=
  { f with round := f.round.filter keep, turn := ((f.round.take f.turn).filter keep).length }

/-- A framer without the SDUs that `gone` names. -/
def framerWithout (f : Framer) (gone : DsSdu → Bool) : Framer :=
  { keepOpen f (fun o => !gone o.sdu) with
    express := f.express.filter (fun x => !gone x), waiting := f.waiting.filter (fun x => !gone x), omci := f.omci.filter (fun x => !gone x),
    carry := f.carry.filter (fun k => !gone k.sdu) }

/-- The waiting slot, which an OMCI message takes where it is empty, emptied into the round while that has room and holds no SDU of the same
port; `most` and `size` are FRAG_OPEN_MAX and FRAG_MAX. -/
def fillRound (most size : Nat) : Nat → Framer → Framer
  | 0, f => f
  | n + 1, f =>
    let f : Framer := match f.waiting, f.omci with
      | none, x :: rest => { f with waiting := some x, omci := rest }
      | _, _ => f
    match f.waiting with
    | none => f
    | some x =>
      if f.round.length < most && f.round.all (fun o => o.sdu.gem != x.gem) then
        fillRound most size n { f with waiting := none, round := f.round ++ [⟨x, 0, size⟩] }
      else f

/-- A framer changed; what may be begun now is begun. -/
def State.setFramer (s : State) (c : Nat) (f : Framer) : State :=
  s.setChan c { s.chan c with framer := fillRound (s.getN .FRAG_OPEN_MAX c) (s.getN .FRAG_MAX c) (f.omci.length + 2) f }

/-- SDUs that leave a framer unsent: their buffers freed, each counted against its GEM index (R124). -/
def State.loseSdus (s : State) (l : List DsSdu) : State :=
  l.foldl (fun s x => (s.freeFrame 10 x.frame).setGem x.gem { s.gem x.gem with dropped := (s.gem x.gem).dropped + 1 }) s

/-- The SDUs of a channel's framer that `gone` names dropped, a partly sent one at its fragment boundary. -/
def State.dropSdus (s : State) (c : Nat) (gone : DsSdu → Bool) : State :=
  let f := (s.chan c).framer
  (s.setFramer c (framerWithout f gone)).loseSdus ((framerSdus f).filter gone)

/-- Idle XGEM frames fill bytes of the frame in transmission (R102). -/
def State.idleFill (s : State) (c n : Nat) : State :=
  if n = 0 then s
  else
    let v := s.chan c
    (s.setChan c { v with framer.space := v.framer.space - n }).emit (.idle c n)

end Sys2Proof.Machine
end

