-- ==== Sys2Proof/Machine/KeyStore.lean ====
section
/-! DEFINITION. Key slots: kinds, generations, commits, erasure and their mirror records (R343 to R350). -/
namespace Sys2Proof.Machine

/-- Kind of a slot (Table 13.5): 0 terminal, 1 broadcast, 2 MACsec SA, 3 tether, 4 session/CMAC. -/
def slotKind (k : Nat) : Nat := if k < 16384 then 0 else if k < 16512 then 1 else if k < 18560 then 2 else if k < 18576 then 3 else 4

/-- Pair and index of a terminal or broadcast slot (Table 13.4). -/
def slotPair (k : Nat) : Nat := k / 2
def slotIndex (k : Nat) : Nat := k % 2 + 1

/-- A slot that operations may latch: a key, and no erase accepted (R348). -/
def usable (v : KeySlot) : Bool := v.cur.isSome && !v.erasing

/-- Key of a slot that may be latched. -/
def slotKey (s : State) (k : Nat) : Option Nat := if usable (s.slot k) then (s.slot k).cur.map (·.key) else none

/-- Tn.13 or Tn.14 fetches the key shares that a terminal's slots hold (R16). -/
def State.fetchKeys (s : State) (t : Nat) : State :=
  let held (i : Nat) : Option (Nat × KeyShares) :=
    let v := s.slot (pairSlot (termPair t) i)
    if usable v then v.cur.map (fun k => (i, k)) else none
  s.setLine t { s.line t with keys := [1, 2].filterMap held }

/-- Words 0 and 1 of Table 13.5, `flight` operations latched on the draining generation. -/
def slotWords (s : State) (k flight : Nat) : Nat × Nat :=
  let v := s.slot k
  let p := s.pair (slotPair k)
  let pon := decide (k < 16512)
  (b2n v.cur.isSome * 2 ^ 31 + b2n v.draining * 2 ^ 30 + b2n v.erasing * 2 ^ 29 + slotKind k * 2 ^ 26
      + b2n (v.cur.any (·.long)) * 2 ^ 25 + b2n v.msk.isSome * 2 ^ 24 + v.gen * 2 ^ 16 + (if v.draining then flight % 65536 else 0),
   b2n (pon && p.inForce == slotIndex k) * 2 ^ 31 + b2n (pon && p.pending.any (fun w => w.index == slotIndex k)) * 2 ^ 30)

/-- A slot as KEY_STATUS returns it (Table 13.5), and as a write of it answers (R449). -/
def slotRead (s : State) (k flight : Nat) : List Int :=
  let w := slotWords s k flight
  (w.1 : Int) :: (w.2 : Int) :: wordsLe 2 ((s.slot k).commitTime * 65536)

/-- Mirror stream of a slot: its tree's, or 32 (R387). -/
def slotStream (s : State) (k : Nat) : Nat := if k < 16512 then pairChan s (slotPair k) / 2 else 32

/-- Pair wrap key committed most recently (R350, R387). -/
def wrapKey (s : State) : Option Nat := slotKey s (if s.prot.wrap15 then 18575 else 18574)

/-- A key's mirror record, its material wrapped under the pair wrap key; without one nothing leaves the key store (R350). Log entry 127 (DESIGN CHOICE). -/
def State.mirrorKey (s : State) (k : Nat) (material : Nat) (msk : Bool) : State :=
  match wrapKey s with
  | none => s
  | some w =>
    let words := slotWords s k 0
    let sfc := ((s.pair (slotPair k)).pending.bind (·.s)).getD 0
    s.mirror (slotStream s k) k (.key words.1 words.2 sfc (Config.keyWrap w material) msk)

def State.gen (s : State) (i : Nat) : Generator := s.cipher.generators.get i
def State.setGen (s : State) (i : Nat) (g : Generator) : State := { s with cipher.generators := s.cipher.generators.set i g }

/-- Fresh random bits: the next `n` outputs of a generator (R332, R333). -/
def State.takeBits (s : State) (i n : Nat) : Nat × State :=
  let g := s.gen i
  (Config.genBits g.seed g.outputs n, s.setGen i { g with outputs := g.outputs + n })

/-- Generator of M.46, and outputs of 24 bits that cover a share of 32 bytes. -/
def keyGen : Nat := regM * 256 + 46
def shareOutputs : Nat := 11

/-- A key split into two shares with fresh bits of M.46's generator (R332). -/
def State.splitKey (s : State) (v : KeyVal) : KeyShares × State :=
  let (m, s) := s.takeBits keyGen shareOutputs
  (⟨m, v.key ^^^ m, v.long⟩, s)

/-- A key becomes current in a slot (R346): the generation it replaces drains. -/
def State.loadKey (s : State) (k : Nat) (v : KeyVal) : State :=
  let (x, s) := s.splitKey v
  let o := s.slot k
  s.setSlot k { o with cur := some x, old := o.cur, gen := (o.gen + 1) % 256, draining := o.cur.isSome, erasing := false, pending := none,
                       commitTime := s.now % 2 ^ 48 }

/-- The commit of a key with its mirror record; a wrap slot's commit also names the slot for later records. -/
def State.commitKey (s : State) (k : Nat) (v : KeyVal) : State :=
  let s := s.loadKey k v
  let s := if k = 18574 || k = 18575 then { s with prot.wrap15 := k == 18575 } else s
  s.mirrorKey k v.key false

/-- An MSK loaded into both slots of a terminal's pair (R349). -/
def State.loadMsk (s : State) (k msk : Nat) : State :=
  let a := slotPair k * 2
  let one (s : State) (k : Nat) : State :=
    let (x, s) := s.splitKey ⟨msk, false⟩
    (s.setSlot k { s.slot k with msk := some x, commitTime := s.now % 2 ^ 48 }).mirrorKey k msk true
  one (one s a) (a + 1)

/-- A slot zeroised (R348). -/
def State.zeroSlot (s : State) (k : Nat) : State := s.setSlot k { gen := (s.slot k).gen }

/-- The inactive index of a pair. -/
def otherIndex (p : KeyPair) : Nat := if p.inForce = 1 then 2 else 1

/-- The command that waits for a slot's commit responds. -/
def State.answerCommit (s : State) (k : Nat) : State :=
  let b := (s.slot k).reply
  (s.setSlot k { s.slot k with reply := [] }).respondAll (.keyCommit k) .ok 0 (slotRead s k 0 ++ b)

/-- Forced writes whose time has come are committed at a frame start (R347). -/
def State.commitForced (s : State) : State :=
  (s.cipher.pairs.keys (fun _ p => p.forced.any (fun f => decide (f.2.2 ≤ s.up)))).foldl (fun s p =>
    match (s.pair p).forced with
    | none => s
    | some (k, v, _) =>
      let s := s.setPair p { s.pair p with forced := none }
      (s.commitKey k v).answerCommit k) s

/-- A received frame whose keystream or verdict was not ready in time: counted, and raised at most once per second per region (R336). -/
def State.cipherLate (s : State) (region : Nat) : State :=
  (s.bump .CIPHER_LATE_DROPS region).raiseSec .CIPHER_OVERLOAD region (srcRegion region 6) region (fun n => evData [(4, region)] n)

end Sys2Proof.Machine
end

