-- ==== Sys2Proof/Machine/Tapes.lean ====
section
/-! DEFINITION. Express keys and their tapes (R340). -/
namespace Sys2Proof.Machine

/-- Key pairs that are express keys of a tree channel: those of GEM indexes with a cipher that an enabled level 7 queue is bound to. -/
def expressKeys (s : State) (c : Nat) : List Nat :=
  if s.getN .EXPRESS_EN (32 + c) = 1 then
    let qs := s.fwd.downQ.filter (fun e => e.2.enable && e.2.level == 7 && e.2.bind.any (fun g => (s.gem g).chan == c && (s.gem g).cipher != 0))
    (qs.filterMap (fun e => e.2.bind.map (fun g => if (s.gem g).cipher = 1 then termPair (s.gem g).term else bcastPair c))).eraseDups
  else []

/-- Tape units of a region. -/
def tapeUnits (s : State) (r : Nat) : Nat :=
  (List.range 8).foldl (fun n i => n + (expressKeys s (r * 8 + i)).length * (if i % 2 = 0 then 5 else 1)) 0

/-- A region keeps the limits: at most 4 express keys on a channel, at most 26 units. -/
def tapesOk (s : State) (r : Nat) : Bool :=
  (List.range 8).all (fun i => decide ((expressKeys s (r * 8 + i)).length ≤ 4)) && decide (tapeUnits s r ≤ 26)

end Sys2Proof.Machine
end

