-- ==== Sys2Proof/Machine/Capacity.lean ====
section
/-! DEFINITION. Capacity: what a region can still do, and the reports of it (R26, R43, R87, R241, R335, R337, R489). -/
namespace Sys2Proof.Machine

/-! ### Roles and the units that hold them (R12) -/

/-- The unit that holds a block's role: a spare that has taken it over, else the block itself. -/
def holderOf (s : State) (u : Nat) : Nat := ((s.unit u).replacedBy).getD u

/-- The same as a block instance, region × 256 + block number (R48). -/
def holderInst (s : State) (r b : Nat) : Nat := r * 256 + addrBlock (holderOf s (blockAddr r b))

/-- A fault in the block that holds a role, or in cell `x` of it (R12, R479). -/
def State.reportRole (s : State) (r b : Nat) (cell : Option Nat) (cause : Nat) : State :=
  let k := holderInst s r b % 256
  s.report (match cell with
    | some x => cellAddr r k x
    | none => blockAddr r k) cause

/-! ### Pace and capacity (R43) -/

/-- Capacity of a role in 1/1,000 of the rated: none while no unit holds it, block pace ÷ 2.5 G hc/s while the block is reported low. -/
def roleShare (s : State) (r b : Nat) : Nat :=
  if outOfRole s (blockAddr r b) then 0
  else
    let p := s.pace.blocks.get (holderInst s r b)
    if p.low then min 1000 (p.lowPace * 1000 / 2500) else 1000

/-- Cells of a block that are out: a spare cell does no work (Table 19.2). -/
def cellsOut (s : State) (r b : Nat) : Nat :=
  (s.units.keys (fun u v => addrLevel u == 1 && addrRegion u == r && addrBlock u == b && (v.state == some .iced || v.state == some .condemned || v.state == some .spare))).length

/-! ### Cell pairs (R335, R337) -/

/-- First cipher block of a region and their number (Table 1.1). -/
def cipherBlocks (r : Nat) : Nat × Nat := if r < 8 then (15, 4) else if r < 10 then (12, 22) else if r = 11 then (7, 14) else (0, 0)

/-- Cells of a cipher role that do work: those of the block that holds it, unless its generator has stopped (R333). -/
def roleCells (s : State) (r b : Nat) : Nat :=
  let i := holderInst s r b
  if outOfRole s (blockAddr r b) || (s.cipher.generators.get i).stopped then 0 else 256 - cellsOut s r (i % 256)

/-- Pairs in service of a region: half its cells that do work. -/
def pairsInService (s : State) (r : Nat) : Nat :=
  let (b0, n) := cipherBlocks r
  ((List.range n).foldl (fun k i => k + roleCells s r (b0 + i)) 0) / 2

/-- Pairs that the region's pace lets it report (R43): each block's cells count by its share. -/
def pairsReported (s : State) (r : Nat) : Nat :=
  let (b0, n) := cipherBlocks r
  ((List.range n).foldl (fun k i => k + roleCells s r (b0 + i) * roleShare s r (b0 + i)) 0) / 2000

/-- Cipher share of a tree channel's capacity percentage (R337), `p` pairs and `u` tape units in use. -/
def cipherShare (p u : Nat) : Nat := min 100 (100 * (p - 7 * u - 14) / 316)

/-! ### Lanes of parse blocks and receive lanes (R87, R241) -/

/-- PARSE_LANES of an uplink region: eight to each parse lane block in its role, less those iced. -/
def parseLanes (s : State) (k : Nat) : Nat :=
  ((List.range 4).map (fun i => if outOfRole s (blockAddr (8 + k) (4 + i)) then 0
    else 8 - cellsOut s (8 + k) (holderInst s (8 + k) (4 + i) % 256))).foldl (· + ·) 0

/-- The same as reported: each block's lanes count by its share (R43). -/
def parseReported (s : State) (k : Nat) : Nat :=
  ((List.range 4).map (fun i => (8 - cellsOut s (8 + k) (holderInst s (8 + k) (4 + i) % 256)) * roleShare s (8 + k) (4 + i))).foldl (· + ·) 0 / 1000

/-- Active and spare units of a lane (Table 3.1). -/
def laneUnits (lane : Nat) : Nat := if lane % 4 < 2 then 32 else if lane % 4 = 2 then 8 else 2
def laneSpares (lane : Nat) : Nat := if lane % 4 < 2 then 8 else 1

/-- Highest rate code that the good slices of a receive lane serve (Table 3.1). Log entry 31 (DEDUCED). -/
def bestRate (lane good : Nat) : Option Nat :=
  if lane % 4 = 2 then (if 8 ≤ good then some 4 else if 4 ≤ good then some 3 else if 2 ≤ good then some 2 else none)
  else (if 2 ≤ good then some 1 else if 1 ≤ good then some 0 else none)

/-- Does a receive lane still serve a rate (R87)? -/
def servesRate (s : State) (c rate : Nat) : Bool :=
  let i := rxLane c
  match bestRate i (laneUnits i - (s.ln i).lost) with
  | some r => rate ≤ r && !(s.ln i).failed
  | none => false

/-! ### Reports (R26) -/

/-- A consumer of a region's reports. -/
def consumerKey (c : Consumer) (region : Nat) : Nat :=
  (match c with
   | .dba => 0 | .schedulers => 1 | .cipher => 2 | .control => 3) * 16 + region

/-- The figures that a consumer has applied. -/
def figuresOf (s : State) (c : Consumer) (r : Nat) : Option Capacity := (s.pace.held.get (consumerKey c r)).figures

/-- Blocks whose resources an upstream channel needs: its lane block, burst receiver, Tn.12, delineation and upstream parse (Table 1.3). Its share of
the cipher blocks is P. -/
def channelBlocks (c : Nat) : List Nat :=
  let k := c / 2 % 4
  [k, 8 + k, 12, 13 + k / 2, 19 + k / 2]

/-- Upstream capacity percentage of a channel: the lowest share among its resources (R337, R43). -/
def channelPercent (s : State) (c : Nat) : Nat :=
  let r := regionOfChan c
  (channelBlocks c).foldl (fun m b => min m (roleShare s r b / 10)) (cipherShare (pairsReported s r) (tapeUnits s r))

/-- Highest rate code a channel's receive lane serves; the lowest one while it serves none. -/
def highestRate (s : State) (c : Nat) : Nat :=
  (bestRate (rxLane c) (laneUnits (rxLane c) - (s.ln (rxLane c)).lost)).getD (if c % 2 = 0 then 2 else 0)

/-- A region's whole current capacity. -/
def capacityOf (s : State) (r : Nat) : Capacity :=
  let p := pairsReported s r
  if r < 8 then
    { cipherPairs := p, percent := (List.range 8).map (fun i => channelPercent s (8 * r + i)), highest := (List.range 8).map (fun i => highestRate s (8 * r + i)) }
  else if r < 10 then { cipherPairs := p, transmit := p * 1000 / 2816, parseLanes := parseReported s (r - 8) }
  else if r = 10 then
    { tableBanks := (List.range 12).foldl (fun n i => n + roleShare s 10 (17 + i)) 0 / 1000,
      schedulers := (List.range 8).map (fun i => roleShare s 10 (32 + i) / 10) }
  else if r = 11 then { cipherPairs := p, transmit := p * 1000 / 1792 }
  else {}

/-- A report of a region's capacity sent, with the next sequence number. -/
def State.reportCapacity (s : State) (r : Nat) : State :=
  let n := (s.pace.capSeq.get r + 1) % 65536
  { s with pace.capSeq := s.pace.capSeq.set r n,
           pace.capSent := s.pace.capSent.set r (⟨n, capacityOf s r⟩ :: ((s.pace.capSent.get r).filter (fun x => x.seq != n))) }

/-- A report sent where the figures differ from those of the last. -/
def State.testCapacity (s : State) (r : Nat) : State :=
  if (s.pace.capSent.get r).head?.any (fun x => decide (x.figures = capacityOf s r)) then s else s.reportCapacity r

end Sys2Proof.Machine
end

