-- ==== Sys2Proof/Machine/Observe.lean ====
section
/-! DEFINITION. Observations of light outside the grants, and the opening of an investigation (R144). -/
namespace Sys2Proof.Machine

def State.rogue (s : State) (c : Nat) : Rogue := (s.chan c).rogue
def State.setRogue (s : State) (c : Nat) (r : Rogue) : State := s.setChan c { s.chan c with rogue := r }

/-- Investigations in hand on the device, at most 16. -/
def rogueCount (s : State) : Nat := (s.chans.keys (fun _ v => v.rogue.phase != 0)).length

/-- Observations of a kind in a list. -/
def ofKind (k : Nat) (l : List Observation) : Nat := (l.filter (fun o => o.kind == k)).length

/-- An investigation opens in phase 1: ROGUE_OPEN. -/
def State.openRogue (s : State) (c : Nat) : State :=
  let r := s.rogue c
  (s.setRogue c { recent := r.recent, phase := 1, holdoff := r.holdoff, endedAt := r.endedAt }).raise .ROGUE_OPEN (srcChan c 10) (regionOfChan c)
    (evData [(6, c), (8, ofKind 0 r.recent), (8, ofKind 1 r.recent)] (ofKind 2 r.recent))

/-- An observation on a channel: in phase 1 it is collected; else enough of them within ROGUE_OBS_WINDOW open an investigation. Log entry 59 (DESIGN CHOICE). -/
def State.rogueObserve (s : State) (c kind : Nat) (term : Option Nat) (since : Nat) : State :=
  let r := s.rogue c
  let o : Observation := ⟨kind, term, since, s.up⟩
  let recent := r.recent.filter (fun x => decide (s.up - x.time < s.getN .ROGUE_OBS_WINDOW c * msec)) ++ [o]
  let collected := if r.phase = 1 && r.collected.length < 16 then r.collected ++ [o] else r.collected
  let s := s.setRogue c { r with recent := recent, collected := collected }
  if r.phase = 0 && !r.holdoff && s.getN .ROGUE_MODE c != 0 && s.getN .ROGUE_OBS_OPEN c ≤ recent.length && rogueCount s < 16
      && runs s (c / 2) then s.openRogue c
  else s

end Sys2Proof.Machine
end

