-- ==== Sys2Proof/Machine/ProtHook.lean ====
section
/-! DEFINITION. The start of a protection switch, by a fault of a tree or by command (R393, R394). -/
namespace Sys2Proof.Machine

/-- A switch that cannot be made: PROT_SWITCH_BLOCKED with its cause: 1 δ beyond 100 µs, 2 peer not ready or not healthy, 3 no TAKEN, 4 silent
peer and the tree not ready here. -/
def State.blocked (s : State) (t cause : Nat) : State :=
  s.raise .PROT_SWITCH_BLOCKED (srcTree t 5) (regionOfTree t) (evData [(5, t)] cause)

/-- The peer's latest message shows the tree ready and healthy there. -/
def peerCanTake (s : State) (t : Nat) : Bool := s.prot.peer.any (fun m => m.ready.getD t false && m.health.getD t false)

/-- The holder begins a switch: its stream and its activation procedures stop; or it keeps the token (R393, R394 step 1). -/
def State.startSwitch (s : State) (t cause : Nat) : State :=
  if !runs s t then s
  else if peerCanTake s t then s.setToken t { s.token t with release := .draining, cause := cause }
  else s.blocked t 2

/-- Tree loss, a failed lane or an absent module of a paired holder starts a switch when PROT_AUTO_SWITCH is 1 (R393). -/
def State.protFault (s : State) (t _cause : Nat) : State :=
  if s.prot.paired && s.getN .PROT_AUTO_SWITCH t = 1 then s.startSwitch t 1 else s

end Sys2Proof.Machine
end

