-- ==== Sys2Proof/Machine/Lanes.lean ====
section
/-! DEFINITION. Tree lanes, optics signals, burst memory and lane sleep (spec/03). -/
namespace Sys2Proof.Machine

/-! ### Burst reset and burst memory -/

/-- A pulse on TREEn_BRST by the settings in force (R60). -/
def State.brst (s : State) (tree : Nat) : State :=
  s.emit (.brst tree (s.getF .BRST_OFFSET tree).toNat (s.getF .BRST_WIDTH tree).toNat)

/-- TREEn_BRST and TREEn_RSSI are held low: the lane block or its region restarts, or has restarted since the last frame start (R65). -/
def pulsesHeld (s : State) (tree : Nat) : Bool :=
  outOfRole s (regionAddr (regionOfTree tree)) || outOfRole s (blockAddr (regionOfTree tree) (tree % 4)) || (s.optic tree).heldLow

/-- BRST_PULSE: at the scheduled end of a channel 0 burst or window, one pulse for each lane entry of the map (R60, R205). -/
def execBrstPulse (tree : Fin 32) (s : State) : Res :=
  .next <|
    let i := rxLane (2 * tree.val)
    let l := s.ln i
    if l.current.any (fun p => p.entry.isSome) && !l.pulsed then
      let s := s.setLn i { l with pulsed := true }
      if (s.chan (2 * tree.val)).enabled && !pulsesHeld s tree then s.brst tree else s
    else s

/-- An entry written by its owner: GENERATION counts every write (R73). -/
def State.writeBm (s : State) (t : Nat) (e : BmEntry) : State :=
  s.setBm t { e with generation := ((s.bm t).generation + 1) % 256 }

/-- An entry returns to STATE seed (R80); firmware-owned fields are kept. -/
def toSeed (e : BmEntry) : BmEntry := { e with state := .seed, shortQual := false, cleanRun := 0, missSeen := false }

def State.seedBm (s : State) (t : Nat) : State := s.writeBm t (toSeed (s.bm t))

/-- Deactivation also clears VALID (R80). -/
def State.clearBm (s : State) (t : Nat) : State := s.writeBm t { toSeed (s.bm t) with valid := false }

/-- The eight words of an entry (Table 3.5). -/
def bmWords (t : Nat) (e : BmEntry) : List Nat :=
  let sg (w : Nat) (v : Int) : Nat := (BitVec.ofInt w v).toNat
  let st : Nat := match e.state with
    | .empty => 0 | .seed => 1 | .learned => 2
  [b2n e.valid * 2 ^ 31 + st * 2 ^ 29 + e.channel % 2 * 2 ^ 28 + e.rate * 2 ^ 25 + b2n e.shortQual * 2 ^ 24 + t,
   sg 16 e.set.phase * 2 ^ 16 + sg 16 e.set.freqOff,
   sg 8 (e.set.taps.getD 0 0) * 2 ^ 24 + sg 8 (e.set.taps.getD 1 0) * 2 ^ 16 + sg 8 (e.set.taps.getD 2 0) * 2 ^ 8 + sg 8 (e.set.taps.getD 3 0),
   sg 8 (e.set.taps.getD 4 0) * 2 ^ 24 + e.set.ctle % 16 * 2 ^ 20 + sg 8 e.set.thresh * 2 ^ 12 + e.rssiClass * 2 ^ 8,
   e.cleanRun * 2 ^ 25 + e.sinceMiss * 2 ^ 15 + b2n e.missSeen * 2 ^ 14,
   e.lastFrame,
   sg 16 e.phaseRef * 2 ^ 16,
   e.generation * 2 ^ 24]

/-- BMEM_READ: the entry of a terminal. -/
def execBmemRead (mb : Fin 16) (term : Nat) (s : State) : Res :=
  hostCmd s mb 0x0310 fun _ s =>
    if 8192 ≤ term then fail s .badArg
    else if !(s.bm term).valid then fail s .noObject
    else okay s ((bmWords term (s.bm term)).map Int.ofNat)

/-- BMEM_RESET: the entry returns to seed, and is returned as written (R449's section); an entry not in use answers NO_OBJECT, as BMEM_READ does. Log entry 239 (DESIGN CHOICE). -/
def execBmemReset (mb : Fin 16) (term : Nat) (s : State) : Res :=
  hostCmd s mb 0x0311 fun _ s =>
    if 8192 ≤ term then fail s .badArg
    else if !(s.bm term).valid then fail s .noObject
    else
      let s := s.seedBm term
      okay s ((bmWords term (s.bm term)).map Int.ofNat)

/-- Settings from a fused seed: rate, phase, then offset, taps, equaliser and threshold of the seed. -/
def fromSeed (rate : Nat) (phase : Int) (l : List Int) : LaneSettings :=
  ⟨rate, phase, l.getD 0 0, [l.getD 1 0, l.getD 2 0, l.getD 3 0, l.getD 4 0, l.getD 5 0], (l.getD 6 0).toNat, l.getD 7 0⟩

/-- What a preload loads for a plan entry (R74, R76, R207): PHASE of a seed start is the ranging measurement, PHASE_REF. -/
def preloadOf (s : State) (p : PlanEntry) (late : Bool) : LaneSettings :=
  match p.entry.bind (·.term) with
  | none => fromSeed p.rate 0 (Config.discoverySeed p.rate)
  | some t =>
    let e := s.bm t
    if late then fromSeed e.rate 0 (Config.lateSeed e.rate)
    else match e.state with
      | .learned => { e.set with rate := e.rate }
      | _ => fromSeed e.rate e.phaseRef (seedEffective s.roles.overlay (e.rssiClass * 5 + e.rate))

/-- Terminal of a plan entry's burst. -/
def planTerm (p : PlanEntry) : Option Nat := p.entry.bind (·.term)

/-- BURST_PRELOAD: Tn.12 writes the next bank of the channel's receive lane for the map's next entry; one with CONT = 1 needs none (R214); `late` when
it misses the deadline (R74, R76). The terminal's key shares are fetched with it (R16). A late preload of a window reports terminal 0 and leaves the discovery seed. Log entry 240 (DESIGN CHOICE). -/
def execBurstPreload (c : Fin 64) (late : Bool) (s : State) : Res :=
  .next <|
    let i := rxLane c
    let l := s.ln i
    match l.nextEntry, l.plan with
    | none, p :: rest =>
      if p.entry.any (·.cont) then s
      else
        let s := s.setLn i { l with next := preloadOf s p late, nextFor := planTerm p, nextEntry := some p, plan := rest, lateNext := late }
        let s := match planTerm p with
          | some t => s.fetchKeys t
          | none => s
        if late then s.raise .PRELOAD_LATE (srcTree (c.val / 2) (2 + c.val % 2)) (regionOfChan c) (evData [(7, i)] ((planTerm p).getD 0)) else s
    | _, _ => s

/-- A plan entry is in hand on a lane: its bank, or the settings the lane has. -/
def takeEntry (l : LaneState) (p : PlanEntry) (b : LaneSettings) (late : Bool) : LaneState :=
  { l with active := b, activeFor := planTerm p, preloadPhase := b.phase, late := late, current := some p, pulsed := false,
           sleepDue := p.entry.any (·.sleepAfter) }

/-- BANK_SWAP: the next bank becomes active, unless the previous burst belonged to the same terminal, whose final state carries on
(R74, R75); that holds where the new burst's preload was late too. Log entry 241 (DESIGN CHOICE). -/
def execBankSwap (c : Fin 64) (s : State) : Res :=
  .next <|
    let i := rxLane c
    let l := s.ln i
    match l.nextEntry, l.plan with
    | some p, _ =>
      let same := (planTerm p).isSome && planTerm p == l.activeFor
      s.setLn i (takeEntry { l with nextEntry := none } p (if same then l.active else l.next) l.lateNext)
    | none, p :: rest => if p.entry.any (·.cont) then s.setLn i (takeEntry { l with plan := rest } p l.active false) else s
    | none, [] => s

/-! ### Qualification and demotion (R77 to R79) -/

/-- A clean burst (R78), by what was received of it and its final phase: delimiter at the scheduled position, header check passed, no uncorrectable
codeword among those decoded, final phase near the preloaded one. Log entry 242 (DESIGN CHOICE). -/
def cleanBurst (s : State) (tree : Nat) (l : LaneState) (x : BurstRx) (phase : Int) : Bool :=
  x.scheduled && x.bad.isEmpty && decide ((phase - l.preloadPhase).natAbs ≤ s.getN .BMEM_CLEAN_PHASE tree)

/-- The counters of a granted burst, clean or not: CLEAN_RUN, and SINCE_MISS while qualified. Log entry 32 (DESIGN CHOICE). -/
def countBurst (e : BmEntry) (clean : Bool) : BmEntry :=
  { e with cleanRun := if clean then min 127 (e.cleanRun + 1) else 0,
           sinceMiss := if e.shortQual then min 1000 (e.sinceMiss + 1) else e.sinceMiss }

/-- CLEAN_RUN reaching BMEM_QUAL_RUN qualifies the terminal for the short profile (R78). -/
def State.qualify (s : State) (t tree c : Nat) : State :=
  let e := s.bm t
  if !e.shortQual && s.getN .BMEM_QUAL_RUN tree ≤ e.cleanRun then
    (s.writeBm t { e with shortQual := true, missSeen := false, sinceMiss := 1000 }).raise .BMEM_QUALIFIED (srcChan c 18) (regionOfChan c)
      (evData [] t)
  else s

/-- A delimiter miss while qualified: a second one within BMEM_DEMOTE_WINDOW demotes (R79). -/
def State.demoteTest (s : State) (t tree c : Nat) : State :=
  let e := s.bm t
  if !e.shortQual then s
  else if e.missSeen && e.sinceMiss < s.getN .BMEM_DEMOTE_WINDOW tree then
    (s.writeBm t { e with shortQual := false, cleanRun := 0 }).raiseAs .BMEM_QUALIFIED true (srcChan c 18) (regionOfChan c) (evData [] t)
  else s.writeBm t { e with missSeen := true, sinceMiss := 0 }

/-- A delimiter miss in a terminal's counters (R78, R79): it ends CLEAN_RUN, counts in SINCE_MISS and is then tested; on a burst preloaded
late it counts nowhere (R76). -/
def State.missCounters (s : State) (t : Nat) : State :=
  let c := (s.term t).chan
  if (s.ln (rxLane c)).late then s else (s.writeBm t (countBurst (s.bm t) false)).demoteTest t (c / 2) c

/-- A burst's final state on its lane; its phase counts from the scheduled position of the delimiter (R155). -/
def finalState (x : Option BurstRx) (final : LaneSettings) : LaneSettings :=
  { final with phase := 64 * (x.map (·.pos)).getD 0 + final.phase }

/-- The lane carries a burst's final state on, found or missed (R75). -/
def State.carryFinal (s : State) (i t : Nat) (f : LaneSettings) : State :=
  let l := s.ln i
  if l.activeFor == some t then s.setLn i { l with active := { f with rate := l.active.rate } } else s

/-- An entry with a burst's final state in it, learned (R77). -/
def learned (e : BmEntry) (x : BurstRx) (f : LaneSettings) : BmEntry :=
  { e with state := .learned, set := { f with rate := e.rate }, lastFrame := x.frame % 2 ^ 32 }

/-- A burst's write-back without its counters (R488). -/
def State.writeState (s : State) (t : Nat) (x : BurstRx) (f : LaneSettings) : State := s.writeBm t (learned (s.bm t) x f)

/-- A burst's write-back: with its delimiter found, which its header check confirms, the final state goes into the entry, which is then learned,
and the counters move. A missed burst changed them when its hunt window closed (R77, R78). -/
def State.writeBack' (s : State) (t : Nat) (x : BurstRx) (f : LaneSettings) : State :=
  let c := (s.term t).chan
  let tree := c / 2
  (s.writeBm t (countBurst (learned (s.bm t) x f) (cleanBurst s tree (s.ln (rxLane c)) x f.phase))).qualify t tree c

/-! ### Lane sleep (R81 to R84) -/

/-- A lane powers down. -/
def State.sleepLane (s : State) (i : Nat) : State :=
  let l := s.ln i
  if l.asleep then s else s.setLn i { l with asleep := true, sleepStart := s.up, sleepDue := false }

/-- LANE_SLEEP_START: the receive lane powers down at the start of the sleep window that the map gives after its entry (R81, R215); that of a dark
channel after any entry (R83). Neither sleeps during an activation (R84). Log entry 246 (DESIGN CHOICE). -/
def execLaneSleepStart (c : Fin 64) (s : State) : Res :=
  .next <|
    let i := rxLane c
    if ((s.ln i).sleepDue || (s.power.dark.get c.val && (s.ln i).current.isSome)) && !s.lanes.keepAwake.get c.val then s.sleepLane i else s

/-- A lane wakes; the time asleep is kept for LANE_ASLEEP_TIME. -/
def State.wakeLane (s : State) (i : Nat) : State :=
  let l := s.ln i
  if l.asleep then s.setLn i { l with asleep := false, asleepNs := l.asleepNs + (s.up - l.sleepStart) } else s

/-- LANE_ASLEEP_TIME posted at a frame start: whole µs asleep since the last one; the rest is kept. -/
def State.postAsleep (s : State) (i : Nat) : State :=
  let l := s.ln i
  let n := l.asleepNs + (if l.asleep then s.up - l.sleepStart else 0)
  (s.setLn i { l with asleepNs := n % 1000, sleepStart := s.up }).bump .LANE_ASLEEP_TIME i (n / 1000)

/-- LANE_WAKE_START: at a sleep window's end the receive lane begins its wake. -/
def execLaneWakeStart (c : Fin 64) (s : State) : Res := .next (s.wakeLane (rxLane c))

/-- SLEEP_LIGHT: light in a sleep window, at an offset of the frame in ns, `since` ns after the burst of `last`; it is an observation for the rogue investigation (R82, R144). -/
def execSleepLight (c : Fin 64) (offset : Nat) (last : Option (Fin 8192)) (since : Nat) (s : State) : Res :=
  .next <|
    if (s.ln (rxLane c)).asleep then
      (s.raise .SLEEP_LIGHT (srcTree (c.val / 2) (2 + c.val % 2)) (regionOfChan c) (evData [(7, rxLane c)] offset)).rogueObserve c 1 (last.map Fin.val) since
    else s

/-- DARK_WAKE_RUN_START: the transmit lane of a dark channel wakes and sends full frames (R83). -/
def execDarkWakeRunStart (c : Fin 64) (s : State) : Res :=
  .next (if s.power.dark.get c.val then ({ s with lanes.wakeRun := s.lanes.wakeRun.set c.val true }).wakeLane (txLane c) else s)

/-- DARK_WAKE_RUN_END: the dark channel's lanes sleep again, unless an activation keeps them awake (R83, R84). -/
def execDarkWakeRunEnd (c : Fin 64) (s : State) : Res :=
  .next <|
    let s := { s with lanes.wakeRun := s.lanes.wakeRun.set c.val false }
    if s.power.dark.get c.val && !s.lanes.keepAwake.get c.val then (s.sleepLane (txLane c)).sleepLane (rxLane c) else s

/-! ### Spare segments and slices (R85 to R88) -/

/-- LANE_SPARE_STATE: spares left and the failed-unit mask. -/
def laneSpareState (s : State) (i : Nat) : Nat := (laneSpares i - (s.ln i).sparesUsed) * 2 ^ 24 + (s.ln i).failedMask % 2 ^ 24

/-- What a transmit lane is to drive: the taps in force, and the swing in force times the good segments of 32 (R57, R85). -/
def driveOf (s : State) (c : Nat) : Drive :=
  let l := s.ln (txLane c)
  ⟨s.getF .TX_SWING c * (32 - min 32 l.lost : Nat), s.getF .TX_FFE_PRE c, s.getF .TX_FFE_POST c⟩

/-- An FEC codeword boundary of a transmit lane: written swing and taps, and a loss of segments, take effect (R57, R85). Log entry 243 (DESIGN CHOICE). -/
def State.driveLane (s : State) (c : Nat) : State :=
  let i := txLane c
  let s := ((s.enforce .TX_SWING c).enforce .TX_FFE_PRE c).enforce .TX_FFE_POST c
  let d := driveOf s c
  if (s.ln i).failed || (s.ln i).drive == some d then s
  else (s.setLn i { s.ln i with drive := some d }).emit (.txDrive i d.swing d.pre d.post)

/-- DRIVER_SEGMENT_FAULT: a segment's current monitor leaves its window; it waits for the next codeword boundary. A cell fault of the lane
block (Table 19.3). Log entry 30 (DESIGN CHOICE). -/
def execDriverSegmentFault (c : Fin 64) (segment : Fin 40) (s : State) : Res :=
  .next <|
    let i := txLane c
    let l := s.ln i
    if l.failedMask.testBit segment || l.waiting.contains segment.val then s
    else (s.setLn i { l with waiting := l.waiting ++ [segment.val] }).reportRole (regionOfChan c) (c.val / 2 % 4) (some segment) 9

/-- A failed lane: it sends or receives nothing, and protection acts (R88, R393). -/
def State.failLane (s : State) (i : Nat) : State :=
  let t := i / 4
  let s := s.setLn i { s.ln i with failed := true }
  let s := s.cancelEnable (t * 2 + i % 2)
  (s.raise .LANE_FAILED (srcTree t (i % 4)) (regionOfTree t) (evData [] i)).protFault t 2

/-- A unit lost beyond the spares: the lane degrades, or fails with fewer than it needs (R85, R87). -/
def State.loseUnit (s : State) (i unit : Nat) : State :=
  let l := s.ln i
  let t := i / 4
  let s := s.setLn i { l with failedMask := l.failedMask ||| 2 ^ unit, lost := l.lost + 1 }
  let good := laneUnits i - (l.lost + 1)
  if i % 4 < 2 then
    if 28 ≤ good then s.raise .LANE_DEGRADED (srcTree t (i % 4)) (regionOfTree t) (evData [(7, i), (6, good)] (if i % 4 = 0 then 4 else 1))
    else s.failLane i
  else match bestRate i good with
    | some r =>
      let s := s.raise .LANE_DEGRADED (srcTree t (i % 4)) (regionOfTree t) (evData [(7, i), (6, good)] r)
      s.reportCapacity (regionOfTree t)
    | none => s.failLane i

/-- LANE_SEGMENT_SWAP: at the next codeword boundary a spare segment takes each faulty one's place while any is left. -/
def execLaneSegmentSwap (c : Fin 64) (s : State) : Res :=
  .next <|
    let i := txLane c
    let l := s.ln i
    match l.waiting with
    | [] => s
    | u :: rest =>
      let s := s.setLn i { l with waiting := rest }
      let s :=
        if l.sparesUsed < laneSpares i then
          let s := s.setLn i { s.ln i with sparesUsed := l.sparesUsed + 1, failedMask := l.failedMask ||| 2 ^ u }
          s.raise .LANE_SEGMENT_SWAP (srcTree (c.val / 2) (i % 4)) (regionOfChan c) (evData [(7, i)] (laneSpares i - l.sparesUsed - 1))
        else s.loseUnit i u
      s.driveLane c

/-- SLICE_SHADOW_PERIOD: the slice shadowed is judged: more than 1 bit in 10^6 different, or eye margin below its floor (R86). -/
def execSliceShadowPeriod (c : Fin 64) (differ total : Nat) (eyeLow : Bool) (s : State) : Res :=
  .next <|
    let i := rxLane c
    let l := s.ln i
    let bad := eyeLow || decide (total < differ * 1000000)
    let u := l.shadow
    let s := s.setLn i { l with shadow := (u + 1) % laneUnits i, waiting := if bad && !l.waiting.contains u then l.waiting ++ [u] else l.waiting }
    if bad then s.reportRole (regionOfChan c) (c.val / 2 % 4) (some (64 + u)) 9 else s

/-- LANE_SLICE_SWAP: at the start of the next gap between bursts the spare takes the slice's place; a second failure leaves fewer rates
(R86, R87). -/
def execLaneSliceSwap (c : Fin 64) (s : State) : Res :=
  .next <|
    let i := rxLane c
    let l := s.ln i
    match l.waiting with
    | [] => s
    | u :: rest =>
      let s := s.setLn i { l with waiting := rest }
      if l.sparesUsed < laneSpares i then
        let s := s.setLn i { s.ln i with sparesUsed := l.sparesUsed + 1, failedMask := l.failedMask ||| 2 ^ u }
        s.raise .LANE_SLICE_SWAP (srcTree (c.val / 2) (i % 4)) (regionOfChan c) (evData [(7, i)] u)
      else s.loseUnit i u

end Sys2Proof.Machine
end

