-- ==== Sys2Proof/Machine/Modules.lean ====
section
/-! DEFINITION. Loss of light, received power and module management (spec/03 R62 to R70). -/
namespace Sys2Proof.Machine

/-! ### Tree loss (R63) -/

/-- TREEn_LOS is active at the level LOS_POLARITY says. -/
def losActive (s : State) (t : Nat) (level : Bool) : Bool := level != (s.getN .LOS_POLARITY t == 1)

/-- TREE_LOS_PIN: the input changes level; what it shows is ignored until the tree is enabled (Table 3.2). -/
def execTreeLosPin (tree : Fin 32) (level : Bool) (s : State) : Res :=
  .next <|
    let o := s.optic tree
    let a := losActive s tree level
    if treeEnabled s tree then s.setOptic tree { o with losPin := level, pinSeenActive := o.pinSeenActive || a, pinSeenIdle := o.pinSeenIdle || !a }
    else s.setOptic tree { o with losPin := level }

/-- A loss window begins: the pin as it is, nothing granted yet, the parameters as written (R63, R89). -/
def State.openLosWindow (s : State) (t : Nat) : State :=
  let o := s.optic t
  let a := losActive s t o.losPin
  ((s.setOptic t { o with pinSeenActive := a, pinSeenIdle := !a, granted := 0, delimiters := 0 }).enforce .LOS_SOURCE t).enforce .LOS_WINDOW t

/-- The criterion of LOS_SOURCE holding throughout the window, and failing throughout it. Log entry 28 (DEDUCED). -/
def losHeld (s : State) (t : Nat) : Bool × Bool :=
  let o := s.optic t
  let pinHeld := !o.pinSeenIdle && losActive s t o.losPin
  let pinFailed := !o.pinSeenActive && !losActive s t o.losPin
  let burst := 4 ≤ o.granted && o.delimiters == 0
  match s.getFN .LOS_SOURCE t with
  | 0 => (pinHeld, pinFailed)
  | 1 => (burst, !burst)
  | 2 => (pinHeld || burst, pinFailed && !burst)
  | _ => (pinHeld && burst, pinFailed || !burst)

/-- LOS_WINDOW_EXPIRY: tree loss is declared or cleared by the criterion over the window, and a new window begins. -/
def execLosWindowExpiry (tree : Fin 32) (s : State) : Res :=
  .next <|
    let o := s.optic tree
    let (held, failed) := losHeld s tree
    let r := regionOfTree tree
    let flags := b2n (losActive s tree o.losPin) + 2 * b2n (4 ≤ o.granted && o.delimiters == 0)
    let s' := (s.setOptic tree { o with loss := (o.loss || held) && !(failed && !held) }).openLosWindow tree
    if !treeEnabled s tree then s
    else if held && !o.loss then (s'.raise .TREE_LOS (srcTree tree 5) r (evData [(5, tree.val)] flags)).protFault tree 1
    else if failed && !held && o.loss then s'.raiseAs .TREE_LOS true (srcTree tree 5) r (evData [] tree)
    else s'

/-! ### Two-wire masters (R66, R67, R70) -/

def State.master (s : State) (m : Nat) : Master := s.lanes.masters.get m
def State.setMaster (s : State) (m : Nat) (v : Master) : State := { s with lanes.masters := s.lanes.masters.set m v }

def txnTree : ModTxn → Nat
  | .poll t => t
  | .read _ t _ _ _ _ => t
  | .write _ t _ _ _ _ => t
  | .rssi t _ => t
  | .page t _ => t

/-- What the master puts on the bus: kind, then its arguments. -/
def txnWords (s : State) : ModTxn → List Nat
  | .poll t => [0, t]
  | .read _ t p b o n => [1, t, p, b, o, n]
  | .write _ t p b o d => [2, t, p, b, o] ++ d.map (·.toNat)
  | .rssi t n => [3, t, s.getN .RSSI_LOC (s.term n).chan]
  | .page t p => [1, t, p, 0, 128, 128]

/-- The first transaction of a list whose select is in use, and the rest. -/
def takeUsable (s : State) : List ModTxn → Option (ModTxn × List ModTxn)
  | [] => none
  | x :: xs => if (s.optic (txnTree x)).holdoff then (takeUsable s xs).map (fun p => (p.1, x :: p.2)) else some (x, xs)

/-- The next transaction by priority: status polls, pass-through, RSSI reads. -/
def nextTxn (s : State) (m : Master) : Option (ModTxn × Master) :=
  match takeUsable s m.polls with
  | some (x, r) => some (x, { m with polls := r })
  | none => match takeUsable s m.passes with
    | some (x, r) => some (x, { m with passes := r })
    | none => match takeUsable s m.reads with
      | some (x, r) => some (x, { m with reads := r })
      | none => none

/-- A free master starts the next transaction; after a select change it first waits MMS_SEL_SETUP. -/
def State.startTxn (s : State) (k : Nat) : State :=
  let m := s.master k
  if m.running.isSome then s
  else match nextTxn s m with
    | none => s
    | some (x, m) =>
      let t := txnTree x
      let change := m.select != some t
      let s := s.setMaster k { m with running := some x, select := some t, setup := change, retried := false }
      if change then s else s.emit (.twoWire t (txnWords s x))

/-- MMS_SEL_SETUP_EXPIRY: the master issues its first START. -/
def execMmsSelSetupExpiry (master : Fin 4) (s : State) : Res :=
  .next <|
    let m := s.master master
    match m.running with
    | some x => if m.setup then (s.setMaster master { m with setup := false }).emit (.twoWire (txnTree x) (txnWords s x)) else s
    | none => s

/-- A transaction queued by its kind. Log entry 247 (DESIGN CHOICE). -/
def State.queueTxn (s : State) (x : ModTxn) : State :=
  let k := txnTree x / 8
  let m := s.master k
  let m := match x with
    | .poll _ => { m with polls := m.polls ++ [x] }
    | .page _ _ => { m with polls := m.polls ++ [x] }
    | .rssi _ _ => { m with reads := m.reads ++ [x] }
    | _ => { m with passes := m.passes ++ [x] }
  (s.setMaster k m).startTxn k

/-- RSSI class of a power in units of 0.1 µW: clamp(floor((P + 32) ÷ 2), 0, 15) with P in dBm, so class k and above from
10^((k + 4) ÷ 5) units on (R62). -/
def rssiClassOf (v : Nat) : Nat := ((List.range 15).filter (fun k => decide (10 ^ (k + 5) ≤ v ^ 5))).length

/-- A terminal that can be measured: in OPERATION on a channel with a location (R62). -/
def rssiTarget (s : State) (v : Terminal) : Bool := v.state == .operation && s.getN .RSSI_LOC v.chan != 0

/-- Terminals a round measures. -/
def rssiTargets (s : State) (tree : Nat) : List Nat := s.terms.keys (fun _ v => v.chan / 2 == tree && rssiTarget s v)

/-- Terminals of the round in hand still to be measured: one that has left OPERATION, or whose channel has no location any more, is not. -/
def roundLeft (s : State) (tree : Nat) : List Nat := (s.optic tree).round.filter (fun t => rssiTarget s (s.term t) && (s.term t).chan / 2 == tree)

/-- A round that is due starts when the previous one has finished. -/
def State.nextRound (s : State) (tree : Nat) : State :=
  let o := s.optic tree
  if o.roundDue && o.rssi.isNone && (roundLeft s tree).isEmpty then
    s.setOptic tree { o with roundDue := false, round := rssiTargets s tree }
  else s

/-- The measurement of a terminal ends; with a value its class is set, without one it keeps its class (R62). Log entry 26 (DESIGN CHOICE). -/
def State.endRssi (s : State) (tree term : Nat) (value : Option Nat) : State :=
  let o := s.optic tree
  let s := s.setOptic tree { o with rssi := none, asked := o.asked.filter (· != term) }
  let s := match value with
    | some v =>
      let s := s.writeBm term { s.bm term with rssiClass := rssiClassOf v }
      s.respondAll (.rssi term) .ok 0 [(v : Int), rssiClassOf v]
    | none => s.respondAll (.rssi term) .faulted 0 []
  s.nextRound tree

/-- A terminal that has left OPERATION is measured no more: a measurement asked for out of turn fails, and a round that waited for it ends. -/
def State.dropRssi (s : State) (t : Nat) : State :=
  let tree := (s.term t).chan / 2
  let o := s.optic tree
  let s := if o.asked.contains t && o.rssi.all (fun r => r.term != t) then
      (s.setOptic tree { o with asked := o.asked.filter (· != t) }).respondAll (.rssi t) .faulted 0 [] else s
  s.nextRound tree

/-- A page read of R68 ends, with its bytes or without: after page 02h the module is taken out of low power. -/
def State.endPage (s : State) (tree number : Nat) (data : List Byte) : State :=
  let o := s.optic tree
  let s := s.setOptic tree { o with pages := o.pages.set number data }
  if o.managing && number = 2 then s.emit (.moduleLowPowerOff tree) else s

/-- MODULE_TRANSACTION_DONE: the transaction completes with `data`, and the master starts the next. -/
def execModuleTransactionDone (master : Fin 4) (data : List Byte) (s : State) : Res :=
  .next <|
    let m := s.master master
    match m.running with
    | none => s
    | some x =>
      if m.setup then s
      else
        let s := s.setMaster master { m with running := none, retried := false }
        let s := match x with
          | .poll _ => s
          | .read id _ _ _ _ n => s.respondAll (.module id) .ok 0 ((data.take n).map (fun (b : Byte) => (b.toNat : Int)))
          | .write id _ _ _ _ _ => s.respondAll (.module id) .ok 0 []
          | .rssi t n => s.endRssi t n (some (beNat (data.take 2)))
          | .page t p => s.endPage t p (data.take 128)
        s.startTxn master

/-- A transaction fails on its bus. -/
def State.failTxn (s : State) (x : ModTxn) : State :=
  match x with
  | .poll _ => s
  | .read id _ _ _ _ _ => s.respondAll (.module id) .faulted 0 []
  | .write id _ _ _ _ _ => s.respondAll (.module id) .faulted 0 []
  | .rssi t n => s.endRssi t n none
  | .page t p => s.endPage t p []

/-- A retry fails: MODULE_BUS_FAULT, and the select is unused for 1 s (R67). -/
def State.busFaultOf (s : State) (m t : Nat) : State :=
  let s := s.raise .MODULE_BUS_FAULT (srcChip (27 + m)) regC (evData [(2, m)] (t % 8))
  s.setOptic t { s.optic t with holdoff := true }

/-- MMS_BUS_STUCK: the clock stretched, or SDA low at idle: 9 clocks, a STOP and one retry; when that fails too the select is unused for 1 s
(R67). Log entry 249 (DESIGN CHOICE). -/
def execMmsBusStuck (master : Fin 4) (s : State) : Res :=
  .next <|
    let m := s.master master
    match m.running with
    | none =>
      if m.retried then
        ((s.setMaster master { m with retried := false }).busFaultOf master (m.select.getD (8 * master.val))).startTxn master
      else (s.setMaster master { m with retried := true }).emit (.busClear master)
    | some x =>
      let t := txnTree x
      if m.retried then
        ((((s.busFaultOf master t).setMaster master { m with running := none, retried := false })).failTxn x).startTxn master
      else ((s.setMaster master { m with retried := true, setup := false }).emit (.busClear master)).emit (.twoWire t (txnWords s x))

/-- MMS_SELECT_HOLDOFF_EXPIRY: one second after a bus fault the select is used again. -/
def execMmsSelectHoldoffExpiry (tree : Fin 32) (s : State) : Res :=
  .next ((s.setOptic tree { s.optic tree with holdoff := false }).startTxn (tree.val / 8))

/-! ### Managing a module (R68, R69) -/

/-- MODULE_MANAGE_START: lower-page byte 1 is read; a module that is not CMIS 5.x is not managed further, another has its pages 00h, 01h and 02h
read and is then taken out of low power. Log entry 24 (PRESUMED). -/
def execModuleManageStart (tree : Fin 32) (revision : Byte) (s : State) : Res :=
  .next <|
    let o := s.optic tree
    if revision.toNat / 16 = 5 then
      (((s.setOptic tree { o with managing := true, absent := false, absentPolls := 0 }).queueTxn (.page tree 0)).queueTxn (.page tree 1)).queueTxn (.page tree 2)
    else
      (s.setOptic tree { o with managing := false, managed := false }).raise .MODULE_UNMANAGED (srcTree tree 4) (regionOfTree tree)
        (evData [(5, tree.val)] revision.toNat)

/-- The lane controls of pages 10h and 11h: lane 1 is channel 0, lane 2 is channel 1. -/
def State.applyLaneControls (s : State) (t : Nat) : State :=
  if (s.optic t).managed then s.emit (.laneControls t (s.chan (2 * t)).enabled (s.chan (2 * t + 1)).enabled) else s

/-- MODULE_READY: ModuleReady is seen; the module is managed and its lane controls are applied. -/
def execModuleReady (tree : Fin 32) (s : State) : Res :=
  .next <|
    let o := s.optic tree
    if o.managing then (s.setOptic tree { o with managing := false, managed := true }).applyLaneControls tree else s

/-- Every burst memory entry of a tree returns to seed (R80). -/
def State.seedTree (s : State) (t : Nat) : State :=
  (s.terms.keys (fun _ v => v.chan / 2 == t && v.state != .free)).foldl (fun s n => if (s.bm n).valid then s.seedBm n else s) s

/-- A flag byte found set, with its offset (R69). -/
def State.moduleAlarms (s : State) (t : Nat) (flags : List (Byte × Byte)) : State :=
  flags.foldl (fun s f => if f.2 = 0 then s else
    s.raise .MODULE_ALARM (srcTree t 4) (regionOfTree t) (evData [(5, t), (8, f.1.toNat)] f.2.toNat)) s

/-- MODULE_POLL: a module's state and latched flags as (offset, byte), or no answer. Three polls unanswered make it absent, and an answer
after that inserts it (R68, R69). -/
def execModulePoll (tree : Fin 32) (flags : Option (List (Byte × Byte))) (s : State) : Res :=
  .next <|
    let o := s.optic tree
    let r := regionOfTree tree
    let s := s.queueTxn (.poll tree)
    match flags with
    | none =>
      let n := o.absentPolls + 1
      let s := s.setOptic tree { s.optic tree with absentPolls := n, absent := o.absent || decide (3 ≤ n), managed := o.managed && n < 3,
                                                   managing := o.managing && n < 3 }
      if n = 3 && !o.absent then (s.raise .MODULE_ABSENT (srcTree tree 4) r (evData [] tree)).protFault tree 3 else s
    | some fs =>
      let s := s.setOptic tree { s.optic tree with absentPolls := 0, absent := false }
      let s := if o.absent then (s.seedTree tree).raiseAs .MODULE_ABSENT true (srcTree tree 4) r (evData [] tree) else s
      if o.managed then s.moduleAlarms tree fs else s

/-! ### Pass-through and power measurement commands -/

/-- Does an access of `n` bytes from `offset` touch lower-page bytes 26 to 31, or page 10h of a managed module (R70)? -/
def protectedBytes (managed : Bool) (page offset n : Nat) : Bool :=
  (offset ≤ 31 && 26 < offset + n) || (managed && page == 0x10 && 128 < offset + n)

/-- MODULE_READ: 1 to 128 bytes at tree, page, bank and offset. Log entry 27 (DESIGN CHOICE). -/
def execModuleRead (mb : Fin 16) (tree page bank offset count : Nat) (s : State) : Res :=
  hostCmd s mb 0x0320 fun _ s =>
    if 32 ≤ tree || 256 ≤ page || 256 ≤ bank || 256 ≤ offset || count = 0 || 128 < count || 256 < offset + count then fail s .badArg
    else if (s.optic tree).holdoff then fail s .faulted
    else
      let id := s.lanes.nextTxn
      (({ s with lanes.nextTxn := id + 1 }).queueTxn (.read id tree page bank offset count), .wait (.module id) false)

/-- MODULE_WRITE: 1 to 8 bytes; while the tree is enabled, lower-page bytes 26 to 31 of any module and page 10h of a managed one are refused with
NO_RIGHT (R70). -/
def execModuleWrite (mb : Fin 16) (tree page bank offset : Nat) (data : List Byte) (s : State) : Res :=
  hostCmd s mb 0x0321 fun _ s =>
    if 32 ≤ tree || 256 ≤ page || 256 ≤ bank || 256 ≤ offset || data.isEmpty || 8 < data.length || 256 < offset + data.length then fail s .badArg
    else if treeEnabled s tree && protectedBytes (s.optic tree).managed page offset data.length then fail s .noRight
    else if (s.optic tree).holdoff then fail s .faulted
    else
      let id := s.lanes.nextTxn
      (({ s with lanes.nextTxn := id + 1 }).queueTxn (.write id tree page bank offset data), .wait (.module id) true)

/-- RSSI_MEASURE: one terminal's power measured out of turn by R62; it needs a terminal in OPERATION on a channel with a location. Log entry 25 (DESIGN CHOICE). -/
def execRssiMeasure (mb : Fin 16) (term : Nat) (s : State) : Res :=
  hostCmd s mb 0x0330 fun _ s =>
    if 8192 ≤ term then fail s .badArg
    else
      let v := s.term term
      if v.state = .free then fail s .noObject
      else if !rssiTarget s v then fail s .busy
      else
        let o := s.optic (v.chan / 2)
        (s.setOptic (v.chan / 2) { o with asked := o.asked ++ [term] }, .wait (.rssi term) false)

/-- RSSI_ROUND_START: a round over the tree's terminals, or due when the previous one finishes (R62). -/
def execRssiRoundStart (tree : Fin 32) (s : State) : Res :=
  .next <|
    (s.setOptic tree { s.optic tree with roundDue := true }).nextRound tree

/-- RSSI_WINDOW: a burst of a terminal still to be measured, whose payload extends `payloadNs` beyond its preamble start, is chosen when that
is at least RSSI_LEAD + RSSI_WIDTH + 20 ns; the lane block drives TREEn_RSSI, but while it is held low (R65). -/
def execRssiWindow (term : Fin 8192) (payloadNs : Nat) (s : State) : Res :=
  .next <|
    let t := (s.term term).chan / 2
    let o := s.optic t
    let lead := s.getN .RSSI_LEAD t
    let width := s.getN .RSSI_WIDTH t
    if o.rssi.isNone && (o.round.contains term.val || o.asked.contains term.val) && rssiTarget s (s.term term) && lead + width + 20 ≤ payloadNs
        && !pulsesHeld s t then
      (s.setOptic t { o with rssi := some ⟨term, true⟩, round := o.round.filter (· != term.val) }).emit (.rssi t lead width)
    else s

/-- RSSI_SETTLE_EXPIRY: C.11 reads the module's power value. -/
def execRssiSettleExpiry (tree : Fin 32) (s : State) : Res :=
  .next <|
    let o := s.optic tree
    match o.rssi with
    | some r =>
      if r.settling then
        let s := s.setOptic tree { o with rssi := some { r with settling := false } }
        if o.holdoff then s.endRssi tree r.term none else s.queueTxn (.rssi tree r.term)
      else s
    | none => s

end Sys2Proof.Machine
end

