-- ==== Sys2Proof/Machine/Terms.lean ====
section
/-! DEFINITION. Terminals and GEM indexes: provisioning, deactivation and the commands of Table 5.8 (R121 to R128, R148). -/
namespace Sys2Proof.Machine

/-! ### Finding terminals -/

/-- Terminals provisioned on a channel, in index order. -/
def termsOf (s : State) (c : Nat) (p : Terminal → Bool) : List Nat :=
  s.terms.keys (fun _ v => v.state != .free && v.chan == c && p v)

/-- The terminal that holds a serial number. -/
def findSerial (s : State) (serial : Nat) : Option Nat :=
  (s.terms.keys (fun _ v => v.state != .free && v.serial == serial)).head?

/-- In service: OPERATION or LOST. -/
def inService (v : Terminal) : Bool := v.state == .operation || v.state == .lost

/-- In SN_ACQUIRED, RANGING, OPERATION or LOST. -/
def isActive (v : Terminal) : Bool := inService v || v.state == .snAcquired || v.state == .ranging

/-- ONU-IDs in use on a channel by another terminal, asked for at creation or assigned. -/
def onuTaken (s : State) (c onu self : Nat) : Bool :=
  (termsOf s c (fun v => v.onu == some onu || v.wantOnu == some onu)).any (· != self)

/-- A GEM index bound to a Port-ID on a channel. -/
def gemOfPort (s : State) (c port : Nat) : Option Nat := (s.pon.gems.keys (fun _ e => e.valid && e.chan == c && e.port == port)).head?

/-- The ONU-ID a terminal is assigned: its own, or the lowest free one whose Port-ID no GEM index holds on the channel, since its OMCI port takes it
(R121, R125); none while it is held (R127). Log entry 260 (DEDUCED). -/
def pickOnu (s : State) (t : Nat) : Option Nat :=
  let v := s.term t
  let held := (s.chan v.chan).onuHeld
  match v.wantOnu with
  | some o => if held.contains o then none else some o
  | none => (List.range 1023).find? (fun o => !held.contains o && !onuTaken s v.chan o t && (gemOfPort s v.chan o).isNone)

/-! ### What a terminal leaves behind -/

/-- Demand, stamps and history of an allocation cleared (R178). -/
def clearDemand (a : Alloc) : Alloc := { a with demand := 0, stamps := [], history := [], report := none, lastGrant := none, withheldA := 0, withheldB := 0 }

/-- Demands of every allocation of a terminal cleared. -/
def State.clearDemands (s : State) (t : Nat) : State :=
  (s.dba.allocs.keys (fun _ a => a.valid && a.term == t)).foldl (fun s n => s.setAlloc n (clearDemand (s.alloc n))) s

/-- An allocation at deactivation: ledger and fixed accumulator are 0 too (R198); the default one keeps its place, not VALID (R127). -/
def State.releaseAlloc (s : State) (keep : Nat) (n : Nat) : State :=
  let a := { clearDemand (s.alloc n) with ledger := 0, acc := 0, resetLedger := false, copied := 0 }
  if n = keep then s.putAlloc n { a with valid := false }
  else s.putAlloc n { a with valid := false, allocId := 0, dflt := false, term := 0 }

/-- An open SDU of a GEM port discarded, with the rest of it still to come (R166). -/
def State.dropReasm (s : State) (g : Nat) : State :=
  match s.pon.reasm.get g with
  | none => s
  | some r =>
    if r.dead then s
    else
      let c := (s.gem g).chan
      ({ s with pon.reasm := s.pon.reasm.set g (some { r with dead := true, len := 0, bytes := [] }) }).bumpF .US_GEM_DISCARDS c 7 0

/-- An integration window opened now, for SF or SD, with the parameters of its channel in force from here (R168, R170). -/
def openWindow (s : State) (c : Nat) (sf : Bool) : BerWindow :=
  { opened := s.up, rule := some (s.getN (if sf then .BER_SF_EXP else .BER_SD_EXP) c, s.getN .BER_WIN_FACTOR c, s.getN .BER_WIN_MAX c,
      s.getN .BER_CLEAR_RATIO c) }

/-- Both windows of a terminal reset and its declared defects cleared, with no event (R169). -/
def State.resetLine (s : State) (t : Nat) : State :=
  let c := (s.term t).chan
  let l := { s.pon.line.get t with sd := openWindow s c false, sf := openWindow s c true, sdOn := false, sfOn := false }
  ({ s with pon.line := s.pon.line.set t l }).setRo .US_DEFECT_STATE t 0

/-- A GEM index unbound (R124, R127): its queued and partly sent SDUs dropped, its open SDU discarded, its learned addresses flushed. -/
def State.unbindGem (s : State) (g : Nat) (keep : Bool) : State :=
  let e := s.gem g
  let s := ((s.dropSdus e.chan (fun x => x.gem == g)).dropGem g).dropReasm g
  let s := s.flushGem g
  let s := { s with pon.reasm := s.pon.reasm.set g none }
  let d := (s.gem g).dropped
  s.putGem g (if keep then { e with valid := false, dropped := d } else { chan := e.chan, dropped := d })

/-- Everything bound to a terminal released (R127, R80, R169, R198). Log entry 49 (DESIGN CHOICE). -/
def State.releaseTerm (s : State) (t : Nat) : State :=
  let v := s.term t
  let s := (s.dba.allocs.keys (fun _ a => a.valid && a.term == t)).foldl (fun s n => s.releaseAlloc v.defAlloc n) s
  let s := (s.pon.gems.keys (fun _ e => e.valid && !e.mcast && e.term == t)).foldl (fun s g => s.unbindGem g (g == v.omciGem)) s
  let s := s.resetLine t
  let s := s.abandonSwitch (termPair t)
  s.clearBm t

/-- Procedures in hand on a terminal given up. -/
def idleTerm (v : Terminal) : Terminal :=
  { v with deact := none, result := none, update := none, driftRun := 0, missRun := 0, attempts := 0, centred := false,
           readmit := none, exchange := none, askPloamu := false, popupDue := false }

/-- The terminal's other messages leave their queues (R99). -/
def State.dropPloam (s : State) (t : Nat) : State := s.filterPloam (s.term t).chan (fun m => m.term != some t)

/-- Windows asked for a terminal's ranging withdrawn. -/
def State.dropWindows (s : State) (t : Nat) : State :=
  let c := (s.term t).chan
  let v := s.chan c
  s.setChan c { v with maps.requests := v.maps.requests.filter (fun r => r.kind != .ranging t) }

/-- Lanes of a dark channel sleep again once no activation is in hand on it (R84). -/
def State.endAwake (s : State) (c : Nat) : State :=
  if s.lanes.keepAwake.get c && (termsOf s c (fun v => v.state == .snAcquired || v.state == .ranging)).isEmpty then
    let s := { s with lanes.keepAwake := s.lanes.keepAwake.set c false }
    if s.power.dark.get c && !s.lanes.wakeRun.get c then (s.sleepLane (txLane c)).sleepLane (rxLane c) else s
  else s

/-- A terminal leaves the lists of an investigation: nothing more is done to it there. -/
def State.forgetRogue (s : State) (c t : Nat) : State :=
  let r := s.rogue c
  s.setRogue c { r with disabled := r.disabled.filter (· != t), candidates := r.candidates.filter (· != t) }

/-- An index is free again, with its record to the peer. -/
def State.freeTerm (s : State) (t : Nat) : State :=
  let c := (s.term t).chan
  ((s.putTerm t { chan := c }).setTerm t {}).forgetRogue c t

/-- Codes of Table 5.3. -/
def termCode : TermState → Nat
  | .absent => 0 | .snAcquired => 1 | .ranging => 2 | .operation => 3 | .lost => 4 | .disabled => 5 | .free => 0

/-- The fields of Table 5.4. Log entry 279 (DESIGN CHOICE). -/
def termFields (v : Terminal) : List Int :=
  [termCode v.state, v.chan / 2, v.chan % 2, v.serial, v.onu.getD 0x3FF, v.rate, b2n v.profileShort, v.eqdBits, v.eqdPs, v.measRt, v.respTime,
   (leNat v.regId : Nat), v.reason, b2n v.dyingGasp]

/-- A deactivation ends (R127): the terminal is ABSENT, or gone when TERM_DELETE waits for it; its ONU-ID is held, and reasons 2 to 4 raise
TERM_DEACTIVATED. Log entry 53 (DESIGN CHOICE). -/
def State.finishDeact (s : State) (t : Nat) : State :=
  let v := s.term t
  let c := v.chan
  let reason := v.deact.getD v.reason
  let s := s.releaseTerm t
  let s := match v.onu with
    | some o => s.setChan c { s.chan c with onuHeld := (s.chan c).onuHeld ++ [o] }
    | none => s
  let s := (s.putTerm t { idleTerm v with state := .absent, onu := none, reason := reason, profileShort := false }).dropRssi t
  let s := if reason = 2 || reason = 3 || reason = 4 then
      s.raise .TERM_DEACTIVATED (srcChan c 8) (regionOfChan c) (evData [(13, t)] reason) else s
  let s := if v.deleting then s.freeTerm t else s
  (s.endAwake c).respondAll (.termGone t) .ok 0 (termFields (s.term t))

/-- A deactivation begins (R127): three Deactivate_ONU-ID in consecutive frames, then its end; on a channel that takes no messages it ends at
once (R117). -/
def State.deactivate (s : State) (t reason : Nat) : State :=
  let v := s.term t
  if v.deact.isSome || !isActive v then s
  else
    let s := ((s.dropPloam t).dropWindows t).abandonSwitch (termPair t)
    let s := s.setTerm t { v with deact := some reason, update := none, result := none, exchange := none }
    if takesPloam s v.chan then s.queuePloam v.chan true { kind := .deactivate 1, term := some t } else s.finishDeact t

/-- TERM_DISABLE's effect on the state: DISABLED with reason 5, everything bound to the terminal released. Log entry 51 (DESIGN CHOICE). -/
def State.disableTerm (s : State) (t : Nat) : State :=
  let v := s.term t
  let s := (s.dropPloam t).dropWindows t
  let s := s.releaseTerm t
  let s := match v.onu with
    | some o => s.setChan v.chan { s.chan v.chan with onuHeld := (s.chan v.chan).onuHeld ++ [o] }
    | none => s
  let s := (s.putTerm t { idleTerm v with state := .disabled, onu := none, reason := 5, profileShort := false }).dropRssi t
  let r := s.rogue v.chan
  (s.setRogue v.chan { r with disabled := r.disabled.filter (· != t) }).endAwake v.chan

/-! ### Windows asked for (R134, R141) -/

/-- A window request joins its channel (R208). -/
def State.askWindow (s : State) (c : Nat) (r : WinReq) : State :=
  s.setChan c { s.chan c with maps.requests := (s.chan c).maps.requests ++ [r] }

/-- The ranging window of a terminal (R134), or the one centred on its expected arrival (R141). -/
def State.askRanging (s : State) (t firstFrame : Nat) : State :=
  let v := s.term t
  let r : WinReq :=
    if v.centred then
      let w : Int := (s.get .DRIFT_TIW v.chan + 9) / 10 + 1000
      ⟨.ranging t, v.rate, teqdNs s v.chan - w, teqdNs s v.chan + w, firstFrame, false⟩
    else ⟨.ranging t, v.rate, (v.answer : Int) - 49000, (v.answer : Int) + 3000, firstFrame, false⟩
  s.askWindow v.chan r

/-- A terminal is ranged again around its expected arrival (R141). -/
def State.rerange (s : State) (t : Nat) : State :=
  let v := s.term t
  let s := s.filterPloam v.chan (fun m => match m.kind with
    | .rangingTime _ => m.term != some t
    | _ => true)
  let s := s.putTerm t { v with state := .ranging, centred := true, attempts := 0, update := none, result := none, driftRun := 0,
                                maxAttempts := s.getN .RANGE_ATTEMPTS v.chan }
  (s.dropRssi t).askRanging t (s.pon.tl.sfc + 1)

/-! ### Commands -/

/-- Is an upstream rate code one of a channel's (Table 3.5)? -/
def rateOfChan (c rate : Nat) : Bool := if c % 2 = 0 then 2 ≤ rate && rate ≤ 4 else rate ≤ 1

/-- A region's objects counted by tree channel (R13). -/
def regionTerms (s : State) (r : Nat) : Nat := (s.terms.keys (fun _ v => v.state != .free && v.chan / 8 == r)).length
def treeTerms (s : State) (t : Nat) : Nat := (s.terms.keys (fun _ v => v.state != .free && v.chan / 2 == t)).length

/-- Allocation and GEM indexes of a region: those mapped, and the two of each terminal, bound or still to be bound (R13, R125). -/
def regionAllocs (s : State) (r : Nat) : Nat := (s.dba.allocs.keys (fun _ a => a.valid && !a.dflt && a.chan / 8 == r)).length + regionTerms s r
def regionGems (s : State) (r : Nat) : Nat := (s.pon.gems.keys (fun _ e => e.valid && !e.omci && e.chan / 8 == r)).length + regionTerms s r

/-- The lowest burst memory entry of a region's Tn.12 that no terminal has. Log entry 248 (DESIGN CHOICE). -/
def freeEntry (s : State) (r : Nat) : Nat :=
  let used := (s.terms.keys (fun _ v => v.state != .free && v.chan / 8 == r)).map (fun t => (s.term t).entry)
  ((List.range 2048).find? (fun n => !used.contains n)).getD 0

/-- TERM_CREATE: a terminal provisioned on a tree channel with its serial number, ONU-ID, default allocation index and OMCI GEM index. Log entry 54 (DESIGN CHOICE). -/
def execTermCreate (mb : Fin 16) (term c serial onu alloc gem : Nat) (s : State) : Res :=
  hostCmd s mb 0x0501 fun _ s =>
    if 8192 ≤ term || 64 ≤ c || 32768 ≤ alloc || 131072 ≤ gem || 2 ^ 64 ≤ serial || (1022 < onu && onu != 0xFFFF) then fail s .badArg
    else if (s.term term).state != .free || (findSerial s serial).isSome || (onu != 0xFFFF && (onuTaken s c onu term || (gemOfPort s c onu).isSome))
        || (s.alloc alloc).valid || (s.gem gem).valid
        || !(s.terms.keys (fun _ v => v.state != .free && (v.defAlloc == alloc || v.omciGem == gem))).isEmpty then
      fail s .alreadyExists
    else if 512 ≤ treeTerms s (c / 2) || 2048 ≤ regionTerms s (c / 8) || 8192 ≤ regionAllocs s (c / 8) || 32768 ≤ regionGems s (c / 8) then fail s .noSpace
    else
      let v : Terminal := { state := .absent, chan := c, serial := serial, wantOnu := if onu = 0xFFFF then none else some onu,
                            defAlloc := alloc, omciGem := gem, entry := freeEntry s (c / 8) }
      okay (s.putTerm term v) (termFields v)

/-- Objects other than its two creation maps that a terminal has mapped (R125). -/
def otherMaps (s : State) (t : Nat) : Bool :=
  let v := s.term t
  !(s.dba.allocs.keys (fun n a => a.valid && a.term == t && n != v.defAlloc)).isEmpty
    || !(s.pon.gems.keys (fun n e => e.valid && !e.mcast && e.term == t && n != v.omciGem)).isEmpty

/-- The common start of a command that changes a terminal: it exists, and no step is in progress on it (R148). -/
def onTerm (s : State) (t : Nat) (f : State → State × Reply) : State × Reply :=
  if 8192 ≤ t then fail s .badArg
  else if (s.term t).state = .free then fail s .noObject
  else if stepping s t then (s, .hold (.termStep t))
  else f s

/-- TERM_DELETE: deactivated if active, its creation maps unbound, and the index freed. -/
def execTermDelete (mb : Fin 16) (term : Nat) (s : State) : Res :=
  hostCmd s mb 0x0502 fun _ s => onTerm s term fun s =>
    if otherMaps s term then fail s .busy
    else if isActive (s.term term) then
      let s := (s.setTerm term { s.term term with deleting := true }).deactivate term 1
      if (s.term term).state = .free then okay s (termFields (s.term term)) else (s, .wait (.termGone term) true)
    else
      okay (((s.dropPloam term).releaseTerm term).freeTerm term) (termFields {})

/-- TERM_DEACTIVATE: reason 1; the terminal may be rediscovered. -/
def execTermDeactivate (mb : Fin 16) (term : Nat) (s : State) : Res :=
  hostCmd s mb 0x0503 fun _ s => onTerm s term fun s =>
    if isActive (s.term term) then
      let s := s.deactivate term 1
      if (s.term term).deact.isSome then (s, .wait (.termGone term) true) else okay s (termFields (s.term term))
    else okay s (termFields (s.term term))

/-- TERM_DISABLE: Disable_Serial_Number (disable), state DISABLED; the response follows the message, or comes at once where none is sent. -/
def execTermDisable (mb : Fin 16) (term : Nat) (s : State) : Res :=
  hostCmd s mb 0x0504 fun _ s => onTerm s term fun s =>
    if (s.term term).state = .disabled && !(s.rogue (s.term term).chan).disabled.contains term then okay s (termFields (s.term term))
    else
      let c := (s.term term).chan
      let s := (s.disableTerm term).queuePloam c true { kind := .disableSn false, term := some term }
      if takesPloam s c then (s, .wait (.ploamSent term) true) else okay s (termFields (s.term term))

/-- TERM_ENABLE: Disable_Serial_Number (enable), state ABSENT. Log entry 52 (DESIGN CHOICE). -/
def execTermEnable (mb : Fin 16) (term : Nat) (s : State) : Res :=
  hostCmd s mb 0x0505 fun _ s => onTerm s term fun s =>
    if (s.term term).state != .disabled then okay s (termFields (s.term term))
    else
      let c := (s.term term).chan
      let s := (s.putTerm term { s.term term with state := .absent }).queuePloam c true { kind := .disableSn true, term := some term }
      let s := s.setRogue c { s.rogue c with disabled := (s.rogue c).disabled.filter (· != term) }
      if takesPloam s c then (s, .wait (.ploamSent term) true) else okay s (termFields (s.term term))

/-- TERM_READ: the object of Table 5.4, latched together. -/
def execTermRead (mb : Fin 16) (term : Nat) (s : State) : Res :=
  hostCmd s mb 0x0506 fun _ s =>
    if 8192 ≤ term then fail s .badArg
    else if (s.term term).state = .free then fail s .noObject
    else okay s (termFields (s.term term))

/-- COMMAND_STEP_WAIT_TIMEOUT: 50 ms behind a procedure step a command fails with BUSY (R148). -/
def execCommandStepWaitTimeout (mb : Fin 16) (s : State) : Res :=
  .next <|
    match (s.mbox mb).cmd with
    | some c => match c.wait with
      | some (.termStep _) => if c.started then s else s.respond mb .busy 0 []
      | _ => s
    | none => s

/-! ### GEM indexes (R123, R124) -/

/-- What GEM_MAP refuses of an entry by R121 and R123; `v` is the terminal it names. -/
def gemCheck (e : GemEntry) (v : Terminal) : Option Status :=
  if 64 ≤ e.chan || 65534 < e.port || e.cipher = 3 || e.dir = 0 || 3 < e.dir || 3 < e.cipher then some .badArg
  else if e.mcast && (e.dir != 1 || e.cipher == 1 || e.omci) then some .badArg
  else if e.mcast then none
  else if 8192 ≤ e.term then some .badArg
  else if v.state = .free then some .noObject
  else if v.chan != e.chan then some .badArg
  else if e.omci && v.onu != some e.port then some .badArg
  else none

/-- Terminals that hold a GEM index as their OMCI one. -/
def omciOfSome (s : State) (gem : Nat) : Bool := !(s.terms.keys (fun _ v => v.state != .free && v.omciGem == gem)).isEmpty

/-- The entry of Table 5.2. -/
def gemWords (g : Nat) (e : GemEntry) : List Int :=
  [(b2n e.valid * 2 ^ 31 + e.chan % 2 * 2 ^ 30 + e.chan / 2 % 4 * 2 ^ 28 + e.cipher * 2 ^ 26 + e.dir * 2 ^ 24 + b2n e.omci * 2 ^ 23 + b2n e.mcast * 2 ^ 22
      + e.port : Nat), (g * 2 ^ 15 + (if e.mcast then 0 else e.term) : Nat)]

/-- GEM_UNMAP: the index unbound, its SDUs dropped and counted; the OMCI one of a terminal stays while the terminal exists (R124). -/
def execGemUnmap (mb : Fin 16) (gem : Nat) (s : State) : Res :=
  hostCmd s mb 0x0513 fun _ s =>
    if 131072 ≤ gem then fail s .badArg
    else if omciOfSome s gem then fail s .busy
    else if !(s.gem gem).valid then fail s .noObject
    else if !(s.gem gem).mcast && stepping s (s.gem gem).term then (s, .hold (.termStep (s.gem gem).term))
    else
      let s := s.unbindGem gem false
      okay s (gemWords gem (s.gem gem) ++ [((s.gem gem).dropped : Int)])

/-- SN_LIST_READ: a channel's unknown serial numbers, returned and cleared. -/
def execSnListRead (mb : Fin 16) (c : Nat) (s : State) : Res :=
  hostCmd s mb 0x0520 fun _ s =>
    if 64 ≤ c then fail s .badArg
    else
      let l := (s.chan c).unknown
      okay (s.setChan c { s.chan c with unknown := [] }) (l.map Int.ofNat)

end Sys2Proof.Machine
end

