-- ==== Sys2Proof/Machine/Commit.lean ====
section
/-! DEFINITION. Upstream time as the solver charges it, and a channel's committed time (R174, R184, R186). -/
namespace Sys2Proof.Machine

/-! ### Cost of a grant (R186) -/

/-- The unit of upstream time: a ten-thousandth of a bit time at 49.7664 Gb/s, so that 1 ns is 497,664 units and every byte time is whole. -/
def nsCost : Nat := 497664

/-- A byte at a rate. -/
def byteCost (rate : Nat) : Nat := 1600000 / rateMult rate

/-- Profile overhead: 40 ns short, 256 ns default (Table 3.4). -/
def overheadCost (short : Bool) : Nat := (if short then 40 else 256) * nsCost

/-- Information and parity bytes of a codeword (Table 6.1). -/
def infoBytes (rate : Nat) : Nat := if rate = 0 then 232 else if rate = 1 then 216 else 1824
def parityBytes (rate : Nat) : Nat := if rate = 0 then 16 else if rate = 1 then 32 else 336

/-- Bytes of a burst with its parity. -/
def codedBytes (rate info : Nat) : Nat := info + ceilDiv info (infoBytes rate) * parityBytes rate

/-- A burst of `info` information bytes. -/
def burstCost (rate : Nat) (short : Bool) (info : Nat) : Nat := overheadCost short + codedBytes rate info * byteCost rate

/-! ### Committed time (R174) -/

/-- Rates a channel offers, ascending (R130). -/
def discRates (s : State) (c : Nat) : List Nat := (List.range 5).filter (fun r => (s.getN .DISC_RATES c).testBit r && rateOfChan c r)

/-- Split count (R184, R185). -/
def splitCount (s : State) (c : Nat) (k : Contract) : Nat :=
  if s.getN .DBA_SPLIT_EN c = 0 || k.lat = 0 || 4 ≤ k.lat then 1 else ceilDiv 4 k.lat

/-- The contract an allocation holds or is about to hold (R173). -/
def contractDue (a : Alloc) : Contract := a.nextContract.getD a.contract

/-- Rate that committed time is counted at: the terminal's, or before it is in service the lowest of the channel's DISC_RATES (R174). -/
def commitRate (s : State) (a : Alloc) : Nat :=
  let v := s.term a.term
  if inService v then v.rate else (discRates s a.chan).headD v.rate

/-- Cost of a contract's fixed, assured and pre-announced bytes in its bursts on the default profile (R174); the bytes are counted exactly, in 1/64
byte, in equal parts. Log entry 76 (DEDUCED). -/
def commitCost (s : State) (c : Nat) (k : Contract) (rate : Nat) : Nat :=
  let n := splitCount s c k
  let b := k.rf + k.ra + 64 * k.preann
  let codewords := ceilDiv (768 * n + b) (64 * n * infoBytes rate)
  n * overheadCost false + n * (12 + codewords * parityBytes rate) * byteCost rate + b * (byteCost rate / 64)

/-- Committed time of a channel, with the contract of one allocation replaced (R174). -/
def committed (s : State) (c : Nat) (other : Option (Nat × Contract)) : Nat :=
  (s.dba.allocs.keys (fun _ a => a.valid && a.chan == c)).foldl (fun t n =>
    let a := s.alloc n
    let k := match other with
      | some (m, k) => if m = n then k else contractDue a
      | none => contractDue a
    t + commitCost s c k (commitRate s a)) 0

/-- Beyond DBA_ADMIT_PCT of 125 µs. -/
def overAdmit (s : State) (c : Nat) (other : Option (Nat × Contract)) : Bool :=
  decide (s.getN .DBA_ADMIT_PCT c * 1250 * nsCost < committed s c other)

/-- DBA_OVERCOMMIT (R174, R187, R188, R197, R216). -/
def State.overcommit (s : State) (c cause : Nat) : State :=
  s.raise .DBA_OVERCOMMIT (srcChan c 14) (regionOfChan c) (evData [(6, c)] cause)

/-- DBA_OVERCOMMIT cause 1 where a binding or a change of the rate counted has taken a channel beyond its limit (R174). -/
def State.checkCommitted (s before : State) (c : Nat) : State :=
  if overAdmit s c none && !overAdmit before c none then s.overcommit c 1 else s

end Sys2Proof.Machine
end

