-- ==== Sys2Proof/Machine/Hunt.lean ====
section
/-! DEFINITION. The delimiter hunt (R151 to R156). -/
namespace Sys2Proof.Machine

/-- Half-width of the hunt window in bits: ceil((DRIFT_TIW + 1 ns) × rate) (R151). -/
def huntWidth (s : State) (c rate : Nat) : Int := ceilDiv ((s.getN .DRIFT_TIW c * 100 + 1000) * rateMult rate * 248832) 100000000

/-- Scheduled delimiter starts of a terminal, in bits from the old one: the new one too while an update is in progress (R142, R151). -/
def scheduledStarts (v : Terminal) : List Int :=
  match v.update with
  | none => [0]
  | some u => [0, -u.delta]

/-- Candidates that the hunt accepts: few enough mismatches, inside the window of a scheduled start. -/
def accepted (s : State) (v : Terminal) (k : Candidate) : Bool :=
  decide (k.mismatch ≤ s.getN .HUNT_ERR_MAX v.chan) &&
    (scheduledStarts v).any (fun p => decide ((k.pos - p).natAbs ≤ huntWidth s v.chan v.rate))

/-- The candidate with the most mismatched bits, the latest of those tied. -/
def worst : List Candidate → Option Candidate
  | [] => none
  | k :: l => match worst l with
    | none => some k
    | some w => if w.mismatch < k.mismatch then some k else some w

/-- A hunt's outcome: the delimiter, candidates whose check failed, those that failed by ONU-ID only, and candidates discarded as fifth. -/
structure HuntOut where
  found : Option Candidate := none
  falses : Nat := 0
  onu : Nat := 0
  discards : Nat := 0
  deriving DecidableEq, Repr, Inhabited

/-- A candidate's check resolved: its header must name the ONU-ID expected (R152). Failing, it is released and counted. -/
def resolveOne (onu : Nat) (o : HuntOut) (k : Candidate) : HuntOut :=
  if o.found.isSome then o
  else if k.header == some onu then { o with found := some k }
  else { o with falses := o.falses + 1, onu := o.onu + b2n k.header.isSome }

/-- The hunt over candidates in bit order, with those unresolved: a check ends 32 bits after its pattern, so candidates less than 32 bits apart
are unresolved together; a fifth discards the worst (R152 to R154). Log entry 62 (DEDUCED). -/
def huntFrom (onu : Nat) : HuntOut → List Candidate → List Candidate → HuntOut
  | o, open_, [] => open_.foldl (resolveOne onu) o
  | o, open_, k :: l =>
    let o := (open_.filter (fun x => decide (32 ≤ k.pos - x.pos))).foldl (resolveOne onu) o
    if o.found.isSome then o
    else
      let open_ := open_.filter (fun x => decide (k.pos - x.pos < 32)) ++ [k]
      if open_.length ≤ 4 then huntFrom onu o open_ l
      else huntFrom onu { o with discards := o.discards + 1 } (match worst open_ with
        | none => open_
        | some w => open_.erase w) l

/-- Broadcast ONU-ID (R121). -/
def onuAll : Nat := 1023

/-- The hunt for a granted burst of a terminal: the header is to name its ONU-ID. -/
def hunt (s : State) (v : Terminal) (l : List Candidate) : HuntOut := huntFrom (v.onu.getD onuAll) {} [] (l.filter (accepted s v))

/-- Bits that a time in ns takes at a rate. -/
def bitsOf (rate : Nat) (ns : Int) : Int := ns * (rateMult rate * 248832 : Nat) / 100000

/-- The hunt over the whole reserved interval of a window, from whose start positions count (R151). -/
def huntInterval (s : State) (c onu : Nat) (w : Window) (l : List Candidate) : HuntOut :=
  huntFrom onu {} [] (l.filter (fun k => decide (k.mismatch ≤ s.getN .HUNT_ERR_MAX c) && decide (0 ≤ k.pos) && decide (k.pos ≤ bitsOf w.rate (w.to_ - w.from_))))

/-- Now, in ns on the frame timeline. -/
def frameNow (s : State) : Int := s.pon.tl.sfc * 125000 + (s.up - s.pon.tl.startAt : Nat)

/-- The window of a kind whose reserved interval began last on a channel. Log entry 259 (DEDUCED). -/
def begunWindow (s : State) (c : Nat) (k : WinKind) : Option Window :=
  (((s.chan c).maps.calendar.filter (fun w => w.kind == k && decide (w.from_ ≤ frameNow s))).orderBy (fun a b => decide (b.from_ ≤ a.from_))).head?

/-- The holder of a burst is bound and not deactivated; else the burst is received and discarded (R217). -/
def burstHeld (v : Terminal) : Bool := v.state == .operation || v.state == .lost || v.state == .ranging

/-- A rogue probe's window runs on a channel now. -/
def inProbe (s : State) (c : Nat) : Bool :=
  (s.chan c).maps.calendar.any (fun w => w.kind == .quiet && decide (w.from_ ≤ frameNow s) && decide (frameNow s ≤ w.to_))

/-- What a hunt counts on its tree channel. -/
def State.huntCounts (s : State) (c : Nat) (o : HuntOut) : State :=
  let s := s.bumpF .US_DELIM_STATS c 15 0 o.falses
  let s := s.bump .HEADER_ONU_MISMATCH c o.onu
  (List.range o.discards).foldl (fun s _ =>
    s.raiseSec .DELIM_CAND_OVERFLOW (rxLane c) (srcChan c 12) (regionOfChan c) (fun n => evData [(7, rxLane c)] n)) s

end Sys2Proof.Machine
end

