-- ==== Sys2Proof/Machine/Activation.lean ====
section
/-! DEFINITION. Discovery, acquisition, ranging, drift tracking and loss of burst (R129 to R143), and what the transmission of a PLOAM
message completes (R148). -/
namespace Sys2Proof.Machine

/-! ### Discovery windows (R129 to R131) -/

/-- Offsets of a discovery interval from its StartTime in ns, each end rounded outward to the whole µs (R129). -/
def discFrom (s : State) (c : Nat) : Int := (2 * s.getN .DISC_MIN_KM c * 4897 + 34000) / 1000 * 1000
def discTo (s : State) (c : Nat) : Int := ceilDiv (2 * s.getN .DISC_MAX_KM c * 4897 + 86000) 1000 * 1000

/-- The rate after `last` in the cycle. -/
def nextRate (l : List Nat) (last : Option Nat) : Option Nat :=
  match last with
  | none => l.head?
  | some k => (l.find? (fun r => decide (k < r))) <|> l.head?

/-- Terminals of a channel in SN_ACQUIRED or RANGING. -/
def rangingCount (s : State) (c : Nat) : Nat := (termsOf s c (fun v => v.state == .snAcquired || v.state == .ranging)).length

/-- May an ordinary discovery window open (R131)? -/
def mayDiscover (s : State) (c : Nat) : Bool :=
  (s.chan c).enabled && runs s (c / 2) && (s.rogue c).phase < 2 && rangingCount s c < s.getN .RANGE_PARALLEL c

/-- A discovery window of the next rate asked for on a channel. -/
def State.askDiscovery (s : State) (c : Nat) : State :=
  match nextRate (discRates s c) (s.chan c).lastDisc with
  | none => s
  | some r =>
    let s := s.setChan c { s.chan c with lastDisc := some r }
    s.askWindow c ⟨.discovery, r, discFrom s c, discTo s c, 0, false⟩

/-- A discovery window restricted to re-admitted serial numbers, at the rate of the first of them (R147). -/
def State.askReadmission (s : State) (c : Nat) : State :=
  match termsOf s c (fun v => v.readmit.isSome) with
  | [] => s
  | t :: _ => s.askWindow c ⟨.discovery, (s.term t).rate, discFrom s c, discTo s c, 0, true⟩

/-- A re-admitted terminal that has not answered within 4 windows is left ABSENT for ordinary discovery (R147). Log entry 57 (DESIGN CHOICE). -/
def State.countReadmission (s : State) (t : Nat) : State :=
  let v := s.term t
  match v.readmit with
  | some (n + 1) => s.setTerm t { v with readmit := some n }
  | some 0 =>
    let s := match v.onu with
      | some o => s.setChan v.chan { s.chan v.chan with onuHeld := (s.chan v.chan).onuHeld ++ [o] }
      | none => s
    (s.releaseTerm t).putTerm t { idleTerm v with state := .absent, onu := none }
  | none => s

/-- One channel's part of a discovery window falling due. -/
def State.discoveryDue (s : State) (c : Nat) : State :=
  let s := if mayDiscover s c then s.askDiscovery c else s
  let l := termsOf s c (fun v => v.readmit.isSome)
  if l.isEmpty || !(s.chan c).enabled then s
  else
    let s := l.foldl State.countReadmission s
    s.askReadmission c

/-- DISCOVERY_WINDOW_DUE: every DISC_PERIOD a tree's discovery windows fall due on both its channels, each asked for or skipped. -/
def execDiscoveryWindowDue (tree : Fin 32) (s : State) : Res := .next ((s.discoveryDue (2 * tree.val)).discoveryDue (2 * tree.val + 1))

/-- The profile set of each enabled rate of a channel, index 0 default and 1 short (R131). -/
def profileSet (s : State) (c : Nat) : List PloamMsg :=
  ((discRates s c).map (fun r => [{ kind := .profile 0 r, term := none }, { kind := .profile 1 r, term := none }])).flatten

/-- PROFILE_BROADCAST: the profile set in the normal queue (R131). -/
def State.broadcastProfiles (s : State) (c : Nat) : State := (profileSet s c).foldl (fun s m => s.queuePloam c false m) s

def execProfileBroadcast (c : Fin 64) (s : State) : Res :=
  .next (if (s.chan c).enabled && runs s (c.val / 2) then s.broadcastProfiles c else s)

/-! ### Rates (R133, R139) -/

/-- A change of RATE without ranging (R139): PHASE_REF and MEAS_RT are rescaled and EQD_BITS recomputed from EQD_PS; the entry returns to seed (R80). -/
def State.changeRate (s : State) (t rate : Nat) : State :=
  let v := s.term t
  if v.rate = rate then s
  else
    let e := s.bm t
    let ref := (Frac.of (e.phaseRef * rateMult rate) (rateMult v.rate)).round
    let s := s.writeBm t { toSeed e with rate := rate, phaseRef := ref }
    let s := s.resetLine t
    let rt := (Frac.of (v.measRt * rateMult rate) (rateMult v.rate)).round.toNat
    (s.setTerm t { v with rate := rate, eqdBits := ((ui64 rate v.eqdPs).div (Frac.of 64)).round, measRt := rt }).mirrorTerm t

/-- TERM_RERANGE: ranged again in place, or deactivated with reason 6 and admitted at a target rate only (R133); a terminal shut out by
RANGE_OUT may be tried again (R137). Log entry 55 (DESIGN CHOICE). -/
def execTermRerange (mb : Fin 16) (term : Nat) (rate : Option Nat) (s : State) : Res :=
  hostCmd s mb 0x0507 fun _ s => onTerm s term fun s =>
    let s := s.setTerm term { s.term term with blocked := false }
    let v := s.term term
    match rate with
    | none =>
      let s := if inService v then s.rerange term else s
      okay s (termFields (s.term term))
    | some r =>
      if !rateOfChan v.chan r then fail s .badArg
      else
        let s := s.setTerm term { v with onlyRate := some r }
        if isActive v then
          let s := ((s.changeRate term r).checkCommitted s v.chan).deactivate term 6
          if (s.term term).deact.isSome then (s, .wait (.termGone term) true) else okay s (termFields (s.term term))
        else
          let s := s.changeRate term r
          okay s (termFields (s.term term))

/-! ### Acquisition (R132, R133) -/

/-- The two creation maps bound to the assigned ONU-ID (R125). Log entry 50 (DESIGN CHOICE). -/
def State.bindCreation (s : State) (t onu : Nat) : State :=
  let v := s.term t
  let s := s.putAlloc v.defAlloc { s.alloc v.defAlloc with valid := true, chan := v.chan, allocId := onu, dflt := true, term := t }
  s.putGem v.omciGem { valid := true, chan := v.chan, dir := 3, omci := true, port := onu, term := t }

/-- A terminal acquired: ONU-ID, bindings, Assign_ONU-ID, SN_ACQUIRED (Table 5.5, R84). -/
def State.acquire (s : State) (t onu rate answer : Nat) : State :=
  let before := s
  let s := s.changeRate t rate
  let s := s.writeBm t (toSeed (s.bm t))
  let v := s.term t
  let c := v.chan
  let s := s.putTerm t { idleTerm v with state := .snAcquired, onu := some onu, rate := rate, answer := answer, onlyRate := none,
                                         maxAttempts := s.getN .RANGE_ATTEMPTS c }
  let s := (s.resetLine t).bindCreation t onu
  let s := s.checkCommitted before c
  let s := s.queuePloam c true { kind := .assignOnuId onu, term := some t }
  let s := s.raise .TERM_SN_ACQUIRED (srcChan c 8) (regionOfChan c) (evData [(13, t)] rate)
  let s := { s with power.darkDue := s.power.darkDue.set c none }
  if s.power.dark.get c then
    let s := { s with lanes.keepAwake := s.lanes.keepAwake.set c true }
    ((s.wakeLane (txLane c)).wakeLane (rxLane c)).raise .DARK_CHANNEL_SN (srcTree (c / 2) 5) (regionOfChan c) (evData [(6, c)] t)
  else s

/-- Serial numbers of a channel raised in the last hour. -/
def raisedLately (s : State) (c serial : Nat) : Bool :=
  (s.chan c).raised.any (fun p => p.1 == serial && decide (s.up - p.2 < 3600 * second))

/-- An unknown serial number joins the list of 64, the oldest replaced (Table 5.5). -/
def State.unknownSerial (s : State) (c serial : Nat) : State :=
  let v := s.chan c
  let l := if v.unknown.contains serial then v.unknown
    else (if 64 ≤ v.unknown.length then v.unknown.drop 1 else v.unknown) ++ [serial]
  let s' := s.setChan c { v with unknown := l }
  if raisedLately s c serial then s'
  else
    let keep := v.raised.filter (fun p => decide (s.up - p.2 < 3600 * second))
    (s'.setChan c { s'.chan c with raised := keep ++ [(serial, s.up)] }).raise .SN_DISCOVERED (srcChan c 8) (regionOfChan c)
      (evData [(6, c)] ((l.findIdx? (· == serial)).getD 0))

/-- A re-admitted terminal answers: its previous ONU-ID, and Ranging_Time with its stored EQD_BITS in the frame after (R147). -/
def State.answerReadmission (s : State) (t : Nat) : State :=
  let v := s.term t
  match v.readmit, v.onu with
  | some _, some o =>
    if v.state = .absent && !stepping s t then s.queuePloam v.chan true { kind := .assignOnuId o, term := some t } else s
  | _, _ => s

/-- An answer acted on by Table 5.5. -/
def State.answerOf (s : State) (c serial rate answer : Nat) : State :=
  match findSerial s serial with
  | none =>
    if s.getN .ACT_MODE c = 1 then s.unknownSerial c serial
    else s.setChan c { s.chan c with discarded := (s.chan c).discarded + 1 }
  | some t =>
    let v := s.term t
    if v.chan != c then s.raise .SN_DUPLICATE (srcChan c 8) (regionOfChan c) (evData [(6, c)] t)
    else if v.deact.isSome then s
    else match v.state with
      | .absent =>
        if v.blocked || v.readmit.isSome || (v.onlyRate.any (· != rate)) then s
        else match pickOnu s t with
          | none => s
          | some o => s.acquire t o rate answer
      | .operation => if v.rate = rate then s.deactivate t 4 else s
      | .lost => s.deactivate t 4
      | _ => s

/-- SN_ANSWER: a burst in the discovery interval begun last, `answer` ns after the grant's StartTime. It is an answer when the hunt over the interval
finds a delimiter whose header names the broadcast ONU-ID and its message's integrity code is that of the default key (R100, R151, R152); bursts that
overlap fail these checks and count as collisions. A window restricted to re-admitted serial numbers admits no other (R147). -/
def execSnAnswer (c : Fin 64) (cands : List Candidate) (serial mic answer : Nat) (s : State) : Res :=
  .next <|
    let c := c.val
    match begunWindow s c .discovery with
    | none => s
    | some w =>
      let o := huntInterval s c onuAll w cands
      let s := s.huntCounts c o
      if o.found.isNone || mic != Config.ploamCode none [serial] then s.bump .DISC_COLLISIONS c
      else if !runs s (c / 2) then s
      else if w.readmit then (findSerial s serial).elim s (fun t => if (s.term t).chan = c then s.answerReadmission t else s)
      else s.answerOf c serial w.rate answer

/-! ### Ranging (R134 to R138) -/

/-- Spread of M in ps among a list of terminals and one more round trip. -/
def spreadPs (s : State) (ts : List Nat) (m : Int) : Int :=
  let ms := ts.map (fun t => (psOf (s.term t).rate (s.term t).measRt).round)
  (ms.foldl max m) - (ms.foldl min m)

/-- Out of range (R137). -/
def rangeOut (s : State) (t : Nat) (m64 : Int) : Bool :=
  let v := s.term t
  let teqd := ui64 v.rate (teqdPs s v.chan)
  let others := (termsOf s v.chan inService).filter (· != t)
  let limit : Int := 2 * s.get .RANGE_DIFF_KM v.chan * 4897 * 1000 + 2000000
  teqd.lt (Frac.of m64) || decide (limit < spreadPs s others (psOf v.rate m64).round)

/-- EQD_BITS: Teqd - M to the nearest bit, halves up; and the residual ρ in units of 1/64 UI (R136). -/
def eqdOf (teqd64 : Frac) (m64 : Int) : Int := ((teqd64.sub (Frac.of m64)).div (Frac.of 64)).round
def rhoOf (teqd64 : Frac) (m64 eqd : Int) : Int := ((Frac.of (m64 + eqd * 64)).sub teqd64).round

/-- REGISTRATION_BURST: a burst in a terminal's ranging interval with its round trip M in 1/64 UI, Registration ID, and response time where the
standard carries it (R135 to R137). It is valid when the hunt over the interval finds a delimiter whose header names the terminal's ONU-ID and its
message's integrity code is that of the default key (R100, R151, R152). Log entry 231 (DEDUCED). -/
def execRegistrationBurst (term : Fin 8192) (cands : List Candidate) (m64 : Nat) (regId : List Byte) (resp : Option Nat) (mic : Nat) (s : State) : Res :=
  .next <|
    let t := term.val
    let v := s.term t
    let c := v.chan
    match begunWindow s c (.ranging t) with
    | none => s
    | some w =>
    let o := huntInterval s c (v.onu.getD onuAll) w cands
    let s := s.huntCounts c o
    if v.state != .ranging || v.deact.isSome || v.result.isSome || !runs s (c / 2) || o.found.isNone
        || mic != Config.ploamCode none (regId.map (·.toNat)) then s
    else
      let s := s.setTerm t { v with measRt := m64, regId := regId.take 36, respTime := (resp.map (· % 65536)).getD 35000 }
      let v := s.term t
      if rangeOut s t m64 then
        let s := s.raise .RANGE_OUT (srcChan c 8) (regionOfChan c) (evData [(13, t)] ((psOf v.rate m64).floor.toNat / 1000000))
        (s.setTerm t { v with blocked := true }).deactivate t 3
      else
        let teqd := ui64 v.rate (teqdPs s c)
        let eqd := eqdOf teqd m64
        let rho := rhoOf teqd m64 eqd + Config.eqdFiner v.rate eqd
        let e := s.bm t
        let s := s.writeBm t { toSeed e with valid := true, channel := c % 2, rate := v.rate, phaseRef := rho }
        let s := (s.setTerm t { v with result := some ⟨eqd, rho⟩ }).mirrorTerm t
        s.queuePloam c true { kind := .rangingTime eqd, term := some t }

/-- A rogue investigation overlaps a terminal's ranging window: one is in hand, or has ended since the window's interval began (R138). -/
def rogueOverlaps (s : State) (t : Nat) : Bool :=
  let c := (s.term t).chan
  (s.rogue c).phase != 0 || (begunWindow s c (.ranging t)).any (fun w => (s.rogue c).endedAt.any (fun e => decide (w.from_ ≤ e)))

/-- RANGING_WINDOW_MISS: a ranging window yields no valid burst; not counted when a rogue investigation overlaps it or its preload was late;
after RANGE_ATTEMPTS the terminal is deactivated with reason 3 (R138), by the device that runs the tree (R128). -/
def execRangingWindowMiss (term : Fin 8192) (late : Bool) (s : State) : Res :=
  .next <|
    let t := term.val
    let v := s.term t
    let c := v.chan
    if v.state != .ranging || v.deact.isSome || v.result.isSome || !runs s (c / 2) then s
    else if late || rogueOverlaps s t then s
    else
      let n := v.attempts + 1
      let s := s.setTerm t { v with attempts := n }
      if v.maxAttempts ≤ n then
        (s.raise .TERM_RANGE_FAIL (srcChan c 8) (regionOfChan c) (evData [(13, t)] n)).deactivate t 3
      else s

/-- RANGE_RETRY_EXPIRY: RANGE_RETRY frames after a failed window another is placed (R138). -/
def execRangeRetryExpiry (term : Fin 8192) (s : State) : Res :=
  .next <|
    let v := s.term term
    if v.state = .ranging && v.deact.isNone && v.result.isNone && runs s (v.chan / 2) then s.askRanging term 0 else s

/-! ### Drift (R141, R142) -/

/-- |D| in ps is beyond DRIFT_TIW. -/
def beyondTiw (s : State) (t : Nat) (d : Int) : Bool :=
  let v := s.term t
  (Frac.of (s.get .DRIFT_TIW v.chan * 100)).lt (psOf v.rate d.natAbs)

/-- Transmission interference (R141). -/
def State.interference (s : State) (t : Nat) (d : Int) : State :=
  let v := s.term t
  (s.raise .DRIFT_TIW (srcChan v.chan 8) (regionOfChan v.chan) (evData [(13, t)] (psOf v.rate d.natAbs).floor.toNat)).rerange t

/-- An equalisation-delay update starts (R142 step 1). -/
def State.startUpdate (s : State) (t : Nat) (phase d : Int) : State :=
  let v := s.term t
  let delta := (Frac.of d 64).round
  let s := s.setTerm t { v with update := some ⟨delta, phase, v.eqdBits, false⟩, driftRun := 0 }
  s.queuePloam v.chan true { kind := .rangingTime (v.eqdBits - delta), term := some t }

/-- A burst at the new position ends an update (R142 step 4). -/
def State.endUpdate (s : State) (t : Nat) (u : DriftUpdate) (phase : Int) : State :=
  let v := s.term t
  let e := s.bm t
  let s := s.writeBm t { e with phaseRef := e.phaseRef + (phase - (u.phase - 64 * u.delta)) }
  let s := (s.setTerm t { v with update := none }).mirrorTerm t
  s.raise .EQD_UPDATED (srcChan v.chan 8) (regionOfChan v.chan) (evData [(13, t)] (evSigned 19 u.delta))

/-- What a burst whose header check passed says of drift; `phase` is its arrival phase and `clean` that R78 counts it clean. -/
def State.driftTest (s : State) (t : Nat) (phase : Int) (clean : Bool) : State :=
  let v := s.term t
  let c := v.chan
  let d := phase - (s.bm t).phaseRef
  if v.state != .operation || v.deact.isSome || !runs s (c / 2) then s
  else if beyondTiw s t d then s.interference t d
  else match v.update with
    | some u =>
      if (phase - (u.phase - 64 * u.delta)).natAbs ≤ s.getN .BMEM_CLEAN_PHASE (c / 2) then s.endUpdate t u phase else s
    | none =>
      if !clean then s
      else if s.getN .DRIFT_LIMIT c < d.natAbs then
        if s.getN .DRIFT_CONFIRM c ≤ v.driftRun + 1 then s.startUpdate t phase d
        else s.setTerm t { v with driftRun := v.driftRun + 1 }
      else s.setTerm t { v with driftRun := 0 }

/-- BURST_WRITE_BACK: a burst's final state, which its lane carries on (R75). Where the delimiter was found and its header passed, it is written into
the entry, the qualification counters move (R77 to R79), and it tests the drift (R141, R142). A burst within a recovery gives no drift measurement and
counts in none of R78 (R488). Log entry 29 (DESIGN CHOICE). -/
def execBurstWriteBack (term : Fin 8192) (final : LaneSettings) (s : State) : Res :=
  .next <|
    let t := term.val
    let v := s.term t
    let i := rxLane v.chan
    let x := (s.pon.line.get t).rx
    let f := finalState x final
    let s := s.carryFinal i t f
    match x with
    | none => s
    | some x =>
      if v.state = .free || !burstHeld v then s
      else if recovering s v.chan then s.writeState t x f
      else (s.writeBack' t x f).driftTest t f.phase (cleanBurst s (v.chan / 2) (s.ln i) x f.phase)

/-- DRIFT_SETTLE_EXPIRY: DRIFT_SETTLE without step 4: Ranging_Time is sent once more, and after a second one the terminal is re-ranged (R142). Log entry 56 (DESIGN CHOICE). -/
def execDriftSettleExpiry (term : Fin 8192) (s : State) : Res :=
  .next <|
    let t := term.val
    let v := s.term t
    match v.update with
    | none => s
    | some u =>
      if !runs s (v.chan / 2) then s
      else if u.again then s.rerange t
      else (s.setTerm t { v with update := some { u with again := true } }).queuePloam v.chan true { kind := .rangingTime (u.oldEqd - u.delta), term := some t }

/-! ### Loss of burst (R143) -/

/-- Loss of burst declared: TERM_LOB, LOST; a pending update is abandoned; demand is cleared (R178) and open SDUs are discarded (R166). -/
def State.declareLob (s : State) (t : Nat) : State :=
  let v := s.term t
  let c := v.chan
  let gasp := match v.gaspAt with
    | some g => decide (s.up - g < second)
    | none => false
  let s := s.filterPloam c (fun m => match m.kind with
    | .rangingTime _ => m.term != some t
    | _ => true)
  let s := (s.putTerm t { v with state := .lost, missRun := 0, update := none, driftRun := 0, dyingGasp := gasp }).dropRssi t
  let s := s.clearDemands t
  let s := (s.pon.gems.keys (fun _ e => e.valid && !e.mcast && e.term == t)).foldl State.dropReasm s
  s.raise .TERM_LOB (srcChan c 8) (regionOfChan c) (evData [(13, t)] (b2n gasp))

/-- A granted burst yields no delimiter: it counts unless it was preloaded late or lay inside a rogue probe. -/
def State.missBurst (s : State) (t : Nat) (counted : Bool) : State :=
  let v := s.term t
  if v.state != .operation || !counted || !runs s (v.chan / 2) then s
  else if s.getN .LOB_COUNT v.chan ≤ v.missRun + 1 then s.declareLob t
  else s.setTerm t { v with missRun := v.missRun + 1 }

/-- A burst's header check passes: the run of misses ends, and a terminal in LOST returns to OPERATION, or to RANGING when its drift is beyond
DRIFT_TIW (R141, R143). -/
def State.burstSeen (s : State) (t : Nat) (phase : Int) : State :=
  let v := s.term t
  let c := v.chan
  let s := s.setTerm t { v with missRun := 0 }
  if v.state != .lost || v.deact.isSome || !runs s (c / 2) then s
  else
    let s := s.raiseAs .TERM_LOB true (srcChan c 8) (regionOfChan c) (evData [] t)
    if beyondTiw s t (phase - (s.bm t).phaseRef) then s.interference t (phase - (s.bm t).phaseRef)
    else s.putTerm t { s.term t with state := .operation }

/-- LOB_DEACT_EXPIRY: LOB_DEACT_TIME in LOST: deactivated with reason 2. -/
def execLobDeactExpiry (term : Fin 8192) (s : State) : Res :=
  .next (if (s.term term).state = .lost && runs s ((s.term term).chan / 2) then s.deactivate term 2 else s)

/-- ONU_ID_HOLD_EXPIRY: the ONU-ID is free on the channel again (R127). -/
def execOnuIdHoldExpiry (c : Fin 64) (onu : Fin 1023) (s : State) : Res :=
  .next (s.setChan c { s.chan c with onuHeld := (s.chan c).onuHeld.filter (· != onu.val) })

/-! ### Messages transmitted (R127, R136, R148) -/

/-- Ranging_Time has been sent: the terminal enters OPERATION, or its new delay stands (R136, R142). -/
def State.rangingTimeSent (s : State) (t : Nat) (eqd : Int) : State :=
  let v := s.term t
  let ps := (psOf v.rate (eqd * 64)).round
  match v.result with
  | some _ =>
    let s := (s.putTerm t { v with state := .operation, eqdBits := eqd, eqdPs := ps, result := none, centred := false, attempts := 0 }).checkCommitted s v.chan
    (s.raise .TERM_ACTIVATED (srcChan v.chan 8) (regionOfChan v.chan) (evData [(13, t)] (eqd.toNat / 65536 % 65536))).endAwake v.chan
  | none =>
    if v.readmit.isSome then s.putTerm t { v with state := .operation, readmit := none }
    else if v.update.isSome then s.putTerm t { v with eqdBits := eqd, eqdPs := ps }
    else s

/-- What the transmission of a message in frame `sfc` brings about. -/
def State.ploamSent (s : State) (c sfc : Nat) (m : PloamMsg) : State :=
  match m.kind, m.term with
  | .assignOnuId _, some t =>
    let v := s.term t
    if v.state = .snAcquired then s.askRanging t (sfc + 1)
    else if v.readmit.isSome then s.ploamFirst c { kind := .rangingTime v.eqdBits, term := some t }
    else s
  | .rangingTime eqd, some t => s.rangingTimeSent t eqd
  | .deactivate n, some t => if n < 3 then s.ploamFirst c { kind := .deactivate (n + 1), term := some t } else s.finishDeact t
  | .deactivate n, none =>
    let v := s.chan c
    let s := if n < 3 then s.ploamFirst c { kind := .deactivate (n + 1), term := none } else s
    match v.stop with
    | .forced k => s.setChan c { s.chan c with stop := .forced (k - 1) }
    | _ => s
  | .keyAnnounce p i n at_, w =>
    let at_ := at_.getD ((sfc + s.getN .KEY_SWITCH_LEAD c) % 2 ^ 51)
    let s := match (s.pair p).pending with
      | some k =>
        if k.index != i then s
        else
          let s' := s.setPair p { s.pair p with pending := some ⟨i, some at_⟩ }
          match k.s, slotKey s (pairSlot p i) with
          | none, some key => s'.mirrorKey (pairSlot p i) key false
          | _, _ => s'
      | none => s
    if n < 3 then s.ploamFirst c { kind := .keyAnnounce p i (n + 1) (some at_), term := w } else s
  | .disableSn _, some t => s.respondAll (.ploamSent t) .ok 0 (termFields (s.term t))
  | .popup, some t => s.setTerm t { s.term t with popupDue := false }
  | .keyRequest _, some t => s.setTerm t { s.term t with askPloamu := true }
  | _, _ => s

end Sys2Proof.Machine
end

