-- ==== Sys2Proof/Machine/CipherField.lean ====
section
/-! DEFINITION. The dispatcher of a region: credits, cell pairs, jobs by class, and the release of blocks in order (R329 to R336). -/
namespace Sys2Proof.Machine

def State.cipherRegion (s : State) (r : Nat) : CipherRegion := s.cipher.regions.get r
def State.setCipher (s : State) (r : Nat) (v : CipherRegion) : State := { s with cipher.regions := s.cipher.regions.set r v }

/-! ### Cells and credits (R329, R333, R334) -/

/-- Time of a block on a pair in ns at slow pace, and S-box evaluations of a cell for it (Table 13.1). Log entry 256 (DESIGN CHOICE). -/
def blockNs (long : Bool) : Nat := if long then 125 else 90
def boxesOf (long : Bool) : Nat := if long then 276 else 200

/-- Roles of a region's cipher blocks. -/
def cipherRoles (r : Nat) : List Nat := (List.range (cipherBlocks r).2).map ((cipherBlocks r).1 + ·)

/-- A generator that gives no more: stopped, or due to stop (R333). -/
def genDry (s : State) (i : Nat) : Bool :=
  (s.gen i).stopped || (s.getN .ENTROPY_MODE == 1 && s.cipher.entropyBad && decide (2 ^ 22 ≤ (s.gen i).outputs))

/-- Address of a cell of a role. -/
def roleCell (s : State) (r b x : Nat) : Nat := cellAddr r (holderInst s r b % 256) x

/-- A cell that may be given work. -/
def cellGood (s : State) (r b x : Nat) : Bool :=
  let u := s.unit (roleCell s r b x)
  !outOfRole s (blockAddr r b) && !genDry s (holderInst s r b) && u.state != some .iced && u.state != some .condemned
    && !s.cipher.barred.get (roleCell s r b x)

/-- Is a cell at work on a block? -/
def atWork (l : List PairWork) (b x : Nat) : Bool :=
  l.any (fun w => (w.a.block == b && w.a.cell == x) || (w.b.block == b && w.b.cell == x))

/-- A cell of a role that holds a credit: idle, and good (R334). -/
def creditOf (s : State) (r : Nat) (l : List PairWork) (b : Nat) : Option Nat :=
  (List.range 256).find? (fun x => !atWork l b x && cellGood s r b x)

/-- Roles in the order in which the dispatcher takes their cells: those of highest measured pace first, those declared slow last (R334). -/
def preferred (s : State) (r : Nat) : List Nat :=
  let slow (b : Nat) : Nat := b2n (s.unit (blockAddr r (holderInst s r b % 256))).slow
  let pace (b : Nat) : Int := s.ro .PACE_NOW (holderInst s r b)
  (cipherRoles r).orderBy (fun x y => decide (slow x < slow y) || (slow x == slow y && decide (pace y ≤ pace x)))

/-- Two cells with credit in different blocks (R330, R334), with the blocks of `avoid` left out. -/
def formPair (s : State) (r : Nat) (l : List PairWork) (avoid : List Nat) : Option ((Nat × Nat) × (Nat × Nat)) :=
  match ((preferred s r).filter (fun b => !avoid.contains b)).filterMap (fun b => (creditOf s r l b).map (fun x => (b, x))) with
  | x :: y :: _ => some (x, y)
  | _ => none

/-! ### Work on a pair (R330, R332) -/

/-- What a cell is sent: the key's shares re-randomised for it with fresh bits of M.46's generator, and 24 random bits for each of its S-box
evaluations from its block's. -/
def State.sendCell (s : State) (r : Nat) (c : Nat × Nat) (key : Option KeyShares) : CellWork × State :=
  let (m, s) := s.takeBits keyGen shareOutputs
  let (x, s) := s.takeBits (holderInst s r c.1) (boxesOf (key.any (·.long)))
  (⟨c.1, c.2, key.elim 0 (fun k => k.share0 ^^^ m), key.elim 0 (fun k => k.share1 ^^^ m), x⟩, s)

/-- A block of a job given to a pair. -/
def State.startPair (s : State) (r : Nat) (j : CipherJob) (index : Nat) (p : (Nat × Nat) × (Nat × Nat)) (attempts : List ((CellWork × Nat) × (CellWork × Nat))) :
    State :=
  let (a, s) := s.sendCell r p.1 j.key
  let (b, s) := s.sendCell r p.2 j.key
  let v := s.cipherRegion r
  s.setCipher r { v with nextOp := v.nextOp + 1, flight := v.flight ++ [⟨v.nextOp, j.id, index, a, b, s.up + blockNs (j.key.any (·.long)), attempts⟩] }

def jobOf (v : CipherRegion) (id : Nat) : Option CipherJob := v.jobs.find? (fun j => j.id == id)
def putJob (v : CipherRegion) (j : CipherJob) : CipherRegion := { v with jobs := v.jobs.map (fun x => if x.id = j.id then j else x) }
def dropJob (v : CipherRegion) (id : Nat) : CipherRegion :=
  { v with jobs := v.jobs.filter (fun j => j.id != id), flight := v.flight.filter (fun w => w.job != id), retries := v.retries.filter (fun w => w.job != id) }

/-- A job that has failed: nothing of it is in hand any more. -/
def failJob (v : CipherRegion) (j : CipherJob) : CipherRegion :=
  { dropJob v j.id with jobs := v.jobs.map (fun x => if x.id = j.id then { x with failed := true } else x) }

/-- Blocks left out of a fresh pair: those of the first attempt, where the region has at least four cipher blocks in service (R331). -/
def avoided (s : State) (r : Nat) (w : PairWork) : List Nat :=
  match w.attempts with
  | [] => []
  | a :: _ => if 4 ≤ ((cipherRoles r).filter (fun b => roleCells s r b != 0)).length then [a.1.1.block, a.2.1.block] else []

/-- Cells of a work's earlier attempts, as if at work: a fresh pair is of other cells. -/
def tried (w : PairWork) : List PairWork := w.attempts.map (fun a => { w with a := a.1.1, b := a.2.1 })

/-- The job served next: of the lowest class, the oldest with a block to give out (R336). -/
def nextJob (v : CipherRegion) : Option CipherJob :=
  ((v.jobs.filter (fun j => decide (j.issued < j.blocks) && !j.failed)).orderBy (fun x y => decide (x.cls ≤ y.cls))).head?

/-- Pairs that jobs may have at once: those in service, no more than the dispatcher has been told (R43), less 7 for each tape unit in use (R340). Log entry 266 (DESIGN CHOICE). -/
def jobPairs (s : State) (r : Nat) : Nat :=
  min (pairsInService s r) ((figuresOf s .cipher r).elim (pairsInService s r) (·.cipherPairs)) - if r < 8 then 7 * tapeUnits s r else 0

/-- Blocks given out while pairs can be formed: retries first, then the jobs in their order. -/
def State.dispatch : Nat → State → Nat → State
  | 0, s, _ => s
  | n + 1, s, r =>
    let v := s.cipherRegion r
    if jobPairs s r ≤ v.flight.length then s
    else match v.retries with
      | w :: rest =>
        match formPair s r (v.flight ++ tried w) (avoided s r w), jobOf v w.job with
        | some p, some j => State.dispatch n ((s.setCipher r { v with retries := rest }).startPair r j w.index p w.attempts) r
        | _, _ => s
      | [] =>
        match nextJob v with
        | none => s
        | some j => match formPair s r v.flight [] with
          | none => s
          | some p => State.dispatch n ((s.setCipher r (putJob v { j with issued := j.issued + 1 })).startPair r j j.issued p []) r

/-- Enough steps for what waits. -/
def dispatchFuel (v : CipherRegion) : Nat := v.retries.length + v.jobs.foldl (fun n j => n + (j.blocks - j.issued)) 0

def State.dispatchAll (s : State) (r : Nat) : State := State.dispatch (dispatchFuel (s.cipherRegion r)) s r

/-- Blocks released in order: those at the front of the job that have been delivered (R334). -/
def releaseJob : Nat → CipherJob → CipherJob
  | 0, j => j
  | n + 1, j => if j.done.contains j.released then releaseJob n { j with done := j.done.erase j.released, released := j.released + 1 } else j

/-- A pair has delivered a block with equal outputs: its cells have their credits back, and a job whose last block is released ends. -/
def State.deliverBlock (s : State) (r : Nat) (w : PairWork) : State :=
  let v := s.cipherRegion r
  let v := { v with flight := v.flight.filter (fun x => x.op != w.op) }
  match jobOf v w.job with
  | none => s.setCipher r v
  | some j =>
    let j := releaseJob j.blocks { j with done := j.done ++ [w.index] }
    s.setCipher r (if j.blocks ≤ j.released then dropJob v j.id else putJob v j)

/-- Pairs whose time has passed with no result of a row have delivered equal outputs. -/
def State.settlePairs (s : State) (r : Nat) : State :=
  ((s.cipherRegion r).flight.filter (fun w => decide (w.due ≤ s.up))).foldl (fun s w => s.deliverBlock r w) s

/-- A job handed to a region's dispatcher; its identity. -/
def State.addJob (s : State) (r cls : Nat) (key : Option KeyShares) (blocks : Nat) (mailbox : Option Nat) : Nat × State :=
  let s := s.settlePairs r
  let v := s.cipherRegion r
  let s := s.setCipher r { v with nextJob := v.nextJob + 1, jobs := v.jobs ++ (if blocks = 0 then [] else [{ id := v.nextJob, cls := cls, key := key, blocks := blocks, mailbox := mailbox }]) }
  (v.nextJob, s.dispatchAll r)

/-- What a job has come to by a time: every block delivered or due by then; or an operation of it has failed. -/
def jobReady (s : State) (r id t : Nat) : Bool :=
  match jobOf (s.cipherRegion r) id with
  | none => true
  | some j => !j.failed && j.issued == j.blocks && (s.cipherRegion r).retries.all (fun w => w.job != id)
      && (s.cipherRegion r).flight.all (fun w => w.job != id || decide (w.due ≤ t))

def jobFailed (s : State) (r id : Nat) : Bool := (jobOf (s.cipherRegion r) id).any (·.failed)

/-- A job that is not wanted any more (R341). -/
def State.discardJob (s : State) (r id : Nat) : State := s.setCipher r (dropJob (s.cipherRegion r) id)

/-- 260 hc at slow pace in ns (R339, R341). -/
def keystreamNs : Nat := 104

/-- Blocks that `len` bytes touch. -/
def aesBlocks (len : Nat) : Nat := (len + 15) / 16

/-- Receive work dispatched on arrival: is it ready in time (R336)? -/
def State.receiveWork (s : State) (r : Nat) (key : Option KeyShares) (blocks : Nat) : Bool × State :=
  let (id, s) := s.addJob r 0 key blocks none
  if jobReady s r id (s.up + keystreamNs) then (true, s) else (false, s.discardJob r id)

/-- Transmit work: given to pairs at once, or it waits and so does its frame (R336). -/
def State.transmitWork (s : State) (r : Nat) (key : Option KeyShares) (blocks : Nat) : Bool × State :=
  let (id, s) := s.addJob r 2 key blocks none
  if jobReady s r id (s.up + keystreamNs) then (true, s) else (false, s.discardJob r id)

end Sys2Proof.Machine
end

