-- ==== Sys2Proof/Machine/Keys.lean ====
section
/-! DEFINITION. The cipher field, key commands and terminal key exchange (spec/13). -/
namespace Sys2Proof.Machine

/-! ### Cell pairs (R330, R331) -/

/-- A cell found odd: its times of the last second; at CELL_ODD_LIMIT it is reported to its block handler and gets no further work (R331). -/
def State.oddCell (s : State) (region cell : Nat) : State :=
  let l := recent s.up (s.cipher.odd.get cell)
  let r := s.cipherRegion region
  let s := { s with cipher.odd := s.cipher.odd.set cell l, cipher.regions := s.cipher.regions.set region { r with oddCount := r.oddCount + 1 } }
  if s.getN .CELL_ODD_LIMIT ≤ l.length then ({ s with cipher.barred := s.cipher.barred.set cell true }).report cell 4 else s

/-- A mismatch counted, and raised at most once per second per region. -/
def State.mismatch (s : State) (region : Nat) : State :=
  (s.bump .CIPHER_MISMATCH region).raiseSec .CIPHER_MISMATCH region (srcRegion region 6) region (fun n => evData [(4, region)] n)

/-- Cells of earlier attempts whose output was not `out`. -/
def oddOnes (w : PairWork) (out : Nat) : List CellWork :=
  (((w.attempts.map (fun a => [a.1, a.2])).flatten).filter (fun p => p.2 != out)).map (·.1)

/-- A third attempt mismatched: the operation fails. Its job's data is discarded and counted, and a host job fails with FAULTED. Log entry 258 (DESIGN CHOICE). -/
def State.failWork (s : State) (r : Nat) (w : PairWork) (kind : Nat) : State :=
  let v := s.cipherRegion r
  let j := jobOf v w.job
  let v := match j with
    | some j => if j.mailbox.isSome then dropJob v j.id else failJob v j
    | none => v
  let s := (s.setCipher r { v with failed := v.failed + 1 }).raise .CIPHER_NO_AGREE (srcRegion r 6) r (evData [(4, r)] kind)
  match j.bind (·.mailbox) with
  | none => s
  | some n => match (s.mbox n).cmd with
    | some c => if [0x0D01, 0x0D04, 0x0D06, 0x0D10].contains c.code && c.reply.isNone then s.respond n .faulted 0 [] else s
    | none => s

/-- A pair's outputs for a block: equal ones are released, and each earlier cell that differed is odd; different ones try a fresh pair, twice at most
(R331). The kind named by CIPHER_NO_AGREE is the job's class. Log entry 132 (DESIGN CHOICE). -/
def State.pairResult (s : State) (r : Nat) (w : PairWork) (outA outB : Nat) : State :=
  if outA = outB then
    let s := (oddOnes w outA).foldl (fun s c => s.oddCell r (roleCell s r c.block c.cell)) s
    (s.deliverBlock r w).dispatchAll r
  else
    let s := s.mismatch r
    let v := s.cipherRegion r
    let s := s.setCipher r { v with flight := v.flight.filter (fun x => x.op != w.op) }
    let w := { w with attempts := w.attempts ++ [((w.a, outA), (w.b, outB))] }
    if w.attempts.length < 3 then
      let v := s.cipherRegion r
      (s.setCipher r { v with retries := v.retries ++ [w] }).dispatchAll r
    else (s.failWork r w ((jobOf v w.job).elim 3 (·.cls))).dispatchAll r

/-- CIPHER_PAIR_RESULT: a pair on which the dispatcher has a block finishes it. A result of no operation in flight is that of a one-block operation of
the host job that mailbox `job` runs; its pair is formed as any other. Log entry 257 (DESIGN CHOICE). -/
def execCipherPairResult (region : Fin 13) (op outA outB : Nat) (job : Option (Fin 16)) (s : State) : Res :=
  .next <|
    let r := region.val
    match (s.cipherRegion r).flight.find? (fun w => w.op == op), job with
    | some w, _ => s.pairResult r w outA outB
    | none, some n =>
      let (id, s) := s.addJob r 3 none 1 (some n.val)
      match (s.cipherRegion r).flight.find? (fun w => w.job == id) with
      | some w => s.pairResult r w outA outB
      | none => s
    | none, none => s

/-! ### Generators (R333) -/

/-- RNG_RESEED: a generator reseeded, or continuing with its seed late. -/
def execRngReseed (block : Fin 3328) (late : Bool) (s : State) : Res :=
  .next <|
    let r := block.val / 256
    if late then
      (s.setGen block { s.cipher.generators.get block with late := true }).raise .RNG_RESEED_LATE (srcRegion r 7) r (evData [] block)
    else
      let (x, s) := s.draw
      s.setGen block { seed := x }

/-- ENTROPY_FAIL: C.6's health tests fail. -/
def execEntropyFail (test : BitVec 8) (s : State) : Res :=
  .next (({ s with cipher.entropyBad := true }).raise .ENTROPY_FAIL (srcChip 31) regC (evData [] test.toNat))

/-- ENTROPY_RECOVERED: they pass again; stopped generators can be reseeded. -/
def execEntropyRecovered (s : State) : Res := .next { s with cipher.entropyBad := false }

/-- GENERATOR_STOP: in mode 1 a generator 2^22 outputs past its seed stops; its region reports the loss (R26). -/
def execGeneratorStop (block : Fin 3328) (s : State) : Res :=
  .next <|
    if s.getN .ENTROPY_MODE = 1 && s.cipher.entropyBad then
      let r := block.val / 256
      let s := s.setGen block { s.cipher.generators.get block with stopped := true }
      s.reportCapacity r
    else s

/-! ### Who may write a slot, and under what (R345) -/

/-- The rights test of R345: slots of C.3 never, tether slots the installer, all others the operator. -/
def slotRight (k : Nat) (c : Cmd) : Option Status :=
  if 18576 ≤ k && k ≤ 18583 then some .noRight
  else if slotKind k = 3 then (if c.role = 1 then none else some .noRight)
  else if c.role = 0 then none else some .noRight

/-- KEK named by a request: the session key, or a session/CMAC slot. -/
def kekOf (s : State) (c : Cmd) (n : Nat) : Option Nat := if n = 0 then c.key else slotKey s (18576 + n)

/-- Source of a key event: the slot's channel, tether keys, or the key store's region. Log entry 130 (DESIGN CHOICE). -/
def State.raiseKey (s : State) (k : EvKind) (slot : Nat) : State :=
  if slot < 16512 then
    let c := pairChan s (slotPair slot)
    s.raise k (srcChan c 22) (regionOfChan c) (evData [] slot)
  else if slotKind slot = 3 then s.raise k (srcTether 1 43) regH (evData [] slot)
  else s.raise k (srcRegion regM 6) regM (evData [] slot)

/-! ### Writing keys (R345 to R347, R381) -/

/-- A key that has passed its checks goes into its slot: at once, at the next frame start, or pending until both devices of a pair match. Log entry 128 (DESIGN CHOICE). -/
def placeKey (s : State) (k : Nat) (v : KeyVal) (commit force : Bool) (extra : List Int) : State × Reply :=
  let p := slotPair k
  let answered (s : State) : State × Reply := okay s (slotRead s k 0 ++ extra)
  if k < 16512 then
    if (s.pair p).pending.any (fun w => w.index == slotIndex k) then fail s .busy
    else if (s.pair p).inForce = slotIndex k then
      if !force then fail s .busy
      else if takesPloam s (pairChan s p) then
        ((s.setSlot k { s.slot k with reply := extra }).setPair p { s.pair p with forced := some (k, v, s.up + 1000) }, .wait (.keyCommit k) true)
      else answered (s.commitKey k v)
    else if commit && (s.pair p).pending.isSome then fail s .busy
    else
      let s := s.commitKey k v
      answered (if commit then s.commitSwitch p (slotIndex k) else s)
  else if slotKind k = 3 then
    match s.prot.keySlot with
    | some j => (s, .hold (.keyFree (18560 + j)))
    | none =>
      let s := s.setSlot k { s.slot k with pending := some v, reply := extra }
      ({ s with prot.keySlot := some (k - 18560), prot.keyCommit := none, prot.keySince := s.up }, .wait (.keyCommit k) true)
  else answered (s.commitKey k v)

/-- A slot that is draining or being erased makes a write wait (R346). -/
def whenFree (s : State) (k : Nat) (f : State → State × Reply) : State × Reply :=
  if (s.slot k).draining || (s.slot k).erasing then (s, .hold (.keyFree k)) else f s

/-- KEY_WRITE: a wrapped key unwrapped, checked and written. -/
def execKeyWrite (mb : Fin 16) (s : State) : Res :=
  .next <| s.commandWith mb 0x0D01 (fun c _ => slotRight (bits (bodyWord c 0) 14 0) c) fun c s =>
    let w := bodyWord c 0
    let k := bits w 14 0
    let long := bit w 28
    let kek := bits w 27 22
    let n := if long then 40 else 24
    let blob := beNat ((c.body.drop 4).take n)
    if 18640 ≤ k || bits w 21 15 != 0 || (1 ≤ kek && kek ≤ 7) || c.body.length != 44 || (c.body.drop (4 + n)).any (· != 0)
        || (long && (k < 16512 || slotKind k = 3)) then fail s .badArg
    else whenFree s k fun s =>
      match kekOf s c kek with
      | none => fail s .noObject
      | some key => match Config.keyUnwrap key blob with
        | none => fail (s.raiseKey .KEY_UNWRAP_FAIL k) .authFail
        | some m =>
          if k < 16384 && bit w 29 then
            let s := s.loadMsk k m
            okay s (slotRead s k 0)
          else placeKey s k ⟨m, long⟩ (bit w 31) (bit w 30) []

/-- KEY_GENERATE: a slot filled from C.6, its key returned wrapped; FAULTED while the health tests fail. Terminal slots are loaded by key
exchange and KEY_WRITE only (Table 13.4). Log entry 126 (DESIGN CHOICE). -/
def execKeyGenerate (mb : Fin 16) (s : State) : Res :=
  .next <| s.commandWith mb 0x0D04 (fun c _ => slotRight (bits (bodyWord c 0) 14 0) c) fun c s =>
    let w := bodyWord c 0
    let k := bits w 14 0
    let long := bit w 28
    let kek := bits w 27 22
    if 18640 ≤ k || k < 16384 || bits w 21 15 != 0 || (1 ≤ kek && kek ≤ 7) || (long && (k < 16512 || slotKind k = 3)) then fail s .badArg
    else if s.cipher.entropyBad then fail s .faulted
    else whenFree s k fun s =>
      match kekOf s c kek with
      | none => fail s .noObject
      | some key =>
        let (r, s) := s.draw
        let m := r % (if long then 2 ^ 256 else 2 ^ 128)
        placeKey s k ⟨m, long⟩ (bit w 31) (bit w 30) [(Config.keyWrap key m : Nat)]

/-- KEY_ERASE: no new latch from acceptance on; the slot is zeroised when both generations have drained (R348). -/
def execKeyErase (mb : Fin 16) (slot : Nat) (s : State) : Res :=
  .next <| s.commandWith mb 0x0D02 (fun c _ => slotRight slot c) fun _ s =>
    if 18640 ≤ slot then fail s .badArg
    else if (s.slot slot).erasing then (s, .wait (.keyDrained slot) true)
    else
      let s := s.setSlot slot { s.slot slot with erasing := true }
      let p := slotPair slot
      let s := if slot < 16512 && (s.pair p).pending.any (fun w => w.index == slotIndex slot) then s.abandonSwitch p else s
      (s, .wait (.keyDrained slot) true)

/-- KEY_GENERATION_DRAINED: no operation is latched on an old generation any more: it is overwritten with zeros; an erase ends. -/
def execKeyGenerationDrained (slot : Fin 18640) (s : State) : Res :=
  .next <|
    let k := slot.val
    let v := s.slot k
    if v.erasing then
      let s := (s.zeroSlot k).mirror (slotStream s k) k .keyErase
      s.respondAll (.keyDrained k) .ok 0 (slotRead s k 0)
    else if v.draining then s.setSlot k { v with draining := false, old := none }
    else s

/-- KEY_STATUS: 1 to 64 slots, each with the operations the dispatchers find latched on its draining generation. Log entry 129 (DESIGN CHOICE). -/
def execKeyStatus (mb : Fin 16) (slots : List (Nat × Nat)) (s : State) : Res :=
  hostCmd s mb 0x0D03 fun _ s =>
    if slots.isEmpty || 64 < slots.length || slots.any (fun p => decide (18640 ≤ p.1)) then fail s .badArg
    else okay s ((slots.map (fun p => slotRead s p.1 p.2)).flatten)

/-! ### Terminal key exchange (R349) -/

/-- An exchange may start: in OPERATION here, none in hand, no switch pending. -/
def mayRekey (s : State) (t : Nat) : Bool :=
  let v := s.term t
  v.state == .operation && v.exchange.isNone && (s.pair (termPair t)).pending.isNone && v.deact.isNone && runs s (v.chan / 2)

/-- The new key requested into the inactive index. -/
def State.startExchange (s : State) (t : Nat) : State :=
  let v := s.term t
  let i := otherIndex (s.pair (termPair t))
  (s.setTerm t { v with exchange := some ⟨i, 1⟩ }).queuePloam v.chan false { kind := .keyRequest i, term := some t }

/-- KEY_EXCHANGE_START: KEY_REKEY_PERIOD after the last switch, or after activation of a terminal with an encrypted GEM index. -/
def execKeyExchangeStart (term : Fin 8192) (s : State) : Res :=
  .next (if mayRekey s term then s.startExchange term else s)

/-- KEY_EXCH_TIMEOUT: the request repeated twice, then TERM_REKEY_FAIL with the index in force unchanged. -/
def execKeyExchTimeout (term : Fin 8192) (s : State) : Res :=
  .next <|
    let t := term.val
    let v := s.term t
    match v.exchange with
    | none => s
    | some x =>
      if x.tries < 3 then
        (s.setTerm t { v with exchange := some { x with tries := x.tries + 1 } }).queuePloam v.chan false { kind := .keyRequest x.index, term := some t }
      else
        (s.setTerm t { v with exchange := none, askPloamu := false }).raise .TERM_REKEY_FAIL (srcChan v.chan 22) (regionOfChan v.chan)
          (evData [] t)

/-- A terminal's answer to a key request: decrypted, loaded into the index asked for, and the switch committed (R349 steps 2 and 3); while a switch of the
pair is pending no further one is committed (R110). Log entry 133 (DESIGN CHOICE). Log entry 253 (DESIGN CHOICE). -/
def State.keyAnswer (s : State) (t blob : Nat) : State :=
  let v := s.term t
  match if (s.pair (termPair t)).pending.isSome then none else v.exchange with
  | none => s
  | some x =>
    let key := Config.keyDecrypt (Config.termKek (slotMsk s t)) blob % 2 ^ 128
    let s := s.setTerm t { v with exchange := none }
    (s.commitKey (pairSlot (termPair t) x.index) ⟨key, false⟩).commitSwitch (termPair t) x.index

/-- TERM_REKEY: starts a key exchange. -/
def execTermRekey (mb : Fin 16) (term : Nat) (s : State) : Res :=
  hostCmd s mb 0x0D05 fun _ s => onTerm s term fun s =>
    if mayRekey s term then okay (s.startExchange term) else fail s .busy

/-- BCAST_KEY_EXPORT: a broadcast slot's key encrypted under a terminal's KEK. -/
def execBcastKeyExport (mb : Fin 16) (slot term : Nat) (s : State) : Res :=
  hostCmd s mb 0x0D06 fun _ s =>
    if slotKind slot != 1 || 8192 ≤ term then fail s .badArg
    else if (s.term term).state = .free then fail s .noObject
    else match slotKey s slot with
      | none => fail s .noObject
      | some key => okay s [(Config.keyWrap (Config.termKek (slotMsk s term)) key : Nat)]

/-- CMAC_JOB: AES-CMAC over up to 3,968 bytes under a session/CMAC slot 8 to 63, tag of 4 to 16 bytes; with VERIFY the tag is checked, and a
failure answers AUTH_FAIL with nothing in the response (R351). Log entry 131 (DEDUCED). Log entry 267 (DESIGN CHOICE). -/
def execCmacJob (mb : Fin 16) (slot tagLen : Nat) (data : List Byte) (tag : Nat) (s : State) : Res :=
  hostCmd s mb 0x0D10 fun c s =>
    if slot < 18584 || 18640 ≤ slot || 3968 < data.length || tagLen < 4 || 16 < tagLen then fail s .badArg
    else match slotKey s slot with
      | none => fail s .noObject
      | some key =>
        let mac := beNat ((Config.cmac key data).take tagLen)
        if c.flags.testBit 0 then
          if mac = tag then okay s else fail { s with cipher.authFails := s.cipher.authFails + 1 } .authFail
        else okay s [(mac : Int)]

end Sys2Proof.Machine
end

