-- ==== Sys2Proof/Machine/Rogue.lean ====
section
/-! DEFINITION. Rogue terminal investigation (R144 to R147). -/
namespace Sys2Proof.Machine

/-- ROGUE_OBSERVATION: gap light or window light on a channel, `since` ns after the scheduled end of the burst of `last`. -/
def execRogueObservation (c : Fin 64) (window : Bool) (last : Option (Fin 8192)) (since : Nat) (s : State) : Res :=
  .next (s.rogueObserve c (if window then 2 else 0) (last.map Fin.val) since)

/-- An investigation ends; unresolved it raises ROGUE_UNRESOLVED and holds off further ones. -/
def State.endRogue (s : State) (c : Nat) (unresolved unregistered : Bool) (suspects : List Suspect) : State :=
  let r := s.rogue c
  let s := s.setRogue c { holdoff := unresolved || r.holdoff, suspects := suspects, endedAt := some (frameNow s) }
  if unresolved then
    s.raise .ROGUE_UNRESOLVED (srcChan c 10) (regionOfChan c) (evData [(6, c), (2, r.phase)] (b2n unregistered))
  else s

/-- Quiet windows asked for, one per frame from a frame on (R145). -/
def State.askProbes (s : State) (c firstFrame : Nat) : State :=
  let n := s.getN .ROGUE_PROBES c
  let s := (List.range n).foldl
    (fun s k => s.askWindow c ⟨.quiet, 0, 0, s.get .ROGUE_QUIET_LEN c * 1000, firstFrame + k, false⟩) s
  s.setRogue c { s.rogue c with probesLeft := n, lit := 0 }

/-- How many of the observations a terminal precedes with light within 1 µs of its burst end. -/
def trailing (l : List Observation) (t : Nat) : Nat := (l.filter (fun o => o.term == some t && decide (o.since ≤ 1000))).length

/-- The tallies of phase 1: each terminal that observations name, with how many. -/
def named (l : List Observation) : List Suspect :=
  (l.filterMap (·.term)).eraseDups.map (fun t => { term := t, tally := (l.filter (fun o => o.term == some t)).length })

/-- ROGUE_CORRELATION_END: 16 observations, or 2 s: one terminal preceding at least 12 of 16 is the suspect; else probing begins (R145, R146). -/
def execRogueCorrelationEnd (c : Fin 64) (s : State) : Res :=
  .next <|
    let c := c.val
    let r := s.rogue c
    if r.phase != 1 then s
    else match (named r.collected).find? (fun x => decide (12 ≤ trailing r.collected x.term)) with
      | some x =>
        (s.endRogue c false false [{ x with trailing := true }]).raise .ROGUE_SUSPECT (srcChan c 10) (regionOfChan c) (evData [(6, c)] 1)
      | none =>
        let s := s.setRogue c { r with phase := 2, suspects := named r.collected }
        s.askProbes c (s.pon.tl.sfc + 1)

/-- Disable_Serial_Number (disable) to a terminal under bisection: it keeps its ONU-ID, delay and burst memory (R147). One that the host has disabled
or deleted meanwhile is left as it is. -/
def State.rogueDisable (s : State) (c t : Nat) : State :=
  let v := s.term t
  if v.state = .disabled || v.state = .free || v.chan != c then s
  else
  let s := (s.putTerm t { v with state := .disabled, reason := 5, update := none, result := none, driftRun := 0, missRun := 0, readmit := none }).dropRssi t
  let s := s.queuePloam c true { kind := .disableSn false, term := some t }
  s.setRogue c { s.rogue c with disabled := (s.rogue c).disabled ++ (if (s.rogue c).disabled.contains t then [] else [t]) }

/-- Re-admission: Disable_Serial_Number (enable), then a restricted discovery window (R147). -/
def State.rogueReadmit (s : State) (c t : Nat) : State :=
  let v := s.term t
  if v.state != .disabled || !(s.rogue c).disabled.contains t then s
  else
    let s := s.putTerm t { v with state := .absent, readmit := if v.onu.isSome then some 3 else none }
    let s := s.queuePloam c true { kind := .disableSn true, term := some t }
    s.setRogue c { s.rogue c with disabled := (s.rogue c).disabled.filter (· != t) }

/-- Several terminals re-admitted through one window. -/
def State.readmitAll (s : State) (c : Nat) (ts : List Nat) : State :=
  if ts.isEmpty then s else (ts.foldl (fun s t => s.rogueReadmit c t) s).askReadmission c

/-- The first half of a candidate set in terminal-index order. Log entry 60 (DESIGN CHOICE). -/
def firstHalf (l : List Nat) : List Nat := l.take ((l.length + 1) / 2)

/-- The next step with the candidates left: halve, or with one left re-admit everyone else. Terminals found clear by the step before, `clear`, return
with it. -/
def State.bisectNext (s : State) (c : Nat) (cand clear : List Nat) : State :=
  let r := s.rogue c
  match cand with
  | [] => (s.readmitAll c clear).endRogue c true false r.suspects
  | [x] =>
    let s := s.setRogue c { r with candidates := [x], step := some (.last x) }
    (s.readmitAll c (r.disabled.filter (· != x))).askProbes c (s.pon.tl.sfc + 3)
  | _ =>
    let e := firstHalf cand
    let s := s.setRogue c { r with candidates := cand, step := some (.half e) }
    (s.readmitAll c (clear ++ e)).askProbes c (s.pon.tl.sfc + 3)

/-- Phase 3 begins: every terminal in OPERATION or LOST is disabled (R147 step 1). -/
def State.startBisection (s : State) (c : Nat) : State :=
  let cand := termsOf s c inService
  let s := s.setRogue c { s.rogue c with phase := 3, candidates := cand, step := some .all }
  (cand.foldl (fun s t => s.rogueDisable c t) s).askProbes c (s.pon.tl.sfc + 3)

/-- ROGUE_PROBE_RESULT: a quiet window ends with or without light; after the probes of phase 2 its outcome follows (R145). -/
def execRogueProbeResult (c : Fin 64) (light : Bool) (s : State) : Res :=
  .next <|
    let c := c.val
    let r := s.rogue c
    if r.probesLeft = 0 then s
    else
      let left := r.probesLeft - 1
      let lit := r.lit + b2n light
      let s := s.setRogue c { r with probesLeft := left, lit := lit }
      if r.phase != 2 || left != 0 then s
      else if lit = 0 then s.endRogue c true false []
      else if 3 * s.getN .ROGUE_PROBES c ≤ 4 * lit && s.getN .ROGUE_MODE c = 2 then s.startBisection c
      else
        (s.endRogue c true false r.suspects).raise .ROGUE_SUSPECT (srcChan c 10) (regionOfChan c) (evData [(6, c)] r.suspects.length)

/-- ROGUE_BISECTION_STEP: a step's probes have ended: the candidate set is halved, kept or re-admitted (R147). -/
def execRogueBisectionStep (c : Fin 64) (s : State) : Res :=
  .next <|
    let c := c.val
    let r := s.rogue c
    if r.phase != 3 || r.probesLeft != 0 then s
    else match r.step with
      | none => s
      | some .all =>
        if r.lit = 0 then s.bisectNext c r.candidates []
        else (s.readmitAll c r.disabled).endRogue c true true r.suspects
      | some (.half e) =>
        let others := r.candidates.filter (fun t => !e.contains t)
        if r.lit = 0 then s.bisectNext c others []
        else
          let e := e.filter r.candidates.contains
          (e.foldl (fun s t => s.rogueDisable c t) s).bisectNext c e others
      | some (.last x) =>
        if r.lit = 0 then
          let keep := s.getN .ROGUE_AUTO_DISABLE c = 1
          let s := s.raise .ROGUE_ISOLATED (srcChan c 10) (regionOfChan c) (evData [(13, x)] (b2n keep))
          let s := if keep then s else s.readmitAll c [x]
          s.endRogue c false false [(r.suspects.find? (fun p => p.term == x)).getD { term := x, tally := 0 }]
        else (s.readmitAll c [x]).endRogue c true false r.suspects

/-- READMISSION_ANSWER: a re-admitted terminal answers: its previous ONU-ID, then Ranging_Time with its stored EQD_BITS, without ranging. -/
def execReadmissionAnswer (term : Fin 8192) (s : State) : Res := .next (s.answerReadmission term)

/-- ROGUE_HOLDOFF_EXPIRY: an automatic investigation may open again (R144). -/
def execRogueHoldoffExpiry (c : Fin 64) (s : State) : Res := .next (s.setRogue c { s.rogue c with holdoff := false })

/-- ROGUE_START: an investigation opens on a tree channel; one at a time, and at most 16 at once. -/
def execRogueStart (mb : Fin 16) (c : Nat) (s : State) : Res :=
  hostCmd s mb 0x0530 fun _ s =>
    if 64 ≤ c then fail s .badArg
    else if (s.rogue c).phase != 0 || !(s.chan c).enabled || !runs s (c / 2) then fail s .busy
    else if 16 ≤ rogueCount s then fail s .noSpace
    else okay (s.openRogue c)

/-- ROGUE_STATUS: phase, candidate count, suspect list with tallies and kinds. Log entry 61 (DESIGN CHOICE). -/
def execRogueStatus (mb : Fin 16) (c : Nat) (s : State) : Res :=
  hostCmd s mb 0x0531 fun _ s =>
    if 64 ≤ c then fail s .badArg
    else
      let r := s.rogue c
      okay s ([(r.phase : Int), r.candidates.length] ++ (r.suspects.map (fun x => [(x.term : Int), x.tally, b2n x.trailing])).flatten)

/-- ROGUE_STOP: the investigation ends and every terminal it disabled is re-admitted. -/
def execRogueStop (mb : Fin 16) (c : Nat) (s : State) : Res :=
  hostCmd s mb 0x0532 fun _ s =>
    if 64 ≤ c then fail s .badArg
    else if (s.rogue c).phase = 0 then okay s
    else
      let l := (s.rogue c).disabled
      let s := s.readmitAll c l
      let v := s.chan c
      let s := s.setChan c { v with maps.requests := v.maps.requests.filter (fun r => r.kind != .quiet) }
      okay (s.endRogue c false false (s.rogue c).suspects)

end Sys2Proof.Machine
end

