-- ==== Sys2Proof/Machine/CipherCap.lean ====
section
/-! DEFINITION. Cell pairs in service, and the commands that meet the limits of the cipher field (R123, R335, R337, R340). -/
namespace Sys2Proof.Machine

/-- TAPE_UNITS of a tree region: units in use and the limit. -/
def tapeState (s : State) (r : Nat) : Nat := tapeUnits s r * 256 + 26

/-- GEM_MAP: a GEM index bound to a Port-ID of a channel, for one terminal or as a multicast port (R123, R13, R121, R340). -/
def execGemMap (mb : Fin 16) (gem : Nat) (entry : GemEntry) (s : State) : Res :=
  hostCmd s mb 0x0512 fun _ s =>
    let e := { entry with valid := true, dropped := 0, term := if entry.mcast then 0 else entry.term }
    if 131072 ≤ gem then fail s .badArg
    else match gemCheck e (s.term e.term) with
      | some st => fail s st
      | none =>
        if !e.mcast && stepping s e.term then (s, .hold (.termStep e.term))
        else if (s.gem gem).valid || omciOfSome s gem || (gemOfPort s e.chan e.port).isSome
            || !(termsOf s e.chan (fun v => v.wantOnu == some e.port && v.onu != some e.port)).isEmpty then fail s .alreadyExists
        else if 32768 ≤ regionGems s (regionOfChan e.chan) || !tapesOk (s.setGem gem e) (regionOfChan e.chan) then fail s .noSpace
        else okay (s.putGem gem e) (gemWords gem e)

/-- CIPHER_STATUS: per region pairs in service, tape units, and mismatch, odd-cell and late-drop counts. -/
def execCipherStatus (mb : Fin 16) (s : State) : Res :=
  hostCmd s mb 0x0D20 fun _ s =>
    okay s (((List.range 13).map (fun r => [(pairsInService s r : Int), if r < 8 then (tapeState s r : Int) else 0, s.ro .CIPHER_MISMATCH r,
      ((s.cipherRegion r).oddCount : Int), s.ro .CIPHER_LATE_DROPS r])).flatten)

end Sys2Proof.Machine
end

