-- ==== Sys2Proof/Machine/Events.lean ====
section
/-! DEFINITION. Event delivery and telemetry (spec/20): shedding, masks, routes, batches, the store, vectors, and the telemetry ring. -/
namespace Sys2Proof.Machine

/-! ### Handing messages to C.9 -/

def State.ch (s : State) (c : Nat) : DmaCh := s.host.channels.get c

def State.setCh (s : State) (c : Nat) (d : DmaCh) : State := { s with host.channels := s.host.channels.set c d }

/-- Channels open with a function in a direction: to host 0 to 31, from host 32 to 63 (R410). -/
def openChannels (s : State) (func : Nat) (fromHost : Bool) : List Nat :=
  s.host.channels.keys (fun c d => d.func == func && (decide (32 ≤ c) == fromHost))

/-- A message for a FUNC handed to C.9, which enqueues it on one of the function's channels (R410, R417). -/
def State.stage (s : State) (func : Nat) (m : DmaMsg) : State := { s with host.staged := s.host.staged ++ [(func, m)] }

/-! ### Records lost (R519) -/

/-- Records lost by a cause: 1 shedding, 2 ring queue, 3 store, 4 telemetry; from the first loss of a different cause on, 5. -/
def State.lose (s : State) (cause n : Nat) : State :=
  let l := match s.ev.loss with
    | none => (cause, n, s.now)
    | some (c, k, t) => (if c = cause then c else 5, k + n, t)
  { s with ev.loss := some l, ev.lostSinceBatch := satTo 16 (s.ev.lostSinceBatch + n) }

/-- The waiting EVENT_LOSS, cause, count and time of the first loss, as a record with the next SEQ (R510, R512, R526). -/
def lossRecord (s : State) (l : Nat × Nat × Nat) : EvRec :=
  ⟨srcChip 26, .EVENT_LOSS, EvKind.EVENT_LOSS.severity false, regC, false, s.ev.seq, l.2.2, evData [(8, l.1)] l.2.1⟩

/-! ### Vectors (R515, R518) -/

/-- The default vector of a severity: 48 Critical, 49 Major, 50 Minor, none for Info. -/
def defaultVector (severity : Nat) : Option Nat :=
  match severity with
  | 3 => some 48
  | 2 => some 49
  | 1 => some 50
  | _ => none

/-- The vector of a record under the routes in force. Log entry 198 (DESIGN CHOICE). -/
def routeVector (s : State) (r : EvRec) : Option Nat :=
  (s.ev.routes.get r.kind.code).vector.getD (defaultVector r.severity)

/-- A record has become visible: its vector's message is issued, at once when it is Critical, else at most one per holdoff; before the
mailboxes are ready it is held (R535). Log entry 202 (DESIGN CHOICE). -/
def State.visible (s : State) (e : EvRec × Option Nat) : State :=
  match if s.power.ready then e.2 else none with
  | none => s
  | some v =>
    if e.1.severity = 3 || !(s.ev.vectors.get v).holdoff then
      let s := s.msix v
      { s with ev.vectors := s.ev.vectors.set v ⟨s.getN .EVENT_IRQ_HOLDOFF != 0, false⟩ }
    else { s with ev.vectors := s.ev.vectors.set v ⟨true, true⟩ }

/-! ### Batches and the store (R516, R517) -/

/-- The open batch closes and leaves as one DMA message of 16 bytes a record; META holds the records in it and those lost since the
previous batch. -/
def State.closeBatch (s : State) : State :=
  if s.ev.batch.isEmpty then s
  else
    let n := s.ev.batch.length
    let m : DmaMsg := { len := 16 * n, meta_ := n * 2 ^ 16 + s.ev.lostSinceBatch, payload := .events s.ev.batch }
    let s := s.stage 3 m
    { s with ev.batch := [], ev.lostSinceBatch := 0 }

/-- The oldest Info or Minor record of a list taken out. -/
def dropMinor : List (EvRec × Option Nat) → Option (List (EvRec × Option Nat))
  | [] => none
  | e :: es => if e.1.severity ≤ 1 then some es else (dropMinor es).map (e :: ·)

/-- A record enters the store; at a full store the oldest Info or Minor record makes room, else the new one is dropped, and either is
lost at the store (R517, R519). -/
def State.storePut (s : State) (e : EvRec × Option Nat) : State :=
  if s.ev.store.length < 256 then
    let s := { s with ev.store := s.ev.store ++ [e] }
    s.visible e
  else
    let s := (s.bumpF .EVENT_LOST 0 15 0).lose 3 1
    match dropMinor s.ev.store with
    | some l =>
      let s := { s with ev.store := l ++ [e] }
      s.visible e
    | none => s

/-- A waiting EVENT_LOSS takes its place first, when there is room (R519). Log entry 200 (DEDUCED). -/
def State.placeLoss (s : State) (toRing : Bool) : State :=
  match s.ev.loss with
  | none => s
  | some l =>
    let r := lossRecord s l
    let e := (r, routeVector s r)
    if toRing then
      if s.ev.batch.isEmpty then
        let s := { s with ev.batch := [e], ev.batchMax := s.getN .EVENT_BATCH, ev.seq := (s.ev.seq + 1) % 65536, ev.loss := none }
        if s.ev.batchMax ≤ 1 then s.closeBatch else s
      else s
    else if s.ev.store.length < 256 then
      let s := { s with ev.store := s.ev.store ++ [e], ev.seq := (s.ev.seq + 1) % 65536, ev.loss := none }
      s.visible e
    else s

/-- Records go to the ring when their route says so, a FUNC 3 channel is open and the mailboxes are ready (R515, R535). -/
def toRing (s : State) (k : EvKind) : Bool :=
  !(s.ev.routes.get k.code).store && !(openChannels s 3 false).isEmpty && s.power.ready

/-- C.7 numbers a record and sends it on its route (R512, R515, R516). -/
def State.deliver (s : State) (r : EvRec) : State :=
  let ring := toRing s r.kind
  let s := s.placeLoss ring
  let r := { r with seq := s.ev.seq }
  let e := (r, routeVector s r)
  let s := { s with ev.seq := (s.ev.seq + 1) % 65536 }
  if ring then
    let max := if s.ev.batch.isEmpty then s.getN .EVENT_BATCH else s.ev.batchMax
    let s := { s with ev.batch := s.ev.batch ++ [e], ev.batchMax := max }
    if r.severity = 3 || max ≤ s.ev.batch.length then s.closeBatch else s
  else s.storePut e

/-- The first record of a source on its way, and the rest. -/
def takeFirst (source : Nat) : List EvRec → Option (EvRec × List EvRec)
  | [] => none
  | r :: rs => if r.source = source then some (r, rs) else (takeFirst source rs).map (fun p => (p.1, r :: p.2))

/-- EVENT_ARRIVAL: the oldest record of a source reaches C.7; it is shed, masked, or delivered (R512 to R514). Log entry 199 (DEDUCED). -/
def execEventArrival (source : Fin 1624) (s : State) : Res :=
  .next <|
    match takeFirst source.val s.ev.transit with
    | none => s
    | some (r, rest) =>
      let n := s.ev.burst.get source.val + 1
      let s := { s with ev.transit := rest, ev.burst := s.ev.burst.set source.val n }
      if s.getN .EVENT_SOURCE_BURST < n && r.severity ≤ 1 then (s.bump .EVENT_SHED source.val).lose 1 1
      else if s.ev.maskKind.get r.kind.code || s.ev.maskSource.get source.val then s.bump .EVENT_MASKED r.kind.code
      else s.deliver r

/-- EVENT_SHED_PERIOD: a new 1 ms period; every source's count restarts (R513). -/
def execEventShedPeriod (s : State) : Res := .next { s with ev.burst := [] }

/-- EVENT_BATCH_TIMEOUT: EVENT_BATCH_TIME after its first record the batch closes (R516). -/
def execEventBatchTimeout (s : State) : Res := .next s.closeBatch

/-- EVENT_IRQ_HOLDOFF_EXPIRY: one message covers every record that became visible meanwhile (R518). -/
def execEventIrqHoldoffExpiry (vector : Fin 64) (s : State) : Res :=
  .next <|
    let v := s.ev.vectors.get vector.val
    if v.holdoff && v.due then
      let s := s.msix vector.val
      { s with ev.vectors := s.ev.vectors.set vector.val ⟨s.getN .EVENT_IRQ_HOLDOFF != 0, false⟩ }
    else { s with ev.vectors := s.ev.vectors.set vector.val ⟨false, false⟩ }

/-- Every index of a list marked in a table of flags. -/
def setFlags (t : Tab Bool) (v : Bool) : List Nat → Tab Bool
  | [] => t
  | i :: is => setFlags (t.set i v) v is

/-- EVENT_MASK_SET: kinds at every source, or sources for every kind, masked or unmasked from the commit on (R514); the open batch
closes (R516). -/
def execEventMaskSet (mb : Fin 16) (mask : Bool) (kinds sources : List Nat) (s : State) : Res :=
  hostCmd s mb 0x1301 fun _ s =>
    if kinds.all (fun k => 1 ≤ k && k ≤ 142) && sources.all (fun i => decide (i < 1624)) then
      let s := s.closeBatch
      okay { s with ev.maskKind := setFlags s.ev.maskKind mask kinds, ev.maskSource := setFlags s.ev.maskSource mask sources }
        ((kinds ++ sources).map Int.ofNat)
    else fail s .badArg

/-- One route set: kinds 1 to 142, no vector or one of 48 to 63 (R515). -/
def setRoute (s : State) (e : RouteEntry) : State × Status × List Int :=
  let good := match e.vector with
    | none => true
    | some v => decide (48 ≤ v ∧ v ≤ 63)
  if good && 1 ≤ e.kind && e.kind ≤ 142 then
    ({ s with ev.routes := s.ev.routes.set e.kind ⟨e.store, some e.vector⟩ }, .ok, [e.kind])
  else (s, .badArg, [e.kind])

/-- EVENT_ROUTE_SET: the routes of 1 to 142 kinds; the open batch closes first, so its records keep the routes they arrived under. -/
def execEventRouteSet (mb : Fin 16) (routes : List RouteEntry) (s : State) : Res :=
  hostCmd s mb 0x1302 fun _ s =>
    if routes.isEmpty || 142 < routes.length then fail s .badArg
    else entriesCmd setRoute s.closeBatch routes

/-- EVENT_READ: up to 200 records of the store, returned and released in SEQ order (R517). Log entry 230 (DEDUCED). -/
def execEventRead (mb : Fin 16) (count : Nat) (s : State) : Res :=
  hostCmd s mb 0x1303 fun _ s =>
    if 200 < count then fail s .badArg
    else
      let out := s.ev.store.take count
      okay { s with ev.store := s.ev.store.drop count }
        ((out.map (fun e => (e.1.words.map (fun w => (w.toNat : Int))))).flatten)

/-! ### Telemetry (R522, R523) -/

/-- A record of a type that TELEMETRY_SET selects is produced; none is in Standby or Hibernate (R522, R539). Log entry 169 (DESIGN CHOICE). Log entry 204 (DEDUCED). -/
def State.produce (s : State) (type inst : Nat) (payload : List Nat) : State :=
  if s.ev.telMask.testBit type && s.power.dev != .standby && s.power.dev != .hibernate then
    { s with ev.telStaged := s.ev.telStaged ++ [⟨type, inst, s.now, payload⟩] }
  else s

/-- Bytes of one DRAM eighth: usable capacity is size × 15 ÷ 16 (R325). -/
def eighth (s : State) : Nat := s.dramBytes * 15 / 16 / 8

/-- Bytes of the telemetry eighths: those after the system segment and the Glacier (R325). Log entry 206 (DESIGN CHOICE). -/
def telemetryBytes (s : State) : Nat := (7 - (s.getF .GLACIER_EIGHTHS).toNat) * eighth s

/-- The open telemetry message leaves: up to 128 records of 32 bytes (R523). -/
def State.flushTelemetry (s : State) : State :=
  if s.ev.telOpen.isEmpty then s
  else
    let s := s.stage 4 { len := 32 * s.ev.telOpen.length, meta_ := 0, payload := .telemetry s.ev.telOpen }
    { s with ev.telOpen := [] }

/-- The ring with the records that a write of 32 bytes at `off` overlaps taken out. -/
def ringWrite (ring : List (Nat × TelRec)) (off : Nat) (r : TelRec) : List (Nat × TelRec) :=
  ring.filter (fun e => e.1 != off) ++ [(off, r)]

/-- TELEMETRY_RECORD: the next record produced is written to the ring; with a FUNC 4 channel open a full ring of unexported records
drops it (R523). -/
def execTelemetryRecord (s : State) : Res :=
  .next <|
    match s.ev.telStaged with
    | [] => s
    | r :: rest =>
      let s := { s with ev.telStaged := rest }
      let exporting := !(openChannels s 4 false).isEmpty
      let size := telemetryBytes s / 32 * 32
      if size = 0 || (exporting && decide (size ≤ 32 * s.ev.telUnexported)) then
        (s.bump .TELEMETRY_DROPS 0).lose 4 1
      else
        let s := { s with ev.telRing := ringWrite s.ev.telRing s.ev.telHead r, ev.telHead := (s.ev.telHead + 32) % size }
        if exporting then
          let s := { s with ev.telOpen := s.ev.telOpen ++ [r], ev.telUnexported := s.ev.telUnexported + 1 }
          if 128 ≤ s.ev.telOpen.length then s.flushTelemetry else s
        else { s with ev.telUnexported := 0, ev.telOpen := [] }

/-- TELEMETRY_FLUSH_EXPIRY: TELEMETRY_FLUSH after its first record the open message closes. -/
def execTelemetryFlushExpiry (s : State) : Res := .next s.flushTelemetry

/-- TELEMETRY_SET: the type mask (types 1 to 4) and TELEMETRY_PERIOD (R522). -/
def execTelemetrySet (mb : Fin 16) (mask period : Nat) (s : State) : Res :=
  hostCmd s mb 0x1310 fun _ s =>
    if mask &&& 0x1E = mask ∧ 10 ≤ period ∧ period ≤ 60000 then
      let s := s.setPar .TELEMETRY_PERIOD 0 period
      okay { s with ev.telMask := mask } [mask, period]
    else fail s .badArg

end Sys2Proof.Machine
end

