-- ==== Sys2Proof/Machine/Parse.lean ====
section
/-! DEFINITION. The parser: headers followed, depth, malformed packets, fragments (R222 to R226), rule keys (R230, R231) and the removal of
headers by TERMINATE (R239). Log entry 93 (DEDUCED). -/
namespace Sys2Proof.Machine

/-- The header announced next (Table 9.1). -/
inductive Nh where
  | eth | tag | mpls | pppoe | ip4 | ip6 | ext (n : Nat) | udp | tcp | gre | vxlan | gtpu | done
  deriving DecidableEq, Repr

/-- Settings of a pass: PARSE_DEPTH_BYTES, PARSE_DEPTH_HDRS, TPID_EXTRA, VXLAN_PORT, GTPU_PORT, MPLS_ETH_PW. -/
structure ParseCfg where
  depthBytes : Nat
  depthHdrs : Nat
  tpid : Nat
  vxlan : Nat
  gtpu : Nat
  pw : Bool
  deriving DecidableEq, Repr

/-- What a pass has parsed: offset of the next header, end of the payload that the enclosing lengths give, headers counted, fields of the keys,
outcome; for a tunnel header the offset behind it and the EtherType of what it carries (none: not to be delimited; 0x6558: Ethernet). -/
structure Parsed where
  next : Nh := .eth
  off : Nat := 0
  limit : Nat := 0
  hdrs : Nat := 0
  endOff : Nat := 0
  depth : Bool := false
  /-- Reason of Table 9.2, 0 when not malformed. -/
  bad : Nat := 0
  eths : Nat := 0
  dmac : Nat := 0
  smac : Nat := 0
  tags : Nat := 0
  /-- Tag control information of the first two tags, labels words of the first two labels. -/
  tci0 : Nat := 0
  tci1 : Nat := 0
  typed : Bool := false
  etherType : Nat := 0
  l2End : Nat := 0
  labels : Nat := 0
  label0 : Nat := 0
  label1 : Nat := 0
  pppoe : Bool := false
  session : Nat := 0
  ppp : Nat := 0
  v4 : Bool := false
  v6 : Bool := false
  /-- Traffic class, source and destination of the first IP header; its start and the length it gives. -/
  tos : Nat := 0
  src : Nat := 0
  dst : Nat := 0
  ipEnd : Option Nat := none
  proto : Nat := 0
  frag : Bool := false
  fragFirst : Bool := false
  sport : Nat := 0
  dport : Nat := 0
  tcpFlags : Nat := 0
  tunnel : Bool := false
  tunId : Nat := 0
  tunEnd : Nat := 0
  inner : Option Nat := none
  deriving DecidableEq, Repr, Inhabited

/-- `n` bytes from `off` on, most significant first; bytes beyond the end read 0. -/
def field (d : List Byte) (off n : Nat) : Nat := beNat (((d.drop off).take n) ++ List.replicate (n - (d.drop off).length) 0)

/-- Bytes of a frame before its FCS. -/
def bodyLen (d : List Byte) : Nat := d.length - 4

/-- A header or its length-given part ending at `e` fails the depth tests (R222). -/
def deep (cfg : ParseCfg) (p : Parsed) (e : Nat) : Bool := decide (cfg.depthBytes < e) || decide (cfg.depthHdrs ≤ p.hdrs)

/-- Parsing stops: depth-exceeded, or malformed. -/
def stopDeep (p : Parsed) : Parsed := { p with depth := true, next := .done }
def stopBad (p : Parsed) (reason : Nat) : Parsed := { p with bad := reason, next := .done }
def stop (p : Parsed) : Parsed := { p with next := .done }

/-- The lowest reason of Table 9.2 that holds, 0 for none. -/
def lowest (l : List (Bool × Nat)) : Nat := l.foldl (fun m x => if x.1 && (m == 0 || x.2 < m) then x.2 else m) 0

/-- Conditions of a part that ends at `e`: beyond the bytes remaining (reason `r`), beyond an enclosing payload. -/
def within (d : List Byte) (p : Parsed) (e r : Nat) : List (Bool × Nat) := [(decide (bodyLen d < e), r), (decide (p.limit < e), 4)]

/-- A header that ends at `e` accepted; the next is `nx`. -/
def take (p : Parsed) (e : Nat) (nx : Nh) : Parsed := { p with hdrs := p.hdrs + 1, endOff := e, off := e, next := nx }

/-- A header reached and judged: malformed, or taken by `k`. -/
def judge (p : Parsed) (conds : List (Bool × Nat)) (k : Parsed → Parsed) : Parsed :=
  let r := lowest conds
  if r = 0 then k p else stopBad p r

/-- What follows an EtherType; the first that is no tag's is the key's ETHERTYPE (R230). -/
def afterType (cfg : ParseCfg) (et : Nat) (p : Parsed) : Parsed :=
  if et = 0x8100 || et = 0x88A8 || et = cfg.tpid then { p with next := .tag }
  else
    let p := if p.typed then p else { p with typed := true, etherType := et, l2End := p.off }
    { p with next := match et with
        | 0x8847 => .mpls
        | 0x8848 => .mpls
        | 0x8864 => .pppoe
        | 0x0800 => .ip4
        | 0x86DD => .ip6
        | _ => .done }

/-- Protocol numbers that a transport or tunnel header follows (Table 9.1). -/
def afterProto (n : Nat) : Nh := if n = 17 then .udp else if n = 6 then .tcp else if n = 47 then .gre else .done

/-- IPv6: an extension header or a transport follows. -/
def afterV6 (p : Parsed) (n : Nat) : Parsed :=
  { p with proto := n, next := if [0, 43, 44, 51, 60].contains n then .ext n else afterProto n }

def parseEth (cfg : ParseCfg) (d : List Byte) (p : Parsed) : Parsed :=
  let o := p.off
  if deep cfg p (o + 14) then stopDeep p
  else judge p (within d p (o + 14) 1) fun p =>
    let p := if p.eths = 0 then { p with dmac := field d o 6, smac := field d (o + 6) 6 } else p
    afterType cfg (field d (o + 12) 2) (take { p with eths := p.eths + 1 } (o + 14) .done)

def parseTag (cfg : ParseCfg) (d : List Byte) (p : Parsed) : Parsed :=
  let o := p.off
  if deep cfg p (o + 4) || 4 ≤ p.tags then stopDeep p
  else judge p (within d p (o + 4) 1) fun p =>
    let tci := field d o 2
    let p := if p.tags = 0 then { p with tci0 := tci } else if p.tags = 1 then { p with tci1 := tci } else p
    afterType cfg (field d (o + 2) 2) (take { p with tags := p.tags + 1 } (o + 4) .done)

def parseMpls (cfg : ParseCfg) (d : List Byte) (p : Parsed) : Parsed :=
  let o := p.off
  if deep cfg p (o + 4) || 8 ≤ p.labels then stopDeep p
  else judge p (within d p (o + 4) 1) fun p =>
    let w := field d o 4
    let p := if p.labels = 0 then { p with label0 := w } else if p.labels = 1 then { p with label1 := w } else p
    let p := take { p with labels := p.labels + 1 } (o + 4) .mpls
    if !bit w 8 then p
    else if p.limit ≤ p.off then stop p
    else match field d (o + 4) 1 / 16 with
      | 4 => { p with next := .ip4 }
      | 6 => { p with next := .ip6 }
      | 0 => if cfg.pw then { p with next := .eth, off := o + 8 } else stop p
      | _ => stop p

def parsePppoe (cfg : ParseCfg) (d : List Byte) (p : Parsed) : Parsed :=
  let o := p.off
  if deep cfg p (o + 8) then stopDeep p
  else
    let e := o + 6 + field d (o + 4) 2
    judge p (within d p (o + 8) 1 ++ within d p e 2 ++ [(field d o 1 != 0x11, 3)]) fun p =>
      let ppp := field d (o + 6) 2
      take { p with pppoe := true, session := field d (o + 2) 2, ppp := ppp, limit := e } (o + 8)
        (if ppp = 0x0021 then .ip4 else if ppp = 0x0057 then .ip6 else .done)

def parseIp4 (cfg : ParseCfg) (d : List Byte) (p : Parsed) : Parsed :=
  let o := p.off
  let ihl := field d o 1 % 16 * 4
  let total := field d (o + 2) 2
  if deep cfg p (o + 20) || (o + 20 ≤ bodyLen d && deep cfg p (o + ihl)) then stopDeep p
  else judge p (within d p (o + 20) 1 ++ within d p (o + ihl) 1 ++ within d p (o + total) 2 ++
      [(decide (ihl < 20) || decide (total < ihl), 2), (field d o 1 / 16 != 4, 3)]) fun p =>
    let first := !p.v4 && !p.v6
    let p := if first then { p with v4 := true, tos := field d (o + 1) 1, src := field d (o + 12) 4, dst := field d (o + 16) 4,
                                    ipEnd := some (o + total) } else p
    let ff := field d (o + 6) 2
    let proto := field d (o + 9) 1
    let p := take { p with limit := o + total, proto := proto } (o + ihl) (afterProto proto)
    if ff % 0x4000 = 0 then p else stop { p with frag := true, fragFirst := ff % 0x2000 == 0 }

def parseIp6 (cfg : ParseCfg) (d : List Byte) (p : Parsed) : Parsed :=
  let o := p.off
  let e := o + 40 + field d (o + 4) 2
  if deep cfg p (o + 40) then stopDeep p
  else judge p (within d p (o + 40) 1 ++ within d p e 2 ++ [(field d o 1 / 16 != 6, 3)]) fun p =>
    let first := !p.v4 && !p.v6
    let p := if first then { p with v6 := true, tos := field d o 2 / 16 % 256, src := field d (o + 8) 16, dst := field d (o + 24) 16,
                                    ipEnd := some e } else p
    afterV6 (take { p with limit := e } (o + 40) .done) (field d (o + 6) 1)

def parseExt (cfg : ParseCfg) (d : List Byte) (n : Nat) (p : Parsed) : Parsed :=
  let o := p.off
  if deep cfg p (o + 8) then stopDeep p
  else if n = 44 then judge p (within d p (o + 8) 1) fun p =>
    stop { take p (o + 8) .done with frag := true, fragFirst := field d (o + 2) 2 / 8 == 0, proto := field d o 1 }
  else
    let e := o + (if n = 51 then (field d (o + 1) 1 + 2) * 4 else (field d (o + 1) 1 + 1) * 8)
    if o + 8 ≤ bodyLen d && deep cfg p e then stopDeep p
    else judge p (within d p (o + 8) 1 ++ within d p e 1) fun p => afterV6 (take p e .done) (field d o 1)

def parseUdp (cfg : ParseCfg) (d : List Byte) (p : Parsed) : Parsed :=
  let o := p.off
  let n := field d (o + 4) 2
  if deep cfg p (o + 8) then stopDeep p
  else judge p (within d p (o + 8) 1 ++ [(decide (n < 8) || decide (p.limit < o + n), 2)]) fun p =>
    let dp := field d (o + 2) 2
    take { p with sport := field d o 2, dport := dp, limit := o + n } (o + 8)
      (if dp = cfg.vxlan then .vxlan else if dp = cfg.gtpu then .gtpu else .done)

def parseTcp (cfg : ParseCfg) (d : List Byte) (p : Parsed) : Parsed :=
  let o := p.off
  let n := field d (o + 12) 1 / 16 * 4
  if deep cfg p (o + 20) then stopDeep p
  else judge p (within d p (o + 20) 1 ++ [(decide (bodyLen d < o + n), 1), (decide (n < 20) || decide (p.limit < o + n), 2)]) fun p =>
    take { p with sport := field d o 2, dport := field d (o + 2) 2, tcpFlags := field d (o + 13) 1 } (o + n) .done

/-- A tunnel header ends parsing (R224): offset behind it, and what it carries. -/
def enterTunnel (p : Parsed) (e : Nat) (inner : Option Nat) : Parsed :=
  { take p e .done with tunnel := true, tunEnd := e, inner := inner }

def parseVxlan (cfg : ParseCfg) (d : List Byte) (p : Parsed) : Parsed :=
  let o := p.off
  if deep cfg p (o + 8) then stopDeep p
  else judge p (within d p (o + 8) 1) fun p =>
    if !bit (field d o 1) 3 then stop p else enterTunnel { p with tunId := field d (o + 4) 3 } (o + 8) (some 0x6558)

def parseGre (cfg : ParseCfg) (d : List Byte) (p : Parsed) : Parsed :=
  let o := p.off
  if deep cfg p (o + 4) then stopDeep p
  else judge p (within d p (o + 4) 1) fun p =>
    let fl := field d o 1
    if field d (o + 1) 1 % 8 != 0 then stop p
    else
      let sum := if bit fl 7 then 4 else 0
      let e := o + 4 + sum + (if bit fl 5 then 4 else 0) + (if bit fl 4 then 4 else 0)
      if deep cfg p e then stopDeep p
      else judge p (within d p e 1) fun p =>
        enterTunnel { p with tunId := if bit fl 5 then field d (o + 4 + sum) 4 else 0 } e (some (field d (o + 2) 2))

/-- GTP-U extension headers from `h` on: depth-exceeded, the conditions they meet, and the offset behind them. -/
def gtpExts (cfg : ParseCfg) (d : List Byte) (p : Parsed) : Nat → Nat → Nat → Bool × List (Bool × Nat) × Nat
  | 0, _, h => (false, [], h)
  | n + 1, type, h =>
    if type = 0 then (false, [], h)
    else if deep cfg p (h + 1) then (true, [], h)
    else
      let len := field d h 1 * 4
      let first := within d p (h + 1) 1
      if bodyLen d < h + 1 then (false, first, h)
      else if len = 0 then (false, first ++ [(true, 2)], h)
      else if deep cfg p (h + len) then (true, [], h)
      else if bodyLen d < h + len then (false, first ++ within d p (h + len) 1, h)
      else
        let r := gtpExts cfg d p n (field d (h + len - 1) 1) (h + len)
        (r.1, first ++ within d p (h + len) 1 ++ r.2.1, r.2.2)

def parseGtpu (cfg : ParseCfg) (d : List Byte) (p : Parsed) : Parsed :=
  let o := p.off
  if deep cfg p (o + 8) then stopDeep p
  else judge p (within d p (o + 8) 1) fun p =>
    let b := field d o 1
    if b / 32 != 1 || !bit b 4 || field d (o + 1) 1 != 255 then stop p
    else
      let e := o + 8 + field d (o + 2) 2
      let p' := { p with limit := min p.limit e }
      let opt := b % 8 != 0
      let h := if opt then o + 12 else o + 8
      if opt && deep cfg p h then stopDeep p
      else
        let r := gtpExts cfg d p' 64 (if bit b 2 then field d (o + 11) 1 else 0) h
        if r.1 then stopDeep p
        else judge p (within d p e 2 ++ within d p' h 1 ++ r.2.1) fun _ =>
          let nib := if r.2.2 < p'.limit then field d r.2.2 1 / 16 else 0
          enterTunnel { p' with tunId := field d (o + 4) 4 } r.2.2
            (if nib = 4 then some 0x0800 else if nib = 6 then some 0x86DD else none)

/-- One header. -/
def parseOne (cfg : ParseCfg) (d : List Byte) (p : Parsed) : Parsed :=
  match p.next with
  | .eth => parseEth cfg d p
  | .tag => parseTag cfg d p
  | .mpls => parseMpls cfg d p
  | .pppoe => parsePppoe cfg d p
  | .ip4 => parseIp4 cfg d p
  | .ip6 => parseIp6 cfg d p
  | .ext n => parseExt cfg d n p
  | .udp => parseUdp cfg d p
  | .tcp => parseTcp cfg d p
  | .gre => parseGre cfg d p
  | .vxlan => parseVxlan cfg d p
  | .gtpu => parseGtpu cfg d p
  | .done => p

/-- Headers one after the other; at most 24 are ever taken (R246), and one more stops the walk. -/
def parseFrom (cfg : ParseCfg) (d : List Byte) : Nat → Parsed → Parsed
  | 0, p => p
  | n + 1, p => if p.next = .done then p else parseFrom cfg d n (parseOne cfg d p)

/-- A pass over a frame. -/
def parse (cfg : ParseCfg) (d : List Byte) : Parsed := parseFrom cfg d 26 { limit := bodyLen d }

/-- Settings of a parse port now (R246). -/
def cfgOf (s : State) (port : Nat) : ParseCfg :=
  ⟨s.getN .PARSE_DEPTH_BYTES port, s.getN .PARSE_DEPTH_HDRS port, s.getN .TPID_EXTRA, s.getN .VXLAN_PORT, s.getN .GTPU_PORT,
   decide (s.getN .MPLS_ETH_PW = 1)⟩

/-! ### Keys (Tables 9.3 and 9.4) -/

def vidOf (tci : Nat) : Nat := tci % 4096
def pcpOf (tci : Nat) : Nat := tci / 8192 % 8
def deiOf (tci : Nat) : Nat := tci / 4096 % 2

/-- The frame itself is tagged: its first tag is not one of a frame that a pseudowire carries behind labels (R230). -/
def outerTagged (f : Frame) (p : Parsed) : Bool :=
  let t := field f.bytes 12 2
  p.tags != 0 && t != 0x8847 && t != 0x8848

/-- FLAGS of the common part. -/
def keyFlags (p : Parsed) : Nat :=
  b2n p.depth * 128 + b2n (p.bad != 0) * 64 + b2n p.frag * 32 + b2n p.fragFirst * 16 + b2n p.tunnel * 8 + b2n p.v4 * 4 + b2n p.v6 * 2 + b2n p.pppoe

/-- Bits [383:320] of a key. -/
def keyCommon (fmt mac copy : Nat) (second : Bool) (p : Parsed) : Nat :=
  fmt * 2 ^ 382 + mac % 32 * 2 ^ 377 + b2n second * 2 ^ 376 + keyFlags p * 2 ^ 368 + p.tags * 2 ^ 365 + p.labels * 2 ^ 361 +
    p.etherType * 2 ^ 345 + p.proto % 256 * 2 ^ 337 + copy % 16 * 2 ^ 333

/-- Bits [319:0] of a key by its format. -/
def keyFields (fmt : Nat) (p : Parsed) : Nat :=
  match fmt with
  | 0 => p.dmac * 2 ^ 272 + p.smac * 2 ^ 224 + vidOf p.tci0 * 2 ^ 212 + pcpOf p.tci0 * 2 ^ 209 + deiOf p.tci0 * 2 ^ 208 +
      vidOf p.tci1 * 2 ^ 196 + pcpOf p.tci1 * 2 ^ 193 + deiOf p.tci1 * 2 ^ 192 + p.label0 / 4096 * 2 ^ 172 + p.label0 / 512 % 8 * 2 ^ 169 +
      p.label1 / 4096 * 2 ^ 149 + p.label1 / 512 % 8 * 2 ^ 146 + p.session * 2 ^ 130 + p.ppp * 2 ^ 114
  | 1 => p.dmac * 2 ^ 272 + vidOf p.tci0 * 2 ^ 260 + pcpOf p.tci0 * 2 ^ 257 + vidOf p.tci1 * 2 ^ 245 + pcpOf p.tci1 * 2 ^ 242 +
      (if p.v4 then p.tos * 2 ^ 234 + p.src * 2 ^ 202 + p.dst * 2 ^ 170 else 0) + p.sport * 2 ^ 154 + p.dport * 2 ^ 138 +
      p.tcpFlags * 2 ^ 130 + p.tunId * 2 ^ 98
  | _ => (if p.v6 then p.src * 2 ^ 192 + p.dst * 2 ^ 64 + p.tos * 2 ^ 56 else 0) + p.sport * 2 ^ 40 + p.dport * 2 ^ 24 +
      vidOf p.tci0 * 2 ^ 12 + p.tcpFlags * 2 ^ 4

/-- A packet's key of a format. -/
def packetKey (fmt mac copy : Nat) (second : Bool) (p : Parsed) : Nat := keyCommon fmt mac copy second p + keyFields fmt p

/-! ### Termination (R239) -/

/-- The frame after TERMINATE removed the headers up to its tunnel's end: the start offset moves; the FCS stays the last four bytes. An outer
Ethernet header is kept with its last EtherType rewritten unless the tunnel carries Ethernet. None: not to be delimited. Log entry 94 (DEDUCED). -/
def terminated (f : Frame) (p : Parsed) : Option Frame :=
  match p.inner with
  | none => none
  | some 0x6558 => let b := f.bytes.drop p.tunEnd; some { f with bytes := b, len := b.length }
  | some et =>
    let b := f.bytes.take (p.l2End - 2) ++ beBytes 2 et ++ f.bytes.drop p.tunEnd
    some { f with bytes := b, len := b.length }

end Sys2Proof.Machine
end

