-- ==== Sys2Proof/Machine/Tables.lean ====
section
/-! DEFINITION. The flow and MAC tables: hash, buckets, lookup, insertion, eviction, deletion (R248 to R261, R269). -/
namespace Sys2Proof.Machine

/-! ### Hash (R252, R253) -/

/-- F of the Feistel rounds. -/
def feistelF (seed i x : Nat) : Nat :=
  crcBytes 64 0x42F0E1EBA9EA3693 0 (beBytes 2 ((seed + i) % 65536) ++ beBytes 6 x) % 2 ^ 48

/-- H(K): four rounds, from i = 1. -/
def hashFrom (seed : Nat) : Nat → Nat → Nat → Nat → Nat × Nat
  | 0, _, l, r => (l, r)
  | n + 1, i, l, r => hashFrom seed n (i + 1) r (l ^^^ feistelF seed i r)

def hashOf (seed k : Nat) : Nat :=
  let p := hashFrom seed 4 1 (k / 2 ^ 48 % 2 ^ 48) (k % 2 ^ 48)
  p.1 * 2 ^ 48 + p.2

/-- K from H, by the rounds backwards. -/
def unhashFrom (seed : Nat) : Nat → Nat → Nat → Nat × Nat
  | 0, l, r => (l, r)
  | n + 1, l, r => unhashFrom seed n (r ^^^ feistelF seed (n + 1) l) l

def unhash (seed h : Nat) : Nat :=
  let p := unhashFrom seed 4 (h / 2 ^ 48 % 2 ^ 48) (h % 2 ^ 48)
  p.1 * 2 ^ 48 + p.2

/-- Bits of a table's bucket number: 17 of the flow table (0), 16 of the MAC table (1). -/
def bucketBits (t : Nat) : Nat := if t = 0 then 17 else 16

/-- TABLE_HASH_SEED in force since boot. -/
def seedOf (s : State) (t : Nat) : Nat := (s.getF .TABLE_HASH_SEED t).toNat

def bucketOf (s : State) (t k : Nat) : Nat := hashOf (seedOf s t) k % 2 ^ bucketBits t
def remOf (s : State) (t k : Nat) : Nat := hashOf (seedOf s t) k / 2 ^ bucketBits t

/-- Key of an entry in a bucket (R253). -/
def keyOf (s : State) (t b : Nat) (e : Ent) : Nat := unhash (seedOf s t) (e.rem * 2 ^ bucketBits t + b)

/-- K of the MAC table: FID and address (R250). -/
def macKey (fid addr : Nat) : Nat := fid % 4096 * 2 ^ 48 + addr % 2 ^ 48

/-! ### Places -/

/-- A place of a table: slot 0 to 3 of a bucket, or an overflow entry. -/
inductive Place where
  | slot (b i : Nat)
  | ovf (n : Nat)
  deriving DecidableEq, Repr

def entryAt (v : TableState) : Place → Option Ent
  | .slot b i => v.slots.get (b * 4 + i)
  | .ovf n => (v.ovf.get n).map (·.2)

/-- Bucket of a place. -/
def placeBucket (v : TableState) : Place → Nat
  | .slot b _ => b
  | .ovf n => ((v.ovf.get n).map (·.1)).getD 0

def putEntry (v : TableState) (p : Place) (b : Nat) (e : Option Ent) : TableState :=
  match p with
  | .slot c i => { v with slots := v.slots.set (c * 4 + i) e }
  | .ovf n => { v with ovf := v.ovf.set n (e.map (fun x => (b, x))) }

/-- Places of a bucket that hold entries: its slots, then overflow entries tagged with it. -/
def bucketPlaces (v : TableState) (b : Nat) : List Place :=
  ((List.range 4).filter (fun i => (v.slots.get (b * 4 + i)).isSome)).map (.slot b) ++
    (v.ovf.keys (fun _ o => o.any (fun x => x.1 == b))).map .ovf

/-- The place of a key (R253). -/
def findKey (s : State) (t k : Nat) : Option Place :=
  let v := s.table t
  let r := remOf s t k
  (bucketPlaces v (bucketOf s t k)).find? (fun p => (entryAt v p).any (fun e => e.rem == r))

/-- Every place that holds an entry: slots in order, then overflow entries. -/
def allPlaces (v : TableState) : List Place :=
  (v.slots.keys (fun _ e => e.isSome)).map (fun n => .slot (n / 4) (n % 4)) ++ (v.ovf.keys (fun _ o => o.isSome)).map .ovf

/-! ### Lookups (R257, R269) -/

/-- TABLE_PARITY and the repair of a slot from the control copy: an entry with HIT = 1 and AGE the pass count, or an empty slot (R269). -/
def State.repairSlot (s : State) (t b i : Nat) : State :=
  let v := s.table t
  let s := match v.slots.get (b * 4 + i) with
    | none => s
    | some e => s.setTable t { v with slots := v.slots.set (b * 4 + i) (some { e with hit := true, age := v.passes }) }
  let s := s.bump .PARITY_REPAIRS t
  let bank := if t = 0 then b % 8 else b % 4
  let seen := recent s.up (s.fault.parity.get (t * 8 + bank))
  let s := { s with fault.parity := s.fault.parity.set (t * 8 + bank) seen }
  let s := if 3 ≤ seen.length then s.reportRole regM (17 + 8 * t + bank) none 3 else s
  s.raiseSec .TABLE_PARITY t (srcRegion regM (16 + t)) regM (fun _ => evData [(1, t)] bank)

/-- An entry as the control copy has it: without the HIT and AGE that lookups gave it (R269). -/
def ofCopy (e : Ent) : Ent := { e with hit := e.copyHit, age := e.copyAge }

/-- A change of an entry that M.29 makes, written to the control copy (R269). Log entry 273 (DESIGN CHOICE). -/
def toCopy (e : Ent) : Ent := { e with copyHit := e.hit, copyAge := e.age }

/-- A bank of a table rebuilt from the control copy (R269); `none`: the whole table, its overflow store included (R487). -/
def State.rebuildBank (s : State) (t : Nat) (bank : Option Nat) : State :=
  let v := s.table t
  let n := if t = 0 then 8 else 4
  s.setTable t { v with slots := v.slots.map (fun c => if bank.all (fun x => x == c.1 / 4 % n) then (c.1, c.2.map ofCopy) else c),
                        ovf := if bank.isNone then v.ovf.map (fun c => (c.1, c.2.map (fun o => (o.1, ofCopy o.2)))) else v.ovf }

/-- A lookup: the entry of a key; a match sets HIT and AGE; a damaged slot of the bucket is repaired. Log entry 101 (DESIGN CHOICE). -/
def State.lookup (s : State) (t k : Nat) (parity : Parity) : Option Ent × State :=
  let b := bucketOf s t k
  let s := match parity with
    | some (pt, i) => if pt.val = t then s.repairSlot t b i else s
    | none => s
  match findKey s t k with
  | none => (none, s)
  | some p =>
    let v := s.table t
    match entryAt v p with
    | none => (none, s)
    | some e => (some e, s.setTable t (putEntry v p b (some { e with hit := true, age := v.passes })))

/-! ### Insertion, eviction and deletion (R259, R260) -/

/-- Overflow entries of a table. -/
def overSize : Nat := 2048

/-- The lowest free overflow entry. -/
def freeOver (v : TableState) : Option Nat :=
  if overSize ≤ (v.ovf.keys (fun _ o => o.isSome)).length then none
  else (List.range overSize).find? (fun n => (v.ovf.get n).isNone)

/-- Non-static slots of a full bucket. -/
def victims (v : TableState) (b : Nat) : List (Nat × Ent) :=
  (List.range 4).filterMap (fun i => (v.slots.get (b * 4 + i)).bind (fun e => if e.isStatic then none else some (i, e)))

/-- The oldest by AGE, among equals the lowest slot. -/
def oldest (passes : Nat) : List (Nat × Ent) → Option (Nat × Ent)
  | [] => none
  | x :: l => match oldest passes l with
    | none => some x
    | some y => if (passes + 256 - y.2.age) % 256 ≤ (passes + 256 - x.2.age) % 256 then some x else some y

/-- An eviction counted, logged and raised at most once per 100 ms (R260). -/
def State.evicted (s : State) (t b : Nat) (e : Ent) : State :=
  let v := s.table t
  let log := v.log ++ [⟨keyOf s t b e, e.v, s.now⟩]
  let v := if 1024 < log.length then { v with log := log.drop 1, overrun := v.overrun + 1 } else { v with log := log }
  let n := v.sinceEvent + 1
  let s := (s.setTable t { v with sinceEvent := n }).bump .TABLE_EVICTIONS t
  let key := rateKey .TABLE_EVICT t
  let due := match (s.ev.rate.get key).last with
    | none => true
    | some at_ => decide (100 * msec ≤ s.up - at_)
  let s := s.raiseEvery (100 * msec) .TABLE_EVICT t (srcRegion regM (16 + t)) regM (fun _ => evData [(1, t)] n)
  if due then s.setTable t { s.table t with sinceEvent := 0 } else s

/-- A new entry inserted: a free slot, a free overflow entry, or a victim's slot; false when the bucket's slots are all static (R259). Log entry 102 (DESIGN CHOICE). -/
def State.insertEntry (s : State) (t k : Nat) (isStatic hit : Bool) (val : EntVal) : State × Bool :=
  let v := s.table t
  let b := bucketOf s t k
  let e : Ent := toCopy { isStatic := isStatic, hit := hit, age := v.passes, rem := remOf s t k, v := val }
  match (List.range 4).find? (fun i => (v.slots.get (b * 4 + i)).isNone) with
  | some i => (s.setTable t (putEntry v (.slot b i) b (some e)), true)
  | none => match freeOver v with
    | some n => (s.setTable t (putEntry v (.ovf n) b (some e)), true)
    | none =>
      let l := victims v b
      let (pick, s) := if s.getN .EVICT_POLICY t = 1 then (oldest v.passes l, s)
        else
          let d := s.draw
          (if l.isEmpty then none else some (l.getD (d.1 % l.length) (0, e)), d.2)
      match pick with
      | none =>
        let s := s.bump .TABLE_INSERT_FAILS t
        (s.raiseSec .TABLE_FULL t (srcRegion regM (16 + t)) regM (fun _ => evData [(1, t)] b), false)
      | some (i, old) =>
        let s := s.evicted t b old
        (s.setTable t (putEntry (s.table t) (.slot b i) b (some e)), true)

/-- An entry deleted. -/
def State.deleteAt (s : State) (t : Nat) (p : Place) : State :=
  let v := s.table t
  s.setTable t (putEntry v p (placeBucket v p) none)

def State.writeAt (s : State) (t : Nat) (p : Place) (e : Ent) : State :=
  let v := s.table t
  s.setTable t (putEntry v p (placeBucket v p) (some (toCopy e)))

/-- TABLE_FILL of a table. -/
def tableFill (v : TableState) : Nat :=
  let o := (v.ovf.keys (fun _ x => x.isSome)).length
  (v.slots.length + o) * 2 ^ 12 + min o 4095

/-! ### Keys formed by a profile (R248 to R250) -/

/-- Words of a key profile; profiles never written are all-zero. -/
def profileOf (s : State) (n : Nat) : List Nat := (s.fwd.profiles.get n).getD [0, 0, 0, 0]

/-- SRC, START and LEN of an extract. -/
def extSrc (w : Nat) : Nat := bits w 31 30
def extStart (w : Nat) : Nat := bits w 29 21
def extLen (w : Nat) : Nat := bits w 20 14

/-- The extracts of a profile taken from the keys and the metadata, from the high end down. -/
def extracts (keys : Nat → Nat) (md : Nat) : List Nat → Nat → Nat
  | [], _ => 0
  | w :: l, top =>
    let n := extLen w
    let v := (if extSrc w = 3 then md else keys (extSrc w)) / 2 ^ extStart w % 2 ^ n
    v * 2 ^ (top - n) + extracts keys md l (top - n)

/-- K of the flow table under a profile. -/
def flowKey (s : State) (profile : Nat) (keys : Nat → Nat) (md : Nat) : Nat := profile * 2 ^ 88 + extracts keys md (profileOf s profile) 88

/-- Metadata source of a downstream pass, and of an upstream SDU (R249). -/
def downMeta (mac : Nat) : Nat := mac * 2 ^ 23
def upMeta (c gem : Nat) : Nat := c * 2 ^ 17 + gem

end Sys2Proof.Machine
end

