-- ==== Sys2Proof/Machine/Meters.lean ====
section
/-! DEFINITION. Token buckets: shapers (R283, R284), single-rate policers (R285), three-colour markers (R286), their changes (R288), and the
FCS that a rewritten frame carries. -/
namespace Sys2Proof.Machine

/-! ### Buckets -/

/-- Units of a bucket's content per byte: CIR in kb/s adds CIR units per ns. -/
def bucketUnits : Int := 8000000

/-- A content refilled at a rate over an interval and capped. -/
def refill (content : Int) (cir cbs ns : Nat) : Int := min (content + (cir * ns : Nat)) (cbs * bucketUnits)

/-- CBS of a shaper, or the default of its kind of object (Table 11.1). -/
def Shaper.size (k : Shaper) (dflt : Nat) : Nat := k.cbs.getD dflt

/-- Content of a shaper now. -/
def shaperNow (s : State) (k : Shaper) (dflt : Nat) : Int := refill k.content k.cir (Shaper.size k dflt) (s.up - k.at_)

/-- A shaper conforms while its content is not negative; one with CIR 0 always does (R283). -/
def conforms (s : State) (k : Shaper) (dflt : Nat) : Bool := k.cir = 0 || decide (0 ≤ shaperNow s k dflt)

/-- A hand-over of `n` bytes charged to a shaper that is on. -/
def charge (s : State) (k : Shaper) (dflt : Nat) (n : Int) : Shaper :=
  if k.cir = 0 then k else { k with content := shaperNow s k dflt - n * bucketUnits, at_ := s.up }

/-- A change of CIR and CBS (R284): accrued at the old rate, then clamped to ±CBS; from off, full. -/
def reshape (s : State) (k : Shaper) (dflt cir : Nat) (cbs : Option Nat) : Shaper :=
  let k' : Shaper := { k with cir := cir, cbs := cbs, at_ := s.up }
  let size : Int := Shaper.size k' dflt * bucketUnits
  if cir = 0 then { k' with content := 0 }
  else if k.cir = 0 then { k' with content := size }
  else { k' with content := max (-size) (min (shaperNow s k dflt) size) }

/-! ### FCS -/

/-- One bit of the Ethernet FCS, least significant first. -/
def fcsBits : Nat → Nat → Nat
  | 0, r => r
  | n + 1, r => fcsBits n (if r % 2 = 1 then (r / 2) ^^^ 0xEDB88320 else r / 2)

/-- FCS of a frame's bytes: four bytes, the low one first. -/
def fcsOf (bs : List Byte) : List Byte :=
  leBytes 4 ((bs.foldl (fun r b => fcsBits 8 (r ^^^ b.toNat)) 0xFFFFFFFF) ^^^ 0xFFFFFFFF)

/-- DEI of the outermost tag of a tagged frame set, and the FCS recomputed; an untagged frame stays (R286). -/
def setDei (f : Frame) (p : Parsed) (dei : Bool) : Frame :=
  if !outerTagged f p then f
  else
    let b := field f.bytes 14 1
    let b := b - bits b 4 4 * 16 + b2n dei * 16
    let body := (f.bytes.take 14 ++ [BitVec.ofNat 8 b] ++ f.bytes.drop 15).take (f.bytes.length - 4)
    { f with bytes := body ++ fcsOf body }

/-! ### Metering -/

/-- A policer meters a frame: true when it passes (R285). -/
def State.police (s : State) (n len : Nat) : Bool × State :=
  let k := s.fwd.policers.get n
  let b := refill k.content k.cir k.cbs (s.up - k.at_)
  let pass := k.cir != 0 && decide ((len : Int) * bucketUnits ≤ b)
  let k := if pass then { k with content := b - len * bucketUnits, at_ := s.up, passed := k.passed + 1 }
    else { k with content := b, at_ := s.up, dropped := k.dropped + 1 }
  (pass, { s with fwd.policers := s.fwd.policers.set n k })

/-- Colour of a frame by a marker's contents: 0 green, 1 yellow, 2 red, and the contents after it (R286). Log entry 112 (DEDUCED). -/
def colourOf (k : Marker) (c p : Int) (len : Nat) (yellow : Bool) : Nat × Int × Int :=
  let n : Int := len * bucketUnits
  if k.mode = 0 then
    if p < n then (2, c, p) else if yellow || c < n then (1, c, p - n) else (0, c - n, p - n)
  else if !yellow && n ≤ c then (0, c - n, p)
  else if n ≤ p then (1, c, p - n)
  else (2, c, p)

/-- A marker meters a frame: its colour after RED_ACTION, and the frame with its DEI marked. -/
def State.mark (s : State) (n : Nat) (f : Frame) (p : Parsed) : Nat × Frame × State :=
  let k := s.fwd.markers.get n
  let ns := s.up - k.at_
  let r := colourOf k (refill k.c k.cir k.cbs ns) (refill k.p k.pir k.pbs ns) f.len (k.aware && outerTagged f p && deiOf p.tci0 == 1)
  let k' := { k with c := r.2.1, p := r.2.2, at_ := s.up, green := k.green + b2n (r.1 == 0), yellow := k.yellow + b2n (r.1 == 1),
                     red := k.red + b2n (r.1 == 2) }
  let colour := if r.1 = 2 && k.redAction = 1 then 1 else r.1
  let f := if k.markDei && colour != 2 then setDei f p (colour == 1) else f
  (colour, f, { s with fwd.markers := s.fwd.markers.set n k' })

/-- The meter that a frame meets: none, a policer, a marker. -/
inductive Meter where
  | none
  | policer (n : Nat)
  | marker (n : Nat)
  deriving DecidableEq, Repr

/-- A frame metered once (R287): dropped, or its colour and bytes. -/
def State.meter (s : State) (m : Meter) (f : Frame) (p : Parsed) : Option (Nat × Frame) × State :=
  match m with
  | .none => (some (0, f), s)
  | .policer n =>
    let r := s.police n f.len
    (if r.1 then some (0, f) else Option.none, r.2)
  | .marker n =>
    let r := s.mark n f p
    (some (r.1, r.2.1), r.2.2)

/-! ### Meter commands -/

/-- Rates and sizes of a meter are in range (R285). -/
def meterOk (cir cbs : Nat) : Bool := cir ≤ 800000000 && 64 ≤ cbs && cbs ≤ 16 * 2 ^ 20

/-- A bucket's content after a change (R288): accrued at the old rate, clamped to the new size; as a shaper's, full where the rate comes from 0 (R284). Log entry 274 (DEDUCED). -/
def rebucket (content : Int) (oldCir oldCbs ns cir cbs : Nat) : Int :=
  if oldCir = 0 && cir != 0 then cbs * bucketUnits else min (refill content oldCir oldCbs ns) (cbs * bucketUnits)

/-- A meter as it is read, and as a write answers it (R449): settings, content in bytes, per-colour counters. -/
def meterWords (s : State) (marker : Bool) (index : Nat) : List Int :=
  if marker then
    let k := s.fwd.markers.get index
    let ns := s.up - k.at_
    [(k.mode : Int), b2n k.aware, k.redAction, b2n k.markDei, k.cir, k.cbs, k.pir, k.pbs, refill k.c k.cir k.cbs ns / bucketUnits,
      refill k.p k.pir k.pbs ns / bucketUnits, k.green, k.yellow, k.red]
  else
    let k := s.fwd.policers.get index
    [(k.cir : Int), k.cbs, refill k.content k.cir k.cbs (s.up - k.at_) / bucketUnits, k.passed, k.dropped]

/-- POLICER_SET. -/
def execPolicerSet (mb : Fin 16) (policer cir cbs : Nat) (s : State) : Res :=
  hostCmd s mb 0x0A20 fun _ s =>
    if 65536 ≤ policer || !meterOk cir cbs then fail s .badArg
    else
      let k := s.fwd.policers.get policer
      let v := { k with cir := cir, cbs := cbs, content := rebucket k.content k.cir k.cbs (s.up - k.at_) cir cbs, at_ := s.up }
      let s := { s with fwd.policers := s.fwd.policers.set policer v }
      okay s (meterWords s false policer)

/-- MARKER_SET. -/
def execMarkerSet (mb : Fin 16) (marker mode : Nat) (aware : Bool) (redAction : Nat) (markDei : Bool) (cir cbs pir pbs : Nat) (s : State) : Res :=
  hostCmd s mb 0x0A21 fun _ s =>
    if 4096 ≤ marker || 2 ≤ mode || 2 ≤ redAction || !meterOk cir cbs || !meterOk pir pbs then fail s .badArg
    else
      let k := s.fwd.markers.get marker
      let ns := s.up - k.at_
      let v := { k with mode := mode, aware := aware, redAction := redAction, markDei := markDei, cir := cir, cbs := cbs, pir := pir, pbs := pbs,
                        c := rebucket k.c k.cir k.cbs ns cir cbs, p := rebucket k.p k.pir k.pbs ns pir pbs, at_ := s.up }
      let s := { s with fwd.markers := s.fwd.markers.set marker v }
      okay s (meterWords s true marker)

/-- METER_READ: a meter's settings, content in bytes and per-colour counters. -/
def execMeterRead (mb : Fin 16) (marker : Bool) (index : Nat) (s : State) : Res :=
  hostCmd s mb 0x0A22 fun _ s =>
    if (if marker then 4096 else 65536) ≤ index then fail s .badArg
    else okay s (meterWords s marker index)

end Sys2Proof.Machine
end

