-- ==== Sys2Proof/Machine/Uplinks.lean ====
section
/-! DEFINITION. Uplink MACs: breakout modes (R356), counters, pause frames sent (R363), MACsec on transmission (R364, R367, R368). -/
namespace Sys2Proof.Machine

/-! ### Ports and MACs (R356) -/

/-- Breakout mode of a MAC's port in force. -/
def breakout (s : State) (m : Nat) : Nat := (s.getF .UPLINK_BREAKOUT (m / 8)).toNat

/-- A MAC number that its port's mode uses. -/
def macUsed (s : State) (m : Nat) : Bool := m % 8 % (8 / 2 ^ breakout s m) = 0

/-- Rate of a MAC in Gb/s. -/
def macRate (s : State) (m : Nat) : Nat := 800 / 2 ^ breakout s m

/-- Lanes of a MAC's port that it uses. -/
def macLanes (s : State) (m : Nat) : List Nat := (List.range (8 / 2 ^ breakout s m)).map (fun i => m / 8 * 8 + m % 8 + i)

/-- A MAC in use and enabled. -/
def macOn (s : State) (m : Nat) : Bool := macUsed s m && s.getN .UPLINK_ENABLE m = 1

/-! ### Counters of UPLINK_STATS (Table 14.3) -/

/-- Frames and octets received and sent, FCS, undersize, oversize, block errors; pause frames received and sent per class follow at 8 and
16; flow-control frames discarded by mode; starts that found no common ability. -/
def stRxFrames : Nat := 0
def stRxOctets : Nat := 1
def stTxFrames : Nat := 2
def stTxOctets : Nat := 3
def stFcs : Nat := 4
def stUndersize : Nat := 5
def stOversize : Nat := 6
def stBlock : Nat := 7
def stPauseRx (c : Nat) : Nat := 8 + c
def stPauseTx (c : Nat) : Nat := 16 + c
def stDiscarded : Nat := 24
def stNoAbility : Nat := 25

/-- A 64-bit counter of a MAC increased. -/
def State.stat (s : State) (m k : Nat) (n : Nat := 1) : State :=
  s.setMac m { s.mac m with stats := (s.mac m).stats.set k (satTo 64 ((s.mac m).stats.get k + n)) }

/-! ### Pause frames sent (R313, R363) -/

/-- Classes that the device pauses on a MAC: those of pools not yet thawed. -/
def pausing (v : MacState) : Nat := v.freezes.foldl (fun n f => n ||| f.2) 0

/-- Classes named in a set. -/
def classesIn (n : Nat) : List Nat := (List.range 8).filter (fun c => bit n c)

/-- Classes that a pause frame would name now: those changed since the partner was last told, and every paused one where all are due. -/
def pauseNames (s : State) (m : Nat) : Nat :=
  let v := s.mac m
  let cur := pausing v
  match s.getN .UPLINK_FC_MODE m with
  | 0 => 0
  | 1 => if (v.pauseAll && cur != 0) || (cur != 0) != (v.told != 0) then 255 else 0
  | _ => (if v.pauseAll then cur else 0) ||| (cur ^^^ v.told)

/-- A due pause frame starts: it carries the state now; with nothing to say, or in mode 0, or on a link that is down, none leaves. -/
def State.sendPause (s : State) (m : Nat) : State :=
  let v := s.mac m
  let cur := pausing v
  let names := pauseNames s m
  let s := s.setMac m { v with pauseDue := false, pauseAll := false }
  if !v.up || names = 0 then s
  else
    let pfc := s.getN .UPLINK_FC_MODE m == 2
    let paused := if pfc then cur &&& names else if cur = 0 then 0 else 255
    let s := s.setMac m { s.mac m with told := cur }
    let s := (classesIn names).foldl (fun s c => s.stat m (stPauseTx c)) s
    s.emit (.pause m pfc names paused (s.getN .UPLINK_PFC_QUANTA m))

/-- A pause frame falls due: it starts at once, or after the frame in transmission. Log entry 138 (DESIGN CHOICE). -/
def State.pauseWork (s : State) (m : Nat) (all : Bool) : State :=
  let v := s.mac m
  if !v.up then s
  else
    let s := s.setMac m { v with pauseDue := true, pauseAll := v.pauseAll || all }
    if v.busyUntil ≤ s.up then s.sendPause m else s

/-- UPLINK_LINK_STATE and UPLINK_PAUSE_STATE. -/
def linkState (s : State) (m : Nat) : Nat :=
  let v := s.mac m
  b2n (macOn s m) * 8 + b2n v.up * 4 + b2n v.aligned * 2 + b2n v.trained

def pauseState (s : State) (m : Nat) : Nat :=
  let v := s.mac m
  (classesIn 255).foldl (fun n c => n + if (v.paused.get c).isSome then 2 ^ (8 + c) else 0) 0 + pausing v

/-! ### MACsec on transmission (R348, R364, R367, R368) -/

def State.sa (s : State) (n : Nat) : Option Sa := s.fwd.sas.get n
def State.setSa (s : State) (n : Nat) (v : Option Sa) : State := { s with fwd.sas := s.fwd.sas.set n v }

/-- Packet numbers of an SA (R368). -/
def pnSpace (v : Sa) : Nat := if v.xpn then 2 ^ 64 - 1 else 2 ^ 32 - 1

/-- MACsec protects a MAC's frames. -/
def secured (s : State) (m : Nat) : Bool := s.getN .MACSEC_EN m = 1

def srcSec (m : Nat) : Nat := srcMac m 16

/-- Keystream blocks of a protected frame of length L, its addresses, FCS and confidentiality offset apart (R342). -/
def secBlocks (s : State) (m len : Nat) : Nat := ceilDiv (len - 16 - s.getN .MACSEC_CONF_OFFSET m) 16

/-- A speculation hit or miss counted (R342). Log entry 141 (DESIGN CHOICE). -/
def State.countSpec (s : State) (m : Nat) (hit : Bool) : State :=
  if hit then s.bumpF .MACSEC_SPEC_HITS m 31 16 else s.bumpF .MACSEC_SPEC_HITS m 15 0

/-- A frame selected for an SA: its PN, or nothing where the SA has reached its last PN or its slot has no key; the frame is then dropped and
counted. Log entry 136 (DESIGN CHOICE). -/
def State.takePn (s : State) (m n : Nat) (v : Sa) : Option (Nat × Nat) × State :=
  if !usable (s.slot (16512 + n)) then (none, s.bump .KEY_MISSING_DROPS m)
  else if pnSpace v < v.pn then (none, s.setSa n (some { v with counts := v.counts.set 7 (satTo 64 (v.counts.get 7 + 1)) }))
  else
    let next := v.pn + 1
    let warn := !v.warned && decide (pnSpace v * s.getN .MACSEC_PN_WARN m < next * 100)
    let last := decide (pnSpace v < next)
    let v' := { v with pn := next, warned := v.warned || warn, exhausted := last, counts := v.counts.set 0 (satTo 64 (v.counts.get 0 + 1)) }
    let s := s.setSa n (some v')
    let s := if warn then s.raise .MACSEC_PN_WARN (srcSec m) (regionOfMac m) (evData [] n) else s
    (some (n, v.pn), if last then s.raise .MACSEC_PN_EXHAUSTED (srcSec m) (regionOfMac m) (evData [] n) else s)

/-- Protection of a frame about to leave a MAC: none where MACsec is off, the SA and PN, or a drop (outer none). Log entry 135 (DESIGN CHOICE). -/
def State.protect (s : State) (m : Nat) : Option (Option (Nat × Nat)) × State :=
  if !secured s m then (some none, s)
  else match (s.mac m).encoding with
    | none => (none, s.bump .KEY_MISSING_DROPS m)
    | some n => match s.sa n with
      | some v =>
        if v.enabled then
          let r := s.takePn m n v
          (r.1.map some, r.2)
        else (none, s.bump .KEY_MISSING_DROPS m)
      | none => (none, s.bump .KEY_MISSING_DROPS m)

end Sys2Proof.Machine
end

