-- ==== Sys2Proof/Machine/Pace.lean ====
section
/-! DEFINITION. Pace, adaptive voltage and bridges (spec/02). Pace is in units of G hc/s / 1,000. -/
namespace Sys2Proof.Machine

/-! ### Samples (R36 to R39) -/

/-- Pace of a monitor count: count × 80 k hc/s × k (R36), scaled when the window is taken from the Ethernet reference (R38). The fused
constant k of the block is in units of 1/65,536. Log entry 16 (DESIGN CHOICE). -/
def paceOfCount (inst count : Nat) (ethernet : Bool) : Nat :=
  let p := count * 80 * (Config.calF 6 inst).toNat
  (if ethernet then p * 1953125 / 1953000 else p) / (1000 * 65536)

/-- A value into a rising list. -/
def insertSorted (v : Nat) : List Nat → List Nat
  | [] => [v]
  | x :: xs => if v ≤ x then v :: x :: xs else x :: insertSorted v xs

/-- The median of a list; between two middle values their mean. Log entry 14 (DEDUCED). -/
def median (l : List Nat) : Nat :=
  let r := l.foldl (fun acc v => insertSorted v acc) []
  let n := r.length
  if n % 2 = 1 then r.getD (n / 2) 0 else (r.getD (n / 2 - 1) 0 + r.getD (n / 2) 0) / 2

def State.blockPace (s : State) (inst : Nat) : BlockPace := s.pace.blocks.get inst
def State.setBlockPace (s : State) (inst : Nat) (b : BlockPace) : State :=
  { s with pace.blocks := s.pace.blocks.set inst b }

/-- Both PON references lost: windows come from the Ethernet reference (R38). -/
def ponRefsLost (s : State) : Bool := !s.clk.ref0 && !s.clk.ref1

/-- PACE_SAMPLE: a block's count; a sample that reaches C.8 after the next window has closed is discarded and counted (R38). -/
def execPaceSample (inst : Fin 3328) (count : Nat) (stalled late : Bool) (s : State) : Res :=
  .next <|
    if late then { s with pace.late := s.pace.late + 1 }
    else s.setBlockPace inst { s.blockPace inst with sample := some (paceOfCount inst count (ponRefsLost s), stalled) }

/-- Block instances with a sample in the window. -/
def sampled (s : State) : List Nat := s.pace.blocks.keys (fun _ b => b.sample.isSome)

/-- Median of the samples of a region: of every monitor that reported in the window, that of a spare, iced or faulty block too. Log entry 234 (DESIGN CHOICE). -/
def regionMedian (s : State) (region : Nat) : Nat :=
  median ((s.pace.blocks.filter (fun e => e.1 / 256 == region)).filterMap (fun e => e.2.sample.map (·.1)))

/-- Is a sample outside 1.0 to 4.5 G hc/s? -/
def outOfRange (p : Nat) : Bool := p < 1000 || 4500 < p

/-- Does a sample differ from the median by more than 25 %? -/
def farApart (p m : Nat) : Bool := m < 4 * (max p m - min p m)

/-- One block's sample judged against the region median `m` of the window (R39): the median stands in for a faulty monitor, whose fault is
reported as cell 0 of its block. Also the capacity rules of R43 and the block items of Table 2.2. Log entry 17 (DESIGN CHOICE). Log entry 18 (DESIGN CHOICE). Log entry 235 (DESIGN CHOICE). -/
def State.judge (m : Nat) (s : State) (inst : Nat) : State :=
  let b := s.blockPace inst
  match b.sample with
  | none => s
  | some (p, stalled) =>
    let apart := if farApart p m && !stalled then b.apart + 1 else 0
    let bad := b.faulty || outOfRange p || decide (4 ≤ apart)
    let s := if bad && !b.faulty then
        (s.raise .PACE_MONITOR_FAULT (srcRegion (inst / 256) 4) (inst / 256) (evData [] inst)).report (cellAddr (inst / 256) (inst % 256) 0) 6
      else s
    let v := if bad then m else p
    let hold := s.ro .PACE_MIN_HOLD inst
    let s := (s.setRo .PACE_NOW inst v).setRo .PACE_MIN_HOLD inst (if hold = 0 then (v : Int) else min hold v)
    let live := blockInService s inst
    let low := live && decide (v < 2500)
    let backRun := if low then 0 else b.backRun + 1
    let r := inst / 256
    let s := if low && !b.low then s.raise .PACE_LOW (srcRegion r 4) r (evData [(12, inst)] v) else s
    let s := s.setBlockPace inst { b with
      sample := none, apart := apart, faulty := bad, low := low || (b.low && decide (backRun < 16)), backRun := backRun, lowPace := if low then v else b.lowPace }
    if low || b.low then s.testCapacity r else s

/-! ### The voltage loop (R40 to R44) -/

/-- Control pace: the lowest pace of the window among blocks in service, not slow, with a good monitor (R40); with its block. -/
def controlPace (s : State) (insts : List Nat) : Option (Nat × Nat) :=
  insts.foldl (fun acc i =>
    if blockInService s i && !(s.unit (instAddr i)).slow && !(s.blockPace i).faulty then
      let v := (s.ro .PACE_NOW i).toNat
      match acc with
      | none => some (i, v)
      | some (_, w) => if v < w then some (i, v) else acc
    else acc) none

/-- Does a region's cipher load rise by more than AVS_FF_LOAD points (rule 2)? -/
def loadRose (s : State) (loads : List Nat) : Bool :=
  (List.range 13).any (fun r => decide (s.pace.loads.get r + s.getFN .AVS_FF_LOAD < loads.getD r 0))

/-- The summed upward terms of rules 1 to 3 of Table 2.1, capped at 30 mV (R42). -/
def upStep (s : State) (p : Nat) (loads : List Nat) : Nat :=
  min 30 ((if p < s.getFN .PACE_GUARD * 10 then 20 else 0) + (if loadRose s loads then s.getFN .AVS_FF_STEP else 0)
    + (if p < s.getFN .PACE_BAND_LOW * 10 then s.getFN .AVS_STEP_UP else 0))

/-- The downward step of rule 4. -/
def downStep (s : State) : Nat :=
  if s.getFN .AVS_DOWN_HOLD ≤ s.pace.aboveRun && 8 ≤ s.pace.sinceUp then s.getFN .AVS_STEP_DOWN else 0

/-- A target within [VDD_MIN, VDD_MAX]. -/
def clampTarget (s : State) (mv : Nat) : Nat := max (s.getN .VDD_MIN) (min mv (s.getN .VDD_MAX))

/-- C.8 sends a target that differs from the current one, over AVSBus unless it has failed or PMBus is primary; with both buses failed it
sends nothing (R42, R44). With PMBus primary and failed and AVSBus not, targets still go out over PMBus. Log entry 237 (DESIGN CHOICE). -/
def State.sendTarget (s : State) (mv : Nat) : State :=
  if mv = s.pace.target || (s.pace.avsFailed && s.pace.pmFailed) then s
  else
    let pm := s.pace.avsFailed || s.getN .AVS_BUS_PRIMARY == 1
    let s := { s with pace.target := mv, pace.settle := .settling, pace.attempts := 0 }
    (s.setRo .VDD_TARGET 0 mv).emit (.voltage pm mv)

/-- Windows without an upward step, above the band, and in the band, counted at each close. -/
def State.countWindows (s : State) (p : Nat) : State :=
  let hi := s.getFN .PACE_BAND_HIGH * 10
  let lo := s.getFN .PACE_BAND_LOW * 10
  { s with pace.aboveRun := if hi < p then s.pace.aboveRun + 1 else 0,
           pace.inBandRun := if lo ≤ p && p ≤ hi then s.pace.inBandRun + 1 else 0,
           pace.sinceUp := s.pace.sinceUp + 1 }

/-- Lock after 16 windows in the band; AVS_LOCK is raised once (R47). -/
def State.testLock (s : State) : State :=
  if !s.pace.locked && 16 ≤ s.pace.inBandRun then
    ({ s with pace.locked := true }).raise .AVS_LOCK (srcChip 17) regC (evData [] s.pace.target)
  else s

/-- Table 2.1 evaluated at a window close with control pace `p` of block `i`. In mode 1 C.8 holds AVS_FIXED_V and only raises events.
PACE_GUARD_TRIP is raised at every close with control pace below the guard, one that R42 leaves without a step among them; an upward term
counts as an upward step for rule 4 even where the clamp or failed buses leave the target unchanged. Log entry 232 (DESIGN CHOICE). Log entry 233 (DESIGN CHOICE). -/
def State.evalLoop (s : State) (i p : Nat) (loads : List Nat) : State :=
  let s := if p < s.getFN .PACE_GUARD * 10 then
      s.raise .PACE_GUARD_TRIP (srcRegion (i / 256) 4) (i / 256) (evData [(12, i)] p) else s
  if s.getN .AVS_MODE = 1 then s.sendTarget (clampTarget s (s.getN .AVS_FIXED_V))
  else
    match s.pace.settle with
    | .ready =>
      let up := upStep s p loads
      if 0 < up then ({ s with pace.sinceUp := 0 }).sendTarget (clampTarget s (s.pace.target + up))
      else s.sendTarget (clampTarget s (s.pace.target - downStep s))
    | .settling => s
    | .partialWindow => { s with pace.settle := .fullWindow }
    | .fullWindow =>
      let s := { s with pace.settle := .ready }
      let up := upStep s p loads
      if 0 < up then ({ s with pace.sinceUp := 0 }).sendTarget (clampTarget s (s.pace.target + up))
      else s.sendTarget (clampTarget s (s.pace.target - downStep s))

/-- AVS_LIMIT once per 1 ms while the target is clamped at VDD_MAX and pace stays below the band (R43). Log entry 19 (DESIGN CHOICE). -/
def State.testLimit (s : State) (p : Nat) : State :=
  if s.pace.target = s.getN .VDD_MAX && p < s.getFN .PACE_BAND_LOW * 10 then
    s.raiseEvery msec .AVS_LIMIT 0 (srcChip 17) regC (fun _ => evData [] p) else s

/-- Queued regulator transactions run after the window's target write, and their commands respond (R45). -/
def State.runRegulator (s : State) : State :=
  s.pace.regulator.foldl (fun s t => (s.emit (.regulator t.cmd t.data)).respondAll (.regulator t.id) .ok 0 (t.answer.map Int.ofNat))
    { s with pace.regulator := [] }

/-- A region's load, kept for the next window's rule 2. -/
def State.setLoad (s : State) (r v : Nat) : State :=
  ({ s with pace.loads := s.pace.loads.set r v }).setRo .CIPHER_LOAD r v

/-- Parameters of the loop that take effect at the next window (Table 2.5's Takes effect column): written values hold from here. -/
def State.enforceLoop (s : State) : State :=
  ([.PACE_BAND_LOW, .PACE_BAND_HIGH, .AVS_STEP_UP, .AVS_STEP_DOWN, .AVS_DOWN_HOLD, .AVS_FF_LOAD, .AVS_FF_STEP, .PACE_GUARD] : List Param).foldl
    (fun s p => s.enforce p 0) s

/-- PACE_WINDOW_CLOSE: the samples of the window are judged, control pace is taken, the loop rules are evaluated and a target may be sent.
`loads` are the 13 regions' cipher loads in percent (R42). -/
def execPaceWindowClose (loads : List Nat) (s : State) : Res :=
  .next <|
    let insts := sampled s
    let insts := if s.power.dev = DevPower.hibernate then insts.filter (fun i => i / 256 == 12) else insts
    let medians := (List.range 13).map (regionMedian s)
    let s := insts.foldl (fun s i => s.judge (medians.getD (i / 256) 0) i) s
    let cp := controlPace s insts
    let s := match cp with
      | none => s
      | some (i, p) =>
        let s := ((s.setRo .CONTROL_PACE 0 p).countWindows p).testLock
        let s := { s with pace.control := some (i, p) }
        let s := if s.power.dev = DevPower.hibernate then s else s.evalLoop i p loads
        s.testLimit p
    let s := (List.range 13).foldl (fun s r => s.setLoad r (loads.getD r 0)) s
    let s := s.runRegulator.enforceLoop
    let high := loads.foldl max 0
    match cp with
    | none => s
    | some (i, p) => s.produce 2 0 [p, s.pace.target, high, i / 256, 0]

/-- AVS_SETTLE_EXPIRY: AVS_SETTLE has passed since the target was sent; the window in hand does not count as a full one (R42). -/
def execAvsSettleExpiry (s : State) : Res :=
  .next (if s.pace.settle = .settling then { s with pace.settle := .partialWindow } else s)

/-! ### The buses (R44, R45) -/

/-- AVS_BUS_FAULT with the flags of the failed buses (bit 0 AVSBus, bit 1 PMBus) and the attempts made. -/
def State.busFault (s : State) : State :=
  s.raise .AVS_BUS_FAULT (srcChip 17) regC (evData [(8, b2n s.pace.avsFailed + 2 * b2n s.pace.pmFailed)] s.pace.attempts)

/-- AVSBUS_TRANSACTION_DONE: `ok` when the answer was valid; after 3 failed attempts the same target goes out as VOUT_COMMAND, and
`pmbusOk` says whether PMBus took it. -/
def execAvsbusTransactionDone (ok pmbusOk : Bool) (s : State) : Res :=
  .next <|
    if s.pace.avsFailed then s
    else if ok then { s with pace.attempts := 0 }
    else if s.pace.attempts + 1 < 3 then
      ({ s with pace.attempts := s.pace.attempts + 1 }).emit (.voltage false s.pace.target)
    else
      let s := { s with pace.attempts := 3, pace.avsFailed := true, pace.pmFailed := !pmbusOk }
      (s.emit (.voltage true s.pace.target)).busFault

/-- AVSBUS_RETRY: every 100 ms after a failure; a valid answer restores AVSBus with the target in force. -/
def execAvsbusRetry (ok : Bool) (s : State) : Res :=
  .next <|
    if !s.pace.avsFailed then s
    else
      let s := s.emit (.voltage false s.pace.target)
      if ok then { s with pace.avsFailed := false, pace.attempts := 0 } else s

/-- PMBUS_STATUS_POLL: every 1 ms voltage, current, temperature and status; no answer is a PMBus failure, raised with the PMBus flag alone
while AVSBus works, and an answer after one lets the target in force be sent again. Log entry 20 (DESIGN CHOICE). Log entry 236 (DESIGN CHOICE). -/
def execPmbusStatusPoll (answer : Option RegStatus) (s : State) : Res :=
  .next <|
    match answer with
    | none =>
      if s.pace.pmFailed then s else ({ s with pace.pmFailed := true }).busFault
    | some a =>
      let s := (s.setRo .VDD_READ 0 a.mv).setRo .CORE_POWER 0 (a.mv * a.ma / 1000)
      let back := s.pace.pmFailed && s.pace.avsFailed
      let s := { s with pace.pmFailed := false, pace.current := a.ma, pace.temperature := a.temperature, pace.status := a.status }
      if back then s.emit (.voltage true s.pace.target) else s

/-- PMBus command code of VOUT_COMMAND. -/
def voutCommand : Nat := 0x21

/-- REGULATOR_PASSTHROUGH: queued in C.8 while the loop is enabled and run after the current window's target write; VOUT_COMMAND is
rejected with NO_RIGHT unless AVS_MODE is 1 (R45). Of the PMBus commands only VOUT_COMMAND counts as altering the output voltage. `answer` is what the regulator returns. Log entry 21 (DESIGN CHOICE). Log entry 238 (DESIGN CHOICE). -/
def execRegulatorPassthrough (mb : Fin 16) (cmd data : Nat) (answer : List Nat) (s : State) : Res :=
  hostCmd s mb 0x0201 fun _ s =>
    if cmd = voutCommand && s.getN .AVS_MODE != 1 then fail s .noRight
    else if s.pace.pmFailed then fail s .faulted
    else if s.getN .AVS_MODE = 1 then okay (s.emit (.regulator cmd data)) (answer.map Int.ofNat)
    else
      let id := s.pace.nextTxn
      ({ s with pace.regulator := s.pace.regulator ++ [⟨id, cmd, data, answer⟩], pace.nextTxn := id + 1 }, .wait (.regulator id) true)

/-! ### Bridges (R49 to R51) -/

/-- Region and block of a lane's bridge: PON lane block of the tree, uplink lane block of the port, tether lane block of the port. -/
def laneBlock (type inst : Nat) : Nat × Nat :=
  match type with
  | 0 => (inst / 16, inst / 4 % 4)
  | 1 => (8 + inst / 16, inst / 8 % 2)
  | _ => (11, inst / 17)

def laneIndex (type inst : Nat) : Nat := type * 256 + inst

/-- A bridge fault while the block's pace is at least 2.5 G hc/s is a fault of the handshake-side block (Table 19.3). -/
def State.bridgeFault (s : State) (type inst : Nat) : State :=
  let (r, b) := laneBlock type inst
  if 2500 ≤ s.ro .PACE_NOW (holderInst s r b) then s.reportRole r b none 8 else s

/-- BRIDGE_OVERRUN: the word is dropped, what holds it is marked errored, and the drop is counted (R50). -/
def execBridgeOverrun (type : Fin 3) (inst : Fin 128) (s : State) : Res :=
  .next <|
    let k := laneIndex type inst
    let n := s.pace.overruns.get k + 1
    let s := { s with pace.overruns := s.pace.overruns.set k n, pace.spoiled := s.pace.spoiled.set k true }
    let r := (laneBlock type inst).1
    (s.raise .BRIDGE_OVERRUN (srcRegion r 5) r (evData [(7, inst.val)] n)).bridgeFault type inst

/-- What an empty transmit bridge does (R51): on a tree lane the FEC codeword in transmission is completed with zeros and a parity that fails the
code check; on an uplink lane the frame in transmission of its MAC ends with an invalid FCS; on a tether lane idle fill is sent and the
tributary marks the frame invalid. -/
def State.underrun (s : State) (type inst : Nat) : State :=
  match type with
  | 0 => s.emit (.badCodeword inst)
  | 1 => ((List.range 32).filter (fun m => macUsed s m && (macLanes s m).contains inst && decide (s.up < (s.mac m).busyUntil))).foldl
      (fun s m => match (s.mac m).sending with
        | none => s
        | some id => s.emit (.badFcs id)) s
  | _ => s.emit (.tetherInvalid inst)

/-- BRIDGE_UNDERRUN: the codeword, frame or tether frame in transmission is spoiled as its lane type defines (R51), and the event counted. -/
def execBridgeUnderrun (type : Fin 3) (inst : Fin 128) (s : State) : Res :=
  .next <|
    let k := laneIndex type inst
    let n := s.pace.underruns.get k + 1
    let s := ({ s with pace.underruns := s.pace.underruns.set k n }).underrun type inst
    let r := (laneBlock type inst).1
    (s.raise .BRIDGE_UNDERRUN (srcRegion r 5) r (evData [(7, inst.val)] n)).bridgeFault type inst

/-- A received burst, codeword or frame on a lane: was one of its words dropped? The mark is taken with it. Log entry 22 (DESIGN CHOICE). -/
def State.takeSpoiled (s : State) (type inst : Nat) : Bool × State :=
  (s.pace.spoiled.get (laneIndex type inst), { s with pace.spoiled := s.pace.spoiled.set (laneIndex type inst) false })

/-! ### Capacity reports (R26, R43) -/

/-- Is a report's sequence number later than the last applied, in modulo-65,536 order (R26)? Log entry 23 (DEDUCED). -/
def laterSeq (last : Option Nat) (seq : Nat) : Bool :=
  match last with
  | none => true
  | some l =>
    let d := (seq + 65536 - l) % 65536
    1 ≤ d && d < 32768

/-- CAPACITY_REPORT: a report that the region sent reaches a consumer, which applies it only when its sequence number is later than the last
applied; a number the region has not sent brings nothing. -/
def execCapacityReport (consumer : Consumer) (region : Fin 13) (seq : BitVec 16) (s : State) : Res :=
  .next <|
    let k := consumerKey consumer region
    let h := s.pace.held.get k
    match (s.pace.capSent.get region.val).find? (fun x => x.seq == seq.toNat) with
    | none => s
    | some x => if laterSeq h.last x.seq then { s with pace.held := s.pace.held.set k ⟨some x.seq, some x.figures⟩ } else s

end Sys2Proof.Machine
end

