-- ==== Sys2Proof/Machine/Upstream.lean ====
section
/-! DEFINITION. Upstream burst reception: the delimiter hunt, FEC counts, PLOAMu messages, reports, GEM delineation, reassembly and line
defects (spec/06). -/
namespace Sys2Proof.Machine

/-! ### Bursts in the loss of light window (R63) -/

/-- A granted burst of a tree in its loss of light window (R63). -/
def State.opticBurst (s : State) (tree : Nat) (found : Bool) : State :=
  let o := s.optic tree
  s.setOptic tree { o with granted := o.granted + 1, delimiters := o.delimiters + b2n found }

/-! ### Commissioning (R392) -/

/-- The median of a list; of an even number the mean of the middle two. -/
def medianOf (l : List Int) : Int :=
  let a := l.orderBy (fun x y => decide (x ≤ y))
  let n := a.length
  if n = 0 then 0 else if n % 2 = 1 then a.getD (n / 2) 0 else (a.getD (n / 2 - 1) 0 + a.getD (n / 2) 0) / 2

/-- A commissioning ends: δ is stored, a δ beyond 100 µs blocks switches, and PROT_COMMISSION responds. Log entry 284 (DEDUCED). -/
def State.endCommission (s : State) (tree : Nat) (k : Commission) : State :=
  let s := { s with prot.commission := s.prot.commission.set tree none }
  if k.diffs.length < 4 then s.respondAll (.commission tree) .timeout 0 []
  else
    let d := medianOf k.diffs
    let s := s.setPar .PROT_FEEDER_DELTA tree d
    let record (s : State) (c : Nat) : State := s.mirror tree c (.channel (s.chan c).enabled (s.getF .RANGE_TEQD c).toNat d)
    let s := record (record s (2 * tree)) (2 * tree + 1)
    let s := if 100000000 < d.natAbs then s.blocked tree 1 else s
    s.respondAll (.commission tree) .ok 0 [d]

/-- A named terminal's burst measured by the peer: via member B less via member A. Log entry 68 (DESIGN CHOICE). -/
def State.commissionBurst (s : State) (t : Nat) (feeder : Option Int) : State :=
  let tree := (s.term t).chan / 2
  match s.prot.commission.get tree, feeder with
  | some k, some d =>
    if k.terms.contains t then
      let k := { k with terms := k.terms.erase t, diffs := k.diffs ++ [if s.prot.memberB then -d else d] }
      if k.terms.isEmpty && 4 ≤ k.diffs.length then s.endCommission tree k
      else { s with prot.commission := s.prot.commission.set tree (some k) }
    else s
  | _, _ => s

/-! ### Bursts -/


/-- The lane entry in hand on a terminal's receive lane is its burst: the frame whose map grants it, and its start there. -/
def grantOfBurst (s : State) (t : Nat) : Nat × Nat :=
  match (s.ln (rxLane (s.term t).chan)).current with
  | some p => if planTerm p = some t then (p.frame, (p.entry.map (·.start)).getD 0) else (s.pon.tl.sfc, 0)
  | none => (s.pon.tl.sfc, 0)

/-- The scheduled position is met (R155): within DRIFT_LIMIT ÷ 64 + 2 bits of a scheduled start. -/
def onSchedule (s : State) (v : Terminal) (pos : Int) : Bool :=
  (scheduledStarts v).any (fun p => decide ((pos - p).natAbs ≤ s.getN .DRIFT_LIMIT v.chan / 64 + 2))

/-- A burst begins to be received, with the keystream dispatched for its frame; that of frames before it is done with (R341). -/
def State.beginRx (s : State) (t : Nat) (k : Candidate) (phase : Int) : State :=
  let v := s.term t
  let g := grantOfBurst s t
  let l := s.line t
  let s := (l.ks.filter (fun x => decide (x.frame < g.1))).foldl (fun s x => s.discardJob (regionOfChan v.chan) x.job) s
  s.setLine t { l with ks := l.ks.filter (fun x => decide (g.1 ≤ x.frame)),
                       rx := some { frame := g.1, start := g.2, pos := k.pos, arrival := 64 * k.pos + phase, scheduled := onSchedule s v k.pos,
                                    ks := l.ks.find? (fun x => x.frame == g.1) } }

/-- UPSTREAM_BURST: a granted burst's delimiter confirmed: hunt and BIP counts, the dying gasp flag, the end of a run of misses, a return from
LOST (R143). The delimiter's position with the lane's phase there is the arrival measurement (R155). The burst of a holder no longer bound is
received and discarded (R217). Log entry 67 (DESIGN CHOICE). -/
def execUpstreamBurst (term : Fin 8192) (burst : UsBurst) (s : State) : Res :=
  .next <|
    let t := term.val
    let v := s.term t
    let c := v.chan
    let o := hunt s v burst.cands
    match o.found with
    | none => s
    | some k =>
      let s := (s.huntCounts c o).opticBurst (c / 2) true
      if !burstHeld v then s.setChan c { s.chan c with discarded := (s.chan c).discarded + 1 }
      else
        let s := s.beginRx t k burst.phase
        let s := s.bump .US_BIP_ERR t burst.bip
        let s := if burst.gasp then s.setTerm t { s.term t with gaspAt := some s.up } else s
        let s := if recovering s c then s else s.burstSeen t (64 * k.pos + burst.phase)
        s.commissionBurst t burst.feeder

/-- Keystream of a burst that is not received is discarded (R341). -/
def State.dropKeystream (s : State) (t frame : Nat) : State :=
  let l := s.line t
  let gone := l.ks.filter (fun x => x.frame == frame)
  let s := gone.foldl (fun s x => s.discardJob (regionOfChan (s.term t).chan) x.job) s
  s.setLine t { l with ks := l.ks.filter (fun x => x.frame != frame) }

/-- DELIMITER_MISS: a hunt window closes without a confirmed candidate (R156): counted, tested for demotion (R79) and for loss of burst (R143),
outside a recovery (R488). Nothing further of the burst is decoded, and its keystream is discarded. -/
def execDelimiterMiss (term : Fin 8192) (cands : List Candidate) (s : State) : Res :=
  .next <|
    let t := term.val
    let v := s.term t
    let c := v.chan
    let o := hunt s v cands
    if o.found.isSome then s
    else
      let late := (s.ln (rxLane c)).late
      let s := ((s.huntCounts c o).bumpF .US_DELIM_STATS c 31 16).opticBurst (c / 2) false
      let s := (s.setLine t { s.line t with rx := none }).dropKeystream t (grantOfBurst s t).1
      if !burstHeld v || recovering s c then s else (s.missCounters t).missBurst t (!late && !inProbe s c)

/-! ### FEC and defects (R157, R158, R168, R169) -/

/-- Corrected bits that an uncorrectable codeword stands for (Table 6.1). -/
def fecWeight (c rate : Nat) : Nat := if c % 2 = 0 then 173 else if rate = 1 then 17 else 9

/-- Bits set in a list of bytes. -/
def bitsSet (l : List Byte) : Nat := l.foldl (fun n b => n + ((List.range 8).filter (fun i => b.getLsbD i)).length) 0

/-- A codeword decodes (Table 6.1): RS corrects half as many symbols as it has parity bytes; LDPC has converged within 10 iterations. -/
def decodes (c rate : Nat) (errs : List Byte) (iterations : Nat) : Bool :=
  if c % 2 = 0 then decide (iterations ≤ 10) else decide (2 * (errs.filter (· != 0)).length ≤ parityBytes rate)

/-- Does a run of information bytes touch an uncorrectable codeword of the burst (R158)? -/
def touchesBad (x : BurstRx) (from_ len : Nat) : Bool := x.bad.any (fun b => decide (b.1 < from_ + len) && decide (from_ < b.1 + b.2))

/-- A codeword counted in a window; the first one of a terminal opens it. -/
def countWord (s : State) (c : Nat) (sf : Bool) (w : BerWindow) (n corrected : Nat) : BerWindow :=
  let w := if w.rule.isNone then openWindow s c sf else w
  { w with bits := w.bits + n, corrected := w.corrected + corrected }

/-- FEC_CODEWORD: the burst's next codeword, of `info` information bytes, fewer in the last one; `errs` are the errors that its decoder finds in
its bytes, and `iterations` what the LDPC decoder took. One whose word was dropped at the lane's bridge does not decode (R50). Codewords of a recovery
stay out of the windows (R488). Log entry 265 (DESIGN CHOICE). -/
def execFecCodeword (term : Fin 8192) (info : Nat) (errs : List Byte) (iterations : Nat) (s : State) : Res :=
  .next <|
    let t := term.val
    let v := s.term t
    let c := v.chan
    match (s.line t).rx with
    | none => s
    | some x =>
      if !burstHeld v then s
      else
        let info := min info (infoBytes v.rate)
        let (spoiled, s) := s.takeSpoiled 0 (rxLane c)
        let ok := !spoiled && decodes c v.rate errs iterations
        let bits := 8 * (info + parityBytes v.rate)
        let k := if ok then bitsSet errs else fecWeight c v.rate
        let s := if ok then s.bump .US_FEC_CORR_BITS t k else s.bump .US_FEC_UNCORR t
        let x := { x with decoded := x.decoded + info, bad := if ok then x.bad else x.bad ++ [(x.decoded, info)] }
        let l := { s.line t with rx := some x }
        s.setLine t (if recovering s c then l else { l with sd := countWord s c false l.sd bits k, sf := countWord s c true l.sf bits k })

/-- -log10(corrected ÷ bits) × 100, rounded down; 0xFFFF when no error. Log entry 65 (DESIGN CHOICE). -/
def berEstimate (corrected bits : Nat) : Nat :=
  if corrected = 0 then 0xFFFF
  else ((List.range 1200).filter (fun k => decide (corrected ^ 100 * 10 ^ (k + 1) ≤ bits ^ 100))).length

/-- A window closes: whether its estimate declares, and whether it clears. -/
def windowJudge (w : BerWindow) (rule : Nat × Nat × Nat × Nat) : Bool × Bool :=
  let (x, factor, _, ratio) := rule
  let full := decide (factor * 10 ^ x ≤ w.bits)
  let counts := full || decide (10 ^ x ≤ w.bits)
  (counts && decide (w.bits ≤ w.corrected * 10 ^ x), counts && decide (w.corrected * 10 ^ x * ratio < w.bits))

/-- BER_WINDOW_CLOSE: the SF (`fail`) or SD window of a terminal closes by volume or time; its defect is declared or cleared and a new window
opens at once. Log entry 66 (DESIGN CHOICE). -/
def execBerWindowClose (term : Fin 8192) (fail : Bool) (s : State) : Res :=
  .next <|
    let t := term.val
    let c := (s.term t).chan
    let l := s.line t
    let w := if fail then l.sf else l.sd
    let on := if fail then l.sfOn else l.sdOn
    match w.rule with
    | none => s
    | some (x, factor, ms, ratio) =>
      if w.bits < factor * 10 ^ x && s.up - w.opened < ms * msec then s
      else
        let j := windowJudge w (x, factor, ms, ratio)
        let now := if j.1 then true else if j.2 then false else on
        let est := berEstimate w.corrected w.bits
        let fresh := openWindow s c fail
        let s := s.setLine t (if fail then { l with sf := fresh, sfOn := now } else { l with sd := fresh, sdOn := now })
        let hi := if fail then 15 else 31
        let lo := if fail then 0 else 16
        let s := s.setRo .US_BER_EST t (setField (s.ro .US_BER_EST t).toNat hi lo est : Nat)
        let s := s.setRo .US_DEFECT_STATE t (b2n (s.line t).sfOn * 2 + b2n (s.line t).sdOn : Nat)
        let kind : EvKind := if fail then .US_SF else .US_SD
        if now == on then s
        else if now then s.raise kind (srcChan c 12) (regionOfChan c) (evData [(13, t)] est)
        else s.raiseAs kind true (srcChan c 12) (regionOfChan c) (evData [] t)

/-! ### PLOAMu messages and reports (R159, R160) -/

/-- Where a burst's PLOAMu message stands among its information bytes: behind the header. -/
def ploamuAt : Nat := 4

/-- PLOAMU_MESSAGE: a message of a burst, by its contents as numbers, and its integrity code. A cipher pair checks it with the key of R100; one that
passes goes to the active control pair: `answer` is the key of an answer to a key request (R349). A message of an uncorrectable codeword is discarded
and counted (R158), one that fails its code too. -/
def execPloamuMessage (term : Fin 8192) (message : List Nat) (mic : Nat) (answer : Option Nat) (s : State) : Res :=
  .next <|
    let t := term.val
    let v := s.term t
    let c := v.chan
    match (s.line t).rx with
    | none => s
    | some x =>
      if !burstHeld v then s
      else if touchesBad x ploamuAt 48 then s.setLine t { s.line t with ploamErrored := (s.line t).ploamErrored + 1 }
      else if mic != Config.ploamCode (slotMsk s t) message then
        (s.setLine t { s.line t with micFails := (s.line t).micFails + 1 }).raiseSec .PLOAMU_MIC_FAIL t (srcChan c 12) (regionOfChan c)
          (fun n => evData [(13, t)] n)
      else
        let s := (s.setTerm t { v with askPloamu := false }).setChan c { s.chan c with toPair := (s.chan c).toPair ++ [(t, message)] }
        match answer with
        | none => s
        | some blob => s.keyAnswer t blob

/-- BURST_REPORT: a report of a burst, at a place among its information bytes, on its way to the solver, or discarded and counted: in an uncorrectable
codeword or with a bad CRC, the invalid value, or an allocation no longer bound. -/
def execBurstReport (term : Fin 8192) (alloc : Fin 32768) (at_ : Nat) (crc : Bool) (occupancy : Nat) (s : State) : Res :=
  .next <|
    let a := s.alloc alloc
    let c := (s.term term).chan
    match (s.line term).rx with
    | none => s
    | some x =>
      if !crc || touchesBad x at_ 4 then s.bumpF .US_REPORT_DISCARDS c 31 16
      else if occupancy % 2 ^ 24 = 0xFFFFFF || !(a.valid && a.chan == c) then s.bumpF .US_REPORT_DISCARDS c 15 0
      else { s with dba.transit := s.dba.transit ++ [(alloc.val, x.frame % 2 ^ 14, occupancy % 2 ^ 24)] }

/-! ### Delineation and reassembly (R162 to R167) -/

/-- Granules of an SDU in the reassembly store. -/
def granules (n : Nat) : Nat := ceilDiv n 256

/-- Granules free in a region's store of 2,048. -/
def granulesFree (s : State) (r : Nat) : Nat :=
  2048 - s.pon.reasm.foldl (fun n e => match e.2 with
    | some o => if (s.gem e.1).chan / 8 = r then n + granules o.len else n
    | none => n) 0

def State.setReasm (s : State) (g : Nat) (v : Option Reasm) : State := { s with pon.reasm := s.pon.reasm.set g v }

/-- A port that a burst of terminal `t` may carry (R163). -/
def knownPort (e : GemEntry) (t : Nat) : Bool := 2 ≤ e.dir && !e.mcast && e.term == t

/-- The key index of a frame is the one its port calls for (R164). -/
def keyFits (s : State) (e : GemEntry) (key : Nat) : Bool :=
  if key = 0 then e.cipher == 0
  else e.cipher == 1 && key ≤ 2 && usable (s.slot (pairSlot (termPair e.term) key))

/-- A fragment discarded: its port's open SDU goes with it (R166). -/
def State.dropFragment (s : State) (g : Nat) (last : Bool) : State :=
  let s := s.dropReasm g
  if last then s.setReasm g none else s

/-- An upstream OMCI message's integrity code fails: its last 4 bytes are not the code of the rest (Table 1.4). -/
def omciFails (s : State) (t : Nat) (f : Frame) : Bool :=
  let n := f.bytes.length - 4
  f.bytes.drop n != (Config.omciCode (slotMsk s t) (f.bytes.take n)).take 4

/-- A released SDU: to the OMCI path, counted and flagged where its integrity check fails, or to Tn.19 and Tn.20 (R165, Table 1.4). -/
def State.release (s : State) (g : Nat) (f : Frame) : State :=
  let e := s.gem g
  if e.omci then
    let bad := omciFails s e.term f
    let s := if bad then { s with host.omciBad := s.host.omciBad.set e.term (satTo 32 (s.host.omciBad.get e.term + 1)) } else s
    s.stage 1 { len := f.len, meta_ := b2n bad * 2 ^ 31 + e.term, payload := .omci e.term f.bytes }
  else { s with pon.released := s.pon.released ++ [⟨e.term, g, f⟩] }

/-- A fragment accepted for a GEM index, `bytes` its payload in clear (R165 to R167). -/
def State.fragment (s : State) (g : Nat) (x : UsGem) (bytes : List Byte) : State :=
  let c := (s.gem g).chan
  let r := regionOfChan c
  let n := bytes.length
  match s.pon.reasm.get g with
  | some o =>
    if o.dead then (if x.last then s.setReasm g none else s)
    else if o.max < o.len + n || granulesFree s r + granules o.len < granules (o.len + n) then s.dropFragment g x.last
    else if x.last then (s.setReasm g none).release g { id := x.id, len := o.len + n, bytes := o.bytes ++ bytes }
    else s.setReasm g (some { o with len := o.len + n, bytes := o.bytes ++ bytes, last := s.up })
  | none =>
    if x.last then s.release g { id := x.id, len := n, bytes := bytes }
    else
      let o : Reasm := { max := s.getN .REASM_MAX_SDU c, len := n, bytes := bytes, last := s.up }
      let dead : Option Reasm := some { o with dead := true, len := 0, bytes := [] }
      if granulesFree s r = 0 then
        ((s.setReasm g dead).bumpF .US_GEM_DISCARDS c 7 0).raiseSec .REASM_FULL r (srcRegion r 19) r (fun n => evData [(4, r)] n)
      else if o.max < n || granulesFree s r < granules n then (s.setReasm g dead).bumpF .US_GEM_DISCARDS c 7 0
      else s.setReasm g (some o)

/-- Information bytes descrambled: the scrambler is preset at the start of the burst (R158). -/
def descramble (c at_ : Nat) (bs : List Byte) : List Byte := bs.zipIdx.map (fun b => b.1 ^^^ Config.usScrambler (c % 2) (at_ + b.2))

/-- A payload decrypted with the counter block that the standard forms of the superframe count and its place in the burst (R164, R338). -/
def openPayload (c key : Nat) (x : BurstRx) (at_ : Nat) (bs : List Byte) : List Byte :=
  bs.zipIdx.map (fun b => b.1 ^^^ Config.keystream key [c % 2, 1, x.frame, x.start, at_] b.2)

/-- The keystream of a frame with a key index: that dispatched when the map arrived, or, of the other index, one computed on arrival (R341). Its key,
none where it is not ready in time (R336), and whether an operation of it failed (R331). -/
def State.keystreamOf (s : State) (t c : Nat) (x : BurstRx) (key len : Nat) : Option Nat × Bool × State :=
  let r := regionOfChan c
  match x.ks.filter (fun k => k.index == key) with
  | some k =>
    let s := s.settlePairs r
    if jobFailed s r k.job then (none, true, s)
    else if jobReady s r k.job (s.up + keystreamNs) then (some k.key.key, false, s) else (none, false, s)
  | none =>
    let cur := ((s.line t).keys.find? (fun k => k.1 == key)).elim (s.slot (pairSlot (termPair t) key)).cur (fun k => some k.2)
    let (good, s) := s.receiveWork r cur (aesBlocks len)
    (if good then cur.map (·.key) else none, false, s)

/-- An accepted frame's payload: descrambled, decrypted where it has a key, and reassembled; without its keystream the frame is discarded and, where
that was late, counted (R336). -/
def State.acceptGem (s : State) (c g : Nat) (x : BurstRx) (gem : UsGem) : State :=
  let at_ := gem.at_ + 8
  let bytes := descramble c at_ gem.payload
  if gem.key = 0 then s.fragment g gem bytes
  else match s.keystreamOf (s.gem g).term c x gem.key bytes.length with
    | (some key, _, s) => s.fragment g gem (openPayload c key x at_ bytes)
    | (none, true, s) => s.dropFragment g gem.last
    | (none, false, s) => (s.cipherLate (regionOfChan c)).dropFragment g gem.last

/-- XGEM_FRAME: an XGEM header delineated in a burst of terminal `term` and its frame checked, decrypted and reassembled or discarded. A header that is
uncorrectable or lies in an uncorrectable codeword ends the delineation of its allocation: what follows of it is no frame (R162). Log entry 63 (DEDUCED). Log entry 64 (DEDUCED). -/
def execXgemFrame (term : Fin 8192) (gem : UsGem) (s : State) : Res :=
  .next <|
    let t := term.val
    let c := (s.term t).chan
    match (s.line t).rx with
    | none => s
    | some x =>
      if x.lost.contains gem.alloc then s
      else if !gem.header || touchesBad x gem.at_ 8 then
        (s.setLine t { s.line t with rx := some { x with lost := x.lost ++ [gem.alloc] } }).bumpF .US_GEM_DISCARDS c 31 24
      else if gem.idle then s
      else
        let errored := touchesBad x (gem.at_ + 8) gem.payload.length
        let unknown (s : State) : State :=
          (s.bumpF .US_GEM_DISCARDS c 23 16).raiseSec .GEM_UNKNOWN_PORT c (srcChan c 12) (regionOfChan c) (fun _ => evData [(6, c)] gem.port)
        match gemOfPort s c gem.port with
        | none => if errored then s.bumpF .US_GEM_DISCARDS c 31 24 else unknown s
        | some g =>
          let e := s.gem g
          if errored then
            let s := s.bumpF .US_GEM_DISCARDS c 31 24
            if e.term = t then s.dropFragment g gem.last else s
          else if !knownPort e t then unknown s
          else if !keyFits s e gem.key then (s.bumpF .US_GEM_DISCARDS c 15 8).dropFragment g gem.last
          else s.acceptGem c g x gem

/-- REASM_TIMEOUT_EXPIRY: at a frame start, open SDUs without a fragment for REASM_TIMEOUT are discarded. -/
def execReasmTimeoutExpiry (s : State) : Res :=
  .next <|
    (s.pon.reasm.keys (fun g o => match o with
      | some r => !r.dead && decide (s.getN .REASM_TIMEOUT (s.gem g).chan * 1000 < s.up - r.last)
      | none => false)).foldl State.dropReasm s

end Sys2Proof.Machine
end

