-- ==== Sys2Proof/Machine/Classify.lean ====
section
/-! DEFINITION. Classification: downstream passes and rule sets, upstream parse with spoofing checks and learning messages, punts
(R225 to R247, R257, R258, R264, R265). -/
namespace Sys2Proof.Machine

/-! ### Where a frame goes (R276 steps 1 and 2) -/

/-- The enabled queue of a GEM index at a level; its bridge queue. -/
def queueAtLevel (s : State) (g lv : Nat) : Option Nat := (s.fwd.downQ.keys (fun _ q => q.enable && q.bind == some g && q.level == lv)).head?
def bridgeQueue (s : State) (g : Nat) : Option Nat := (s.fwd.downQ.keys (fun _ q => q.bridge && q.bind == some g)).head?

/-- Watch index of the queue a job is placed on, and whether its level override missed. -/
def resolve (s : State) (j : Job) : Option Nat × Bool :=
  let named : Option Nat := match j.dest with
    | .down q => some q
    | .up q => some (65536 + q)
    | .bridge g => bridgeQueue s g
  match j.level, named with
  | some lv, some w =>
    if w < 65536 then match (s.dq w).bind with
      | some g => match queueAtLevel s g lv with
        | some q => (some q, false)
        | none => (some w, true)
      | none => (some w, true)
    else (some w, false)
  | _, w => (w, false)

/-- A queue on the express path: level 7 of a tree channel, or class 7 of a MAC, with EXPRESS_EN = 1 (R281, R282, R312). -/
def expressQueue (s : State) (w : Nat) : Bool :=
  let q := s.queueAt w
  match q.bind with
  | none => false
  | some b => q.level = 7 && s.getN .EXPRESS_EN (if w < 65536 then 32 + (s.gem b).chan else b) = 1

/-- Length that a cut-through buffer is asked with (R314). -/
def cutLen (p : Parsed) (maxFrame : Nat) : Nat :=
  match p.ipEnd with
  | some e => if p.bad = 0 then min maxFrame (max 64 (e + 4)) else maxFrame
  | none => maxFrame

/-- A job asks for its buffer (R303, R312, R314). -/
def State.askBuffer (s : State) (j : Job) (p : Parsed) : State :=
  let w := (resolve s j).1
  let ex := w.any (expressQueue s)
  let len := if ex then cutLen p (s.queueAt (w.getD 0)).maxFrame else j.frame.len
  { s with fwd.wants := s.fwd.wants ++ [⟨j.cls, len, ex, ex, .job j⟩] }

/-! ### Punts (R229, Table 16.6) -/

/-- A punted packet on its way to the host with its reason, parse port and GEM index; a buffer it holds from recirculation is released. Log entry 100 (DESIGN CHOICE). -/
def State.punt (s : State) (reason port gem : Nat) (f : Frame) : State :=
  (s.stage 2 { len := f.len, meta_ := reason * 2 ^ 28 + port * 2 ^ 21 + gem, payload := .frame { f with buf := none } }).freeFrame 14 f

/-- A packet dropped between classification and its queue. -/
def State.dropPkt (s : State) (f : Frame) : State := s.freeFrame 14 f

/-! ### Rule sets (R232 to R238) -/

/-- Bank of an epoch: the active bank, or the other. -/
def bankOf (s : State) (epoch : Nat) : Nat := if epoch = s.fwd.rules.epoch then s.fwd.rules.active else 1 - s.fwd.rules.active

/-- The staging bank, unless a set drains. -/
def staging (s : State) : Nat := 1 - s.fwd.rules.active

def State.setRules (s : State) (r : RuleSets) : State := { s with fwd.rules := r }

/-- In-flight count of an epoch in a region changed. -/
def State.flight (s : State) (region epoch : Nat) (d : Int) : State :=
  let r := s.fwd.rules
  let i := region * 16 + epoch
  s.setRules { r with inFlight := r.inFlight.set i ((r.inFlight.get i : Int) + d).toNat }

/-- In-flight packets of an epoch in both regions. -/
def inFlight (s : State) (epoch : Nat) : Nat := s.fwd.rules.inFlight.get epoch + s.fwd.rules.inFlight.get (16 + epoch)

/-- Format of a rule: its VALUE bits [383:382]. -/
def ruleFormat (r : Rule) : Nat := r.value / 2 ^ 382 % 4

/-- The valid rule with the lowest index whose masked bits equal the packet's key of its format (R234). -/
def matchRule (s : State) (bank : Nat) (keys : Nat → Nat) : Option (Nat × Rule) :=
  (s.fwd.rules.rules.filterMap (fun c => match c.2 with
    | some r => if r.valid && c.1 / 8192 = bank && (keys (ruleFormat r) ^^^ r.value) &&& r.mask = 0 && ruleFormat r != 3 then some (c.1 % 8192, r) else none
    | none => none)).head?

/-- A rule's hit counted in a region; the count saturates (R520). -/
def State.hitRule (s : State) (region bank i : Nat) : State :=
  let r := s.fwd.rules
  let k := region * 16384 + bank * 8192 + i
  s.setRules { r with hits := r.hits.set k (min (2 ^ 64 - 1) (r.hits.get k + 1)) }

def ruleAction (r : Rule) : Nat := bits r.w0 31 28

/-- The meter a rule enables in place of any other (R234); none: that of the flow entry. Log entry 97 (DESIGN CHOICE). -/
def ruleMeter (r : Rule) : Meter :=
  if bit r.w1 15 then .policer (bits r.w1 31 16) else if bit r.w1 14 then .marker (bits r.w1 11 0) else .none

def ruleLevel (r : Rule) : Option Nat := if bit r.w0 27 then some (bits r.w0 26 24) else none

/-! ### Downstream classification -/

/-- A downstream packet forwarded: metered, then to a buffer, or straight to its queue when it holds one. -/
def State.forward (s : State) (k : Pkt) (p : Parsed) (dest : Dest) (level : Option Nat) (m : Meter) : State :=
  let (r, s) := s.meter m k.frame p
  match r with
  | none => s.dropPkt k.frame
  | some (colour, f) =>
    let j : Job := { frame := f, cls := if k.second then 14 else k.mac / 16, dest := dest, level := level, colour := colour, port := k.mac }
    if k.second then { s with fwd.jobs := s.fwd.jobs ++ [j] } else s.askBuffer j p

/-- A downstream miss: DS_MISS_ACTION (R234). -/
def State.downMiss (s : State) (k : Pkt) : State :=
  if s.getN .DS_MISS_ACTION k.mac = 1 then s.punt 4 k.mac 0 k.frame else s.dropPkt k.frame

/-- A bridging miss: BRIDGE_MISS_ACTION of the ingress MAC (R258, R276). -/
def State.bridgeMiss (s : State) (mac : Nat) (f : Frame) : State :=
  if s.getN .BRIDGE_MISS_ACTION mac = 1 then s.punt 4 mac 0 f else s.dropPkt f

/-- LOOKUP of a downstream packet in the flow table under a profile (R234, R258). -/
def State.downLookup (s : State) (k : Pkt) (p : Parsed) (profile : Nat) (level : Option Nat) (own : Meter) (parity : Parity) : State :=
  let key := flowKey s profile (fun f => packetKey f k.mac k.copy k.second p) (downMeta k.mac)
  let (e, s) := s.lookup 0 key parity
  match e with
  | none => s.downMiss k
  | some e => match e.v with
    | .mac _ _ _ _ => s.downMiss k
    | .flow kind queue meter marker index =>
      let m := if own != .none then own else if !meter then .none else if marker then .marker index else .policer index
      match kind with
      | 0 => s.forward k p (.down queue) level m
      | 2 => s.dropPkt k.frame
      | 3 => s.punt 3 k.mac 0 k.frame
      | 4 => s.downMiss k
      | 5 =>
        let (b, s) := s.lookup 1 (macKey queue p.dmac) parity
        match b with
        | some x => match x.v with
          | .mac port _ _ _ => s.forward k p (.bridge port) level m
          | .flow _ _ _ _ _ => s.bridgeMiss k.mac k.frame
        | none => s.bridgeMiss k.mac k.frame
      | _ => (s.bump .FLOW_KIND_ERR 0).dropPkt k.frame

/-- The last rule match of a packet: it is no longer in flight (R235). -/
def State.landed (s : State) (k : Pkt) : State := s.flight (k.mac / 16) k.epoch (-1)

/-- A packet matched against the rules of its epoch (R234, R239). -/
def State.classify (s : State) (k : Pkt) (p : Parsed) (parity : Parity) : State :=
  let region := k.mac / 16
  let bank := bankOf s k.epoch
  let keys := fun f => packetKey f k.mac k.copy k.second p
  match matchRule s bank keys with
  | none =>
    let s := s.landed k
    match s.getN .CLASS_MISS_ACTION k.mac with
    | 0 => s.downLookup k p 0 none .none parity
    | 1 => s.dropPkt k.frame
    | _ => s.punt 4 k.mac 0 k.frame
  | some (i, r) =>
    let s := s.hitRule region bank i
    match ruleAction r with
    | 0 => (s.landed k).downLookup k p (bits r.w2 15 8) (ruleLevel r) (ruleMeter r) parity
    | 1 => (s.landed k).forward k p (.down (bits r.w2 31 16)) (ruleLevel r) (ruleMeter r)
    | 2 => (s.landed k).dropPkt k.frame
    | 3 => (s.landed k).punt 3 k.mac 0 k.frame
    | a =>
      if k.second then
        ((s.landed k).punt 7 k.mac 0 k.frame).raise .RECIRC_LIMIT (srcRegion (8 + region) 9) (8 + region) (evData [(4, 8 + region)] i)
      else if a = 4 then
        if p.frag then (s.landed k).punt 5 k.mac 0 k.frame
        else match (if p.tunnel then terminated k.frame p else none) with
          | none => (s.landed k).punt 8 k.mac 0 k.frame
          | some f => { s with fwd.wants := s.fwd.wants ++ [⟨14, k.frame.len, false, false, .recirc { k with frame := f, second := true } 0⟩] }
      else { s with fwd.wants := s.fwd.wants ++ [⟨14, k.frame.len, false, false, .recirc { k with second := true } (bits r.w0 23 20)⟩] }

/-- What a parse port does with a malformed or depth-exceeded packet (R227, R228): drop, punt with a reason, or go on. -/
def outcome (s : State) (port : Nat) (p : Parsed) : Option (Option Nat) :=
  if p.bad != 0 then match s.getN .MALFORMED_ACTION port with
    | 0 => some none
    | 1 => some (some 1)
    | _ => none
  else if p.depth then match s.getN .DEPTH_ACTION port with
    | 0 => none
    | 1 => some none
    | _ => some (some 2)
  else none

/-- The counts of a parse (R227, R228). -/
def State.countParse (s : State) (port : Nat) (p : Parsed) : State :=
  if p.bad != 0 then s.bumpF .MALFORMED_COUNT port (39 - 8 * p.bad) (32 - 8 * p.bad)
  else if p.depth then s.bump .DEPTH_EXCEEDED_COUNT port else s

/-- A pass: parsed, then classified unless its outcome ends it. -/
def State.pass (s : State) (k : Pkt) (parity : Parity) : State :=
  let p := parse (cfgOf s k.mac) k.frame.bytes
  let s := s.countParse k.mac p
  match outcome s k.mac p with
  | none => s.classify k p parity
  | some none => (s.landed k).dropPkt k.frame
  | some (some r) => (s.landed k).punt r k.mac 0 k.frame

/-- PARSE_PASS: the oldest packet waiting in an uplink region enters a lane, is stamped with the epoch in force, parsed and classified. Log entry 95 (DESIGN CHOICE). -/
def execParsePass (region : Fin 2) (parity : Parity) (s : State) : Res :=
  .next <|
    match s.fwd.toParse.get region.val with
    | [] => s
    | k :: rest =>
      let s := { s with fwd.toParse := s.fwd.toParse.set region.val rest }
      let k := { k with epoch := s.fwd.rules.epoch }
      (s.flight region k.epoch 1).pass k parity

/-- RECIRC_PASS: the oldest recirculated packet takes a slot for its second pass, when no first-pass packet wants it (R240). -/
def execRecircPass (region : Fin 2) (parity : Parity) (s : State) : Res :=
  .next <|
    match s.fwd.recirc.get region.val with
    | [] => s
    | k :: rest =>
      if !(s.fwd.toParse.get region.val).isEmpty then s else
      let s := { s with fwd.recirc := s.fwd.recirc.set region.val rest }
      (s.bumpF .RECIRC_STATS region 31 16).pass k parity

/-! ### Rule set commands -/

/-- RULESET_DRAINED: no packet of the old epoch is in flight; its bank becomes the staging set. -/
def execRulesetDrained (s : State) : Res :=
  .next <|
    match s.fwd.rules.draining with
    | some e =>
      if inFlight s e = 0 then
        (s.setRules { s.fwd.rules with draining := none }).raise .RULESET_DRAINED (srcRegion 8 8) 8 (evData [] e)
      else s
    | none => s

/-- SWAP_WAIT_EXPIRY: a waiting RULESET_SWAP fails with TIMEOUT (R237). -/
def execSwapWaitExpiry (mb : Fin 16) (s : State) : Res :=
  .next <|
    match (s.mbox mb).cmd with
    | some c => if c.code = 0x0804 && c.wait == some .swapDrain && c.reply.isNone then s.respond mb .timeout 0 [] else s
    | none => s

/-- Contents that RULE_WRITE refuses (R233). -/
def ruleBad (e : RuleEntry) : Bool :=
  let w (i : Nat) : Nat := e.words.getD i 0
  let a := bits (w 0) 31 28
  6 ≤ a || (a = 5 && bits (w 0) 23 20 = 0) || e.mask / 2 ^ 382 != 3 || bits (w 0) 19 0 != 0 || bits (w 1) 13 12 != 0 || bits (w 2) 7 0 != 0 ||
    w 3 != 0 || bits e.control 30 0 != 0 || e.rsv != 0

/-- One rule written, whatever its VALID; its HITS are zeroed (R232). -/
def putRule (r : RuleSets) (k : Nat) (e : RuleEntry) : RuleSets :=
  let v : Rule := { value := e.value, mask := e.mask, w0 := e.words.getD 0 0, w1 := e.words.getD 1 0, w2 := e.words.getD 2 0, valid := bit e.control 31 }
  { r with rules := r.rules.set k (some v), hits := (r.hits.set k 0).set (16384 + k) 0 }

def putRules : RuleSets → Nat → List RuleEntry → RuleSets
  | r, _, [] => r
  | r, k, e :: l => putRules (putRule r k e) (k + 1) l

/-- A rule with its HITS in both regions. Log entry 98 (DESIGN CHOICE). -/
def ruleWords (s : State) (k : Nat) : List Int :=
  let r := s.fwd.rules
  match r.rules.get k with
  | none => [0, 0, 0, 0, 0, 0, r.hits.get k, r.hits.get (16384 + k)]
  | some e => [b2n e.valid, e.value, e.mask, e.w0, e.w1, e.w2, r.hits.get k, r.hits.get (16384 + k)]

/-- RULE_WRITE: 1 to 32 rules into the staging set, checked as a whole (R238, R245). -/
def execRuleWrite (mb : Fin 16) (start expect : Nat) (rules : List RuleEntry) (s : State) : Res :=
  hostCmd s mb 0x0801 fun _ s =>
    let r := s.fwd.rules
    if rules.isEmpty || 32 < rules.length || 8192 < start + rules.length || rules.any ruleBad then fail s .badArg
    else if r.draining.isSome then fail s .busy
    else if expect != (r.epoch + 1) % 16 then fail s .staleEpoch
    else
      let b := staging s * 8192 + start
      let s := s.setRules (putRules r b rules)
      okay s ((List.range rules.length).map (fun i => ruleWords s (b + i))).flatten

/-- RULE_READ: 1 to 32 rules of the active (0), staging (1) or draining (2) set. -/
def execRuleRead (mb : Fin 16) (set start count : Nat) (s : State) : Res :=
  hostCmd s mb 0x0802 fun _ s =>
    let r := s.fwd.rules
    if 3 ≤ set || count = 0 || 32 < count || 8192 < start + count then fail s .badArg
    else if (set = 1 && r.draining.isSome) || (set = 2 && r.draining.isNone) then fail s .noObject
    else
      let b := (if set = 0 then r.active else 1 - r.active) * 8192 + start
      okay s ((List.range count).map (fun i => ruleWords s (b + i))).flatten

/-- RULESET_COPY: the active set into staging, HITS zeroed; BUSY while a set drains. -/
def execRulesetCopy (mb : Fin 16) (s : State) : Res :=
  hostCmd s mb 0x0803 fun _ s =>
    let r := s.fwd.rules
    if r.draining.isSome then fail s .busy
    else
      let own := r.rules.filter (fun c => c.1 / 8192 == r.active)
      let moved := own.map (fun c => (staging s * 8192 + c.1 % 8192, c.2))
      okay (s.setRules { r with rules := if staging s = 0 then moved ++ own else own ++ moved,
                                hits := r.hits.filter (fun c => c.1 % 16384 / 8192 != staging s) })

/-- RULESET_SWAP: the staging set becomes active under the next epoch in both regions; while a set drains it waits (R236, R237). Log entry 99 (DESIGN CHOICE). -/
def execRulesetSwap (mb : Fin 16) (s : State) : Res :=
  hostCmd s mb 0x0804 fun _ s =>
    let r := s.fwd.rules
    if r.draining.isSome then (s, .hold .swapDrain)
    else
      let e := (r.epoch + 1) % 16
      let s := s.setRules { r with active := 1 - r.active, epoch := e, draining := some r.epoch }
      okay (s.raise .RULESET_SWAPPED (srcRegion 8 8) 8 (evData [(4, e)] r.epoch))

/-- RULESET_STATUS: active epoch, draining epoch, in-flight counts of both in each region. -/
def execRulesetStatus (mb : Fin 16) (s : State) : Res :=
  hostCmd s mb 0x0805 fun _ s =>
    let r := s.fwd.rules
    let d := r.draining.getD 0
    okay s [(r.epoch : Int), b2n r.draining.isSome, d, r.inFlight.get r.epoch, r.inFlight.get (16 + r.epoch),
            if r.draining.isSome then (r.inFlight.get d : Int) else 0, if r.draining.isSome then (r.inFlight.get (16 + d) : Int) else 0]

/-! ### Upstream (R243, R244, R264, R265) -/

/-- FID of a frame on a GEM index: LEARN_FID, or its outermost VID. -/
def learnFid (s : State) (g : Nat) (f : Frame) (p : Parsed) : Nat :=
  let v := s.getN .LEARN_FID g
  if v != 4095 then v else if outerTagged f p then vidOf p.tci0 else 0

/-- Addresses learned on a GEM index: its dynamic MAC entries. -/
def learnedOn (s : State) (g : Nat) : Nat :=
  let v := s.table 1
  ((allPlaces v).filter (fun p => (entryAt v p).any (fun e => !e.isStatic && (match e.v with
    | .mac port _ _ _ => port == g
    | _ => false)))).length

/-- Port of a MAC entry, and whether it is frozen. -/
def macPort (e : Ent) : Nat × Bool := match e.v with
  | .mac port _ frozen _ => (port, frozen)
  | _ => (0, false)

/-- The lowest enabled check of R244 that a frame fails; `e` is the MAC entry of its source. -/
def spoofCheck (s : State) (g : Nat) (p : Parsed) (e : Option Ent) (bound : Bool) : Option Nat :=
  let m := s.getN .ANTISPOOF_MODE g
  let other := e.any (fun x => x.isStatic && (macPort x).1 != g)
  let fresh := !e.any (fun x => (macPort x).1 == g)
  if bit m 0 && (p.smac = 0 || bit p.smac 40) then some 0
  else if bit m 1 && other then some 1
  else if bit m 2 && fresh && s.getN .ANTISPOOF_MAC_LIMIT g ≤ learnedOn s g then some 2
  else if bit m 3 && !bound then some 3
  else none

/-- Check 3: the source of the first IP header has a binding entry for the GEM index; without one, the frame passes. -/
def State.binding (s : State) (g : Nat) (p : Parsed) (parity : Parity) : Bool × State :=
  if !bit (s.getN .ANTISPOOF_MODE g) 3 || (!p.v4 && !p.v6) then (true, s)
  else
    let profile := if p.v4 then s.getN .BIND_PROFILE_V4 else s.getN .BIND_PROFILE_V6
    let r := s.lookup 0 (flowKey s profile (fun f => packetKey f 0 0 false p) (upMeta (s.gem g).chan g)) parity
    (r.1.any (fun e => match e.v with
      | .flow kind _ _ _ _ => kind == 4
      | _ => false), r.2)

/-- A learning message emitted unless the filter of its block has heard it within LEARN_HOLD, or the serialiser's queue is full (R264, R265). Log entry 105 (DESIGN CHOICE). -/
def State.emitLearn (s : State) (block : Nat) (fid addr g : Nat) : State :=
  let h := s.fwd.heard.get block
  let hold := s.getN .LEARN_HOLD * 1000
  if h.any (fun x => x.fid == fid && x.addr == addr && x.gem == g && decide (s.up - x.at_ < hold)) then s
  else
    let h := h ++ [⟨fid, addr, g, s.up⟩]
    let s := { s with fwd.heard := s.fwd.heard.set block (if 256 < h.length then h.drop 1 else h) }
    s.queueSer { type := 0, peer := false, fid := fid, gem := g, addr := addr, chan := (s.gem g).chan, time := s.now % 2 ^ 32 }

/-- An upstream frame's flow lookup and what follows (R243, R258). -/
def State.upLookup (s : State) (u : UsSdu) (p : Parsed) (parity : Parity) : State :=
  let c := (s.gem u.gem).chan
  let key := flowKey s (s.getN .US_FLOW_PROFILE c) (fun f => packetKey f 0 0 false p) (upMeta c u.gem)
  let (e, s) := s.lookup 0 key parity
  let miss (s : State) : State := if s.getN .US_MISS_ACTION c = 1 then s.punt 4 (32 + c) u.gem u.frame else s
  match e with
  | none => miss s
  | some e => match e.v with
    | .mac _ _ _ _ => miss s
    | .flow kind queue meter marker index =>
      match kind with
      | 1 =>
        let m := if !meter then Meter.none else if marker then .marker index else .policer index
        let (r, s) := s.meter m u.frame p
        match r with
        | none => s
        | some (colour, f) =>
          s.askBuffer { frame := f, cls := 2 + c / 8, dest := .up (queue % 16384), colour := colour, port := 32 + c, gem := u.gem } p
      | 2 => s
      | 3 => s.punt 3 (32 + c) u.gem u.frame
      | 4 => miss s
      | _ => s.bump .FLOW_KIND_ERR 0

/-- A frame that failed a spoofing check. -/
def State.spoofed (s : State) (c g check : Nat) (f : Frame) : State :=
  let s := (s.bump .SPOOF_DROPS c).raiseSec .SPOOF_DROP c (srcRegion (regionOfChan c) 8) (regionOfChan c) (fun _ => evData [(6, c)] check)
  if s.getN .SPOOF_PUNT c = 1 then s.punt 6 (32 + c) g f else s

/-- UPSTREAM_SDU_PARSE: the oldest released SDU is parsed in Tn.19 or Tn.20 (`second`), checked for spoofing, learned and looked up. -/
def execUpstreamSduParse (region : Fin 8) (second : Bool) (parity : Parity) (s : State) : Res :=
  .next <|
    match s.pon.released.find? (fun u => (s.gem u.gem).chan / 8 == region.val) with
    | none => s
    | some u =>
      let s := { s with pon.released := s.pon.released.erase u }
      let g := u.gem
      let c := (s.gem g).chan
      let p := parse (cfgOf s (32 + c)) u.frame.bytes
      let s := s.countParse (32 + c) p
      match outcome s (32 + c) p with
      | some none => s
      | some (some r) => s.punt r (32 + c) g u.frame
      | none =>
        let fid := learnFid s g u.frame p
        let (e, s) := s.lookup 1 (macKey fid p.smac) parity
        let (bound, s) := s.binding g p parity
        match spoofCheck s g p e bound with
        | some k => s.spoofed c g k u.frame
        | none =>
          let known := e.any (fun x => macPort x == (g, false))
          let s := if s.getN .LEARN_EN c = 1 && !known then s.emitLearn (region.val * 2 + b2n second) fid p.smac g else s
          s.upLookup u p parity

end Sys2Proof.Machine
end

