-- ==== Sys2Proof/Machine/Gates.lean ====
section
/-! DEFINITION. Time gates: lists in force, windows and closes (R289, R290), transmit times (R291), guard bands and holds (R292, R293). -/
namespace Sys2Proof.Machine

/-! ### Gate instances (spec/11 "Time gates") -/

def State.gate (s : State) (i : Nat) : GateState := s.fwd.gates.get i
def State.setGate (s : State) (i : Nat) (v : GateState) : State := { s with fwd.gates := s.fwd.gates.set i v }

/-- Gate instance of a bound queue: its MAC, or 32 + its tree channel. -/
def gateOf (s : State) (w : Nat) : Option Nat := (s.queueAt w).bind.map (fun b => if w < 65536 then 32 + (s.gem b).chan else b)

/-- Source and region of an instance's events: the MAC's, or the tree channel's in its scheduler block. Log entry 111 (DESIGN CHOICE). -/
def gateSrc (i : Nat) : Nat := if i < 32 then srcMac i 24 else srcChan (i - 32) 20
def gateRegion (i : Nat) : Nat := if i < 32 then regionOfMac i else regM

/-- Bound queues of an instance, by watch index, rising. -/
def queuesOf (s : State) (i : Nat) : List Nat :=
  if i < 32 then (s.fwd.upQ.keys (fun _ q => q.bind == some i)).map (65536 + ·)
  else s.fwd.downQ.keys (fun _ q => q.bind.any (fun g => (s.gem g).chan == i - 32))

/-! ### Lists and windows (R289, R290) -/

/-- Entry in force at an offset: its index, gates and start. -/
def entryFrom : List (Nat × Nat) → Nat → Nat → Nat → Nat × Nat × Nat
  | [], i, at_, _ => (i, 255, at_)
  | (g, n) :: l, i, at_, off => if off < at_ + n || l.isEmpty then (i, g, at_) else entryFrom l (i + 1) (at_ + n) off

/-- Entry of a list in force at time `t`: its index, gates and the time it began. -/
def entryNow (l : GateList) (t : Nat) : Nat × Nat × Nat :=
  let off := (t - l.start) % l.cycle
  let e := entryFrom l.entries 0 0 off
  (e.1, e.2.1, t - off + e.2.2)

/-- The list in force at time `t`. Log entry 114 (DESIGN CHOICE). -/
def listAt (g : GateState) (t : Nat) : Option GateList :=
  match g.pending with
  | some p => if p.start ≤ t then some p else if g.clearAt.any (fun c => decide (c ≤ t)) then none else g.oper
  | none => if g.clearAt.any (fun c => decide (c ≤ t)) then none else g.oper

/-- Gate states at time `t`; with no list in force every gate is open. -/
def gatesAt (g : GateState) (t : Nat) : Nat :=
  match listAt g t with
  | some l => (entryNow l t).2.1
  | none => 255

/-- When a gate open at `at_` closes in a run of intervals. -/
def firstClosed (c : Nat) : List (Nat × Nat) → Nat → Option Nat
  | [], _ => none
  | (g, n) :: l, at_ => if bit g c then firstClosed c l (at_ + n) else some at_

/-- Close of a gate within a list that stays in force: none where it never closes. -/
def closeIn (l : GateList) (c t : Nat) : Option Nat :=
  let e := entryNow l t
  (firstClosed c (l.entries.drop e.1 ++ l.entries.take e.1) e.2.2).map (max t)

/-- The next time after `t` at which the list in force changes. -/
def nextChange (g : GateState) (t : Nat) : Option Nat :=
  ((g.pending.map (·.start)).toList ++ g.clearAt.toList).foldl (fun m x => if x ≤ t then m else some (min x (m.getD x))) none

/-- Close of a gate open at `t`, across the changes still due. -/
def closeFrom (g : GateState) (c : Nat) : Nat → Nat → Option Nat
  | 0, _ => none
  | n + 1, t =>
    if !bit (gatesAt g t) c then some t
    else
      let x := (listAt g t).bind (fun l => closeIn l c t)
      match nextChange g t with
      | none => x
      | some k => if x.any (fun v => decide (v < k)) then x else closeFrom g c n k

def closeOf (g : GateState) (c t : Nat) : Option Nat := closeFrom g c 3 t

/-- GATE_STATE [31:24] and [15:0]: open gates, entry in force, pending list held, list in force. -/
def gateWord (s : State) (i : Nat) : Nat :=
  let g := s.gate i
  let e : Nat := match listAt g s.now with
    | some l => (entryNow l s.now).1
    | none => 0
  gatesAt g s.now * 2 ^ 24 + e * 2 ^ 8 + b2n (g.pending.any (fun p => decide (s.now < p.start))) * 2 + b2n (listAt g s.now).isSome

/-! ### Transmit times (R291), in ps -/

/-- Time of XGEM bytes on a tree channel with its parity. -/
def chanPs (c bytes : Nat) : Nat := ceilDiv (bytes * 8 * (fecInfo c + fecParity c) * 100000000) (fecInfo c * lineRate c)

/-- XGEM bytes of an SDU: one header for an express SDU, one for each fragment otherwise. -/
def xgemBytes (s : State) (c len : Nat) (express : Bool) : Nat := len + 8 * (if express then 1 else ceilDiv len (s.getN .FRAG_MAX c))

/-- Bytes that the framer has been handed and has not sent. -/
def framerBytes (s : State) (c : Nat) : Nat :=
  let f := (s.chan c).framer
  let whole (x : DsSdu) : Nat := xgemBytes s c x.frame.len x.express
  (match f.carry with
    | some k => k.len + 8
    | none => 0) + (f.express.foldl (fun n x => n + whole x) 0) + (match f.waiting with
    | some x => whole x
    | none => 0) + f.round.foldl (fun n o => n + xgemBytes s c (o.sdu.frame.len - o.sent) false) 0

/-- Header of the frame to come: its own, once the framing deadline has fixed it; before that the longest (R98, R106). Log entry 113 (DESIGN CHOICE). -/
def nextHeader (s : State) (c : Nat) : Nat :=
  let v := s.chan c
  if s.pon.tl.next = some v.maps.deadline then headerBytes (v.maps.chosen.elim 0 (·.structs.length)) v.taken.length
  else headerBytes 512 (s.getN .DS_PLOAM_MAX c)

/-- Its frame-boundary run B in ps (R106). -/
def boundaryPs (s : State) (c : Nat) : Nat := ceilDiv (boundaryRun c (nextHeader s c) * 8 * 100000000) (lineRate c)

/-- Picoseconds to the next frame start. -/
def toFramePs (s : State) : Nat := (s.pon.tl.startAt + 125000 - s.up) * 1000

/-- Start and end of a frame handed over now, in ps from now: after what the framer holds, or after the frame in transmission. -/
def txSpan (s : State) (i len : Nat) (express : Bool) : Nat × Nat :=
  if i < 32 then
    let a := ((s.mac i).busyUntil - s.up) * 1000
    (a, a + (len + 20 + if secured s i then 32 else 0) * 8000 / macRate s i)
  else
    let c := i - 32
    let b := boundaryPs s c
    let a := chanPs c (framerBytes s c)
    let a := if toFramePs s ≤ a then a + b else a
    let e := a + chanPs c (xgemBytes s c len express)
    (a, if a < toFramePs s && toFramePs s ≤ e then e + b else e)

/-- T of a frame. -/
def txTime (s : State) (i len : Nat) (express : Bool) : Nat := (txSpan s i len express).2 - (txSpan s i len express).1

/-- Level 7 of a tree channel is its express level; class 7 of a MAC is exempt from its shaper (R281, R282). -/
def expressOn (s : State) (i level : Nat) : Bool := level = 7 && s.getN .EXPRESS_EN i = 1

/-! ### Guard bands (R292, R293) -/

/-- A frame of a queue at a gate that is open fits the rest of its window. -/
def fits (s : State) (i level len : Nat) : Bool :=
  match closeOf (s.gate i) level s.now with
  | none => true
  | some t =>
    let left := (t - s.now) * 1000
    let p := txSpan s i len (expressOn s i level)
    p.2 ≤ left && (s.getN .GATE_GUARD_MODE i = 0 || p.1 + s.getN .GATE_GUARD_NS i * 1000 < left)

/-- The gate of a level admits a frame: open, and the frame fits. -/
def admits (s : State) (i level len : Nat) : Bool := bit (gatesAt (s.gate i) s.now) level && fits s i level len

/-- Gates in their guard band: in mode 0, that of the largest MAX_FRAME of their queues. -/
def guarded (s : State) (i level : Nat) : Bool :=
  bit (gatesAt (s.gate i) s.now) level && match closeOf (s.gate i) level s.now with
    | none => false
    | some t =>
      let g := if s.getN .GATE_GUARD_MODE i = 1 then s.getN .GATE_GUARD_NS i * 1000
        else (queuesOf s i).foldl (fun m w => if (s.queueAt w).level = level then max m (txTime s i (s.queueAt w).maxFrame (expressOn s i level)) else m) 0
      decide ((t - s.now) * 1000 ≤ g)

/-- GATE_STATE. -/
def gateStatus (s : State) (i : Nat) : Nat := gateWord s i + (classesIn 255).foldl (fun n c => n + if guarded s i c then 2 ^ (16 + c) else 0) 0

/-! ### Queue heads -/

/-- Bytes on chip ahead of a queue's run. -/
def headBytes (q : Queue) : Nat := q.frames.foldl (fun n x => n + x.frame.len) 0

/-- A deep queue whose on-chip depth is below half of GLACIER_HEAD begins to return its run; returns end at GLACIER_HEAD (R317). -/
def State.glacierTest (s : State) (w : Nat) : State :=
  let q := s.queueAt w
  let head := s.getN .GLACIER_HEAD * 1024
  if q.run.isEmpty then (if q.returning then s.setQueue w { q with returning := false } else s)
  else if !q.returning && 2 * headBytes q < head then s.setQueue w { q with returning := true }
  else if q.returning && head ≤ headBytes q then s.setQueue w { q with returning := false }
  else s

/-- The head frame leaves a queue. -/
def State.popHead (s : State) (w : Nat) : State :=
  let q := s.queueAt w
  (s.setQueue w { q with frames := q.frames.drop 1, held := false }).glacierTest w

/-- Head frames longer than the whole window that opens are dropped (R293): NEVER_FITS_COUNT and GATE_NEVER_FITS. -/
def State.neverFits (i w window : Nat) : Nat → State → State
  | 0, s => s
  | n + 1, s =>
    let q := s.queueAt w
    match q.frames with
    | [] => s
    | x :: _ =>
      if txTime s i x.frame.len (expressOn s i q.level) ≤ window then s
      else
        let s := s.setQueue w { q with counts := { q.counts with neverFits := q.counts.neverFits + 1 } }
        let s := (s.popHead w).freeFrame (queueClass w) x.frame
        let s := (s.bump .NEVER_FITS_COUNT i).raiseSec .GATE_NEVER_FITS i (gateSrc i) (gateRegion i) (fun _ => evData [(7, i)] (w % 65536))
        State.neverFits i w window n (s.drainTest w)

/-- An interval's beginning: gates that open are tested for frames that never fit; a pending list or a clearing that is due is settled. -/
def State.openGates (s : State) (i : Nat) : State :=
  let g := s.gate i
  match listAt g s.now with
  | none => if g.current = 255 && g.begun = 0 then s else s.setGate i { g with current := 255, begun := 0 }
  | some l =>
    let e := entryNow l s.now
    if g.begun = e.2.2 + 1 then s
    else
      let s := s.setGate i { g with current := e.2.1, begun := e.2.2 + 1 }
      (queuesOf s i).foldl (fun s w =>
        let q := s.queueAt w
        if bit e.2.1 q.level && !bit g.current q.level then match closeOf g q.level e.2.2 with
          | none => s
          | some t => State.neverFits i w ((t - e.2.2) * 1000) q.frames.length s
        else s) s

/-- Head frames that do not fit the rest of their open window are held, and counted once in GATE_HOLDS (R293). -/
def State.holdHeads (s : State) (i : Nat) : State :=
  (queuesOf s i).foldl (fun s w =>
    let q := s.queueAt w
    match q.frames with
    | [] => s
    | x :: _ =>
      if !q.held && bit (gatesAt (s.gate i) s.now) q.level && !fits s i q.level x.frame.len then
        (s.setQueue w { q with held := true }).bump .GATE_HOLDS i
      else s) s

/-! ### Rows -/

/-- GATE_INTERVAL_START: an interval of an instance's list begins. -/
def execGateIntervalStart (inst : Fin 96) (s : State) : Res :=
  .next <|
    let g := s.gate inst
    if (g.clearAt.any (fun c => decide (c ≤ s.now))) && !(g.pending.any (fun p => decide (p.start ≤ s.now))) then
      (s.setGate inst { g with oper := none, clearAt := none }).openGates inst
    else s.openGates inst

/-- GATE_LIST_SWITCH: at S the pending list becomes operational: GATE_LIST_ACTIVE. -/
def execGateListSwitch (inst : Fin 96) (s : State) : Res :=
  .next <|
    let g := s.gate inst
    match g.pending with
    | none => s
    | some p =>
      if p.start ≤ s.now then
        let s := s.setGate inst { g with oper := some p, pending := none, clearAt := none }
        (s.openGates inst).raise .GATE_LIST_ACTIVE (gateSrc inst) (gateRegion inst) (evData [(7, inst.val)] p.entries.length)
      else s

/-! ### Commands -/

/-- An entry of Table 11.2: gates, and the interval in ns. -/
def gateEntry (w : Nat) : Nat × Nat := (bits w 31 24, bits w 22 0 * if bit w 23 then 1000 else 1)

/-- First cycle boundary of the operational list at or after a time; with no list, that time. -/
def boundaryAt (g : GateState) (t : Nat) : Nat :=
  match g.oper with
  | none => t
  | some l => l.start + ceilDiv (t - l.start) l.cycle * l.cycle

/-- What GATE_STATUS says of a list: cycle, start, and its entries' gates and intervals. -/
def listWords (l : Option GateList) : List Int :=
  match l with
  | none => [0]
  | some l => (l.entries.length : Int) :: (l.cycle : Int) :: (l.start : Int) :: (l.entries.map (fun e => [(e.1 : Int), (e.2 : Int)])).flatten

/-- Gate lists and states of an instance, as they are read and as a write answers them (R449). -/
def gateWords (s : State) (inst : Nat) : List Int :=
  (gateStatus s inst : Int) :: (listWords (s.gate inst).oper ++ listWords (s.gate inst).pending)

/-- GATE_LIST_SET: a pending list of an instance (R289, R290, R356). Log entry 115 (DESIGN CHOICE). -/
def execGateListSet (mb : Fin 16) (inst cycle configTime : Nat) (entries : List Nat) (s : State) : Res :=
  hostCmd s mb 0x0A30 fun _ s =>
    let es := entries.map gateEntry
    if 96 ≤ inst || es.isEmpty || 256 < es.length || cycle < 1000 || 1000000000 < cycle || es.foldl (fun n e => n + e.2) 0 != cycle
        || es.any (fun e => decide (e.2 < 10)) then fail s .badArg
    else if inst < 32 && !macUsed s inst then fail s .noObject
    else
      let g := s.gate inst
      if g.pending.any (fun p => decide (p.start < s.now + 10000)) then fail s .busy
      else
        let s := s.setGate inst { g with pending := some ⟨es, cycle, boundaryAt g (max configTime s.now)⟩ }
        okay s (gateWords s inst)

/-- GATE_LIST_CLEAR: every gate open from the next cycle boundary on; a pending list is dropped. -/
def execGateListClear (mb : Fin 16) (inst : Nat) (s : State) : Res :=
  hostCmd s mb 0x0A31 fun _ s =>
    if 96 ≤ inst then fail s .badArg
    else if inst < 32 && !macUsed s inst then fail s .noObject
    else
      let g := s.gate inst
      let s := s.setGate inst { g with pending := none, clearAt := if g.oper.isNone then g.clearAt else some (boundaryAt g s.now) }
      okay s (gateWords s inst)

/-- GATE_STATUS: both lists, S, the current entry and the gate states. -/
def execGateStatus (mb : Fin 16) (inst : Nat) (s : State) : Res :=
  hostCmd s mb 0x0A32 fun _ s =>
    if 96 ≤ inst then fail s .badArg
    else okay s (gateWords s inst)

end Sys2Proof.Machine
end

