-- ==== Sys2Proof/Machine/Queues.lean ====
section
/-! DEFINITION. Queues: admission (R276, R379), downstream and uplink selection (R278 to R284), shapers' changes. -/
namespace Sys2Proof.Machine

/-! ### Enqueue (R276) -/

/-- Default CBS of a queue's shaper (Table 11.1). -/
def queueCbs (w : Nat) : Nat := if w < 65536 then 16384 else 65536

/-- YELLOW_LIMIT, which follows LIMIT until it is written. -/
def yellowLimit (q : Queue) : Nat := q.yellow.getD (q.limit / 2)

/-- What admission finds. -/
inductive Admission where
  | accepted | disabled | size | colour | tail
  deriving DecidableEq, Repr

/-- The checks of R276 step 3, in order. -/
def admission (q : Queue) (len colour : Nat) : Admission :=
  if !q.enable then .disabled
  else if q.maxFrame < len then .size
  else if colour = 2 then .colour
  else if depthOf q + len ≤ (if colour = 1 then yellowLimit q else q.limit) then .accepted
  else .tail

/-- Counts of a frame dropped at admission, QUEUE_DROP_SUM and QUEUE_TAIL_DROP. -/
def State.countDrop (s : State) (w : Nat) (a : Admission) : State :=
  let q := s.queueAt w
  let k := q.counts
  let i := (gateOf s w).getD 0
  match a with
  | .accepted => s
  | .disabled => s.setQueue w { q with counts := { k with disabled := k.disabled + 1 } }
  | .size => (s.setQueue w { q with counts := { k with size := k.size + 1 } }).bumpF .QUEUE_DROP_SUM i 15 0
  | .colour => (s.setQueue w { q with counts := { k with colour := k.colour + 1 } }).bumpF .QUEUE_DROP_SUM i 15 0
  | .tail =>
    ((s.setQueue w { q with counts := { k with tail := k.tail + 1 } }).bumpF .QUEUE_DROP_SUM i 31 16).raiseSec .QUEUE_TAIL_DROP i (gateSrc i)
      (gateRegion i) (fun _ => evData [(7, i)] (w % 65536))

/-- A frame joins its queue: behind the run of a deep queue that has one (R316). -/
def State.join (s : State) (w : Nat) (f : Frame) : State :=
  let q := s.queueAt w
  let x : QFrame := { frame := f, at_ := s.now }
  let k := { q.counts with enqueued := q.counts.enqueued + 1 }
  s.setQueue w (if q.run.isEmpty then { q with frames := q.frames ++ [x], counts := k } else { q with tail := q.tail ++ [{ x with arrival := true }], counts := k })

/-- A job admitted to a queue or dropped, its buffer passed on or released. -/
def State.admitTo (s : State) (w : Nat) (j : Job) : State :=
  let a := admission (s.queueAt w) j.frame.len j.colour
  if a == .accepted then
    let s := match j.frame.buf with
      | some b => if j.cls = queueClass w then s else s.bufOp (.handover j.cls (queueClass w) (lastOf s j.cls b) b.id b.gen)
      | none => s
    s.join w j.frame
  else (s.countDrop w a).freeFrame j.cls j.frame

/-! ### Frames for the other device of a pair (R379) -/

/-- The peer's last message says that it holds a tree's token. -/
def peerHolds (s : State) (t : Nat) : Bool := s.prot.paired && s.prot.peer.any (fun p => p.hold.getD t false)

/-- A tree's home is this device, or its peer (PROT_HOME). -/
def homeHere (s : State) (t : Nat) : Bool := s.getN .PROT_HOME t = if s.prot.memberB then 1 else 0
def homeThere (s : State) (t : Nat) : Bool := s.getN .PROT_HOME t = if s.prot.memberB then 0 else 1

/-- Tether queue of a job on its way to a queue: downstream of a tree that the peer serves for its home here, upstream of a tree served here
for its home there. Frames that came over the tether stay. -/
def tetherQueue (s : State) (w : Nat) (j : Job) : Option Nat :=
  if j.cls = 10 || j.cls = 11 then none
  else if w < 65536 then
    match (s.dq w).bind with
    | some g =>
      let c := (s.gem g).chan
      if homeHere s (c / 2) && peerHolds s (c / 2) then some c else none
    | none => none
  else
    let c := (s.gem j.gem).chan
    if s.prot.paired && homeThere s (c / 2) && holds s (c / 2) then some (64 + c) else none

/-- A tether queue has no room for a frame. -/
def tetherFull (s : State) (k len : Nat) : Bool :=
  decide (s.getN .TETHER_Q_LIMIT * 1024 < (s.prot.queues.get k).foldl (fun n f => n + f.frame.len) 0 + len)

/-- A frame joins its tether queue under the class a local queue would have used, or is dropped at TETHER_Q_LIMIT. -/
def State.tetherAdd (s : State) (k w : Nat) (j : Job) : State :=
  let l := s.prot.queues.get k
  if tetherFull s k j.frame.len then (s.bump .TETHER_Q_DROPS k).freeFrame j.cls j.frame
  else
    let s := match j.frame.buf with
      | some b => s.bufOp (.handover j.cls (queueClass w) (lastOf s j.cls b) b.id b.gen)
      | none => s
    { s with prot.queues := s.prot.queues.set k (l ++ [⟨decide (65536 ≤ w), w % 65536, j.colour == 1, j.frame⟩]) }

/-- A job placed (R276). -/
def State.place (s : State) (j : Job) : State :=
  let (w, missed) := resolve s j
  let s := if missed then s.bump .LEVEL_OVERRIDE_MISS 0 else s
  match w with
  | none => if s.getN .BRIDGE_MISS_ACTION j.port = 1 then
      (s.stage 2 { len := j.frame.len, meta_ := 4 * 2 ^ 28 + j.port * 2 ^ 21, payload := .frame { j.frame with buf := none } }).freeFrame j.cls j.frame
    else s.freeFrame j.cls j.frame
  | some w => match tetherQueue s w j with
    | some k => s.tetherAdd k w j
    | none => s.admitTo w j

/-- ENQUEUE: the oldest classified frame that has its buffer goes to its queue. -/
def execEnqueue (s : State) : Res :=
  .next <|
    match s.fwd.jobs with
    | [] => s
    | j :: rest => ({ s with fwd.jobs := rest }).place j

/-! ### Shapers and deficits -/

def termCbs : Nat := 65536
def nodeCbs : Nat := 262144

/-- A waiting change of a shaper takes effect (R284). -/
def settled (s : State) (k : Shaper) (dflt : Nat) : Shaper :=
  match k.next with
  | none => k
  | some (cir, cbs) => { reshape s k dflt cir cbs with next := none }

def State.setChanNode (s : State) (c : Nat) (v : SchedNode) : State := { s with fwd.chanNodes := s.fwd.chanNodes.set c v }
def State.setMacNode (s : State) (m : Nat) (v : SchedNode) : State := { s with fwd.macNodes := s.fwd.macNodes.set m v }
def State.setTermNode (s : State) (t : Nat) (v : SchedNode) : State := { s with fwd.termNodes := s.fwd.termNodes.set t v }

/-- Every change that waits for this hand-over decision takes effect. -/
def State.settleShapers (s : State) (i : Nat) : State :=
  let s := (queuesOf s i).foldl (fun s w =>
    let q := s.queueAt w
    if q.shaper.next.isSome then s.setQueue w { q with shaper := settled s q.shaper (queueCbs w) } else s) s
  if i < 32 then
    let n := s.fwd.macNodes.get i
    if n.shaper.next.isSome then s.setMacNode i { n with shaper := settled s n.shaper nodeCbs } else s
  else
    let n := s.fwd.chanNodes.get (i - 32)
    let s := if n.shaper.next.isSome then s.setChanNode (i - 32) { n with shaper := settled s n.shaper nodeCbs } else s
    (s.fwd.termNodes.keys (fun t v => v.shaper.next.isSome && (s.term t).chan == i - 32)).foldl (fun s t =>
      let v := s.fwd.termNodes.get t
      s.setTermNode t { v with shaper := settled s v.shaper termCbs }) s

/-- The element of a rising list in turn: the first not below a pointer, else the first. -/
def inTurn (l : List Nat) (p : Nat) : Nat := ((l.find? (fun x => decide (p ≤ x))) <|> l.head?).getD 0

/-- The element after one, in a circle. -/
def afterTurn (l : List Nat) (p : Nat) : Nat := ((l.find? (fun x => decide (p < x))) <|> l.head?).getD 0

/-! ### Downstream selection (R278 to R281) -/

/-- A queue as its scheduler sees it: watch index, member, eligible, length of its head frame (none when it holds no frame). -/
structure Cand where
  w : Nat
  member : Nat
  eligible : Bool
  head : Option Nat
  deriving DecidableEq, Repr

/-- Member of a GEM index: its terminal, or the multicast member of its channel. -/
def memberOf (e : GemEntry) : Nat := if e.mcast then 8192 + e.chan else e.term

/-- Downstream queue eligible (R278). -/
def downEligible (s : State) (i : Nat) (q : Queue) (e : GemEntry) : Bool :=
  match q.frames with
  | [] => false
  | x :: _ => conforms s q.shaper 16384 && (e.mcast || (s.term e.term).state == .operation) && admits s i q.level x.frame.len

/-- Candidates of a level of a tree channel. -/
def levelCands (s : State) (c lv : Nat) : List Cand :=
  s.fwd.downQ.filterMap (fun p =>
    match p.2.bind with
    | none => none
    | some g =>
      let e := s.gem g
      if e.chan = c && p.2.level = lv then
        some ⟨p.1, memberOf e, downEligible s (32 + c) p.2 e, if queueEmpty p.2 then none else some ((p.2.frames.head?.map (·.frame.len)).getD 0)⟩
      else none)

/-- A member's shaper lets it be served at a level; never holding express frames, and none for the multicast member (R273, R281). -/
def memberFree (s : State) (m : Nat) (express : Bool) : Bool :=
  express || 8192 ≤ m || conforms s (s.fwd.termNodes.get m).shaper termCbs

/-- Candidates of members that are eligible, at a level whose channel shaper conforms. -/
def levelEligible (s : State) (c lv : Nat) : Bool :=
  let ex := expressOn s (32 + c) lv
  (ex || conforms s (s.fwd.chanNodes.get c).shaper nodeCbs) && (levelCands s c lv).any (fun k => k.eligible && memberFree s k.member ex)

def memberQuantum (s : State) (m : Nat) : Nat := if 8192 ≤ m then s.getN .MCAST_QUANTUM (m - 8192) else (s.fwd.termNodes.get m).quantum

def State.setMember (s : State) (k : Nat) (d : Drr) : State := { s with fwd.members := s.fwd.members.set k d }
def State.setOuter (s : State) (k v : Nat) : State := { s with fwd.outer := s.fwd.outer.set k v }
def State.setInner (s : State) (k v : Nat) : State := { s with fwd.inner := s.fwd.inner.set k v }

/-- Deficit of a queue given its quantum when its turn begins. -/
def State.openQueue (s : State) (w : Nat) : State :=
  let q := s.queueAt w
  if q.open_ then s else s.setQueue w { q with deficit := q.deficit + q.quantum, open_ := true }

/-- serve_level of R279: answers the queue whose head is handed over, its deficits charged. -/
def State.serveLevel (cands : List Cand) (c lv : Nat) : Nat → State → Option Nat × State
  | 0, s => (none, s)
  | n + 1, s =>
    let ms := (cands.map (·.member)).foldl (fun l m => if l.contains m then l else List.orderInsert' (fun a b => decide (a ≤ b)) m l) []
    let m := inTurn ms (s.fwd.outer.get (c * 8 + lv))
    let mine := cands.filter (fun k => k.member == m)
    let mk := m * 8 + lv
    let onward (s : State) : State := s.setOuter (c * 8 + lv) (afterTurn ms m)
    if !(mine.any (·.eligible) && memberFree s m (expressOn s (32 + c) lv)) then
      let s := if mine.all (fun k => k.head.isNone) then s.setMember mk { s.fwd.members.get mk with deficit := 0 } else s
      State.serveLevel cands c lv n (onward s)
    else
      let d := s.fwd.members.get mk
      let s := if d.open_ then s else s.setMember mk ⟨d.deficit + memberQuantum s m, true⟩
      let qs := mine.map (·.w)
      let w := inTurn qs (s.fwd.inner.get mk)
      let next (s : State) : State := s.setInner mk (afterTurn qs w)
      match mine.find? (fun k => k.w == w) with
      | none => (none, s)
      | some k =>
        if !k.eligible then
          let s := if k.head.isNone then s.setQueue w { s.queueAt w with deficit := 0 } else s
          State.serveLevel cands c lv n (next s)
        else
          let s := (s.openQueue w).setInner mk w
          let s := s.setOuter (c * 8 + lv) m
          let q := s.queueAt w
          let d := s.fwd.members.get mk
          let len := k.head.getD 0
          if len ≤ q.deficit && len ≤ d.deficit then
            (some w, (s.setQueue w { q with deficit := q.deficit - len }).setMember mk { d with deficit := d.deficit - len })
          else
            let s := if q.deficit < len then next (s.setQueue w { q with open_ := false }) else s
            let s := if d.deficit < len then onward (s.setMember mk { d with open_ := false }) else s
            State.serveLevel cands c lv n s

/-- Rounds that any hand-over needs at most: a frame is at most 10,240 bytes and a quantum at least 64. -/
def serveFuel (n : Nat) : Nat := 400 * (n + 1)

/-- Bytes a hand-over charges (R283). -/
def chargeOf (s : State) (i len : Nat) : Int := len + s.get .SHAPE_ADJ i

/-- The frame at a queue's head is served: popped, counted and charged to the queue's shaper. -/
def State.serveHead (s : State) (w : Nat) (n : Int) : State :=
  let q := s.queueAt w
  let q := { q with shaper := charge s q.shaper (queueCbs w) n, counts := { q.counts with served := q.counts.served + 1 } }
  ((s.setQueue w q).popHead w).drainTest w

/-- A frame handed over to a channel's framer. -/
def State.giveFramer (s : State) (c w : Nat) (express : Bool) : State :=
  let q := s.dq w
  match q.frames, q.bind with
  | x :: _, some g =>
    let n := chargeOf s (32 + c) x.frame.len
    let m := memberOf (s.gem g)
    let s := s.serveHead w n
    let t := s.fwd.termNodes.get m
    let s := if 8192 ≤ m then s else s.setTermNode m { t with shaper := charge s t.shaper termCbs n }
    let k := s.fwd.chanNodes.get c
    let s := s.setChanNode c { k with shaper := charge s k.shaper nodeCbs n }
    let v := s.chan c
    let u : DsSdu := ⟨g, x.frame, s.up, express⟩
    s.setFramer c (if express then { v.framer with express := v.framer.express ++ [u] } else { v.framer with waiting := some u })
  | _, _ => s

/-- The framer is ready for a level: express SDUs while fewer than two wait, others while the waiting slot is empty (R104, R280). -/
def framerReady (s : State) (c : Nat) (express : Bool) : Bool :=
  let f := (s.chan c).framer
  (s.chan c).enabled && if express then decide (f.express.length < 2) else f.waiting.isNone

/-- Capacity of the scheduler block of a tree channel in percent, as last told (R26, R43). -/
def schedPercent (s : State) (c : Nat) : Nat := (figuresOf s .schedulers 10).elim 100 (fun f => f.schedulers.getD (c / 8) 100)

/-- May the scheduler block decide now: at a lowered capacity it makes that share of 625 M decisions a second (R280)? Log entry 264 (DESIGN CHOICE). -/
def mayDecide (s : State) (c : Nat) : Bool := schedPercent s c == 100 || (schedPercent s c != 0 && decide (s.fwd.schedNext.get (c / 8) ≤ 100 * s.up))

/-- A decision made. -/
def State.decided (s : State) (c : Nat) : State :=
  if schedPercent s c = 100 then s else { s with fwd.schedNext := s.fwd.schedNext.set (c / 8) (100 * s.up + ceilDiv 16000 (schedPercent s c)) }

/-- One hand-over on a tree channel: the highest eligible level that the framer is ready for (R278, R280). -/
def State.scheduleTree (s : State) (c : Nat) : State :=
  if !mayDecide s c then s
  else
  let s := s.decided c
  match [7, 6, 5, 4, 3, 2, 1, 0].find? (fun lv => framerReady s c (expressOn s (32 + c) lv) && levelEligible s c lv) with
  | none => s
  | some lv =>
    let cands := levelCands s c lv
    let (w, s) := State.serveLevel cands c lv (serveFuel cands.length) s
    match w with
    | none => s
    | some w => s.giveFramer c w (expressOn s (32 + c) lv)

/-! ### Uplink selection (R282, R294, R361) -/

/-- Candidates of a class of a MAC. -/
def classCands (s : State) (m c : Nat) : List Cand :=
  s.fwd.upQ.filterMap (fun p =>
    if p.2.bind = some m && p.2.level = c then
      let ok := match p.2.frames with
        | [] => false
        | x :: _ => conforms s p.2.shaper 65536 && admits s m c x.frame.len
      some ⟨65536 + p.1, m, ok, if queueEmpty p.2 then none else some ((p.2.frames.head?.map (·.frame.len)).getD 0)⟩
    else none)

/-- A class that may be served: not paused by the partner, the MAC shaper conforms or does not hold it, and a queue is eligible. -/
def classEligible (s : State) (m c : Nat) : Bool :=
  ((s.mac m).paused.get c).isNone && (expressOn s m c || conforms s (s.fwd.macNodes.get m).shaper nodeCbs) && (classCands s m c).any (·.eligible)

/-- Deficit round robin among the queues of a class. -/
def State.serveClass (cands : List Cand) (key : Nat) : Nat → State → Option Nat × State
  | 0, s => (none, s)
  | n + 1, s =>
    let qs := cands.map (·.w)
    let w := inTurn qs (s.fwd.innerUp.get key)
    let at_ (s : State) (v : Nat) : State := { s with fwd.innerUp := s.fwd.innerUp.set key v }
    match cands.find? (fun k => k.w == w) with
    | none => (none, s)
    | some k =>
      if !k.eligible then
        let s := if k.head.isNone then s.setQueue w { s.queueAt w with deficit := 0 } else s
        State.serveClass cands key n (at_ s (afterTurn qs w))
      else
        let s := at_ (s.openQueue w) w
        let q := s.queueAt w
        let len := k.head.getD 0
        if len ≤ q.deficit then (some w, s.setQueue w { q with deficit := q.deficit - len })
        else State.serveClass cands key n (at_ (s.setQueue w { q with open_ := false }) (afterTurn qs w))

/-- A frame selected on a MAC: too long for UPLINK_MTU or not to be protected it is dropped; else it leaves (R361, R364, R368). Log entry 134 (DESIGN CHOICE). -/
def State.sendUplink (s : State) (m w : Nat) : State :=
  match (s.queueAt w).frames with
  | [] => s
  | x :: _ =>
    let n := chargeOf s m x.frame.len
    let s := s.serveHead w n
    let k := s.fwd.macNodes.get m
    let s := s.setMacNode m { k with shaper := charge s k.shaper nodeCbs n }
    let s := s.freeFrame 11 x.frame
    if s.getN .UPLINK_MTU m < x.frame.len then s.stat m stOversize
    else
      let (p, s) := s.protect m
      match p with
      | none => s
      | some sa =>
        let len := x.frame.len + if sa.isSome then 32 else 0
        let s := if sa.isSome then s.countSpec m (decide (secBlocks s m x.frame.len ≤ s.getN .MACSEC_SPEC_BLOCKS m)) else s
        let s := (s.stat m stTxFrames).stat m stTxOctets len
        let s := s.setMac m { s.mac m with busyUntil := s.up + ceilDiv ((len + 20) * 8) (macRate s m), sending := some x.frame.id }
        s.emit (.uplink m { x.frame with buf := none } sa)

/-- The encryption of a queue's head frame is given to pairs, but for a frame that its SA's speculative blocks cover (R336, R342). -/
def State.encryptHead (s : State) (m w : Nat) : Bool × State :=
  match secured s m, (s.mac m).encoding, (s.queueAt w).frames with
  | true, some n, x :: _ =>
    let blocks := secBlocks s m x.frame.len
    if blocks ≤ s.getN .MACSEC_SPEC_BLOCKS m then (true, s) else s.transmitWork (regionOfMac m) (s.slot (16512 + n)).cur (blocks + 2)
  | _, _, _ => (true, s)

/-- One hand-over on a MAC whose link is up: a due pause frame, then the highest class that may be served; a frame whose encryption waits for pairs
is held (R282, R336, R363). -/
def State.scheduleMac (s : State) (m : Nat) : State :=
  if !(s.mac m).up then s
  else
    let s0 := if (s.mac m).pauseDue then s.sendPause m else s
    let s := s0
    match [7, 6, 5, 4, 3, 2, 1, 0].find? (fun c => classEligible s m c) with
    | none => s
    | some c =>
      let cands := classCands s m c
      let (w, s) := State.serveClass cands (m * 8 + c) (serveFuel cands.length) s
      match w with
      | none => s
      | some w => match s.encryptHead m w with
        | (true, s) => s.sendUplink m w
        | (false, _) => s0

/-- A shaper, by what it shapes. -/
def State.shaperAt (s : State) : ShaperRef → Shaper × Nat
  | .queue w => ((s.queueAt w).shaper, queueCbs w)
  | .term t => ((s.fwd.termNodes.get t).shaper, termCbs)
  | .chan c => ((s.fwd.chanNodes.get c).shaper, nodeCbs)
  | .mac m => ((s.fwd.macNodes.get m).shaper, nodeCbs)

def State.setShaper (s : State) (r : ShaperRef) (k : Shaper) : State :=
  match r with
  | .queue w => s.setQueue w { s.queueAt w with shaper := k }
  | .term t => s.setTermNode t { s.fwd.termNodes.get t with shaper := k }
  | .chan c => s.setChanNode c { s.fwd.chanNodes.get c with shaper := k }
  | .mac m => s.setMacNode m { s.fwd.macNodes.get m with shaper := k }

/-- SHAPER_CONFORMS: the content of a shaper in debt has climbed back to zero. Log entry 109 (DESIGN CHOICE). -/
def execShaperConforms (shaper : ShaperRef) (s : State) : Res :=
  .next <|
    let k := s.shaperAt shaper
    if conforms s k.1 k.2 then s else s.setShaper shaper { k.1 with content := 0, at_ := s.up }

end Sys2Proof.Machine
end

