-- ==== Sys2Proof/Machine/QueueCmds.lean ====
section
/-! DEFINITION. Observation of queues (R295 to R297), disabling (R298), queue and scheduler commands (R273 to R275, R299). -/
namespace Sys2Proof.Machine

/-! ### Observation -/

/-- Head-of-line delay in ns (R295); frames of a run keep their enqueue time. -/
def delayOf (s : State) (q : Queue) : Nat :=
  match q.frames ++ q.run ++ q.tail with
  | [] => 0
  | x :: _ => s.now - x.at_

/-- Bin of a value with a base (R297). -/
def binFrom (base v : Nat) : Nat → Nat → Nat
  | 0, k => k
  | n + 1, k => if v < base * 2 ^ k then k else binFrom base v n (k + 1)

def binOf (base v : Nat) : Nat := binFrom base v 15 0

/-- A sample recorded in both histograms of a queue. -/
def State.sampleHist (s : State) (w : Nat) : State :=
  let q := s.queueAt w
  let h := s.fwd.hists.get w
  let up (t : Tab Nat) (k : Nat) : Tab Nat := t.set k (satTo 16 (t.get k + 1))
  let h := { depth := up h.depth (binOf (s.getN .HIST_DEPTH_BASE) (depthOf q)), delay := up h.delay (binOf (s.getN .HIST_DELAY_BASE) (delayOf s q)) }
  { s with fwd.hists := s.fwd.hists.set w h }

/-- Is a queue watched? -/
def watched (s : State) (w : Nat) : Bool := s.fwd.watch.any (fun e => e.2.any (fun x => x.1 == w))

/-- QUEUE_SAMPLE: the 1 ms sample of a queue that is not watched. -/
def execQueueSample (queue : Fin 81920) (s : State) : Res := .next (if watched s queue then s else s.sampleHist queue)

/-- WATCH_SAMPLE: the 10 µs sample of a watched queue, written to telemetry; QUEUE_DELAY_HIGH beyond DELAY_LIMIT. -/
def execWatchSample (slot : Fin 256) (s : State) : Res :=
  .next <|
    match s.fwd.watch.get slot.val with
    | none => s
    | some (w, limit) =>
      let q := s.queueAt w
      let d := delayOf s q
      let s := (s.sampleHist w).produce 1 slot [w, depthOf q, d]
      if limit < d then
        let i := (gateOf s w).getD 0
        s.raiseSec .QUEUE_DELAY_HIGH slot (gateSrc i) (gateRegion i) (fun _ => evData [(8, slot.val)] (d / 1000))
      else s

/-- WATCH_SET: a slot set, or cleared where no queue is named. Log entry 110 (DESIGN CHOICE). -/
def execWatchSet (mb : Fin 16) (slot : Nat) (queue : Option Nat) (delayLimit : Nat) (s : State) : Res :=
  hostCmd s mb 0x0A40 fun _ s =>
    if 256 ≤ slot || queue.any (fun w => decide (81920 ≤ w)) then fail s .badArg
    else
      match queue with
      | none => okay { s with fwd.watch := s.fwd.watch.set slot none }
      | some w =>
        if (s.queueAt w).enable && (s.queueAt w).bind.isSome then okay { s with fwd.watch := s.fwd.watch.set slot (some (w, delayLimit)) }
        else okay { s with fwd.watch := s.fwd.watch.set slot none }

/-- HIST_READ: histograms of 1 to 64 queues from `start` on, zeroed with CLEAR. -/
def execHistRead (mb : Fin 16) (start count : Nat) (s : State) : Res :=
  hostCmd s mb 0x0A41 fun c s =>
    if count = 0 || 64 < count || 81920 < start + count then fail s .badArg
    else
      let ws := (List.range count).map (start + ·)
      let bins (w : Nat) : List Nat := (s.fwd.hists.get w).depth.getRange 0 16 ++ (s.fwd.hists.get w).delay.getRange 0 16
      let out := ((ws.map bins).flatten).map Int.ofNat
      okay (if c.flags.testBit 0 then ws.foldl (fun s w => { s with fwd.hists := s.fwd.hists.set w {} }) s else s) out

/-! ### Disabling (R298) -/

/-- QUEUE_DRAINED: a queue disabled without FLUSH is empty. -/
def execQueueDrained (queue : Fin 81920) (s : State) : Res := .next (s.drainTest queue)

/-- QUEUE_DRAIN_TIMEOUT: it is not, 1 s on. -/
def execQueueDrainTimeout (queue : Fin 81920) (s : State) : Res :=
  .next (s.respondAll (.queueDrained (decide (65536 ≤ queue.val)) (queue.val % 65536)) .timeout 0 [])

/-- A queue disabled: its watch slots are left empty. -/
def State.disableQueue (s : State) (w : Nat) : State := (s.setQueue w { s.queueAt w with enable := false }).unwatch w

/-- QUEUE_DISABLE. -/
def execQueueDisable (mb : Fin 16) (queue : Nat) (s : State) : Res :=
  hostCmd s mb 0x0A03 fun c s =>
    if 81920 ≤ queue then fail s .badArg
    else
      let s := s.disableQueue queue
      if c.flags.testBit 0 then okay (s.emptyQueue queue)
      else if queueEmpty (s.queueAt queue) then okay s
      else (s, .wait (.queueDrained (decide (65536 ≤ queue)) (queue % 65536)) true)

/-! ### QUEUE_CONFIG (R273 to R275, R340, R356) -/

def inRange (v : Option Nat) (lo hi : Nat) : Bool := v.all (fun x => decide (lo ≤ x ∧ x ≤ hi))

/-- Fields in the ranges of Table 11.1. -/
def queueRanges (up : Bool) (a : QueueArg) : Bool :=
  inRange a.enable 0 1 && inRange a.bind 0 (if up then 31 else 131071) && inRange a.level 0 7 && inRange a.bridge 0 (if up then 0 else 1)
    && inRange a.quantum 64 65536 && inRange a.limit 256 (16 * 2 ^ 20) && inRange a.maxFrame 64 10240
    && inRange a.cir 0 (if up then 800000000 else 49766400) && inRange a.cbs 64 (4 * 2 ^ 20)

/-- The object as it would stand, its shaper apart. Log entry 106 (DESIGN CHOICE). -/
def queueWith (q : Queue) (a : QueueArg) : Queue :=
  { q with enable := a.enable.elim q.enable (· == 1), bind := a.bind <|> q.bind, level := a.level.getD q.level,
           bridge := a.bridge.elim q.bridge (· == 1), quantum := a.quantum.getD q.quantum, limit := a.limit.getD q.limit,
           yellow := a.yellow <|> q.yellow, maxFrame := a.maxFrame.getD q.maxFrame }

/-- A shaper given a change, which waits for the next hand-over decision (R284). Log entry 108 (DESIGN CHOICE). -/
def askShaper (k : Shaper) (cir cbs : Option Nat) : Shaper :=
  if cir.isNone && cbs.isNone then k
  else
    let was : Nat × Option Nat := k.next.getD (k.cir, k.cbs)
    { k with next := some (cir.getD was.1, cbs <|> was.2) }

/-- What the binding of a queue is refused with. Log entry 107 (DESIGN CHOICE). -/
def bindFault (s : State) (w : Nat) (o q : Queue) : Option Status :=
  match q.bind with
  | none => none
  | some b =>
    if w < 65536 then
      let e := s.gem b
      if !e.valid then some .noObject
      else if !bit e.dir 0 then some .badArg
      else if !(o.bind.any (fun g => (s.gem g).chan / 8 == e.chan / 8)) && decide (16384 ≤ boundIn s (e.chan / 8)) then some .noSpace
      else if q.bridge && s.fwd.downQ.any (fun x => x.1 != w && x.2.bridge && x.2.bind == some b) then some .alreadyExists
      else none
    else if b / 16 != (w - 65536) / 8192 then some .badArg
    else if !macUsed s b then some .noObject
    else none

/-- The checks of a queue object as it would stand. -/
def queueFault (s : State) (w : Nat) (o q : Queue) (moved : Bool) : Option Status :=
  if q.limit < yellowLimit q then some .badArg
  else if moved && o.enable && !queueEmpty o then some .busy
  else
    match (if moved || (q.enable && !o.enable) then bindFault s w o q else none) with
    | some st => some st
    | none =>
      if q.enable && q.bind.isNone then some .badArg
      else if q.level = 7 && s.getN .QUEUE_DEEP w = 1 then some .badArg
      else none

/-- CIR and CBS last asked of a shaper. -/
def askedOf (k : Shaper) (dflt : Nat) : List Int :=
  let v : Nat × Option Nat := k.next.getD (k.cir, k.cbs)
  [(v.1 : Int), (v.2.getD dflt : Int)]

/-- Object, depth, deficit and counters of a queue, as they are read and as a write answers them (R449). -/
def queueWords (s : State) (w : Nat) : List Int :=
  let q := s.queueAt w
  let k := q.counts
  [(b2n q.enable : Int), (match q.bind with
    | some b => (b : Int)
    | none => -1), q.level, b2n q.bridge, q.quantum, q.limit, yellowLimit q, q.maxFrame] ++ askedOf q.shaper (queueCbs w)
    ++ [(depthOf q : Int), q.deficit, k.enqueued, k.served, k.disabled, k.size, k.colour, k.tail, k.flushed, k.neverFits, k.glacier]

/-- QUEUE_CONFIG: a queue object written under its checks; nothing changes where one fails. -/
def execQueueConfig (mb : Fin 16) (queue : Nat) (arg : QueueArg) (s : State) : Res :=
  hostCmd s mb 0x0A01 fun _ s =>
    if 81920 ≤ queue || !queueRanges (decide (65536 ≤ queue)) arg then fail s .badArg
    else
      let o := s.queueAt queue
      let q := queueWith o arg
      let moved := o.bind != q.bind || o.level != q.level || o.bridge != q.bridge
      match queueFault s queue o q moved with
      | some st => fail s st
      | none =>
        let t := s.setQueue queue { q with shaper := askShaper o.shaper arg.cir arg.cbs }
        let r := (q.bind.map (fun g => (s.gem g).chan / 8)).getD 0
        if queue < 65536 && q.level = 7 && q.enable && !tapesOk t r then fail s .noSpace
        else
          let t := if o.enable && !q.enable then t.unwatch queue else t
          okay t (queueWords t queue)

/-- QUEUE_READ: object, depth, deficit and counters. -/
def execQueueRead (mb : Fin 16) (queue : Nat) (s : State) : Res :=
  hostCmd s mb 0x0A02 fun _ s =>
    if 81920 ≤ queue then fail s .badArg
    else okay s (queueWords s queue)

/-! ### SCHED_NODE_SET (R275, R284) -/

/-- A scheduler node as it is answered (R449): QUANTUM (0 for none), CIR and CBS last asked. -/
def nodeWords (s : State) (n : ShaperRef) : List Int :=
  (match n with
    | .term t => ((s.fwd.termNodes.get t).quantum : Int)
    | _ => 0) :: askedOf (s.shaperAt n).1 (s.shaperAt n).2

/-- SCHED_NODE_SET: a terminal, tree channel or uplink MAC object. -/
def execSchedNodeSet (mb : Fin 16) (node : ShaperRef) (quantum cir cbs : Option Nat) (s : State) : Res :=
  hostCmd s mb 0x0A10 fun _ s =>
    let ok (top : Nat) : Bool := inRange cir 0 top && inRange cbs 64 (4 * 2 ^ 20)
    match node with
    | .queue _ => fail s .badArg
    | .term t =>
      if 8192 ≤ t || !ok 49766400 || !inRange quantum 64 65536 then fail s .badArg
      else if (s.term t).state == .free then fail s .noObject
      else
        let n := s.fwd.termNodes.get t
        let s := s.setTermNode t { quantum := quantum.getD n.quantum, shaper := askShaper n.shaper cir cbs }
        okay s (nodeWords s node)
    | .chan c =>
      if 64 ≤ c || !ok 49766400 || quantum.isSome then fail s .badArg
      else
        let s := s.setShaper node (askShaper (s.shaperAt node).1 cir cbs)
        okay s (nodeWords s node)
    | .mac m =>
      if 32 ≤ m || !ok 800000000 || quantum.isSome then fail s .badArg
      else if !macUsed s m then fail s .noObject
      else
        let s := s.setShaper node (askShaper (s.shaperAt node).1 cir cbs)
        okay s (nodeWords s node)

end Sys2Proof.Machine
end

