-- ==== Sys2Proof/Machine/Buffers.lean ====
section
/-! DEFINITION. Buffer pools: allocation, buffer operations, release faults, thresholds and their messages (R302 to R314, R326). -/
namespace Sys2Proof.Machine

/-! ### Pools (R302, R303) -/

/-- Buffer size and number of buffers of a pool, in force since boot. -/
def bufSize (s : State) (p : Nat) : Nat := (s.getF .POOL_BUF_SIZE p).toNat
def poolBytes (s : State) (p : Nat) : Nat := (s.getF .POOL_SIZE p).toNat * 1024
def poolCount (s : State) (p : Nat) : Nat := poolBytes s p / bufSize s p

/-- First granule of a pool. Log entry 120 (DESIGN CHOICE). -/
def poolBase (s : State) (p : Nat) : Nat := ((List.range p).foldl (fun n k => n + poolBytes s k) 0) / 256

/-- Packet buffer banks lost for want of a spare (R489): bank b holds bytes from b × 4 MiB on. -/
def lostBanks (s : State) : List Nat := (List.range 16).filter (fun b => (s.unit (blockAddr regM b)).lost)

/-- Buffers of a pool, from the first on and before the second, that lie in a bank. -/
def bankSpan (s : State) (p b : Nat) : Nat × Nat :=
  let base := poolBase s p * 256
  (min (poolCount s p) ((b * 4194304 - base) / bufSize s p), min (poolCount s p) (ceilDiv ((b + 1) * 4194304 - base) (bufSize s p)))

/-- Buffers of a pool that lost banks hold, in rising order of banks. -/
def lostBuffers (s : State) (p : Nat) : Nat :=
  ((lostBanks s).foldl (fun (a : Nat × Nat) b => let (l, h) := bankSpan s p b; (a.1 + (h - max l a.2), max h a.2)) (0, 0)).1

/-- Buffer number `i` of a pool, or the first after it that no lost bank holds. -/
def skipLost (s : State) (p i : Nat) : Nat :=
  (lostBanks s).foldl (fun i b => let (l, h) := bankSpan s p b; if l ≤ i && i < h then h else i) i

/-- A buffer lies in a lost bank. -/
def bufLost (s : State) (p id : Nat) : Bool :=
  let i := (id - poolBase s p) * 256 / bufSize s p
  skipLost s p i != i

/-- N_p: the buffers that a pool holds (R302, R489). -/
def poolLive (s : State) (p : Nat) : Nat := poolCount s p - lostBuffers s p

/-- Pool that a length names; none for a length no pool holds. -/
def poolFor (s : State) (len : Nat) : Option Nat := [0, 1, 2, 3].find? (fun p => decide (len ≤ bufSize s p))

def State.buf (s : State) (id : Nat) : BufWord := s.fwd.bufs.get id
def State.setBuf (s : State) (id : Nat) (v : BufWord) : State := { s with fwd.bufs := s.fwd.bufs.set id v }

/-! ### Thresholds (R310) -/

/-- Threshold count of a percentage. Log entry 121 (DESIGN CHOICE). -/
def threshold (s : State) (k : Param) (p : Nat) : Nat := ceilDiv (poolLive s p * s.getN k p) 100

/-- Flags of a pool after an operation that left `n` buffers in use. -/
def flagsAt (s : State) (p : Nat) (v : Pool) : Pool :=
  let n := v.inUse
  let warn := threshold s .POOL_WARN p
  let freeze := threshold s .POOL_FREEZE p
  let thaw := threshold s .POOL_THAW p
  let crit := threshold s .POOL_CRITICAL p
  { v with warn := if v.warn then decide (min thaw (warn - 1) < n) else decide (warn ≤ n),
           frozen := if v.frozen then decide (thaw < n) else decide (freeze ≤ n),
           critical := if v.critical then decide (freeze - 1 < n) else decide (crit ≤ n),
           frozenAt := if !v.frozen && decide (freeze ≤ n) then s.up else v.frozenAt }

/-- A pool message emitted to its consumers (Table 12.6). -/
def State.poolMsg (s : State) (p kind : Nat) (dest : List Nat) : State :=
  { s with fwd.poolMsgs := s.fwd.poolMsgs ++ dest.map (fun c => (p, kind, c)) }

/-- A pool written after an operation: flags, messages and events of Tables 12.6 and 12.10. -/
def State.poolTest (s : State) (p : Nat) (v : Pool) : State :=
  let w := flagsAt s p v
  let src := srcRegion regM (10 + p)
  let data := evData [(2, p)] w.inUse
  let s := s.setPool p w
  let s := if w.warn == v.warn then s
    else if w.warn then s.raise .POOL_WARN src regM data else s.raiseAs .POOL_WARN true src regM (evData [] p)
  let s := if w.frozen == v.frozen then s
    else if w.frozen then (s.poolMsg p 0 [0, 1, 2]).raise .POOL_FREEZE src regM data
    else (s.poolMsg p 1 [0, 1, 2]).raiseAs .POOL_FREEZE true src regM (evData [(2, p)] ((s.up - v.frozenAt) / 1000))
  if w.critical == v.critical then s
  else if w.critical then (s.poolMsg p 2 [2]).raise .POOL_CRITICAL src regM data
  else (s.poolMsg p 3 [2]).raiseAs .POOL_CRITICAL true src regM (evData [] p)

/-! ### Allocation (R303, R306, R309, R312) -/

/-- What M.16 answers: a length that names no pool, an empty response, or a buffer. -/
inductive Alloced where
  | oversize
  | empty
  | granted (b : BufRef) (size : Nat)
  deriving DecidableEq, Repr

/-- ALLOC by a class: the next buffer of the free list of the pool that the length names. Log entry 116 (DESIGN CHOICE). Log entry 117 (DESIGN CHOICE). -/
def State.allocBuf (s : State) (cls len : Nat) (exempt ct : Bool) : Alloced × State :=
  match poolFor s len with
  | none => (.oversize, s.bump .POOL_OVERSIZE 0)
  | some p =>
    let v := s.pool p
    if v.critical && !exempt then (.empty, s.bumpF .POOL_EMPTY_DROPS p 15 0)
    else
      let next := skipLost s p v.fresh
      let fresh := decide (next < poolCount s p)
      let freed := v.freed.filter (fun i => !bufLost s p i)
      let id : Option Nat := if fresh then some (poolBase s p + next * (bufSize s p / 256)) else freed.head?
      match id with
      | none => (.empty, if cls < 12 then s.bumpF .POOL_EMPTY_DROPS p 31 16 else s)
      | some id =>
        let g := ((s.buf id).gen + 1) % 64
        let s := s.setBuf id { alloc := true, refcnt := 1, holders := 2 ^ cls, gen := g, pool := p, length := len, ct := ct }
        let v := { v with fresh := if fresh then next + 1 else v.fresh, freed := if fresh then v.freed else freed.drop 1, inUse := v.inUse + 1 }
        (.granted ⟨id, g, false⟩ (bufSize s p), s.poolTest p v)

/-- A frame written to a buffer it outgrows is truncated at its end, and ends with an invalid FCS (R314). -/
def State.writeTo (s : State) (f : Frame) (b : BufRef) (size : Nat) : Frame × State :=
  if f.len ≤ size then ({ f with buf := some b }, s)
  else ({ f with buf := some b, len := size, bytes := f.bytes.take size, bad := true }, s.bump .CT_OVERRUNS 0)

/-- A packet dropped at recirculation (R240): no longer in flight, counted, RECIRC_DROP. -/
def State.recircDrop (s : State) (k : Pkt) : State :=
  let r := k.mac / 16
  ((s.landed k).bumpF .RECIRC_STATS r 15 0).raiseSec .RECIRC_DROP r (srcRegion (8 + r) 9) (8 + r) (fun n => evData [(4, 8 + r)] n)

/-- A packet and its further copies join their region's recirculation queue, all or none (R239, R240). -/
def State.recirculate (s : State) (k : Pkt) (copies : Nat) (b : BufRef) : State :=
  let r := k.mac / 16
  let q := s.fwd.recirc.get r
  if 256 < q.length + copies + 1 then (s.recircDrop k).bufOp (.free 14 true b.id b.gen)
  else
    let one (i : Nat) : Pkt := { k with copy := i, frame := { k.frame with buf := some { b with shared := copies != 0 } } }
    let s := { s with fwd.recirc := s.fwd.recirc.set r (q ++ (List.range (copies + 1)).map one) }
    let s := { s with fwd.ops := s.fwd.ops ++ List.replicate copies (BufOp.take 14 b.id b.gen) }
    s.flight r k.epoch copies

/-- A frame comes back on chip at the end of those before its run (R317). -/
def State.returnFrame (s : State) (w : Nat) (b : BufRef) : State :=
  let q := s.queueAt w
  let s := s.setQueue w { q with asked := false }
  match q.run with
  | [] => s.bufOp (.free 12 true b.id b.gen)
  | x :: rest =>
    let off := q.runOff + x.frame.len + 16
    let q := { q with asked := false, run := rest, runOff := if rest.isEmpty then 0 else off % 4096,
                      frames := q.frames ++ [{ x with frame := { x.frame with buf := some b }, acked := false }] ++ (if rest.isEmpty then q.tail else []),
                      tail := if rest.isEmpty then [] else q.tail }
    ((s.setQueue w q).bufOp (.handover 12 (queueClass w) true b.id b.gen)).glacierTest w

/-- A request answered. -/
def State.grantWant (s : State) (x : Want) (b : BufRef) (size : Nat) : State :=
  match x.what with
  | .job j =>
    let (f, s) := s.writeTo j.frame b size
    { s with fwd.jobs := s.fwd.jobs ++ [{ j with frame := f }] }
  | .recirc p n => s.recirculate p n b
  | .glacier w => s.returnFrame w b

/-- A request refused: an ingress frame and a recirculated packet are dropped, a return waits (R303, R309). -/
def State.refuseWant (s : State) (x : Want) : State :=
  match x.what with
  | .job _ => s
  | .recirc p _ => s.recircDrop p
  | .glacier _ => { s with fwd.wants := s.fwd.wants ++ [x] }

/-! ### Operations on a buffer (R306 to R308) -/

/-- Kind that an operation is rejected with (Table 12.4): `take` a TAKE, else a FREE or HANDOVER, of a class. -/
def opFault (v : BufWord) (take : Bool) (cls gen : Nat) : Option Nat :=
  if !v.alloc then some (if take then 3 else 1)
  else if v.gen != gen then some 3
  else if !take && !bit v.holders cls then some 2
  else if take && v.refcnt = 63 then some 4
  else none

/-- A rejected operation: counted, logged, raised. -/
def State.rejectOp (s : State) (id cls gen kind : Nat) : State :=
  let full := decide (256 ≤ s.fwd.faultLog.length)
  let l := s.fwd.faultLog ++ [⟨id, gen, cls, kind, (s.buf id).gen, s.now % 2 ^ 48⟩]
  let s := { s with fwd.faultLog := if full then l.drop 1 else l, fwd.faultOverrun := s.fwd.faultOverrun + b2n full }
  let s := s.bumpF .BUF_FREE_FAULTS 0 (39 - 8 * kind) (32 - 8 * kind)
  let src := srcRegion regM 14
  match kind with
  | 1 => s.raiseSec .BUF_DOUBLE_FREE 0 src regM (fun _ => evData [(18, id)] cls)
  | 2 => s.raiseSec .BUF_FOREIGN_FREE 0 src regM (fun _ => evData [(18, id)] cls)
  | _ => s.raiseSec .BUF_STALE_OP 0 src regM (fun _ => evData [(18, id)] kind)

/-- A class's bit in a holder mask. -/
def withHolder (h cls : Nat) : Nat := if bit h cls then h else h + 2 ^ cls
def withoutHolder (h cls : Nat) : Nat := if bit h cls then h - 2 ^ cls else h

/-- An operation that arrives is no longer on its way. -/
def State.opArrived (s : State) (o : BufOp) : State := { s with fwd.ops := s.fwd.ops.erase o }

/-- The newest copy of a packet in a buffer is dropped from its recirculation queue (R307). -/
def State.dropCopy (s : State) (id : Nat) : State :=
  [0, 1].foldl (fun s r =>
    let q := s.fwd.recirc.get r
    match q.reverse.find? (fun k => k.frame.buf.any (fun b => b.id == id && b.shared)) with
    | none => s
    | some k => ({ s with fwd.recirc := s.fwd.recirc.set r (q.reverse.erase k).reverse }).recircDrop k) s

/-- BUFFER_TAKE. -/
def execBufferTake (cls : Fin 16) (id : Fin 262144) (gen : Fin 64) (s : State) : Res :=
  .next <|
    let s := s.opArrived (.take cls id gen)
    let v := s.buf id
    match opFault v true cls gen with
    | some k =>
      let s := s.rejectOp id cls gen k
      if cls = 14 then s.dropCopy id else s
    | none => s.setBuf id { v with refcnt := v.refcnt + 1, holders := withHolder v.holders cls }

/-- BUFFER_HANDOVER: the ingress that hands over has written its last word. Log entry 119 (DESIGN CHOICE). -/
def execBufferHandover (src dst : Fin 16) (last : Bool) (id : Fin 262144) (gen : Fin 64) (s : State) : Res :=
  .next <|
    let s := s.opArrived (.handover src dst last id gen)
    let v := s.buf id
    match opFault v false src gen with
    | some k => s.rejectOp id src gen k
    | none =>
      let h := withHolder (if last then withoutHolder v.holders src else v.holders) dst
      s.setBuf id { v with holders := h, ct := v.ct && decide (10 ≤ src.val) }

/-- BUFFER_FREE: at zero references the buffer joins the tail of its pool's free list. -/
def execBufferFree (cls : Fin 16) (last : Bool) (id : Fin 262144) (gen : Fin 64) (s : State) : Res :=
  .next <|
    let s := s.opArrived (.free cls last id gen)
    let v := s.buf id
    match opFault v false cls gen with
    | some k => s.rejectOp id cls gen k
    | none =>
      if v.refcnt ≤ 1 then
        let p := s.pool v.pool
        let s := s.setBuf id { gen := v.gen, pool := v.pool, length := v.length }
        s.poolTest v.pool { p with freed := p.freed ++ [id.val], inUse := p.inUse - 1 }
      else s.setBuf id { v with refcnt := v.refcnt - 1, holders := if last then withoutHolder v.holders cls else v.holders }

/-! ### Pool messages (R28, R312, R313) -/

/-- The oldest message of a pool to a consumer, if it is of one of some kinds. -/
def nextMsg (s : State) (p c : Nat) (kinds : List Nat) : Option (Nat × Nat × Nat) :=
  match s.fwd.poolMsgs.find? (fun m => m.1 == p && m.2.2 == c && (m.2.1 < 2) == kinds.any (· < 2)) with
  | some m => if kinds.contains m.2.1 then some m else none
  | none => none

def PoolConsumer.code : PoolConsumer → Nat
  | .dba => 0
  | .uplinkMacs => 1
  | .glacier => 2

/-- MACs that a pool's mask names. -/
def macsIn (n : Nat) : List Nat := (List.range 32).filter (fun m => bit n m)

/-- FREEZE_MESSAGE: a consumer acts on a pool's freeze. -/
def execFreezeMessage (pool : Fin 4) (consumer : PoolConsumer) (s : State) : Res :=
  .next <|
    match nextMsg s pool (PoolConsumer.code consumer) [0] with
    | none => s
    | some m =>
      let s := { s with fwd.poolMsgs := s.fwd.poolMsgs.erase m }
      match consumer with
      | .dba => { s with dba.frozen := s.dba.frozen ||| 2 ^ pool.val }
      | .glacier => { s with fwd.moverFrozen := s.fwd.moverFrozen.erase pool.val ++ [pool.val] }
      | .uplinkMacs =>
        (macsIn (s.getN .POOL_PAUSE_MACS pool)).foldl (fun s m =>
          let v := s.mac m
          let fs := v.freezes.filter (fun f => f.1 != pool.val) ++ [(pool.val, s.getN .POOL_PAUSE_CLASSES pool)]
          (s.setMac m { v with freezes := fs }).pauseWork m true) s

/-- THAW_MESSAGE: it reverses its action; a class stays paused until the last pool that paused it thaws. -/
def execThawMessage (pool : Fin 4) (consumer : PoolConsumer) (s : State) : Res :=
  .next <|
    match nextMsg s pool (PoolConsumer.code consumer) [1] with
    | none => s
    | some m =>
      let s := { s with fwd.poolMsgs := s.fwd.poolMsgs.erase m }
      match consumer with
      | .dba => { s with dba.frozen := s.dba.frozen &&& (15 - 2 ^ pool.val) }
      | .glacier => { s with fwd.moverFrozen := s.fwd.moverFrozen.erase pool.val }
      | .uplinkMacs =>
        (macsIn (2 ^ 32 - 1)).foldl (fun s m =>
          let v := s.mac m
          if v.freezes.any (fun f => f.1 == pool.val) then
            (s.setMac m { v with freezes := v.freezes.filter (fun f => f.1 != pool.val) }).pauseWork m false
          else s) s

/-- CRITICAL_MESSAGE: M.48 gives spill-out of frames in the pool precedence, or ends that. -/
def execCriticalMessage (pool : Fin 4) (s : State) : Res :=
  .next <|
    match nextMsg s pool 2 [2, 3] with
    | none => s
    | some m =>
      let s := { s with fwd.poolMsgs := s.fwd.poolMsgs.erase m }
      let l := s.fwd.moverCritical.erase pool.val
      { s with fwd.moverCritical := if m.2.1 = 2 then l ++ [pool.val] else l }

/-! ### Commands (R326) -/

/-- POOL_FLAGS. -/
def poolFlags (v : Pool) : Nat := b2n v.critical * 4 + b2n v.frozen * 2 + b2n v.warn

/-- POOL_STATUS: in-use count, flags and threshold counts of each pool. -/
def execPoolStatus (mb : Fin 16) (s : State) : Res :=
  hostCmd s mb 0x0B01 fun _ s =>
    okay s (([0, 1, 2, 3].map (fun p => [(s.pool p).inUse, poolFlags (s.pool p), threshold s .POOL_WARN p, threshold s .POOL_FREEZE p,
      threshold s .POOL_THAW p, threshold s .POOL_CRITICAL p])).flatten.map Int.ofNat)

/-- A record of the fault log as four words (Table 12.5). -/
def bufFaultWords (r : BufFault) : List Nat :=
  [r.id * 2 ^ 14 + r.named % 64 * 2 ^ 8 + r.cls * 16 + r.kind, r.gen * 2 ^ 26, r.time * 2 ^ 16 % 2 ^ 32, r.time / 2 ^ 16 % 2 ^ 32]

/-- BUF_FAULT_LOG_READ: up to 64 records returned and released. -/
def execBufFaultLogRead (mb : Fin 16) (count : Nat) (s : State) : Res :=
  hostCmd s mb 0x0B02 fun _ s =>
    if count = 0 || 64 < count then fail s .badArg
    else
      let out := (s.fwd.faultLog.take count).map bufFaultWords
      okay { s with fwd.faultLog := s.fwd.faultLog.drop count } ((s.fwd.faultOverrun :: out.flatten).map Int.ofNat)

end Sys2Proof.Machine
end

