-- ==== Sys2Proof/Machine/Glacier.lean ====
section
/-! DEFINITION. The Glacier mover (R315 to R319) and the DRAM controller (R320 to R326). -/
namespace Sys2Proof.Machine

/-! ### Runs and pages (R315, R319, R325) -/

/-- Bytes of a frame with its descriptor. -/
def runBytes (x : QFrame) : Nat := x.frame.len + 16

/-- Pages of a queue's run. -/
def runPages (q : Queue) : Nat := if q.run.isEmpty then 0 else ceilDiv (q.runOff + q.run.foldl (fun n x => n + runBytes x) 0) 4096

/-- Queues with a run, by watch index. -/
def runs_ (s : State) : List Nat :=
  s.fwd.downQ.keys (fun _ q => !q.run.isEmpty) ++ (s.fwd.upQ.keys (fun _ q => !q.run.isEmpty)).map (65536 + ·)

/-- GLACIER_USE. -/
def pagesInUse (s : State) : Nat := (runs_ s).foldl (fun n w => n + runPages (s.queueAt w)) 0

/-- Pages that the Glacier's eighths hold. -/
def pagesTotal (s : State) : Nat := (s.getF .GLACIER_EIGHTHS).toNat * eighth s / 4096

/-- A further frame fits a queue's run. Log entry 122 (DESIGN CHOICE). -/
def pageFree (s : State) (q : Queue) (x : QFrame) : Bool :=
  decide (pagesInUse s - runPages q + runPages { q with run := q.run ++ [x] } ≤ pagesTotal s)

/-- Frames within the first `head` bytes of a list, and those behind them. -/
def splitAt' (head : Nat) : List QFrame → Nat → List QFrame × List QFrame
  | [], _ => ([], [])
  | x :: l, n => if head ≤ n then ([], x :: l) else
    let r := splitAt' head l (n + x.frame.len)
    (x :: r.1, r.2)

/-- What M.48 spills next from a queue (R316): nothing; while a pool is frozen, of a deep queue, the first frame behind GLACIER_HEAD or the next one
behind the run; with an arrival behind a run, whatever stands before it. -/
inductive SpillNext where
  | nothing
  | start (keep : List QFrame) (x : QFrame) (behind : List QFrame)
  | append (x : QFrame) (rest : List QFrame)
  deriving DecidableEq, Repr

/-- Log entry 281 (DEDUCED). -/
def spillNext (s : State) (w : Nat) : SpillNext :=
  let q := s.queueAt w
  let head := s.getN .GLACIER_HEAD * 1024
  let spills := s.getN .QUEUE_DEEP w = 1 && !s.fwd.moverFrozen.isEmpty && head < onChip q
  if s.power.dev == .standby then .nothing
  else if q.run.isEmpty then
    if spills then
      match splitAt' head q.frames 0 with
      | (_, []) => .nothing
      | (keep, x :: rest) => .start keep x rest
    else .nothing
  else match q.tail with
    | [] => .nothing
    | x :: rest => if spills || q.tail.any (·.arrival) then .append x rest else .nothing

/-- The frame that a spill is due for. -/
def spillFrame : SpillNext → Option QFrame
  | .nothing => none
  | .start _ x _ => some x
  | .append x _ => some x

/-- A frame written to the end of a queue's run: class 12 holds its buffer until the write is acknowledged. -/
def State.spillTo (s : State) (w : Nat) (q : Queue) (x : QFrame) : State :=
  let s := s.setQueue w { q with run := q.run ++ [{ x with acked := x.frame.buf.isNone }] }
  match x.frame.buf with
  | none => s
  | some b => s.bufOp (.handover (queueClass w) 12 (lastOf s (queueClass w) b) b.id b.gen)

/-- GLACIER_SPILL: M.48 writes a frame of a deep queue to its run. With no page free nothing is spilled, and the first arrival behind the run is
dropped (R319). Log entry 282 (DEDUCED). -/
def execGlacierSpill (queue : Fin 81920) (s : State) : Res :=
  .next <|
    let w := queue.val
    let q := s.queueAt w
    match spillNext s w with
    | .nothing => s
    | .start keep x rest => if pageFree s q x then (s.spillTo w { q with frames := keep, tail := rest.map (fun y => { y with arrival := false }) } x).glacierTest w else s
    | .append x rest =>
      if pageFree s q x then s.spillTo w { q with tail := rest } x
      else match q.tail.find? (·.arrival) with
      | none => s
      | some y =>
        let s := s.setQueue w { q with tail := q.tail.eraseP (·.arrival), counts := { q.counts with glacier := q.counts.glacier + 1 } }
        ((s.freeFrame (queueClass w) y.frame).bumpF .GLACIER_DROPS 0 31 16).raiseSec .GLACIER_FULL 0 (srcRegion regM 15) regM (fun n => evData [] n)

/-- The first frame of a run not yet acknowledged is: its buffer is released. -/
def ackFirst : List QFrame → List QFrame × Option Frame
  | [] => ([], none)
  | x :: l => if x.acked then
      let r := ackFirst l
      (x :: r.1, r.2)
    else ({ x with acked := true, frame := { x.frame with buf := none } } :: l, some x.frame)

/-- GLACIER_SPILL_ACK: a spill's DRAM write is acknowledged. -/
def execGlacierSpillAck (queue : Fin 81920) (s : State) : Res :=
  .next <|
    let q := s.queueAt queue
    let r := ackFirst q.run
    match r.2 with
    | none => s
    | some f => (s.setQueue queue { q with run := r.1 }).freeFrame 12 f

/-- Is a spill of a frame held in a pool whose CRITICAL is set due (R312)? -/
def criticalSpill (s : State) : Bool :=
  let due (w : Nat) : Bool := match spillFrame (spillNext s w) with
    | some x => pageFree s (s.queueAt w) x && x.frame.buf.any (fun b => s.fwd.moverCritical.contains (s.buf b.id).pool)
    | none => false
  !s.fwd.moverCritical.isEmpty && ((s.fwd.downQ.any (fun e => due e.1)) || s.fwd.upQ.any (fun e => due (65536 + e.1)))

/-- GLACIER_RETURN: the frame at the head of a run is read and asks for a buffer of class 12; one with an uncorrectable DRAM error is dropped. -/
def execGlacierReturn (queue : Fin 81920) (error : Bool) (s : State) : Res :=
  .next <|
    let w := queue.val
    let s := s.glacierTest w
    let q := s.queueAt w
    match q.run with
    | [] => s
    | x :: rest =>
      if !q.returning || q.asked || !x.acked || criticalSpill s then s
      else if error then
        let off := q.runOff + runBytes x
        let q := { q with run := rest, runOff := if rest.isEmpty then 0 else off % 4096, counts := { q.counts with glacier := q.counts.glacier + 1 },
                          frames := if rest.isEmpty then q.frames ++ q.tail else q.frames, tail := if rest.isEmpty then [] else q.tail }
        (((s.setQueue w q).bumpF .GLACIER_DROPS 0 15 0).glacierTest w).drainTest w
      else
        let s := s.setQueue w { q with asked := true }
        { s with fwd.wants := s.fwd.wants ++ [⟨12, x.frame.len, false, false, .glacier w⟩] }

/-- GLACIER_STATUS: pages in use, runs, rates in and out as measured, and the 16 longest runs by watch index. Log entry 123 (DESIGN CHOICE). -/
def execGlacierStatus (mb : Fin 16) (rateIn rateOut : Nat) (s : State) : Res :=
  hostCmd s mb 0x0B03 fun _ s =>
    let bytes (w : Nat) : Nat := (s.queueAt w).run.foldl (fun n x => n + runBytes x) 0
    let top := ((runs_ s).orderBy (fun a b => decide (bytes b ≤ bytes a))).take 16
    okay s ((pagesInUse s :: (runs_ s).length :: rateIn :: rateOut :: (top.map (fun w => [w, bytes w])).flatten).map Int.ofNat)

/-! ### DRAM (R320 to R324) -/

def State.dramCh (s : State) (d : Nat) : DramCh := s.fwd.dram.get d
def State.setDramCh (s : State) (d : Nat) (v : DramCh) : State := { s with fwd.dram := s.fwd.dram.set d v }

/-- Urgency of a request by its age against its port's target. -/
def reqUrgency (s : State) (port : Nat) (r : DramReq) : Nat :=
  let age := s.up - r.at_
  let t := s.getN .DRAM_TARGET port
  if t ≤ age then 3 else if 3 * t ≤ 4 * age then 2 else if t ≤ 2 * age then 1 else 0

/-- Ports whose pages are kept open (Table 12.7). -/
def keepsOpen (port : Nat) : Bool := port = 0 || port = 1 || port = 4

/-- Highest reqUrgency waiting at a port; none when nothing waits. -/
def portLevel (s : State) (v : DramCh) (port : Nat) : Option Nat :=
  match v.ports.get port with
  | [] => none
  | l => some (l.foldl (fun m r => max m (reqUrgency s port r)) 0)

/-- Highest reqUrgency waiting on a channel. -/
def chanLevel (s : State) (v : DramCh) : Option Nat :=
  [0, 1, 2, 3, 4, 5].foldl (fun m p => match portLevel s v p with
    | none => m
    | some k => some (max k (m.getD 0))) none

/-- Requests that have newly reached level 3 are counted. -/
def State.countLate (s : State) (d : Nat) : State :=
  [0, 1, 2, 3, 4, 5].foldl (fun s p =>
    let v := s.dramCh d
    let l := v.ports.get p
    let n := (l.filter (fun r => !r.late && reqUrgency s p r == 3)).length
    let late (r : DramReq) : DramReq := { r with late := r.late || reqUrgency s p r == 3 }
    if n = 0 then s else (s.setDramCh d { v with ports := v.ports.set p (l.map late) }).bump .DRAM_PORT_LATE p n) s

/-- The port served next: among those at the highest level, round robin. -/
def nextPort (s : State) (v : DramCh) : Option Nat :=
  match chanLevel s v with
  | none => none
  | some k => ([1, 2, 3, 4, 5, 6].map (fun i => (v.lastPort + i) % 6)).find? (fun p => portLevel s v p == some k)

/-- The request of a port served next: the oldest, but at level 0 a later one to the same bank's open row may pass it. Log entry 125 (DESIGN CHOICE). -/
def nextReq (v : DramCh) (port level : Nat) (l : List DramReq) : Option (DramReq × Bool) :=
  match l with
  | [] => none
  | x :: _ =>
    if level = 0 && v.passes.get port < 16 && v.rows.get x.bank != some x.row then
      match l.find? (fun r => r.bank == x.bank && v.rows.get r.bank == some r.row) with
      | some r => some (r, true)
      | none => some (x, false)
    else some (x, false)

/-- A retraining that is due runs in the window that opens (R323). -/
def State.retrainIn (s : State) (d : Nat) : State :=
  let v := s.dramCh d
  if v.retrainDue && !(chanLevel s v).any (1 ≤ ·) then s.setDramCh d { v with retrainDue := false, trained := true } else s

/-- DRAM_REQUEST: requests are accepted, and the channel serves one; a channel in self-refresh leaves it. `ecc`: 0 no error, 1 corrected, 2
uncorrectable, of a read. Log entry 124 (DESIGN CHOICE). -/
def execDramRequest (channel : Fin 8) (arrived : List DramArg) (ecc : Fin 3) (s : State) : Res :=
  .next <|
    let v := s.dramCh channel
    let ports := arrived.foldl (fun (t : Tab (List DramReq)) a =>
      t.set a.port (t.get a.port ++ [{ bank := a.bank, row := a.row, write := a.write, at_ := s.up - a.age }])) v.ports
    let s := (s.setDramCh channel { v with ports := ports }).countLate channel
    let v := s.dramCh channel
    match nextPort s v with
    | none => s
    | some p =>
      match nextReq v p ((portLevel s v p).getD 0) (v.ports.get p) with
      | none => s
      | some (r, passed) =>
        let v := { v with ports := v.ports.set p ((v.ports.get p).erase r), lastPort := p, passes := v.passes.set p (if passed then v.passes.get p + 1 else 0),
                          rows := v.rows.set r.bank (if keepsOpen p then some r.row else none) }
        let s := { (s.setDramCh channel v).retrainIn channel with power.selfRefresh := s.power.selfRefresh.set channel false }
        let v := s.dramCh channel
        if r.write || ecc = 0 then s
        else if ecc = 1 then (s.setDramCh channel { v with corrected := v.corrected + 1 }).bump .DRAM_ECC_CE channel
        else (s.setDramCh channel { v with uncorrectable := v.uncorrectable + 1 }).raise .DRAM_UE (srcDram channel 2) regM (evData [(3, channel.val)] p)

/-- DRAM_REFRESH: a refresh falls due; it is postponed, at most eight times, while a request of level 2 or above waits. -/
def execDramRefresh (channel : Fin 8) (s : State) : Res :=
  .next <|
    let v := s.dramCh channel
    if (chanLevel s v).any (2 ≤ ·) && v.postponed < 8 then
      s.setDramCh channel { v with postponed := v.postponed + 1, postponements := v.postponements + 1 }
    else s.setDramCh channel { v with postponed := 0 }

/-- DRAM_RETRAIN_CHECK: the channel retrains where no request of level 1 or above waits; else it waits for a window. -/
def execDramRetrainCheck (channel : Fin 8) (s : State) : Res :=
  .next <|
    (s.setDramCh channel { s.dramCh channel with retrainDue := true }).retrainIn channel

/-- DRAM_RETRAIN_FORCED: no window has opened. -/
def execDramRetrainForced (channel : Fin 8) (s : State) : Res :=
  .next <|
    let v := s.dramCh channel
    if v.retrainDue then
      (s.setDramCh channel { v with retrainDue := false, trained := true }).raise .DRAM_RETRAIN_FORCED (srcDram channel 0) regM (evData [] channel)
    else s

/-- DRAM_STATUS: by channel training state, error counts and refreshes postponed; by port late counts. -/
def execDramStatus (mb : Fin 16) (s : State) : Res :=
  hostCmd s mb 0x0C01 fun _ s =>
    let chans := (List.range 8).map (fun d =>
      let v := s.dramCh d
      [b2n v.trained, v.corrected, v.uncorrectable, v.postponements])
    okay s (chans.flatten.map Int.ofNat ++ [0, 1, 2, 3, 4, 5].map (fun p => s.ro .DRAM_PORT_LATE p))

end Sys2Proof.Machine
end

