-- ==== Sys2Proof/Machine/Inject.lean ====
section
/-! DEFINITION. What becomes of a whole message from the host (R416, Table 16.6). -/
namespace Sys2Proof.Machine

/-- What becomes of a message: accepted, rejected (DSTAT 5), or its descriptor waits for a buffer (R309). -/
inductive Intake where
  | accepted | rejected | waits
  deriving DecidableEq, Repr

/-- What an allocation that was not granted makes of it: longer than pool 3's buffers it is rejected, else it waits. -/
def notGranted (a : Alloced) : Intake := if a = .oversize then .rejected else .waits

/-- A downstream OMCI message: its integrity code appended, it joins the OMCI queue of its terminal's channel; rejected for a terminal not in
OPERATION. Log entry 42 (PRESUMED). Log entry 168 (DESIGN CHOICE). -/
def State.acceptOmci (s : State) (t : Nat) (data : List Byte) : State × Intake :=
  let v := s.term t
  if v.state != .operation then (s, .rejected)
  else
    match s.allocBuf 13 (data.length + 4) true false with
    | (.granted b _, s) =>
      let (id, s) := s.draw
      let code := (Config.omciCode (slotMsk s (termPair t)) data).take 4
      let f : Frame := { id := id, len := data.length + 4, bytes := data ++ code, buf := some b }
      let k := s.chan v.chan
      let s := s.setFramer v.chan { k.framer with omci := k.framer.omci ++ [⟨v.omciGem, f, s.up, false⟩] }
      (s.bufOp (.handover 13 10 true b.id b.gen), .accepted)
    | (a, s) => (s, notGranted a)

/-- A frame from the host enqueued under R276 without classification or metering; a refusal is counted as there. -/
def State.acceptFrame (s : State) (meta_ : Nat) (data : List Byte) : State × Intake :=
  let w := (if meta_.testBit 31 then 65536 else 0) + bits meta_ 30 15
  if 81920 ≤ w then (s, .rejected)
  else
    match s.allocBuf 13 data.length false false with
    | (.granted b _, s) =>
      let (id, s) := s.draw
      let f : Frame := { id := id, len := data.length, bytes := data, buf := some b }
      let j : Job := { frame := f, cls := 13, dest := if w < 65536 then .down w else .up (w - 65536), colour := b2n (meta_.testBit 14) }
      match if w < 65536 then tetherQueue s w j else none with
      | some k => (s.tetherAdd k w j, if tetherFull s k f.len then .rejected else .accepted)
      | none => (s.admitTo w j, if admission (s.queueAt w) f.len j.colour = .accepted then .accepted else .rejected)
    | (a, s) => (s, notGranted a)

/-- A whole from-host message. -/
def acceptFromHost (s : State) (func meta_ : Nat) (data : List Byte) : State × Intake :=
  if func = 1 then s.acceptOmci (meta_ % 8192) data
  else if func = 2 then s.acceptFrame meta_ data
  else (s, .rejected)

end Sys2Proof.Machine
end

