-- ==== Sys2Proof/Machine/HostDma.lean ====
section
/-! DEFINITION. The host port and the DMA channels (spec/16). -/
namespace Sys2Proof.Machine

/-! ### Queues, fill and triggers (R417, R418) -/

/-- Bytes a device-side queue holds, with the from-host message being gathered. -/
def queueBytes (d : DmaCh) : Nat :=
  (d.queue.map (·.len)).foldl (· + ·) 0 + (match d.gather with
    | some (_, bs) => bs.length
    | none => 0)

def dmaLimit (s : State) (c : Nat) : Nat := s.getN .DMA_QUEUE_LIMIT c * 1024

/-- The fill of R417: on a to-host channel the bytes of whole messages no burst has taken; on a from-host channel the room left. -/
def fill (s : State) (c : Nat) : Nat :=
  let d := s.ch c
  if c < 32 then (((if d.taken then d.queue.drop 1 else d.queue).map (·.len)).foldl (· + ·) 0)
  else dmaLimit s c - queueBytes d

/-- REQ: asserted at TRIG_HI or above, withdrawn at TRIG_LO or below, kept between (R417). -/
def State.testReq (s : State) (c : Nat) : State :=
  let d := s.ch c
  let f := fill s c
  s.setCh c { d with req := if d.oper.hi ≤ f then true else if f ≤ d.oper.lo then false else d.req }

def ringSize (d : DmaCh) : Nat := 2 ^ d.ringLog2

/-- A descriptor is owned while HEAD is not TAIL (R415). -/
def owns (d : DmaCh) : Bool := d.head != d.tail

/-- Does a channel hold work for its fallback timer (R418)? -/
def holdsWork (s : State) (c : Nat) : Bool :=
  let d := s.ch c
  if c < 32 then !d.queue.isEmpty else owns d && decide (10240 ≤ fill s c)

/-- May the channel start a burst: REQ, or a fallback trigger (R417, R418)? -/
def mayBurst (d : DmaCh) : Bool := d.req || d.timerRun || d.chainRun

/-- A running channel: enabled, open, idle or active. -/
def chRunning (d : DmaCh) : Bool := d.enable && d.func != 0 && (d.state == .idle || d.state == .active)

/-! ### Commit of the shadow set (R422) -/

/-- A trigger set within its fields' ranges. -/
def setInRange (t : TrigSet) : Bool :=
  t.fallback ≤ 3 && t.hi < 2 ^ 24 && t.lo < 2 ^ 24 && 1 ≤ t.timer && t.timer ≤ 1000000 && 512 ≤ t.burst && t.burst ≤ 65536
    && t.count < 65536 && t.time < 65536 && t.lo < t.hi && t.chainSrc < 64

/-- The chain source names another channel of the same direction, whatever FALLBACK is. Log entry 286 (DEDUCED). -/
def chainValid (c : Nat) (t : TrigSet) : Bool := t.chainSrc != c && (decide (t.chainSrc < 32) == decide (c < 32))

/-- A hand-over: a pending commit copies the shadow set whole, or is refused with CFG_ERR; PENDING clears either way. -/
def State.handOver (s : State) (c : Nat) : State :=
  let d := s.ch c
  if d.pending then
    if setInRange d.shadow && chainValid c d.shadow then
      (s.setCh c { d with oper := d.shadow, pending := false }).testReq c
    else s.setCh c { d with cfgErr := true, pending := false }
  else s

/-- An idle, stopped or disabled channel is at a hand-over at all times. -/
def atHandOver (d : DmaCh) : Bool := d.state == .idle || d.state == .stopped || d.state == .disabled

/-- A commit is requested; `late` when the write was held by a copy in progress: it sets LATE_WRITE and takes effect at the following
hand-over. Log entry 164 (DESIGN CHOICE). -/
def State.requestCommit (s : State) (c : Nat) (late : Bool) : State :=
  let d := s.ch c
  let s := s.setCh c { d with pending := true, lateWrite := d.lateWrite || late }
  if atHandOver d then s.handOver c else s

/-- SHADOW_COMMIT: COMMIT written in SHADOW_CTRL; discarded while the channel is not open (R410). -/
def execShadowCommit (c : Fin 64) (late : Bool) (s : State) : Res :=
  .next (if (s.ch c).func = 0 then s else s.requestCommit c late)

/-! ### Interrupts (R420) -/

def chVector (c : Nat) (d : DmaCh) : Nat := d.vector.getD (16 + c % 32)

/-- An interrupt of the channel: IRQ_PEND is set in every case, IRQ_EN = 0 suppresses the message. -/
def State.chInterrupt (s : State) (c : Nat) : State :=
  let d := s.ch c
  let s := s.setCh c { d with irqPend := true, uncovered := 0 }
  if d.irqEn then s.msix (chVector c d) else s

/-! ### Messages -/

/-- A message's buffer of class 13 released. -/
def State.freeMsg (s : State) (m : DmaMsg) : State :=
  match m.buf with
  | some b => s.bufOp (.free 13 true b.id b.gen)
  | none => s

/-- The buffers of messages released. -/
def State.freeMsgs (s : State) (l : List DmaMsg) : State := l.foldl State.freeMsg s

/-- The message in hand of a channel is discarded and counted. -/
def State.dropMessage (s : State) (c : Nat) : State :=
  let d := s.ch c
  let s := s.freeMsgs (if d.taken then d.queue.take 1 else [])
  let inHand := d.taken || d.gather.isSome
  let d := { d with queue := if d.taken then d.queue.drop 1 else d.queue, taken := false, msgMoved := 0, msgDescs := 0, gather := none,
                    discards := if inHand then satTo 32 (d.discards + 1) else d.discards }
  (s.setCh c d).testReq c

/-- A message that has reached host memory: its event records become visible, its telemetry records are exported. -/
def State.delivered (s : State) (p : Payload) : State :=
  match p with
  | .events rs => rs.foldl (fun s e => s.visible e) s
  | .telemetry rs => { s with ev.telUnexported := s.ev.telUnexported - rs.length }
  | _ => s

/-- A message lost at a queue limit (R417, R519); its buffer is released. -/
def State.queueDrop (s : State) (c : Nat) (m : DmaMsg) : State :=
  let s := (s.bump .DMA_QUEUE_DROPS c).freeMsg m
  match m.payload with
  | .events rs => (s.bumpF .EVENT_LOST 0 31 16 rs.length).lose 2 rs.length
  | .omci t _ =>
    let s := { s with host.omciLost := s.host.omciLost.set t (satTo 32 (s.host.omciLost.get t + 1)) }
    s.raiseSec .DMA_QUEUE_DROP c (srcDma c 1) regC (fun n => evData [(6, c)] n)
  | .telemetry rs =>
    let s := { s with ev.telUnexported := s.ev.telUnexported - rs.length }
    s.raiseSec .DMA_QUEUE_DROP c (srcDma c 1) regC (fun n => evData [(6, c)] n)
  | .frame _ => s.raiseSec .DMA_QUEUE_DROP c (srcDma c 1) regC (fun n => evData [(6, c)] n)

/-- The channel that takes a FUNC's next message: the next open one after the last used, in turn (R410). -/
def nextChannel (s : State) (func : Nat) : Option Nat :=
  let cs := openChannels s func false
  let last := s.host.lastOf.get func
  match cs.find? (fun c => decide (last < c + 1)) with
  | some c => some c
  | none => cs.head?

/-- The oldest staged message of a FUNC, and the rest. -/
def takeStaged (func : Nat) : List (Nat × DmaMsg) → Option (DmaMsg × List (Nat × DmaMsg))
  | [] => none
  | (f, m) :: l => if f = func then some (m, l) else (takeStaged func l).map (fun p => (p.1, (f, m) :: p.2))

/-- May M.16 answer a message's request for a buffer: one is free for it, or its length names no pool? -/
def servable (s : State) (m : DmaMsg) (omci : Bool) : Bool :=
  match (s.allocBuf 13 m.len omci false).1 with
  | .empty => false
  | _ => true

/-- An OMCI message: exempt from CRITICAL (R312). -/
def isOmci (m : DmaMsg) : Bool := match m.payload with
  | .omci _ _ => true
  | _ => false

/-- Place among the staged messages of the one that M.16 serves: the oldest without a buffer that it can serve, else the oldest without one (R309). -/
def bufferTurn (s : State) : Option Nat :=
  let l := s.host.staged
  let bare (i : Nat) (p : (Nat × DmaMsg) → Bool) : Bool := l[i]?.any (fun e => e.2.buf.isNone && p e)
  let is := List.range l.length
  (is.find? (fun i => bare i (fun e => servable s e.2 (isOmci e.2)))) <|> (is.find? (fun i => bare i (fun _ => true)))

/-- A staged message asks for its buffer of class 13: granted, longer than pool 3's buffers and dropped, or it waits on (R303, R309). Log entry 166 (DESIGN CHOICE). -/
def State.bufferMsg (s : State) : State :=
  match bufferTurn s with
  | none => s
  | some i => match s.host.staged[i]? with
    | none => s
    | some (func, m) =>
      let r := s.allocBuf 13 m.len (isOmci m) false
      let s := r.2
      match r.1 with
      | .granted b _ => { s with host.staged := s.host.staged.set i (func, { m with buf := some b }) }
      | .empty => s
      | .oversize =>
        let s := { s with host.staged := s.host.staged.eraseIdx i }
        match nextChannel s func with
        | some c => s.queueDrop c m
        | none => s

/-- BUFFER_ALLOC: M.16 serves the oldest request of a class: of class 13 a message for the host, of class 15 the mailbox whose command needs a buffer
of `length`. Log entry 118 (DESIGN CHOICE). -/
def execBufferAlloc (cls : Fin 16) (length : Nat) (mb : Option (Fin 16)) (s : State) : Res :=
  .next <|
    if cls = 13 then s.bufferMsg
    else if cls = 15 then
      let (r, s) := s.allocBuf 15 length true false
      match r, mb with
      | .granted _ _, _ => s
      | _, some n => match (s.mbox n).cmd with
        | some c => if c.started && c.reply.isNone then s.respond n .noSpace 0 [] else s
        | none => s
      | _, none => s
    else
      match s.fwd.wants.find? (fun x => x.cls == cls.val) with
      | none => s
      | some x =>
        let s := { s with fwd.wants := s.fwd.wants.erase x }
        let (r, s) := s.allocBuf cls x.len x.exempt x.ct
        match r with
        | .granted b size => s.grantWant x b size
        | _ => s.refuseWant x

/-- DMA_MESSAGE_ENQUEUE: the next message of a FUNC, once it has its buffer, joins the queue of its channel whose turn it is, or is dropped when it would take
the queue beyond DMA_QUEUE_LIMIT; with no channel open an event batch goes to the store (R515) and any other message is discarded. Log entry 201 (DESIGN CHOICE). -/
def execDmaMessageEnqueue (func : Fin 5) (s : State) : Res :=
  .next <|
    match takeStaged func.val s.host.staged with
    | none => s
    | some (m, rest) =>
      match nextChannel s func.val with
      | none =>
        let s := { s with host.staged := rest }.freeMsg m
        match m.payload with
        | .events rs => rs.foldl (fun s e => s.storePut e) s
        | .telemetry _ => { s with ev.telUnexported := 0 }
        | _ => s
      | some c =>
        if m.buf.isNone then s
        else
        let s := { s with host.staged := rest, host.lastOf := s.host.lastOf.set func.val (c + 1) }
        let d := s.ch c
        if dmaLimit s c < queueBytes d + m.len then s.queueDrop c m
        else (s.setCh c { d with queue := d.queue ++ [m] }).testReq c

/-! ### Descriptors (R412 to R416) -/

/-- The checks of R414 on the eight words of a descriptor. -/
def descFails (w : List Word) : Bool :=
  let x (i : Nat) : Nat := (w.getD i 0).toNat
  let len := bits (x 0) 23 0
  let elem := bits (x 1) 15 0
  len == 0 || bits (x 0) 26 24 != 0 || bits (x 1) 18 16 != 0
    || ((x 0).testBit 28 && len != bits (x 1) 31 19 * elem)
    || elem % 4 != 0 || x 4 % 4 != 0

/-- A descriptor completes in two writes: words 6 and 7, then word 0 with OWN = 0; HEAD and DONE_COUNT advance (R420). -/
def State.writeBack (s : State) (c : Nat) (index meta_ dstat done : Nat) (sop eop : Bool) : State :=
  let d := s.ch c
  let s := (s.emit (.dmaStatus c index meta_ dstat done)).emit (.dmaOwn c index (sop && decide (c < 32)) (eop && decide (c < 32)))
  s.setCh c { d with head := (d.head + 1) % ringSize d, doneCount := satTo 32 (d.doneCount + 1) }

/-- A channel stops in STATE error with ERR_INDEX (R414, R415, R423). -/
def State.chError (s : State) (c index : Nat) : State :=
  let d := s.ch c
  s.setCh c { d with state := .error, errIndex := index, run := none, burstEnded := false, rereads := none }

/-- The entries of an index table of `n` as host memory answers them; what it does not answer reads 0. -/
def tableOf (n : Nat) (index : List Word) : List Nat := ((index.map BitVec.toNat) ++ List.replicate n 0).take n

/-- The descriptor in progress that eight words and an index table make (R412, R413). Log entry 276 (DESIGN CHOICE). -/
def runOfDesc (head : Nat) (w index : List Word) : DescRun :=
  let x (i : Nat) : Nat := (w.getD i 0).toNat
  let idx := (x 0).testBit 28
  { index := head, length := bits (x 0) 23 0, irq := (x 0).testBit 27, sop := (x 0).testBit 30, eop := (x 0).testBit 29, meta_ := x 6,
    addr := x 3 * 2 ^ 32 + x 2, elem := if idx then bits (x 1) 15 0 else 0, offsets := if idx then tableOf (bits (x 1) 31 19) index else [] }

/-- Where bytes `at_` to `at_ + n` of a descriptor's buffer lie: pieces of address and length, one for each element they touch (R413). -/
def piecesFrom (r : DescRun) : Nat → Nat → Nat → List (Nat × Nat)
  | 0, _, _ => []
  | fuel + 1, at_, n =>
    if n = 0 then []
    else if r.elem = 0 then [((r.addr + at_) % 2 ^ 64, n)]
    else
      let k := min n (r.elem - at_ % r.elem)
      ((r.addr + r.offsets.getD (at_ / r.elem) 0 + at_ % r.elem) % 2 ^ 64, k) :: piecesFrom r fuel (at_ + k) (n - k)

/-- The pieces of a burst. -/
def burstPieces (r : DescRun) (n : Nat) : List (Nat × Nat) := piecesFrom r (n / 4 + 2) r.moved n

/-- The device holds a descriptor with OWN = 1 at the head: it fails its checks, or is taken, with its index table (R413, R414). -/
def State.takeDesc (s : State) (c : Nat) (w index : List Word) : State :=
  let d := s.ch c
  if descFails w then
    let s := s.setCh c { d with rereads := none, descErr := true }
    let s := if 32 ≤ c then s.dropMessage c else s
    let s := s.writeBack c d.head 0 2 0 false false
    let s := s.chError c d.head
    s.raise .DMA_DESC_ERR (srcDma c 0) regC (evData [(6, c)] d.head)
  else
    let r := runOfDesc d.head w index
    let g := if 32 ≤ c && r.sop then some (r.meta_, []) else d.gather
    s.setCh c { d with run := some r, burstEnded := false, state := .active, rereads := none, gather := g }

/-- May the channel take a descriptor: it owns one, has none in progress, and holds work? -/
def mayTake (c : Nat) (d : DmaCh) : Bool :=
  chRunning d && owns d && d.run.isNone && (decide (32 ≤ c) || !d.queue.isEmpty)

/-- DMA_DESCRIPTOR_TAKE: the descriptor at the head, as read, with its index table where it has one; with OWN = 0 it is read again after 1 µs
(R413, R415). -/
def execDmaDescriptorTake (c : Fin 64) (desc index : List Word) (s : State) : Res :=
  .next <|
    let d := s.ch c
    if mayTake c d && d.rereads.isNone then
      if ((desc.getD 0 0).toNat).testBit 31 then s.takeDesc c desc index else s.setCh c { d with rereads := some 0 }
    else s

/-- DMA_OWN_REREAD: read again, up to 3 times; OWN still 0 is an error that writes nothing to the descriptor (R415). -/
def execDmaOwnReread (c : Fin 64) (desc index : List Word) (s : State) : Res :=
  .next <|
    let d := s.ch c
    match d.rereads with
    | none => s
    | some n =>
      if !mayTake c d then s
      else if ((desc.getD 0 0).toNat).testBit 31 then s.takeDesc c desc index
      else if n + 1 < 3 then s.setCh c { d with rereads := some (n + 1) }
      else
        let s := (s.setCh c { d with descErr := true }).chError c d.head
        s.raise .DMA_DESC_ERR (srcDma c 0) regC (evData [(6, c)] d.head)

/-! ### Bursts and completion (R419, R420) -/

/-- DMA_BURST: min(BURST_MAX, bytes left in the descriptor, bytes left in the message) move whole. On a from-host channel `data` is
what host memory answers. -/
def execDmaBurst (c : Fin 64) (data : List Byte) (s : State) : Res :=
  .next <|
    let d := s.ch c
    match d.run with
    | none => s
    | some r =>
      if !(chRunning d && mayBurst d) || d.burstEnded then s
      else if c.val < 32 then
        match d.queue with
        | [] => s
        | m :: _ =>
          let n := min d.oper.burst (min (r.length - r.moved) (m.len - d.msgMoved))
          let s := s.emit (.dmaData c r.index d.msgMoved (burstPieces r n) m.payload)
          let s := s.setCh c { d with run := some { r with moved := r.moved + n }, taken := true, msgMoved := d.msgMoved + n,
                                      burstEnded := r.moved + n == r.length || d.msgMoved + n == m.len }
          s.testReq c
      else
        let n := min d.oper.burst (r.length - r.moved)
        let bs := (data ++ List.replicate n 0).take n
        let s := s.emit (.dmaRead c r.index (burstPieces r n))
        let s := s.setCh c { d with run := some { r with moved := r.moved + n }, gather := d.gather.map (fun g => (g.1, g.2 ++ bs)),
                                    burstEnded := r.moved + n == r.length }
        s.testReq c

/-- Channels chained to `c` that hold work may complete their next descriptor (R418). -/
def State.chainFrom (s : State) (c : Nat) : State :=
  (s.host.channels.keys (fun _ e => decide (2 ≤ e.oper.fallback) && e.oper.chainSrc == c)).foldl
    (fun s k => if holdsWork s k then s.setCh k { s.ch k with chainRun := true } else s) s

/-- After a completion: the interrupt of R420 where one is due, chained channels, the timer's run ending with the work, the state, and
the hand-over. -/
def State.afterCompletion (s : State) (c : Nat) (irq : Bool) : State :=
  let d := s.ch c
  let n := d.uncovered + 1
  let s := s.setCh c { d with uncovered := n, chainRun := false, run := none, burstEnded := false }
  let s := if irq || d.oper.count ≤ n then s.chInterrupt c else s
  let s := s.chainFrom c
  let d := s.ch c
  let work := owns d && (decide (32 ≤ c) || !d.queue.isEmpty)
  let s := s.setCh c { d with timerRun := d.timerRun && holdsWork s c, state := if work then .active else .idle }
  s.handOver c

/-- The last burst of the descriptor in progress has ended: it completes. A to-host message that needs more than 64 descriptors is
truncated (DSTAT 4); a from-host message is accepted or rejected whole with its EOP descriptor (DSTAT 5), or waits for a buffer (R309). -/
def State.completeDesc (s : State) (c : Nat) : State :=
  let d := s.ch c
  match d.run with
  | none => s
  | some r =>
    if !d.burstEnded then s
    else if c < 32 then
      match d.queue with
      | [] => s
      | m :: _ =>
        let ends := d.msgMoved == m.len
        let cut := !ends && d.msgDescs == 63
        let s := s.writeBack c r.index m.meta_ (if cut then 4 else 0) r.moved (d.msgDescs == 0) (ends || cut)
        let s :=
          if cut then s.dropMessage c
          else if ends then
            let d := s.ch c
            let s := (s.setCh c { d with queue := d.queue.drop 1, taken := false, msgMoved := 0, msgDescs := 0 }).freeMsg m
            (s.delivered m.payload).testReq c
          else s.setCh c { s.ch c with msgDescs := d.msgDescs + 1 }
        s.afterCompletion c r.irq
    else
      let whole := if r.eop then d.gather else none
      let (s, got) := match whole with
        | none => (s, Intake.accepted)
        | some (m, bs) => acceptFromHost s d.func m bs
      if got = .waits then s
      else
      let s := s.writeBack c r.index r.meta_ (if got = .rejected then 5 else 0) r.moved r.sop r.eop
      let s := if r.eop then (s.setCh c { s.ch c with gather := none }).testReq c else s
      s.afterCompletion c r.irq

/-- DMA_DESCRIPTOR_COMPLETE: the descriptor in progress of a running channel completes. Log entry 167 (DESIGN CHOICE). -/
def execDmaDescriptorComplete (c : Fin 64) (s : State) : Res := .next (if chRunning (s.ch c) then s.completeDesc c else s)

/-- DMA_TRIGGER_TIMER: the fallback timer reaches TIMER; the channel runs bursts until it holds no work. -/
def execDmaTriggerTimer (c : Fin 64) (s : State) : Res :=
  .next <|
    let d := s.ch c
    if d.oper.fallback % 2 = 1 && chRunning d && holdsWork s c then s.setCh c { d with timerRun := true } else s

/-- DMA_COALESCE_TIMEOUT: TIME µs after the first completion not yet covered. -/
def execDmaCoalesceTimeout (c : Fin 64) (s : State) : Res :=
  .next (if (s.ch c).uncovered = 0 then s else s.chInterrupt c)

/-- DMA_BUS_ERROR: the descriptor concerned completes with DSTAT 3 when it can still be written; the message is discarded (R423). -/
def execDmaBusError (c : Fin 64) (canWrite : Bool) (s : State) : Res :=
  .next <|
    let d := s.ch c
    if !chRunning d then s
    else
      let s := s.dropMessage c
      let s := match d.run with
        | some r => if canWrite then s.writeBack c r.index r.meta_ 3 r.moved r.sop r.eop else s
        | none => s
      let s := (s.setCh c { s.ch c with busErr := true }).chError c d.head
      let s := s.bumpF .PCIE_ERR_COUNT 0 15 0
      s.raise .DMA_BUS_ERR (srcDma c 0) regC (evData [(6, c.val)] d.head)

/-! ### Enable, abort, resume, tail (R411, R415, R421) -/

/-- ENABLE 0 → 1 sets HEAD and TAIL to 0 and STATE idle; discarded while the channel is not open. -/
def State.enableCh (s : State) (c : Nat) : State :=
  let d := s.ch c
  if d.func = 0 || d.enable then s
  else (s.setCh c { d with enable := true, head := 0, tail := 0, state := .idle }).handOver c

/-- CH_ENABLE_SET: ENABLE written 0 → 1. -/
def execChEnableSet (c : Fin 64) (s : State) : Res := .next (s.enableCh c)

/-- A channel is disabled: no descriptor in progress; its queue keeps its messages whole. Log entry 165 (DESIGN CHOICE). -/
def disable (d : DmaCh) : DmaCh :=
  { d with enable := false, state := .disabled, run := none, burstEnded := false, taken := false, msgMoved := 0, msgDescs := 0,
           gather := none, rereads := none, timerRun := false, chainRun := false }

/-- ENABLE 1 → 0 disables the channel after any burst in progress. -/
def State.disableCh (s : State) (c : Nat) : State :=
  let d := s.ch c
  if d.func = 0 || !d.enable then s else ((s.setCh c (disable d)).testReq c).handOver c

/-- CH_ENABLE_CLEAR: ENABLE written 1 → 0. -/
def execChEnableClear (c : Fin 64) (s : State) : Res := .next (s.disableCh c)

/-- The burst in progress has brought the last byte of a message: it ends with its descriptor. -/
def endsMessage (c : Nat) (d : DmaCh) : Bool :=
  d.burstEnded && (if c < 32 then (match d.queue with
    | m :: _ => d.msgMoved == m.len
    | [] => false) else d.run.any (·.eop))

/-- The descriptor in progress of an aborted channel: one whose last burst has ended completes with DSTAT 0, with the message that ends there where
one does; any other with DSTAT 1 and EOP (R421). Log entry 287 (DEDUCED). -/
def State.abortDesc (s : State) (c : Nat) : State :=
  let s := if endsMessage c (s.ch c) then s.completeDesc c else s
  let d := s.ch c
  match d.run with
  | none => s.setCh c { d with residue := 0 }
  | some r =>
    let meta_ := match d.queue with
      | m :: _ => if c < 32 then m.meta_ else r.meta_
      | [] => r.meta_
    let s := s.writeBack c r.index meta_ (if d.burstEnded then 0 else 1) r.moved (if c < 32 then d.msgDescs == 0 else r.sop) (decide (c < 32) || r.eop)
    s.setCh c { s.ch c with residue := if d.burstEnded then 0 else r.length - r.moved }

/-- The abort of R421 on an active or idle channel; the message in progress is discarded. -/
def State.abortCh (s : State) (c : Nat) : State :=
  let d := s.ch c
  if d.state = .active || d.state = .idle then
    let s := (s.abortDesc c).dropMessage c
    let s := s.setCh c { s.ch c with run := none, burstEnded := false, rereads := none, abort := false, abortDone := true, state := .stopped,
                                     timerRun := false, chainRun := false }
    (s.chInterrupt c).handOver c
  else s

/-- CH_ABORT: ABORT written; discarded while the channel is not open. -/
def execChAbort (c : Fin 64) (s : State) : Res := .next (if (s.ch c).func = 0 then s else s.abortCh c)

/-- A stopped channel goes to idle and continues from RING_HEAD. -/
def State.resumeCh (s : State) (c : Nat) : State :=
  let d := s.ch c
  if d.func != 0 && d.state == .stopped then s.setCh c { d with state := .idle } else s

/-- CH_RESUME: RESUME written. -/
def execChResume (c : Fin 64) (s : State) : Res := .next (s.resumeCh c)

/-- The device owns the indexes from RING_HEAD up to the new tail, modulo the ring size; discarded while the channel is not open. -/
def State.writeTail (s : State) (c tail : Nat) : State :=
  let d := s.ch c
  if d.func = 0 then s else s.setCh c { d with tail := tail % ringSize d }

/-- RING_TAIL_WRITE: TAIL written. -/
def execRingTailWrite (c : Fin 64) (tail : BitVec 16) (s : State) : Res := .next (s.writeTail c tail.toNat)

/-! ### Host commands (R410, R425) -/

/-- Roles that may open a FUNC (Table 16.3), as bits. -/
def funcRoles (func : Nat) : Nat := if func = 1 || func = 2 then 1 else 7

/-- Both trigger sets at DMA_CHANNEL_OPEN (R411); CHAIN_SRC, of which R411 says nothing, stays as it was. -/
def openSet : TrigSet := ⟨1, 0, 1, 0, 100, 4096, 16, 20⟩

/-- DMA_CHANNEL_OPEN: a disabled channel is given a function and its open values; the function's rights are tested first. -/
def execDmaChannelOpen (mb : Fin 16) (chan func : Nat) (s : State) : Res :=
  .next <| s.commandWith mb 0x1001
    (fun c _ => if 1 ≤ func && func ≤ 4 && !(funcRoles func).testBit c.role then some .noRight else none)
    fun _ s =>
      if 64 ≤ chan || func = 0 || 4 < func || (3 ≤ func && 32 ≤ chan) then fail s .badArg
      else
        let d := s.ch chan
        if d.state != .disabled then fail s .busy
        else
          let opened : TrigSet := { openSet with chainSrc := d.shadow.chainSrc }
          let s := s.setCh chan { d with func := func, oper := opened, shadow := opened }
          okay (s.testReq chan) [chan, func]

/-- DMA_CHANNEL_CLOSE: the channel is aborted, disabled and its FUNC cleared; the rights are those of the FUNC it holds, and a channel
with none may be closed by any of the three roles, without effect. -/
def execDmaChannelClose (mb : Fin 16) (chan : Nat) (s : State) : Res :=
  .next <| s.commandWith mb 0x1002
    (fun c s => if chan < 64 && (s.ch chan).func != 0 && !(funcRoles (s.ch chan).func).testBit c.role then some .noRight else none)
    fun _ s =>
      if 64 ≤ chan then fail s .badArg
      else if (s.ch chan).func = 0 then okay s [chan]
      else
        let s := s.abortCh chan
        okay (s.setCh chan { disable (s.ch chan) with func := 0 }) [chan]

def chStateCode : ChState → Nat
  | .disabled => 0 | .idle => 1 | .active => 2 | .stopped => 3 | .error => 4

/-- DMA_STATUS: FUNC, STATE, HEAD, TAIL, fill and drop count of every channel, latched together. -/
def execDmaStatus (mb : Fin 16) (s : State) : Res :=
  hostCmd s mb 0x1003 fun _ s =>
    okay s (((List.range 64).map fun c =>
      let d := s.ch c
      [(d.func : Int), chStateCode d.state, d.head, d.tail, fill s c, s.ro .DMA_QUEUE_DROPS c]).flatten)

end Sys2Proof.Machine
end

