-- ==== Sys2Proof/Machine/DeviceTime.lean ====
section
/-! DEFINITION. Device time and its inputs (R111 to R115). -/
namespace Sys2Proof.Machine

/-- One second of device time, in ns. -/
def sec9 : Int := 1000000000

/-- The slew that device time takes in an advance of `cycle` (units of 2^-32 ns): -e over a second, at most TOD_SLEW_MAX as the last edge found it (R114). -/
def slewStep (s : State) (cycle : Nat) : Int :=
  let t := s.pon.tod
  let n : Int := cycle * min t.slewTotal (t.slewMax * 1000) / 1000000000
  if t.slew < 0 then max t.slew (-n) else min t.slew n

/-- Device time set to a value in ns. -/
def State.setTime (s : State) (ns : Nat) : State := { s with time.dev := ns % 2 ^ 64 * 2 ^ 32 }

/-- The phase error of an edge corrected: a slew, or a step with TOD_STEP (R114). -/
def State.correct (s : State) (stamp sec : Nat) : State :=
  let e : Int := (stamp : Int) - sec * sec9
  let s := s.setRo .TOD_PHASE_ERR 0 e
  let s := { s with pon.tod.expected := some (sec + 1), pon.tod.expectedAt := (sec + 1) * 1000000000, pon.tod.lastEdge := some (sec * 1000000000),
                    pon.tod.named := none, pon.tod.outside := [], pon.tod.missing := 0 }
  if e.natAbs ≤ s.getN .TOD_STEP_LIMIT then
    { s with pon.tod.slew := -e * 2 ^ 32, pon.tod.slewTotal := e.natAbs, pon.tod.lastEdge := some stamp }
  else
    let s := s.setTime (sec * 1000000000 + (s.now - stamp))
    ({ s with pon.tod.slew := 0, pon.tod.slewTotal := 0 }).raise .TOD_STEP (srcChip 18) regC (evSigned 32 (-e))

/-- The state of device time posted. -/
def todCode : TodState → Nat
  | .free => 0 | .acquiring => 1 | .locked => 2 | .holdover => 3

def State.setTod (s : State) (t : TodState) : State := ({ s with pon.tod.state := t }).setRo .TOD_STATE 0 (todCode t)

/-- A run of corrected edges: three in a row within 100 ns lock (R115). -/
def State.goodEdge (s : State) (e : Int) (sec : Nat) : State :=
  let n := if e.natAbs ≤ 100 then s.pon.tod.good + 1 else 0
  let s := { s with pon.tod.good := n }
  if s.pon.tod.state = .acquiring && 3 ≤ n then
    let s := s.setTod .locked
    if s.pon.tod.everLocked then
      s.raiseAs .PPS_LOSS true (srcChip 18) regC (evData [] (s.pon.tod.heldFor / second))
    else ({ s with pon.tod.everLocked := true }).raise .TOD_LOCK (srcChip 18) regC (sec % 2 ^ 32)
  else s

/-- An edge accepted as a second: corrected, and counted towards lock. -/
def State.takeEdge (s : State) (stamp sec : Nat) : State :=
  let e : Int := (stamp : Int) - sec * sec9
  (s.correct stamp sec).goodEdge e sec

/-- An edge that is accepted but not named corrects nothing; the next second is expected. -/
def State.unnamedEdge (s : State) (stamp : Nat) : State :=
  { s with pon.tod.lastEdge := some stamp, pon.tod.outside := [], pon.tod.missing := 0,
           pon.tod.expected := s.pon.tod.expected.map (· + 1), pon.tod.expectedAt := s.pon.tod.expectedAt + 1000000000 }

/-- Within ±`w` of each other. -/
def near (a b w : Nat) : Bool := decide (a ≤ b + w) && decide (b ≤ a + w)

/-- The first corrected edge in FREE or HOLDOVER: to ACQUIRING. -/
def State.startAcquiring (s : State) (stamp sec : Nat) : State :=
  let s := { s with pon.tod.heldFor := s.up - s.pon.tod.holdSince, pon.tod.good := 0 }
  ((s.correct stamp sec).setTod .acquiring).goodEdge (stamp - sec * sec9) sec

/-- Closer than 0.5 s after the last accepted edge (R568): the next one is expected 1 s after it, or after as many more as are missing. -/
def tooClose (t : TodData) (stamp : Nat) : Bool := decide (stamp + t.missing * 1000000000 + 500000000 < t.expectedAt)

/-- An edge in ACQUIRING or LOCKED, inside the window of the expected second or outside it; one too close to the last is only counted. -/
def State.judgeEdge (s : State) (stamp : Nat) : State :=
  let t := s.pon.tod
  let w := s.getN .TOD_PPS_WINDOW
  let sec : Option Nat := t.named <|> (if t.state == .locked then t.expected else none)
  if tooClose t stamp then { s with pon.tod.edgesUnused := t.edgesUnused + 1 }
  else if near stamp t.expectedAt w then
    match sec with
    | some n => s.takeEdge stamp n
    | none => s.unnamedEdge stamp
  else
    let s := { s with pon.tod.edgesUnused := t.edgesUnused + 1, pon.tod.lastEdge := some stamp }
    let run := match t.outside with
      | [] => [stamp]
      | p :: _ => if near stamp (p + 1000000000) w then stamp :: t.outside else [stamp]
    match decide (3 ≤ run.length), sec with
    | true, some n => s.takeEdge stamp n
    | _, _ => { s with pon.tod.outside := run, pon.tod.good := 0 }

/-- PPS_EDGE: an edge of PPS_IN at a device time; one of the polarity that TOD_PPS_POLARITY sets is stamped, less TOD_PPS_DELAY (R112, R114, R115). Log entry 47 (DESIGN CHOICE). -/
def execPpsEdge (time : Nat) (rising : Bool) (s : State) : Res :=
  .next <|
    if inReset s || rising != (s.getN .TOD_PPS_POLARITY == 0) then s
    else
      let stamp := time - s.getN .TOD_PPS_DELAY
      let s := { s with pon.tod.slewMax := s.getN .TOD_SLEW_MAX }
      let t := s.pon.tod
      if t.state = .acquiring || t.state = .locked then s.judgeEdge stamp
      else match t.named with
        | some sec => s.startAcquiring stamp sec
        | none => { s with pon.tod.lastEdge := some stamp }

/-- PPS_EDGE_MISSING: the expected edge fails to arrive, and a second named for it is spent; two in a row take LOCKED to HOLDOVER, with any slew
stopped (R115). -/
def execPpsEdgeMissing (s : State) : Res :=
  .next <|
    let t := s.pon.tod
    let s := { s with pon.tod.missing := t.missing + 1, pon.tod.good := 0, pon.tod.expected := t.expected.map (· + 1),
                      pon.tod.expectedAt := t.expectedAt + 1000000000, pon.tod.named := none }
    if t.state = .locked && 2 ≤ t.missing + 1 then
      let s := { s with pon.tod.slew := 0, pon.tod.slewTotal := 0, pon.tod.holdSince := s.up }
      (s.setTod .holdover).raise .PPS_LOSS (srcChip 18) regC (t.missing + 1)
    else s

/-- A message discarded (R113, R115). -/
def State.todError (s : State) (reason : Nat) : State :=
  ({ s with pon.tod.msgErrors := s.pon.tod.msgErrors + 1 }).raise .TOD_MSG_ERROR (srcChip 18) regC (evData [] reason)

/-- Byte of a message. -/
def byteAt (bs : List Byte) (i : Nat) : Nat := (bs.getD i 0).toNat

/-- TOD_MESSAGE: 16 bytes of Table 4.3, accepted only with a good CRC, in time, of type 1 and valid, tested in that order for the reason that TOD_MSG_ERROR names; then tested against the second
expected. Log entry 44 (DESIGN CHOICE). Log entry 45 (DESIGN CHOICE). Log entry 46 (DESIGN CHOICE). Log entry 251 (DESIGN CHOICE). -/
def execTodMessage (bytes : List Byte) (s : State) : Res :=
  .next <|
    if inReset s || bytes.length != 16 || byteAt bytes 0 != 0xC5 || byteAt bytes 1 != 0x3A then s
    else if crcBytes 16 0x1021 0xFFFF ((bytes.drop 2).take 12) != beNat (bytes.drop 14) then s.todError 1
    else
      let t := s.pon.tod
      let late := match t.lastEdge with
        | none => true
        | some e => !(decide (e + 10000000 ≤ s.now) && decide (s.now ≤ e + 900000000))
      if late then s.todError 2
      else if byteAt bytes 2 != 1 then s.todError 3
      else if !bit (byteAt bytes 3) 7 then s.todError 4
      else
        let sec := beNat ((bytes.drop 4).take 6)
        let use (s : State) : State :=
          ({ s with pon.tod.named := some sec, pon.tod.disagreed := none }).setRo .TOD_UTC_OFFSET 0
            (beNat ((bytes.drop 10).take 2) + bits (byteAt bytes 3) 6 5 * 2 ^ 16 : Nat)
        let judged := t.state == .acquiring || t.state == .locked
        if judged && t.expected != some sec then
          if t.disagreed.any (fun d => d + 1 == sec) then { use s with pon.tod.expected := some sec }
          else ({ s with pon.tod.disagreed := some sec }).todError 5
        else use s

end Sys2Proof.Machine
end

