-- ==== Sys2Proof/Machine/LaneTest.lean ====
section
/-! DEFINITION. Lane test loops and boundary scan (spec/22). -/
namespace Sys2Proof.Machine

/-! ### Lanes and owners (R548, R549) -/

/-- Index of a lane among all tested lanes: type and instance. -/
def laneKey (type inst : Nat) : Nat := type * 256 + inst

def State.lane (s : State) (type inst : Nat) : LaneTest := s.laneTest.get (laneKey type inst)

def State.setLane (s : State) (type inst : Nat) (v : LaneTest) : State :=
  { s with laneTest := s.laneTest.set (laneKey type inst) v }

/-- Lanes of each type: PON 4 a tree (R55), uplink 8 a port (R356), tether 17 a port (R373). -/
def laneCount (type : Nat) : Nat :=
  match type with
  | 0 => 128 | 1 => 32 | 2 => 34 | _ => 0

/-- The tree channel a PON lane belongs to: lanes TX0, TX1, RX0, RX1 of a tree are its instances 4t to 4t + 3. -/
def ponLaneChannel (inst : Nat) : Nat := inst / 4 * 2 + inst % 2

/-- The transmit and receive lanes of a PON pair. -/
def ponTx (inst : Nat) : Nat := inst / 4 * 4 + inst % 2
def ponRx (inst : Nat) : Nat := inst / 4 * 4 + 2 + inst % 2

/-- A PON receive lane. -/
def isPonRx (type inst : Nat) : Bool := type == 0 && 2 ≤ inst % 4

/-- A lane word names a lane that may be tested: in range, RSV zero, not a tether clock lane. -/
def laneWordOk (w : Nat) : Bool :=
  bits w 29 8 == 0 && bits w 7 0 < laneCount (bits w 31 30) && !(bits w 31 30 == 2 && bits w 7 0 % 17 == 16)

/-- A near-end parallel loop of an uplink or tether lane, which is exempt from R549 (R557). -/
def exemptLoop (type loop : Nat) : Bool := loop == 2 && type != 0

/-- Is a lane of a type under test: its generator or checker runs, or a loop is set that R557 does not exempt (R549)? -/
def underTest (type : Nat) (l : LaneTest) : Bool := l.gen || l.chk || (l.loop != 0 && !exemptLoop type l.loop)

/-- Is any lane of a type that satisfies `p` under test? -/
def anyUnderTest (s : State) (type : Nat) (p : Nat → Bool) : Bool :=
  s.laneTest.any (fun e => e.1 / 256 == type && p (e.1 % 256) && underTest (e.1 / 256) e.2)

/-- Is a lane of a tree channel under test? -/
def channelUnderTest (s : State) (c : Nat) : Bool := anyUnderTest s 0 (fun i => ponLaneChannel i == c)

/-- Is any lane at all under test? -/
def someUnderTest (s : State) : Bool := s.laneTest.any (fun e => underTest (e.1 / 256) e.2)

end Sys2Proof.Machine
end

