-- ==== Sys2Proof/Machine/Solver.lean ====
section
/-! DEFINITION. What the DBA solver computes for a channel and frame (R172 to R198): costs, tiers, shares and entitlements. -/
namespace Sys2Proof.Machine

/-! ### Cost of a payload byte -/

/-- Cost per payload byte (R189). -/
def perByte (rate : Nat) : Frac := Frac.of (byteCost rate * (infoBytes rate + parityBytes rate)) (infoBytes rate)

/-! ### Bursts of a terminal (R184, R185) -/

/-- One burst: its parts as (allocation, payload bytes), a PLOAMu message, and the pinned series it belongs to with its place. -/
structure Burst where
  parts : List (Nat × Nat)
  ploamu : Bool := false
  series : Option (Nat × Nat) := none
  deriving DecidableEq, Repr, Inhabited

/-- Payload bytes of a grant. -/
def Grant.bytes (g : Grant) : Nat := g.fixed + g.t2 + g.t3 + g.t4a + g.t4b

/-- Tier 1 and 2 bytes of the k-th of n bursts: equal in words, the remainder in the first. Log entry 70 (DESIGN CHOICE). -/
def splitPart (g : Grant) (k : Nat) : Nat :=
  let w := (g.fixed + g.t2) / 4
  4 * (if k = 0 then w / g.n + w % g.n else w / g.n)

/-- The bursts of a terminal: one, or the series of each split allocation with the others riding in the first burst. -/
def burstsOf (t : TermGrant) : List Burst :=
  match t.grants.filter (fun g => decide (1 < g.n)) with
  | [] => [⟨t.grants.map (fun g => (g.alloc, Grant.bytes g)), t.ploamu, none⟩]
  | g0 :: rest =>
    let plain := (t.grants.filter (fun g => decide (g.n ≤ 1))).map (fun g => (g.alloc, Grant.bytes g))
    let first (g : Grant) : Nat × Nat := (g.alloc, splitPart g 0 + g.t3 + g.t4a + g.t4b)
    let later (g : Grant) : List Burst :=
      ((List.range g.n).drop 1).map (fun k => ⟨[(g.alloc, splitPart g k)], false, some (g.alloc, k)⟩)
    [⟨first g0 :: plain, t.ploamu, some (g0.alloc, 0)⟩] ++ later g0
      ++ (rest.map (fun g => (⟨[first g], false, some (g.alloc, 0)⟩ : Burst) :: later g)).flatten

/-- Information bytes of a burst: header and trailer, PLOAMu, and a report with each allocation's payload. -/
def Burst.info (b : Burst) : Nat := 8 + (if b.ploamu then 48 else 0) + b.parts.foldl (fun n p => n + 4 + p.2) 0

/-- Time and structures of a solution. -/
def solCost (l : List TermGrant) : Nat :=
  l.foldl (fun n t => (burstsOf t).foldl (fun n b => n + burstCost t.rate t.short (Burst.info b)) n) 0
def solStructs (l : List TermGrant) : Nat := l.foldl (fun n t => (burstsOf t).foldl (fun n b => n + b.parts.length) n) 0

/-! ### Building a solution -/

/-- What the solver works with on a channel. -/
structure Run where
  chan : Nat
  frame : Nat
  /-- Budget of R187, the same before windows are taken from it, and structures taken by windows. -/
  budget : Nat
  full : Nat
  windowStructs : Nat
  /-- The upstream frame is covered whole by reserved windows. -/
  covered : Bool
  cut : Bool

/-- A grant of an allocation changed by `f` in a list, a new one at the end where it has none yet. -/
def putGrant (a : Nat) (f : Grant → Grant) : List Grant → List Grant
  | [] => [f { alloc := a }]
  | g :: gs => if g.alloc = a then f g :: gs else g :: putGrant a f gs

/-- The same in a solution, with the terminal's part made where it has none. -/
def putTermGrant (mk : TermGrant) (a : Nat) (f : Grant → Grant) : List TermGrant → List TermGrant
  | [] => [{ mk with grants := putGrant a f mk.grants }]
  | t :: ts => if t.term = mk.term then { t with grants := putGrant a f t.grants } :: ts else t :: putTermGrant mk a f ts

/-- The profile a terminal is granted on (R140, R142, R143). -/
def useShort (s : State) (t : Nat) : Bool :=
  let v := s.term t
  (s.bm t).shortQual && s.getN .PROFILE_MODE v.chan = 0 && v.update.isNone && v.state == .operation

/-- An empty part for a terminal. -/
def freshTerm (s : State) (t : Nat) : TermGrant :=
  { term := t, rate := (s.term t).rate, short := useShort s t, ploamu := false, entry := (s.term t).entry,
    slack := match (s.term t).update with
      | some u => u.delta.natAbs
      | none => 0,
    grants := [] }

/-- A grant added to a solution. -/
def addGrant (s : State) (a : Nat) (f : Grant → Grant) (l : List TermGrant) : List TermGrant :=
  putTermGrant (freshTerm s (s.alloc a).term) a f l

/-- A PLOAMu message asked of a terminal, on its default allocation. -/
def addPloamu (s : State) (t : Nat) (l : List TermGrant) : List TermGrant :=
  (addGrant s (s.term t).defAlloc (fun g => { g with poll := true }) l).map
    (fun x => if x.term = t then { x with ploamu := true } else x)

/-- The grant of an allocation in a solution. -/
def grantOf (l : List TermGrant) (a : Nat) : Grant :=
  ((l.map (·.grants)).flatten.find? (fun g => g.alloc == a)).getD { alloc := a }

/-- Highest rate code a channel still serves as latched (R197). -/
def servedRate (s : State) (c : Nat) : Nat :=
  match s.dba.capacity.get c with
  | some (_, r, _) => r
  | none => 4

/-- Allocations of a channel that take part in a run: bound, and of a terminal in OPERATION that is granted (R198, R395) on a rate still
served (R197). -/
def runAllocs (s : State) (c : Nat) : List Nat :=
  s.dba.allocs.keys (fun _ a => a.valid && a.chan == c && (s.term a.term).state == .operation && !(s.term a.term).popupDue
    && (s.term a.term).deact.isNone && decide ((s.term a.term).rate ≤ servedRate s c))

/-- Fixed words due, in bytes (R175). -/
def fixedDue (a : Alloc) : Nat := (a.acc + a.contract.rf) / 256 * 4

/-- Bytes pre-announced for an allocation in a frame, and the bursts asked for (R194). Log entry 71 (DESIGN CHOICE). -/
def preannBytes (s : State) (n frame : Nat) : Nat :=
  (s.dba.preanns.filter (fun p => p.alloc == n && p.frame == frame)).foldl (fun b p => b + p.bytes) 0
def preannBursts (s : State) (n frame : Nat) : Nat :=
  (s.dba.preanns.filter (fun p => p.alloc == n && p.frame == frame)).foldl (fun b p => max b p.bursts) 0

/-- Whole words of a tier's exact byte amounts; the words that rounding frees go one each to the allocations of the tier with the most negative
ledger, where `room` lets them have a word more (R187). Log entry 74 (DESIGN CHOICE). -/
def roundWords (ledger : Nat → Int) (room : Nat → Nat → Bool) (l : List (Nat × Frac)) : List (Nat × Nat) :=
  let whole (p : Nat × Frac) : Nat := p.2.floor.toNat / 4 * 4
  let freed := ((Frac.sum (l.map (·.2))).floor.toNat - l.foldl (fun n p => n + whole p) 0) / 4
  let order := (l.filter (fun p => p.2.num != 0 && room p.1 (whole p + 4))).orderBy (fun x y => ledger x.1 ≤ ledger y.1)
  let lucky := (order.take freed).map (·.1)
  l.map (fun p => (p.1, if lucky.contains p.1 then whole p + 4 else whole p))

/-! ### Tiers 1 and 2 and polls (R187 steps 1 to 3) -/

/-- Bursts asked for an allocation's tier 1 and 2 bytes: by its contract, or as pre-announced; 1 with DBA_SPLIT_EN = 0 (R184, R185, R195). -/
def askedSplit (s : State) (r : Run) (a : Nat) : Nat :=
  let asked := preannBursts s a r.frame
  if s.getN .DBA_SPLIT_EN r.chan = 0 then 1
  else if asked != 0 then asked
  else splitCount s r.chan (s.alloc a).contract

/-- Structures left for bursts (R188). -/
def structRoom (r : Run) (l : List TermGrant) : Nat := 512 - r.windowStructs - solStructs l

/-- Does a solution keep to the channel's structures? -/
def structsFit (r : Run) (l : List TermGrant) : Bool := decide (solStructs l + r.windowStructs ≤ 512)

/-- A solution in the making, and whether structures have run out. -/
abbrev Laid := List TermGrant × Bool

/-- A grant added in as many bursts, up to `n`, as the structures left admit; left out where not even one is left (R185, R188). -/
def addSplit (s : State) (r : Run) (a : Nat) (f : Grant → Grant) : Nat → Laid → Laid
  | 0, l => (l.1, true)
  | n + 1, l =>
    let l' := addGrant s a (fun g => { f g with n := n + 1 }) l.1
    if structsFit r l' then (l', l.2) else addSplit s r a f n (l.1, true)

/-- Tier 1: what the procedures of spec/05 require of terminals on a rate still served (R197), and fixed grants. -/
def tier1 (s : State) (r : Run) (split : Bool) : Laid :=
  let served (v : Terminal) : Bool := decide (v.rate ≤ servedRate s r.chan)
  let lost := termsOf s r.chan (fun v => v.state == .lost && v.deact.isNone && !v.popupDue && served v)
  let ask := termsOf s r.chan (fun v => v.state == .operation && v.askPloamu && served v)
  let l : Laid := (lost ++ ask).foldl (fun l t =>
    let l' := addPloamu s t l.1
    if structsFit r l' then (l', l.2) else (l.1, true)) ([], false)
  (runAllocs s r.chan).foldl (fun l a =>
    let n := fixedDue (s.alloc a)
    if n = 0 then l else addSplit s r a (fun g => { g with fixed := n }) (if split then askedSplit s r a else 1) l) l

/-- Tier 2 amounts: min(d, RA ÷ 64), and pre-announced bytes. -/
def tier2Wants (s : State) (r : Run) : List (Nat × Nat) :=
  let exact (a : Nat) : Frac :=
    let v := s.alloc a
    let assured := if v.demand * 64 ≤ v.contract.ra then Frac.of v.demand else Frac.of v.contract.ra 64
    assured.add (Frac.of (preannBytes s a r.frame))
  (roundWords (fun a => (s.alloc a).ledger) (fun a n => decide (n ≤ (s.alloc a).demand + preannBytes s a r.frame))
    ((runAllocs s r.chan).map (fun a => (a, exact a)))).filter (fun p => decide (p.2 != 0))

/-- Tier 2 added to a solution. -/
def addTier2 (s : State) (r : Run) (split : Bool) (wants : List (Nat × Nat)) (l : Laid) : Laid :=
  wants.foldl (fun l p =>
    if p.2 = 0 then l else addSplit s r p.1 (fun g => { g with t2 := p.2 }) (if split then askedSplit s r p.1 else 1) l) l

/-- Tier 2 scaled by time so that tiers 1 and 2 fit (R187, R197). -/
def scaleTier2 (s : State) (r : Run) (wants : List (Nat × Nat)) (t1 : Laid) : List (Nat × Nat) :=
  let c1 := solCost t1.1
  let c2 := solCost (addTier2 s r false wants t1).1 - c1
  wants.map (fun p => (p.1, p.2 * (r.budget - c1) / max 1 c2 / 4 * 4))

/-- Poll grants: allocations with no grant for their poll interval (R176). -/
def addPolls (s : State) (r : Run) (l : List TermGrant) : List TermGrant :=
  (runAllocs s r.chan).foldl (fun l a =>
    let v := s.alloc a
    let interval := if v.contract.lat != 0 then 1 else s.getN .DBA_POLL_INTERVAL r.chan
    let due := match v.lastGrant with
      | none => true
      | some f => decide (interval ≤ r.frame - f)
    let l' := addGrant s a (fun g => { g with poll := true }) l
    if due && Grant.bytes (grantOf l a) = 0 && solCost l' ≤ r.budget && structRoom r l != 0 then l' else l) l

/-! ### Tier 3 (R182 to R184, R187 step 4) -/

/-- A latency target in ns. -/
def latNs (k : Contract) : Nat := k.lat * 31250

/-- Age of a stamp at a run: t_serve less its time (R182). -/
def stampAge (s : State) (r : Run) (x : Stamp) : Int := ((r.frame + 1) * 125000 : Int) + teqdNs s r.chan - x.time

/-- Urgency level of an age against a target (R183). -/
def urgency (age : Int) (target : Nat) : Nat :=
  if age * 100 < 50 * target then 0 else if age * 100 < 75 * target then 1 else if age * 100 < 90 * target then 2 else 3

/-- The oldest stamp's age. -/
def oldestAge (s : State) (r : Run) (a : Alloc) : Option Int := (a.stamps.head?).map (stampAge s r)

/-- Loop floor in ns (R181). -/
def loopFloor (s : State) (c : Nat) : Int := 125000 * ((teqdNs s c + 156000) / 125000 + 2)

/-- A target below the loop floor (R184). -/
def belowFloor (s : State) (c : Nat) (k : Contract) : Bool := k.lat != 0 && decide ((latNs k : Int) < loopFloor s c)

/-- Level of an allocation; with a target below the loop floor it is 3 from the first stamp (R183, R184). -/
def levelOf (s : State) (r : Run) (a : Alloc) : Nat :=
  match a.contract.lat, oldestAge s r a with
  | 0, _ => 0
  | _, none => 0
  | _, some g => if belowFloor s r.chan a.contract then 3 else urgency g (latNs a.contract)

/-- Urgent bytes: of stamps whose own urgency is 0.50 or more, and of every stamp under a target below the loop floor (R183, R184). -/
def urgentBytes (s : State) (r : Run) (a : Alloc) : Nat :=
  (a.stamps.filter (fun x => belowFloor s r.chan a.contract || urgency (stampAge s r x) (latNs a.contract) != 0)).foldl (fun n x => n + x.bytes) 0

/-- Room under RM ÷ 64, pre-announced bytes outside it (R172). -/
def rmRoom (s : State) (r : Run) (l : List TermGrant) (a : Nat) : Frac :=
  let room := (Frac.of (s.alloc a).contract.rm 64).sub (Frac.of (Grant.bytes (grantOf l a) - preannBytes s a r.frame))
  if room.num < 0 then {} else room

/-- Bytes that a room in time buys on top of a solution for one allocation, and room in structures. -/
def affordable (s : State) (r : Run) (l : List TermGrant) (a want : Nat) (f : Nat → Grant → Grant) : Nat :=
  let zero := addGrant s a (f 0) l
  if r.budget < solCost zero || 512 < solStructs zero + r.windowStructs then 0
  else
    let n := ((Frac.of (r.budget - solCost zero)).div (perByte (s.term (s.alloc a).term).rate)).floor.toNat
    let n := min want n / 4 * 4
    if solCost (addGrant s a (f n) l) ≤ r.budget then n else (n - infoBytes (s.term (s.alloc a).term).rate) / 4 * 4

/-- B of an allocation in bytes (R190). -/
def boundOf (k : Contract) : Nat := k.rm / 16

/-- Urgent allocations, those with demand (R176), by level descending, slack ascending, index ascending. -/
def urgentOrder (s : State) (r : Run) : List Nat :=
  let key (a : Nat) : Nat × Int := (levelOf s r (s.alloc a), (latNs (s.alloc a).contract : Int) - (oldestAge s r (s.alloc a)).getD 0)
  ((runAllocs s r.chan).filter (fun a => levelOf s r (s.alloc a) != 0 && (s.alloc a).demand != 0)).orderBy
    (fun x y => decide ((key y).1 < (key x).1) || ((key x).1 == (key y).1 && decide ((key x).2 ≤ (key y).2)))

/-- Demand an allocation has left in a frame. -/
def demandLeft (s : State) (l : List TermGrant) (a : Nat) : Nat := (s.alloc a).demand - Grant.bytes (grantOf l a)

/-- How far a ledger may go up to +B (R187 step 4). -/
def ledgerRoom (v : Alloc) : Nat := ((boundOf v.contract : Int) - v.ledger).toNat

/-- Tier 3 for one allocation, in whole words; with the bytes that rounding has freed in the tier. -/
def giveUrgent (s : State) (r : Run) (x : List TermGrant × Nat) (a : Nat) : List TermGrant × Nat :=
  let v := s.alloc a
  let want := min (urgentBytes s r v) (min (rmRoom s r x.1 a).floor.toNat (ledgerRoom v))
  let n := affordable s r x.1 a want (fun n g => { g with t3 := n })
  (if n = 0 then x.1 else addGrant s a (fun g => { g with t3 := n }) x.1, if n = want / 4 * 4 then x.2 + want % 4 else x.2)

/-- A word freed in tier 3 goes to an allocation that its demand, RM, +B, the budget and the structures let have it (R187). -/
def giveFreed (s : State) (r : Run) (x : List TermGrant × Nat) (a : Nat) : List TermGrant × Nat :=
  let n := (grantOf x.1 a).t3 + 4
  let l := addGrant s a (fun g => { g with t3 := n }) x.1
  if 4 ≤ x.2 && 4 ≤ demandLeft s x.1 a && Frac.le (Frac.of 4) (rmRoom s r x.1 a) && n ≤ ledgerRoom (s.alloc a)
      && solCost l ≤ r.budget && structsFit r l then (l, x.2 - 4) else x

/-- Tier 3: urgent bytes in order, then the words freed, one each, to the most negative ledgers (R187 step 4). -/
def addUrgent (s : State) (r : Run) (l : List TermGrant) : List TermGrant :=
  let as_ := urgentOrder s r
  ((as_.orderBy (fun x y => (s.alloc x).ledger ≤ (s.alloc y).ledger)).foldl (giveFreed s r) (as_.foldl (giveUrgent s r) (l, 0))).1

/-! ### Shares (R189, R191) -/

/-- corr = clamp(1 - ledger ÷ B, 0, 2); 1 when RM is 0. -/
def corrOf (k : Contract) (ledger : Int) : Frac :=
  if k.rm = 0 then Frac.of 1 else Frac.of (max 0 (min (2 * k.rm : Int) (k.rm - 16 * ledger))) k.rm

/-- A party to a share: allocation, corrected weight, want, cost per byte. -/
structure Party where
  alloc : Nat
  weight : Frac
  want : Frac
  cost : Frac
  deriving DecidableEq, Repr, Inhabited

/-- Water-filling of R189: offers at or above want are capped, the rest is shared again; exact byte amounts. -/
def waterFill : Nat → Frac → List Party → List (Nat × Frac)
  | 0, _, _ => []
  | n + 1, room, ps =>
    let denom := Frac.sum (ps.map (fun p => p.weight.mul p.cost))
    if denom.num ≤ 0 || room.num ≤ 0 then []
    else
      let offer (p : Party) : Frac := (room.mul p.weight).div denom
      let capped := ps.filter (fun p => Frac.le p.want (offer p))
      if capped.isEmpty then ps.map (fun p => (p.alloc, offer p))
      else
        let rest := ps.filter (fun p => !Frac.le p.want (offer p))
        let used := Frac.sum (capped.map (fun p => p.want.mul p.cost))
        capped.map (fun p => (p.alloc, p.want)) ++ waterFill n (room.sub used) rest

/-- Amount of an allocation in a list. -/
def amount (l : List (Nat × Frac)) (a : Nat) : Frac := (l.find? (fun p => p.1 == a)).elim {} (·.2)

/-- A share with the withholding of R189: shares below `least` are withheld and their room offered once more to the others, capped at want. Log entry 72 (DESIGN CHOICE). -/
def shareOut (room : Frac) (least : Nat) (ps : List Party) : List (Nat × Frac) :=
  let first := waterFill (ps.length + 1) room ps
  let small := first.filter (fun p => p.2.lt (Frac.of least))
  if small.isEmpty then first
  else
    let kept := ps.filter (fun p => Frac.le (Frac.of least) (amount first p.alloc))
    let used := Frac.sum (kept.map (fun p => (amount first p.alloc).mul p.cost))
    let more := waterFill (kept.length + 1) (room.sub used)
      ((kept.map (fun p => { p with want := p.want.sub (amount first p.alloc) })).filter (fun p => decide (0 < p.want.num)))
    kept.map (fun p => (p.alloc, (amount first p.alloc).add (amount more p.alloc)))

/-- A tier of shares: weight by contract, want, most bytes that a word freed by rounding may take it to, frames withheld in it so far, and where its
bytes go. -/
structure ShareTier where
  weight : Contract → Nat
  want : List TermGrant → Nat → Frac
  most : List TermGrant → Nat → Nat
  withheld : Alloc → Nat
  put : Nat → Grant → Grant
  got : Grant → Nat

/-- Allocations that want a share. -/
def wanting (s : State) (r : Run) (k : ShareTier) (l : List TermGrant) : List Nat :=
  (runAllocs s r.chan).filter (fun a => k.weight (s.alloc a).contract != 0 && decide (0 < (k.want l a).num))

/-- Their parts, as parties of a share, without a byte: what a share's overhead is charged by. -/
def withParts (s : State) (as_ : List Nat) (l : List TermGrant) : List TermGrant := as_.foldl (fun l a => addGrant s a id l) l

/-- Those that structures are left for, in index order (R188). -/
def reachedOf (s : State) (r : Run) : List TermGrant → List Nat → List Nat
  | _, [] => []
  | l, a :: as_ =>
    let l' := addGrant s a id l
    if structsFit r l' then a :: reachedOf s r l' as_ else reachedOf s r l as_

/-- One of the tiers 4a and 4b added to a solution: first, at its head, those unserved in it for 8 frames, then the shares (R189). The solution, and
the allocations that wanted and got nothing. -/
def addShare (s : State) (r : Run) (k : ShareTier) (l : List TermGrant) : List TermGrant × List Nat :=
  let all := wanting s r k l
  let least := s.getN .DBA_MIN_GRANT r.chan
  let head := all.filter (fun a => decide (8 ≤ k.withheld (s.alloc a)))
  let l1 := head.foldl (fun l a =>
    let n := affordable s r l a (min (k.want l a).floor.toNat least) k.put
    if n = 0 then l else addGrant s a (k.put n) l) l
  let cand := reachedOf s r l1 (all.filter (fun a => !head.contains a))
  let used := solCost (withParts s cand l1)
  let l2 :=
    if r.budget ≤ used then l1
    else
      let ps := cand.map (fun a => (⟨a, (Frac.of (k.weight (s.alloc a).contract)).mul (corrOf (s.alloc a).contract (s.alloc a).ledger),
        k.want l a, perByte (s.term (s.alloc a).term).rate⟩ : Party))
      let shares := roundWords (fun a => (s.alloc a).ledger) (fun a n => decide (n ≤ k.most l a)) (shareOut (Frac.of (r.budget - used)) least ps)
      shares.foldl (fun l p => if p.2 = 0 then l else addGrant s p.1 (k.put p.2) l) l1
  (l2, all.filter (fun a => k.got (grantOf l2 a) = 0))

/-- The smaller of two fractions. -/
def minFrac (x y : Frac) : Frac := if Frac.le x y then x else y

/-- Wants of tiers 4b and 4a (R187 steps 5 and 6). -/
def want4b (s : State) (r : Run) (l : List TermGrant) (a : Nat) : Frac := minFrac (Frac.of (demandLeft s l a)) (rmRoom s r l a)
def want4a (s : State) (r : Run) (l : List TermGrant) (a : Nat) : Frac := minFrac (want4b s r l a) (Frac.of (s.alloc a).contract.rna 64)

def tier4a (s : State) (r : Run) : ShareTier :=
  ⟨(·.rna), want4a s r, fun l a => (want4b s r l a).floor.toNat, (·.withheldA), fun n g => { g with t4a := g.t4a + n }, (·.t4a)⟩
def tier4b (s : State) (r : Run) : ShareTier :=
  ⟨(·.w), want4b s r, fun l a => (want4b s r l a).floor.toNat, (·.withheldB), fun n g => { g with t4b := g.t4b + n }, (·.t4b)⟩

/-! ### Entitlement (R190) -/

/-- Ideal tier 4 shares over the room left after tiers 1, 2 and polls, less the overhead of terminals new to the frame: corr = 1 and no withholding. Log entry 73 (DESIGN CHOICE). -/
def idealShares (s : State) (r : Run) (l : List TermGrant) : List (Nat × Int) :=
  let party (w : Contract → Nat) (want : Nat → Frac) : List Party :=
    ((runAllocs s r.chan).filter (fun a => w (s.alloc a).contract != 0 && decide (0 < (want a).num))).map
      (fun a => ⟨a, Frac.of (w (s.alloc a).contract), want a, perByte (s.term (s.alloc a).term).rate⟩)
  let pa := party (·.rna) (want4a s r l)
  let la := withParts s (pa.map (·.alloc)) l
  let a4 := waterFill (pa.length + 1) (Frac.of (r.budget - solCost la)) pa
  let used := Frac.sum (pa.map (fun p => (amount a4 p.alloc).mul p.cost))
  let pb := party (·.w) (fun a => (want4b s r l a).sub (amount a4 a))
  let lb := withParts s (pb.map (·.alloc)) la
  let b4 := waterFill (pb.length + 1) ((Frac.of (r.budget - solCost lb)).sub used) pb
  (runAllocs s r.chan).map (fun a => (a, ((amount a4 a).add (amount b4 a)).floor))

/-! ### The whole run of a channel -/

/-- What a run decides: the solution, E of each allocation, time by step, the overcommit cause if any, and who wanted a share of tier 4a, or 4b, and
got nothing in it. -/
structure RunOut where
  terms : List TermGrant
  ideal : List (Nat × Int)
  times : List Nat
  overcommit : Option Nat
  missA : List Nat := []
  missB : List Nat := []

/-- Tiers 1 and 2 with the overcommit rule: splits lowered where structures or time do not admit them, then tier 2 scaled by time. Log entry 75 (DESIGN CHOICE). -/
def tiers12 (s : State) (r : Run) : List TermGrant × List TermGrant × Option Nat :=
  let wants := tier2Wants s r
  let t1 := tier1 s r true
  let l := addTier2 s r true wants t1
  if solCost l.1 ≤ r.budget then (t1.1, l.1, if l.2 then some 3 else none)
  else
    let t1 := tier1 s r false
    let l := addTier2 s r false wants t1
    let l := if solCost l.1 ≤ r.budget then l else addTier2 s r false (scaleTier2 s r wants t1) t1
    (t1.1, l.1, some 2)

/-- R187 for one channel. -/
def solve (s : State) (r : Run) : RunOut :=
  let (t1, l2, ovf) := tiers12 s r
  let lp := addPolls s r l2
  let l3 := if r.cut then lp else addUrgent s r lp
  let (la, missA) := if r.cut then (l3, []) else addShare s r (tier4a s r) l3
  let (lb, missB) := if r.cut then (la, []) else addShare s r (tier4b s r) la
  let shares := if r.cut then [] else idealShares s r lp
  let ideal := (runAllocs s r.chan).map (fun a =>
    (a, (fixedDue (s.alloc a) : Int) + (grantOf l2 a).t2 + ((shares.find? (fun p => p.1 == a)).elim 0 (·.2))))
  ⟨lb, ideal, [solCost t1, solCost l2 - solCost t1, solCost lp - solCost l2, solCost l3 - solCost lp, solCost la - solCost l3,
    solCost lb - solCost la], ovf, missA, missB⟩

end Sys2Proof.Machine
end

