-- ==== Sys2Proof/Machine/Dba.lean ====
section
/-! DEFINITION. Contracts, reports, the window calendar and the solver's run (spec/07; spec/08 R208, R209; spec/05 R122, R124). -/
namespace Sys2Proof.Machine

/-! ### Contracts and allocation bindings (R122, R172 to R174) -/

/-- A contract of Table 7.1 whose fields are in range. -/
def contractOk (k : Contract) : Bool :=
  decide (k.rf + k.ra + k.rna ≤ k.rm) && decide (k.rm ≤ 49766400) && decide (k.w ≤ 255) && decide (k.lat ≤ 3200) && decide (k.preann ≤ 777600)

/-- A ledger within its bound. -/
def clampLedger (k : Contract) (v : Int) : Int := max (-(boundOf k : Int)) (min v (boundOf k))

/-- Contract, demand, ledger and stamps of an index, as they are read and written back to the host (R198, R449); the contract is `k`. -/
def contractWords (a : Alloc) (k : Contract) : List Int :=
  [(k.rf : Int), k.ra, k.rna, k.rm, k.w, k.lat, k.preann, a.demand, a.ledger] ++ (a.stamps.map (fun x => [(x.time : Int), (x.bytes : Int)])).flatten

/-- ALLOC_CONTRACT: a contract set, to take effect at the next report cut-off; on a bound index only within the channel's committed time. -/
def execAllocContract (mb : Fin 16) (alloc rf ra rna rm w lat preann : Nat) (s : State) : Res :=
  hostCmd s mb 0x0701 fun _ s =>
    let k : Contract := ⟨rf, ra, rna, rm, w, lat, preann⟩
    let a := s.alloc alloc
    if 32768 ≤ alloc || !contractOk k then fail s .badArg
    else if a.valid && overAdmit s a.chan (some (alloc, k)) then fail s .noSpace
    else
      let s := s.setAlloc alloc { a with nextContract := some k }
      okay (if a.valid then s.mirror (a.chan / 2) alloc (.contract k) else s) (contractWords a k)

/-- ALLOC_CONTRACT_READ: contract, demand, ledger and stamps, latched together. -/
def execAllocContractRead (mb : Fin 16) (alloc : Nat) (s : State) : Res :=
  hostCmd s mb 0x0702 fun _ s =>
    if 32768 ≤ alloc then fail s .badArg
    else
      okay s (contractWords (s.alloc alloc) (s.alloc alloc).contract)

/-- The two words of Table 5.1. -/
def allocWords (n : Nat) (a : Alloc) : List Int :=
  [((b2n a.valid * 2 ^ 31 + a.chan % 2 * 2 ^ 30 + a.chan / 2 % 4 * 2 ^ 28 + a.allocId * 2 ^ 14 + b2n a.dflt * 2 ^ 13 + a.term : Nat) : Int),
   ((n * 2 ^ 17 : Nat) : Int)]

/-- Terminals that hold an allocation index as their default one. -/
def defaultOfSome (s : State) (alloc : Nat) : Bool :=
  !(s.terms.keys (fun _ v => v.state != .free && v.defAlloc == alloc)).isEmpty

/-- ALLOC_MAP: an allocation index bound to a tree channel, an Alloc-ID and a terminal. -/
def execAllocMap (mb : Fin 16) (alloc c allocId term : Nat) (s : State) : Res :=
  hostCmd s mb 0x0510 fun _ s =>
    if 32768 ≤ alloc || 64 ≤ c || allocId < 1024 || 16383 < allocId then fail s .badArg
    else onTerm s term fun s =>
      if (s.term term).chan != c then fail s .badArg
      else if (s.alloc alloc).valid || defaultOfSome s alloc
          || !(s.dba.allocs.keys (fun _ a => a.valid && a.chan == c && a.allocId == allocId)).isEmpty then fail s .alreadyExists
      else if 8192 ≤ regionAllocs s (c / 8) then fail s .noSpace
      else
        let a := { s.alloc alloc with valid := true, chan := c, allocId := allocId, dflt := false, term := term }
        let s' := (s.putAlloc alloc a).mirror (c / 2) alloc (.contract (contractDue a))
        okay (s'.checkCommitted s c) (allocWords alloc a)

/-- ALLOC_UNMAP: no grant from the next report cut-off; demand, stamps and history cleared (R178), the default contract back (R173). Log entry 78 (DESIGN CHOICE). -/
def execAllocUnmap (mb : Fin 16) (alloc : Nat) (s : State) : Res :=
  hostCmd s mb 0x0511 fun _ s =>
    let a := s.alloc alloc
    if 32768 ≤ alloc then fail s .badArg
    else if defaultOfSome s alloc then fail s .busy
    else if !a.valid then fail s .noObject
    else if stepping s a.term then (s, .hold (.termStep a.term))
    else
      let k : Contract := {}
      let b := { clearDemand a with valid := false, contract := k, nextContract := none, ledger := clampLedger k a.ledger }
      let gone := { b with chan := 0, allocId := 0, dflt := false, term := 0 }
      okay ((s.putAlloc alloc b).setAlloc alloc gone) (allocWords alloc gone)

/-- LEDGER_RESET: ledger and fixed accumulator 0 at the next cut-off (R198). Log entry 280 (DESIGN CHOICE). -/
def execLedgerReset (mb : Fin 16) (alloc : Nat) (s : State) : Res :=
  hostCmd s mb 0x0720 fun _ s =>
    if 32768 ≤ alloc then fail s .badArg
    else
      let a := { s.alloc alloc with resetLedger := true }
      okay (s.setAlloc alloc a) (contractWords { a with ledger := 0 } a.contract)

/-- DBA_STATUS_READ: last-frame time by tier in the unit of cost, structures used, cut state. Log entry 91 (DESIGN CHOICE). -/
def execDbaStatusRead (mb : Fin 16) (c : Nat) (s : State) : Res :=
  hostCmd s mb 0x0730 fun _ s =>
    if 64 ≤ c then fail s .badArg
    else
      let m := (s.chan c).maps
      okay s (m.lastTimes.map Int.ofNat ++ [(m.sent.structs.length : Int), b2n m.cut])

/-! ### Pre-announcements (R194, R195) -/

/-- The full superframe count that 32 low bits name: the nearest to a reference. -/
def fullFrame (ref low : Nat) : Nat :=
  let d := (low + 2 ^ 32 - ref % 2 ^ 32) % 2 ^ 32
  if d < 2 ^ 31 then ref + d else ref + d - 2 ^ 32

/-- One entry of Table 7.2 as its four words. Log entry 77 (DEDUCED). -/
def preannEntry (s : State) (e : Nat × Nat × Nat × Nat) : State × Status × List Int :=
  let (w0, w1, bytes, w3) := e
  let a := bits w0 31 17
  let n := bits w0 16 14
  let late := bit w0 0
  let frame := fullFrame s.pon.tl.sfc w1
  let open_ := s.dba.lastRun + 2
  let limit := (s.alloc a).contract.preann
  let answer (s : State) (st : Status) (used : Nat) : State × Status × List Int := (s, st, [(st.code : Int), ((used % 2 ^ 32 : Nat) : Int)])
  if bits w0 13 1 != 0 || w3 != 0 || 4 < n || s.pon.tl.sfc + 800 < frame || limit < bytes then answer s .badArg 0
  else if frame < open_ && !late then answer s .timeout 0
  else
    let used := max open_ frame
    if limit < preannBytes s a used + bytes || 4096 ≤ s.dba.preanns.length then answer s .noSpace 0
    else answer { s with dba.preanns := s.dba.preanns ++ [⟨a, used, bytes, n⟩] } (if frame < open_ then .deferred else .ok) used

/-- The entries of a body, 16 bytes each. -/
def preannEntries (c : Cmd) : List (Nat × Nat × Nat × Nat) :=
  (List.range (c.body.length / 16)).map (fun i => (bodyWord c (4 * i), bodyWord c (4 * i + 1), bodyWord c (4 * i + 2), bodyWord c (4 * i + 3)))

/-- DBA_PREANNOUNCE: 1 to 254 entries. -/
def execDbaPreannounce (mb : Fin 16) (s : State) : Res :=
  hostCmd s mb 0x0710 fun c s =>
    let es := preannEntries c
    if es.isEmpty || 254 < es.length || c.body.length % 16 != 0 then fail s .badArg
    else entriesCmd preannEntry s es

/-- DBA_PREANN_CANCEL: an allocation's pending entries removed, or those of one frame of it. -/
def execDbaPreannCancel (mb : Fin 16) (alloc : Nat) (frame : Option Nat) (s : State) : Res :=
  hostCmd s mb 0x0711 fun _ s =>
    if 32768 ≤ alloc then fail s .badArg
    else
      let keep (p : Preann) : Bool := p.alloc != alloc || (frame.any (fun f => p.frame % 2 ^ 32 != f % 2 ^ 32))
      okay { s with dba.preanns := s.dba.preanns.filter keep } [((s.dba.preanns.filter (fun p => !keep p)).length : Int)]

/-! ### Inputs latched at the cut-off (R173, R177 to R182, R196, R197) -/

/-- A report reaches the report store (R179): the last one before the cut-off stands. -/
def execReportArrival (s : State) : Res :=
  .next <|
    match s.dba.transit with
    | [] => s
    | (a, frame, occ) :: rest =>
      let s := { s with dba.transit := rest }
      if (s.alloc a).valid then s.setAlloc a { s.alloc a with report := some (frame, occ) } else s

/-- A contract change and a ledger reset take effect. -/
def latchContract (a : Alloc) : Alloc :=
  let a := match a.nextContract with
    | some k => { a with contract := k, nextContract := none, ledger := clampLedger k a.ledger }
    | none => a
  if a.resetLedger then { a with ledger := 0, acc := 0, resetLedger := false } else a

def State.latchContracts (s : State) : State :=
  (s.dba.allocs.keys (fun _ a => a.nextContract.isSome || a.resetLedger)).foldl (fun s n => s.setAlloc n (latchContract (s.alloc n))) s

/-- Highest rate code of a channel. -/
def topRate (c : Nat) : Nat := if c % 2 = 0 then 4 else 1

/-- The capacity figures of a channel latched; DBA_UNSERVED once for each change of the highest rate (R197). -/
def State.latchCapacity (s : State) (c : Nat) : State :=
  let h := s.pace.held.get (consumerKey .dba (regionOfChan c))
  let pct := h.figures.elim 100 (fun f => f.percent.getD (c % 8) 100)
  let rate := h.figures.elim (topRate c) (fun f => f.highest.getD (c % 8) (topRate c))
  let old := (s.dba.capacity.get c).elim (topRate c) (·.2.1)
  let seq := h.last.getD 0
  let s := { s with dba.capacity := s.dba.capacity.set c (some (pct, rate, seq)) }
  let s := s.setRo .DBA_CAPACITY c (pct * 2 ^ 24 + rate * 2 ^ 21 + seq : Nat)
  if rate = old then s else s.raise .DBA_UNSERVED (srcChan c 14) (regionOfChan c) (evData [(6, c)] rate)

/-- Pools latched as frozen whose feed mask names a channel (R196). -/
def cuttingPools (s : State) (c : Nat) : List Nat :=
  (List.range 4).filter (fun p => s.dba.latchedFrozen.testBit p && (s.getN .POOL_FEED_MASK p).testBit c)

/-- A channel becomes cut, or is restored. -/
def State.latchCut (s : State) (c : Nat) : State :=
  let ps := cuttingPools s c
  let was := (s.chan c).maps.cut
  let s := s.setChan c { s.chan c with maps.cut := !ps.isEmpty }
  let mask := (s.ro .DBA_CUT_STATE).toNat
  let s := s.setRo .DBA_CUT_STATE 0 (mask - b2n (bit mask c) * 2 ^ c + b2n (!ps.isEmpty) * 2 ^ c : Nat)
  match was, ps with
  | false, p :: _ => s.raise .DBA_CUT (srcChan c 14) (regionOfChan c) (evData [(6, c)] p)
  | true, [] => s.raiseAs .DBA_CUT true (srcChan c 14) (regionOfChan c) (evData [] c)
  | _, _ => s

/-- Bytes of a list of stamps. -/
def stamped (l : List Stamp) : Nat := l.foldl (fun n x => n + x.bytes) 0

/-- A stamp appended; with a fifth the newest two are merged and keep the older time (R182). -/
def addStamp (l : List Stamp) (x : Stamp) : List Stamp :=
  if l.length < 4 then l ++ [x]
  else match l.getLast? with
    | some y => l.dropLast ++ [{ y with bytes := y.bytes + x.bytes }]
    | none => [x]

/-- Frames before `g` at which a report was sent, when it is not stale (R177). -/
def reportAge (g frame : Nat) : Option Nat :=
  let age := (g + 2 ^ 14 - frame % 2 ^ 14) % 2 ^ 14
  if 1 ≤ age && age ≤ 16 then some age else none

/-- Payload granted in the maps after frame `from_` and before `g`. -/
def grantedSince (a : Alloc) (from_ g : Nat) : Nat :=
  (a.history.filter (fun h => decide (from_ < h.1) && decide (h.1 < g))).foldl (fun n h => n + h.2) 0

/-- Payload granted in one map. -/
def grantedIn (a : Alloc) (f : Nat) : Nat := ((a.history.find? (fun h => h.1 == f)).elim 0 (·.2))

/-- An allocation's demand at the run of frame `g`: from its report, or what is left after the previous map (R177, R178, R182). -/
def State.latchReport (s : State) (c g n : Nat) : State :=
  let a := s.alloc n
  let rest := { a with report := none, demand := a.demand - grantedIn a (g - 1) }
  let (a', stale) : Alloc × Bool := match a.report with
    | none => (rest, false)
    | some (frame, occ) =>
      match reportAge g frame with
      | none => (rest, true)
      | some age =>
        let d := 4 * occ - grantedSince a (g - age) g
        let t := ((g - age) * 125000 : Int) + teqdNs s c
        let stamps := if a.contract.lat != 0 && stamped a.stamps < d then addStamp a.stamps ⟨t.toNat, d - stamped a.stamps, false⟩
          else a.stamps
        ({ a with report := none, demand := d, stamps := stamps }, false)
  let s := s.setAlloc n a'
  if stale then s.bump .DBA_STALE_REPORTS c else s

/-! ### Booking windows (R208, R209) -/

/-- Is [`a`, `b`) free of every interval booked on a channel? -/
def intervalFree (cal : List Window) (a b : Int) : Bool := cal.all (fun w => decide (b ≤ w.from_) || decide (w.to_ ≤ a))

/-- Is a start the second quiet window of its frame? Probes are booked one per frame (R145). -/
def secondQuiet (cal : List Window) (r : WinReq) (t : Int) : Bool :=
  r.kind == .quiet && cal.any (fun w => w.kind == .quiet && w.frame == t.toNat / 125000)

/-- May a window start at `t` on each of the channels that take part, each with its request? -/
def startFree (s : State) (parts : List (Nat × WinReq)) (t : Int) : Bool :=
  parts.all (fun p => let cal := (s.chan p.1).maps.calendar
    intervalFree cal (t + p.2.from_) (t + p.2.to_) && !secondQuiet cal p.2 t)

/-- The earliest start for a run: the carrying frame is the run's or later, and the interval overlaps no upstream frame before the run's. -/
def startFloor (s : State) (g : Nat) (parts : List (Nat × WinReq)) : Int :=
  parts.foldl (fun m p => max m (max ((max g p.2.firstFrame * 125000 : Nat) : Int) ((g * 125000 : Int) + teqdNs s p.1 - p.2.from_)))
    ((g * 125000 : Nat) : Int)

/-- Starts worth trying: the floor, the ends of booked intervals, and the frames after those of quiet windows. -/
def startCandidates (s : State) (floor : Int) (parts : List (Nat × WinReq)) : List Int :=
  let after (p : Nat × WinReq) (w : Window) : List Int := [w.to_ - p.2.from_, ((w.frame + 1) * 125000 : Nat)]
  floor :: ((parts.map (fun p => ((s.chan p.1).maps.calendar.map (after p)).flatten.filter (fun t => decide (floor < t)))).flatten)

/-- The earliest start that meets R208. -/
def earliestStart (s : State) (g : Nat) (parts : List (Nat × WinReq)) : Int :=
  let floor := startFloor s g parts
  (((startCandidates s floor parts).filter (startFree s parts)).orderBy (fun a b => decide (a ≤ b))).headD floor

/-- The start of a discovery window with GM_DISC_ALIGN = 1, from channel 0's Teqd; the earliest position where that breaks R208 (R209). -/
def alignedStart (s : State) (g : Nat) (parts : List (Nat × WinReq)) : Int :=
  match parts with
  | [] => 0
  | p :: _ =>
    let c0 := p.1 / 2 * 2
    let s0 := (teqdNs s c0 - p.2.from_) % 125000
    let floor := startFloor s g parts
    let t := floor + (s0 - floor) % 125000
    if startFree s parts t then t else earliestStart s g parts

/-- A window booked on one channel. -/
def State.bookOne (s : State) (t : Int) (p : Nat × WinReq) : State :=
  let v := s.chan p.1
  let w : Window := ⟨p.2.kind, p.2.rate, t.toNat / 125000, t.toNat % 125000, t + p.2.from_, t + p.2.to_, p.2.readmit⟩
  let s := s.setChan p.1 { v with maps.calendar := v.maps.calendar ++ [w], maps.requests := v.maps.requests.erase p.2 }
  match p.2.kind with
  | .ranging n => if (s.term n).state = .snAcquired then s.putTerm n { s.term n with state := .ranging } else s
  | _ => s

/-- A request booked, with its counterpart on the tree's other channel when it is an ordinary discovery window (R209). -/
def State.book (s : State) (g : Nat) (parts : List (Nat × WinReq)) : State :=
  let disc := parts.any (fun p => p.2.kind == .discovery)
  let c := (parts.head?.map (·.1)).getD 0
  let t := if disc && s.getN .GM_DISC_ALIGN (c / 2 * 2) = 1 then alignedStart s g parts else earliestStart s g parts
  parts.foldl (fun s p => s.bookOne t p) s

/-- Is a request an ordinary discovery window? -/
def ordinary (r : WinReq) : Bool := r.kind == .discovery && !r.readmit

/-- Ordinary discovery windows of a tree booked together, as many as either channel has asked for. -/
def State.bookDiscovery : Nat → State → Nat → Nat → State
  | 0, s, _, _ => s
  | n + 1, s, g, tree =>
    let first (c : Nat) : List (Nat × WinReq) := ((s.chan c).maps.requests.find? ordinary).toList.map (fun r => (c, r))
    let parts := first (2 * tree) ++ first (2 * tree + 1)
    if parts.isEmpty then s else State.bookDiscovery n (s.book g parts) g tree

/-- Every window asked for on a tree before this cut-off is booked; those whose interval and carrying frame are past leave the calendar. Log entry 80 (DESIGN CHOICE). -/
def State.bookTree (s : State) (g tree : Nat) : State :=
  let prune (s : State) (c : Nat) : State :=
    let v := s.chan c
    let live (w : Window) : Bool := decide (g ≤ w.frame + 1) || decide (((g : Int) - 1) * 125000 + teqdNs s c < w.to_)
    s.setChan c { v with maps.calendar := v.maps.calendar.filter live }
  let s := prune (prune s (2 * tree)) (2 * tree + 1)
  let n := (s.chan (2 * tree)).maps.requests.length + (s.chan (2 * tree + 1)).maps.requests.length
  let s := State.bookDiscovery n s g tree
  let other (s : State) (c : Nat) : State := (s.chan c).maps.requests.foldl (fun s r => s.book g [(c, r)]) s
  other (other s (2 * tree)) (2 * tree + 1)

/-! ### The run (R187 to R198) -/

/-- Overlap of a window with the upstream frame of `g` in ns. -/
def windowIn (teqd : Int) (g : Nat) (w : Window) : Nat :=
  let a := (g * 125000 : Int) + teqd
  (min w.to_ (a + 125000) - max w.from_ a).toNat

/-- Time of an upstream frame reserved by windows, in ns. -/
def reservedNs (s : State) (c g : Nat) : Nat := (s.chan c).maps.calendar.foldl (fun n w => n + windowIn (teqdNs s c) g w) 0

/-- The inputs of a channel's run. Each window that frame `g` carries takes a structure (R188). -/
def runOf (s : State) (c g : Nat) : Run :=
  let pct := (s.dba.capacity.get c).elim 100 (·.1)
  let reserved := reservedNs s c g
  { chan := c, frame := g, budget := 1250 * pct * nsCost - reserved * nsCost, full := 1250 * pct * nsCost,
    windowStructs := ((s.chan c).maps.calendar.filter (fun w => w.frame == g)).length,
    covered := decide (125000 ≤ reserved), cut := (s.chan c).maps.cut }

/-- Pre-announcements of a frame leave the list; one whose terminal is not in OPERATION is dropped (R194). -/
def State.takePreanns (s : State) (g : Nat) : State :=
  (s.dba.preanns.filter (fun p => p.frame == g)).foldl (fun s p =>
    let a := s.alloc p.alloc
    if a.valid && (s.term a.term).state == .operation then s
    else ({ s with dba.preannDrops := s.dba.preannDrops + 1 }).raise .DBA_PREANN_DROP (srcChan a.chan 14) (regionOfChan a.chan)
      (evData [(15, p.alloc)] (g % 65536))) s

/-- DBA_LATENCY_MISS, at most once per second per allocation (R193); none while the channel is being recovered (R488). -/
def State.latencyMiss (s : State) (n cause : Nat) : State :=
  let c := (s.alloc n).chan
  if recovering s c then s else
  (s.bump .DBA_LATENCY_MISSES n).raiseSec .DBA_LATENCY_MISS n (srcChan c 14) (regionOfChan c) (fun _ => evData [(15, n)] cause)

/-- The first cause of the table of R193 that applies to an allocation whose first `need` stamped bytes a run does not grant. With the upstream
frame covered by windows, the budget counts as short where it would not do without them either. Log entry 69 (DESIGN CHOICE). -/
def missCause (s : State) (r : Run) (out : RunOut) (n need : Nat) : Nat :=
  let a := s.alloc n
  let left := ((boundOf a.contract : Int) - a.ledger).toNat
  let room := (rmRoom s r out.terms n).add (Frac.of (grantOf out.terms n).t3)
  if belowFloor s r.chan a.contract then 1
  else if !r.cut && left < urgentBytes s r a && Frac.le (Frac.of left) room then 2
  else if r.cut then 3
  else if r.covered && need ≤ Grant.bytes (grantOf (solve s { r with budget := r.full }).terms n) then 5
  else 4

/-- Stamps that become missed in a run, older than the target and not granted whole by `bytes`: the stamps with them marked, and for each the bytes
stamped up to its end. -/
def markMissed (s : State) (r : Run) (target bytes : Nat) : Nat → List Stamp → List Stamp × List Nat
  | _, [] => ([], [])
  | before, x :: xs =>
    let end_ := before + x.bytes
    let (l, needs) := markMissed s r target bytes end_ xs
    if target != 0 && !x.missed && decide ((target : Int) < stampAge s r x) && bytes < end_ then ({ x with missed := true } :: l, end_ :: needs)
    else (x :: l, needs)

/-- Frames withheld in a row in a tier 4 share (R189): none pass on a cut channel. -/
def withheldNow (cut unserved : Bool) (n : Nat) : Nat := if cut then n else if unserved then n + 1 else 0

/-- What a run leaves in one allocation: its accumulator, fixed bytes lost, misses, and frames withheld. -/
def State.settleAlloc (s : State) (r : Run) (out : RunOut) (n : Nat) : State :=
  let a := s.alloc n
  let g := grantOf out.terms n
  let (stamps, needs) := markMissed s r (latNs a.contract) (Grant.bytes g) 0 a.stamps
  let causes := needs.map (missCause s r out n) ++ (if g.fixed + g.t2 != 0 && g.n < askedSplit s r n then [4] else [])
  let due := fixedDue a
  let s := s.setAlloc n { a with acc := (a.acc + a.contract.rf) % 256, stamps := stamps,
                                 withheldA := withheldNow r.cut (out.missA.contains n) a.withheldA,
                                 withheldB := withheldNow r.cut (out.missB.contains n) a.withheldB }
  let s := if g.fixed < due then s.bump .DBA_FIXED_LOST n (due - g.fixed) else s
  causes.foldl (fun s k => s.latencyMiss n k) s

/-- What a map of the run is built from (R217). -/
def inputsOf (s : State) (c : Nat) (l : List TermGrant) : MapInputs :=
  let cal := (s.chan c).maps.calendar
  { allocs := (l.map (·.grants)).flatten.map (fun g => (g.alloc, (s.alloc g.alloc).allocId, (s.alloc g.alloc).contract.lat)),
    onus := cal.filterMap (fun w => match w.kind with
      | .ranging t => (s.term t).onu.map (fun o => (t, o))
      | _ => none),
    calendar := cal, teqd := teqdNs s c, rateGap := s.getN .GM_RATE_GAP c, minGrant := s.getN .DBA_MIN_GRANT c,
    sleepUp := s.getN .SLEEP_UP_EN c == 1, sleepGap := s.getN .SLEEP_MIN_GAP c }

/-- One channel's run: its solution posted to the constructor (R187, R203). Log entry 86 (DEDUCED). -/
def State.runChannel (s : State) (g c : Nat) : State :=
  let s := s.latchCapacity c
  let s := s.latchCut c
  let s := (s.dba.allocs.keys (fun _ a => a.valid && a.chan == c)).foldl (fun s n => s.latchReport c g n) s
  let s := (termsOf s c (fun v => v.state == .operation || v.state == .lost)).foldl
    (fun s t => s.setTerm t { s.term t with profileShort := useShort s t }) s
  if outOfRole s (blockAddr regM (40 + c / 16)) then
    s.setChan c { s.chan c with maps.solution := none, maps.entitled := [], maps.cutoffAt := s.up }
  else
    let r := runOf s c g
    let out := solve s r
    let s := match out.overcommit with
      | some cause => s.overcommit c cause
      | none => s
    let s := (runAllocs s c).foldl (fun s n => s.settleAlloc r out n) s
    s.setChan c { s.chan c with maps.solution := some ⟨g, inputsOf s c out.terms, out.terms, out.ideal, out.times, solStructs out.terms + r.windowStructs⟩,
                                maps.entitled := out.ideal, maps.cutoffAt := s.up, maps.lastTimes := out.times }

/-- Channels that the run of frame `g` serves: enabled by then, on trees whose activation runs here (R199). -/
def servedChannels (s : State) (g : Nat) : List Nat :=
  (List.range 64).filter (fun c => ((s.chan c).enabled || (s.chan c).enableAt.any (fun k => decide (k ≤ g))) && runs s (c / 2))

/-- REPORT_CUTOFF: at t_g - 30 µs, inputs latched, windows booked, tiers laid out on every channel. Log entry 92 (DESIGN CHOICE). -/
def execReportCutoff (s : State) : Res :=
  .next <|
    match s.pon.tl.next with
    | none => s
    | some g =>
      let s := { s.latchContracts with dba.latchedFrozen := s.dba.frozen }
      let cs := servedChannels s g
      let s := s.takePreanns g
      let s := (List.range 32).foldl (fun s t => if cs.contains (2 * t) || cs.contains (2 * t + 1) then s.bookTree g t else s) s
      let s := cs.foldl (fun s c => s.runChannel g c) s
      { s with dba.preanns := s.dba.preanns.filter (fun p => decide (g < p.frame)), dba.lastRun := g }

end Sys2Proof.Machine
end

