-- ==== Sys2Proof/Machine/Maps.lean ====
section
/-! DEFINITION. Grant map construction, delivery and choice, and the ledger (spec/08, spec/07 R190). -/
namespace Sys2Proof.Machine

/-! ### Position units (R205) -/

/-- Rate multiple of a channel's highest upstream rate; a position unit is 8 of its bit times. -/
def topMult (c : Nat) : Nat := rateMult (topRate c)

/-- Units of an upstream frame. -/
def frameUnits (c : Nat) : Nat := topMult c * 38880

/-- Units of a byte at a rate. -/
def byteUnits (c rate : Nat) : Nat := topMult c / rateMult rate

/-- A time in ns as units, rounded down and up. -/
def unitsDown (c : Nat) (ns : Int) : Int := ns * (topMult c * 248832 : Nat) / 800000
def unitsUp (c : Nat) (ns : Int) : Int := -(-(ns * (topMult c * 248832 : Nat)) / 800000)

/-- Part of a profile in bytes at a rate, rounded up (R131), as units. -/
def profileUnits (c rate ns : Nat) : Nat := ceilDiv (ns * rateMult rate * 248832) 800000 * byteUnits c rate

/-- Guard, and preamble with delimiter, of a profile (Table 3.4). -/
def guardUnits (c rate : Nat) (short : Bool) : Nat := profileUnits c rate (if short then 16 else 64)
def leadUnits (c rate : Nat) (short : Bool) : Nat :=
  if short then profileUnits c rate 16 + profileUnits c rate 8 else profileUnits c rate 160 + profileUnits c rate 32

/-! ### Items on the lane (R210 to R214) -/

/-- Something placed in an upstream frame: a burst, or the part of a booked interval that falls in it. -/
structure Item where
  /-- Preamble start or interval start, header position, scheduled end. -/
  start : Int
  header : Int
  end_ : Int
  /-- Guard needed before it, with the slack of an update on both sides (R213). -/
  guard_ : Int := 0
  slack : Int := 0
  burst : Bool
  rate : Nat
  short : Bool := false
  term : Option Nat := none
  kind : LaneKind
  /-- The terminal's part and the burst itself. -/
  body : Option (TermGrant × Burst) := none
  deriving DecidableEq, Repr, Inhabited

/-- What the item before a position leaves: its end with slack, and the last burst's start, rate and terminal. -/
structure Before where
  end_ : Int := 0
  start : Option Int := none
  rate : Option Nat := none
  term : Option Nat := none

def Before.after (b : Before) (x : Item) : Before :=
  if x.burst then ⟨x.end_ + x.slack, some x.start, some x.rate, x.term⟩ else { b with end_ := x.end_ }

/-- Earliest preamble start of a burst after what precedes it (R210, R211, R213, R214). -/
def minStart (k : MapInputs) (c : Nat) (b : Before) (x : Item) : Int :=
  let gap : Int := if b.rate.any (· != x.rate) then unitsUp c k.rateGap else 0
  let p := b.end_ + x.guard_ + x.slack + gap
  match b.start with
  | some q => if b.term.isSome && b.term == x.term then p else max p (q + unitsUp c 80)
  | none => p

/-- Does a rising list of items meet every rule? -/
def itemsOk (k : MapInputs) (c : Nat) : Before → List Item → Bool
  | b, [] => decide (b.end_ ≤ (frameUnits c : Int))
  | b, x :: xs => decide ((if x.burst then minStart k c b x else b.end_) ≤ x.start) && itemsOk k c (b.after x) xs

/-- An item put in its place. -/
def insertItem (x : Item) : List Item → List Item
  | [] => [x]
  | y :: ys => if x.start < y.start then x :: y :: ys else y :: insertItem x ys

/-- The burst with its header at a position. -/
def Item.at_ (x : Item) (h : Int) : Item := { x with start := h - (x.header - x.start), header := h, end_ := h + (x.end_ - x.header) }

/-- A position rounded up, and down, to a step. -/
def stepUp (step p : Int) : Int := -(-p / step) * step
def stepDown (step p : Int) : Int := p / step * step

/-- Step of StartTime in position units (R210). -/
def headerStep (c : Nat) : Int := (Config.startStep (c % 2) : Int) + 1

/-- Earliest header position in each free segment, in order (R211). Log entry 81 (DESIGN CHOICE). -/
def earliestHeaders (k : MapInputs) (c : Nat) (x : Item) : Before → List Item → List Int
  | b, [] => [stepUp (headerStep c) (minStart k c b x + (x.header - x.start))]
  | b, y :: ys => stepUp (headerStep c) (minStart k c b x + (x.header - x.start)) :: earliestHeaders k c x (b.after y) ys

/-- Latest header position before each item and before the frame's end, no later than a bound (R212). -/
def latestHeaders (k : MapInputs) (c : Nat) (x : Item) (bound : Int) : List Item → List Int
  | [] => [stepDown (headerStep c) (min bound ((frameUnits c : Int) - x.slack - (x.end_ - x.header)))]
  | y :: ys =>
    let room : Int := if y.burst then
        min (y.start - y.guard_ - y.slack - (if y.rate = x.rate then 0 else unitsUp c k.rateGap) - x.slack - (x.end_ - x.header))
          (if y.term == x.term then y.start else y.start - unitsUp c 80 + (x.header - x.start))
      else y.start - x.slack - (x.end_ - x.header)
    stepDown (headerStep c) (min bound room) :: latestHeaders k c x bound ys

/-- The first of a list of header positions at which a burst fits. -/
def firstFit (k : MapInputs) (c : Nat) (b : Before) (l : List Item) (x : Item) (hs : List Int) : Option Item :=
  ((hs.map x.at_).find? (fun y => itemsOk k c b (insertItem y l)))

/-- First free position of an unpinned burst. -/
def placeFirst (k : MapInputs) (c : Nat) (b : Before) (l : List Item) (x : Item) : Option Item := firstFit k c b l x (earliestHeaders k c x b l)

/-- A pinned burst after another of its series: the latest position at most `spacing` after it, else the nearest later one (R212). -/
def placePinned (k : MapInputs) (c : Nat) (b : Before) (l : List Item) (x : Item) (prev spacing : Int) : Option Item :=
  let lead := x.header - x.start
  let bound := prev + spacing + lead
  let early := (latestHeaders k c x bound l ++ earliestHeaders k c x b l).filter (fun h => decide (prev + lead < h))
  let inside := (early.filter (fun h => decide (h ≤ bound))).orderBy (fun a b => decide (b ≤ a))
  let beyond := (early.filter (fun h => decide (bound < h))).orderBy (fun a b => decide (a ≤ b))
  firstFit k c b l x (inside ++ beyond)

/-! ### Bursts to place -/

/-- A burst as an item with its preamble at 0. -/
def itemOf (c : Nat) (t : TermGrant) (b : Burst) : Item :=
  let lead := leadUnits c t.rate t.short
  { start := 0, header := lead, end_ := lead + codedBytes t.rate (Burst.info b) * byteUnits c t.rate,
    guard_ := guardUnits c t.rate t.short, slack := ceilDiv (t.slack * byteUnits c t.rate) 8, burst := true, rate := t.rate,
    short := t.short, term := some t.term, kind := .burst, body := some (t, b) }

/-- The burst of a terminal's part after trimming: the one of the same series and place. -/
def again (t : TermGrant) (b : Burst) : Option Burst := (burstsOf t).find? (fun x => x.series == b.series)

/-- A tier share without its last word; one that would fall below `least` goes whole (R216). Log entry 83 (DESIGN CHOICE). -/
def trimTier (least n : Nat) : Nat := if n < least + 4 then 0 else n - 4

/-- The first change that R216 allows in a burst of a terminal's grants: tier 4b, then 4a, then 3, of the last allocation in it that has any. -/
def trimGrants (least : Nat) (b : Burst) (l : List Grant) : Option (List Grant) :=
  let last (p : Grant → Bool) : Option Nat := ((l.filter (fun g => p g && b.parts.any (fun x => x.1 == g.alloc))).getLast?).map (·.alloc)
  let set (a : Nat) (f : Grant → Grant) : Option (List Grant) := some (l.map (fun g => if g.alloc = a then f g else g))
  match last (fun g => g.t4b != 0), last (fun g => g.t4a != 0), last (fun g => g.t3 != 0) with
  | some a, _, _ => set a (fun g => { g with t4b := trimTier least g.t4b })
  | none, some a, _ => set a (fun g => { g with t4a := trimTier least g.t4a })
  | none, none, some a => set a (fun g => { g with t3 := trimTier least g.t3 })
  | none, none, none => none

/-- Does a grant still ask for anything? -/
def liveGrant (g : Grant) : Bool := Grant.bytes g != 0 || g.poll

/-- May a burst be trimmed: it is the one that carries tiers 3 and 4? -/
def trimmable (b : Burst) : Bool := b.series.all (fun p => p.2 == 0)

/-- Fixed and tier 1 and 2 bytes in a burst. -/
def fixedIn (t : TermGrant) (b : Burst) : List (Nat × Nat) :=
  (t.grants.filterMap (fun g =>
    if b.parts.any (fun p => p.1 == g.alloc) then
      let k := match b.series with
        | some (a, k) => if a = g.alloc then k else 0
        | none => 0
      some (g.alloc, splitPart { g with t2 := 0 } k)
    else none)).filter (fun p => p.2 != 0)

/-- What construction carries: items placed, bytes trimmed, bursts left out, spacing misses. -/
structure Built where
  items : List Item
  trimmed : Nat := 0
  left : List (TermGrant × Burst) := []
  misses : List Nat := []

/-- An unpinned burst, or the first of a series: placed, trimmed a word at a time until it fits, or left out (R216). -/
def placeTrim (k : MapInputs) (c : Nat) (place : List Item → Item → Option Item) : Nat → Built → TermGrant → Burst → Built
  | 0, st, t, b => { st with left := st.left ++ [(t, b)] }
  | n + 1, st, t, b =>
    match (if st.items.length < 496 then place st.items (itemOf c t b) else none) with
    | some x => { st with items := insertItem x st.items }
    | none =>
      match (if trimmable b then trimGrants k.minGrant b t.grants else none) with
      | none => { st with left := st.left ++ [(t, b)] }
      | some gs =>
        let t' := { t with grants := gs.filter liveGrant }
        let cut := (t.grants.foldl (fun m g => m + Grant.bytes g) 0) - (t'.grants.foldl (fun m g => m + Grant.bytes g) 0)
        let st := { st with trimmed := st.trimmed + cut }
        match again t' b with
        | some b' => if t'.grants.isEmpty && !t'.ploamu then st else placeTrim k c place n st t' b'
        | none => st

/-- Enough trimming steps for a terminal's part. -/
def trimFuel (t : TermGrant) : Nat := (t.grants.foldl (fun m g => m + Grant.bytes g) 0) / 4 + 2

/-- LAT of an allocation, as latched. -/
def latIn (k : MapInputs) (a : Nat) : Nat := (k.allocs.find? (fun e => e.1 == a)).elim 0 (·.2.2)

/-- Its Alloc-ID. -/
def allocIdIn (k : MapInputs) (a : Nat) : Nat := (k.allocs.find? (fun e => e.1 == a)).elim 0 (·.2.1)

/-- Spacing of a series in units: LAT, or an equal part of the frame where the contract has none. Log entry 82 (DESIGN CHOICE). -/
def spacingOf (k : MapInputs) (c a n : Nat) : Int :=
  if latIn k a = 0 then frameUnits c / max 1 n else latIn k a * frameUnits c / 4

/-- The start of the burst just placed for a terminal and series. -/
def startOf (items : List Item) (t : Nat) (series : Option (Nat × Nat)) : Option Int :=
  (items.find? (fun x => x.term == some t && x.body.any (fun p => p.2.series == series))).map (·.start)

/-- One pinned series (R212); `last` is the start of the allocation's last burst in the map of the frame before. -/
def placeSeries (k : MapInputs) (c : Nat) (bf : Before) (last : Option Nat) (st : Built) (t : TermGrant) (bs : List Burst) (a : Nat) : Built :=
  let spacing := spacingOf k c a bs.length
  (bs.foldl (fun (acc : Built × Option Int) b =>
    let (st, prev) := acc
    let place (l : List Item) (x : Item) : Option Item := match prev with
      | none => placeFirst k c bf l x
      | some p => placePinned k c bf l x p spacing
    let st := placeTrim k c place (trimFuel t) st t b
    match startOf st.items t.term b.series with
    | none => (st, prev)
    | some q =>
      let from_ : Option Int := match prev with
        | some p => some p
        | none => last.map (fun p => (p : Int) - frameUnits c)
      let late := from_.any (fun p => decide (spacing < q - p)) && latIn k a != 0
      ({ st with misses := if late then st.misses ++ [a] else st.misses }, some q)) (st, none)).1

/-- The series of a solution: allocation, terminal, bursts in order, by LAT ascending (R212). -/
def seriesOf (k : MapInputs) (l : List TermGrant) : List (Nat × TermGrant × List Burst) :=
  let all := (l.map (fun t => (t.grants.filter (fun g => decide (1 < g.n))).map (fun g =>
    (g.alloc, t, (burstsOf t).filter (fun b => b.series.any (fun p => p.1 == g.alloc)))))).flatten
  all.orderBy (fun x y => decide (latIn k x.1 ≤ latIn k y.1))

/-- Unpinned bursts in the order of R211: rate groups cyclically from the last rate, short first, then terminal index. -/
def unpinned (last : Nat) (l : List TermGrant) : List (TermGrant × Burst) :=
  let key (t : TermGrant) : Nat := (t.rate + 5 - last) % 5 * 32768 + (if t.short then 0 else 16384) + t.term
  ((l.map (fun t => ((burstsOf t).filter (fun b => b.series.isNone)).map (fun b => (t, b)))).flatten).orderBy
    (fun x y => decide (key x.1 ≤ key y.1))

/-! ### Windows in a frame -/

/-- Windows that overlap the upstream frame of `g`. -/
def windowsIn (k : MapInputs) (g : Nat) : List Window :=
  (k.calendar.filter (fun w => windowIn k.teqd g w != 0)).orderBy (fun a b => decide (a.from_ ≤ b.from_))

/-- The part of a window that falls in the upstream frame of `g`. -/
def windowItem (k : MapInputs) (c g : Nat) (w : Window) : Item :=
  let a := (g * 125000 : Int) + k.teqd
  let st := unitsDown c (max 0 (w.from_ - a))
  { start := st, header := st, end_ := unitsUp c (min 125000 (w.to_ - a)), burst := false, rate := w.rate,
    kind := match w.kind with
      | .discovery => .discovery
      | .ranging _ => .ranging
      | .quiet => .quiet }

/-- The allocation structures of windows carried by frame `g`: the PLOAMu flag and the default profile (R204, R134). Log entry 79 (DESIGN CHOICE). -/
def windowStructs (k : MapInputs) (c g : Nat) : List BwStruct :=
  (k.calendar.filter (fun w => w.frame == g && w.kind != .quiet)).map (fun w =>
    { allocId := match w.kind with
        | .ranging t => ((k.onus.find? (fun e => e.1 == t)).map (·.2)).getD 0
        | _ => Config.discAllocId (c % 2) w.rate,
      ploamu := true, start := (stepUp (headerStep c) (unitsUp c w.start)).toNat, size := 0, profile := 0 })

/-! ### Maps (R204, R205, R215) -/

/-- The allocation structures of a placed burst. -/
def itemStructs (k : MapInputs) (c : Nat) (x : Item) : List BwStruct :=
  match x.body with
  | none => []
  | some (_, b) => (b.parts.zipIdx).map (fun p =>
      { allocId := allocIdIn k p.1.1, ploamu := b.ploamu && p.2 == 0, start := x.header.toNat,
        size := ceilDiv (4 + p.1.2) (Config.sizeStep (c % 2) + 1) * (Config.sizeStep (c % 2) + 1), profile := b2n x.short })

/-- The lane entry of an item; `next` is the start of what follows, and whether that is a window. Log entry 244 (DEDUCED). -/
def entryOf (k : MapInputs) (c : Nat) (prevTerm : Option Nat) (x : Item) (next : Int) (nextWindow : Bool) : LaneEntry :=
  let gap := next - x.end_
  { start := x.start.toNat, duration := (x.end_ - x.start).toNat, kind := x.kind, short := x.short, rate := x.rate, term := x.term,
    entry := x.body.elim 0 (·.1.entry),
    sleepAfter := x.burst && !nextWindow && k.sleepUp && decide (unitsUp c (max 96 k.sleepGap) ≤ gap),
    cont := x.burst && x.term.isSome && x.term == prevTerm }

/-- Lane entries of rising items; each frame boundary counts as a burst of length zero (R215). -/
def entriesOf (k : MapInputs) (c : Nat) : Option Nat → List Item → List LaneEntry
  | _, [] => []
  | p, [x] => [entryOf k c p x (frameUnits c) false]
  | p, x :: y :: xs => entryOf k c p x y.start (!y.burst) :: entriesOf k c (if x.burst then x.term else p) (y :: xs)

/-- Rate changes between consecutive bursts. -/
def switchesOf : List Item → Nat
  | [] => 0
  | [_] => 0
  | x :: y :: xs => (if x.rate = y.rate then 0 else 1) + switchesOf (y :: xs)

/-- Payload bytes placed in tier 3, 4a and 4b: they ride in the bursts that may be trimmed. -/
def tierBytes (items : List Item) : List Nat :=
  let gs := ((items.filterMap (·.body)).map (fun p => if trimmable p.2 then p.1.grants.filter (fun g => p.2.parts.any (fun e => e.1 == g.alloc))
    else [])).flatten
  [gs.foldl (fun n g => n + g.t3) 0, gs.foldl (fun n g => n + g.t4a) 0, gs.foldl (fun n g => n + g.t4b) 0]

/-- The start of each allocation's last burst among rising items. -/
def lastStarts (bursts : List Item) : List (Nat × Nat) :=
  bursts.foldl (fun l x => (x.body.elim [] (·.2.parts)).foldl (fun l p => (p.1, x.start.toNat) :: l.filter (fun e => e.1 != p.1)) l) []

/-- A map from items. Log entry 89 (DESIGN CHOICE). -/
def mapOf (k : MapInputs) (c g : Nat) (fallback : Bool) (last : Nat) (lastTerm : Option Nat) (items : List Item) : GrantMap :=
  let bursts := items.filter (·.burst)
  let structs := ((bursts.map (itemStructs k c)).flatten ++ windowStructs k c g).orderBy (fun a b => decide (a.start ≤ b.start))
  let lane := entriesOf k c lastTerm items
  { frame := g, fallback := fallback, structs := structs, lane := lane,
    lastRate := (bursts.getLast?).elim last (·.rate), lastTerm := (bursts.getLast?).bind (·.term), switches := switchesOf bursts,
    granted := ((bursts.filterMap (·.body)).map (fun p => p.2.parts)).flatten,
    tiers := if fallback then [] else tierBytes items, pins := lastStarts bursts }

/-- A placed burst cut down to its fixed grants, at the same position; none where it has none (R207). -/
def fixedItem (c : Nat) (x : Item) : Option Item :=
  match x.body with
  | none => none
  | some (t, b) =>
    let parts := fixedIn t b
    if parts.isEmpty then none
    else
      let b' : Burst := { b with parts := parts, ploamu := false }
      some { x with end_ := x.header + codedBytes t.rate (Burst.info b') * byteUnits c t.rate, body := some (t, b') }

/-- The fallback map for the frame after `g` (R207). -/
def fallbackOf (k : MapInputs) (c g : Nat) (m : GrantMap) (items : List Item) : GrantMap :=
  let windows := (windowsIn k (g + 1)).map (windowItem k c (g + 1))
  let clear (x : Item) : Bool := windows.all (fun w => decide (x.end_ + x.slack ≤ w.start) || decide (w.end_ ≤ x.start - x.guard_ - x.slack))
  let fixed := (items.filterMap (fixedItem c)).filter clear
  mapOf k c (g + 1) true m.lastRate m.lastTerm (windows.foldl (fun l w => insertItem w l) fixed)

/-- The map of the frame before `g`, built or fallback: the one sent in it, or chosen for it and not yet sent (R211, R212, R215). -/
def mapBefore (m : ChanMaps) (g : Nat) : Option GrantMap :=
  if m.sent.frame + 1 = g then some m.sent else m.chosen.filter (fun x => x.frame + 1 == g)

/-- What its last burst leaves at the start of the frame. -/
def beforeFrame (c : Nat) (p : Option GrantMap) : Before :=
  match p with
  | none => {}
  | some p => match (p.lane.filter (fun e => e.kind == .burst)).getLast? with
    | none => { rate := some p.lastRate }
    | some e => { start := some ((e.start : Int) - frameUnits c), rate := some e.rate, term := e.term }

/-- Everything placed for a solution after the map of the frame before; `rate` is LAST_RATE. -/
def build (c : Nat) (sol : Solution) (p : Option GrantMap) (rate : Nat) : Built :=
  let k := sol.inputs
  let bf := beforeFrame c p
  let last (a : Nat) : Option Nat := p.bind (fun p => (p.pins.find? (fun e => e.1 == a)).map (·.2))
  let st : Built := { items := (windowsIn k sol.frame).map (windowItem k c sol.frame) }
  let st := (seriesOf k sol.terms).foldl (fun st x => placeSeries k c bf (last x.1) st x.2.1 x.2.2 x.1) st
  (unpinned rate sol.terms).foldl (fun st x => placeTrim k c (placeFirst k c bf) (trimFuel x.1) st x.1 x.2) st

/-- A burst left out: its fixed bytes are lost, and DBA_OVERCOMMIT when it held tier 1 or 2 (R216). -/
def State.leaveOut (s : State) (c : Nat) (p : TermGrant × Burst) : State :=
  let s := (fixedIn p.1 p.2).foldl (fun s e => s.bump .DBA_FIXED_LOST e.1 e.2) s
  let due := p.2.ploamu || p.1.grants.any (fun g => g.fixed + g.t2 != 0 && p.2.parts.any (fun e => e.1 == g.alloc))
  if due then s.overcommit c 2 else s

/-- Occurrences noted for a kind's data without a record. -/
def State.noteTimes (s : State) (k : EvKind) (inst n : Nat) : State :=
  let key := rateKey k inst
  let r := s.ev.rate.get key
  let times := List.replicate n s.up ++ r.times.filter (fun t => decide (s.up - t < second))
  { s with ev.rate := s.ev.rate.set key { r with times := times } }

/-- Bytes trimmed counted, and GM_TRIM at most once per second per channel. -/
def State.trimmed (s : State) (c n : Nat) : State :=
  if n = 0 then s
  else
    let s := (s.bump .GM_TRIMMED_BYTES c n).noteTimes .GM_TRIM c (n / 4 - 1)
    s.raiseSec .GM_TRIM c (srcChan c 16) (regionOfChan c) (fun k => evData [(6, c)] (4 * k))

/-- SOLVER_OUTPUT_POSTED: the constructor places a channel's bursts and builds its map and the fallback for the next frame (R203), from what was
latched at the cut-off alone (R217). -/
def execSolverOutputPosted (c : Fin 64) (s : State) : Res :=
  .next <|
    let c := c.val
    let v := s.chan c
    match v.maps.solution with
    | none => s
    | some sol =>
      let s := s.setChan c { v with maps.solution := none }
      if outOfRole s (blockAddr regM (44 + c / 32)) then s
      else
        let p := mapBefore v.maps sol.frame
        let rate := (p.getD v.maps.sent).lastRate
        let b := build c sol p rate
        let m := mapOf sol.inputs c sol.frame false rate (p.bind (·.lastTerm)) b.items
        let f := fallbackOf sol.inputs c sol.frame m b.items
        let s := b.left.foldl (fun s p => s.leaveOut c p) s
        let s := b.misses.foldl (fun s a => s.latencyMiss a 6) s
        let s := s.trimmed c b.trimmed
        s.setChan c { s.chan c with maps.posted := some ⟨m, f⟩ }

/-! ### The map copy (Tables 8.1 to 8.3) -/

def kindCode : LaneKind → Nat
  | .burst => 0 | .discovery => 1 | .ranging => 2 | .quiet => 3

/-- An allocation structure, in the 8 bytes of the channel's standard. -/
def structBytes (c : Nat) (x : BwStruct) : List Byte :=
  leBytes 8 (Config.allocStructure (c % 2) [x.allocId, b2n x.dbru, b2n x.ploamu, x.start, x.size, x.profile])

/-- The two words of a lane entry. -/
def laneWords (e : LaneEntry) : List Nat :=
  [e.start % 2 ^ 20 * 2 ^ 12 + kindCode e.kind * 2 ^ 10 + b2n e.short * 2 ^ 9 + b2n e.sleepAfter * 2 ^ 8 + e.rate % 8 * 2 ^ 5,
   e.duration % 2 ^ 20 * 2 ^ 12 + e.entry % 2 ^ 11 * 2 + b2n e.cont]

/-- LAST_ENTRY: the burst memory entry of the map's last burst. -/
def lastEntry (m : GrantMap) : Nat := ((m.lane.filter (fun e => e.kind == .burst)).getLast?).elim 0 (·.entry)

/-- Words 0 to 30 of the header. -/
def headerWords (m : GrantMap) : List Nat :=
  [m.frame % 2 ^ 32, m.structs.length % 2 ^ 10 * 2 ^ 22 + m.lane.length % 2 ^ 9 * 2 ^ 13 + b2n m.fallback * 2 ^ 12,
   m.lastRate % 8 * 2 ^ 29 + lastEntry m % 2 ^ 11 * 2 ^ 18 + b2n m.lastTerm.isSome * 2 ^ 17 + m.switches % 2 ^ 9 * 2 ^ 8] ++ List.replicate 28 0

/-- Words as bytes, the least significant first. Log entry 90 (DESIGN CHOICE). -/
def wordBytes (l : List Nat) : List Byte := (l.map (leBytes 4)).flatten

/-- Bytes filled up with zeros. -/
def padTo (n : Nat) (l : List Byte) : List Byte := l.take n ++ List.replicate (n - l.length) 0

/-- Bytes 0 to 123, and 128 to 8,191, of a map copy: what the CRC word covers besides itself. -/
def copyHead (m : GrantMap) : List Byte := wordBytes (headerWords m)
def copyBody (c : Nat) (m : GrantMap) : List Byte :=
  padTo 4096 ((m.structs.map (structBytes c)).flatten) ++ padTo 3968 (wordBytes ((m.lane.map laneWords).flatten))

/-- CRC-32 with the IEEE 802.3 polynomial over a copy whose CRC word is 0. -/
def copyCrc (head body : List Byte) : Nat := crcIeee (head ++ List.replicate 4 0 ++ body)

/-- The 8,192 bytes of a map copy (R204). -/
def copyBytes (c : Nat) (m : GrantMap) : List Byte := copyHead m ++ leBytes 4 (copyCrc (copyHead m) (copyBody c m)) ++ copyBody c m

/-- Bits of a byte string inverted: pairs of a byte's place and what is added to it. -/
def spoil (l : List (Nat × Byte)) (bs : List Byte) : List Byte :=
  bs.zipIdx.map (fun b => l.foldl (fun v e => if e.1 = b.2 then v ^^^ e.2 else v) b.1)

/-- Is a copy's CRC good when it arrives with those bytes changed? -/
def copyGood (c : Nat) (m : GrantMap) (errors : List (Nat × Byte)) : Bool :=
  let from_ (n : Nat) : List (Nat × Byte) := (errors.filter (fun e => decide (n ≤ e.1))).map (fun e => (e.1 - n, e.2))
  let crc := leNat (spoil (from_ 124) (leBytes 4 (copyCrc (copyHead m) (copyBody c m))))
  errors.isEmpty || copyCrc (spoil errors (copyHead m)) (spoil (from_ 128) (copyBody c m)) == crc

/-- Keystream for the payload that a map grants one terminal, under the index last put in force, where it is encrypted (R341). -/
def State.keystreamFor (s : State) (c : Nat) (m : GrantMap) (t : Nat) : State :=
  let index := (s.pair (termPair t)).inForce
  let v := s.slot (pairSlot (termPair t) index)
  match v.cur with
  | none => s
  | some key =>
    if index = 0 || !usable v then s
    else
      let parts := m.granted.filter (fun p => (s.alloc p.1).term == t)
      let (job, s) := s.addJob (regionOfChan c) 0 (some key) (parts.foldl (fun n p => n + aesBlocks p.2) 0) none
      s.setLine t { s.line t with ks := (s.line t).ks ++ [⟨m.frame, index, key, job⟩] }

/-- Keystream for every terminal that a map has a burst of. -/
def State.keystreams (s : State) (c : Nat) (m : GrantMap) : State :=
  ((m.lane.filterMap (·.term)).eraseDups).foldl (fun s t => s.keystreamFor c m t) s

/-- MAP_DELIVERY: a map copy whole in the tree region, with the bytes that `errors` changes on the way. What arrives for a frame past its deadline is
discarded; the fallback for a frame still to come is kept (R206, R207). Log entry 84 (DESIGN CHOICE). Log entry 268 (DESIGN CHOICE). Log entry 269 (DESIGN CHOICE). -/
def execMapDelivery (c : Fin 64) (errors : List (Nat × Byte)) (s : State) : Res :=
  .next <|
    let c := c.val
    let v := s.chan c
    match v.maps.posted with
    | none => s
    | some m =>
      let s := s.setRo .GM_BUILD_TIME c (max (s.ro .GM_BUILD_TIME c) (s.up - v.maps.cutoffAt))
      let s := s.setChan c { v with maps.posted := none, maps.fallbacks := v.maps.fallbacks ++ [m.fallback] }
      if m.map.frame ≤ v.maps.deadline then s
      else (s.setChan c { s.chan c with maps.built := some (m.map, copyGood c m.map errors) }).keystreams c m.map

/-! ### The framing deadline (R207, R190) -/

/-- Bytes granted to an allocation in a map. -/
def mapBytes (m : GrantMap) (n : Nat) : Nat := (m.granted.filter (fun p => p.1 == n)).foldl (fun b p => b + p.2) 0

/-- Granted bytes taken from the oldest stamps first (R182). -/
def takeStamps : Nat → List Stamp → List Stamp
  | _, [] => []
  | n, x :: xs => if x.bytes ≤ n then takeStamps (n - x.bytes) xs else { x with bytes := x.bytes - n } :: xs

/-- One allocation after a frame's map is fixed: history, stamps, last grant, and the ledger with G - E (R177, R182, R190, R199). Log entry 87 (DESIGN CHOICE). Log entry 88 (DESIGN CHOICE). -/
def State.chargeAlloc (s : State) (c g : Nat) (m : GrantMap) (entitled : List (Nat × Int)) (n : Nat) : State :=
  let a := s.alloc n
  let bytes := mapBytes m n
  let seen := m.granted.any (fun p => p.1 == n)
  let b := boundOf a.contract
  let raw := match entitled.find? (fun p => p.1 == n) with
    | some (_, e) => if b = 0 then 0 else a.ledger + bytes - e
    | none => a.ledger
  let ledger := clampLedger a.contract raw
  let s := s.setAlloc n { a with history := ((g, bytes) :: a.history).take 16, stamps := takeStamps bytes a.stamps, ledger := ledger,
                                 lastGrant := if seen then some g else a.lastGrant,
                                 copied := if g % 64 = 0 then ledger else a.copied }
  let s := if bytes = 0 then s else s.bump .DBA_GRANTED n bytes
  let s := if raw = ledger then s
    else ({ s with dba.clamps := s.dba.clamps + 1 }).raise .DBA_LEDGER_CLAMP (srcChan c 14) (regionOfChan c)
      (evData [(15, n)] (if raw < 0 then 1 else 0))
  let a := s.alloc n
  if b < 16 * (a.ledger - a.mirrored).natAbs || a.mirroredAt + 64 ≤ g then
    (s.setAlloc n { a with mirrored := a.ledger, mirroredAt := g }).mirror (c / 2) n (.ledger a.ledger a.acc a.demand a.stamps)
  else s

/-- Which map frame `g` carries on a channel, with the events and counts of R207. Log entry 85 (DESIGN CHOICE). -/
def State.chooseMap (s : State) (c g : Nat) : State :=
  let m := (s.chan c).maps
  let keep := m.fallbacks.filter (fun f => decide (g < f.frame))
  let pick (s : State) (x : GrantMap) : State :=
    s.setChan c { s.chan c with maps.chosen := some x, maps.built := none, maps.fallbacks := keep, maps.deadline := g }
  let cause : Nat := match m.built with
    | none => 1
    | some (x, good) => if !good then 2 else if x.frame != g then 3 else 0
  match cause, m.built, m.fallbacks.find? (fun f => f.frame == g) with
  | 0, some (x, _), _ => pick s x
  | _, _, some f =>
    ((pick s f).bumpF .GM_MISSED c 31 16).raise .GM_LATE (srcChan c 16) (regionOfChan c) (evData [(6, c)] cause)
  | _, _, none =>
    ((pick s { frame := g, lastRate := m.sent.lastRate, empty := true }).bumpF .GM_MISSED c 15 0).raise .GM_EMPTY (srcChan c 16) (regionOfChan c)
      (evData [(6, c)] (g % 65536))

/-- Messages of frame `g`: urgent first, then normal, up to DS_PLOAM_MAX, or PROT_POPUP_PER_FRAME while POPUPs of a take wait (R99, R395); of a dark channel's wake run, urgent and broadcast ones only (R118). -/
def State.takePloam (s : State) (c : Nat) : State :=
  let s := s.returnTaken c
  let v := s.chan c
  let limit := if v.urgent.any (fun m => m.kind == .popup) then s.getN .PROT_POPUP_PER_FRAME else s.getN .DS_PLOAM_MAX c
  let u := v.urgent.take limit
  let due := if s.power.dark.get c then v.normal.filter (fun m => m.term.isNone) else v.normal
  let n := due.take (limit - u.length)
  s.setChan c { v with taken := u.map (fun m => (true, m)) ++ n.map (fun m => (false, m)), urgent := v.urgent.drop u.length, normal := n.foldl (fun l m => l.erase m) v.normal }

/-- Will a frame of a channel be sent at the next frame start: it is enabled by then, its transmitter is not held, and it is neither dark
outside a wake run nor before the first frame of a take (R395)? -/
def sendsNext (s : State) (c g : Nat) : Bool :=
  let k := s.token (c / 2)
  let started := k.takenAt.all (fun t => decide (t + max 30000 (s.getN .PROT_TX_WAKE * 1000) ≤ s.pon.tl.startAt + 125000))
  let s' := s.setToken (c / 2) { k with takenAt := none }
  started && (sends s' c || ((s.chan c).enableAt.any (fun n => decide (n ≤ g)) && k.release == .none && k.held && !k.fenced))

/-- One channel's deadline. While its framer is being recovered it sends filler frames, and its allocations are charged nothing (R488). -/
def State.deadlineOf (s : State) (g c : Nat) : State :=
  if recovering s c then
    let v := s.chan c
    s.setChan c { v with maps.chosen := none, maps.built := none, maps.deadline := g,
                         maps.fallbacks := v.maps.fallbacks.filter (fun f => decide (g < f.frame)) }
  else
    let entitled := (s.chan c).maps.entitled
    let s := s.chooseMap c g
    let m := ((s.chan c).maps.chosen).getD {}
    let s := (s.dba.allocs.keys (fun _ a => a.valid && a.chan == c)).foldl (fun s n => s.chargeAlloc c g m entitled n) s
    let s := s.setChan c { s.chan c with maps.entitled := [] }
    s.takePloam c

/-- FRAMING_DEADLINE: at t_g - 8 µs every framer that will send frame g decides its map and takes its messages. -/
def execFramingDeadline (s : State) : Res :=
  .next <|
    match s.pon.tl.next with
    | none => s
    | some g => ((List.range 64).filter (fun c => sendsNext s c g)).foldl (fun s c => s.deadlineOf g c) s

/-! ### Commands (R218) -/

/-- GM_READ: the map copy last sent on a tree channel. -/
def execGmRead (mb : Fin 16) (c : Nat) (s : State) : Res :=
  hostCmd s mb 0x0740 fun _ s =>
    if 64 ≤ c then fail s .badArg else okay s ((copyBytes c (s.chan c).maps.sent).map (fun b => (b.toNat : Int)))

def winCode : WinKind → Nat
  | .discovery => 1 | .ranging _ => 2 | .quiet => 3

/-- GM_CALENDAR_READ: booked windows: kind, carrying frame, StartTime, interval in ns from t_g. -/
def execGmCalendarRead (mb : Fin 16) (c : Nat) (s : State) : Res :=
  hostCmd s mb 0x0741 fun _ s =>
    if 64 ≤ c then fail s .badArg
    else okay s (((s.chan c).maps.calendar.map (fun w =>
      [(winCode w.kind : Int), w.frame, w.start, w.from_ - w.frame * 125000, w.to_ - w.frame * 125000])).flatten)

end Sys2Proof.Machine
end

