-- ==== Sys2Proof/Machine/Framing.lean ====
section
/-! DEFINITION. Downstream framing, the frame timeline, references and the channel commands (spec/04; spec/21 R538). -/
namespace Sys2Proof.Machine

/-! ### Channels starting and stopping (R92, R117) -/

/-- A channel's mirror record (Table 15.4). -/
def State.mirrorChannel (s : State) (c : Nat) : State :=
  s.mirror (c / 2) c (.channel (s.chan c).enabled (s.getF .RANGE_TEQD c).toNat (s.get .PROT_FEEDER_DELTA (c / 2)))

/-- What a channel leaves behind when it stops: nothing queued, no window, no map. -/
def stoppedChan (v : ChanState) : ChanState :=
  { v with enabled := false, enableAt := none, firstFrame := false, stop := .no, urgent := [], normal := [], held := [], taken := [],
           framer := {}, maps := { sent := v.maps.sent, cut := v.maps.cut, lastTimes := v.maps.lastTimes } }

/-- A channel stops (R117): its terminals are deactivated with reason 1 and no message, its queues discarded, its commands answered. Log entry 37 (DESIGN CHOICE). Log entry 38 (DESIGN CHOICE). -/
def State.stopChannel (s : State) (c : Nat) : State :=
  let s := s.cancelEnable c
  let s := s.dropSdus c (fun _ => true)
  let s := s.setChan c (stoppedChan (s.chan c))
  let s := s.setLn (rxLane c) { s.ln (rxLane c) with plan := [], nextEntry := none, current := none, sleepDue := false }
  let s := { s with power.dark := s.power.dark.set c false, power.darkDue := s.power.darkDue.set c none,
                    lanes.wakeRun := s.lanes.wakeRun.set c false, lanes.keepAwake := s.lanes.keepAwake.set c false }
  let s := (termsOf s c isActive).foldl (fun s t => (s.setTerm t { s.term t with deact := some 1 }).finishDeact t) s
  let s := (termsOf s c (fun _ => true)).foldl (fun s t => s.respondAll (.ploamSent t) .ok 0 (termFields (s.term t))) s
  let s := s.abandonSwitch (bcastPair c)
  let s := (s.mirrorChannel c).applyLaneControls (c / 2)
  (s.sleepLane (txLane c)).sleepLane (rxLane c)

/-- CHANNEL_STOP: after the current frame, or the frame of the third Deactivate_ONU-ID. -/
def execChannelStop (c : Fin 64) (s : State) : Res :=
  .next <|
    match (s.chan c).stop with
    | .no => s
    | .forced (_ + 1) => s
    | _ => ((s.stopChannel c).respondAll (.channelStop c) .ok 0 [c.val]).endTimeline

/-- The first frame start at least 250 µs from now, establishing the timeline where no channel is enabled (R92). -/
def State.firstStart (s : State) : Nat × State :=
  match s.pon.tl.next with
  | some n => (n - 1 + ceilDiv (s.up + 250000 - s.pon.tl.startAt) 125000, s)
  | none =>
    let t := ceilDiv (s.now + 250000) 125000 * 125000
    let g := t / 125000 % 2 ^ 51
    (g, { s with pon.tl := { s.pon.tl with next := some g, startAt := s.up + (t - s.now) - 125000, misRun := 0, misRaised := false } })

/-- Parameters of a channel that take effect at its enable (R57, R117, R392). -/
def State.enforceChannel (s : State) (c : Nat) : State :=
  ((((s.enforce .RANGE_TEQD c).enforce .PROT_FEEDER_DELTA (c / 2)).enforce .TX_POLARITY c).enforce .RX_POLARITY c)

/-- CHANNEL_ENABLE: framing starts on a tree channel (R117, R99, R60, R532, R549). Log entry 33 (DESIGN CHOICE). Log entry 34 (DESIGN CHOICE). -/
def execChannelEnable (mb : Fin 16) (c : Nat) (s : State) : Res :=
  hostCmd s mb 0x0401 fun _ s =>
    if 64 ≤ c then fail s .badArg
    else if (s.chan c).enabled then okay s [c]
    else if channelUnderTest s c then fail s .busy
    else if !s.power.ponCalibrated then fail s .notReady
    else if (!s.clk.ref0 && !s.clk.ref1) || (s.ln (txLane c)).failed then fail s .faulted
    else
      let s := s.enforceChannel c
      let s := s.setRo .DBA_LOOP_FLOOR c (loopFloor s c / 1000)
      let (g, s) := s.firstStart
      let s := s.setChan c { s.chan c with enableAt := some g }
      let s := (termsOf s c (fun v => v.state == .disabled)).foldl (fun s t => s.queuePloam c true { kind := .disableSn false, term := some t }) s
      (s, .wait (.chanFirst c) true)

/-- CHANNEL_DISABLE: after the current frame; with terminals in operation only with FORCE, after three broadcast Deactivate_ONU-ID; where no
frames are sent there is none to send. Log entry 35 (DESIGN CHOICE). -/
def execChannelDisable (mb : Fin 16) (c : Nat) (s : State) : Res :=
  hostCmd s mb 0x0402 fun cmd s =>
    let v := s.chan c
    if 64 ≤ c then fail s .badArg
    else if !v.enabled then okay s [c]
    else if cmd.flags.testBit 0 && sends s c then
      let s := (s.setChan c { v with stop := .forced 3 }).queuePloam c true { kind := .deactivate 1, term := none }
      (s, .wait (.channelStop c) true)
    else if !cmd.flags.testBit 0 && !(termsOf s c (fun t => t.state == .operation)).isEmpty then fail s .busy
    else (s.setChan c { v with stop := .afterFrame }, .wait (.channelStop c) true)

/-- TIME_READ: device time, state, e at the last edge, superframe count and FRAME_ALIGN_ERR, latched together. -/
def execTimeRead (mb : Fin 16) (s : State) : Res :=
  hostCmd s mb 0x0410 fun _ s =>
    okay s [(s.now : Int), todCode s.pon.tod.state, s.ro .TOD_PHASE_ERR, s.pon.tl.sfc, s.pon.tl.alignErr]

/-! ### References (R95, R96, R532) -/

/-- Every channel stops, its transmit lane with it (R95). Log entry 36 (DEDUCED). -/
def State.stopAll (s : State) : State :=
  ((liveChannels s).foldl (fun s c => (s.stopChannel c).respondAll (.channelStop c) .ok 0 [c]) s).endTimeline

/-- A PON reference marked present or not. -/
def State.setRef (s : State) (second present : Bool) : State :=
  if second then { s with clk.ref1 := present } else { s with clk.ref0 := present }

/-- PON_REF_LOSS: the device changes to the other reference, or with both lost stops every channel. -/
def execPonRefLoss (ref : Fin 2) (s : State) : Res :=
  .next <|
    let second := ref.val == 1
    let other := if second then s.clk.ref0 else s.clk.ref1
    let here := if second then s.clk.ref1 else s.clk.ref0
    if !here then s
    else
      let s := s.setRef second false
      if s.clk.selected != second then s
      else if other then
        ({ s with clk.selected := !second }).raise .REF_SWITCH (srcChip 19) regC (evData [] (b2n (!second)))
      else s.stopAll.raise .REF_LOSS (srcChip 19) regC (evData [] (if s.clk.eth then 1 else 2))

/-- ETH_REF_LOSS: with both PON references lost too, device time runs from the free oscillator and REF_LOSS is raised again. -/
def execEthRefLoss (s : State) : Res :=
  .next <|
    if !s.clk.eth then s
    else
      let s := { s with clk.eth := false }
      if !s.clk.ref0 && !s.clk.ref1 then s.raise .REF_LOSS (srcChip 19) regC (evData [] 2) else s

/-- REF_RETURN: references 0 and 1 are the PON ones, 2 the Ethernet one. A PON reference that returns when none was present is selected, and
deferred lane calibration runs; no channel restarts. -/
def execRefReturn (ref : Fin 3) (s : State) : Res :=
  .next <|
    if ref.val = 2 then { s with clk.eth := true }
    else
      let second := ref.val == 1
      let none_ := !s.clk.ref0 && !s.clk.ref1
      let s := s.setRef second true
      if !none_ then s
      else
        let changed := s.clk.selected != second
        let s := { s with clk.selected := second, power.ponCalibrated := s.power.ponCalibrated || s.power.calDeferred, power.calDeferred := false }
        if changed then s.raise .REF_SWITCH (srcChip 19) regC (evData [] (b2n second)) else s

/-! ### Frame start (R91, R93, R97 to R99, R108, R116, R118) -/

/-- A value reduced modulo `m` to the signed value nearest zero. -/
def nearestZero (v : Int) (m : Nat) : Int :=
  let r := v % m
  if (m : Int) < 2 * r then r - m else r

/-- FRAME_ALIGN_ERR, and FRAME_MISALIGNED once after 8,000 frames beyond 1 µs (R93). Log entry 250 (DESIGN CHOICE). -/
def State.alignTest (s : State) (g : Nat) : State :=
  let e := nearestZero ((s.now : Int) - g * 125000) (2 ^ 51 * 125000)
  let t := s.pon.tl
  let n := if 1000 < e.natAbs then t.misRun + 1 else 0
  let due := decide (8000 ≤ n) && !t.misRaised
  let s := ({ s with pon.tl := { t with alignErr := e, misRun := n, misRaised := t.misRaised || due } }).setRo .FRAME_ALIGN_ERR 0 e
  if due then s.raise .FRAME_MISALIGNED (srcChip 18) regC (evSigned 32 e) else s

/-- A channel being enabled starts with frame `g`. -/
def State.startChannel (s : State) (g c : Nat) : State :=
  let v := s.chan c
  if v.enableAt.any (fun k => decide (k ≤ g)) then
    let was := treeEnabled s (c / 2)
    let s := s.setChan c { v with enabled := true, enableAt := none, firstFrame := true }
    let s := ((s.wakeLane (txLane c)).wakeLane (rxLane c)).mirrorChannel c
    let s := if c % 2 = 0 then s.brst (c / 2) else s
    if was then s.applyLaneControls (c / 2) else s.openLosWindow (c / 2)
  else if v.firstFrame then (s.setChan c { v with firstFrame := false }).respondAll (.chanFirst c) .ok 0 [c]
  else s

/-- A change of a channel's dark state due at a frame start; a terminal acquired on a dark channel and now in OPERATION ends it too (R538). -/
def State.darkStart (s : State) (c : Nat) : State :=
  let up := s.power.dark.get c && !(termsOf s c (fun v => v.state == .operation)).isEmpty
  let due : Option (Bool × Nat) := (s.power.darkDue.get c) <|> (if up then some (false, 3) else none)
  let s := { s with power.darkDue := s.power.darkDue.set c none }
  match due with
  | none => s
  | some (dark, cause) =>
    if !(s.chan c).enabled || s.power.dark.get c == dark then s
    else
      let s := { s with power.dark := s.power.dark.set c dark, lanes.keepAwake := s.lanes.keepAwake.set c false,
                        lanes.wakeRun := s.lanes.wakeRun.set c false }
      let s := if dark then (s.sleepLane (txLane c)).sleepLane (rxLane c) else (s.wakeLane (txLane c)).wakeLane (rxLane c)
      s.raise .POWER_STATE_CHANGE (srcChip 24) regC (evData [(8, b2n dark), (8, c)] cause)

/-- Messages that firmware held are queued again while there is room (R99). -/
def State.retryHeld (s : State) (c : Nat) : State :=
  let v := s.chan c
  let u := (v.held.filter (·.1)).take (ploamDepth - v.urgent.length)
  let n := (v.held.filter (fun h => !h.1)).take (ploamDepth - v.normal.length)
  let rest := n.foldl (fun l m => l.erase m) (u.foldl (fun l m => l.erase m) v.held)
  s.setChan c { v with urgent := v.urgent ++ u.map (·.2), normal := v.normal ++ n.map (·.2), held := rest }

/-- A message as it leaves in frame `g`: the first copy of a key switch announcement names S from here (R108). -/
def asSent (s : State) (c g : Nat) (m : PloamMsg) : PloamMsg :=
  match m.kind with
  | .keyAnnounce p i n none => sealPloam s { m with kind := .keyAnnounce p i n (some ((g + s.getN .KEY_SWITCH_LEAD c) % 2 ^ 51)) }
  | _ => m

/-- Switches whose superframe has begun: the new index is in force (R108 step 4), announced with KEY_SWITCHED by the device that serves the
tree. -/
def State.switchKeys (s : State) (g : Nat) : State :=
  (s.cipher.pairs.keys (fun _ p => p.pending.any (fun w => w.s.any (fun x => decide (x ≤ g))))).foldl (fun s p =>
    match (s.pair p).pending with
    | none => s
    | some w =>
      if runs s (pairChan s p / 2) then s.switchKey p w.index (w.s.getD g)
      else s.setPair p { s.pair p with inForce := w.index, pending := none, lastSwitch := s.up }) s

/-- The 96 bits of a stamp (R116, R119). -/
def stampValue (s : State) (c g : Nat) : Nat :=
  let t := (s.now + s.getN .TOD_TX_DELAY c / 10) % 2 ^ 42
  g * 2 ^ 45 + todCode s.pon.tod.state * 2 ^ 43 + b2n (s.pon.tod.state != .free) * 2 ^ 42 + t

/-- Payload bytes granted by tier and structures used, of a map's frame (Table 20.5). -/
def State.grantTelemetry (s : State) (c : Nat) : State :=
  let v := (s.chan c).maps
  let t := v.sent.tiers
  s.produce 3 c [v.sent.granted.foldl (fun n p => n + p.2) 0 - t.foldl (· + ·) 0, t.getD 0 0, t.getD 1 0, t.getD 2 0, v.sent.structs.length]

/-- Rate of a receive lane under an empty map: that of the first window booked into the upstream frame, else its channel's lowest (R207). Log entry 245 (DESIGN CHOICE). -/
def emptyRate (s : State) (c g : Nat) : Nat := (((s.chan c).maps.calendar.find? (fun w => windowIn (teqdNs s c) g w != 0)).map (·.rate)).getD (if c % 2 = 0 then 2 else 0)

/-- What a map gives its receive lane to do (R205, R207). -/
def planOf (s : State) (c : Nat) (m : GrantMap) : List PlanEntry :=
  if m.empty then [⟨m.frame, none, emptyRate s c m.frame⟩] else m.lane.map (fun e => ⟨m.frame, some e, e.rate⟩)

/-- The profile set that every frame of a dark channel's wake run carries besides its other messages (R131). Log entry 261 (DESIGN CHOICE). -/
def wakeSet (s : State) (c : Nat) : List PloamMsg :=
  if s.power.dark.get c && s.lanes.wakeRun.get c then (profileSet s c).map (sealPloam s) else []

/-- One channel's frame: PSBd, BWmap and messages leave, and what the messages bring about happens; the map's lane entries wait for the
upstream frame. A filler frame has no structures and no messages (R488). -/
def State.sendFrame (s : State) (g c : Nat) : State :=
  let v := s.chan c
  let dark := s.power.dark.get c && !s.lanes.keepAwake.get c
  let s := if v.maps.chosen.isNone then s.returnTaken c else s
  let m : GrantMap := v.maps.chosen.getD { frame := g }
  let msgs := (s.chan c).taken.map (fun p => asSent s c g p.2) ++ (if v.maps.chosen.isNone then [] else wakeSet s c)
  let s := s.setChan c { s.chan c with taken := [], maps.chosen := none, maps.sent := m, framer.space := payloadSpace c m.structs.length msgs.length,
                                       framer.idleOnly := v.maps.chosen.isNone || dark }
  let s := s.setLn (rxLane c) { s.ln (rxLane c) with plan := (s.ln (rxLane c)).plan ++ planOf s c m }
  let s := s.emit (.dsFrame c g (dsPhy c g) m.structs msgs)
  let s := (s.setRo .GM_STRUCTS_USED c (m.structs.length * 65536 + m.lane.length : Nat)).setRo .GM_SWITCHES c m.switches
  let s := msgs.foldl (fun s x => s.ploamSent c g x) s
  s.grantTelemetry c

/-- TERM_STATE_COUNT and PLOAM_QUEUE_FILL posted. -/
def State.postChannel (s : State) (c : Nat) : State :=
  let n (p : Terminal → Bool) : Nat := (termsOf s c p).length
  let op := n (fun v => v.state == .operation)
  let lost := n (fun v => v.state == .lost)
  let s := s.setRo .TERM_STATE_COUNT c (op * 2 ^ 22 + lost * 2 ^ 12 + (n (fun _ => true) - op - lost) : Nat)
  s.setRo .PLOAM_QUEUE_FILL c ((s.chan c).urgent.length * 256 + (s.chan c).normal.length : Nat)

/-- One channel at a frame start. -/
def State.frameOf (s : State) (g c : Nat) : State :=
  let s := (s.startChannel g c).darkStart c
  let s := s.setChan c { s.chan c with toPair := [] }
  if (s.chan c).enabled then
    let s := s.retryHeld c
    let s := if g % s.getN .TOD_STAMP_INTERVAL = 0 then s.setRo .TOD_STAMP c (stampValue s c g) else s
    let s := (s.enforce .BRST_OFFSET (c / 2)).enforce .BRST_WIDTH (c / 2)
    let s := if sends s c then (s.sendFrame g c).driveLane c
      else (s.returnTaken c).setChan c { (s.returnTaken c).chan c with maps.chosen := none, framer.space := 0, framer.idleOnly := true }
    ((s.postChannel c).postAsleep (txLane c)).postAsleep (rxLane c)
  else s

/-- Trees whose first frame after a take is this one (R395). -/
def State.firstFrames (s : State) : State :=
  (s.prot.tokens.keys (fun _ k => k.takenAt.any (fun t => decide (t + max 30000 (s.getN .PROT_TX_WAKE * 1000) ≤ s.up)))).foldl
    (fun s t => s.setToken t { s.token t with takenAt := none }) s

/-- Lane blocks that have restarted resume control of their pulses (R65). -/
def State.releasePulses (s : State) : State :=
  (s.lanes.optics.keys (fun _ o => o.heldLow)).foldl (fun s t => s.setOptic t { s.optic t with heldLow := false }) s

/-- FRAME_START: frame g starts on every enabled channel. -/
def execFrameStart (s : State) : Res :=
  .next <|
    match s.pon.tl.next with
    | none => s
    | some g =>
      let s := { s with pon.tl.sfc := g, pon.tl.next := some ((g + 1) % 2 ^ 51), pon.tl.startAt := s.up }
      let s := ((s.alignTest g).setRo .SFC_NOW 0 g).firstFrames.releasePulses
      let s := (s.switchKeys g).commitForced
      (liveChannels s).foldl (fun s c => s.frameOf g c) s

/-! ### Fragments (R101 to R105, R107, R348) -/

/-- Key index of an SDU's XGEM frame, whether its key is there, and the key (R107, R348). -/
def sduKey (s : State) (c : Nat) (e : GemEntry) : Nat × Bool × Option KeyShares :=
  if e.cipher = 0 then (0, true, none)
  else
    let p := if e.cipher = 1 then termPair e.term else bcastPair c
    let i := (s.pair p).inForce
    let v := s.slot (pairSlot p i)
    (i, i != 0 && usable v, v.cur)

/-- A fragment's payload as sent: encrypted on its own, with the counter block that the standard forms of the superframe count and its place in
the frame (R107). Log entry 254 (DEDUCED). -/
def sealPayload (s : State) (c : Nat) (key : Option KeyShares) (pos : Nat) (bs : List Byte) : List Byte :=
  match key with
  | none => bs
  | some k => bs.zipIdx.map (fun b => b.1 ^^^ Config.keystream k.key [c % 2, 0, s.pon.tl.sfc, pos] b.2)

/-- An XGEM frame's payload sent from `at_`, cut to the space left, or carried over whole behind idle fill (R102). Log entry 43 (DESIGN CHOICE). -/
def State.sendXgem (s : State) (c : Nat) (x : DsSdu) (index : Nat) (key : Option KeyShares) (at_ len : Nat) (last : Bool) : State :=
  let v := s.chan c
  let room := v.framer.space
  let pos := frameInfo c - 4 - room
  let out (s : State) (n : Nat) (l : Bool) : State :=
    let s := s.emit (.xgem c (s.gem x.gem).port index pos x.frame.id at_ n l (sealPayload s c key pos ((x.frame.bytes.drop at_).take n)))
    if l then s.freeFrame 10 x.frame else s
  if len + 8 ≤ room then out (s.setChan c { v with framer.space := room - (len + 8) }) len last
  else if 16 ≤ room then
    out (s.setChan c { v with framer.space := 0, framer.carry := some ⟨x, at_ + (room - 8), len - (room - 8), last⟩ }) (room - 8) false
  else (s.setChan c { v with framer.carry := some ⟨x, at_, len, last⟩ }).idleFill c room

/-- What an SDU without a key leaves: a count, and its buffer released (R348). -/
def State.dropKeyless (s : State) (c : Nat) (f : Frame) : State := (s.bump .KEY_MISSING_DROPS (32 + c)).freeFrame 10 f

/-- Bytes of an idle XGEM frame: a header alone, or all that is left where that is too little for another. Log entry 252 (DESIGN CHOICE). -/
def idleBytes (room : Nat) : Nat := if room < 16 then room else 8

/-- The encryption of what the space left takes of a payload is given to pairs (R336). -/
def State.encrypt (s : State) (c : Nat) (key : Option KeyShares) (len : Nat) : Bool × State :=
  if key.isNone then (true, s) else s.transmitWork (regionOfChan c) key (aesBlocks (min len ((s.chan c).framer.space - 8)))

/-- The next XGEM frame: a carried one, then express SDUs, then the round, the SDU begun longest ago after the one before; an SDU whose key is
missing is dropped and the next one taken; with none ready, or its encryption waiting for pairs, an idle frame (R102, R336). -/
def State.nextXgem : Nat → State → Nat → State
  | 0, s, _ => s
  | n + 1, s, c =>
    let v := s.chan c
    let f := v.framer
    match f.carry, f.express with
    | some k, _ =>
      let (i, good, key) := sduKey s c (s.gem k.sdu.gem)
      if good then
        match s.encrypt c key k.len with
        | (true, s) => (s.setChan c { v with framer.carry := none }).sendXgem c k.sdu i key k.at_ k.len k.last
        | (false, s) => s.idleFill c (idleBytes f.space)
      else State.nextXgem n ((s.setFramer c { keepOpen f (fun o => o.sdu != k.sdu) with carry := none }).dropKeyless c k.sdu.frame) c
    | none, x :: rest =>
      let (i, good, key) := sduKey s c (s.gem x.gem)
      if good then
        match s.encrypt c key x.frame.len with
        | (true, s) =>
          let s := s.setChan c { v with framer.express := rest }
          let s := s.setRo .EXPRESS_WAIT_MAX c (max (s.ro .EXPRESS_WAIT_MAX c) (s.up - x.arrived : Nat))
          s.sendXgem c x i key 0 x.frame.len true
        | (false, s) => s.idleFill c (idleBytes f.space)
      else State.nextXgem n ((s.setChan c { v with framer.express := rest }).dropKeyless c x.frame) c
    | none, [] =>
      let k := if f.turn < f.round.length then f.turn else 0
      match f.round[k]? with
      | none => s.idleFill c (idleBytes f.space)
      | some o =>
        let (i, good, key) := sduKey s c (s.gem o.sdu.gem)
        if good then
          let len := min o.frag (o.sdu.frame.len - o.sent)
          let last := decide (o.sdu.frame.len ≤ o.sent + len)
          let f := if last then { f with round := f.round.eraseIdx k, turn := k }
            else { f with round := f.round.set k { o with sent := o.sent + len }, turn := k + 1 }
          match s.encrypt c key len with
          | (true, s) => (s.setFramer c f).sendXgem c o.sdu i key o.sent len last
          | (false, s) => s.idleFill c (idleBytes (s.chan c).framer.space)
        else State.nextXgem n ((s.setFramer c { f with round := f.round.eraseIdx k, turn := k }).dropKeyless c o.sdu.frame) c

/-- Information bytes that a time in ns takes on a channel's line. -/
def lineBytes (c ns : Nat) : Nat := ns * lineRate c / 800000

/-- FRAGMENT_BOUNDARY: the framer sends its next XGEM frame; `rekeyIdleNs` is the idle fill that an insertion cost first (R339). A frame of idle
XGEM frames only is filled at once. -/
def execFragmentBoundary (c : Fin 64) (rekeyIdleNs : Nat) (s : State) : Res :=
  .next <|
    let s := if rekeyIdleNs = 0 then s else (s.bump .DS_REKEY_IDLE c rekeyIdleNs).idleFill c (min (s.chan c).framer.space (lineBytes c rekeyIdleNs))
    let f := (s.chan c).framer
    if f.space = 0 || !sends s c then s
    else if f.idleOnly then s.idleFill c f.space
    else State.nextXgem (f.express.length + f.round.length + 3) s c

end Sys2Proof.Machine
end

