-- ==== Sys2Proof/Machine/Tethers.lean ====
section
/-! DEFINITION. Tether lanes and groups, the carrier, readiness of mirrored trees and the loss of the last group (R373 to R377, R388, R397). -/
namespace Sys2Proof.Machine

def State.tlane (s : State) (i : Nat) : TetherLane := s.prot.lanes.get i
def State.setTlane (s : State) (i : Nat) (v : TetherLane) : State := { s with prot.lanes := s.prot.lanes.set i v }
def State.tgroup (s : State) (g : Nat) : TetherGroup := s.prot.groups.get g

/-! ### Readiness (R388) -/

/-- A tree's mirror is ready here. -/
def readyNow (s : State) (t : Nat) : Bool :=
  let v := s.stream t
  s.prot.paired && !s.prot.heldState && !holds s t && v.clean && v.checkpoint && !s.prot.mismatch && !s.prot.pairLost

/-- Source of a stream's events. -/
def srcStream (t : Nat) : Nat := if t = 32 then srcTether 0 43 else srcTether (t / 16) (27 + t % 16)

/-- READY posted, with its event on a change; causes: 1 not a paired standby, 2 gap, 3 no CHECKPOINT, 4 timeline mismatch, 5 pair lost. Log entry 146 (DESIGN CHOICE). -/
def State.postReady (s : State) (t cause : Nat) : State :=
  let v := s.stream t
  let r := readyNow s t
  if v.ready = r then s
  else
    let s := s.setStream t { v with ready := r }
    if r then s.raiseAs .MIRROR_NOT_READY true (srcStream t) regH (evData [] t)
    else s.raise .MIRROR_NOT_READY (srcStream t) regH (evData [(5, t)] cause)

/-- Every tree's READY posted. -/
def State.postAllReady (s : State) (cause : Nat) : State := (List.range 32).foldl (fun s t => s.postReady t cause) s

/-! ### Groups (R374) -/

/-- Both ports are set to joined. -/
def joined (s : State) : Bool := s.getF .TETHER_GROUPING 0 == 3 && s.getF .TETHER_GROUPING 1 == 3

/-- Groups of a port: one where only one port is set to joined. Log entry 144 (DESIGN CHOICE). -/
def groupCount (s : State) (p : Nat) : Nat := if s.getF .TETHER_GROUPING p = 1 then 2 else if s.getF .TETHER_GROUPING p = 2 then 4 else 1

/-- Every group by port × 4 + group with its tether lane instances. -/
def groupList (s : State) : List (Nat × List Nat) :=
  if joined s then [(0, List.range 16 ++ (List.range 16).map (· + 17))]
  else
    let of (p : Nat) : List (Nat × List Nat) :=
      let n := 16 / groupCount s p
      (List.range (groupCount s p)).map (fun g => (4 * p + g, (List.range n).map (fun i => 17 * p + n * g + i)))
    of 0 ++ of 1

/-- Largest less smallest skew of a list of lanes. -/
def spread (s : State) (l : List Nat) : Nat :=
  let k := l.map (fun i => (s.tlane i).skew)
  k.foldl max 0 - k.foldl min (k.headD 0)

/-- A group's skew is within what its receiver compensates. -/
def skewFits (s : State) (l : List Nat) : Bool :=
  spread s (l.filter (· < 17)) ≤ 64 && spread s (l.filter (17 ≤ ·)) ≤ 64 && spread s l ≤ 512

/-- Some group is up; some group of a port is. -/
def anyUp (s : State) : Bool := s.prot.groups.any (fun e => e.2.up)
def portUp (s : State) (p : Nat) : Bool :=
  s.prot.groups.any (fun e => e.2.up && (joined s || e.1 / 4 == p))

/-- One group judged: up with every lane in frame and its skew compensated, else down; TETHER_SKEW_FAIL when the skew fails it. Log entry 143 (DEDUCED). -/
def State.judgeGroup (s : State) (e : Nat × List Nat) : State :=
  let g := s.tgroup e.1
  let framed := e.2.all (fun i => (s.tlane i).inFrame)
  let fits := skewFits s e.2
  let s := { s with prot.groups := s.prot.groups.set e.1 ⟨framed && fits, framed && !fits⟩ }
  if framed && !fits && !g.skewFailed then
    s.raise .TETHER_SKEW_FAIL (srcTether (e.1 / 4) (17 + e.1 % 4)) regH (evData [(1, e.1 / 4), (2, e.1 % 4)] (spread s e.2))
  else s

/-- PAIR_HB_IN has shown an edge within PROT_DEAD_TIME. -/
def hbAlive (s : State) : Bool := s.prot.hbEdgeAt.any (fun t => decide (s.up - t < s.getN .PROT_DEAD_TIME * msec))

/-- PAIR_LOST: every group down while heartbeats continue; READY clears, tokens stay (R397). -/
def State.losePair (s : State) : State :=
  if s.prot.pairLost || !s.prot.paired then s
  else
    let s := { s with prot.pairLost := true }
    (s.raise .PAIR_LOST (srcTether 0 44) regH 0).postAllReady 5

/-- The last group of both ports is lost: which trees were ready is kept for R397. -/
def State.lastGroupLost (s : State) : State :=
  let s := (List.range 32).foldl (fun s t => s.setToken t { s.token t with readyAtLoss := (s.stream t).ready }) s
  if hbAlive s then s.losePair else s

/-- Every group judged again, and the carrier chosen: the lowest group up, port 0's first (R377). -/
def State.judgeGroups (s : State) : State :=
  let was := anyUp s
  let l := groupList s
  let s := { s with prot.groups := s.prot.groups.filter (fun e => (l.map (·.1)).contains e.1) }
  let s := l.foldl State.judgeGroup s
  let s := { s with prot.carrier := (l.map (·.1)).find? (fun g => (s.tgroup g).up) }
  if was && !anyUp s then s.lastGroupLost
  else if !was && anyUp s then
    ({ s with prot.pairLost := false, prot.silent := false }).postAllReady 5
  else s

/-- Every data lane of a port out of frame, to hunt again. -/
def State.dropLanes (s : State) (p : Nat) : State :=
  (List.range 16).foldl (fun s i => s.setTlane (17 * p + i) { dropped := (s.tlane (17 * p + i)).dropped }) s

/-- A port's groups go down; its lanes frame again (TETHER_RESTART, R549). -/
def State.restartPort (s : State) (p : Nat) : State := (s.dropLanes p).judgeGroups

/-- A direction of a port sleeps: 0 sent, 1 received (R386). -/
def tetherAsleep (s : State) (p dir : Nat) : Bool := s.prot.sleeping.get (2 * p + dir)

/-- TETHER_LANE_STATE: skew, in frame, deskewed, asleep. -/
def tlaneState (s : State) (i : Nat) : Nat :=
  let v := s.tlane i
  let up := (groupList s).any (fun e => e.2.contains i && (s.tgroup e.1).up)
  min v.skew 255 * 256 + b2n v.inFrame * 4 + b2n up * 2 + b2n (tetherAsleep s (i / 17) 1)

/-! ### HOLD and HEALTH (R383, R393) -/

/-- The HOLD bit of a tree: the token is held and not released to the peer. Log entry 149 (DESIGN CHOICE). -/
def holdBit (s : State) (t : Nat) : Bool :=
  holds s t && (match (s.token t).release with
    | .released _ => false
    | .blocked => false
    | _ => true)

/-- A tree's optics are healthy, and δ is within 100 µs (R392, R393). -/
def healthy (s : State) (t : Nat) : Bool :=
  (s.optic t).managed && (List.range 4).all (fun i => !(s.ln (4 * t + i)).failed) && !losActive s t (s.optic t).losPin
    && decide ((s.get .PROT_FEEDER_DELTA t).natAbs ≤ 100000000)

def boolMask (f : Nat → Bool) : Nat := (List.range 32).foldl (fun n t => n + if f t then 2 ^ t else 0) 0

end Sys2Proof.Machine
end

