-- ==== Sys2Proof/Machine/Takes.lean ====
section
/-! DEFINITION. Taking and giving up a service token (R389, R395, R128), and leaving Standby (R539). -/
namespace Sys2Proof.Machine

/-- The device changes its power state: POWER_STATE_CHANGE with the cause (R543). -/
def State.setDevPower (s : State) (p : DevPower) (code cause : Nat) : State :=
  ({ s with power.dev := p }).raise .POWER_STATE_CHANGE (srcChip 24) regC (evData [(8, code), (8, 0xFF)] cause)

/-- Tree lanes of the enabled channels that are not dark wake. -/
def State.wakeTrees (s : State) : State :=
  (s.chans.keys (fun c v => v.enabled && !s.power.dark.get c)).foldl (fun s c => (s.wakeLane (txLane c)).wakeLane (rxLane c)) s

/-- Standby is left: lanes wake and the DRAM leaves self-refresh (R539). -/
def State.leaveStandby (s : State) (cause : Nat) : State :=
  if s.power.dev = .standby then ({ s.wakeTrees with power.selfRefresh := [] }).setDevPower .active 0 cause else s

/-- The device may take a token: not between the commit of Hibernate and the end of its exit (R540). -/
def tokenAllowed (s : State) : Bool := s.power.dev == .active || s.power.dev == .standby

/-- Superframe count of the first frame after a take now (R395 step 3). -/
def firstAfterTake (s : State) : Nat :=
  let from_ := s.up + max 30000 (s.getN .PROT_TX_WAKE * 1000)
  s.pon.tl.sfc + max 1 (ceilDiv (from_ - s.pon.tl.startAt) 125000)

/-- A pair's pending switch at a take: kept when S lies at least 3 frames after g_s, else announced again (R395 step 7). -/
def State.reannounce (s : State) (g p : Nat) : State :=
  match (s.pair p).pending with
  | none => s
  | some w => if w.s.any (fun x => decide (g + 3 ≤ x)) then s else s.commitSwitch p w.index

/-- A terminal in the course of activation is ABSENT again, without a message; its ONU-ID is held as after a deactivation (R395 step 6). -/
def State.dropActivation (s : State) (t : Nat) : State :=
  let v := s.term t
  let s := match v.onu with
    | some o => s.setChan v.chan { s.chan v.chan with onuHeld := (s.chan v.chan).onuHeld ++ [o] }
    | none => s
  let s := s.releaseTerm t
  s.putTerm t { idleTerm v with state := .absent, onu := none }

/-- A terminal in OPERATION or LOST is due a directed POPUP, and is not granted before it (R395 steps 4 and 5). Log entry 151 (DESIGN CHOICE). -/
def State.askPopup (s : State) (t : Nat) : State :=
  let v := s.term t
  if takesPloam s v.chan then (s.setTerm t { v with popupDue := true }).queuePloam v.chan true { kind := .popup, term := some t } else s

/-- Terminals of a tree in index order. -/
def treeTermsOf (s : State) (t : Nat) (p : Terminal → Bool) : List Nat := s.terms.keys (fun _ v => v.state != .free && v.chan / 2 == t && p v)

/-- The token of a tree taken with an epoch (R395). -/
def State.takeToken (s : State) (t epoch cause : Nat) : State :=
  let v := s.stream t
  let s := s.setToken t { held := true, epoch := epoch % 256, takenAt := some s.up, cause := cause, fenced := s.prot.fenced }
  let s := s.setStream t { emitted := v.applied, applied := v.applied, ready := v.ready }
  let s := s.enforce .PROT_FEEDER_DELTA t
  let ts := treeTermsOf s t (fun _ => true)
  let s := (ts.filter (fun n => (s.bm n).valid)).foldl State.seedBm s
  let s := (treeTermsOf s t (fun x => x.state == .snAcquired || x.state == .ranging)).foldl State.dropActivation s
  let s := (treeTermsOf s t inService).foldl State.askPopup s
  let g := firstAfterTake s
  let pairs := ts.map termPair ++ [bcastPair (2 * t), bcastPair (2 * t + 1)]
  let s := pairs.foldl (fun s p => s.reannounce g p) s
  let s := s.leaveStandby 4
  (s.raise .PROT_SWITCH (srcTree t 5) (regionOfTree t) (evData [(5, t)] cause)).postReady t 1

/-- What stops on a channel whose tree's token has gone: messages and windows waiting (R128, R394). -/
def State.haltChannel (s : State) (c : Nat) : State :=
  let v := s.chan c
  s.setChan c { v with urgent := [], normal := [], held := [], taken := [], maps.requests := [], maps.calendar := [], rogue := {} }

/-- What stops on a terminal, with the commands that wait for it. -/
def State.haltTerm (s : State) (t : Nat) : State :=
  let s := s.setTerm t { idleTerm (s.term t) with deleting := false }
  (s.respondAll (.termGone t) .faulted 0 []).respondAll (.ploamSent t) .faulted 0 []

/-- The device no longer holds a tree's token; the stream goes on from the last record emitted. Log entry 150 (DESIGN CHOICE). -/
def State.giveToken (s : State) (t : Nat) : State :=
  let k := s.token t
  let v := s.stream t
  let s := s.setToken t { epoch := k.epoch }
  let s := s.setStream t { v with applied := v.emitted }
  let s := (s.haltChannel (2 * t)).haltChannel (2 * t + 1)
  (treeTermsOf s t (fun _ => true)).foldl State.haltTerm s

/-- The held state (R398, R399): every token is given up. -/
def State.enterHeld (s : State) : State :=
  let s := ((List.range 32).filter (holds s)).foldl State.giveToken s
  ({ s with prot.heldState := true }).postAllReady 1

end Sys2Proof.Machine
end

