-- ==== Sys2Proof/Machine/Mirrors.lean ====
section
/-! DEFINITION. Mirror records applied and sent in bulk (R387, R388). -/
namespace Sys2Proof.Machine

/-! ### Bulk resend -/

/-- Key records of a tree: those of slots that hold a key, while a pair wrap key stands. -/
def bulkKeys (s : State) (t : Nat) : List (Nat × MirrorBody) :=
  match wrapKey s with
  | none => []
  | some w => s.cipher.slots.filterMap (fun e =>
      if e.1 < 16512 && slotStream s e.1 == t then
        e.2.cur.map (fun v => (e.1, .key (slotWords s e.1 0).1 (slotWords s e.1 0).2 (((s.pair (slotPair e.1)).pending.bind (·.s)).getD 0)
          (Config.keyWrap w v.key) false))
      else none)

/-- Every record of a tree's state, with its INDEX. -/
def bulkOf (s : State) (t : Nat) : List (Nat × MirrorBody) :=
  let chans := [2 * t, 2 * t + 1].map (fun c => (c, MirrorBody.channel (s.chan c).enabled (s.getF .RANGE_TEQD c).toNat (s.get .PROT_FEEDER_DELTA t)))
  let terms := (treeTermsOf s t (fun _ => true)).map (fun n => (n, MirrorBody.terminal (s.term n) (s.bm n).phaseRef))
  let allocs := s.dba.allocs.keys (fun _ a => a.valid && a.chan / 2 == t)
  let gems := s.pon.gems.keys (fun _ e => e.valid && e.chan / 2 == t)
  chans ++ terms ++ allocs.map (fun a => (a, .alloc (s.alloc a))) ++ gems.map (fun g => (g, .gem (s.gem g)))
    ++ allocs.map (fun a => (a, .contract (s.alloc a).contract))
    ++ allocs.map (fun a => (a, .ledger (s.alloc a).ledger (s.alloc a).acc (s.alloc a).demand (s.alloc a).stamps)) ++ bulkKeys s t

/-- The holder's answer to a RESYNC bit: BULK_BEGIN, every record of the tree's state and BULK_END. -/
def State.bulk (s : State) (t : Nat) : State :=
  let l := bulkOf s t
  let s := s.mirror t 0 (.bulkBegin l.length)
  let s := l.foldl (fun s r => s.mirror t r.1 r.2) s
  s.mirror t 0 (.bulkEnd l.length)

/-! ### Bodies applied (Table 15.4) -/

/-- A terminal as the record has it: the fields of Table 5.4 except REASON and DYING_GASP. -/
def mirrored (o v : Terminal) : Terminal :=
  if v.state = .free then {}
  else { o with state := v.state, chan := v.chan, serial := v.serial, onu := v.onu, rate := v.rate, profileShort := v.profileShort,
                eqdBits := v.eqdBits, eqdPs := v.eqdPs, measRt := v.measRt, respTime := v.respTime, regId := v.regId }

/-- A terminal and its PHASE_REF. -/
def State.applyTerminal (s : State) (t : Nat) (v : Terminal) (ref : Int) : State :=
  let s := s.setTerm t (mirrored (s.term t) v)
  s.writeBm t { s.bm t with valid := v.onu.isSome, channel := v.chan % 2, rate := v.rate, phaseRef := ref }

/-- An allocation map entry; a default one names its terminal's creation map. Log entry 153 (DESIGN CHOICE). -/
def State.applyAlloc (s : State) (n : Nat) (a : Alloc) : State :=
  let o := s.alloc n
  let s := s.setAlloc n { o with valid := a.valid, chan := a.chan, allocId := a.allocId, dflt := a.dflt, term := a.term }
  if a.dflt then s.setTerm a.term { s.term a.term with defAlloc := n } else s

/-- A GEM map entry; an OMCI one names its terminal's creation map. -/
def State.applyGem (s : State) (g : Nat) (e : GemEntry) : State :=
  let s := s.setGem g { e with dropped := (s.gem g).dropped }
  if e.omci then s.setTerm e.term { s.term e.term with omciGem := g } else s

/-- A key unwrapped with the check of R345 and loaded, with its pair's index in force and pending switch; keys of stream 32 are discarded. -/
def State.applyKey (s : State) (k : Nat) (w : Bool) (word0 word1 sfc blob : Nat) (msk : Bool) : State :=
  match slotKey s (if w then 18575 else 18574) with
  | none => s
  | some kek => match Config.keyUnwrap kek blob with
    | none => s.raise .KEY_UNWRAP_FAIL (if k < 16512 then srcChan (pairChan s (slotPair k)) 22 else srcRegion regM 6)
        (if k < 16512 then regionOfChan (pairChan s (slotPair k)) else regM) (evData [] k)
    | some m =>
      if 16512 ≤ k then s
      else if msk then
        let (x, s) := s.splitKey ⟨m, false⟩
        s.setSlot k { s.slot k with msk := some x }
      else
        let p := slotPair k
        let s := s.loadKey k ⟨m, word0.testBit 25⟩
        let q := s.pair p
        let q := if word1.testBit 31 then { q with inForce := slotIndex k } else q
        s.setPair p (if word1.testBit 30 then { q with pending := some ⟨slotIndex k, if sfc = 0 then none else some sfc⟩ } else q)

/-- A tree channel's enable state, RANGE_TEQD and δ; it runs here as at the holder, with its transmitter held off (R64). -/
def State.applyChannel (s : State) (c : Nat) (enabled : Bool) (teqd : Nat) (delta : Int) : State :=
  let s := (((s.setPar .RANGE_TEQD c teqd).setPar .PROT_FEEDER_DELTA (c / 2) delta).enforce .RANGE_TEQD c)
  if enabled && !takesPloam s c then
    let (g, s) := (s.enforceChannel c).firstStart
    s.setChan c { s.chan c with enableAt := some g }
  else if !enabled && takesPloam s c then (s.setChan c (stoppedChan (s.chan c))).endTimeline
  else s

/-- One record's body applied. -/
def State.applyBody (s : State) (r : MirrorRec) : State :=
  match r.body with
  | .terminal v ref => s.applyTerminal r.index v ref
  | .alloc a => s.applyAlloc r.index a
  | .gem e => s.applyGem r.index e
  | .contract k => s.setAlloc r.index { s.alloc r.index with contract := k, nextContract := none }
  | .ledger l acc d st => s.setAlloc r.index { s.alloc r.index with ledger := l, acc := acc, demand := d, stamps := st }
  | .key w0 w1 x b msk => s.applyKey r.index r.w w0 w1 x b msk
  | .keyErase => if r.index < 16512 then s.zeroSlot r.index else s
  | .channel e t d => s.applyChannel r.index e t d
  | .checkpoint => s.setStream r.stream { s.stream r.stream with checkpoint := true }
  | .bulkBegin _ => s.setStream r.stream { s.stream r.stream with inBulk := true, clean := false, resync := false }
  | .bulkEnd _ =>
    let v := s.stream r.stream
    if v.inBulk then s.setStream r.stream { v with inBulk := false, clean := true } else s

def isBulkBegin : MirrorBody → Bool
  | .bulkBegin _ => true
  | _ => false

/-- A record on its stream: applied in SEQ order, or a gap begins, from which only a bulk leads back (R388). Log entry 152 (DESIGN CHOICE). -/
def State.applyRecord (s : State) (r : MirrorRec) : State :=
  let v := s.stream r.stream
  let due := (v.applied + 1) % 2 ^ 32
  let s := s.setStream r.stream { v with applied := r.seq }
  let s :=
    if r.seq = due || isBulkBegin r.body then s.applyBody r
    else
      let s := s.setStream r.stream { s.stream r.stream with clean := false, inBulk := false, resync := r.stream < 32 }
      s.raise .TETHER_SEQ_GAP (srcStream r.stream) regH (evData [(6, r.stream)] (due % 65536))
  if r.stream < 32 then s.postReady r.stream 2 else s

/-- MIRROR_RECORD_RX: the oldest record received reaches the store; records of a tree served here are not applied. -/
def execMirrorRecordRx (s : State) : Res :=
  .next <|
    match s.prot.mirrorIn with
    | [] => s
    | r :: rest =>
      let s := { s with prot.mirrorIn := rest }
      if !s.prot.paired || 32 < r.stream || (r.stream < 32 && holds s r.stream) then s else s.applyRecord r

/-- CHECKPOINT_EMIT: every 1 ms on every stream emitted here. -/
def execCheckpointEmit (s : State) : Res :=
  .next ((List.range 33).foldl (fun s t => s.mirror t 0 .checkpoint) s)

/-- CHECKPOINT_ABSENT: no CHECKPOINT of a stream was applied within 2 ms. -/
def execCheckpointAbsent (stream : Fin 33) (s : State) : Res :=
  .next <|
    let t := stream.val
    let s := s.setStream t { s.stream t with checkpoint := false }
    if t < 32 then s.postReady t 3 else s

end Sys2Proof.Machine
end

