-- ==== Sys2Proof/Machine/TetherRows.lean ====
section
/-! DEFINITION. Tether lanes, sleep, management channels and tether frames (R373 to R386). -/
namespace Sys2Proof.Machine

/-! ### Lane frames (R375, R376) -/

/-- The 64-bit pattern of a data lane: 0xF628_F628_F628 and its lane marker (R375). -/
def lanePattern (i : Nat) : Nat :=
  let m := i / 17 * 128 + i % 17 * 8
  0xF628F628F628 * 2 ^ 16 + m * 2 ^ 8 + (255 - m)

/-- What the scrambler of a lane is preset to at every lane frame: 58 ones, the low 5 bits XORed with port × 16 + lane. -/
def lanePreset (i : Nat) : Nat := (2 ^ 58 - 1) ^^^ (i / 17 * 16 + i % 17)

/-- `n` bits of the additive scrambler x^58 + x^39 + 1 from a register, the first one leftmost. Log entry 262 (DEDUCED). -/
def scramblerBits : Nat → Nat → Nat → Nat
  | 0, _, out => out
  | n + 1, r, out =>
    let b := b2n (r.testBit 57 != r.testBit 38)
    scramblerBits n ((2 * r + b) % 2 ^ 58) (2 * out + b)

/-- Bits by which two patterns differ. -/
def bitErrors (x y : Nat) : Nat := ((msbBits 64 (x ^^^ y)).filter (fun b => b)).length

/-- The 64 bits at a position of the lane frame period just ended, among the 4,159 last received. -/
def patternAt (w p : Nat) : Nat := w / 2 ^ (2047 - p) % 2 ^ 64

/-- The payload, in clear, of the lane frame that ended before a position. -/
def lanePayload (i p w : Nat) : Nat := (w / 2 ^ (2111 - p) % 2 ^ 1984) ^^^ scramblerBits 1984 (lanePreset i) 0

/-- Positions with their bit errors: those a lane follows, and for one that hunts every exact pattern (R376). -/
def laneHits (i : Nat) (v : TetherLane) (w : Nat) : List (Nat × Nat) :=
  let errors (p : Nat) : Nat × Nat := (p, bitErrors (patternAt w p) (lanePattern i))
  if v.inFrame then [errors v.pos]
  else v.cands.map (fun k => errors k.1) ++ ((List.range 2048).filter (fun p => patternAt w p == lanePattern i)).map (fun p => (p, 0))

/-- Candidates of a lane hunting after one more lane frame: those whose next position showed the pattern go on, the others are released, and
exact patterns elsewhere are new ones; a fifth is discarded. `found` holds (position, bit errors). Log entry 145 (DESIGN CHOICE). -/
def huntLane (v : TetherLane) (found : List (Nat × Nat)) : TetherLane :=
  let near (p : Nat) : Bool := found.any (fun f => f.1 == p && f.2 ≤ 3)
  let kept := (v.cands.filter (fun k => near k.1)).map (fun k => (k.1, k.2 + 1))
  match kept.find? (fun k => decide (3 ≤ k.2)) with
  | some k => { v with inFrame := true, pos := k.1, cands := [], misses := 0 }
  | none =>
    let fresh := (found.filter (fun f => f.2 == 0 && !kept.any (fun k => k.1 == f.1))).map (fun f => (f.1, 1))
    { v with cands := (kept ++ fresh).take 4, dropped := v.dropped + ((kept ++ fresh).length - 4) }

/-- A lane in frame after one more lane frame: 4 misses in a row lose it. -/
def trackLane (v : TetherLane) (found : List (Nat × Nat)) : TetherLane :=
  if found.any (fun f => f.1 == v.pos && f.2 ≤ 3) then { v with misses := 0 }
  else if 3 ≤ v.misses then { v with inFrame := false, pos := 0, cands := [], misses := 0 }
  else { v with misses := v.misses + 1 }

/-- TETHER_LANE_LOF of a lane. -/
def State.lof (s : State) (i : Nat) : State := s.raise .TETHER_LANE_LOF (srcTether (i / 17) (i % 17)) regH (evData [] i)

def State.smpOf (s : State) (k : Nat) : SmpPort := s.prot.smp.get k
def State.setSmp (s : State) (k : Nat) (v : SmpPort) : State := { s with prot.smp := s.prot.smp.set k v }

/-- SMP_OVERRUN of a management port: direction 0 to the tether, 1 to the pins. Log entry 161 (DESIGN CHOICE). -/
def State.smpOverrun (s : State) (k dir : Nat) : State :=
  s.raise .SMP_OVERRUN (srcTether (k / 2) (25 + k % 2)) regH (evData [(2, k)] dir)

/-- A byte received on a management channel waits for its pins; beyond 64 its bits are dropped (R385). -/
def State.mgmtIn (s : State) (k : Nat) (b : Byte) : State :=
  let v := s.smpOf k
  if 64 ≤ v.toPins.length then (s.setSmp k { v with dropsOut := v.dropsOut + 8 }).smpOverrun k 1
  else s.setSmp k { v with toPins := v.toPins ++ [b] }

/-- One group frame of a management port: a byte to the overhead slot, and the byte on the pins after its 10 frames (R382, R385). -/
def State.mgmtFrame (s : State) (k : Nat) : State :=
  let v := s.smpOf k
  let s := match v.toTether with
    | [] => s
    | b :: rest => (s.setSmp k { v with toTether := rest }).emit (.mgmt k b)
  let v := s.smpOf k
  if 0 < v.wait then s.setSmp k { v with wait := v.wait - 1 }
  else match v.toPins with
    | [] => s
    | b :: rest => (s.setSmp k { v with toPins := rest, wait := 9 }).emit (.smp k b)

/-- The bytes of an overhead slot that a group's lanes carry, from byte `at_` of the group frame on (R377, R382). -/
def slotOf (s : State) (at_ : Nat) (l : List Nat) : List Nat :=
  let byteOf (j : Nat) : Option Nat := (s.tlane (l.getD (j % l.length) 0)).payload.map (fun p => p / 2 ^ (1976 - 8 * (j / l.length)) % 256)
  (List.range 8).filterMap (fun j => byteOf (at_ + j))

/-- An overhead slot received whole with its CRC good. -/
def slotGood (b : List Nat) : Bool := b.length == 8 && crcBytes 8 7 0 ((b.take 7).map (BitVec.ofNat 8)) == b.getD 7 0

/-- The overhead slot of a port that counts for a group frame: that of the lowest-numbered in-frame group whose CRC is good (R382). -/
def slotIn (s : State) (p : Nat) : Option (List Nat) :=
  let of_ := (groupList s).filter (fun e => (joined s || e.1 / 4 == p) && e.2.all (fun i => (s.tlane i).inFrame))
  (of_.map (fun e => slotOf s (if joined s then 8 * p else 0) e.2)).find? slotGood

/-- The overhead of one group frame of a port with an up group: management bytes received where marked valid, and those sent. -/
def State.overhead (s : State) (p : Nat) : State :=
  if !portUp s p then s
  else
    let s := match slotIn s p with
      | none => s
      | some b =>
        let s := if bit (b.getD 0 0) 7 then s.mgmtIn (2 * p) (BitVec.ofNat 8 (b.getD 1 0)) else s
        if bit (b.getD 0 0) 6 then s.mgmtIn (2 * p + 1) (BitVec.ofNat 8 (b.getD 2 0)) else s
    (s.mgmtFrame (2 * p)).mgmtFrame (2 * p + 1)

/-- Payloads of a group frame are done with. -/
def State.dropPayloads (s : State) (p : Nat) : State :=
  (List.range 16).foldl (fun s k => s.setTlane (17 * p + k) { s.tlane (17 * p + k) with payload := none }) s

/-- A lane after the 2,048 bits of one more lane frame period. -/
def lanePeriod (i : Nat) (v : TetherLane) (bits : BitVec 2048) (skew : Nat) : TetherLane :=
  let w := v.past * 2 ^ 2048 + bits.toNat
  let found := laneHits i v w
  { (if v.inFrame then { trackLane v found with payload := some (lanePayload i v.pos w) } else huntLane v found) with
    skew := skew, past := w % 2 ^ 2111 }

/-- TETHER_LANE_FRAME: a lane frame period of a data lane ends, `bits` received in it, the first bit leftmost, at a skew in UI; its own lane frame
leaves. With the last lane of a port its group frames are whole. A sleeping direction sends no lane frame and declares no loss. Log entry 263 (DESIGN CHOICE). -/
def execTetherLaneFrame (lane : Fin 34) (bits : BitVec 2048) (skew : Nat) (s : State) : Res :=
  .next <|
    let i := lane.val
    let v := s.tlane i
    if i % 17 = 16 then s
    else
      let s := if tetherAsleep s (i / 17) 0 || underTest 2 (s.lane 2 i) then s else s.emit (.laneFrame i (lanePattern i) (lanePreset i))
      let s :=
        if tetherAsleep s (i / 17) 1 || underTest 2 (s.lane 2 i) then s
        else
          let v' := lanePeriod i v bits skew
          let s := s.setTlane i v'
          let s := if v.inFrame && !v'.inFrame then s.lof i else s
          if v.inFrame != v'.inFrame || v.skew != skew then s.judgeGroups else s
      if i % 17 = 15 then (s.overhead (i / 17)).dropPayloads (i / 17) else s

/-- TETHER_CLOCK_LOSS: every data lane of the port is out of frame at once (R373). -/
def execTetherClockLoss (port : Fin 2) (s : State) : Res :=
  .next <|
    let p := port.val
    let lost := ((List.range 16).map (· + 17 * p)).filter (fun i => (s.tlane i).inFrame && !tetherAsleep s p 1)
    let s := s.dropLanes p
    (lost.foldl State.lof s).judgeGroups

/-! ### Sleep (R386) -/

/-- TETHER_IDLE_EXPIRY: a direction of a port that has carried only idle frames for TETHER_IDLE_TIME sleeps while the other port is up in it;
`received` is the direction to this device. Log entry 160 (DESIGN CHOICE). -/
def execTetherIdleExpiry (port : Fin 2) (received : Bool) (s : State) : Res :=
  .next <|
    let p := port.val
    let d := b2n received
    if s.getN .TETHER_SLEEP_EN p = 1 && !joined s && portUp s p && portUp s (1 - p) && !tetherAsleep s (1 - p) d && !tetherAsleep s p d then
      let s := { s with prot.sleeping := s.prot.sleeping.set (2 * p + d) true }
      if received then (s.dropLanes p).judgeGroups else s
    else s

/-- TETHER_WAKE: data queued for a sleeping direction wakes it; a receiver hunts for its lane frames again. -/
def execTetherWake (port : Fin 2) (received : Bool) (s : State) : Res :=
  .next { s with prot.sleeping := s.prot.sleeping.set (2 * port.val + b2n received) false }

/-! ### Management ports (R385) -/

/-- SMP_BYTE_IN: a byte sampled on SMPk_ID waits for the next overhead slot; beyond 64 its bits are dropped. -/
def execSmpByteIn (smp : Fin 4) (byte : Byte) (s : State) : Res :=
  .next <|
    let v := s.smpOf smp
    if pinsIgnored s then s
    else if 64 ≤ v.toTether.length then (s.setSmp smp { v with dropsIn := v.dropsIn + 8 }).smpOverrun smp 0
    else s.setSmp smp { v with toTether := v.toTether ++ [byte] }

/-! ### Traffic sent (R379) -/

/-- Groups that carry traffic sent: up, their port not asleep in that direction. -/
def sendGroups (s : State) : List Nat := ((groupList s).map (·.1)).filter (fun g => (s.tgroup g).up && !tetherAsleep s (g / 4) 0)

/-- Tether queues of a group: those whose number is its rank modulo the number of groups. -/
def tetherQueues (s : State) (g : Nat) : List Nat :=
  let l := sendGroups s
  match l.findIdx? (· == g) with
  | none => []
  | some r => (List.range 128).filter (fun q => q % l.length == r)

/-- The head of a tether queue sent on a group. -/
def State.sendTether (s : State) (g q : Nat) : State :=
  match s.prot.queues.get q with
  | [] => s
  | f :: rest =>
    let k := tetherKey s (g / 4) 0 false
    let n := s.prot.txCounters.get (k * 8 + g)
    let s := { s with prot.queues := s.prot.queues.set q rest }
    let s := s.freeFrame (if f.up then 11 else 10) f.frame
    (s.takeCounter g 0).emit (.tether g (18560 + k) ((s.slot (18560 + k)).gen % 2) n { f with frame := { f.frame with buf := none } })

/-- Deficit round robin with a quantum of 9,600 bytes over the queues of a group; a frame whose encryption waits for pairs stays (R336, R379). -/
def State.serveTether (l : List Nat) (g : Nat) : Nat → State → State
  | 0, s => s
  | n + 1, s =>
    let q := inTurn l (s.prot.turn.get g)
    let d := s.prot.drr.get q
    let next (s : State) (d : Drr) (t : Nat) : State := { s with prot.drr := s.prot.drr.set q d, prot.turn := s.prot.turn.set g t }
    match s.prot.queues.get q with
    | [] => State.serveTether l g n (next s {} (afterTurn l q))
    | f :: _ =>
      let have_ := if d.open_ then d.deficit else d.deficit + 9600
      if f.frame.len ≤ have_ then
        match s.transmitWork regH (s.slot (18560 + tetherKey s (g / 4) 0 false)).cur (aesBlocks (8 + f.frame.len) + 2) with
        | (true, s) => (next s ⟨have_ - f.frame.len, true⟩ q).sendTether g q
        | (false, _) => s
      else State.serveTether l g n (next s ⟨have_, false⟩ (afterTurn l q))

/-- A tether group becomes ready for a traffic frame. -/
def State.scheduleTether (s : State) (g : Nat) : State :=
  let l := tetherQueues s g
  if l.all (fun q => (s.prot.queues.get q).isEmpty) then s else s.serveTether l g (4 * l.length + 4)

/-- SCHED_HANDOVER: the framer of a tree channel (instance 32 + channel), a MAC (0 to 31) or a tether group (96 + port × 4 + group) becomes
ready for a frame. -/
def execSchedHandover (inst : Fin 104) (s : State) : Res :=
  .next <|
    if 96 ≤ inst.val then s.scheduleTether (inst.val - 96)
    else
      let s := ((s.settleShapers inst).openGates inst).holdHeads inst
      if inst.val < 32 then s.scheduleMac inst else s.scheduleTree (inst - 32)

/-! ### Tether frames received (R378 to R381) -/

/-- CTR_LO extended to 64 bits nearest the last value accepted. -/
def extendCounter (last lo : Nat) : Nat :=
  let base := last / 2 ^ 32 * 2 ^ 32 + lo
  if base + 2 ^ 31 < last then base + 2 ^ 32
  else if last + 2 ^ 31 < base && 2 ^ 32 ≤ base then base - 2 ^ 32
  else base

/-- A failed frame: TETHER_AUTH_FAILS, and TETHER_AUTH_FAIL at most once a second a port. -/
def State.tetherAuthFail (s : State) (p t : Nat) : State :=
  (s.bump .TETHER_AUTH_FAILS p).raiseSec .TETHER_AUTH_FAIL p (srcTether p (21 + t)) regH (fun _ => evData [(1, p)] t)

/-- The tributary of a payload. -/
def tribOf : TetherPayload → Nat
  | .mirror _ => 1
  | .learning _ => 2
  | _ => 0

/-- Payload bytes of a tether frame: the descriptor and the frame, or its records of 16 bytes and what follows. -/
def payloadLen : TetherPayload → Nat
  | .idle => 0
  | .traffic f => 8 + f.frame.len
  | .mirror rs => 16 * rs.length
  | .learning ms => 16 * ms.length

/-- Was a word of a frame dropped in the bridge of one of a group's lanes (R50)? -/
def State.takeGroup (s : State) (g : Nat) : Bool × State :=
  (((groupList s).find? (fun e => e.1 == g)).elim [] (·.2)).foldl (fun (r : Bool × State) i =>
    let (x, s) := r.2.takeSpoiled 2 i
    (r.1 || x, s)) (false, s)

/-- A good frame passed to its tributary: traffic to its queue, records to the mirror, learning messages to the serialiser. -/
def State.tetherPayload (s : State) : TetherPayload → State
  | .idle => s
  | .traffic f =>
    let cls := if f.up then 11 else 10
    let j : Job := { frame := { f.frame with buf := none }, cls := cls, dest := if f.up then .up f.queue else .down f.queue,
                     colour := if f.yellow then 1 else 0 }
    { s with fwd.wants := s.fwd.wants ++ [⟨cls, f.frame.len, false, false, .job j⟩] }
  | .mirror rs => { s with prot.mirrorIn := s.prot.mirrorIn ++ rs }
  | .learning ms => ms.foldl (fun s m => s.queueSer { m with peer := true, host := none }) s

/-- The generation of a slot's key whose low bit GEN shows: the current one, or the one that drains. Log entry 283 (DEDUCED). -/
def genKey (v : KeySlot) (gen : Bool) : Option KeyShares :=
  if !usable v then none else if bit v.gen 0 = gen then v.cur else if v.draining then v.old else none

/-- TETHER_FRAME_RX: a tether frame of a group with the header bytes skipped before it: an idle frame carries no tag; any other is accepted
when its tag checks and its counter is above the last accepted. -/
def execTetherFrameRx (port : Fin 2) (group : Fin 4) (skipped : Nat) (rx : TetherRx) (s : State) : Res :=
  .next <|
    let p := port.val
    let g := 4 * p + group.val
    if !(s.tgroup g).up then s
    else
      let s := if skipped = 0 then s else { s with prot.skipped := s.prot.skipped.set g (s.prot.skipped.get g + skipped) }
      if rx.payload = .idle then s
      else
        let t := tribOf rx.payload
        let k := tetherKey s p t true
        let i := (k * 8 + g) * 2 + b2n rx.gen
        let key := genKey (s.slot (18560 + k)) rx.gen
        let last := s.prot.rxCounters.get i
        let n := match last with
          | none => rx.counter % 2 ^ 32
          | some l => extendCounter l (rx.counter % 2 ^ 32)
        let (spoiled, s) := s.takeGroup g
        let (ready, s) := s.receiveWork regH key (aesBlocks (payloadLen rx.payload) + 2)
        if spoiled || !rx.tagGood || key.isNone || last.any (fun l => decide (n ≤ l)) then s.tetherAuthFail p t
        else if !ready then s.cipherLate regH
        else ({ s with prot.rxCounters := s.prot.rxCounters.set i (some n) }).tetherPayload rx.payload

end Sys2Proof.Machine
end

