-- ==== Sys2Proof/Machine/Pairs.lean ====
section
/-! DEFINITION. Pair messages, tether key commits, switching, heartbeats, silence and the protection commands (R381 to R400). -/
namespace Sys2Proof.Machine

/-- Epoch a is newer than epoch b (R389). -/
def newer (a b : Nat) : Bool := 1 ≤ (a + 256 - b % 256) % 256 && (a + 256 - b % 256) % 256 ≤ 127

/-! ### Tether keys (R381) -/

/-- Check value of a tether slot's pending key. -/
def keyCheck (s : State) (k : Nat) : Option Nat :=
  (s.slot (18560 + k)).pending.map (fun v => beNat ((Config.cmac v.key [0x54, 0x45, 0x54, 0x48, 0x45, 0x52]).take 4))

/-- Frame counters of a key's new generation start at 0 (R380); frames of the one that drains keep theirs. -/
def State.resetCounters (s : State) (k : Nat) : State :=
  let gen := (s.slot (18560 + k)).gen % 2
  { s with prot.txCounters := s.prot.txCounters.filter (fun e => e.1 / 8 != k),
           prot.rxCounters := s.prot.rxCounters.filter (fun e => e.1 / 16 != k || e.1 % 2 != gen),
           prot.lastAccepted := if k = 12 || k = 13 then none else s.prot.lastAccepted }

/-- A tether key commits: the pending generation is current, its counters start at 0, and its command responds. -/
def State.commitTether (s : State) (k : Nat) : State :=
  let s := { s with prot.keySlot := none, prot.keyCommit := none }
  match (s.slot (18560 + k)).pending with
  | none => s
  | some v => ((s.commitKey (18560 + k) v).resetCounters k).answerCommit (18560 + k)

/-- The commit named is due: at member A's multiframe of that count, or the one that follows the peer's message before it. -/
def commitDue (s : State) : Bool :=
  s.prot.keyCommit.any (fun n =>
    if s.prot.memberB then s.prot.peer.any (fun m => decide (n ≤ m.count + 1)) else decide (n ≤ s.prot.msgCount))

/-- TETHER_KEY_TIMEOUT: no match within 10 s. -/
def execTetherKeyTimeout (s : State) : Res :=
  .next <|
    match s.prot.keySlot with
    | none => s
    | some k =>
      if s.prot.keyCommit.isSome then s
      else
        let s := s.setSlot (18560 + k) { s.slot (18560 + k) with pending := none, reply := [] }
        let s := { s with prot.keySlot := none }
        (s.raise .TETHER_KEY_TIMEOUT (srcTether 1 43) regH (evData [] (18560 + k))).respondAll (.keyCommit (18560 + k)) .timeout 0 []

/-! ### Pair messages sent (R383) -/

def trees : List Nat := List.range 32

/-- RELEASE is set. -/
def releasing (k : Token) : Bool :=
  match k.release with
  | .released _ => true
  | _ => false

/-- The message of this multiframe. -/
def pairMsg (s : State) : PairMsg :=
  { member := s.prot.memberB, state := if s.prot.heldState then 2 else if s.prot.paired then 1 else 0, count := s.prot.msgCount,
    sfc := s.pon.tl.sfc, phaseNs := (s.up - s.pon.tl.startAt) % 2 ^ 32,
    echoCount := (s.prot.peer.map (fun m => m.count % 65536)).getD 0, echoHold := if s.prot.peer.isSome then (s.up - s.prot.peerStart) % 2 ^ 32 else 0,
    hold := trees.map (holdBit s), ready := trees.map (fun t => (s.stream t).ready), health := trees.map (healthy s),
    release := trees.map (fun t => releasing (s.token t)), taken := trees.map (fun t => (s.token t).taken),
    epochs := trees.map (fun t => ((s.token t).epoch + b2n (releasing (s.token t))) % 256),
    seqs := trees.map (fun t => if holds s t then (s.stream t).emitted else (s.stream t).applied),
    keySlot := s.prot.keySlot.map (18560 + ·), keyCheck := (s.prot.keySlot.bind (keyCheck s)).getD 0,
    keyCommit := if s.prot.memberB then none else s.prot.keyCommit.map (· % 65536), deviceSeq := (s.stream 32).emitted,
    resync := trees.map (fun t => (s.stream t).resync) }

/-- MULTIFRAME_START: the message count moves on, a tether key whose time has come commits, and the pair message starts on every up port that has
its key. Log entry 154 (DESIGN CHOICE). -/
def execMultiframeStart (s : State) : Res :=
  .next <|
    let s := { s with prot.msgCount := s.prot.msgCount + 1 }
    let s := if commitDue s then (match s.prot.keySlot with
      | some k => s.commitTether k
      | none => s) else s
    if [0, 1].any (fun p => portUp s p && (slotKey s (18572 + p)).isSome) then s.emit (.pairMsg (pairMsg s)) else s

/-! ### Pair messages received (R383, R384, R391, R394, R398, R399) -/

/-- One-way delay: `round` ns from sending the message echoed to receiving this one's start, less the hold, halved (R384). -/
def State.measureDelay (s : State) (m : PairMsg) (round : Nat) : State := { s with prot.delay := (round - m.echoHold) / 2 }

/-- The timeline offset and its mismatch; `at_` is the own timeline in ns at the arrival of the message's start (R384). -/
def State.measureOffset (s : State) (m : PairMsg) (at_ : Nat) : State :=
  let d : Int := (at_ : Int) - s.prot.delay - (m.sfc * 125000 + m.phaseNs)
  let off := nearestZero d 125000
  let bad := (d - off) % (2 ^ 51 * 125000) != 0 || s.getN .PAIR_ALIGN_MAX < off.natAbs
  let s := { s with prot.offset := off }
  if bad then
    let s' := { s with prot.mismatch := true, prot.mismatchAt := s.up }
    if s.prot.mismatch then s' else s'.raise .PAIR_TIMELINE_MISMATCH (srcTether 0 44) regH (evSigned 32 off)
  else if s.prot.mismatch && second ≤ s.up - s.prot.mismatchAt then { s with prot.mismatch := false }
  else s

/-- A MSG_COUNT of 16 bits as the full count next at or after the one a message carries. -/
def fullCount (count n : Nat) : Nat := count + (n + 65536 - count % 65536) % 65536

/-- Tether keys matched: both devices show the same slot and check value; member A names the commit 2 multiframes ahead (R381). -/
def State.matchKeys (s : State) (m : PairMsg) : State :=
  match s.prot.keySlot with
  | none => s
  | some k =>
    if m.keySlot = some (18560 + k) && keyCheck s k = some m.keyCheck then
      if s.prot.memberB then { s with prot.keyCommit := s.prot.keyCommit <|> m.keyCommit.map (fullCount m.count) }
      else { s with prot.keyCommit := s.prot.keyCommit <|> some (s.prot.msgCount + 2) }
    else s

/-- PROT_SWITCH responds when no switch is in hand any more. -/
def State.switchTest (s : State) : State :=
  if s.prot.tokens.any (fun e => e.2.release == .draining || releasing e.2) then s else s.respondAll .protSwitch .ok 0 []

/-- What a message says of one tree: a switch moves on, a release is taken, a fence ends, a resend is asked for. Log entry 158 (DESIGN CHOICE). -/
def State.pairTree (s : State) (prev : Option PairMsg) (m : PairMsg) (t : Nat) : State :=
  let k := s.token t
  let s := if k.release = .draining && m.seqs.getD t 0 = (s.stream t).emitted then s.setToken t { k with release := .released s.up } else s
  let k := s.token t
  let s := if (releasing k || k.release == .blocked) && m.taken.getD t false then
      let s := s.giveToken t
      s.setToken t { s.token t with epoch := m.epochs.getD t 0 }
    else s
  let s := if m.release.getD t false && !holds s t && !s.prot.heldState && tokenAllowed s then
      let s := s.takeToken t (m.epochs.getD t 0) (if m.health.getD t false then 2 else 1)
      s.setToken t { s.token t with taken := true }
    else if !m.release.getD t false && (s.token t).taken then s.setToken t { s.token t with taken := false }
    else s
  let k := s.token t
  let s := if k.held && k.fenced && !s.prot.fenced && !m.hold.getD t false && !newer (m.epochs.getD t 0) k.epoch then
      s.setToken t { k with fenced := false } else s
  if m.resync.getD t false && !(prev.any (fun q => q.resync.getD t false)) && runs s t then s.bulk t else s

/-- After silence, the peer holds under a newer epoch a tree held here: the device is held (R398). -/
def State.silenceTest (s : State) (m : PairMsg) : State :=
  if !s.prot.wasSilent then s
  else
    let s := { s with prot.wasSilent := false }
    if trees.any (fun t => holds s t && m.hold.getD t false && newer (m.epochs.getD t 0) (s.token t).epoch) then
      (s.enterHeld).raise .PROT_HELD (srcTether 0 44) regH (evData [] (m.hold.filter (· == true)).length)
    else s

/-- Both devices show HOLD for a tree: the newer epoch keeps it, member A at equal epochs (R399). -/
def State.conflictTest (s : State) (m : PairMsg) (t : Nat) : State :=
  let e := (s.token t).epoch
  let pe := m.epochs.getD t 0
  if holdBit s t && m.hold.getD t false && (newer pe e || (pe % 256 == e % 256 && s.prot.memberB)) then
    (s.enterHeld).raise .PROT_TOKEN_CONFLICT (srcTree t 5) (regionOfTree t) (evData [(5, t), (8, e)] pe)
  else s

/-- PAIR_MESSAGE_RX: a pair message received whole on a port: its tag checks, `held` ns since its start was received, `round` ns from our sending
the message it echoes to that start, and our timeline in ns at that start. Log entry 155 (DESIGN CHOICE). -/
def execPairMessageRx (port : Fin 2) (tagGood : Bool) (msg : PairMsg) (held round timeline : Nat) (s : State) : Res :=
  .next <|
    if !tagGood || (slotKey s (18572 + port.val)).isNone then s.tetherAuthFail port 3
    else if s.prot.lastAccepted.any (fun n => decide (msg.count ≤ n)) then s
    else
      let prev := s.prot.peer
      let s := { s with prot.peer := some msg, prot.peerAt := s.up, prot.peerStart := s.up - held, prot.lastAccepted := some msg.count }
      let s := (s.measureDelay msg round).measureOffset msg timeline
      if !s.prot.paired then s.matchKeys msg
      else
        let s := (s.matchKeys msg).silenceTest msg
        let s := trees.foldl (fun s t => s.conflictTest msg t) s
        let s := trees.foldl (fun s t => s.pairTree prev msg t) s
        (s.postAllReady 4).switchTest

/-- SWITCH_TAKEN_TIMEOUT: no TAKEN within 10 ms: the tree stays dark until PROT_CLAIM (R394). -/
def execSwitchTakenTimeout (tree : Fin 32) (s : State) : Res :=
  .next <|
    let k := s.token tree
    if releasing k then
      ((s.setToken tree { k with release := .blocked }).blocked tree 3).respondAll .protSwitch .timeout 0 []
    else s

/-! ### Heartbeats (R391, R397) -/

/-- HEARTBEAT_REFRESH: the active control pair refreshes C.7; a fence of the device ends, those of the tokens stay. -/
def execHeartbeatRefresh (s : State) : Res :=
  .next (if (if s.fw.pairB then s.fw.stateB else s.fw.stateA) = .active then { s with prot.hbRefreshed := some s.up, prot.fenced := false } else s)

/-- HEARTBEAT_TOGGLE: every 500 µs, while a refresh came within the last 2 ms. -/
def execHeartbeatToggle (s : State) : Res :=
  .next <|
    if !s.prot.fenced && s.prot.hbRefreshed.any (fun t => decide (s.up - t ≤ 2 * msec)) then
      ({ s with prot.hbLevel := !s.prot.hbLevel }).emit (.heartbeat !s.prot.hbLevel)
    else s

/-- PROT_SELF_FENCE: the refresh has been missing for PROT_DEAD_TIME ÷ 2: every TREEn_TXDIS is high; tokens are kept in name. -/
def execProtSelfFence (s : State) : Res :=
  .next <|
    if s.prot.fenced then s
    else
      let s := (trees.filter (holds s)).foldl (fun s t => s.setToken t { s.token t with fenced := true }) { s with prot.fenced := true }
      s.raise .PROT_SELF_FENCE (srcTether 0 44) regH 0

/-- PAIR_HB_IN_EDGE: the peer's heartbeat continues; with every group down the pair is lost. The input is ignored in reset and in Hibernate (R563). -/
def execPairHbInEdge (s : State) : Res :=
  .next <|
    if pinsIgnored s then s
    else
      let s := { s with prot.hbEdgeAt := some s.up, prot.silent := false }
      if anyUp s then s else s.losePair

/-- A tree when the peer has fallen silent with PROT_AUTO_DEAD: one not held here is taken where it was ready, and else blocked (R397). -/
def State.takeSilent (s : State) (t : Nat) : State :=
  let k := s.token t
  if k.held then s
  else if k.readyAtLoss then s.takeToken t (k.epoch + 1) 4
  else s.blocked t 4

/-- An epoch here follows the newest the peer has shown. -/
def State.followEpoch (s : State) (t : Nat) : State :=
  match s.prot.peer with
  | some m =>
    let e := m.epochs.getD t 0
    if newer e (s.token t).epoch then s.setToken t { s.token t with epoch := e } else s
  | none => s

/-- PEER_SILENT: every group down and no heartbeat for PROT_DEAD_TIME. -/
def execPeerSilent (s : State) : Res :=
  .next <|
    if !s.prot.paired || anyUp s || s.prot.silent then s
    else
      let s := { s with prot.silent := true, prot.wasSilent := true }
      if s.getN .PROT_AUTO_DEAD = 1 && !s.prot.heldState && tokenAllowed s then
        trees.foldl (fun s t => (s.followEpoch t).takeSilent t) s
      else s

/-! ### Commands (R400) -/

/-- TETHER_STATUS: lane, group, carrier and sleep states, D and the timeline offset. -/
def execTetherStatus (mb : Fin 16) (s : State) : Res :=
  hostCmd s mb 0x0F01 fun _ s =>
    okay s ((List.range 34).map (fun i => (tlaneState s i : Int)) ++ (List.range 8).map (fun g => (b2n (s.tgroup g).up : Int))
      ++ [(s.prot.carrier.getD 0xFF : Int)] ++ (List.range 4).map (fun i => (b2n (s.prot.sleeping.get i) : Int))
      ++ [(s.prot.delay : Int), s.prot.offset])

/-- TETHER_RESTART: grouping, slots and transmit presets applied to a port; its groups go down. -/
def execTetherRestart (mb : Fin 16) (port : Nat) (s : State) : Res :=
  hostCmd s mb 0x0F02 fun _ s =>
    if 2 ≤ port then fail s .badArg
    else if anyUnderTest s 2 (fun i => i / 17 == port) then fail s .busy
    else
      let s := ((s.enforce .TETHER_GROUPING port).enforce .TETHER_MIRROR_SLOTS 0).enforce .TETHER_LEARN_SLOTS 0
      let s := (List.range 17).foldl (fun s i => s.enforce .TETHER_TX_PRESET (17 * port + i)) s
      okay (s.restartPort port) [port]

/-- PROT_PAIR: the member named, and the paired state entered or left. -/
def execProtPair (mb : Fin 16) (memberB paired : Bool) (s : State) : Res :=
  hostCmd s mb 0x0F10 fun _ s =>
    okay (({ s with prot.memberB := memberB, prot.paired := paired }).postAllReady 1)

/-- PROT_COMMISSION: δ measured over up to 8 terminals in OPERATION with learned entries (R392). -/
def execProtCommission (mb : Fin 16) (tree : Nat) (s : State) : Res :=
  hostCmd s mb 0x0F11 fun _ s =>
    if 32 ≤ tree then fail s .badArg
    else if !s.prot.paired || !runs s tree then fail s .notReady
    else if (s.prot.commission.get tree).isSome then fail s .busy
    else
      let ts := (treeTermsOf s tree (fun v => v.state == .operation)).filter (fun t => (s.bm t).state == .learned)
      let s := { s with prot.commission := s.prot.commission.set tree (some { terms := ts.take 8 }) }
      ((ts.take 8).foldl (fun s t => s.emit (.commission t)) s, .wait (.commission tree) true)

/-- COMMISSION_TIMEOUT: one second after its start. -/
def execCommissionTimeout (tree : Fin 32) (s : State) : Res :=
  .next <|
    match s.prot.commission.get tree with
    | none => s
    | some k => s.endCommission tree k

/-- PROT_SWITCH: tokens of named trees moved to the peer, all of them or none. Log entry 156 (DESIGN CHOICE). -/
def execProtSwitch (mb : Fin 16) (named : List Nat) (s : State) : Res :=
  hostCmd s mb 0x0F12 fun _ s =>
    if named.isEmpty || named.any (32 ≤ ·) then fail s .badArg
    else if !s.prot.paired || s.prot.heldState || named.any (fun t => !runs s t) then fail s .notReady
    else if named.any (fun t => !peerCanTake s t) then
      fail ((named.filter (fun t => !peerCanTake s t)).foldl (fun s t => s.blocked t 2) s) .notReady
    else (named.foldl (fun s t => s.startSwitch t 2) s, .wait .protSwitch true)

/-- A claim stands in the peer's way: unpaired, a message within PROT_DEAD_TIME shows it holding; paired, it holds and is not silent, or has not
been heard of (R390). -/
def claimRefused (s : State) (t : Nat) : Option Status :=
  let peerHas := s.prot.peer.any (fun m => m.hold.getD t false)
  if !s.prot.paired then
    if peerHas && s.up - s.prot.peerAt < s.getN .PROT_DEAD_TIME * msec then some .busy else none
  else if s.prot.silent then none
  else if peerHas then some .busy
  else if s.prot.peer.isNone then some .notReady
  else none

/-- One tree claimed. Log entry 157 (DESIGN CHOICE). -/
def claimTree (s : State) (t : Nat) : State × Status × List Int :=
  let k := s.token t
  if 32 ≤ t then (s, .badArg, [])
  else if s.prot.heldState || !tokenAllowed s then (s, .notReady, [t])
  else if k.held && k.release == .none && !k.fenced then (s, .ok, [t])
  else if k.release == .draining || releasing k then (s, .busy, [t])
  else match claimRefused s t with
    | some st => (s, st, [t])
    | none =>
      if k.held && k.release == .none then (s.setToken t { k with fenced := s.prot.fenced }, .ok, [t])
      else
        let s := s.followEpoch t
        (s.takeToken t ((s.token t).epoch + 1) 3, .ok, [t])

/-- PROT_CLAIM: tokens taken, tree by tree. -/
def execProtClaim (mb : Fin 16) (named : List Nat) (s : State) : Res :=
  hostCmd s mb 0x0F13 fun _ s => if named.isEmpty then fail s .badArg else entriesCmd claimTree s named

/-- PROT_READMIT: the held state ends. Log entry 159 (DESIGN CHOICE). -/
def execProtReadmit (mb : Fin 16) (s : State) : Res :=
  hostCmd s mb 0x0F14 fun _ s => okay (({ s with prot.heldState := false }).postAllReady 1)

/-- PROT_STATUS: HOLD, READY, HEALTH, epochs and SEQs, ours and then the peer's. -/
def execProtStatus (mb : Fin 16) (s : State) : Res :=
  hostCmd s mb 0x0F15 fun _ s =>
    let body (m : PairMsg) : List Int :=
      let mask (l : List Bool) : Int := (boolMask (fun t => l.getD t false) : Nat)
      [mask m.hold, mask m.ready, mask m.health] ++ m.epochs.map Int.ofNat ++ m.seqs.map Int.ofNat
    okay s (body (pairMsg s) ++ (s.prot.peer.map body).getD [])

/-- One tree's resend asked for: its RESYNC bit is set. -/
def resyncTree (s : State) (t : Nat) : State × Status × List Int :=
  if 32 ≤ t then (s, .badArg, [])
  else if !s.prot.paired || holds s t then (s, .notReady, [t])
  else (s.setStream t { s.stream t with resync := true }, .ok, [t])

/-- MIRROR_RESYNC: bulk resends of named trees. -/
def execMirrorResync (mb : Fin 16) (named : List Nat) (s : State) : Res :=
  hostCmd s mb 0x0F16 fun _ s => if named.isEmpty then fail s .badArg else entriesCmd resyncTree s named

end Sys2Proof.Machine
end

