-- ==== Sys2Proof/Machine/UplinkRows.lean ====
section
/-! DEFINITION. Uplinks: frames received and MACsec verification (R361, R365, R366, R352), links (R360), flow control received (R362), commands
(R370). -/
namespace Sys2Proof.Machine

/-! ### MACsec receive (R364 to R366) -/

/-- The receive SA in use of a MAC's SC and AN. -/
def rxSa (s : State) (m sci an : Nat) : Option Nat :=
  (s.fwd.sas.keys (fun n v => v.any (fun a => a.mac == m && a.sci == some sci && a.an == an && a.enabled) && usable (s.slot (16512 + n)))).head?

/-- Lowest acceptable PN of a receive SA (Table 14.2). -/
def lowestPn (s : State) (a : Sa) : Nat := max a.lowest (a.pn - s.getN .MACSEC_REPLAY_WINDOW a.mac)

/-- The reason of Table 14.2 that a frame fails for, and its SA where it has one: SecTAG, SC, SA, ICV, replay, in this order. Log entry 137 (DEDUCED). -/
def verdict (s : State) (m : Nat) (tag : Option SecTag) : Option Nat × Option Nat :=
  match tag with
  | none => (some 6, none)
  | some t =>
    if !t.valid then (some 5, none)
    else if !(s.mac m).scs.contains t.sci then (some 4, none)
    else match rxSa s m t.sci t.an with
      | none => (some 3, none)
      | some n => match s.sa n with
        | none => (some 3, none)
        | some a => if t.icv = some false then (some 1, some n) else if t.pn < lowestPn s a then (some 2, some n) else (none, some n)

/-- A failure counted against its SA or the SecY; MACSEC_VERDICT_FAIL. -/
def State.countVerdict (s : State) (m reason : Nat) (sa : Option Nat) : State :=
  let s := match sa.bind (fun n => (s.sa n).map (fun a => (n, a))) with
    | some (n, a) => s.setSa n (some { a with counts := a.counts.set reason (satTo 64 (a.counts.get reason + 1)) })
    | none => s.setMac m { s.mac m with secFails := (s.mac m).secFails.set reason (satTo 64 ((s.mac m).secFails.get reason + 1)) }
  s.raiseSec .MACSEC_VERDICT_FAIL m (srcSec m) (regionOfMac m) (fun _ => evData [(5, m)] reason)

/-- A frame that passed: its SA's highest PN accepted follows it (R366). -/
def State.acceptPn (s : State) (n pn : Nat) : State :=
  match s.sa n with
  | none => s
  | some a => s.setSa n (some { a with pn := max a.pn (pn + 1), counts := a.counts.set 0 (satTo 64 (a.counts.get 0 + 1)) })

/-- A frame on its way to a parse lane. -/
def State.toLane (s : State) (m : Nat) (f : Frame) : State :=
  let r := m / 16
  { s with fwd.toParse := s.fwd.toParse.set r (s.fwd.toParse.get r ++ [{ frame := f, mac := m }]) }

/-- A frame at a MAC with MACSEC_EN = 1: verified, and passed on or discarded by MACSEC_VALIDATE (R364, R365). -/
def State.verify (s : State) (m : Nat) (f : Frame) (tag : Option SecTag) : State :=
  let inner : Frame := match tag with
    | some t => t.inner
    | none => f
  match s.getN .MACSEC_VALIDATE m with
  | 0 => s.toLane m inner
  | mode =>
    let (reason, sa) := verdict s m tag
    let s := match tag, sa.bind (fun n => s.sa n) with
      | some t, some a => s.countSpec m (t.pn == a.pn && decide (secBlocks s m t.inner.len ≤ s.getN .MACSEC_SPEC_BLOCKS m))
      | _, _ => s
    match reason with
    | some r =>
      let s := if r = 6 && mode = 1 then s else s.countVerdict m r sa
      if mode = 1 && r != 1 then s.toLane m inner else s
    | none => match tag, sa with
      | some t, some n =>
        if t.icv.isNone then
          ({ s with cipher.cutThrough := s.cipher.cutThrough ++ [(m, n, t.inner.id, t.pn)] }).toLane m t.inner
        else (s.acceptPn n t.pn).toLane m t.inner
      | _, _ => s.toLane m inner

/-- The keystream and tag work of a frame that an SA verifies, but for a frame that its speculative blocks cover (R342): is it ready in time? -/
def State.secWork (s : State) (m : Nat) (tag : Option SecTag) : Bool × State :=
  match tag with
  | none => (true, s)
  | some t => match rxSa s m t.sci t.an with
    | none => (true, s)
    | some n =>
      let blocks := secBlocks s m t.inner.len
      if (s.sa n).any (fun a => a.pn == t.pn) && decide (blocks ≤ s.getN .MACSEC_SPEC_BLOCKS m) then (true, s)
      else s.receiveWork (regionOfMac m) (s.slot (16512 + n)).cur (blocks + 2)

/-- Was a word of a frame dropped in the bridge of one of a MAC's lanes (R50)? -/
def State.takeMac (s : State) (m : Nat) : Bool × State :=
  (macLanes s m).foldl (fun (r : Bool × State) i =>
    let (x, s) := r.2.takeSpoiled 1 i
    (r.1 || x, s)) (false, s)

/-- UPLINK_FRAME_RX: a frame received whole. One that lost a word in a bridge is errored (R50); one whose keystream or verdict is not ready in time is
discarded (R336). -/
def execUplinkFrameRx (mac : Fin 32) (frame : Frame) (pcsError fcsBad : Bool) (tag : Option SecTag) (s : State) : Res :=
  .next <|
    let m := mac.val
    if !(s.mac m).up then s
    else
      let (spoiled, s) := s.takeMac m
      let s := s.setMac m { s.mac m with faults := 0 }
      if pcsError || spoiled then s.stat m stBlock
      else if frame.len < 64 then s.stat m stUndersize
      else if s.getN .UPLINK_MTU m < frame.len then s.stat m stOversize
      else if fcsBad then s.stat m stFcs
      else
        let s := (s.stat m stRxFrames).stat m stRxOctets frame.len
        if !secured s m then s.toLane m frame
        else if s.getN .MACSEC_VALIDATE m = 0 then s.verify m frame tag
        else match s.secWork m tag with
          | (true, s) => s.verify m frame tag
          | (false, s) => s.cipherLate (regionOfMac m)

/-! ### Verdicts on the cut-through path (R352) -/

/-- Frames of an identity dropped from a queue. -/
def State.dropFromQueue (s : State) (w id : Nat) : State :=
  let q := s.queueAt w
  let is (x : QFrame) : Bool := x.frame.id == id
  let gone := (q.frames ++ q.tail).filter is
  if gone.isEmpty then s
  else
    let keep (l : List QFrame) : List QFrame := l.filter (fun x => !is x)
    let s := s.setQueue w { q with frames := keep q.frames, tail := keep q.tail, held := q.held && !(q.frames.head?.any is) }
    ((gone.foldl (fun s x => s.freeFrame (queueClass w) x.frame) s).glacierTest w).drainTest w

/-- A framer drops a frame it has not begun, and ends one it has with an invalid FCS. -/
def State.spoilFramer (s : State) (c id : Nat) : State :=
  let f := (s.chan c).framer
  let begun := f.carry.toList.map (·.sdu) ++ (f.round.filter (fun o => o.sent != 0)).map (·.sdu)
  let gone (x : DsSdu) : Bool := x.frame.id == id && !begun.contains x
  let s := ((framerSdus f).filter gone).foldl (fun s x => s.freeFrame 10 x.frame) (s.setFramer c (framerWithout f gone))
  if begun.any (fun x => x.frame.id == id) then s.emit (.badFcs id) else s

/-- Is a frame of an identity waiting inside the device? -/
def waitingFrame (s : State) (id : Nat) : Bool :=
  (s.fwd.toParse.any (fun e => e.2.any (fun k => k.frame.id == id))) || (s.fwd.recirc.any (fun e => e.2.any (fun k => k.frame.id == id)))
    || s.fwd.jobs.any (fun j => j.frame.id == id)
    || s.fwd.wants.any (fun x => match x.what with
      | .job j => j.frame.id == id
      | .recirc p _ => p.frame.id == id
      | .glacier _ => false)
    || s.fwd.downQ.any (fun e => (e.2.frames ++ e.2.run ++ e.2.tail).any (fun x => x.frame.id == id))
    || s.fwd.upQ.any (fun e => (e.2.frames ++ e.2.run ++ e.2.tail).any (fun x => x.frame.id == id))
    || s.chans.any (fun e => (framerSdus e.2.framer).any (fun x => x.frame.id == id))

/-- A frame of an identity dropped by every consumer that has not begun to send it, and spoiled by those that have. -/
def State.spoilFrame (s : State) (id : Nat) : State :=
  if !waitingFrame s id then s.emit (.badFcs id)
  else
    let is (f : Frame) : Bool := f.id == id
    let pkts (l : List Pkt) : List Pkt := l.filter (fun k => !is k.frame)
    let lost := (s.fwd.recirc.map (fun e => e.2.filter (fun k => is k.frame))).flatten
    let jobs := s.fwd.jobs.filter (fun j => is j.frame)
    let asked := s.fwd.wants.filterMap (fun x => match x.what with
      | .recirc p _ => if is p.frame then some p else none
      | _ => none)
    let wants := s.fwd.wants.filter (fun x => match x.what with
      | .job j => !is j.frame
      | .recirc p _ => !is p.frame
      | .glacier _ => true)
    let s := { s with fwd.toParse := [0, 1].foldl (fun t r => t.set r (pkts (t.get r))) s.fwd.toParse,
                      fwd.recirc := [0, 1].foldl (fun t r => t.set r (pkts (t.get r))) s.fwd.recirc,
                      fwd.jobs := s.fwd.jobs.filter (fun j => !is j.frame), fwd.wants := wants }
    let s := (lost ++ asked).foldl (fun s k => (s.landed k).freeFrame 14 k.frame) s
    let s := jobs.foldl (fun s j => s.freeFrame j.cls j.frame) s
    let s := (s.fwd.downQ.keys (fun _ _ => true)).foldl (fun s q => s.dropFromQueue q id) s
    let s := (s.fwd.upQ.keys (fun _ _ => true)).foldl (fun s q => s.dropFromQueue (65536 + q) id) s
    (s.chans.keys (fun _ _ => true)).foldl (fun s c => s.spoilFramer c id) s

/-- MACSEC_VERDICT: the verdict of an express frame that is on the cut-through path. -/
def execMacsecVerdict (id : Nat) (good : Bool) (s : State) : Res :=
  .next <|
    match s.cipher.cutThrough.find? (fun x => x.2.2.1 == id) with
    | none => s
    | some x =>
      let m := x.1
      let n := x.2.1
      let s := { s with cipher.cutThrough := s.cipher.cutThrough.erase x }
      if good then s.acceptPn n x.2.2.2
      else
        let s := (s.countVerdict m 1 (some n)).spoilFrame id
        (s.bump .CT_AUTH_FAIL m).raiseSec .CT_AUTH_FAIL m (srcSec m) (regionOfMac m) (fun _ => evData [(5, m)] n)

/-! ### Links (R360) -/

/-- A link goes down: UPLINK_LINK_DOWN with its cause; pause frames are no longer sent. -/
def State.linkDown (s : State) (m cause : Nat) : State :=
  let v := s.mac m
  if v.up then
    (s.setMac m { v with up := false, faults := 0, told := 0, pauseDue := false, pauseAll := false, busyUntil := 0, sending := none }).raise .UPLINK_LINK_DOWN
      (srcMac m 8) (regionOfMac m) (evData [(5, m)] cause)
  else s

/-- UPLINK_LINK_UP: an enabled MAC's link is up; classes that the device pauses are named in a pause frame (R363). Log entry 139 (DESIGN CHOICE). -/
def execUplinkLinkUp (mac : Fin 32) (s : State) : Res :=
  .next <|
    let m := mac.val
    let v := s.mac m
    if v.up || !macOn s m || v.faultAt.any (fun t => decide (s.up < t + s.getN .UPLINK_UP_HOLD m * 1000000)) then s
    else
      let s := s.setMac m { v with up := true, aligned := true, trained := true, faults := 0 }
      let s := s.raiseAs .UPLINK_LINK_DOWN true (srcMac m 8) (regionOfMac m) (evData [] m)
      if pausing v = 0 then s else s.pauseWork m true

/-- UPLINK_ALIGNMENT_LOSS: cause 1. -/
def execUplinkAlignmentLoss (mac : Fin 32) (s : State) : Res :=
  .next ((s.setMac mac { s.mac mac with aligned := false }).linkDown mac 1)

/-- UPLINK_FAULT_SEQUENCE: four in a row, cause 2. -/
def execUplinkFaultSequence (mac : Fin 32) (s : State) : Res :=
  .next <|
    let v := s.mac mac
    let s := s.setMac mac { v with faults := if v.up then v.faults + 1 else v.faults, faultAt := some s.up }
    if !v.up then s
    else
      if 4 ≤ v.faults + 1 then s.linkDown mac 2 else s

/-- UPLINK_TRAINING_FAIL: cause 3 after the link was up; a partner without a common ability is counted (R359). -/
def execUplinkTrainingFail (mac : Fin 32) (noAbility : Bool) (s : State) : Res :=
  .next <|
    let s := if noAbility then s.stat mac stNoAbility else s
    (s.setMac mac { s.mac mac with trained := false }).linkDown mac 3

/-- UPLINK_ENABLE written (R360). -/
def State.uplinkEnabled (s : State) (m : Nat) : State :=
  if s.getN .UPLINK_ENABLE m = 0 then
    let s := s.linkDown m 4
    s.setMac m { s.mac m with aligned := false, trained := false }
  else s

/-! ### Flow control received (R362) -/

/-- A class paused for a number of quanta, or released by 0. -/
def State.pauseClass (s : State) (m c quanta : Nat) : State :=
  let until_ : Option Nat := if quanta = 0 then none else some (s.up + ceilDiv (quanta * 512) (macRate s m))
  (s.setMac m { s.mac m with paused := (s.mac m).paused.set c until_ }).stat m (stPauseRx c)

/-- PAUSE_FRAME_RX: a PAUSE with its quanta, or a PFC frame with those of each class it enables. -/
def execPauseFrameRx (mac : Fin 32) (pfc : Bool) (quanta : Nat) (classes : List (Fin 8 × Nat)) (s : State) : Res :=
  .next <|
    if !(s.mac mac).up then s
    else match s.getN .UPLINK_FC_MODE mac, pfc with
      | 1, false => (classesIn 255).foldl (fun s c => s.pauseClass mac c quanta) s
      | 2, true => classes.foldl (fun s c => s.pauseClass mac c.1 c.2) s
      | _, _ => s.stat mac stDiscarded

/-- PAUSE_QUANTA_EXPIRY: a class resumes. -/
def execPauseQuantaExpiry (mac : Fin 32) (cls : Fin 8) (s : State) : Res :=
  .next (s.setMac mac { s.mac mac with paused := (s.mac mac).paused.set cls none })

/-- PFC_REFRESH: the pause frame is repeated while a pause stands. -/
def execPfcRefresh (mac : Fin 32) (s : State) : Res := .next (if pausing (s.mac mac) = 0 then s else s.pauseWork mac true)

/-! ### Commands (R370) -/

/-- UPLINK_STATUS: link, training, alignment and pause states of 1 to 32 MACs. -/
def execUplinkStatus (mb : Fin 16) (start count : Nat) (s : State) : Res :=
  hostCmd s mb 0x0E01 fun _ s =>
    if count = 0 || 32 < start + count then fail s .badArg
    else okay s (((List.range count).map (fun i => [linkState s (start + i), pauseState s (start + i)])).flatten.map Int.ofNat)

/-- UPLINK_STATS: a MAC's counters, cleared; `pcs`: codewords and symbol errors as the PCS has counted them since the last read. Log entry 140 (DESIGN CHOICE). -/
def execUplinkStats (mb : Fin 16) (mac : Nat) (pcs : List Nat) (s : State) : Res :=
  hostCmd s mb 0x0E02 fun _ s =>
    if 32 ≤ mac then fail s .badArg
    else okay (s.setMac mac { s.mac mac with stats := [] }) (((s.mac mac).stats.getRange 0 26 ++ pcs).map Int.ofNat)

/-- UPLINK_RESTART: links down, the port's mode, media and presets as written; queues of MACs that the mode removes are disabled and flushed
(R357, R360). -/
def execUplinkRestart (mb : Fin 16) (port : Nat) (s : State) : Res :=
  hostCmd s mb 0x0E03 fun _ s =>
    if 4 ≤ port then fail s .badArg
    else
      let macs := (List.range 8).map (fun i => port * 8 + i)
      let s := macs.foldl (fun s m =>
        let s := s.linkDown m 4
        s.setMac m { s.mac m with aligned := false, trained := false }) s
      let s := ((s.enforce .UPLINK_BREAKOUT port).enforce .UPLINK_MEDIA port).enforce .UPLINK_AN_EN port
      let s := macs.foldl (fun s l => s.enforce .UPLINK_TX_PRESET l) s
      okay ((macs.filter (fun m => !macUsed s m)).foldl (fun s m =>
        (queuesOf s m).foldl (fun s w => (s.disableQueue w).emptyQueue w |>.drainTest w) s) s)

/-- An SA as it is read, and as a write answers it (R449): binding, next or highest PN, counters. -/
def saWords (a : Option Sa) : List Int :=
  match a with
  | none => []
  | some a =>
    let pn := if a.sci.isSome then a.pn - 1 else a.pn
    [a.mac, b2n a.sci.isSome, a.sci.getD 0, a.an, b2n a.enabled, b2n a.xpn, pn, a.counts.get 0, a.counts.get 1, a.counts.get 2, a.counts.get 3,
      a.counts.get 7].map Int.ofNat

/-- The receive SCs of a SecY, as MACSEC_SC_SET answers them (R449). -/
def scWords (s : State) (mac : Nat) : List Int := (s.mac mac).scs.map Int.ofNat

/-- MACSEC_SC_SET: a receive SC created or deleted, its SAs with it. -/
def execMacsecScSet (mb : Fin 16) (mac sci : Nat) (delete : Bool) (s : State) : Res :=
  hostCmd s mb 0x0E10 fun _ s =>
    if 32 ≤ mac then fail s .badArg
    else if !macUsed s mac then fail s .noObject
    else
      let v := s.mac mac
      if delete then
        if !v.scs.contains sci then fail s .noObject
        else
          let s := s.setMac mac { v with scs := v.scs.erase sci }
          let s := (s.fwd.sas.keys (fun _ a => a.any (fun x => x.mac == mac && x.sci == some sci))).foldl (fun s n => s.setSa n none) s
          okay s (scWords s mac)
      else if v.scs.contains sci then fail s .alreadyExists
      else if 15 ≤ v.scs.length then fail s .noSpace
      else
        let s := s.setMac mac { v with scs := v.scs ++ [sci] }
        okay s (scWords s mac)

/-- MACSEC_SA_SET: an SA bound to a SecY, SC (none: the transmit SC) and AN, in use or not (R367). Log entry 142 (DESIGN CHOICE). -/
def execMacsecSaSet (mb : Fin 16) (sa mac : Nat) (sci : Option Nat) (an : Nat) (xpn : Bool) (pn : Nat) (enable : Bool) (s : State) : Res :=
  hostCmd s mb 0x0E11 fun _ s =>
    if 2048 ≤ sa || 32 ≤ mac || 4 ≤ an || (if xpn then 2 ^ 64 else 2 ^ 32) ≤ pn then fail s .badArg
    else if !macUsed s mac || sci.any (fun c => !(s.mac mac).scs.contains c) then fail s .noObject
    else if (s.slot (16512 + sa)).cur.isNone then fail s .badArg
    else if s.fwd.sas.any (fun e => e.1 != sa && e.2.any (fun a => a.mac == mac && a.sci == sci && a.an == an && a.enabled)) && enable then
      fail s .alreadyExists
    else
      let same := (s.sa sa).any (fun a => a.mac == mac && a.sci == sci && a.an == an)
      let s :=
        if !enable && same then s.setSa sa ((s.sa sa).map (fun a => { a with enabled := false }))
        else s.setSa sa (some { mac := mac, sci := sci, an := an, enabled := enable, xpn := xpn, pn := pn, lowest := if sci.isSome then pn else 0 })
      let v := s.mac mac
      let s :=
        if sci.isSome then s
        else if enable then s.setMac mac { v with encoding := some sa }
        else if v.encoding = some sa then s.setMac mac { v with encoding := none } else s
      okay s (saWords (s.sa sa))

/-- MACSEC_SA_READ: binding, next or highest PN, and counters, cleared. -/
def execMacsecSaRead (mb : Fin 16) (sa : Nat) (s : State) : Res :=
  hostCmd s mb 0x0E12 fun _ s =>
    if 2048 ≤ sa then fail s .badArg
    else match s.sa sa with
      | none => fail s .noObject
      | some a => okay (s.setSa sa (some { a with counts := [] })) (saWords (some a))

end Sys2Proof.Machine
end

