-- ==== Sys2Proof/Machine/Faults.lean ====
section
/-! DEFINITION. Faults: handlers, their slots and queues, recovery at cell, block and region level, and what a loss without a spare brings
(spec/19 R481 to R489, R494 to R496). -/
namespace Sys2Proof.Machine

/-! ### Units and their records -/

def State.handler (s : State) (h : Nat) : Handler := s.fault.handlers.get h
def State.setHandler (s : State) (h : Nat) (v : Handler) : State := { s with fault.handlers := s.fault.handlers.set h v }

/-- The handler of a unit: its block's, its region's, or the chip handler (0). -/
def handlerOf (u : Nat) : Nat :=
  if addrLevel u = 1 then blockAddr (addrRegion u) (addrBlock u) else if addrLevel u = 2 then regionAddr (addrRegion u) else 0

/-- The enclosing unit of a cell or a block. -/
def enclosing (u : Nat) : Nat := if addrLevel u = 1 then blockAddr (addrRegion u) (addrBlock u) else regionAddr (addrRegion u)

/-- A unit lies inside another. -/
def inside (u e : Nat) : Bool :=
  if addrLevel e = 2 then addrLevel u == 1 && enclosing u == e
  else addrLevel e == 3 && (addrLevel u == 1 || addrLevel u == 2) && addrRegion u == addrRegion e

def heldBy (h : Handler) : List FaultEntry := h.slot.toList ++ h.queue

/-- Records a full log holds: 256 KiB of 16 bytes (Table 18.5). -/
def logSize : Nat := 16384

/-- Each unit's latest record, in order (R496). -/
def compact : List RepairRec → List RepairRec
  | [] => []
  | r :: l => if l.any (fun x => x.unit == r.unit) then compact l else r :: compact l

/-- A record appended to the field repair log; a full area is compacted first. -/
def State.logRepair (s : State) (u action role cause : Nat) : State :=
  let l := if logSize ≤ s.fault.log.length then compact s.fault.log else s.fault.log
  { s with fault.log := l ++ [⟨s.now % 2 ^ 48, u, action, role, cause⟩] }

/-- A unit event at its region (R506). -/
def State.raiseUnit (s : State) (k : EvKind) (u slot : Nat) : State := s.raise k (srcRegion (addrRegion u) slot) (addrRegion u) (evData [] u)

/-- Role of a block as the log has it: its block number, or none. -/
def roleNumber (u : Nat) : Nat := if addrLevel u = 2 then addrBlock u else 0xFFFF

/-- The unit whose role a unit holds. -/
def roleOf (s : State) (u : Nat) : Nat := ((s.unit u).holds).getD u

/-- A unit is condemned: fenced for good. -/
def State.condemn (s : State) (u cause : Nat) : State :=
  let s := s.setUnit u { s.unit u with state := some .condemned, cause := cause, testDue := false, testPoints := 0 }
  (s.logRepair u 3 (roleNumber u) cause).raiseUnit .UNIT_CONDEMNED u 1

/-- A unit is iced; a second time it is condemned (R478). -/
def State.ice (s : State) (u cause : Nat) : State :=
  let v := s.unit u
  let n := v.icings + 1
  let s := s.setUnit u { v with state := some .iced, icings := n, cause := cause, testPoints := 0, testDue := false,
                                barred := if v.barred.contains (roleOf s u) then v.barred else v.barred ++ [roleOf s u] }
  let s := s.logRepair u 2 (roleNumber (roleOf s u)) cause
  let s := if addrLevel u = 2 then s.raiseUnit .UNIT_ICED u 1 else s
  if 2 ≤ n then s.condemn u cause else s

/-! ### Spares (R494, Table 19.7) -/

/-- Rows of Table 19.7 of a region: spare blocks, and the roles each may take. -/
def spareRows (r : Nat) : List (List Nat × List Nat) :=
  if r < 8 then [([64], [4, 5, 6, 7]), ([65, 66], [8, 9, 10, 11]), ([67], [12, 13, 14, 19, 20])]
  else if r < 10 then [([64], [2, 3]), ([65], [4, 5, 6, 7, 8, 9]), ([66], [10, 11])]
  else if r = 10 then
    [([64, 65], List.range 16), ([66, 67], (List.range 12).map (· + 17)), ([68], (List.range 8).map (· + 32)),
     ([69], (List.range 6).map (· + 40)), ([70], [16, 29, 30, 31, 46, 47, 48, 49]), ([71], (List.range 8).map (· + 50))]
  else if r = 11 then [([64], [2, 3, 4, 5, 6])]
  else if r = 12 then [([64], [2, 3, 7, 9, 11, 12])]
  else []

/-- Block n may take a role: a spare of its row, or a readmitted block of the same row. Log entry 182 (DESIGN CHOICE). -/
def allowed (r n role : Nat) : Bool := (spareRows r).any (fun x => (x.1.contains n || x.2.contains n) && x.2.contains role)

/-- Spare blocks of a region, free. -/
def freeSpares (s : State) (r : Nat) : List Nat :=
  let all := ((spareRows r).map (·.1)).flatten ++ List.range 58
  all.filter (fun n => unitState s (blockAddr r n) == .spare && (s.unit (blockAddr r n)).holds.isNone && !(s.unit (blockAddr r n)).swapped)

/-- The spare for a role of a region. -/
def spareFor (s : State) (r role : Nat) : Option Nat :=
  (freeSpares s r).find? (fun n => allowed r n role && !(s.unit (blockAddr r n)).barred.contains (blockAddr r role))

/-- Cells of a cell field: of a cipher block or a parse lane block (R485). -/
def cellField (r b : Nat) : Bool :=
  let (c0, n) := cipherBlocks r
  (c0 ≤ b && b < c0 + n) || ((r == 8 || r == 9) && 4 ≤ b && b ≤ 7)

/-- Spare cells left of a block (SPARE_CELLS). -/
def spareCellsLeft (s : State) (inst : Nat) : Nat := Config.spareCells inst - s.fault.spareUsed.get inst

/-! ### Data lost with a block or a region (R486, R487) -/

/-- A tree channel's framer emptied, its SDUs counted against their GEM indexes. -/
def State.emptyFramer (s : State) (c : Nat) : State :=
  let s := s.dropSdus c (fun _ => true)
  s.setChan c { s.chan c with framer := {} }

/-- Open SDUs of a tree discarded. -/
def State.emptyReasm (s : State) (t : Nat) : State :=
  ((s.pon.reasm.keys (fun g r => r.isSome && (s.gem g).chan / 2 == t)).foldl State.dropReasm s)

/-- Recirculated packets of an uplink region discarded: each leaves the count of its epoch (R235). Log entry 270 (DESIGN CHOICE). -/
def State.emptyRecirc (s : State) (k : Nat) : State :=
  let l := s.fwd.recirc.get k
  let s := l.foldl (fun s p => (s.landed p).freeFrame 14 p.frame) s
  { s with fwd.recirc := s.fwd.recirc.set k [] }

/-- Packets that wait for a buffer to recirculate leave the count of their epoch (R235). -/
def State.landWants (s : State) : State :=
  s.fwd.wants.foldl (fun s x => match x.what with
    | .recirc p _ => s.landed p
    | _ => s) s

/-- Packets waiting in an uplink region discarded. -/
def State.emptyParse (s : State) (k : Nat) : State :=
  { s.emptyRecirc k with fwd.toParse := s.fwd.toParse.set k [] }

/-- Queued frames whose buffer a test names dropped and counted. -/
def State.dropFrames (s : State) (w : Nat) (p : Nat → Bool) : State :=
  let q := s.queueAt w
  let hit (x : QFrame) : Bool := x.frame.buf.any (fun b => p b.id)
  let n := (q.frames.filter hit).length + (q.tail.filter hit).length
  if n = 0 then s
  else
    let s := ((q.frames ++ q.tail).filter hit).foldl (fun s x => s.freeFrame (queueClass w) x.frame) s
    s.setQueue w { q with frames := q.frames.filter (fun x => !hit x), tail := q.tail.filter (fun x => !hit x),
                          counts := { q.counts with flushed := q.counts.flushed + n } }

/-- Every queue by watch index. -/
def allQueues (s : State) : List Nat := s.fwd.downQ.map (·.1) ++ s.fwd.upQ.map (fun e => 65536 + e.1)

/-- Data inside a block discarded. -/
def State.discardBlock (s : State) (r b : Nat) : State :=
  if r < 8 && 4 ≤ b && b < 8 then
    let t := 4 * r + b - 4
    (s.emptyFramer (2 * t)).emptyFramer (2 * t + 1)
  else if r < 8 && (b == 13 || b == 14) then
    let t := 4 * r + 2 * (b - 13)
    (s.emptyReasm t).emptyReasm (t + 1)
  else if (r == 8 || r == 9) && 4 ≤ b && b ≤ 9 then s.emptyParse (r - 8)
  else if r == regM && b < 16 then
    (allQueues s).foldl (fun s w => s.dropFrames w (fun id => b * 16384 ≤ id && id < (b + 1) * 16384)) s
  else s

/-- Messages of DMA channels whose buffers are lost with M: those in a queue are dropped and counted, one in hand as by R421's discard; staged ones ask again. Log entry 278 (DESIGN CHOICE). -/
def State.dropHostBuffers (s : State) : State :=
  let bare (m : DmaMsg) : DmaMsg := { m with buf := none }
  let s := { s with host.staged := s.host.staged.map (fun (e : Nat × DmaMsg) => (e.1, bare e.2)) }
  (s.host.channels.keys (fun c d => decide (c < 32) && !d.queue.isEmpty)).foldl (fun s c =>
    let d := s.ch c
    let l := d.queue.map bare
    let rest := if d.taken then l.drop 1 else l
    let s := (s.setCh c { d with queue := l }).dropMessage c
    let s := rest.foldl (fun (s : State) m => s.queueDrop c m) s
    (s.setCh c { s.ch c with queue := [] }).testReq c) s

/-- Data in flight in a region discarded: M drops every frame in the packet buffer and the Glacier. Log entry 186 (DESIGN CHOICE). -/
def State.discardRegion (s : State) (r : Nat) : State :=
  if r < 8 then
    let s := (List.range 8).foldl (fun s i => s.emptyFramer (8 * r + i)) s
    (List.range 4).foldl (fun s i => s.emptyReasm (4 * r + i)) s
  else if r < 10 then s.emptyParse (r - 8)
  else if r = regM then
    let s := (((allQueues s).foldl State.emptyQueue s).emptyRecirc 0).emptyRecirc 1
    let s := s.landWants.dropHostBuffers
    { s with fwd.wants := [], fwd.jobs := [], fwd.ops := [], fwd.bufs := [], fwd.pools := [], fwd.poolMsgs := [], prot.queues := [] }
  else s

/-! ### Regions beyond restart (R484) -/

/-- A lane fails with the region that serves it. -/
def State.failOnce (s : State) (i : Nat) : State := if (s.ln i).failed then s else s.failLane i

/-- A region iced whole, and what that stops. Log entry 183 (DESIGN CHOICE). Log entry 187 (DESIGN CHOICE). -/
def State.iceRegion (s : State) (r cause : Nat) : State :=
  let u := regionAddr r
  if unitState s u = .iced then s
  else
    let s := s.setUnit u { s.unit u with state := some .iced, icings := (s.unit u).icings + 1, cause := cause }
    let s := (s.logRepair u 2 0xFFFF cause).raise .REGION_ICED (srcRegion r 0) r r
    if r < 8 then (List.range 16).foldl (fun s i => s.failOnce (16 * r + i)) s
    else if r < 10 then (List.range 16).foldl (fun s i => s.linkDown (16 * (r - 8) + i) 1) s
    else if r = regM then (List.range 128).foldl State.failOnce (s.discardRegion regM)
    else if r = regH then ((s.dropLanes 0).dropLanes 1).judgeGroups
    else s

/-! ### The chip handler (R487) -/

/-- A block at fault leaves its role: iced and fenced, or swapped out as a suspect; its data is lost. Log entry 185 (DESIGN CHOICE). -/
def State.takeOut (s : State) (u cause : Nat) (swap : Bool) : State :=
  let role := roleOf s u
  let s := s.discardBlock (addrRegion u) (addrBlock role)
  let s := if swap then
      (s.setUnit u { s.unit u with state := some .iced, swapped := true }).logRepair u 5 (roleNumber role) 0
    else if fenced s u then s else s.ice u cause
  let s := s.setUnit u { s.unit u with holds := none }
  s.setUnit role { s.unit role with replacedBy := none }

/-- A spare is assigned a role and starts to load it. -/
def State.assign (s : State) (r n role : Nat) : State :=
  let u := blockAddr r n
  let s := s.setUnit u { s.unit u with state := some .inService, holds := some role }
  if (freeSpares s r).isEmpty then s.raise .SPARES_LOW (srcRegion r 2) r r else s

/-- A role that unit `u` held is lost for want of a spare: capacity, the lanes of a tree, or the region (R489). The event names `u` itself (R12). -/
def State.loseRole (s : State) (u role cause : Nat) : State :=
  let r := addrRegion role
  let b := addrBlock role
  let (c0, n) := cipherBlocks r
  let s := s.setUnit role { s.unit role with lost := true }
  if (c0 ≤ b && b < c0 + n) || (r == regM && (b < 16 || (17 ≤ b && b ≤ 28))) || ((r == 8 || r == 9) && 4 ≤ b && b ≤ 7) then
    (s.reportCapacity r).raiseUnit .CAPACITY_LOST u 2
  else if r < 8 && b < 12 then
    let t := 4 * r + b % 4
    (List.range 4).foldl (fun s i => s.failOnce (4 * t + i)) s
  else s.iceRegion r cause

/-- A block replaced: out of its role, with a spare for it or the role lost. Answers the spare that loads. -/
def State.replaceBlock (s : State) (u cause : Nat) (swap : Bool) : Option Nat × State :=
  let role := roleOf s u
  let s := s.takeOut u cause swap
  match spareFor s (addrRegion u) (addrBlock role) with
  | some n => (some n, s.assign (addrRegion u) n role)
  | none => (none, s.loseRole u role cause)

/-- The chip handler takes a region: REGION_RESTART; the block at fault is iced and replaced, and data in flight is lost. -/
def State.startRestart (s : State) (e : FaultEntry) : State :=
  let r := addrRegion e.unit
  let s := s.raise .REGION_RESTART (srcRegion r 0) r (evData [(4, r)] e.cause)
  let s := s.discardRegion r
  let s := if addrLevel e.origin = 2 && !fenced s e.origin then (s.replaceBlock e.origin e.cause false).2 else s
  if unitState s e.unit = .iced then s
  else
    let h := s.handler 0
    s.setHandler 0 { h with slot := some { e with since := s.up } }

/-- The chip handler's slot is free: its next entry; one marked repeat is beyond restart. -/
def State.nextRegion : Nat → State → State
  | 0, s => s
  | n + 1, s =>
    match (s.handler 0).queue with
    | [] => s
    | e :: rest =>
      let s := s.setHandler 0 { s.handler 0 with queue := rest }
      if e.again then State.nextRegion n (s.iceRegion (addrRegion e.unit) e.cause) else s.startRestart e

def State.freeChip (s : State) : State :=
  let s := s.setHandler 0 { s.handler 0 with slot := none }
  s.nextRegion 5

/-- A ghost: output of an iced unit, dropped at its fence (R500). -/
def State.ghost (s : State) (u : Nat) : State :=
  (s.bump .GHOST_COUNT (addrRegion u)).raiseSec .UNIT_GHOST u (srcRegion (addrRegion u) 1) (addrRegion u) (fun _ => evData [] u)

/-- One more report that needs no entry of its own. -/
def State.subsume (s : State) (h : Nat) (n : Nat := 1) : State :=
  s.setHandler h { s.handler h with subsumed := min ((s.handler h).subsumed + n) (2 ^ 28 - 1) }

/-- The entries of a unit's queue with the one of that unit marked repeat. -/
def markAgain (u : Nat) (q : List FaultEntry) : List FaultEntry := q.map (fun e => if e.unit = u then { e with again := true } else e)

/-- The rules of Table 19.5 at the chip handler: it has no level above it, so what would escalate ices the region. -/
def State.reportRegion (s : State) (e : FaultEntry) : State :=
  let h := s.handler 0
  if unitState s e.unit = .iced then s.ghost e.unit
  else if h.slot.any (fun x => x.unit == e.unit) then (s.iceRegion (addrRegion e.unit) e.cause).freeChip
  else if h.queue.any (fun x => x.unit == e.unit) then s.setHandler 0 { h with queue := markAgain e.unit h.queue }
  else if h.slot.isNone then s.startRestart e
  else if h.queue.length < 4 then s.setHandler 0 { h with queue := h.queue ++ [{ e with since := s.up }] }
  else s.iceRegion (addrRegion e.unit) e.cause

/-! ### Escalation (R482) -/

/-- Entries for units inside `e` leave the handlers below, counted as subsumed. -/
def State.clearInside (s : State) (e : Nat) : State :=
  (s.fault.handlers.keys (fun _ v => (heldBy v).any (fun x => inside x.unit e))).foldl (fun s h =>
    let v := s.handler h
    let n := ((heldBy v).filter (fun x => inside x.unit e)).length
    let keep (x : FaultEntry) : Bool := !inside x.unit e
    (s.setHandler h { v with slot := v.slot.filter keep, queue := v.queue.filter keep }).subsume h n) s

/-- The enclosing unit reported to the next handler up: FAULT_ESCALATED. -/
def State.escalated (s : State) (u : Nat) : State := (s.clearInside u).raiseUnit .FAULT_ESCALATED u 0

/-- A region handler takes a block: fenced, iced, and a spare loads its role; where none can the slot stays free. -/
def State.startBlock (s : State) (e : FaultEntry) : State :=
  let h := regionAddr (addrRegion e.unit)
  let (sp, s) := s.replaceBlock e.unit e.cause e.swap
  match sp with
  | some n => s.setHandler h { s.handler h with slot := some { e with since := s.up, spare := some n } }
  | none => s

/-- A block escalates to its region. Region C is never restarted: the block, or the spare that loads its role, is replaced again (R484). Log entry 291 (DEDUCED). -/
def State.escalateBlock (s : State) (e : FaultEntry) : State :=
  let r := enclosing e.unit
  let s := s.escalated r
  if addrRegion e.unit = regC then
    let u := (e.spare.map (blockAddr regC)).getD e.unit
    s.startBlock { unit := u, cause := e.cause, since := s.up, origin := u }
  else s.reportRegion { unit := r, cause := e.cause, since := s.up, origin := e.unit }

/-- A unit inside one that a higher handler holds or has queued (rule 1). -/
def heldAbove (s : State) (u : Nat) : Bool :=
  let at_ (h : Nat) : Bool := (heldBy (s.handler h)).any (fun e => inside u e.unit)
  (addrLevel u == 1 && at_ (regionAddr (addrRegion u))) || at_ 0

/-- A unit, or what encloses it, is fenced (rule 2). -/
def behindFence (s : State) (u : Nat) : Bool :=
  fenced s u || fenced s (regionAddr (addrRegion u)) || (addrLevel u == 1 && fenced s (enclosing u))

/-! ### Region handlers (R486) -/

/-- A region handler's slot is free: its next entry; one marked repeat escalates at once. -/
def State.nextBlock : Nat → State → Nat → State
  | 0, s, _ => s
  | n + 1, s, h =>
    let v := s.handler h
    if v.slot.isSome then s
    else match v.queue with
      | [] => s
      | e :: rest =>
        let s := s.setHandler h { v with queue := rest }
        State.nextBlock n (if e.again then s.escalateBlock e else s.startBlock e) h

/-- The unit in a handler's slot: the block itself, or the spare that loads its role. -/
def inSlot (h : Handler) (u : Nat) : Bool :=
  h.slot.any (fun x => x.unit == u || x.spare.any (fun n => blockAddr (addrRegion x.unit) n == u))

/-- The rules of Table 19.5 at a region handler. Log entry 181 (DEDUCED). -/
def State.reportBlock (s : State) (e : FaultEntry) : State :=
  let a := regionAddr (addrRegion e.unit)
  let h := s.handler a
  if heldAbove s e.unit then s.subsume a
  else if behindFence s e.unit then s.ghost e.unit
  else if inSlot h e.unit then s.escalateBlock e
  else if h.queue.any (fun x => x.unit == e.unit) then s.setHandler a { h with queue := markAgain e.unit h.queue }
  else if h.slot.isNone then (s.startBlock e).nextBlock 5 a
  else if h.queue.length < 4 then s.setHandler a { h with queue := h.queue ++ [{ e with since := s.up }] }
  else s.escalateBlock e

/-! ### Block handlers (R485) -/

/-- A cell escalates to its block. -/
def State.escalateCell (s : State) (e : FaultEntry) : State :=
  let b := enclosing e.unit
  let s := s.escalated b
  s.reportBlock { unit := b, cause := e.cause, since := s.up, origin := b }

/-- A block handler takes a cell: its repair runs, or its block has no spare cell left for it and it escalates. In-lane units have spares of
their own (R85, R86). -/
def State.startCell (s : State) (e : FaultEntry) : State :=
  let r := addrRegion e.unit
  let b := addrBlock e.unit
  let a := handlerOf e.unit
  if !cellField r b && e.cause != 9 && spareCellsLeft s (r * 256 + b) = 0 then s.escalateCell e
  else s.setHandler a { s.handler a with slot := some { e with since := s.up } }

/-- A block handler's slot is free: its next entry. Log entry 196 (DESIGN CHOICE). -/
def State.nextCell : Nat → State → Nat → State
  | 0, s, _ => s
  | n + 1, s, a =>
    let v := s.handler a
    if v.slot.isSome then s
    else match v.queue with
      | [] => s
      | e :: rest =>
        let s := s.setHandler a { v with queue := rest }
        State.nextCell n (if e.again then s.escalateCell e else s.startCell e) a

/-- The rules of Table 19.5 at a block handler. -/
def State.reportCell (s : State) (e : FaultEntry) : State :=
  let a := handlerOf e.unit
  let h := s.handler a
  if heldAbove s e.unit then s.subsume a
  else if behindFence s e.unit then s.ghost e.unit
  else if h.slot.any (fun x => x.unit == e.unit) then (s.setHandler a { h with slot := none }).escalateCell e
  else if h.queue.any (fun x => x.unit == e.unit) then s.setHandler a { h with queue := markAgain e.unit h.queue }
  else if h.slot.isNone then (s.startCell e).nextCell 5 a
  else if h.queue.length < 4 then s.setHandler a { h with queue := h.queue ++ [{ e with since := s.up }] }
  else s.escalateCell e

/-- A report at the handler of its level. -/
def State.take (s : State) (f : FaultReport) : State :=
  let e : FaultEntry := { unit := f.unit, cause := f.cause, since := s.up, origin := f.unit }
  if addrLevel f.unit = 1 then s.reportCell e
  else if addrLevel f.unit = 2 then s.reportBlock e
  else if addrLevel f.unit = 3 then s.reportRegion e
  else s

end Sys2Proof.Machine
end

