-- ==== Sys2Proof/Machine/FaultRows.lean ====
section
/-! DEFINITION. Rows of faults, spares, readmission and control pairs, and their commands (spec/19). -/
namespace Sys2Proof.Machine

/-! ### Detection (R479, R480, R491) -/

/-- FAULT_REPORT: the oldest report reaches its handler (R482). -/
def execFaultReport (s : State) : Res :=
  .next <|
    match s.reports with
    | [] => s
    | f :: rest => ({ s with reports := rest }).take f

/-- HANDSHAKE_STALL: a stage holds a request unacknowledged for STALL_LIMIT: a cell fault of the stage. -/
def execHandshakeStall (block : Fin 3328) (cell : BitVec 16) (s : State) : Res :=
  .next (s.report (cellAddr (block / 256) (block % 256) cell.toNat) 5)

/-- SRAM_UE: an uncorrectable word: a cell fault of its sub-array. -/
def execSramUe (block : Fin 3328) (cell : BitVec 16) (s : State) : Res :=
  .next <|
    let u := cellAddr (block / 256) (block % 256) cell.toNat
    (s.raiseUnit .SRAM_UE u 3).report u 2

/-- A suspect block with a free allowed spare is replaced as if at fault, a suspect cell repaired; one whose block has no spare cell for it stays
(R498). Log entry 293 (DESIGN CHOICE). -/
def State.swapSuspect (s : State) (u : Nat) : State :=
  let e : FaultEntry := { unit := u, cause := 0, since := s.up, origin := u, swap := true }
  let r := addrRegion u
  if addrLevel u = 1 then
    if cellField r (addrBlock u) || spareCellsLeft s (r * 256 + addrBlock u) != 0 then s.reportCell e else s
  else if (spareFor s r (addrBlock (roleOf s u))).isSome then s.reportBlock e
  else s

/-- A corrected error: counted, and at SUSPECT_CE_LIMIT within an hour the unit is suspect; a suspect cell is swapped at once (R477, R498). -/
def State.corrected (s : State) (u : Nat) : State :=
  let s := s.bump .SRAM_CE_COUNT (addrRegion u)
  let v := s.unit u
  let times := s.up :: v.corrections.filter (fun t => decide (s.up - t < 3600 * second))
  let s := s.setUnit u { v with corrections := times }
  if unitState s u = .inService && s.getN .SUSPECT_CE_LIMIT ≤ times.length then
    let s := (s.setUnit u { s.unit u with state := some .suspect }).raiseUnit .UNIT_SUSPECT u 1
    if addrLevel u = 1 && s.getN .SUSPECT_SWAP = 1 then s.swapSuspect u else s
  else s

/-- SRAM_CORRECTION: a single-bit error of a sub-array corrected. -/
def execSramCorrection (block : Fin 3328) (cell : BitVec 16) (s : State) : Res :=
  .next (s.corrected (cellAddr (block / 256) (block % 256) cell.toNat))

/-- SCRUB_READ: the scrubber reads a word and corrects it where it is wrong. -/
def execScrubRead (block : Fin 3328) (cell : BitVec 16) (wrong : Bool) (s : State) : Res :=
  .next (if wrong then s.corrected (cellAddr (block / 256) (block % 256) cell.toNat) else s)

/-- UNIT_SLOW: below SLOW_RATIO of its region's median throughout SLOW_TIME: a block of a cell field stays in service, any other is a fault. Log entry 197 (DESIGN CHOICE). -/
def execUnitSlow (block : Fin 3328) (s : State) : Res :=
  .next <|
    let u := instAddr block
    if (s.unit u).slow || fenced s u then s
    else
      let s := (s.setUnit u { s.unit u with slow := true }).raiseUnit .UNIT_SLOW u 1
      if cellField (block / 256) (addrBlock (roleOf s u)) then s else s.report u 7

/-- UNIT_GHOST: output of an iced unit reaches its fence (R500). -/
def execUnitGhost (unit : Word) (s : State) : Res :=
  .next (if behindFence s unit.toNat then s.ghost unit.toNat else s)

/-! ### Recovery (R483, R485 to R487) -/

/-- A faulty cell leaves its place: iced, or swapped out as a suspect until its test (R485, R498). -/
def State.takeOutCell (s : State) (e : FaultEntry) : State :=
  if fenced s e.unit then s
  else if e.swap then (s.setUnit e.unit { s.unit e.unit with state := some .iced, swapped := true }).logRepair e.unit 5 0xFFFF 0
  else s.ice e.unit e.cause

/-- CELL_REPAIR_DONE: the spare cell takes the faulty cell's place, which is iced; in a cell field its share of capacity goes. -/
def execCellRepairDone (block : Fin 3328) (spare : BitVec 16) (s : State) : Res :=
  .next <|
    let a := instAddr block
    let r := block.val / 256
    match (s.handler a).slot with
    | none => s
    | some e =>
      let s := s.takeOutCell e
      let sp := cellAddr r (block % 256) spare.toNat
      let s :=
        if cellField r (block % 256) then s.reportCapacity r
        else
          let s := if e.cause = 9 then s else { s with fault.spareUsed := s.fault.spareUsed.set block.val (s.fault.spareUsed.get block.val + 1) }
          let s := s.setUnit e.unit { s.unit e.unit with replacedBy := some sp }
          (s.logRepair sp 1 0xFFFF e.cause).raiseUnit .UNIT_REPAIRED sp 1
      let s := { s with cipher.barred := s.cipher.barred.set e.unit false }
      let s := if e.cause = 6 then s.setBlockPace block { s.blockPace block with faulty := false, apart := 0 } else s
      (s.setHandler a { s.handler a with slot := none }).nextCell 5 a

/-- A tree whose lanes, or whose region, come back: TREEn_BRST and TREEn_RSSI stay low until the next frame start (R65). -/
def State.holdLow (s : State) (t : Nat) : State := s.setOptic t { s.optic t with heldLow := true }

/-- A table bank whose role a spare takes is rebuilt from the control copy (R269). -/
def State.rebuildRole (s : State) (role : Nat) : State :=
  let b := addrBlock role
  if addrRegion role != regM then s
  else if 17 ≤ b && b ≤ 24 then s.rebuildBank 0 (some (b - 17))
  else if 25 ≤ b && b ≤ 28 then s.rebuildBank 1 (some (b - 25))
  else s

/-- A spare block resumes a role. -/
def State.resume (s : State) (sp cause : Nat) : State :=
  match (s.unit sp).holds with
  | none => s
  | some role =>
    let s := s.setUnit role { s.unit role with replacedBy := some sp, lost := false }
    let s := if addrRegion role < 8 && addrBlock role < 4 then s.holdLow (4 * addrRegion role + addrBlock role) else s
    let s := s.rebuildRole role
    ((s.logRepair sp 1 (roleNumber role) cause).raiseUnit .UNIT_REPAIRED sp 1).testCapacity (addrRegion sp)

/-- BLOCK_REPLACEMENT_DONE: the spare in a region handler's slot has loaded its role and resumes it. -/
def execBlockReplacementDone (region : Fin 13) (s : State) : Res :=
  .next <|
    let a := regionAddr region
    match (s.handler a).slot with
    | none => s
    | some e =>
      let s := match e.spare with
        | some n => s.resume (blockAddr region n) e.cause
        | none => s
      (s.setHandler a { s.handler a with slot := none }).nextBlock 5 a

/-- Every mirrored stream asks for a bulk resend after a restart of region H (R487). -/
def State.resyncAll (s : State) : State :=
  trees.foldl (fun s t => if holds s t then s
    else (s.setStream t { s.stream t with clean := false, resync := s.prot.paired }).postReady t 2) s

/-- Ledgers as the control copy has them, which is updated every 64 frames (R487). -/
def State.reloadLedgers (s : State) : State :=
  (s.dba.allocs.keys (fun _ _ => true)).foldl (fun s n =>
    s.setAlloc n { s.alloc n with ledger := clampLedger (s.alloc n).contract (s.alloc n).copied }) s

/-- REGION_RESTART_DONE: the region's blocks resume, their roles with spares; a restart that failed ices the region. -/
def execRegionRestartDone (good : Bool) (s : State) : Res :=
  .next <|
    match (s.handler 0).slot with
    | none => s
    | some e =>
      let r := addrRegion e.unit
      if !good then (s.iceRegion r e.cause).freeChip
      else
        let loaded := (List.range 72).map (blockAddr r) |>.filter (fun u => (s.unit u).holds.any (fun x => (s.unit x).replacedBy != some u))
        let s := loaded.foldl (fun s u => s.resume u e.cause) s
        let s := if r = regH then s.resyncAll else s
        let s := if r = regM then ((s.rebuildBank 0 none).rebuildBank 1 none).reloadLedgers else s
        let s := if r < 8 then (List.range 4).foldl (fun s k => s.holdLow (4 * r + k)) s else s
        s.freeChip

/-- RECOVERY_TIMEOUT: a recovery exceeds its level's limit: escalated as by rule 3. -/
def execRecoveryTimeout (handler : Word) (s : State) : Res :=
  .next <|
    let a := handler.toNat
    match (s.handler a).slot with
    | none => s
    | some e =>
      if a = 0 then (s.iceRegion (addrRegion e.unit) e.cause).freeChip
      else if addrLevel a = 2 then s.escalateCell e
      else s.escalateBlock e

/-! ### Spares under test, maintenance windows and readmission (R497, R498, R501, R502) -/

/-- A cell that becomes a spare adds to its block's spare cells, but in a cell field, which holds none (R485, R495). Log entry 294 (DEDUCED). -/
def State.addSpareCell (s : State) (u : Nat) : State :=
  let i := addrRegion u * 256 + addrBlock u
  if addrLevel u = 1 && !cellField (addrRegion u) (addrBlock u) then { s with fault.spareUsed := s.fault.spareUsed.set i (s.fault.spareUsed.get i - 1) }
  else s

/-- SPARE_SELF_TEST: an idle spare's self-test ends, or that of a suspect swapped out: a failed one is condemned. -/
def execSpareSelfTest (unit : Word) (pass : Bool) (s : State) : Res :=
  .next <|
    let u := unit.toNat
    let v := s.unit u
    if v.swapped then
      let s := s.setUnit u { v with swapped := false, state := some .spare }
      if pass then s.addSpareCell u else (s.raiseUnit .SELF_TEST_FAIL u 3).condemn u 11
    else if pass || fenced s u || (addrLevel u = 2 && unitState s u != .spare) then s
    else
      let s := (s.raiseUnit .SELF_TEST_FAIL u 3).condemn u 11
      let i := addrRegion u * 256 + addrBlock u
      if addrLevel u = 1 then { s with fault.spareUsed := s.fault.spareUsed.set i (s.fault.spareUsed.get i + 1) } else s

/-- Units that may be readmitted: iced, no region, not forbidden. -/
def readmittable (s : State) : List Nat :=
  if s.fault.readmitOff then []
  else s.units.keys (fun u v => v.state == some .iced && !v.forbidden && !v.swapped && (addrLevel u == 1 || addrLevel u == 2))

/-- MAINTENANCE_WINDOW_START: with MAINT_LEN set and device time not in FREE the window opens: suspects are swapped, and each unit that may be
readmitted is due one self-test. -/
def execMaintenanceWindowStart (s : State) : Res :=
  .next <|
    if s.getN .MAINT_LEN = 0 || s.pon.tod.state = .free || s.fault.window then s
    else
      let s := { s with fault.window := true }
      let suspects := s.units.keys (fun _ v => v.state == some .suspect)
      let s := if s.getN .SUSPECT_SWAP = 1 then suspects.foldl State.swapSuspect s else s
      (readmittable s).foldl (fun s u => s.setUnit u { s.unit u with testDue := true }) s

/-- MAINTENANCE_WINDOW_END: no further swap or test starts. -/
def execMaintenanceWindowEnd (s : State) : Res :=
  .next <|
    let s := { s with fault.window := false }
    (s.units.keys (fun _ v => v.testDue)).foldl (fun s u => s.setUnit u { s.unit u with testDue := false }) s

/-- A unit is a spare again, barred from the roles it held; the log has it under an action. -/
def State.toSpare (s : State) (u action : Nat) : State :=
  let v := s.unit u
  let s := s.addSpareCell u
  let s := s.setUnit u { v with state := some .spare, testPoints := 0, testDue := false, slow := false, holds := none, lost := false, swapped := false }
  s.logRepair u action (roleNumber ((v.barred.getLast?).getD u)) 0

/-- A unit is readmitted. -/
def State.readmit (s : State) (u : Nat) : State := (s.toSpare u 4).raiseUnit .UNIT_READMITTED u 1

/-- A readmission or its refusal in the audit chain, under the code of READMIT_POLICY and no session. Log entry 184 (DESIGN CHOICE). -/
def State.auditReadmit (s : State) (st : Status) : State := s.auditAdd ⟨s.now % 2 ^ 48, 0x1203, st.code, 7, 0, false, 0, 0⟩

/-- READMISSION_TEST_DONE: a self-test due in this window ends, the first, second and third at the three pace points; three passes within
READMIT_DAYS readmit the unit, a failure condemns it. -/
def execReadmissionTestDone (unit : Word) (pass : Bool) (s : State) : Res :=
  .next <|
    let u := unit.toNat
    let v := s.unit u
    if !v.testDue || v.state != some .iced then s
    else if !pass then (s.condemn u 11).auditReadmit .faulted
    else
      let late := v.testPoints != 0 && s.getN .READMIT_DAYS * 86400 * second < s.up - v.firstTest
      let n := if late then 1 else v.testPoints + 1
      let first := if n = 1 then s.up else v.firstTest
      let s := s.setUnit u { v with testDue := false, testPoints := n, firstTest := first }
      if n < 3 then s else (s.readmit u).auditReadmit .ok

end Sys2Proof.Machine
end

