-- ==== Sys2Proof/Machine/Mailboxes.lean ====
section
/-! DEFINITION. Mailboxes, the checks of a request, BAR accesses and function level reset (spec/16 R403 to R409, spec/17 R428 to R441). -/
namespace Sys2Proof.Machine

/-! ### Doorbell and response ready (R429) -/

/-- RING written: idle goes to posted; in any other state it is ignored and sets DOORBELL_ERR. -/
def State.ring (s : State) (n : Nat) : State :=
  let m := s.mbox n
  if m.state = .idle then s.setMbox n { m with state := .posted }
  else (s.setMbox n { m with doorbellErr := true }).bumpF .MBOX_STATS n 15 0

/-- MB_DOORBELL: RING written 1. -/
def execMbDoorbell (n : Fin 16) (s : State) : Res := .next (s.ring n)

/-- RESP_READY written 1 in response ready returns the mailbox to idle; in any other state it has no effect. -/
def State.clearResp (s : State) (n : Nat) : State :=
  let m := s.mbox n
  if m.state = .respReady then s.setMbox n { m with state := .idle, respReady := false } else s

/-- RESP_READY_CLEAR: RESP_READY written 1. -/
def execRespReadyClear (n : Fin 16) (s : State) : Res := .next (s.clearResp n)

/-! ### Sessions by ID -/

def State.role (s : State) (r : Nat) : RoleState := s.roles.roles.get r

def State.setRole (s : State) (r : Nat) (v : RoleState) : State := { s with roles.roles := s.roles.roles.set r v }

/-- The open session of a session ID, with its role. -/
def findSession (s : State) (id : Nat) : Option (Nat × Session) :=
  (s.roles.roles.findSome? fun e => match e.2.session with
    | some v => if v.id = id then some (e.1, v) else none
    | none => none)

/-- Key of a role's open session. -/
def roleKey (s : State) (r : Nat) : Nat := ((s.cipher.slots.get (sessionSlot r)).cur.map (·.key)).getD 0

/-- A role's session is open no more; its key is zeroised when the last request accepted under it has responded (R463). -/
def State.endSession (s : State) (r : Nat) : State :=
  let k := sessionSlot r
  ((s.setRole r { s.role r with session := none }).setSlot k { s.slot k with erasing := true }).dropKey r

/-- A session closes (R463): its ID names nothing from now on, and the closure leaves an audit record (R465). Log entry 178 (DESIGN CHOICE). -/
def State.closeSession (s : State) (r : Nat) : State :=
  match (s.role r).session with
  | none => s
  | some v =>
    let s := s.endSession r
    s.auditAdd ⟨s.now % 2 ^ 48, 0x1103, 0, r, 0, false, v.id, 0⟩

/-! ### The checks of R435 -/

/-- A SEQ is fresh: ahead of the highest accepted, or among the last 64 and not yet accepted; the first may be any (R435). -/
def fresh (v : Session) (seq : Nat) : Bool :=
  match v.highest with
  | none => true
  | some h =>
    let ahead := (seq + 65536 - h) % 65536
    let behind := (h + 65536 - seq) % 65536
    (1 ≤ ahead && ahead ≤ 32767) || (behind < 64 && !v.seen.testBit behind)

/-- The record of accepted SEQs after one more. -/
def accept (v : Session) (seq now : Nat) : Session :=
  match v.highest with
  | none => { v with highest := some seq, seen := 1, lastUse := now }
  | some h =>
    let ahead := (seq + 65536 - h) % 65536
    if 1 ≤ ahead && ahead ≤ 32767 then
      { v with highest := some seq, seen := (v.seen * 2 ^ ahead + 1) % 2 ^ 64, lastUse := now }
    else { v with seen := v.seen ||| 2 ^ ((h + 65536 - seq) % 65536), lastUse := now }

/-- The bytes a request's MAC is computed over: the header with its MAC field zero, then the body (R435). -/
def macBytes (header body : List Byte) : List Byte := header.take 16 ++ leBytes 8 0 ++ (header.drop 24).take 8 ++ body

/-- Check 1: RSV bits zero, LENGTH at most 4,064, COMMAND in the catalogue. -/
def check1 (w : List Nat) : Bool :=
  bits (w.getD 2 0) 31 13 == 0 && bits (w.getD 3 0) 31 16 == 0 && w.getD 6 0 == 0 && w.getD 7 0 == 0
    && bits (w.getD 2 0) 12 0 ≤ 4064 && (cmdInfo (bits (w.getD 0 0) 31 16)).isSome

/-- The readiness test of R438 and R542, between checks 1 and 2. Log entry 171 (DEDUCED). -/
def ready (s : State) (code : Nat) (body : List Byte) : Bool :=
  let group := code / 256
  if s.power.dev = .hibernate || s.power.dev = .hibernateExit then
    [0x01, 0x02, 0x10, 0x11, 0x13].contains group
  else
    s.power.ready || code == 0x0101 ||
      (s.roles.makerEn &&
        ((code == 0x1101 && leNat (body.take 4) == 2)
          || (code == 0x1102 && (match (s.role 2).challenge with
              | some q => q.id == leNat (body.take 4)
              | none => false))
          || (group == 0x12 && ((cmdInfo code).map (fun i => i.1.testBit 2)).getD false)))

/-- What the header checks decide: accepted, or refused with a status; with the session named, and whether check 3 was passed. -/
structure Verdict where
  status : Option Status
  session : Option (Nat × Session)
  macOk : Bool
  /-- The refusal came at checks 2 to 5. -/
  rights : Bool

/-- R435: the checks in order, stopping at the first failure. -/
def checkRequest (s : State) (w : List Nat) (header body : List Byte) : Verdict :=
  let code := bits (w.getD 0 0) 31 16
  let id := w.getD 1 0
  let sess := if id = 0 then none else findSession s id
  let need := match cmdInfo code with
    | some (r, _) => r
    | none => 0
  if !check1 w then ⟨some .badArg, sess, false, false⟩
  else if !ready s code body then ⟨some .notReady, sess, false, false⟩
  else if id = 0 then (if need = 16 then ⟨none, none, false, false⟩ else ⟨some .noRight, none, false, true⟩)
  else match sess with
    | none => ⟨some .noRight, none, false, true⟩
    | some (r, v) =>
      if (header.drop 16).take 8 != (Config.cmac (roleKey s r) (macBytes header body)).take 8 then ⟨some .authFail, sess, false, true⟩
      else if !fresh v (bits (w.getD 0 0) 15 0) then ⟨some .authFail, sess, true, true⟩
      else if need = 16 || need.testBit r then ⟨none, sess, true, true⟩
      else ⟨some .noRight, sess, true, true⟩

/-- Objects a command names, with the tree of every tree channel named (R439). -/
def withTrees (objs : List Obj) : List Obj :=
  objs ++ objs.filterMap (fun o => match o with
    | .treeChannel c => some (.tree (c / 2))
    | _ => none)

/-- A request accepted or refused: the copy of header and body ends (R430), the checks of R435 run, and a refused request has its
response at once. -/
def State.acceptRequest (s : State) (n : Nat) (objs : List Obj) : State :=
  let m := s.mbox n
  let header := m.request.getRange 0 32
  let w := leWords 8 header
  let len := bits (w.getD 2 0) 12 0
  let body := m.request.getRange 32 (min len 4064)
  let v := checkRequest s w header body
  let code := bits (w.getD 0 0) 31 16
  let seq := bits (w.getD 0 0) 15 0
  let role := match v.session with
    | some (r, _) => r
    | none => 7
  let key := match v.session with
    | some (r, _) => if v.macOk then some (roleKey s r) else none
    | none => none
  let cmd : Cmd := { code := code, seq := seq, session := w.getD 1 0, flags := bits (w.getD 3 0) 15 0, role := role, key := key,
                     body := body, index := s.accepted, objs := withTrees objs, maker := s.roles.makerEn }
  let state := if m.state = .reset then .reset else .running
  let s := { s with accepted := s.accepted + 1 }
  let s := s.setMbox n { m with state := state, lastSeq := seq, cmd := some cmd }
  let s := match v.session with
    | some (r, x) =>
      if v.macOk && v.status != some .authFail then s.setRole r { s.role r with session := some (accept x seq s.up) } else s
    | none => s
  match v.status with
  | none => s
  | some st =>
    let s := s.bumpF .MBOX_STATS n 31 16
    let s := if st = .authFail then
        (s.bump .MBOX_AUTH_FAILS 0).raiseSec .MBOX_AUTH_FAIL 0 (srcChip n) regC (fun _ => evData [(4, n)] (cmd.session % 65536))
      else s
    let s := if v.rights then s.auditRefusal (auditOf s n cmd st) else s
    s.post n cmd st 0 []

/-- A control pair is active; with none left the device accepts no command (R490). -/
def pairActive (s : State) : Bool := (if s.fw.pairB then s.fw.stateB else s.fw.stateA) == .active

/-- MAILBOX_ACCEPT: C.2 copies and checks a posted request, once it answers the mailboxes (from the end of step 3, R535). `objs` are
the objects the request body names (R439). -/
def execMailboxAccept (n : Fin 16) (objs : List Obj) (s : State) : Res :=
  .next <|
    let m := s.mbox n
    if 3 < s.power.stage && pairActive s && (m.state == .posted || (m.state == .reset && m.cmd.isNone)) then s.acceptRequest n objs else s

/-! ### Control pair take-over (R441) -/

/-- What a running command becomes on the new active pair: with no commit recorded it is run again from its start. Log entry 172 (DESIGN CHOICE). -/
def resumed (c : Cmd) : Cmd :=
  if c.reply.isNone && c.committed = 0 then { c with switched := true, started := false, wait := none } else { c with switched := true }

/-- Every running command carried over to the new active pair. -/
def State.resumeCommands (s : State) : State :=
  (s.mb.keys (fun _ m => m.cmd.isSome)).foldl
    (fun s n => s.setMbox n { s.mbox n with cmd := (s.mbox n).cmd.map resumed }) s

/-! ### BAR 0 and BAR 2 (R405 to R408) -/

/-- A bad BAR access, counted. -/
def State.badAccess (s : State) : State := s.bumpF .PCIE_ERR_COUNT 0 31 16

/-- One byte of a shadow trigger register written. -/
def writeShadow (t : TrigSet) (off v : Nat) : TrigSet :=
  match off with
  | 0x60 => { t with fallback := bits v 31 30, chainSrc := bits v 29 24 }
  | 0x64 => { t with hi := bits v 23 0 }
  | 0x68 => { t with lo := bits v 23 0 }
  | 0x6C => { t with timer := bits v 19 0 }
  | 0x70 => { t with burst := bits v 16 0 }
  | 0x74 => { t with count := bits v 31 16, time := bits v 15 0 }
  | _ => t

/-- A write to a channel register (Table 16.4). While the channel is not open only the W1C bits of CH_STATUS are written (R410). -/
def State.writeChReg (s : State) (c off v : Nat) (late : Bool) : State :=
  let d := s.ch c
  if off = 0x04 then
    s.setCh c { d with lateWrite := d.lateWrite && !v.testBit 27, abortDone := d.abortDone && !v.testBit 26,
                       descErr := d.descErr && !v.testBit 25, busErr := d.busErr && !v.testBit 24,
                       cfgErr := d.cfgErr && !v.testBit 23, irqPend := d.irqPend && !v.testBit 22 }
  else if d.func = 0 then s
  else
    let quiet := d.state = .disabled || d.state = .stopped
    match off with
    | 0x00 =>
      let s := s.setCh c { d with vector := some (bits v 25 20), irqEn := v.testBit 19 }
      let s := if v.testBit 31 then s.enableCh c else s.disableCh c
      let s := if v.testBit 30 then s.abortCh c else s
      if v.testBit 29 then s.resumeCh c else s
    | 0x08 => if quiet then s.setCh c { d with ringBaseLo := v / 64 * 64 } else s
    | 0x0C => if quiet then s.setCh c { d with ringBaseHi := v } else s
    | 0x10 => if quiet then s.setCh c { d with ringLog2 := if 3 ≤ bits v 4 0 && bits v 4 0 ≤ 16 then bits v 4 0 else 3 } else s
    | 0x18 => s.writeTail c (bits v 15 0)
    | 0x78 => if late || v.testBit 0 then s.requestCommit c late else s
    | _ =>
      if 0x60 ≤ off && off ≤ 0x74 then
        let s := s.setCh c { d with shadow := writeShadow d.shadow off v }
        if late then s.requestCommit c true else s
      else s

/-- A write to an MSI-X table entry; a vector unmasked with its pending bit set is sent (R409). -/
def State.writeMsix (s : State) (vec off v : Nat) : State :=
  let e := s.host.msix.get vec
  let e := match off with
    | 0 => { e with addrLo := v }
    | 4 => { e with addrHi := v }
    | 8 => { e with data := v }
    | _ => { e with masked := v.testBit 0 }
  let s := { s with host.msix := s.host.msix.set vec e }
  if !e.masked && s.host.pba.get vec then ({ s with host.pba := s.host.pba.set vec false }).emit (.msix vec) else s

/-- A write to a mailbox control register (Table 17.1). -/
def State.writeMbReg (s : State) (n off v : Nat) : State :=
  match off with
  | 0x00 => if v.testBit 0 then s.ring n else s
  | 0x04 =>
    let s := if v.testBit 28 then s.clearResp n else s
    if v.testBit 27 then s.setMbox n { s.mbox n with doorbellErr := false } else s
  | 0x08 => s.setMbox n { s.mbox n with irqEn := v.testBit 31, vector := some (bits v 5 0) }
  | _ => s

/-- An aligned 32-bit write at a BAR 0 offset (Table 0.8); an offset that no table defines discards it. Log entry 173 (DESIGN CHOICE). -/
def State.writeBar0 (s : State) (a v : Nat) (late : Bool) : State :=
  if a = 0x1C then { s with host.bar2Base := bits v 31 26 }
  else if 0x10000 ≤ a && a < 0x30000 then
    let n := (a - 0x10000) / 0x2000
    let off := (a - 0x10000) % 0x2000
    if off < 0x1000 then s.setMbox n { s.mbox n with request := (s.mbox n).request.setRange off (leBytes 4 v) } else s
  else if 0x30000 ≤ a && a < 0x30400 then s.writeMbReg ((a - 0x30000) / 0x40) ((a - 0x30000) % 0x40) v
  else if 0x40000 ≤ a && a < 0x44000 then s.writeChReg ((a - 0x40000) / 0x100) ((a - 0x40000) % 0x100) v late
  else if 0x80000 ≤ a && a < 0x80400 then s.writeMsix ((a - 0x80000) / 16) ((a - 0x80000) % 16) v
  else s

/-- REGISTER_WRITE: a BAR 0 write of `size` bytes; `late` when it reached a channel during a shadow copy (R422). Any access that is not
an aligned 32-bit one is discarded and counted (R406). -/
def execRegisterWrite (addr size : Nat) (value : Word) (late : Bool) (s : State) : Res :=
  .next (if size = 4 && addr % 4 = 0 then s.writeBar0 addr value.toNat late else s.badAccess)

/-- The words of a telemetry record (R522). -/
def telWords (r : TelRec) : List Nat :=
  [r.type * 2 ^ 24 + r.inst % 2 ^ 20, r.time / 2 ^ 32 % 2 ^ 16, r.time % 2 ^ 32] ++ (r.payload ++ [0, 0, 0, 0, 0]).take 5

/-- The word at a byte offset of the telemetry eighths. -/
def telWordAt (s : State) (off : Nat) : Nat :=
  match s.ev.telRing.find? (fun e => e.1 == off / 32 * 32) with
  | some (_, r) => (telWords r).getD (off % 32 / 4) 0
  | none => 0

/-- BAR2_ACCESS: a read answers the telemetry word when an operator, installer or maker session is open, 0 otherwise and beyond the
telemetry eighths; a write is discarded and counted (R408). -/
def execBar2Access (write : Bool) (off : Fin 67108864) (s : State) : Res :=
  .next <|
    if write then s.badAccess
    else
      let a := s.host.bar2Base * 67108864 + off.val
      let allowed := (List.range 3).any (fun r => (s.role r).session.isSome)
      s.emit (.readData (if allowed && a < telemetryBytes s then telWordAt s a else 0))

/-! ### Function level reset and PERST_N (R405, R432, R567) -/

/-- A mailbox under FLR: idle or response ready becomes idle with its response zeroed; posted or running goes to reset until its command
finishes; MB_CTRL returns to its defaults. -/
def flrMailbox (m : Mailbox) : Mailbox :=
  let m := { m with irqEn := true, vector := none }
  match m.state with
  | .idle => { m with response := none }
  | .respReady => { m with state := .idle, respReady := false, response := none }
  | .posted => { m with state := .reset }
  | .running => { m with state := .reset }
  | .reset => m

/-- FUNCTION_LEVEL_RESET: every DMA channel stops, the mailboxes are reset, every session ends; HOST_FLR_COUNT and HOST_FLR. -/
def execFunctionLevelReset (s : State) : Res :=
  .next <|
    let s := (List.range 64).foldl (fun s c => s.setCh c (disable (s.ch c))) s
    let s := (List.range 16).foldl (fun s n => s.setMbox n (flrMailbox (s.mbox n))) s
    let s := (List.range 4).foldl (fun s r => s.closeSession r) s
    let s := { s with host.flrCount := satTo 16 (s.host.flrCount + 1) }
    s.raise .HOST_FLR (srcChip 25) regC (evData [] s.host.flrCount)

/-- PCIE_PERST: PERST_N low stops the endpoint as a fundamental reset: its own registers return to their reset values and the rest of
the device goes on. Log entry 163 (DESIGN CHOICE). -/
def execPciePerst (low : Bool) (s : State) : Res :=
  .next (if low then { s with host.perst := true, host.msix := [], host.pba := [], host.bar2Base := 0, host.timeHiLatch := 0,
                              host.width := 0, host.speed := 0 }
         else { s with host.perst := false })

end Sys2Proof.Machine
end

