-- ==== Sys2Proof/Machine/ControlPairs.lean ====
section
/-! DEFINITION. Control pairs: signal-link commands, lockstep faults, switches and take-over (R24, R441, R451, R490). -/
namespace Sys2Proof.Machine

def pairState (s : State) (b : Bool) : PairState := if b then s.fw.stateB else s.fw.stateA
def State.setPairState (s : State) (b : Bool) (v : PairState) : State := if b then { s with fw.stateB := v } else { s with fw.stateA := v }
def pairTesting (s : State) (b : Bool) : Bool := if b then s.fw.testB else s.fw.testA
def State.setTesting (s : State) (b v : Bool) : State := if b then { s with fw.testB := v } else { s with fw.testA := v }

/-- SIGNAL_COMMAND: a region takes a signal-link command of the active pair, and discards and counts one of the standby pair (R24). -/
def execSignalCommand (region : Fin 13) (standby : Bool) (s : State) : Res :=
  .next <|
    let r := region.val
    if standby then { s with fw.discarded := s.fw.discarded.set r (s.fw.discarded.get r + 1) }
    else { s with fw.accepted := s.fw.accepted.set r (s.fw.accepted.get r + 1) }

/-- A pair is condemned: CONTROL_PAIR_FAULT. -/
def State.condemnPair (s : State) (b : Bool) (cause : Nat) : State :=
  let s := (s.setPairState b .condemned).setTesting b false
  (s.logRepair (pairAddr b) 3 0xFFFF cause).raise .CONTROL_PAIR_FAULT (srcChip (20 + b2n b)) regC (b2n b)

/-- A pair at fault restarts on the running image and self-tests; a second fault within 24 h condemns it. -/
def State.failPair (s : State) (b : Bool) : State :=
  let last := if b then s.fault.lockFailB else s.fault.lockFailA
  let s := if b then { s with fault.lockFailB := some s.up } else { s with fault.lockFailA := some s.up }
  if last.any (fun t => decide (s.up - t < 86400 * second)) then s.condemnPair b 10
  else (s.setPairState b .restarting).setTesting b true

/-- The other pair becomes the active one; no command starts its effect until it has taken over. -/
def State.flipPair (s : State) : State :=
  let n := !s.fw.pairB
  ({ s with fw.pairB := n, fw.hold := true }).setPairState n .active

/-- The active pair is lost: the standby takes its place at once, or the device accepts no command. Log entry 189 (DESIGN CHOICE). -/
def State.loseActive (s : State) : State :=
  if pairState s (!s.fw.pairB) = .standby then
    let s := s.flipPair
    s.raise .CONTROL_PAIR_SWITCHED (srcChip (20 + b2n s.fw.pairB)) regC (b2n s.fw.pairB)
  else { s with fw.hold := true }

/-- LOCKSTEP_MISMATCH: a pair's lockstep compare fails. Log entry 188 (DEDUCED). -/
def execLockstepMismatch (pair : Bool) (s : State) : Res :=
  .next <|
    let v := pairState s pair
    if v = .absent || v = .condemned then s
    else if v = .active then (s.failPair pair).loseActive
    else s.failPair pair

/-- CONTROL_PAIR_SELF_TEST_DONE: the tests of a restarted pair end: it stands by, or is condemned. -/
def execControlPairSelfTestDone (pair pass : Bool) (s : State) : Res :=
  .next <|
    if !pairTesting s pair then s
    else if pass then (s.setTesting pair false).setPairState pair .standby
    else s.condemnPair pair 10

/-- The updated pair takes over (R451 steps 4 and 5): FW_UPDATED; the former active pair loads the new image. -/
def State.updated (s : State) : State :=
  let h := s.fw.newHeader
  let old := s.fw.pairB
  let was := pairState s old
  let s := { s with fw.header := h, fw.newHeader := s.fw.header, fw.running := !s.fw.running, fw.erasedSectors := [], fw.standbyOnRunning := false,
                    fw.progress := if was == PairState.active then .loading else .none }
  let s := if was == PairState.active then s.setPairState old .restarting else s
  let s := { s.flipPair with fw.hold := false }
  let s := s.resumeCommands.raise .FW_UPDATED (srcChip 16) regC (evData [(8, h.major), (8, h.minor)] (h.build % 256))
  s.respondAll .firmware .ok 0 []

/-- A new active pair resumes the running commands (R441). -/
def State.resumeOn (s : State) : State :=
  let s := { s with fw.hold := false }
  s.resumeCommands.respondAll .pairSwitch .ok 0 []

/-- CONTROL_PAIR_TAKEOVER: the pair that an update has prepared, the pair that a switch has made active, or, where no pair was left, the first
that has passed its tests. Log entry 190 (DESIGN CHOICE). -/
def execControlPairTakeover (s : State) : Res :=
  .next <|
    if s.fw.progress == .rebuilding then s.updated
    else if !s.fw.hold then s
    else if pairState s s.fw.pairB == .active then s.resumeOn
    else if pairState s s.fw.pairB == .standby then (s.setPairState s.fw.pairB .active).resumeOn
    else if pairState s (!s.fw.pairB) == .standby then s.flipPair.resumeOn
    else s

/-- CONTROL_PAIR_SWITCH: hand-over to the standby pair. -/
def execControlPairSwitch (mb : Fin 16) (s : State) : Res :=
  hostCmd s mb 0x1207 fun _ s =>
    if pairState s (!s.fw.pairB) = .standby then ((s.setPairState s.fw.pairB .standby).flipPair, .wait .pairSwitch true)
    else fail s .faulted

end Sys2Proof.Machine
end

