-- ==== Sys2Proof/Machine/Roles.lean ====
section
/-! DEFINITION. Roles, sessions, audit and calibration (spec/18). -/
namespace Sys2Proof.Machine

/-! ### Credentials and sessions (R457 to R464) -/

/-- A role's credential: fused for maker and enrolment, unwrapped from the flash for operator and installer (R457, R458). Log entry 288 (DESIGN CHOICE). -/
def credential (s : State) (r : Nat) : Option Nat :=
  match r with
  | 2 => some Config.makerCredential
  | 3 => some Config.enrolSecret
  | _ => (s.role r).wrapped.bind (Config.keyUnwrap Config.storageKey)

/-- ctx of R462: role, session ID, ND, NH, unit serial. -/
def sessionCtx (r : Nat) (q : Challenge) : List Byte :=
  leBytes 4 r ++ leBytes 4 q.id ++ leBytes 16 q.nd ++ leBytes 16 q.nh ++ leBytes 8 Config.serial

/-- The answer expected in step 3 and the proof of step 4. -/
def authAnswer (cred r : Nat) (q : Challenge) : List Byte := Config.cmac cred (0x41 :: sessionCtx r q)
def authProof (cred r : Nat) (q : Challenge) : List Byte := Config.cmac cred (0x50 :: sessionCtx r q)

/-- The session key of step 4. -/
def sessionKey (cred r : Nat) (q : Challenge) : Nat :=
  beNat (Config.cmac cred (0x01 :: 0x4B :: sessionCtx r q) ++ Config.cmac cred (0x02 :: 0x4B :: sessionCtx r q))

/-- Why SESSION_OPEN is refused, in the order of R462. -/
def openRefusal (s : State) (r : Nat) : Option Status :=
  if 3 < r then some .badArg
  else if (r = 2 && !s.roles.makerEn) || (r = 3 && s.roles.enrolled) then some .noRight
  else if r < 2 && (s.role r).wrapped.isNone then some .noObject
  else if (s.role r).locked then some .busy
  else none

/-- SESSION_OPEN: a nonzero session ID and a device nonce are drawn; the role's pending challenge is replaced (R462). -/
def execSessionOpen (mb : Fin 16) (s : State) : Res :=
  hostCmd s mb 0x1101 fun c s =>
    let r := bodyWord c 0
    match openRefusal s r with
    | some st => fail s st
    | none =>
      let (a, s) := s.draw
      let (b, s) := s.draw
      let q : Challenge := ⟨a % (2 ^ 32 - 1) + 1, leNat ((c.body.drop 4).take 16), b % 2 ^ 128, s.up⟩
      okay (s.setRole r { s.role r with challenge := some q }) [q.id, q.nd]

/-- The pending challenge that a session ID names. -/
def findChallenge (s : State) (id : Nat) : Option (Nat × Challenge) :=
  s.roles.roles.findSome? fun e => match e.2.challenge with
    | some q => if q.id = id then some (e.1, q) else none
    | none => none

/-- A failed answer: AUTH_FAIL_LIMIT of them within 60 s lock the role out (R464). -/
def State.failAnswer (s : State) (r : Nat) : State :=
  let v := s.role r
  let fails := s.up :: v.fails.filter (fun t => decide (s.up - t < 60 * second))
  if s.getN .AUTH_FAIL_LIMIT ≤ fails.length then
    (s.setRole r { v with fails := [], locked := true }).raise .ROLE_LOCKOUT (srcChip 22) regC (evData [] r)
  else s.setRole r { v with fails := fails }

/-- SESSION_AUTH: the challenge is consumed; a right answer opens the session, closing the role's earlier one (R462, R463). Log entry 289 (DESIGN CHOICE). -/
def execSessionAuth (mb : Fin 16) (s : State) : Res :=
  hostCmd s mb 0x1102 fun c s =>
    match findChallenge s (bodyWord c 0) with
    | none => fail s .noObject
    | some (r, q) =>
      let s := s.setRole r { s.role r with challenge := none }
      if r = 2 && !c.maker then fail s .noRight
      else if second < s.up - q.opened then fail s .timeout
      else
        match credential s r with
        | none => fail s .noObject
        | some cred =>
          if (c.body.drop 4).take 16 = authAnswer cred r q then
            let s := s.closeSession r
            let s := s.loadKey (sessionSlot r) ⟨sessionKey cred r q, true⟩
            okay (s.setRole r { s.role r with session := some { id := q.id, lastUse := s.up } }) [leNat (authProof cred r q)]
          else fail (s.failAnswer r) .authFail

/-- SESSION_CLOSE: the caller's own session closes; its response still carries the MAC under its key (R463). -/
def execSessionClose (mb : Fin 16) (s : State) : Res :=
  hostCmd s mb 0x1103 fun c s =>
    match (s.role c.role).session with
    | some v => okay (if v.id = c.session then s.endSession c.role else s)
    | none => okay s

/-- SESSION_IDLE_EXPIRY: SESSION_IDLE has passed since the role's last accepted request. Log entry 7 (DESIGN CHOICE). -/
def execSessionIdleExpiry (role : Fin 4) (s : State) : Res := .next (s.closeSession role.val)

/-- AUTH_LOCKOUT_EXPIRY: the role may open sessions again. -/
def execAuthLockoutExpiry (role : Fin 4) (s : State) : Res :=
  .next (s.setRole role.val { s.role role.val with locked := false })

/-- MAKER_EN_CHANGE: the debounced level changes; deasserted, the maker session closes (R459). -/
def execMakerEnChange (level : Bool) (s : State) : Res :=
  .next <|
    if s.roles.makerEn = level then s
    else
      let s := { s with roles.makerEn := level }
      let s := if level then s else s.closeSession 2
      s.raise .MAKER_EN_CHANGE (srcChip 22) regC (evData [] (b2n level))

/-- A credential arriving wrapped under the session's key, checked and stored under the device storage key (R345, R458). -/
def storeCredential (s : State) (c : Cmd) (r wrapped : Nat) : Option State :=
  match c.key.bind (fun k => Config.keyUnwrap k wrapped) with
  | none => none
  | some v => some (s.setRole r { s.role r with wrapped := some (Config.keyWrap Config.storageKey v) })

/-- CRED_ENROL: the installer credential is stored, ENROLLED is blown and the enrolment session closes; a second enrolment fails with
EXISTS (R460). -/
def execCredEnrol (mb : Fin 16) (wrapped : Nat) (s : State) : Res :=
  hostCmd s mb 0x1110 fun c s =>
    if s.roles.enrolled then fail s .alreadyExists
    else
      match storeCredential s c 1 wrapped with
      | none => fail s .authFail
      | some s =>
        let s := { s with roles.enrolled := true }
        okay ((s.closeSession 3).raise .CRED_ENROLLED (srcChip 22) regC 0)

/-- CRED_SET: a new operator credential; an open operator session closes (R461). -/
def execCredSet (mb : Fin 16) (wrapped : Nat) (s : State) : Res :=
  hostCmd s mb 0x1111 fun c s =>
    match storeCredential s c 0 wrapped with
    | none => fail s .authFail
    | some s => okay ((s.closeSession 0).raise .CRED_CHANGED (srcChip 22) regC 0)

/-! ### Audit (R465 to R468) -/

/-- AUDIT_SUMMARY: at the end of a second the refusals beyond 16 are one summary record. -/
def execAuditSummary (s : State) : Res :=
  .next <|
    let n := s.roles.audit.excess
    let s := if n = 0 then s else s.auditAdd ⟨s.now % 2 ^ 48, 0, 0xFF, 7, 0, false, n % 2 ^ 32, 0⟩
    { s with roles.audit.refusals := 0, roles.audit.excess := 0 }

/-- Records not yet persisted. -/
def unpersisted (a : Audit) : Nat := a.next - a.persisted

/-- The responses held for records now in the flash are posted. -/
def State.releaseHeld (s : State) : State :=
  (s.mb.keys (fun _ m => match m.cmd with
    | some c => c.reply.isSome
    | none => false)).foldl
    (fun s n => match (s.mbox n).cmd with
      | some c => match c.reply with
        | some (st, d, b) => s.post n c st d b
        | none => s
      | none => s) s

/-- Unpersisted records and the chain value after them are written to the audit area, or the write fails (R468). -/
def State.persist (s : State) (ok : Bool) : State :=
  let a := s.roles.audit
  if ok then
    let flash := a.flash ++ a.ring.filter (fun e => decide (a.persisted ≤ e.1))
    let gone := flash.take (flash.length - 4096)
    let s := { s with roles.audit := { a with persisted := a.next, flash := flash.drop (flash.length - 4096),
                                              flashBase := (gone.getLast?.map fun (e : Nat × AuditRec × Nat) => e.2.2) <|> a.flashBase,
                                              oldestUnpersisted := none, failing := false } }
    s.releaseHeld
  else
    let s := { s with roles.audit.failing := true }
    s.raise .AUDIT_PERSIST_FAIL (srcChip 23) regC (evData [] (unpersisted a))

/-- AUDIT_PERSIST: at 64 records, after 1 s, or for a critical command; `ok` is the flash's answer. -/
def execAuditPersist (ok : Bool) (s : State) : Res :=
  .next (if unpersisted s.roles.audit = 0 then s else s.persist ok)

/-- AUDIT_PERSIST_RETRY: every 1 s after a failed flash write. -/
def execAuditPersistRetry (ok : Bool) (s : State) : Res :=
  .next (if s.roles.audit.failing then s.persist ok else s)

/-- AUDIT_READ: records still held from a start number, C of the record before the first, the head number and the chain value (R467). -/
def execAuditRead (mb : Fin 16) (start count : Nat) (s : State) : Res :=
  hostCmd s mb 0x1120 fun _ s =>
    let a := s.roles.audit
    if count = 0 || 200 < count then fail s .badArg
    else
      match a.ring.find? (fun e => e.1 == start) with
      | none => fail s .noObject
      | some _ =>
        let before := match a.ring.find? (fun e => e.1 + 1 == start) with
          | some e => e.2.2
          | none => a.base.getD chainStart
        let out := (a.ring.filter (fun e => decide (start ≤ e.1))).take count
        okay s (out.map (fun e => (auditValue e.2.1 : Int)) ++ [(before : Int), (a.next : Int) - 1, (chainOf a.ring : Int)])

/-! ### Calibration (R469, R470) -/

/-- Instances of an item (Table 18.3). -/
def calInstances (item : Nat) : Nat :=
  match item with
  | 1 => 64 | 2 => 32 | 3 => 34 | 4 => 80 | 5 => 64 | 6 => 3328 | 7 => 32 | 8 => 1 | _ => 0

/-- Does the clamp of R469 change what an overlay asks for? -/
def calClamped (o : Option Overlay) (item inst : Nat) : Bool :=
  calClamp item inst (calAsked o item inst) != calAsked o item inst

/-- CAL_READ: factory value, overlay entry (present, replacement, value), effective value and the clamp flag of an item's instance. -/
def execCalRead (mb : Fin 16) (item inst : Nat) (s : State) : Res :=
  hostCmd s mb 0x1130 fun _ s =>
    if inst < calInstances item then
      let user := match calEntry s.roles.overlay item inst with
        | some e => [1, (b2n e.replace : Int), e.value]
        | none => [0, 0, 0]
      okay s ([Config.calF item inst] ++ user ++
        [calEffective s.roles.overlay item inst, b2n (calClamped s.roles.overlay item inst)])
    else fail s .badArg

/-- The entries of an overlay's body (R470). -/
def overlayEntries : Nat → List Byte → List CalEntry
  | 0, _ => []
  | n + 1, bs =>
    ⟨leNat (bs.take 2), leNat ((bs.drop 2).take 2), leNat ((bs.drop 4).take 4) == 1, signedOf 64 (leNat ((bs.drop 8).take 8))⟩
      :: overlayEntries n (bs.drop 16)

/-- Modes of the entries: 0 or 1. -/
def overlayModes : Nat → List Byte → Bool
  | 0, _ => true
  | n + 1, bs => leNat ((bs.drop 4).take 4) ≤ 1 && overlayModes n (bs.drop 16)

/-- An entry of an item that takes an overlay, at an instance it has. -/
def calEntryValid (e : CalEntry) : Bool := 1 ≤ e.item && e.item ≤ 5 && decide (e.inst < calInstances e.item)

/-- The stored overlay version. -/
def storedVersion (s : State) : Nat :=
  max ((s.roles.overlayA.map (·.version)).getD 0) ((s.roles.overlayB.map (·.version)).getD 0)

/-- Every clamped entry raises CAL_CLAMPED. -/
def State.reportClamps (s : State) (o : Overlay) : State :=
  o.entries.foldl (fun s e => if calClamped (some o) e.item e.inst then
      s.raise .CAL_CLAMPED (srcChip 22) regC (evData [(4, e.item)] e.inst) else s) s

/-- CAL_OVERLAY_WRITE: a whole signed overlay replaces the previous one; it is written to the inactive flash copy (R470). -/
def execCalOverlayWrite (mb : Fin 16) (s : State) : Res :=
  hostCmd s mb 0x1131 fun c s =>
    let version := bodyWord c 0
    let n := bodyWord c 1
    let content := c.body.take (8 + 16 * n)
    if n = 0 || 240 < n || c.body.length != 8 + 16 * n + 16 then fail s .badArg
    else if (credential s 1).map (fun k => Config.cmac k content) != some (c.body.drop (8 + 16 * n)) then fail s .authFail
    else if version ≤ storedVersion s then fail s .badArg
    else
      let es := overlayEntries n (c.body.drop 8)
      if overlayModes n (c.body.drop 8) && es.all calEntryValid then
        let o : Overlay := ⟨version, es⟩
        let aOlder := decide ((s.roles.overlayA.map (·.version)).getD 0 ≤ (s.roles.overlayB.map (·.version)).getD 0)
        let s := if aOlder then { s with roles.overlayA := some o } else { s with roles.overlayB := some o }
        let s := { s with roles.overlay := some o }
        okay (s.reportClamps o) [version, n]
      else fail s .badArg

end Sys2Proof.Machine
end

