-- ==== Sys2Proof/Machine/Bringup.lean ====
section
/-! DEFINITION. Reset and the bring-up sequence (spec/21 R528 to R536, R541, R496). -/
namespace Sys2Proof.Machine

/-! ### Loss of state (R529) -/

/-- A role's credential as the boot flash keeps it. -/
def keptRole (r : RoleState) : RoleState := { wrapped := r.wrapped }

/-- What survives: boot flash and fuses; with them the queue, what has left the device, the inputs, and elapsed time. Log entry 208 (DESIGN CHOICE). Log entry 209 (PRESUMED). -/
def State.blank (s : State) : State :=
  { pending := s.pending
    time := { up := s.time.up }
    clk := { s.clk with selected := false }
    par := { flash := s.par.flash }
    roles := { roles := s.roles.roles.filterMap (fun e => if (keptRole e.2).wrapped.isSome then some (e.1, keptRole e.2) else none)
               makerEn := s.roles.makerEn
               enrolled := s.roles.enrolled
               audit := { flash := s.roles.audit.flash, flashBase := s.roles.audit.flashBase }
               overlayA := s.roles.overlayA
               overlayB := s.roles.overlayB }
    fw := { bootImage := s.fw.bootImage, bootCount := s.fw.bootCount, imageA := s.fw.imageA, imageB := s.fw.imageB, securityMin := s.fw.securityMin }
    host := { perst := s.host.perst }
    fault := { factory := s.fault.factory, log := s.fault.log }
    tap := s.tap
    outbox := s.outbox
    free := s.free }

/-- The device stopped: nothing is driven and no step of bring-up runs. -/
def State.stopped (s : State) (resetN pwrGood thermTripN : Bool) : State :=
  { s.blank with power := { resetN := resetN, pwrGood := pwrGood, thermTripN := thermTripN, dev := .off, stage := 2 } }

/-- RESET_ASSERT: RESET_N falls, or PWR_GOOD does (which releases THERM_TRIP_N). Log entry 207 (DEDUCED). -/
def execResetAssert (pwrGood : Bool) (s : State) : Res :=
  .next (if pwrGood then s.stopped s.power.resetN false true else s.stopped false s.power.pwrGood s.power.thermTripN)

/-- RESET_RELEASE: RESET_N rises with PWR_GOOD high: bring-up begins at step 3. -/
def execResetRelease (s : State) : Res :=
  .next { s.blank with power := { thermTripN := s.power.thermTripN, stepStart := s.up } }

/-! ### Repair map (R496) -/

/-- A spare in a role, from the map. -/
def State.mapSpare (s : State) (sp role : Nat) : State :=
  let s := s.setUnit sp { s.unit sp with state := some .inService, holds := some role }
  s.setUnit role { s.unit role with replacedBy := some sp }

/-- A unit out of the role it held, from the map. -/
def State.mapOut (s : State) (u : Nat) (st : UnitState) (icings cause : Nat) : State :=
  let v := s.unit u
  let s := match v.holds with
    | some role => s.setUnit role { s.unit role with replacedBy := none }
    | none => s
  s.setUnit u { v with state := some st, icings := v.icings + icings, cause := cause, holds := none }

/-- One entry of the factory map: a unit mapped out, and the spare in its place. -/
def State.mapFactory (s : State) (e : Nat × Nat) : State :=
  let s := s.mapOut e.1 .condemned 0 0
  if e.2 = 0 then s else s.mapSpare e.2 e.1

/-- The role a record names is barred to its unit (R501). -/
def State.barRole (s : State) (r : RepairRec) : State :=
  let v := s.unit r.unit
  let u := blockAddr (addrRegion r.unit) r.role
  if r.role = 0xFFFF || v.barred.contains u then s else s.setUnit r.unit { v with barred := v.barred ++ [u] }

/-- One field record. Log entry 211 (DESIGN CHOICE). Log entry 296 (DEDUCED). -/
def State.mapRecord (s : State) (r : RepairRec) : State :=
  match r.action with
  | 1 => if addrLevel r.unit = 2 then s.mapSpare r.unit (blockAddr (addrRegion r.unit) r.role)
    else
      let i := addrRegion r.unit * 256 + addrBlock r.unit
      { s with fault.spareUsed := s.fault.spareUsed.set i (s.fault.spareUsed.get i + 1) }
  | 2 => (s.barRole r).mapOut r.unit .iced 1 r.cause
  | 3 =>
    let i := addrRegion r.unit * 256 + addrBlock r.unit
    let s := if addrLevel r.unit = 1 && unitState s r.unit = .spare then { s with fault.spareUsed := s.fault.spareUsed.set i (s.fault.spareUsed.get i + 1) } else s
    s.mapOut r.unit .condemned 0 r.cause
  | 5 => (s.addSpareCell r.unit).mapOut r.unit .spare 0 0
  | _ => ((s.addSpareCell r.unit).barRole r).mapOut r.unit .spare (if (s.unit r.unit).icings = 0 then 1 else 0) 0

/-- Blocks that are fenced and whose role no spare holds. -/
def unfilled (s : State) : List Nat :=
  s.units.keys (fun u v => addrLevel u == 2 && addrBlock u < 58 && fenced s u && v.replacedBy.isNone && !v.lost)

/-- A role takes a spare at boot, or is lost until step 10 says what that brings. -/
def State.fillRole (s : State) (role : Nat) : State :=
  let r := addrRegion role
  match spareFor s r (addrBlock role) with
  | some n => (s.assign r n role).resume (blockAddr r n) (s.unit role).cause
  | none => s

/-- The map built from the factory map and the field records, the self-test's own among them, and roles assigned. -/
def State.buildMap (s : State) : State :=
  let s := { s with units := [], fault.spareUsed := [] }
  let s := s.fault.factory.foldl State.mapFactory s
  let s := s.fault.log.foldl State.mapRecord s
  (unfilled s).foldl State.fillRole s

/-- The map with the units a Hibernate exit found failed. -/
def State.updateMap (s : State) : State := (unfilled s).foldl State.fillRole s

/-! ### Steps (Table 21.2, Table 21.3) -/

/-- A step ends: its duration in ms is posted, and the next begins. -/
def State.nextStage (s : State) : State :=
  let n := s.power.stage
  { s with power.stageTime := s.power.stageTime.set n ((s.up - s.power.stepStart) / msec), power.stage := n + 1, power.stepStart := s.up }

/-- Bring-up halts at the step in progress: DEV_STATE.FAULTED (R534). -/
def State.halt (s : State) : State := { s with power.halted := true }

/-- An image is valid (R471); `signature` covers the key hash. -/
def imageValid (s : State) (c : ImageCheck) : Bool := c.signature && c.payload && decide (s.fw.securityMin ≤ c.security)

/-- Step 4: the named image, or the other one (R472). -/
def State.bootImage (s : State) (a b : ImageCheck) : State :=
  let named := if s.fw.bootImage then b else a
  let other := if s.fw.bootImage then a else b
  if imageValid s named then
    { s with fw.booted := s.fw.bootImage, fw.running := s.fw.bootImage, fw.header := named, fw.newHeader := other }
  else
    { s with fw.booted := !s.fw.bootImage, fw.running := !s.fw.bootImage, fw.header := other, fw.newHeader := named,
             power.imageFallback := true }

/-- The field log has a unit condemned, and not readmitted since. -/
def loggedOut (s : State) (u : Nat) : Bool :=
  match s.fault.log.reverse.find? (fun r => r.unit == u) with
  | some r => r.action == 3
  | none => false

/-- A control pair after its self-test: one that failed is condemned, and one condemned before stays so (R496). Log entry 212 (DEDUCED). -/
def State.bootPair (s : State) (b pass : Bool) : State :=
  if loggedOut s (pairAddr b) then s.setPairState b .condemned
  else if pass then s
  else s.condemnPair b 10

/-- Step 5: failed pairs and units are condemned; where pair A is, pair B is the active one. Log entry 210 (DESIGN CHOICE). -/
def State.bootTest (s : State) (pairA pairB : Bool) (failed : List Word) : State :=
  let s := (s.bootPair false pairA).bootPair true pairB
  let s := if s.fw.stateA = .condemned then { s with fw.pairB := true, fw.stateB := .active } else s
  (failed.map BitVec.toNat).foldl (fun s u => if loggedOut s u then s else s.condemn u 11) s

/-- The first target, sent as step 7 begins: chosen from the fused voltage-pace table (item 7 of Table 18.3) and the die temperature, the hottest
sensor's, and clamped to [VDD_MIN, VDD_MAX] (R47, R42). How table and temperature give it is left open. -/
def State.firstTarget (s : State) : State :=
  let table := (List.range 32).map (Config.calF 7)
  let temp := (List.range 64).foldl (fun m n => max m (s.ro .TEMP_NOW n)) (s.ro .TEMP_NOW 0)
  s.sendTarget (clampTarget s (Config.firstTarget table temp))

/-- Step 7: AVS_LOCK, or AVS_LIMIT where there is no lock. -/
def State.bootAvs (s : State) (locked : Bool) : State :=
  if !locked then s.raise .AVS_LIMIT (srcChip 17) regC (evData [] (s.ro .CONTROL_PACE).toNat)
  else if s.pace.locked then s
  else ({ s with pace.locked := true }).raise .AVS_LOCK (srcChip 17) regC (evData [] s.pace.target)

/-- Step 8: PON lanes are calibrated where a PON reference is present, else later. -/
def State.bootLanes (s : State) : State :=
  let ref := s.clk.ref0 || s.clk.ref1
  { s with power.ponCalibrated := ref, power.calDeferred := !ref }

/-- Step 9: the DRAM is trained. -/
def State.bootDram (s : State) (bytes : Nat) : State :=
  let s := (List.range 8).foldl (fun s d => s.setDramCh d { s.dramCh d with trained := true }) s
  { s with dramBytes := bytes, power.selfRefresh := [] }

/-- Calibration overlay at boot (R470). Log entry 179 (DESIGN CHOICE). Log entry 215 (DESIGN CHOICE). -/
def State.bootOverlay (s : State) (copies : Nat) (goodA goodB : Bool) : State :=
  let a := if goodA then s.roles.overlayA else none
  let b := if goodB then s.roles.overlayB else none
  let o := match a, b with
    | some x, some y => if x.version < y.version then b else a
    | none, _ => b
    | _, none => a
  let s := { s with roles.overlay := o }
  match o with
  | some x => s.reportClamps x
  | none => s.raise .CAL_OVERLAY_BAD (srcChip 22) regC (evData [] copies)

/-- The audit ring restored, and the boot record that continues the chain (R468). -/
def State.bootAudit (s : State) : State :=
  let a := s.roles.audit
  let next := match a.flash.getLast? with
    | some e => e.1 + 1
    | none => 0
  let s := { s with roles.audit := { a with ring := a.flash, base := a.flashBase, next := next, persisted := next } }
  s.auditAdd ⟨s.now % 2 ^ 48, 0, 0xFE, 7, 0, false, 0, 0⟩

/-- Roles lost at boot now bring what R489 and R484 say. -/
def State.loseUnfilled (s : State) : State := (unfilled s).foldl (fun s u => s.loseRole u u (s.unit u).cause) s

/-- Step 10 of bring-up: what the flash keeps is restored, the other pair stands by, and the device is ready and Active; events held until now
are delivered (R535, R536). Log entry 214 (DESIGN CHOICE). -/
def State.bootReady (s : State) (copies : Nat) (goodA goodB : Bool) : State :=
  let s := { s with par.vals := s.par.flash, par.inForce := s.par.flash }
  let s := (s.bootOverlay copies goodA goodB).bootAudit
  let s := { s with power.ready := true, power.dev := .active, fw.standbyOnRunning := true }
  let s := if s.fw.pairB || s.fw.stateB == PairState.condemned then s else s.setPairState true .standby
  let s := (List.range 64).foldl (fun s c => s.sleepLane (rxLane c)) s
  let s := s.ev.store.foldl State.visible s
  let s := s.loseUnfilled
  if s.power.imageFallback then s.raise .IMAGE_FALLBACK (srcChip 16) regC (b2n s.fw.booted) else s

/-- Step 10 of a Hibernate exit: key slots restored, the device Active, the command answered. -/
def State.exitReady (s : State) : State :=
  let s := { s with cipher.slots := s.cipher.saved, cipher.saved := [] }
  let s := (s.setDevPower .active 0 1).loseUnfilled
  s.respondAll .hibernateExit .ok 0 []

/-- BRINGUP_STEP_DONE: the step in progress ends as Table 21.2, Table 21.3 and Table 21.5 say. Log entry 213 (DEDUCED). Log entry 220 (DESIGN CHOICE). -/
def execBringupStepDone (result : BootStep) (s : State) : Res :=
  .next <|
    let exit_ := s.power.dev == .hibernateExit
    if s.power.halted || !(s.power.dev == .bringup || exit_) then s
    else match s.power.stage, result with
      | 3, .rom => s.nextStage
      | 4, .image a b => if imageValid s a || imageValid s b then (s.bootImage a b).nextStage else s.halt
      | 5, .selfTest pairA pairB failed =>
        if exit_ then ((failed.map BitVec.toNat).foldl (fun s u => (s.mapOut u .condemned 0 11).condemn u 11) s).nextStage
        else if (pairA && !loggedOut s (pairAddr false)) || (pairB && !loggedOut s (pairAddr true)) then
          (s.bootTest pairA pairB failed).nextStage
        else s.halt
      | 6, .repairMap factory =>
        if exit_ then s.updateMap.nextStage.firstTarget
        else ({ s with fault.factory := factory.map (fun (e : Word × Word) => (e.1.toNat, e.2.toNat)) }).buildMap.nextStage.firstTarget
      | 7, .avs locked => (s.bootAvs locked).nextStage
      | 8, .lanes => s.bootLanes.nextStage
      | 9, .dram bytes trained =>
        if !trained || (!exit_ && (bytes < 2 * 2 ^ 30 || 16 * 2 ^ 30 < bytes)) then s.halt
        else (s.bootDram (if exit_ then s.dramBytes else bytes)).nextStage
      | 10, .restore copies goodA goodB =>
        let s := { s.nextStage with power.stage := 10 }
        if exit_ then s.exitReady else s.bootReady copies goodA goodB
      | _, _ => s

end Sys2Proof.Machine
end

