-- ==== Sys2Proof/Machine/Power.lean ====
section
/-! DEFINITION. Power states, temperature and their commands (spec/21 R537 to R547). Log entry 227 (DESIGN CHOICE). -/
namespace Sys2Proof.Machine

/-! ### Dark channel (R538) -/

/-- A terminal in SN_ACQUIRED, RANGING, OPERATION or LOST keeps a channel from going dark. -/
def keepsLight (v : Terminal) : Bool := v.state == .snAcquired || v.state == .ranging || v.state == .operation || v.state == .lost

def lightNeeded (s : State) (c : Nat) : Bool := !(termsOf s c keepsLight).isEmpty

/-- DARK_IDLE_EXPIRY: throughout DARK_IDLE_TIME the channel had no such terminal: it goes dark at the next frame start. -/
def execDarkIdleExpiry (c : Fin 64) (s : State) : Res :=
  .next <|
    if s.getN .DARK_AUTO c = 1 && (s.chan c).enabled && !s.power.dark.get c.val && !lightNeeded s c then
      { s with power.darkDue := s.power.darkDue.set c.val (some (true, 2)) }
    else s

/-- DARK_CHANNEL_EXIT: a terminal acquired on a dark channel has reached OPERATION: active at the next frame start. -/
def execDarkChannelExit (c : Fin 64) (s : State) : Res :=
  .next <|
    if s.power.dark.get c.val && !(termsOf s c (fun v => v.state == .operation)).isEmpty then
      { s with power.darkDue := s.power.darkDue.set c.val (some (false, 3)) }
    else s

/-! ### Standby and Hibernate (R539 to R543) -/

/-- DRAM_SR_IDLE_EXPIRY: in Standby a DRAM channel without a request for DRAM_SR_IDLE enters self-refresh. -/
def execDramSrIdleExpiry (d : Fin 8) (s : State) : Res :=
  .next (if s.power.dev = .standby then { s with power.selfRefresh := s.power.selfRefresh.set d.val true } else s)

/-- The Glacier and telemetry contents are lost. -/
def State.loseEighths (s : State) : State :=
  { s with ev.telRing := [], ev.telHead := 0, ev.telStaged := [], ev.telOpen := [], ev.telUnexported := 0 }

/-- A token is held, or a Glacier run is not empty. -/
def tiedUp (s : State) : Bool := trees.any (holds s) || !(runs_ s).isEmpty

/-- Entry to Standby. -/
def State.enterStandby (s : State) : State :=
  let s := (List.range 128).foldl State.sleepLane s
  s.loseEighths.setDevPower .standby 2 1

/-- Why Hibernate is refused (R540, R549). -/
def hibernateBusy (s : State) : Bool :=
  tiedUp s || (List.range 64).any (fun c => (s.chan c).enabled) || (List.range 32).any (macOn s) || s.fw.progress != .none || someUnderTest s

/-- Entry to Hibernate: key slots wrapped into the system segment, regions 0 to 11 off, the DRAM in self-refresh. Log entry 217 (DESIGN CHOICE). -/
def State.enterHibernate (s : State) : State :=
  let s := { s with cipher.saved := s.cipher.slots, cipher.slots := [] }
  let s := (List.range 11).foldl State.discardRegion s
  let s := (s.restartPort 0).restartPort 1
  let s := { s.loseEighths with power.selfRefresh := (List.range 8).map (fun d => (d, true)) }
  s.setDevPower .hibernate 3 1

/-- The exit from Hibernate begins at step 5 (R541). -/
def State.startExit (s : State) : State :=
  { s with power.dev := .hibernateExit, power.stage := 5, power.stepStart := s.up }

/-- POWER_STATE_SET naming the device. -/
def setDevice (s : State) (code : Nat) : State × Reply :=
  if code = 0 then
    if s.power.dev = .hibernate then (s.startExit, .wait .hibernateExit true) else okay (s.leaveStandby 1)
  else if code = 2 then
    if s.power.dev = .standby then okay s
    else if s.power.dev = .hibernate || tiedUp s then fail s .busy
    else okay s.enterStandby
  else if code = 3 then
    if s.power.dev = .hibernate then okay s
    else if hibernateBusy s then fail s .busy
    else okay s.enterHibernate
  else fail s .badArg

/-- POWER_STATE_SET naming a channel: the change falls due at the next frame start. Log entry 216 (DESIGN CHOICE). -/
def setChannel (s : State) (code c : Nat) : State × Reply :=
  if 64 ≤ c || 1 < code then fail s .badArg
  else if !(s.chan c).enabled || (code = 1 && lightNeeded s c) then fail s .busy
  else if s.power.dark.get c == (code == 1) then okay { s with power.darkDue := s.power.darkDue.set c none }
  else okay { s with power.darkDue := s.power.darkDue.set c (some (code == 1, 1)) }

/-- POWER_STATE_SET (R545). -/
def execPowerStateSet (mb : Fin 16) (s : State) : Res :=
  hostCmd s mb 0x0210 fun c s =>
    let w := bodyWord c 0
    if s.power.dev = .bringup || s.power.dev = .hibernateExit then fail s .busy
    else if bits w 23 0 = 0xFFFFFF then setDevice s (bits w 31 24)
    else setChannel s (bits w 31 24) (bits w 23 0)

/-- Device state code (Table 21.4); during the exit the device is still in Hibernate. Log entry 218 (DESIGN CHOICE). -/
def powerCode (s : State) : Nat :=
  match s.power.dev with
  | .standby => 2
  | .hibernate => 3
  | .hibernateExit => 3
  | _ => 0

/-- DARK_MASK. -/
def darkMask (s : State) : Nat := (List.range 64).foldl (fun n c => n + b2n (s.power.dark.get c) * 2 ^ c) 0

/-- POWER_STATUS: device state, DARK_MASK, VDD_READ, regulator current, CORE_POWER, every TEMP_NOW, every BOOT_STAGE_TIME. -/
def execPowerStatus (mb : Fin 16) (s : State) : Res :=
  hostCmd s mb 0x0211 fun _ s =>
    okay s ([(powerCode s : Int), (darkMask s : Int), s.ro .VDD_READ, (s.pace.current : Int), s.ro .CORE_POWER]
      ++ (List.range 64).map (fun n => s.ro .TEMP_NOW n) ++ (List.range 10).map (fun n => (s.power.stageTime.get (n + 1) : Int)))

/-! ### Temperature (R544) -/

/-- One sensor's reading in 0.1 °C with its offset: alarm and count towards the trip. Log entry 219 (DESIGN CHOICE). -/
def State.sense (s : State) (n : Nat) (raw : Int) : State :=
  let v := raw + calEffective s.roles.overlay 5 n
  let limit := s.get .TEMP_ALARM_C * 10
  let s := s.setRo .TEMP_NOW n v
  let s := { s with power.tripRun := s.power.tripRun.set n (if s.get .TEMP_TRIP_C * 10 ≤ v then s.power.tripRun.get n + 1 else 0) }
  if limit < v && !s.power.alarmed.get n then
    let s := { s with power.alarmed := s.power.alarmed.set n true }
    s.raiseSec .TEMP_ALARM n (srcChip (32 + n)) regC (fun _ => evData [(6, n)] (evSigned 26 (v / 10)))
  else if v ≤ limit - 50 then { s with power.alarmed := s.power.alarmed.set n false }
  else s

/-- Every sensor of a sample, in order. -/
def State.senseAll (s : State) (n : Nat) : List Int → State
  | [] => s
  | t :: l => State.senseAll (if n < 64 then s.sense n t else s) (n + 1) l

/-- TEMP_SAMPLE: the sensors are read; a trip drives THERM_TRIP_N low and stops the device as under R529. -/
def execTempSample (temps : List Int) (s : State) : Res :=
  .next <|
    if s.power.dev = .off then s
    else
      let s := s.senseAll 0 temps
      if s.power.tripRun.any (fun e => decide (3 ≤ e.2)) then s.stopped s.power.resetN s.power.pwrGood false else s

end Sys2Proof.Machine
end

