-- ==== Sys2Proof/Machine/Firmware.lean ====
section
/-! DEFINITION. Firmware update and the identity of the device (spec/17 R450 to R454, Table 16.1). -/
namespace Sys2Proof.Machine

/-! ### Identity (R407) -/

/-- DEV_IDENT and FW_VERSION. -/
def devIdent : Nat := 0x3250 * 2 ^ 16 + 0xB1 * 2 ^ 8
def versionWord (h : ImageCheck) : Nat := h.major % 256 * 2 ^ 24 + h.minor % 256 * 2 ^ 16 + h.build % 65536

/-- DEV_STATE.FAULTED: bring-up has halted, a region is iced, or the chip handler holds a fault. -/
def devFaulted (s : State) : Bool :=
  s.power.halted || !(heldBy (s.handler 0)).isEmpty || (List.range 13).any (fun r => fenced s (regionAddr r))

/-- DEV_STATE. -/
def devState (s : State) : Nat :=
  s.power.stage * 2 ^ 28 + b2n s.power.ready * 2 ^ 27 + b2n s.fw.pairB * 2 ^ 26 + b2n s.fw.booted * 2 ^ 25 + b2n (devFaulted s) * 2 ^ 24

/-- IDENT_READ: identity and stepping, firmware version, serial number. -/
def execIdentRead (mb : Fin 16) (s : State) : Res :=
  hostCmd s mb 0x0101 fun _ s => okay s [(devIdent : Int), (versionWord s.fw.header : Int), (Config.serial : Int)]

/-! ### Update (R450 to R452) -/

/-- Bytes of an image area (Table 18.5), and of an erase sector. -/
def imageSize : Nat := 24 * 2 ^ 20
def sectorSize : Nat := 65536

/-- Sectors that a write of `n` bytes at `off` reaches. -/
def sectorsOf (off n : Nat) : List Nat := (List.range ((off + n - 1) / sectorSize + 1 - off / sectorSize)).map (off / sectorSize + ·)

/-- An image with a sector erased. -/
def eraseSector (t : Tab (Option Byte)) (k : Nat) : Tab (Option Byte) := t.filter (fun e => e.1 / sectorSize != k)

/-- The image not running. -/
def otherImage (s : State) : Tab (Option Byte) := if s.fw.running then s.fw.imageA else s.fw.imageB

def State.setOther (s : State) (t : Tab (Option Byte)) : State := if s.fw.running then { s with fw.imageA := t } else { s with fw.imageB := t }

/-- The version in the first bytes of an image (Table 18.4). -/
def headOf (data : List Byte) : ImageCheck :=
  ⟨false, false, (data.getD 6 0xFF).toNat, (data.getD 7 0xFF).toNat, beNat ((data.drop 8).take 2), 0, 0⟩

/-- Data programmed into the image not running; sectors it is the first to reach are erased first, a write at offset 0 beginning an update. -/
def State.program (s : State) (off : Nat) (data : List Byte) : State :=
  let done := if off = 0 then [] else s.fw.erasedSectors
  let fresh := (sectorsOf off data.length).filter (fun k => !done.contains k)
  let t := fresh.foldl eraseSector (otherImage s)
  let s := { s with fw.erasedSectors := done ++ fresh }
  let s := if off = 0 then { s with fw.newHeader := headOf data } else s
  s.setOther (t.setRange off (data.map some))

/-- FW_IMAGE_WRITE: 1 to 4,000 bytes at an offset of the image not running. Log entry 175 (DESIGN CHOICE). -/
def execFwImageWrite (mb : Fin 16) (s : State) : Res :=
  hostCmd s mb 0x0110 fun c s =>
    let off := bodyWord c 0
    let n := bodyWord c 1
    let data := (c.body.drop 8).take n
    if s.fw.progress != .none then fail s .busy
    else if n = 0 || 4000 < n || c.body.length != 8 + n || imageSize < off + n then fail s .badArg
    else if off != 0 && s.fw.erasedSectors.isEmpty then fail s .badArg
    else okay (s.program off data)

/-- FW_ACTIVATE: the other image, as its check finds it, is loaded into the standby pair, which rebuilds its handler state. -/
def execFwActivate (mb : Fin 16) (check : ImageCheck) (s : State) : Res :=
  hostCmd s mb 0x0111 fun _ s =>
    if s.fw.progress != .none || s.power.dev = .hibernate || s.power.dev = .hibernateExit then fail s .busy
    else if pairState s (!s.fw.pairB) != .standby then fail s .faulted
    else if !imageValid s check then fail s .authFail
    else if check.stateFormat != s.fw.header.stateFormat then fail s .badArg
    else
      let s := { s with fw.newHeader := check, fw.progress := .rebuilding, fw.standbyOnRunning := false }
      (s.setPairState (!s.fw.pairB) .restarting, .wait .firmware true)

/-- FW_UPDATE_FAIL with the step and the pair. -/
def State.updateFail (s : State) (step : Nat) : State :=
  s.raise .FW_UPDATE_FAIL (srcChip 16) regC (evData [(3, step)] (b2n (!s.fw.pairB)))

/-- FW_REBUILD_TIMEOUT: the standby pair returns to the running image and the command fails. -/
def execFwRebuildTimeout (s : State) : Res :=
  .next <|
    if s.fw.progress == .rebuilding then
      let s := { s with fw.progress := .none, fw.standbyOnRunning := true }
      ((s.setPairState (!s.fw.pairB) .standby).updateFail 3).respondAll .firmware .faulted 0 []
    else s

/-- FW_STANDBY_LOAD_DONE: the former active pair stands by on the new image, or is handled as a control pair fault. -/
def execFwStandbyLoadDone (ok : Bool) (s : State) : Res :=
  .next <|
    if s.fw.progress == .loading then
      let s := { s with fw.progress := .none, fw.standbyOnRunning := true }
      if ok then s.setPairState (!s.fw.pairB) .standby
      else (s.updateFail 6).failPair (!s.fw.pairB)
    else s

/-- FW_COMMIT: the running image becomes the boot image; its security version raises the minimum (R452, R471, R472). Log entry 176 (DEDUCED). -/
def execFwCommit (mb : Fin 16) (s : State) : Res :=
  hostCmd s mb 0x0112 fun _ s =>
    okay { s with fw.bootImage := s.fw.running, fw.bootCount := (s.fw.bootCount + 1) % 2 ^ 32,
                  fw.securityMin := max s.fw.securityMin s.fw.header.security }

/-- Progress of an update as FW_STATUS shows it. -/
def progressCode : FwProgress → Nat
  | .none => 0
  | .rebuilding => 1
  | .loading => 2

/-- FW_STATUS: versions of images A and B, boot image, running image, update progress. -/
def execFwStatus (mb : Fin 16) (s : State) : Res :=
  hostCmd s mb 0x0113 fun _ s =>
    let run := versionWord s.fw.header
    let other := versionWord s.fw.newHeader
    okay s ((if s.fw.running then [other, run] else [run, other]).map Int.ofNat
      ++ [(b2n s.fw.bootImage : Int), (b2n s.fw.running : Int), (progressCode s.fw.progress : Int)])

/-- FW_STATE (R455). -/
def fwState (s : State) : Nat :=
  b2n s.fw.bootImage * 8 + b2n s.fw.running * 4 + b2n (s.fw.progress != .none) * 2
    + b2n (s.fw.standbyOnRunning && pairState s (!s.fw.pairB) == .standby)

end Sys2Proof.Machine
end

