-- ==== Sys2Proof/Machine/BarRead.lean ====
section
/-! DEFINITION. What a read of BAR 0 returns: identity, mailboxes, channels, MSI-X (R10, R406, R407, R409, R411, R428). -/
namespace Sys2Proof.Machine

/-! ### Identity and status (Table 16.1) -/

def identReg (s : State) (off : Nat) : Nat :=
  match off with
  | 0x00 => devIdent
  | 0x04 => versionWord s.fw.header
  | 0x08 => devState s
  | 0x0C => s.now % 2 ^ 32
  | 0x10 => s.host.timeHiLatch
  | 0x14 => Config.serial % 2 ^ 32
  | 0x18 => Config.serial / 2 ^ 32 % 2 ^ 32
  | 0x1C => s.host.bar2Base * 2 ^ 26
  | 0x20 => s.host.flrCount
  | 0x24 => s.host.width * 2 ^ 28 + s.host.speed * 2 ^ 24
  | _ => 0

/-! ### Mailboxes (Tables 17.1, 17.4) -/

def mbStateCode : MbState → Nat
  | .idle => 0 | .posted => 1 | .running => 2 | .respReady => 3 | .reset => 4

/-- A control register of mailbox `n`; RING is write-only and reads 0. -/
def mbReg (s : State) (n off : Nat) : Nat :=
  let m := s.mbox n
  match off with
  | 0x04 => mbStateCode m.state * 2 ^ 29 + b2n m.respReady * 2 ^ 28 + b2n m.doorbellErr * 2 ^ 27 + m.lastSeq
  | 0x08 => b2n m.irqEn * 2 ^ 31 + mbVector n m
  | 0x0C => m.completed
  | _ => 0

/-- The response area of a mailbox: header and body of the response it holds, zeros behind it. Log entry 275 (DESIGN CHOICE). -/
def respArea (m : Mailbox) : List Byte :=
  match m.response with
  | none => []
  | some r =>
    let body := bodyBytes r.code r.body
    leBytes 4 (r.code * 2 ^ 16 + r.seq) ++ leBytes 4 r.session ++ leBytes 4 (r.status * 2 ^ 24 + b2n r.switched * 2 ^ 23 + min body.length 4064)
      ++ leBytes 4 r.detail ++ leBytes 8 r.mac ++ leBytes 8 r.doneTime ++ body.take 4064

/-- A word of a mailbox's two areas. -/
def mbArea (s : State) (n off : Nat) : Nat :=
  if off < 0x1000 then leNat ((s.mbox n).request.getRange off 4) else leNat (((respArea (s.mbox n)).drop (off - 0x1000)).take 4)

/-! ### Channels (Table 16.4) -/

/-- A register of a trigger set at its offset from 0x20 or 0x60. -/
def trigReg (t : TrigSet) (off : Nat) : Nat :=
  match off with
  | 0x00 => t.fallback * 2 ^ 30 + t.chainSrc * 2 ^ 24
  | 0x04 => t.hi
  | 0x08 => t.lo
  | 0x0C => t.timer
  | 0x10 => t.burst
  | 0x14 => t.count * 2 ^ 16 + t.time
  | _ => 0

/-- A register of channel `c`; RESUME and COMMIT set an action that is over at once and read 0. Log entry 277 (DESIGN CHOICE). -/
def chReg (s : State) (c off : Nat) : Nat :=
  let d := s.ch c
  match off with
  | 0x00 => b2n d.enable * 2 ^ 31 + b2n d.abort * 2 ^ 30 + d.func * 2 ^ 26 + chVector c d * 2 ^ 20 + b2n d.irqEn * 2 ^ 19
  | 0x04 => chStateCode d.state * 2 ^ 29 + b2n d.req * 2 ^ 28 + b2n d.lateWrite * 2 ^ 27 + b2n d.abortDone * 2 ^ 26 + b2n d.descErr * 2 ^ 25
      + b2n d.busErr * 2 ^ 24 + b2n d.cfgErr * 2 ^ 23 + b2n d.irqPend * 2 ^ 22 + d.errIndex
  | 0x08 => d.ringBaseLo
  | 0x0C => d.ringBaseHi
  | 0x10 => d.ringLog2
  | 0x14 => d.head
  | 0x18 => d.tail
  | 0x1C => d.doneCount
  | 0x38 => min (fill s c) (2 ^ 24 - 1)
  | 0x3C => d.residue
  | 0x78 => b2n d.pending * 2
  | _ => if 0x20 ≤ off && off < 0x38 then trigReg d.oper (off - 0x20) else if 0x60 ≤ off && off < 0x78 then trigReg d.shadow (off - 0x60) else 0

/-! ### MSI-X (R409) -/

def msixReg (s : State) (vec off : Nat) : Nat :=
  let e := s.host.msix.get vec
  match off with
  | 0 => e.addrLo
  | 4 => e.addrHi
  | 8 => e.data
  | _ => b2n e.masked

/-- A word of the PBA: pending bits of 32 vectors, the lowest in bit 0. -/
def pbaWord (s : State) (first : Nat) : Nat := (List.range 32).foldl (fun n i => n + b2n (s.host.pba.get (first + i)) * 2 ^ i) 0

/-! ### A read -/

/-- What an aligned 32-bit read of a BAR 0 offset returns; 0 where no table defines the offset (R406). -/
def bar0Value (s : State) (a : Nat) : Nat :=
  if a < 0x10000 then identReg s a
  else if a < 0x30000 then mbArea s ((a - 0x10000) / 0x2000) ((a - 0x10000) % 0x2000)
  else if a < 0x30400 then mbReg s ((a - 0x30000) / 0x40) ((a - 0x30000) % 0x40)
  else if 0x40000 ≤ a && a < 0x44000 then chReg s ((a - 0x40000) / 0x100) ((a - 0x40000) % 0x100)
  else if 0x80000 ≤ a && a < 0x80400 then msixReg s ((a - 0x80000) / 16) ((a - 0x80000) % 16)
  else if a = 0x80800 then pbaWord s 0
  else if a = 0x80804 then pbaWord s 32
  else 0

/-- What a read leaves behind: an RC field cleared (Table 0.7), the high word of device time latched (R407). -/
def State.bar0ReadEffect (s : State) (a : Nat) : State :=
  if a = 0x0C then { s with host.timeHiLatch := s.now / 2 ^ 32 }
  else if a = 0x20 then { s with host.flrCount := 0 }
  else if 0x30000 ≤ a && a < 0x30400 && a % 0x40 = 0x0C then
    let n := (a - 0x30000) / 0x40
    s.setMbox n { s.mbox n with completed := 0 }
  else if 0x40000 ≤ a && a < 0x44000 && a % 0x100 = 0x1C then
    let c := (a - 0x40000) / 0x100
    s.setCh c { s.ch c with doneCount := 0 }
  else s

/-- A read of BAR 0: its data returned and its effect; an access that is not an aligned 32-bit one returns all ones and is counted (R406). -/
def State.bar0Read (s : State) (a size : Nat) : State :=
  if size = 4 && a % 4 = 0 then (s.bar0ReadEffect a).emit (.readData (bar0Value s a))
  else s.badAccess.emit (.readData (2 ^ (8 * size) - 1))

/-- DEVICE_TIME_LO_READ: the low word, with the high word latched (R407). -/
def execDeviceTimeLoRead (s : State) : Res := .next (s.bar0Read 0x0C 4)

/-- HOST_FLR_COUNT_READ: FLRs since the last read, then zero. -/
def execHostFlrCountRead (s : State) : Res := .next (s.bar0Read 0x20 4)

/-- DONE_COUNT_READ: a channel's DONE_COUNT, then zero. -/
def execDoneCountRead (c : Fin 64) (s : State) : Res := .next (s.bar0Read (0x4001C + c.val * 0x100) 4)

/-- MB_COUNT_READ: a mailbox's COMPLETED, then zero. -/
def execMbCountRead (n : Fin 16) (s : State) : Res := .next (s.bar0Read (0x3000C + n.val * 0x40) 4)

end Sys2Proof.Machine
end

