-- ==== Sys2Proof/Machine/FaultCmds.lean ====
section
/-! DEFINITION. Fault and repair commands (spec/19 R501, R502, R504), factory tests (R562), and the read-only items of Table 19.11. -/
namespace Sys2Proof.Machine

/-- An address that names a unit of the device (Table 19.1); cells are checked against 2^16, and a field below the level reads 0. -/
def unitExists (u : Nat) : Bool :=
  let r := addrRegion u
  let b := addrBlock u
  let cell := u % 65536
  let block := r < 13 && (b < blockCount r || (spareRows r).any (fun x => x.1.contains b))
  if addrLevel u = 1 then block
  else if addrLevel u = 2 then block && cell == 0
  else if addrLevel u = 3 then r < 13 && b == 0 && cell == 0
  else addrLevel u == 4 && r == 12 && b == 0 && cell < 2

/-- Pair a unit address names. -/
def pairOfAddr (u : Nat) : Bool := u % 2 == 1

/-- State of a unit as Table 19.2 codes it; of a control pair, in service while active, spare while it stands by, iced while it restarts or
is absent. Log entry 191 (DESIGN CHOICE). -/
def unitCode (s : State) (u : Nat) : Nat :=
  if addrLevel u = 4 then
    match pairState s (pairOfAddr u) with
    | .active => 0
    | .standby => 1
    | .condemned => 4
    | _ => 3
  else
    match unitState s u with
    | .inService => 0
    | .spare => 1
    | .suspect => 2
    | .iced => 3
    | .condemned => 4

/-- One entry as FAULT_STATUS returns it. -/
def faultWords (s : State) (e : FaultEntry) : List Int := [(e.unit : Int), (e.cause : Int), ((s.up - e.since : Nat) : Int), (b2n e.again : Int)]

/-- FAULT_STATUS: every handler's slot and queue. -/
def execFaultStatus (mb : Fin 16) (s : State) : Res :=
  hostCmd s mb 0x1201 fun _ s =>
    okay s ((s.fault.handlers.map (fun h => [(h.1 : Int), (b2n h.2.slot.isSome : Int), (h.2.queue.length : Int)]
      ++ ((heldBy h.2).map (faultWords s)).flatten)).flatten)

/-- What UNIT_STATUS returns of one unit: state, role, cause, spare cells left, readmission tests passed. -/
def unitWords (s : State) (u : Nat) : List Int :=
  [(unitCode s u : Int), (roleNumber (roleOf s u) : Int), ((s.unit u).cause : Int),
   (spareCellsLeft s (addrRegion u * 256 + addrBlock u) : Int), ((s.unit u).testPoints : Int)]

/-- Blocks of a region, its spare blocks with them. -/
def regionBlocks (r : Nat) : List Nat := List.range (blockCount r) ++ ((spareRows r).map (·.1)).flatten

/-- UNIT_STATUS: a unit, or every block of a region. -/
def execUnitStatus (mb : Fin 16) (unit : Word) (s : State) : Res :=
  hostCmd s mb 0x1202 fun _ s =>
    let u := unit.toNat
    if !unitExists u then fail s .badArg
    else if addrLevel u = 3 then
      okay s ((unitCode s u : Int) :: ((regionBlocks (addrRegion u)).map (fun b => unitWords s (blockAddr (addrRegion u) b))).flatten)
    else okay s (unitWords s u)

/-- READMIT_POLICY: readmission allowed or forbidden for the units named, or for the device where none is. Log entry 193 (DESIGN CHOICE). -/
def execReadmitPolicy (mb : Fin 16) (allow : Bool) (units : List Word) (s : State) : Res :=
  hostCmd s mb 0x1203 fun _ s =>
    if units.isEmpty then okay { s with fault.readmitOff := !allow }
    else if !units.all (fun u => unitExists u.toNat) then fail s .badArg
    else okay (units.foldl (fun s u => s.setUnit u.toNat { s.unit u.toNat with forbidden := !allow }) s)

/-- READMIT_OVERRIDE: one run of the three pace points, which ends with `pass`. Log entry 192 (DESIGN CHOICE). -/
def execReadmitOverride (mb : Fin 16) (unit : Word) (pass : Bool) (s : State) : Res :=
  hostCmd s mb 0x1204 fun _ s =>
    let u := unit.toNat
    if !unitExists u || addrLevel u = 3 then fail s .badArg
    else if addrLevel u = 4 then
      if pairState s (pairOfAddr u) != .condemned then fail s .busy
      else if !pass then fail s .faulted
      else okay (((s.setPairState (pairOfAddr u) .standby).logRepair u 4 0xFFFF 0).raiseUnit .UNIT_READMITTED u 1)
    else if !fenced s u then fail s .busy
    else if pass then okay (s.readmit u)
    else fail (if unitState s u == .condemned then s else s.condemn u 11) .faulted

/-- A field record in its 16 bytes, bit 127 first, with its CRC (Table 19.8). -/
def recordBytes (r : RepairRec) : List Byte :=
  let b := beBytes 6 (r.time % 2 ^ 48) ++ beBytes 4 r.unit ++ beBytes 1 r.action ++ beBytes 2 r.role ++ beBytes 1 r.cause
  b ++ beBytes 2 (crcBytes 16 0x1021 0xFFFF b)

/-- The record as words of the response, bit 127 first. -/
def repairWords (r : RepairRec) : List Int :=
  (List.range 4).map (fun i => (beNat (((recordBytes r).drop (4 * i)).take 4) : Int))

/-- REPAIR_MAP_READ: the factory map, and up to 200 field records from `start` on. -/
def execRepairMapRead (mb : Fin 16) (start : Nat) (s : State) : Res :=
  hostCmd s mb 0x1205 fun _ s =>
    okay s ((s.fault.factory.length : Int) :: (s.fault.factory.map (fun e => [(e.1 : Int), (e.2 : Int)])).flatten
      ++ (((s.fault.log.drop start).take 200).map repairWords).flatten)

/-- A unit condemned by the maker: a block or cell at work is replaced first, a region stops, a pair leaves its role. Log entry 194 (DESIGN CHOICE). -/
def State.condemnByMaker (s : State) (u : Nat) : State :=
  let e : FaultEntry := { unit := u, cause := 0, since := s.up, origin := u }
  if addrLevel u = 4 then
    let b := pairOfAddr u
    let was := pairState s b
    let s := s.condemnPair b 0
    if was = .active then s.loseActive else s
  else
    let busy := unitState s u == .inService || unitState s u == .suspect
    let s := if !busy then s
      else if addrLevel u = 1 then s.reportCell e
      else if addrLevel u = 2 then s.reportBlock e
      else s.iceRegion (addrRegion u) 0
    (s.setUnit u { s.unit u with state := some .condemned, cause := 0, testDue := false, testPoints := 0 }).logRepair u 3 (roleNumber u) 0

/-- One record of REPAIR_MAP_WRITE: ACTION 3 condemns, ACTION 6 makes an iced unit a spare. -/
def repairWrite (s : State) (e : Word × Nat) : State × Status × List Int :=
  let u := e.1.toNat
  if !unitExists u || (addrLevel u = 3 && addrRegion u = 12) then (s, .badArg, [])
  else if e.2 = 3 then (s.condemnByMaker u, .ok, [])
  else if e.2 = 6 && addrLevel u < 3 then
    if unitState s u = .iced then (s.toSpare u 6, .ok, []) else (s, .busy, [])
  else (s, .badArg, [])

/-- REPAIR_MAP_WRITE: records appended. -/
def execRepairMapWrite (mb : Fin 16) (records : List (Word × Nat)) (s : State) : Res :=
  hostCmd s mb 0x1206 fun _ s => entriesCmd repairWrite s records

/-- SELF_TEST: a factory test run on a unit, with its result. Log entry 195 (DESIGN CHOICE). -/
def execSelfTest (mb : Fin 16) (unit : Word) (result : Nat) (s : State) : Res :=
  hostCmd s mb 0x1410 fun _ s => if unitExists unit.toNat then okay s [(result : Int)] else fail s .badArg

/-! ### Read-only items (R505) -/

/-- UNIT_COUNTS of a region. -/
def unitCounts (s : State) (r : Nat) : Nat :=
  let n (v : UnitState) : Nat := min 255 (s.units.keys (fun u x => addrRegion u == r && x.state == some v)).length
  min 255 (freeSpares s r).length * 2 ^ 24 + n .iced * 2 ^ 16 + n .condemned * 2 ^ 8 + n .suspect

/-- Handler address of an instance of HANDLER_STATE. -/
def handlerAt (i : Nat) : Nat := if i = 13 then 0 else regionAddr i

/-- HANDLER_STATE of an instance. -/
def handlerState (s : State) (i : Nat) : Nat :=
  let h := s.handler (handlerAt i)
  b2n h.slot.isSome * 2 ^ 31 + h.queue.length * 2 ^ 28 + h.subsumed

end Sys2Proof.Machine
end

