-- ==== Sys2Proof/Machine/Owners.lean ====
section
/-! DEFINITION. Whether a lane's owner is in service (R549). -/
namespace Sys2Proof.Machine

/-- MACs that use an uplink lane. -/
def laneMacs (s : State) (inst : Nat) : List Nat := (List.range 32).filter (fun m => macUsed s m && (macLanes s m).contains inst)

/-- Any lane of a tether port is under test. -/
def portUnderTest (s : State) (p : Nat) : Bool := anyUnderTest s 2 (fun i => i / 17 == p)

/-- The owner is in service: the tree channel, or a MAC that uses the lane; a tether port never is. -/
def ownerInService (s : State) (type inst : Nat) : Bool :=
  match type with
  | 0 => (s.chan (ponLaneChannel inst)).enabled
  | 1 => (laneMacs s inst).any (fun m => s.getN .UPLINK_ENABLE m == 1)
  | _ => false

/-- The owner's link is up. -/
def ownerLinkUp (s : State) (type inst : Nat) : Bool :=
  match type with
  | 1 => (laneMacs s inst).any (fun m => (s.mac m).up)
  | 2 => portUp s (inst / 17)
  | _ => false

/-- The device is paired and the other port has no up group. -/
def tetherTestBusy (s : State) (inst : Nat) : Bool := s.prot.paired && !portUp s (1 - inst / 17)

/-- The first test command on a port takes its groups down. -/
def State.tetherTestStart (s : State) (inst : Nat) : State :=
  if portUnderTest s (inst / 17) then s else s.restartPort (inst / 17)

end Sys2Proof.Machine
end

