-- ==== Sys2Proof/Machine/LaneTestCmds.lean ====
section
/-! DEFINITION. The lane test commands and the test access port (spec/22). -/
namespace Sys2Proof.Machine

/-- The refusals every lane test command shares: the lane word (R548), the owner in service, and on a tether lane the last path to a
paired peer (R549). -/
def laneRefusal (s : State) (w : Nat) : Option Status :=
  if !laneWordOk w then some .badArg
  else if ownerInService s (bits w 31 30) (bits w 7 0) then some .busy
  else if bits w 31 30 == 2 && tetherTestBusy s (bits w 7 0) then some .busy
  else none

/-- The first test command on a tether lane takes its port's groups down. Log entry 222 (DESIGN CHOICE). -/
def State.enterTest (s : State) (type inst : Nat) : State := if type = 2 then s.tetherTestStart inst else s

/-- Combinations of a generator, a checker and a loop that are offered (R553, R557). -/
def comboOk (type inst : Nat) (gen chk : Bool) (loop : Nat) : Bool :=
  !((gen || chk) && loop == 2) && !(gen && loop == 3) && !(isPonRx type inst && chk && loop != 1)

/-- LANE_PRBS_SET: generator and checker of one lane; the checker restarts with its counters at zero and any injection ends
(R551, R555). Log entry 221 (DEDUCED). -/
def execLanePrbsSet (mb : Fin 16) (s : State) : Res :=
  hostCmd s mb 0x1401 fun c s =>
    let w := bodyWord c 0
    let k := bodyWord c 1
    match laneRefusal s w with
    | some st => fail s st
    | none =>
      let type := bits w 31 30
      let inst := bits w 7 0
      let l := s.lane type inst
      if 4 < bits k 29 27 || bits k 25 0 != 0 || !comboOk type inst (k.testBit 31) (k.testBit 30) l.loop then fail s .badArg
      else
        let s := s.enterTest type inst
        okay (s.setLane type inst { gen := k.testBit 31, chk := k.testBit 30, pattern := bits k 29 27, invert := k.testBit 26,
                                    loop := l.loop }) [w, k]

/-- LANE_PRBS_READ: lock, bits compared, errors and lock losses latched together; `compared` and `errors` are what the checker has counted
since they were last latched. With CLEAR the counters are zeroed in the same operation (R554). Log entry 223 (DESIGN CHOICE). -/
def execLanePrbsRead (mb : Fin 16) (compared errors : Nat) (s : State) : Res :=
  hostCmd s mb 0x1402 fun c s =>
    let w := bodyWord c 0
    match laneRefusal s w with
    | some st => fail s st
    | none =>
      let type := bits w 31 30
      let inst := bits w 7 0
      let l := s.lane type inst
      let l := if l.locked then { l with compared := satTo 64 (l.compared + compared), errors := satTo 64 (l.errors + errors) } else l
      let out : List Int := [b2n l.locked, l.compared, l.errors, l.losses]
      okay (s.setLane type inst (if c.flags.testBit 0 then { l with compared := 0, errors := 0, losses := 0 } else l)) out

/-- LANE_ERR_INJECT: BITS inverted bits, COUNT injections, INTERVAL µs between starts; BUSY when the generator is off. A new one replaces
any in progress at the next injection start (R555). -/
def execLaneErrInject (mb : Fin 16) (s : State) : Res :=
  hostCmd s mb 0x1403 fun c s =>
    let w := bodyWord c 0
    let n := bits (bodyWord c 1) 31 24
    let count := bits (bodyWord c 1) 23 0
    let interval := bodyWord c 2
    match laneRefusal s w with
    | some st => fail s st
    | none =>
      let type := bits w 31 30
      let inst := bits w 7 0
      let l := s.lane type inst
      if n = 0 || 64 < n || count = 0 || interval = 0 || 1000000 < interval then fail s .badArg
      else if !l.gen then fail s .busy
      else
        okay (s.setLane type inst (if l.injLeft = 0 then { l with injBits := n, injLeft := count, injInterval := interval }
                                   else { l with injNext := some (n, count, interval) })) [w, n, count, interval]

/-- ERROR_INJECTION: one injection start; a waiting replacement is taken first. -/
def execErrorInjection (type : Fin 3) (inst : Fin 128) (s : State) : Res :=
  .next <|
    let l := s.lane type inst
    let l := match l.injNext with
      | some (n, count, interval) => { l with injBits := n, injLeft := count, injInterval := interval, injNext := none }
      | none => l
    if l.gen && 0 < l.injLeft then
      (s.setLane type inst { l with injLeft := l.injLeft - 1 }).emit (.injected type inst l.injBits)
    else s

/-- Lanes whose loop a command sets: both lanes of a PON pair (R557). -/
def loopLanes (type inst : Nat) : List Nat := if type = 0 then [ponTx inst, ponRx inst] else [inst]

/-- LANE_LOOP_SET: a loop set or cleared (R556, R557); near-end parallel on an uplink or tether lane is exempt from R549 and may be set only
while the owner's link is down. A loop stops the checker's lock. Log entry 292 (DEDUCED). -/
def execLaneLoopSet (mb : Fin 16) (s : State) : Res :=
  hostCmd s mb 0x1404 fun c s =>
    let w := bodyWord c 0
    let loop := bodyWord c 1
    let type := bits w 31 30
    let inst := bits w 7 0
    let clears := loop == 0 && exemptLoop type (s.lane type inst).loop
    let exempt := exemptLoop type loop || clears
    let refusal :=
      if !laneWordOk w || 3 < loop || (type == 0 && loop == 3) then some .badArg
      else if exempt then (if !clears && ownerLinkUp s type inst then some .busy else none)
      else laneRefusal s w
    match refusal with
    | some st => fail s st
    | none =>
      if (loopLanes type inst).all (fun i => comboOk type i (s.lane type i).gen (s.lane type i).chk loop) then
        let s := if exempt then s else s.enterTest type inst
        okay ((loopLanes type inst).foldl (fun s i => s.setLane type i { s.lane type i with loop := loop, locked := false }) s) [w, loop]
      else fail s .badArg

/-- PRBS_LOCK: 1,024 consecutive bits without error; the checker then compares every bit (R552). -/
def execPrbsLock (type : Fin 3) (inst : Fin 128) (s : State) : Res :=
  .next <|
    let l := s.lane type inst
    if l.chk then s.setLane type inst { l with locked := true } else s

/-- PRBS_LOCK_LOSS: more than 128 of 1,024 bits in error; a lock loss is counted and the checker seeds again. `compared` and `errors` are
what it counted up to then. -/
def execPrbsLockLoss (type : Fin 3) (inst : Fin 128) (compared errors : Nat) (s : State) : Res :=
  .next <|
    let l := s.lane type inst
    if l.locked then
      s.setLane type inst { l with locked := false, losses := satTo 16 (l.losses + 1),
                                   compared := satTo 64 (l.compared + compared), errors := satTo 64 (l.errors + errors) }
    else s

/-! ### Boundary scan (R559, R560) -/

/-- The identity code (R559). -/
def idcode : Nat := 0xB * 2 ^ 28 + 0x3250 * 2 ^ 12 + Config.jedecId % 2 ^ 11 * 2 + 1

/-- Instructions through which the boundary register drives the balls. -/
def drivesBy (ir : Nat) : Bool := ir == 0x00 || ir == 0x03 || ir == 0x05 || ir == 0x06

/-- The boundary register drives the balls: only while RESET_N is low (R560). -/
def ballsDriven (s : State) : Bool := drivesBy s.tap.ir && !s.power.resetN

/-- The balls float: HIGHZ, only while RESET_N is low (R560). -/
def ballsFloat (s : State) : Bool := s.tap.ir == 0x04 && !s.power.resetN

/-- An instruction selected. -/
def State.selectTap (s : State) (op : Nat) : State := { s with tap.ir := op }

/-- BYPASS: its register loads 0 and is shifted out. -/
def State.bypassed (s : State) : State := s.emit (.tdo 0)

/-- An instruction that reaches the balls; while RESET_N is high it acts as BYPASS (R560). Log entry 224 (DESIGN CHOICE). -/
def State.reachBalls (s : State) (op : Nat) : State :=
  if s.power.resetN then (s.selectTap op).bypassed else s.selectTap op

/-- TAP_RESET: IDCODE is selected and the balls are released. -/
def execTapReset (s : State) : Res := .next (s.selectTap 0x02)

/-- EXTEST: the boundary register drives the balls, only while RESET_N is low. -/
def execExtest (s : State) : Res := .next (s.reachBalls 0x00)

/-- SAMPLE/PRELOAD: the balls are sampled and the boundary register is preloaded; the balls are never disturbed. -/
def execSamplePreload (balls preload : Nat) (s : State) : Res :=
  .next (({ s with tap := ⟨0x01, preload⟩ }).emit (.tdo balls))

/-- IDCODE: the identity code is shifted out. -/
def execIdcode (s : State) : Res := .next ((s.selectTap 0x02).emit (.tdo idcode))

/-- CLAMP: the preloaded values hold the balls, only while RESET_N is low. -/
def execClamp (s : State) : Res := .next (s.reachBalls 0x03)

/-- HIGHZ: the balls float, only while RESET_N is low. -/
def execHighz (s : State) : Res := .next (s.reachBalls 0x04)

/-- EXTEST_PULSE of IEEE 1149.6, only while RESET_N is low. -/
def execExtestPulse (s : State) : Res := .next (s.reachBalls 0x05)

/-- EXTEST_TRAIN of IEEE 1149.6, only while RESET_N is low. -/
def execExtestTrain (s : State) : Res := .next (s.reachBalls 0x06)

/-- BYPASS: the one-bit bypass register is selected; undefined opcodes select it too. -/
def execBypass (s : State) : Res := .next (s.selectTap 0xFF).bypassed

end Sys2Proof.Machine
end

