-- ==== Sys2Proof/Machine/Learning.lean ====
section
/-! DEFINITION. The learning serialiser, moves and freezes, aging, and the table commands (R259 to R270). -/
namespace Sys2Proof.Machine

/-! ### Moves (R267) -/

/-- Tick count: device time bits [40:26]. -/
def tickOf (s : State) : Nat := s.now / 2 ^ 26 % 32768

/-- Ticks from `a` to `b`, modulo 32,768. -/
def tickDiff (b a : Nat) : Nat := (b + 32768 - a % 32768) % 32768

/-- A freeze until tick `stamp` has ended. -/
def freezeOver (s : State) (stamp : Nat) : Bool := decide (tickDiff (tickOf s) stamp < 16384)

/-- The move window opened at tick `stamp` has passed. -/
def windowOver (s : State) (stamp : Nat) : Bool := decide (s.getN .MOVE_WINDOW * msec < tickDiff (tickOf s) stamp * 2 ^ 26)

/-- MAC_FROZEN, or its clear form. -/
def State.raiseFreeze (s : State) (clear : Bool) (port fid : Nat) : State :=
  s.raiseAs .MAC_FROZEN clear (srcRegion regM 17) regM (evData [(17, port)] fid)

/-- FID of a MAC entry. -/
def fidAt (s : State) (p : Place) (e : Ent) : Nat := keyOf s 1 (placeBucket (s.table 1) p) e / 2 ^ 48 % 4096

/-- Step 1: a freeze that has ended is cleared (R267). -/
def State.endFreeze (s : State) (p : Place) : State :=
  match entryAt (s.table 1) p with
  | some e => match e.v with
    | .mac port _ true stamp =>
      if freezeOver s stamp then (s.writeAt 1 p { e with v := .mac port 0 false stamp }).raiseFreeze true port (fidAt s p e) else s
    | _ => s
  | none => s

/-- An entry after an applied move (R267). -/
def movedTo (passes : Nat) (e : Ent) (port moves stamp : Nat) : Ent :=
  { e with hit := true, age := passes, v := .mac port moves false stamp }

/-- A learn message that finds a dynamic entry on another port (R267). -/
def State.move (s : State) (p : Place) (m : SerMsg) : State :=
  let s := s.endFreeze p
  let v := s.table 1
  match entryAt v p with
  | some e => match e.v with
    | .mac port moves frozen stamp =>
      let tick := tickOf s
      if frozen then s.bump .MOVES_REFUSED 0
      else if moves = 0 || windowOver s stamp then s.writeAt 1 p (movedTo v.passes e m.gem 1 tick)
      else if moves < s.getN .MOVE_LIMIT then s.writeAt 1 p (movedTo v.passes e m.gem (moves + 1) stamp)
      else if s.getN .MOVE_FREEZE_EN = 1 then
        let until_ := (tick + ceilDiv (s.getN .FREEZE_TIME * second) (2 ^ 26)) % 32768
        (s.writeAt 1 p { e with v := .mac port moves true until_ }).raiseFreeze false port m.fid
      else s.writeAt 1 p (movedTo v.passes e m.gem moves stamp)
    | _ => s
  | none => s

/-! ### The serialiser (R264 to R266, R268) -/

/-- A learn message applied (Table 10.5). -/
def State.applyLearn (s : State) (m : SerMsg) (parity : Parity) : State :=
  let k := macKey m.fid m.addr
  let s := match parity with
    | some (t, i) => if t.val = 1 then s.repairSlot 1 (bucketOf s 1 k) i else s
    | none => s
  match findKey s 1 k with
  | none =>
    if bit (s.getN .ANTISPOOF_MODE m.gem) 2 && s.getN .ANTISPOOF_MAC_LIMIT m.gem ≤ learnedOn s m.gem then s.bumpF .LEARN_DROPS 0 15 0
    else (s.insertEntry 1 k false true (.mac m.gem 0 false 0)).1
  | some p =>
    let v := s.table 1
    match entryAt v p with
    | none => s
    | some e =>
      if (macPort e).1 = m.gem then
        s.writeAt 1 p (if e.isStatic then { e with hit := true } else { e with hit := true, age := v.passes })
      else if e.isStatic then s.bump .MOVES_REFUSED 0
      else s.move p m

/-- A message of local origin goes on to the peer once applied (R31, R268). -/
def State.toPeer (s : State) (m : SerMsg) : State := if m.peer then s else s.sendCarrier 2 (.learn { m with peer := true })

/-- A flush names an entry: dynamic, on its GEM index or of its FID (R268). -/
def flushes (s : State) (m : SerMsg) (p : Place) : Bool :=
  (entryAt (s.table 1) p).any (fun e => !e.isStatic && (if m.type = 1 then (macPort e).1 == m.gem else fidAt s p e == m.fid))

/-! ### Host operations (R261, R265, R270) -/

/-- An entry as it is returned, with its recovered key. -/
def entryWords (s : State) (t : Nat) (p : Place) : List Int :=
  match entryAt (s.table t) p with
  | none => []
  | some e => [(keyOf s t (placeBucket (s.table t) p) e : Int), b2n e.isStatic, b2n e.hit, e.age] ++ (match e.v with
    | .flow kind queue meter marker index => [(kind : Int), queue, b2n meter, b2n marker, index]
    | .mac port moves frozen stamp => [(port : Int), moves, b2n frozen, stamp])

/-- The words of the entry that a key has now. -/
def keyWords (s : State) (t key : Nat) : List Int := ((findKey s t key).map (entryWords s t)).getD []

/-- An entry added by host software: inserted, or rewritten in place with REPLACE (R261). Log entry 103 (DESIGN CHOICE). -/
def addEntry (t key : Nat) (flags : Nat) (v : EntVal) (s : State) : State × Status × List Int :=
  let fixed := bit flags 0
  match findKey s t key with
  | none =>
    let r := s.insertEntry t key fixed false v
    (r.1, if r.2 then .ok else .noSpace, if r.2 then keyWords r.1 t key else [])
  | some p =>
    if !bit flags 1 then (s, .alreadyExists, [])
    else
      let s := s.writeAt t p { isStatic := fixed, hit := false, age := (s.table t).passes, rem := remOf s t key, v := v }
      (s, .ok, keyWords s t key)

/-- Fields of a flow entry are in their ranges (Table 10.2). -/
def flowOk (e : FlowArg) : Bool :=
  e.key < 2 ^ 96 && e.kind ≤ 5 &&
    (match e.kind with
      | 0 => e.queue < 65536
      | 1 => e.queue < 16384
      | 5 => e.queue < 4096
      | _ => e.queue = 0) && (if e.marker then e.index < 4096 else e.index < 65536)

def macArgOk (e : MacArg) : Bool := e.fid < 4096 && e.addr < 2 ^ 48 && e.gem < 131072

/-- An entry deleted by key. -/
def deleteKey (t : Nat) (s : State) (key : Nat) : State × Status × List Int :=
  match findKey s t key with
  | none => (s, .noObject, [])
  | some p => (s.deleteAt t p, .ok, [])

/-- The freeze of one address ended, MOVES set to 0. -/
def State.unfreeze (s : State) (fid addr : Nat) : State × Reply :=
  match findKey s 1 (macKey fid addr) with
  | none => fail s .noObject
  | some p => match entryAt (s.table 1) p with
    | some e => match e.v with
      | .mac port _ frozen stamp =>
        let s := s.writeAt 1 p { e with v := .mac port 0 false stamp }
        okay (if frozen then s.raiseFreeze true port fid else s)
      | _ => fail s .noObject
    | none => fail s .noObject

/-- A host operation at its turn, its entries in request order. -/
def State.tableOp (s : State) : TableOp → State × Reply
  | .flowAdd flags l =>
    entriesCmd (fun s (e : FlowArg) => if flowOk e then addEntry 0 e.key flags (.flow e.kind e.queue e.meter e.marker e.index) s else (s, .badArg, [])) s l
  | .flowDelete l => entriesCmd (deleteKey 0) s l
  | .macAdd flags l =>
    entriesCmd (fun s (e : MacArg) => if macArgOk e then addEntry 1 (macKey e.fid e.addr) flags (.mac e.gem 0 false 0) s else (s, .badArg, [])) s l
  | .macDelete l => entriesCmd (deleteKey 1) s (l.map (fun e => macKey e.fid e.addr))
  | .unfreeze fid addr => s.unfreeze fid addr

/-- A command's operation: at once when nothing is queued before it, else at its turn in the serialiser's queue (R31, R265). Log entry 271 (DESIGN CHOICE). -/
def State.joinSerial (s : State) (mb : Fin 16) (o : TableOp) : State × Reply :=
  if s.fwd.serial.isEmpty then s.tableOp o
  else
    ({ s with fwd.serial := s.fwd.serial ++
        [{ type := 3, peer := false, fid := 0, gem := 0, addr := 0, chan := 0, time := s.now % 2 ^ 32, host := some (mb.val, o) }] },
      .wait (.serialTurn mb) true)

/-- The host operations that now head the queue, applied and answered. -/
def State.hostTurns : List SerMsg → State → State
  | [], s => { s with fwd.serial := [] }
  | m :: l, s => match m.host with
    | none => { s with fwd.serial := m :: l }
    | some (mb, o) =>
      let r := s.tableOp o
      State.hostTurns l (match r.2 with
        | .done st detail body => r.1.respondAll (.serialTurn mb) st detail body
        | _ => r.1)

/-- LEARN_MESSAGE_APPLY: the learn message at the head of the serialiser's queue, and the host operations queued right behind it. -/
def execLearnMessageApply (parity : Parity) (s : State) : Res :=
  .next <|
    match s.fwd.serial with
    | [] => s
    | m :: rest => if m.type = 0 then State.hostTurns rest ((s.applyLearn m parity).toPeer m) else s

/-- A flush applied to every entry it names. -/
def State.applyFlush (s : State) (m : SerMsg) : State := ((allPlaces (s.table 1)).filter (flushes s m)).foldl (fun s p => s.deleteAt 1 p) s

/-- MAC_FLUSH_APPLY: the flush at the head of the serialiser's queue, and the host operations queued right behind it. -/
def execMacFlushApply (s : State) : Res :=
  .next <|
    match s.fwd.serial with
    | [] => s
    | m :: rest => if m.type = 1 || m.type = 2 then State.hostTurns rest ((s.applyFlush m).toPeer m) else s

/-! ### Aging (R262, R263) -/

/-- A pass of a table's scanner starts. -/
def State.startPass (s : State) (t : Nat) : State :=
  let v := s.table t
  s.setTable t { v with passes := (v.passes + 1) % 256, scanning := true }

/-- AGING_PASS_START: a pass starts, at the AGING_PERIOD now; 0 stops the scanner. Log entry 104 (DESIGN CHOICE). -/
def execAgingPassStart (table : Fin 2) (s : State) : Res :=
  .next (if s.getN .AGING_PERIOD table = 0 then s.setTable table { s.table table with scanning := false } else s.startPass table)

/-- The scanner's compare-and-clear of one entry. -/
def State.scanEntry (s : State) (t : Nat) (p : Place) : State :=
  let s := if t = 1 then s.endFreeze p else s
  match entryAt (s.table t) p with
  | none => s
  | some e =>
    if e.isStatic then s
    else if e.hit then s.writeAt t p { e with hit := false }
    else if t = 1 && (macPort e).2 then s
    else (s.deleteAt t p).bump .AGED_OUT t

/-- AGING_SCAN: the scanner visits a slot (bucket × 4 + slot) or an overflow entry. -/
def execAgingScan (table : Fin 2) (ovf : Bool) (index : Nat) (s : State) : Res :=
  .next (if (s.table table).scanning then s.scanEntry table (if ovf then .ovf index else .slot (index / 4) (index % 4)) else s)

/-- One entry of the sweep: a freeze ended, or the moves of a window that has passed zeroed (R267). -/
def State.sweepEntry (s : State) (p : Place) : State :=
  let s := s.endFreeze p
  match entryAt (s.table 1) p with
  | some e => match e.v with
    | .mac port moves false stamp => if moves != 0 && windowOver s stamp then s.writeAt 1 p { e with v := .mac port 0 false stamp } else s
    | _ => s
  | none => s

/-- MOVE_WINDOW_SWEEP: M.29 visits every MAC entry. -/
def execMoveWindowSweep (s : State) : Res := .next ((allPlaces (s.table 1)).foldl State.sweepEntry s)

/-! ### Table commands (R270) -/

/-- An extract is in its limits (R248). -/
def extractOk (w : Nat) : Bool :=
  let lim := if extSrc w = 3 then 28 else 384
  w % 2 ^ 14 = 0 && extLen w ≤ 88 && extStart w + extLen w ≤ lim && w < 2 ^ 32

/-- FLOW_PROFILE_SET. -/
def execFlowProfileSet (mb : Fin 16) (profile : Nat) (extracts : List Nat) (s : State) : Res :=
  hostCmd s mb 0x0901 fun _ s =>
    if 256 ≤ profile || extracts.length != 4 || !extracts.all extractOk || 88 < extracts.foldl (fun n w => n + extLen w) 0 then fail s .badArg
    else okay { s with fwd.profiles := s.fwd.profiles.set profile (some extracts) } (extracts.map Int.ofNat)

/-- A count of entries that a table command carries. -/
def count32 (n : Nat) : Bool := 1 ≤ n && n ≤ 32

/-- FLOW_ADD: flags STATIC (bit 0), REPLACE (bit 1). -/
def execFlowAdd (mb : Fin 16) (entries : List FlowArg) (s : State) : Res :=
  hostCmd s mb 0x0902 fun c s =>
    if !count32 entries.length then fail s .badArg
    else s.joinSerial mb (.flowAdd c.flags entries)

/-- FLOW_DELETE. -/
def execFlowDelete (mb : Fin 16) (keys : List Nat) (s : State) : Res :=
  hostCmd s mb 0x0903 fun _ s => if count32 keys.length then s.joinSerial mb (.flowDelete keys) else fail s .badArg

/-- An entry read by key. -/
def readKey (t : Nat) (s : State) (key : Nat) : State × Status × List Int :=
  match findKey s t key with
  | none => (s, .noObject, [])
  | some p => (s, .ok, entryWords s t p)

/-- A table read by keys, or by up to 64 buckets from a start. -/
def readTable (t : Nat) (keys : List Nat) (buckets : Option (Nat × Nat)) (s : State) : State × Reply :=
  match buckets with
  | some (b, n) =>
    if n = 0 || 64 < n || 2 ^ bucketBits t < b + n then fail s .badArg
    else okay s (((List.range n).map (fun i => (bucketPlaces (s.table t) (b + i)).map (entryWords s t))).flatten).flatten
  | none => if count32 keys.length then entriesCmd (readKey t) s keys else fail s .badArg

/-- FLOW_READ. -/
def execFlowRead (mb : Fin 16) (keys : List Nat) (buckets : Option (Nat × Nat)) (s : State) : Res :=
  hostCmd s mb 0x0904 fun _ s => readTable 0 keys buckets s

/-- MAC_ADD: flags STATIC (bit 0), REPLACE (bit 1). -/
def execMacAdd (mb : Fin 16) (entries : List MacArg) (s : State) : Res :=
  hostCmd s mb 0x0910 fun c s =>
    if !count32 entries.length then fail s .badArg
    else s.joinSerial mb (.macAdd c.flags entries)

/-- MAC_DELETE. -/
def execMacDelete (mb : Fin 16) (entries : List MacArg) (s : State) : Res :=
  hostCmd s mb 0x0911 fun _ s =>
    if count32 entries.length then s.joinSerial mb (.macDelete entries) else fail s .badArg

/-- MAC_READ. -/
def execMacRead (mb : Fin 16) (entries : List MacArg) (buckets : Option (Nat × Nat)) (s : State) : Res :=
  hostCmd s mb 0x0912 fun _ s => readTable 1 (entries.map (fun e => macKey e.fid e.addr)) buckets s

/-- MAC_FLUSH: a flush by GEM index or FID queued (R268). -/
def execMacFlush (mb : Fin 16) (byFid : Bool) (index : Nat) (s : State) : Res :=
  hostCmd s mb 0x0913 fun _ s =>
    if (if byFid then 4096 else 131072) ≤ index then fail s .badArg
    else okay (s.queueSer (flushMsg s byFid index))

/-- MAC_UNFREEZE: the freeze of one address ended at its turn in the serialiser. -/
def execMacUnfreeze (mb : Fin 16) (fid addr : Nat) (s : State) : Res :=
  hostCmd s mb 0x0914 fun _ s => if 4096 ≤ fid || 2 ^ 48 ≤ addr then fail s .badArg else s.joinSerial mb (.unfreeze fid addr)

/-- EVICT_LOG_READ: up to 64 eviction records returned and released. -/
def execEvictLogRead (mb : Fin 16) (table count : Nat) (s : State) : Res :=
  hostCmd s mb 0x0920 fun _ s =>
    if 2 ≤ table || count = 0 || 64 < count then fail s .badArg
    else
      let v := s.table table
      okay (s.setTable table { v with log := v.log.drop count }) ((v.log.take count).map (fun r =>
        [(r.key : Int), r.time] ++ (match r.v with
          | .flow kind queue meter marker index => [(kind : Int), queue, b2n meter, b2n marker, index]
          | .mac port moves frozen stamp => [(port : Int), moves, b2n frozen, stamp]))).flatten

/-- TABLE_STATUS: fill, pass count and log overrun of both tables, and the serialiser's queue depth. -/
def execTableStatus (mb : Fin 16) (s : State) : Res :=
  hostCmd s mb 0x0921 fun _ s =>
    let f := s.table 0
    let m := s.table 1
    okay s [(tableFill f : Int), f.passes, f.overrun, tableFill m, m.passes, m.overrun, s.fwd.serial.length]

end Sys2Proof.Machine
end

