-- ==== Sys2Proof/Machine/ParamHooks.lean ====
section
/-! DEFINITION. What lies behind the parameters: read-only items computed from the state, the constraints that chapters put on a write, and the
effects a write has at once (R442 to R448). -/
namespace Sys2Proof.Machine

/-! ### Read-only items -/

/-- RULESET_STATE: active epoch, draining epoch, draining, staging writable, in-flight packets of the draining epoch. -/
def rulesetState (s : State) : Nat :=
  let r := s.fwd.rules
  let d := r.draining.getD 0
  let n := if r.draining.isSome then r.inFlight.get d + r.inFlight.get (16 + d) else 0
  r.epoch % 16 * 2 ^ 28 + d % 16 * 2 ^ 24 + b2n r.draining.isSome * 2 ^ 23 + b2n r.draining.isNone * 2 ^ 22 + min n 65535

/-- SESSION_STATE: pending challenges and open sessions by role. -/
def sessionState (s : State) : Nat :=
  (List.range 4).foldl (fun n r => n + b2n (s.role r).challenge.isSome * 2 ^ (4 + r) + b2n (s.role r).session.isSome * 2 ^ r) 0

/-- A read-only item's value: computed where it mirrors state held elsewhere, else as counted or posted. -/
def roValue (s : State) (p : Param) (i : Nat) : Int :=
  match p with
  | .DEVICE_TIME => s.now
  | .SFC_NOW => s.pon.tl.sfc
  | .ROGUE_PHASE => (s.rogue i).phase
  | .REASM_GRANULES_FREE => granulesFree s i
  | .LANE_SPARE_STATE => laneSpareState s i
  | .DBA_LEDGER => (s.alloc i).ledger
  | .DBA_DEMAND => (s.alloc i).demand
  | .RULESET_STATE => rulesetState s
  | .PARSE_LANES => parseLanes s i
  | .TABLE_FILL => tableFill (s.table i)
  | .GATE_STATE => gateStatus s i
  | .SCHED_QUEUES_BOUND => boundIn s i
  | .POOL_IN_USE => (s.pool i).inUse
  | .POOL_FLAGS => poolFlags (s.pool i)
  | .GLACIER_USE => pagesInUse s
  | .CIPHER_PAIRS => pairsInService s i
  | .TAPE_UNITS => tapeState s i
  | .UPLINK_LINK_STATE => linkState s i
  | .UPLINK_PAUSE_STATE => pauseState s i
  | .TETHER_LANE_STATE => tlaneState s i
  | .PROT_TOKEN_MASK => boolMask (holdBit s)
  | .MIRROR_READY_MASK => boolMask (fun t => (s.stream t).ready)
  | .FW_STATE => fwState s
  | .SESSION_STATE => sessionState s
  | .AUDIT_HEAD => (s.roles.audit.next : Int) - 1
  | .CAL_OVERLAY_VERSION => (s.roles.overlay.map (·.version)).getD 0
  | .SECURITY_MIN => s.fw.securityMin
  | .ENROLLED => b2n s.roles.enrolled
  | .UNIT_COUNTS => unitCounts s i
  | .SPARE_CELLS => spareCellsLeft s i
  | .HANDLER_STATE => handlerState s i
  | .EVENT_STORE_FILL => s.ev.store.length
  | .TELEMETRY_HEAD => s.ev.telHead
  | .POWER_STATE => powerCode s
  | .DARK_MASK => darkMask s
  | .BOOT_STAGE_TIME => s.power.stageTime.get i
  | _ => s.ro p i

/-- A "since last read" item cleared (R445). -/
def State.clearRo (s : State) (p : Param) (i : Nat) : State :=
  if !p.info.sinceRead then s
  else match p with
    | .HANDLER_STATE => s.setHandler (handlerAt i) { s.handler (handlerAt i) with subsumed := 0 }
    | _ => s.setRo p i 0

/-- A parameter's value as a read returns it. -/
def paramValue (s : State) (p : Param) (i : Nat) : Int := if p.readOnly then roValue s p i else s.get p i

/-! ### Constraints on a write -/

/-- Numbers that a range alone does not name (R443). -/
def listedValue (p : Param) (v : Int) : Bool :=
  match p with
  | .MMS_SPEED => v == 100 || v == 400
  | .MACSEC_CONF_OFFSET => v == 0 || v == 30 || v == 50
  | .KEY_REKEY_PERIOD => v == 0 || 60 ≤ v
  | .AGING_PERIOD => v == 0 || 10 ≤ v
  | .MAINT_LEN => v == 0 || 10 ≤ v
  | .HIST_DEPTH_BASE => [64, 128, 256, 512, 1024, 2048, 4096, 8192, 16384, 32768, 65536].contains v
  | _ => true

/-- A value in the range of its row, a whole multiple of its step. -/
def inParamRange (p : Param) (v : Int) : Bool :=
  decide (p.info.lo ≤ v) && decide (v ≤ p.info.hi) && (p.info.step ≤ 1 || v % p.info.step == 0) && listedValue p v

/-- Pool layout (R302). -/
def poolsFit (s : State) : Bool :=
  let b (p : Nat) : Int := s.get .POOL_BUF_SIZE p
  decide (b 0 < b 1) && decide (b 1 < b 2) && decide (b 2 < b 3) && decide (10240 ≤ b 3)
    && decide (s.get .POOL_SIZE 0 + s.get .POOL_SIZE 1 + s.get .POOL_SIZE 2 + s.get .POOL_SIZE 3 ≤ 65536)

/-- Thresholds of a pool (R310). -/
def thresholdsFit (s : State) (p : Nat) : Bool :=
  decide (s.get .POOL_THAW p < s.get .POOL_FREEZE p) && decide (s.get .POOL_FREEZE p < s.get .POOL_CRITICAL p)
    && decide (s.get .POOL_WARN p ≤ s.get .POOL_FREEZE p)

/-- A configured guard is no shorter than T of any MAX_FRAME under the instance (R292). -/
def guardFits (s : State) (i : Nat) : Bool :=
  s.getN .GATE_GUARD_MODE i != 1 ||
    (queuesOf s i).all (fun w => let q := s.queueAt w
      decide (txTime s i q.maxFrame (expressOn s i q.level) ≤ s.getN .GATE_GUARD_NS i * 1000))

/-- A MAC of a port is enabled. -/
def portOn (s : State) (port : Nat) : Bool := (List.range 8).any (fun i => macOn s (8 * port + i))

/-- The constraint of a parameter's chapter that the state a write leaves would break. -/
def constraintFault (s : State) (p : Param) (i : Nat) : Option Status :=
  let must (b : Bool) : Option Status := if b then none else some .badArg
  match p with
  | .PACE_BAND_LOW => must (decide (s.get .PACE_BAND_LOW + 10 ≤ s.get .PACE_BAND_HIGH))
  | .PACE_BAND_HIGH => must (decide (s.get .PACE_BAND_LOW + 10 ≤ s.get .PACE_BAND_HIGH))
  | .AVS_FIXED_V => must (decide (s.get .VDD_MIN ≤ s.get .AVS_FIXED_V) && decide (s.get .AVS_FIXED_V ≤ s.get .VDD_MAX))
  | .BRST_OFFSET => must (decide (s.get .BRST_OFFSET i + s.get .BRST_WIDTH i ≤ 120))
  | .BRST_WIDTH => must (decide (s.get .BRST_OFFSET i + s.get .BRST_WIDTH i ≤ 120))
  | .DISC_MIN_KM => must (decide (s.get .DISC_MIN_KM i < s.get .DISC_MAX_KM i))
  | .DISC_MAX_KM => must (decide (s.get .DISC_MIN_KM i < s.get .DISC_MAX_KM i))
  | .DISC_RATES => must (s.getN .DISC_RATES i &&& (if i % 2 = 0 then 0x1C else 3) == s.getN .DISC_RATES i)
  | .BER_SD_EXP => must (decide (s.get .BER_SF_EXP i < s.get .BER_SD_EXP i))
  | .BER_SF_EXP => must (decide (s.get .BER_SF_EXP i < s.get .BER_SD_EXP i))
  | .DBA_MIN_GRANT => must (s.getN .DBA_MIN_GRANT i % 4 == 0)
  | .POOL_WARN => must (thresholdsFit s i)
  | .POOL_FREEZE => must (thresholdsFit s i)
  | .POOL_THAW => must (thresholdsFit s i)
  | .POOL_CRITICAL => must (thresholdsFit s i)
  | .POOL_SIZE => must (poolsFit s)
  | .POOL_BUF_SIZE => must (poolsFit s)
  | .QUEUE_DEEP => must (s.getN .QUEUE_DEEP i == 0 || (s.queueAt i).level != 7)
  | .GATE_GUARD_MODE => must (guardFits s i)
  | .GATE_GUARD_NS => must (guardFits s i)
  | .EXPRESS_EN => if i < 32 || tapesOk s ((i - 32) / 8) then none else some .noSpace
  | .UPLINK_BREAKOUT => if portOn s i then some .busy else none
  | .UPLINK_MEDIA => if portOn s i then some .busy else none
  | .UPLINK_ENABLE =>
    if s.getN .UPLINK_ENABLE i = 0 then none
    else if !macUsed s i then some .noObject
    else if anyUnderTest s 1 (fun l => (macLanes s i).contains l) then some .busy
    else none
  | _ => none

/-! ### What a write does -/

/-- Effects at once. -/
def State.applied (s : State) (p : Param) (i : Nat) : State :=
  match p with
  | .UPLINK_ENABLE => s.uplinkEnabled i
  | .AGING_PERIOD => if s.getN .AGING_PERIOD i != 0 && !(s.table i).scanning then s.startPass i else s
  | .AVS_MODE => if s.getN .AVS_MODE = 1 then s.sendTarget (clampTarget s (s.getN .AVS_FIXED_V)) else s
  | .AVS_FIXED_V => if s.getN .AVS_MODE = 1 then s.sendTarget (clampTarget s (s.getN .AVS_FIXED_V)) else s
  | _ => s

/-- A value written; one of "Next boot" goes to the boot flash too (R447). -/
def State.writePar (s : State) (p : Param) (i : Nat) (v : Int) : State :=
  let s := s.setPar p i v
  if p.info.nextBoot then { s with par.flash := s.par.flash.set (pkey p i) (some v) } else s

end Sys2Proof.Machine
end

