-- ==== Sys2Proof/Machine/ParamCmd.lean ====
section
/-! DEFINITION. Parameter commands, COUNTER_SNAPSHOT and terminal line telemetry (R442 to R448, R521, R522). Log entry 174 (DESIGN CHOICE). -/
namespace Sys2Proof.Machine

/-- An entry of Table 17.6. -/
structure ParEntry where
  key : Nat
  status : Nat
  inst : Nat
  rsv : Nat
  value : Int
  deriving DecidableEq, Repr

/-- Entries of a body, `n` of them. -/
def parEntries : Nat → List Byte → List ParEntry
  | 0, _ => []
  | n + 1, bs =>
    let w0 := leNat (bs.take 4)
    let w1 := leNat ((bs.drop 4).take 4)
    ⟨bits w0 31 8, bits w0 7 0, bits w1 19 0, bits w1 31 20, signedOf 128 (leNat ((bs.drop 8).take 16))⟩ :: parEntries n (bs.drop 24)

/-- The entries a request carries: 1 to 169 of 24 bytes. -/
def entriesOfBody (c : Cmd) : Option (List ParEntry) :=
  let n := c.body.length / 24
  if c.body.length % 24 = 0 && 1 ≤ n && n ≤ 169 then some (parEntries n c.body) else none

/-- An entry as the response returns it: six words (Table 17.6). -/
def parOut (e : ParEntry) (st : Status) (v : Int) : List Int := ((e.key * 256 + st.code : Nat) : Int) :: (e.inst : Int) :: wordsLe 4 v

/-- What an entry names, or why it fails (R444). -/
def entryParam (e : ParEntry) : Except Status Param :=
  match Param.ofKey e.key with
  | none => .error .noObject
  | some p =>
    if e.status != 0 || e.rsv != 0 || e.inst < p.info.ilo || p.info.ihi < e.inst then .error .badArg else .ok p

/-! ### Reading -/

/-- One entry sampled in `was`; a "since last read" item is cleared where the reader says so. -/
def readEntry (was : State) (clear : Bool) (s : State) (e : ParEntry) : State × Status × List Int :=
  match entryParam e with
  | .error st => (s, st, parOut e st e.value)
  | .ok p => (if clear then s.clearRo p e.inst else s, .ok, parOut e .ok (paramValue was p e.inst))

/-- PARAM_READ: every entry sampled at one instant (R445). -/
def execParamRead (mb : Fin 16) (s : State) : Res :=
  hostCmd s mb 0x0102 fun c s =>
    match entriesOfBody c with
    | none => fail s .badArg
    | some es => entriesCmd (readEntry s true) s es

/-- COUNTER_SNAPSHOT: the same, clearing only with CLEAR (R521). -/
def execCounterSnapshot (mb : Fin 16) (s : State) : Res :=
  hostCmd s mb 0x1311 fun c s =>
    match entriesOfBody c with
    | none => fail s .badArg
    | some es => entriesCmd (readEntry s (c.flags.testBit 0)) s es

/-- PARAM_DESCRIBE: a key's descriptor (Table 17.7), its default that of the instance named. -/
def execParamDescribe (mb : Fin 16) (key inst : Nat) (s : State) : Res :=
  hostCmd s mb 0x0104 fun _ s =>
    match Param.ofKey key with
    | none => fail s .noObject
    | some p =>
      let r := p.info
      if inst < r.ilo || r.ihi < inst then fail s .badArg
      else okay s ([((key * 256 + r.type * 16 + r.effect : Nat) : Int), (r.ihi : Int)] ++ wordsLe 2 r.lo ++ wordsLe 2 r.hi
        ++ [(r.step : Int), ((r.roles % 8 * 2 ^ 29 : Nat) : Int)] ++ wordsLe 2 (s.defaultOf p inst) ++ [0, 0])

/-! ### Writing -/

/-- Why an entry may not be written, apart from constraints on the state it leaves: in Hibernate only five spaces may be written (R542). -/
def entryRefusal (s : State) (role : Nat) (e : ParEntry) : Except Status Param :=
  match entryParam e with
  | .error st => .error st
  | .ok p =>
    if (s.power.dev = .hibernate || s.power.dev = .hibernateExit) && !([0x01, 0x02, 0x10, 0x11, 0x13] : List Nat).contains (e.key / 65536) then .error .notReady
    else if p.readOnly then .error .noRight
    else if !p.info.roles.testBit role then .error .noRight
    else if !inParamRange p e.value then .error .badArg
    else .ok p

/-- One entry of a write without ATOMIC: checked against the state left by those before it, applied at once. -/
def writeEntry (role : Nat) (s : State) (e : ParEntry) : State × Status × List Int :=
  match entryRefusal s role e with
  | .error st => (s, st, parOut e st e.value)
  | .ok p =>
    let t := s.writePar p e.inst e.value
    match constraintFault t p e.inst with
    | some st => (s, st, parOut e st e.value)
    | none => (t.applied p e.inst, .ok, parOut e .ok e.value)

/-- The state all entries together would leave, their effects at once apart. -/
def State.writeAll (s : State) (role : Nat) (es : List ParEntry) : State :=
  es.foldl (fun s e => match entryRefusal s role e with
    | .error _ => s
    | .ok p => s.writePar p e.inst e.value) s

/-- Status of an entry against the state all of them would leave. -/
def jointStatus (s t : State) (role : Nat) (e : ParEntry) : Status :=
  match entryRefusal s role e with
  | .error st => st
  | .ok p => (constraintFault t p e.inst).getD .ok

/-- Effects at once of all entries. -/
def State.applyAll (s : State) (es : List ParEntry) : State :=
  es.foldl (fun s e => match entryParam e with
    | .error _ => s
    | .ok p => s.applied p e.inst) s

/-- A write with ATOMIC: all entries in one commit, or none (R446). -/
def writeAtomic (s : State) (role : Nat) (es : List ParEntry) : State × Reply :=
  let t := s.writeAll role es
  let sts := es.map (jointStatus s t role)
  let out := ((es.zip sts).map (fun x => parOut x.1 x.2 x.1.value)).flatten
  match sts.zipIdx.find? (fun x => x.1 != .ok) with
  | some (st, i) => (s, .done st i out)
  | none => (t.applyAll es, entriesReply es.length none out)

/-- PARAM_WRITE. -/
def execParamWrite (mb : Fin 16) (s : State) : Res :=
  hostCmd s mb 0x0103 fun c s =>
    match entriesOfBody c with
    | none => fail s .badArg
    | some es => if c.flags.testBit 0 then writeAtomic s c.role es else entriesCmd (writeEntry c.role) s es

/-! ### Terminal line telemetry (R522) -/

/-- The record of one terminal (Table 20.5, type 4). -/
def State.lineRecord (s : State) (t : Nat) : State :=
  s.produce 4 t [(s.ro .US_FEC_CORR_BITS t).toNat, (s.ro .US_FEC_UNCORR t).toNat, (s.ro .US_BER_EST t).toNat,
    (s.lanes.bmem.get t).rssiClass % 16 * 16 + b2n (s.term t).profileShort]

/-- TELEMETRY_PERIOD_EXPIRY: a record of every terminal in OPERATION. Log entry 205 (DESIGN CHOICE). -/
def execTelemetryPeriodExpiry (s : State) : Res :=
  .next ((s.terms.keys (fun _ v => v.state == .operation)).foldl State.lineRecord s)

end Sys2Proof.Machine
end

