-- ==== Sys2Proof/Machine/Dispatch.lean ====
section
/-! DEFINITION. One arm per command: each is one direct call of its meaning. -/
namespace Sys2Proof.Machine

def exec (i : Instr) (s : State) : Host.Outcome State Fault Refusal :=
  match i with
  | .signalCommand region standby => Sys2Proof.Machine.execSignalCommand region standby s
  | .capacityReport consumer region seq => Sys2Proof.Machine.execCapacityReport consumer region seq s
  | .freezeMessage pool consumer => Sys2Proof.Machine.execFreezeMessage pool consumer s
  | .thawMessage pool consumer => Sys2Proof.Machine.execThawMessage pool consumer s
  | .criticalMessage pool => Sys2Proof.Machine.execCriticalMessage pool s
  | .paceWindowClose loads => Sys2Proof.Machine.execPaceWindowClose loads s
  | .paceSample inst count stalled late => Sys2Proof.Machine.execPaceSample inst count stalled late s
  | .avsSettleExpiry => Sys2Proof.Machine.execAvsSettleExpiry s
  | .avsbusTransactionDone ok pmbusOk => Sys2Proof.Machine.execAvsbusTransactionDone ok pmbusOk s
  | .avsbusRetry ok => Sys2Proof.Machine.execAvsbusRetry ok s
  | .pmbusStatusPoll answer => Sys2Proof.Machine.execPmbusStatusPoll answer s
  | .regulatorPassthrough mb cmd data answer => Sys2Proof.Machine.execRegulatorPassthrough mb cmd data answer s
  | .bridgeOverrun type inst => Sys2Proof.Machine.execBridgeOverrun type inst s
  | .bridgeUnderrun type inst => Sys2Proof.Machine.execBridgeUnderrun type inst s
  | .brstPulse tree => Sys2Proof.Machine.execBrstPulse tree s
  | .rssiRoundStart tree => Sys2Proof.Machine.execRssiRoundStart tree s
  | .rssiWindow term payloadNs => Sys2Proof.Machine.execRssiWindow term payloadNs s
  | .rssiSettleExpiry tree => Sys2Proof.Machine.execRssiSettleExpiry tree s
  | .treeLosPin tree level => Sys2Proof.Machine.execTreeLosPin tree level s
  | .losWindowExpiry tree => Sys2Proof.Machine.execLosWindowExpiry tree s
  | .mmsSelSetupExpiry master => Sys2Proof.Machine.execMmsSelSetupExpiry master s
  | .moduleTransactionDone master data => Sys2Proof.Machine.execModuleTransactionDone master data s
  | .mmsBusStuck master => Sys2Proof.Machine.execMmsBusStuck master s
  | .mmsSelectHoldoffExpiry tree => Sys2Proof.Machine.execMmsSelectHoldoffExpiry tree s
  | .moduleManageStart tree revision => Sys2Proof.Machine.execModuleManageStart tree revision s
  | .moduleReady tree => Sys2Proof.Machine.execModuleReady tree s
  | .modulePoll tree flags => Sys2Proof.Machine.execModulePoll tree flags s
  | .moduleRead mb tree page bank offset count => Sys2Proof.Machine.execModuleRead mb tree page bank offset count s
  | .moduleWrite mb tree page bank offset data => Sys2Proof.Machine.execModuleWrite mb tree page bank offset data s
  | .rssiMeasure mb term => Sys2Proof.Machine.execRssiMeasure mb term s
  | .bmemRead mb term => Sys2Proof.Machine.execBmemRead mb term s
  | .bmemReset mb term => Sys2Proof.Machine.execBmemReset mb term s
  | .burstPreload c late => Sys2Proof.Machine.execBurstPreload c late s
  | .bankSwap c => Sys2Proof.Machine.execBankSwap c s
  | .burstWriteBack term final => Sys2Proof.Machine.execBurstWriteBack term final s
  | .laneSleepStart c => Sys2Proof.Machine.execLaneSleepStart c s
  | .laneWakeStart c => Sys2Proof.Machine.execLaneWakeStart c s
  | .sleepLight c offset last since => Sys2Proof.Machine.execSleepLight c offset last since s
  | .darkWakeRunStart c => Sys2Proof.Machine.execDarkWakeRunStart c s
  | .darkWakeRunEnd c => Sys2Proof.Machine.execDarkWakeRunEnd c s
  | .driverSegmentFault c segment => Sys2Proof.Machine.execDriverSegmentFault c segment s
  | .laneSegmentSwap c => Sys2Proof.Machine.execLaneSegmentSwap c s
  | .sliceShadowPeriod c differ total eyeLow => Sys2Proof.Machine.execSliceShadowPeriod c differ total eyeLow s
  | .laneSliceSwap c => Sys2Proof.Machine.execLaneSliceSwap c s
  | .frameStart => Sys2Proof.Machine.execFrameStart s
  | .ponRefLoss ref => Sys2Proof.Machine.execPonRefLoss ref s
  | .ethRefLoss => Sys2Proof.Machine.execEthRefLoss s
  | .refReturn ref => Sys2Proof.Machine.execRefReturn ref s
  | .fragmentBoundary c rekeyIdleNs => Sys2Proof.Machine.execFragmentBoundary c rekeyIdleNs s
  | .ppsEdge time rising => Sys2Proof.Machine.execPpsEdge time rising s
  | .ppsEdgeMissing => Sys2Proof.Machine.execPpsEdgeMissing s
  | .todMessage bytes => Sys2Proof.Machine.execTodMessage bytes s
  | .channelEnable mb c => Sys2Proof.Machine.execChannelEnable mb c s
  | .channelDisable mb c => Sys2Proof.Machine.execChannelDisable mb c s
  | .channelStop c => Sys2Proof.Machine.execChannelStop c s
  | .timeRead mb => Sys2Proof.Machine.execTimeRead mb s
  | .discoveryWindowDue tree => Sys2Proof.Machine.execDiscoveryWindowDue tree s
  | .profileBroadcast c => Sys2Proof.Machine.execProfileBroadcast c s
  | .snAnswer c cands serial mic answer => Sys2Proof.Machine.execSnAnswer c cands serial mic answer s
  | .registrationBurst term cands m64 regId resp mic => Sys2Proof.Machine.execRegistrationBurst term cands m64 regId resp mic s
  | .rangingWindowMiss term late => Sys2Proof.Machine.execRangingWindowMiss term late s
  | .rangeRetryExpiry term => Sys2Proof.Machine.execRangeRetryExpiry term s
  | .driftSettleExpiry term => Sys2Proof.Machine.execDriftSettleExpiry term s
  | .lobDeactExpiry term => Sys2Proof.Machine.execLobDeactExpiry term s
  | .onuIdHoldExpiry c onu => Sys2Proof.Machine.execOnuIdHoldExpiry c onu s
  | .rogueObservation c window last since => Sys2Proof.Machine.execRogueObservation c window last since s
  | .rogueCorrelationEnd c => Sys2Proof.Machine.execRogueCorrelationEnd c s
  | .rogueProbeResult c light => Sys2Proof.Machine.execRogueProbeResult c light s
  | .rogueBisectionStep c => Sys2Proof.Machine.execRogueBisectionStep c s
  | .readmissionAnswer term => Sys2Proof.Machine.execReadmissionAnswer term s
  | .rogueHoldoffExpiry c => Sys2Proof.Machine.execRogueHoldoffExpiry c s
  | .termCreate mb term c serial onu alloc gem => Sys2Proof.Machine.execTermCreate mb term c serial onu alloc gem s
  | .termDelete mb term => Sys2Proof.Machine.execTermDelete mb term s
  | .termDeactivate mb term => Sys2Proof.Machine.execTermDeactivate mb term s
  | .termDisable mb term => Sys2Proof.Machine.execTermDisable mb term s
  | .termEnable mb term => Sys2Proof.Machine.execTermEnable mb term s
  | .termRead mb term => Sys2Proof.Machine.execTermRead mb term s
  | .termRerange mb term rate => Sys2Proof.Machine.execTermRerange mb term rate s
  | .allocMap mb alloc c allocId term => Sys2Proof.Machine.execAllocMap mb alloc c allocId term s
  | .allocUnmap mb alloc => Sys2Proof.Machine.execAllocUnmap mb alloc s
  | .gemMap mb gem entry => Sys2Proof.Machine.execGemMap mb gem entry s
  | .gemUnmap mb gem => Sys2Proof.Machine.execGemUnmap mb gem s
  | .snListRead mb c => Sys2Proof.Machine.execSnListRead mb c s
  | .rogueStart mb c => Sys2Proof.Machine.execRogueStart mb c s
  | .rogueStatus mb c => Sys2Proof.Machine.execRogueStatus mb c s
  | .rogueStop mb c => Sys2Proof.Machine.execRogueStop mb c s
  | .commandStepWaitTimeout mb => Sys2Proof.Machine.execCommandStepWaitTimeout mb s
  | .upstreamBurst term burst => Sys2Proof.Machine.execUpstreamBurst term burst s
  | .delimiterMiss term cands => Sys2Proof.Machine.execDelimiterMiss term cands s
  | .fecCodeword term info errs iterations => Sys2Proof.Machine.execFecCodeword term info errs iterations s
  | .ploamuMessage term message mic answer => Sys2Proof.Machine.execPloamuMessage term message mic answer s
  | .burstReport term alloc at_ crc occupancy => Sys2Proof.Machine.execBurstReport term alloc at_ crc occupancy s
  | .reportArrival => Sys2Proof.Machine.execReportArrival s
  | .xgemFrame term gem => Sys2Proof.Machine.execXgemFrame term gem s
  | .reasmTimeoutExpiry => Sys2Proof.Machine.execReasmTimeoutExpiry s
  | .berWindowClose term fail => Sys2Proof.Machine.execBerWindowClose term fail s
  | .reportCutoff => Sys2Proof.Machine.execReportCutoff s
  | .allocContract mb alloc rf ra rna rm w lat preann => Sys2Proof.Machine.execAllocContract mb alloc rf ra rna rm w lat preann s
  | .allocContractRead mb alloc => Sys2Proof.Machine.execAllocContractRead mb alloc s
  | .dbaPreannounce mb => Sys2Proof.Machine.execDbaPreannounce mb s
  | .dbaPreannCancel mb alloc frame => Sys2Proof.Machine.execDbaPreannCancel mb alloc frame s
  | .ledgerReset mb alloc => Sys2Proof.Machine.execLedgerReset mb alloc s
  | .dbaStatusRead mb c => Sys2Proof.Machine.execDbaStatusRead mb c s
  | .solverOutputPosted c => Sys2Proof.Machine.execSolverOutputPosted c s
  | .mapDelivery c errors => Sys2Proof.Machine.execMapDelivery c errors s
  | .framingDeadline => Sys2Proof.Machine.execFramingDeadline s
  | .gmRead mb c => Sys2Proof.Machine.execGmRead mb c s
  | .gmCalendarRead mb c => Sys2Proof.Machine.execGmCalendarRead mb c s
  | .uplinkFrameRx mac frame pcsError fcsBad tag => Sys2Proof.Machine.execUplinkFrameRx mac frame pcsError fcsBad tag s
  | .parsePass region parity => Sys2Proof.Machine.execParsePass region parity s
  | .recircPass region parity => Sys2Proof.Machine.execRecircPass region parity s
  | .upstreamSduParse region second parity => Sys2Proof.Machine.execUpstreamSduParse region second parity s
  | .rulesetDrained => Sys2Proof.Machine.execRulesetDrained s
  | .swapWaitExpiry mb => Sys2Proof.Machine.execSwapWaitExpiry mb s
  | .ruleWrite mb start expect rules => Sys2Proof.Machine.execRuleWrite mb start expect rules s
  | .ruleRead mb set start count => Sys2Proof.Machine.execRuleRead mb set start count s
  | .rulesetCopy mb => Sys2Proof.Machine.execRulesetCopy mb s
  | .rulesetSwap mb => Sys2Proof.Machine.execRulesetSwap mb s
  | .rulesetStatus mb => Sys2Proof.Machine.execRulesetStatus mb s
  | .learnMessageApply parity => Sys2Proof.Machine.execLearnMessageApply parity s
  | .macFlushApply => Sys2Proof.Machine.execMacFlushApply s
  | .agingPassStart table => Sys2Proof.Machine.execAgingPassStart table s
  | .agingScan table ovf index => Sys2Proof.Machine.execAgingScan table ovf index s
  | .moveWindowSweep => Sys2Proof.Machine.execMoveWindowSweep s
  | .flowProfileSet mb profile extracts => Sys2Proof.Machine.execFlowProfileSet mb profile extracts s
  | .flowAdd mb entries => Sys2Proof.Machine.execFlowAdd mb entries s
  | .flowDelete mb keys => Sys2Proof.Machine.execFlowDelete mb keys s
  | .flowRead mb keys buckets => Sys2Proof.Machine.execFlowRead mb keys buckets s
  | .macAdd mb entries => Sys2Proof.Machine.execMacAdd mb entries s
  | .macDelete mb entries => Sys2Proof.Machine.execMacDelete mb entries s
  | .macRead mb entries buckets => Sys2Proof.Machine.execMacRead mb entries buckets s
  | .macFlush mb byFid index => Sys2Proof.Machine.execMacFlush mb byFid index s
  | .macUnfreeze mb fid addr => Sys2Proof.Machine.execMacUnfreeze mb fid addr s
  | .evictLogRead mb table count => Sys2Proof.Machine.execEvictLogRead mb table count s
  | .tableStatus mb => Sys2Proof.Machine.execTableStatus mb s
  | .enqueue => Sys2Proof.Machine.execEnqueue s
  | .schedHandover inst => Sys2Proof.Machine.execSchedHandover inst s
  | .gateIntervalStart inst => Sys2Proof.Machine.execGateIntervalStart inst s
  | .gateListSwitch inst => Sys2Proof.Machine.execGateListSwitch inst s
  | .queueSample queue => Sys2Proof.Machine.execQueueSample queue s
  | .watchSample slot => Sys2Proof.Machine.execWatchSample slot s
  | .queueDrained queue => Sys2Proof.Machine.execQueueDrained queue s
  | .queueDrainTimeout queue => Sys2Proof.Machine.execQueueDrainTimeout queue s
  | .queueConfig mb queue arg => Sys2Proof.Machine.execQueueConfig mb queue arg s
  | .queueRead mb queue => Sys2Proof.Machine.execQueueRead mb queue s
  | .queueDisable mb queue => Sys2Proof.Machine.execQueueDisable mb queue s
  | .schedNodeSet mb node quantum cir cbs => Sys2Proof.Machine.execSchedNodeSet mb node quantum cir cbs s
  | .policerSet mb policer cir cbs => Sys2Proof.Machine.execPolicerSet mb policer cir cbs s
  | .markerSet mb marker mode aware redAction markDei cir cbs pir pbs => Sys2Proof.Machine.execMarkerSet mb marker mode aware redAction markDei cir cbs pir pbs s
  | .meterRead mb marker index => Sys2Proof.Machine.execMeterRead mb marker index s
  | .gateListSet mb inst cycle configTime entries => Sys2Proof.Machine.execGateListSet mb inst cycle configTime entries s
  | .gateListClear mb inst => Sys2Proof.Machine.execGateListClear mb inst s
  | .gateStatus mb inst => Sys2Proof.Machine.execGateStatus mb inst s
  | .watchSet mb slot queue delayLimit => Sys2Proof.Machine.execWatchSet mb slot queue delayLimit s
  | .histRead mb start count => Sys2Proof.Machine.execHistRead mb start count s
  | .bufferAlloc cls length mb => Sys2Proof.Machine.execBufferAlloc cls length mb s
  | .bufferTake cls id gen => Sys2Proof.Machine.execBufferTake cls id gen s
  | .bufferHandover src dst last id gen => Sys2Proof.Machine.execBufferHandover src dst last id gen s
  | .bufferFree cls last id gen => Sys2Proof.Machine.execBufferFree cls last id gen s
  | .glacierSpill queue => Sys2Proof.Machine.execGlacierSpill queue s
  | .glacierSpillAck queue => Sys2Proof.Machine.execGlacierSpillAck queue s
  | .glacierReturn queue error => Sys2Proof.Machine.execGlacierReturn queue error s
  | .dramRequest channel arrived ecc => Sys2Proof.Machine.execDramRequest channel arrived ecc s
  | .dramRefresh channel => Sys2Proof.Machine.execDramRefresh channel s
  | .dramRetrainCheck channel => Sys2Proof.Machine.execDramRetrainCheck channel s
  | .dramRetrainForced channel => Sys2Proof.Machine.execDramRetrainForced channel s
  | .poolStatus mb => Sys2Proof.Machine.execPoolStatus mb s
  | .bufFaultLogRead mb count => Sys2Proof.Machine.execBufFaultLogRead mb count s
  | .glacierStatus mb rateIn rateOut => Sys2Proof.Machine.execGlacierStatus mb rateIn rateOut s
  | .dramStatus mb => Sys2Proof.Machine.execDramStatus mb s
  | .cipherPairResult region op outA outB job => Sys2Proof.Machine.execCipherPairResult region op outA outB job s
  | .rngReseed block late => Sys2Proof.Machine.execRngReseed block late s
  | .entropyFail test => Sys2Proof.Machine.execEntropyFail test s
  | .generatorStop block => Sys2Proof.Machine.execGeneratorStop block s
  | .keyGenerationDrained slot => Sys2Proof.Machine.execKeyGenerationDrained slot s
  | .keyExchangeStart term => Sys2Proof.Machine.execKeyExchangeStart term s
  | .keyExchTimeout term => Sys2Proof.Machine.execKeyExchTimeout term s
  | .macsecVerdict id good => Sys2Proof.Machine.execMacsecVerdict id good s
  | .keyWrite mb => Sys2Proof.Machine.execKeyWrite mb s
  | .keyErase mb slot => Sys2Proof.Machine.execKeyErase mb slot s
  | .keyStatus mb slots => Sys2Proof.Machine.execKeyStatus mb slots s
  | .keyGenerate mb => Sys2Proof.Machine.execKeyGenerate mb s
  | .termRekey mb term => Sys2Proof.Machine.execTermRekey mb term s
  | .bcastKeyExport mb slot term => Sys2Proof.Machine.execBcastKeyExport mb slot term s
  | .cmacJob mb slot tagLen data tag => Sys2Proof.Machine.execCmacJob mb slot tagLen data tag s
  | .cipherStatus mb => Sys2Proof.Machine.execCipherStatus mb s
  | .uplinkLinkUp mac => Sys2Proof.Machine.execUplinkLinkUp mac s
  | .uplinkAlignmentLoss mac => Sys2Proof.Machine.execUplinkAlignmentLoss mac s
  | .uplinkFaultSequence mac => Sys2Proof.Machine.execUplinkFaultSequence mac s
  | .uplinkTrainingFail mac noAbility => Sys2Proof.Machine.execUplinkTrainingFail mac noAbility s
  | .pauseFrameRx mac pfc quanta classes => Sys2Proof.Machine.execPauseFrameRx mac pfc quanta classes s
  | .pauseQuantaExpiry mac cls => Sys2Proof.Machine.execPauseQuantaExpiry mac cls s
  | .pfcRefresh mac => Sys2Proof.Machine.execPfcRefresh mac s
  | .uplinkStatus mb start count => Sys2Proof.Machine.execUplinkStatus mb start count s
  | .uplinkStats mb mac pcs => Sys2Proof.Machine.execUplinkStats mb mac pcs s
  | .uplinkRestart mb port => Sys2Proof.Machine.execUplinkRestart mb port s
  | .macsecScSet mb mac sci delete => Sys2Proof.Machine.execMacsecScSet mb mac sci delete s
  | .macsecSaSet mb sa mac sci an xpn pn enable => Sys2Proof.Machine.execMacsecSaSet mb sa mac sci an xpn pn enable s
  | .macsecSaRead mb sa => Sys2Proof.Machine.execMacsecSaRead mb sa s
  | .tetherLaneFrame lane bits skew => Sys2Proof.Machine.execTetherLaneFrame lane bits skew s
  | .tetherFrameRx port group skipped rx => Sys2Proof.Machine.execTetherFrameRx port group skipped rx s
  | .multiframeStart => Sys2Proof.Machine.execMultiframeStart s
  | .pairMessageRx port tagGood msg held round timeline => Sys2Proof.Machine.execPairMessageRx port tagGood msg held round timeline s
  | .tetherKeyTimeout => Sys2Proof.Machine.execTetherKeyTimeout s
  | .smpByteIn smp byte => Sys2Proof.Machine.execSmpByteIn smp byte s
  | .tetherIdleExpiry port received => Sys2Proof.Machine.execTetherIdleExpiry port received s
  | .tetherWake port received => Sys2Proof.Machine.execTetherWake port received s
  | .mirrorRecordRx => Sys2Proof.Machine.execMirrorRecordRx s
  | .checkpointEmit => Sys2Proof.Machine.execCheckpointEmit s
  | .checkpointAbsent stream => Sys2Proof.Machine.execCheckpointAbsent stream s
  | .heartbeatToggle => Sys2Proof.Machine.execHeartbeatToggle s
  | .heartbeatRefresh => Sys2Proof.Machine.execHeartbeatRefresh s
  | .protSelfFence => Sys2Proof.Machine.execProtSelfFence s
  | .pairHbInEdge => Sys2Proof.Machine.execPairHbInEdge s
  | .peerSilent => Sys2Proof.Machine.execPeerSilent s
  | .switchTakenTimeout tree => Sys2Proof.Machine.execSwitchTakenTimeout tree s
  | .tetherStatus mb => Sys2Proof.Machine.execTetherStatus mb s
  | .tetherRestart mb port => Sys2Proof.Machine.execTetherRestart mb port s
  | .protPair mb memberB paired => Sys2Proof.Machine.execProtPair mb memberB paired s
  | .protCommission mb tree => Sys2Proof.Machine.execProtCommission mb tree s
  | .protSwitch mb named => Sys2Proof.Machine.execProtSwitch mb named s
  | .protClaim mb named => Sys2Proof.Machine.execProtClaim mb named s
  | .protReadmit mb => Sys2Proof.Machine.execProtReadmit mb s
  | .protStatus mb => Sys2Proof.Machine.execProtStatus mb s
  | .mirrorResync mb named => Sys2Proof.Machine.execMirrorResync mb named s
  | .functionLevelReset => Sys2Proof.Machine.execFunctionLevelReset s
  | .pciePerst low => Sys2Proof.Machine.execPciePerst low s
  | .registerWrite addr size value late => Sys2Proof.Machine.execRegisterWrite addr size value late s
  | .deviceTimeLoRead => Sys2Proof.Machine.execDeviceTimeLoRead s
  | .hostFlrCountRead => Sys2Proof.Machine.execHostFlrCountRead s
  | .doneCountRead c => Sys2Proof.Machine.execDoneCountRead c s
  | .mbCountRead n => Sys2Proof.Machine.execMbCountRead n s
  | .bar2Access write off => Sys2Proof.Machine.execBar2Access write off s
  | .chEnableSet c => Sys2Proof.Machine.execChEnableSet c s
  | .chEnableClear c => Sys2Proof.Machine.execChEnableClear c s
  | .chAbort c => Sys2Proof.Machine.execChAbort c s
  | .chResume c => Sys2Proof.Machine.execChResume c s
  | .ringTailWrite c tail => Sys2Proof.Machine.execRingTailWrite c tail s
  | .shadowCommit c late => Sys2Proof.Machine.execShadowCommit c late s
  | .dmaMessageEnqueue func => Sys2Proof.Machine.execDmaMessageEnqueue func s
  | .dmaDescriptorTake c desc index => Sys2Proof.Machine.execDmaDescriptorTake c desc index s
  | .dmaOwnReread c desc index => Sys2Proof.Machine.execDmaOwnReread c desc index s
  | .dmaBurst c data => Sys2Proof.Machine.execDmaBurst c data s
  | .dmaTriggerTimer c => Sys2Proof.Machine.execDmaTriggerTimer c s
  | .dmaDescriptorComplete c => Sys2Proof.Machine.execDmaDescriptorComplete c s
  | .dmaCoalesceTimeout c => Sys2Proof.Machine.execDmaCoalesceTimeout c s
  | .dmaBusError c canWrite => Sys2Proof.Machine.execDmaBusError c canWrite s
  | .dmaChannelOpen mb chan func => Sys2Proof.Machine.execDmaChannelOpen mb chan func s
  | .dmaChannelClose mb chan => Sys2Proof.Machine.execDmaChannelClose mb chan s
  | .dmaStatus mb => Sys2Proof.Machine.execDmaStatus mb s
  | .mbDoorbell n => Sys2Proof.Machine.execMbDoorbell n s
  | .mailboxAccept n objs => Sys2Proof.Machine.execMailboxAccept n objs s
  | .respReadyClear n => Sys2Proof.Machine.execRespReadyClear n s
  | .controlPairTakeover => Sys2Proof.Machine.execControlPairTakeover s
  | .identRead mb => Sys2Proof.Machine.execIdentRead mb s
  | .paramRead mb => Sys2Proof.Machine.execParamRead mb s
  | .paramWrite mb => Sys2Proof.Machine.execParamWrite mb s
  | .paramDescribe mb key inst => Sys2Proof.Machine.execParamDescribe mb key inst s
  | .fwImageWrite mb => Sys2Proof.Machine.execFwImageWrite mb s
  | .fwActivate mb check => Sys2Proof.Machine.execFwActivate mb check s
  | .fwRebuildTimeout => Sys2Proof.Machine.execFwRebuildTimeout s
  | .fwStandbyLoadDone ok => Sys2Proof.Machine.execFwStandbyLoadDone ok s
  | .fwCommit mb => Sys2Proof.Machine.execFwCommit mb s
  | .fwStatus mb => Sys2Proof.Machine.execFwStatus mb s
  | .sessionOpen mb => Sys2Proof.Machine.execSessionOpen mb s
  | .sessionAuth mb => Sys2Proof.Machine.execSessionAuth mb s
  | .sessionClose mb => Sys2Proof.Machine.execSessionClose mb s
  | .sessionIdleExpiry role => Sys2Proof.Machine.execSessionIdleExpiry role s
  | .authLockoutExpiry role => Sys2Proof.Machine.execAuthLockoutExpiry role s
  | .makerEnChange level => Sys2Proof.Machine.execMakerEnChange level s
  | .credEnrol mb wrapped => Sys2Proof.Machine.execCredEnrol mb wrapped s
  | .credSet mb wrapped => Sys2Proof.Machine.execCredSet mb wrapped s
  | .auditSummary => Sys2Proof.Machine.execAuditSummary s
  | .auditPersist ok => Sys2Proof.Machine.execAuditPersist ok s
  | .auditPersistRetry ok => Sys2Proof.Machine.execAuditPersistRetry ok s
  | .auditRead mb start count => Sys2Proof.Machine.execAuditRead mb start count s
  | .calRead mb item inst => Sys2Proof.Machine.execCalRead mb item inst s
  | .calOverlayWrite mb => Sys2Proof.Machine.execCalOverlayWrite mb s
  | .faultReport => Sys2Proof.Machine.execFaultReport s
  | .handshakeStall block cell => Sys2Proof.Machine.execHandshakeStall block cell s
  | .sramUe block cell => Sys2Proof.Machine.execSramUe block cell s
  | .sramCorrection block cell => Sys2Proof.Machine.execSramCorrection block cell s
  | .scrubRead block cell wrong => Sys2Proof.Machine.execScrubRead block cell wrong s
  | .cellRepairDone block spare => Sys2Proof.Machine.execCellRepairDone block spare s
  | .blockReplacementDone region => Sys2Proof.Machine.execBlockReplacementDone region s
  | .regionRestartDone good => Sys2Proof.Machine.execRegionRestartDone good s
  | .recoveryTimeout handler => Sys2Proof.Machine.execRecoveryTimeout handler s
  | .lockstepMismatch pair => Sys2Proof.Machine.execLockstepMismatch pair s
  | .controlPairSelfTestDone pair pass => Sys2Proof.Machine.execControlPairSelfTestDone pair pass s
  | .unitSlow block => Sys2Proof.Machine.execUnitSlow block s
  | .unitGhost unit => Sys2Proof.Machine.execUnitGhost unit s
  | .spareSelfTest unit pass => Sys2Proof.Machine.execSpareSelfTest unit pass s
  | .maintenanceWindowStart => Sys2Proof.Machine.execMaintenanceWindowStart s
  | .readmissionTestDone unit pass => Sys2Proof.Machine.execReadmissionTestDone unit pass s
  | .faultStatus mb => Sys2Proof.Machine.execFaultStatus mb s
  | .unitStatus mb unit => Sys2Proof.Machine.execUnitStatus mb unit s
  | .readmitPolicy mb allow units => Sys2Proof.Machine.execReadmitPolicy mb allow units s
  | .readmitOverride mb unit pass => Sys2Proof.Machine.execReadmitOverride mb unit pass s
  | .repairMapRead mb start => Sys2Proof.Machine.execRepairMapRead mb start s
  | .repairMapWrite mb records => Sys2Proof.Machine.execRepairMapWrite mb records s
  | .controlPairSwitch mb => Sys2Proof.Machine.execControlPairSwitch mb s
  | .eventArrival source => Sys2Proof.Machine.execEventArrival source s
  | .eventShedPeriod => Sys2Proof.Machine.execEventShedPeriod s
  | .eventBatchTimeout => Sys2Proof.Machine.execEventBatchTimeout s
  | .eventIrqHoldoffExpiry vector => Sys2Proof.Machine.execEventIrqHoldoffExpiry vector s
  | .telemetryRecord => Sys2Proof.Machine.execTelemetryRecord s
  | .telemetryPeriodExpiry => Sys2Proof.Machine.execTelemetryPeriodExpiry s
  | .telemetryFlushExpiry => Sys2Proof.Machine.execTelemetryFlushExpiry s
  | .eventMaskSet mb mask kinds sources => Sys2Proof.Machine.execEventMaskSet mb mask kinds sources s
  | .eventRouteSet mb routes => Sys2Proof.Machine.execEventRouteSet mb routes s
  | .eventRead mb count => Sys2Proof.Machine.execEventRead mb count s
  | .telemetrySet mb mask period => Sys2Proof.Machine.execTelemetrySet mb mask period s
  | .counterSnapshot mb => Sys2Proof.Machine.execCounterSnapshot mb s
  | .resetAssert pwrGood => Sys2Proof.Machine.execResetAssert pwrGood s
  | .resetRelease => Sys2Proof.Machine.execResetRelease s
  | .bringupStepDone result => Sys2Proof.Machine.execBringupStepDone result s
  | .darkIdleExpiry c => Sys2Proof.Machine.execDarkIdleExpiry c s
  | .darkChannelExit c => Sys2Proof.Machine.execDarkChannelExit c s
  | .dramSrIdleExpiry d => Sys2Proof.Machine.execDramSrIdleExpiry d s
  | .powerStateSet mb => Sys2Proof.Machine.execPowerStateSet mb s
  | .powerStatus mb => Sys2Proof.Machine.execPowerStatus mb s
  | .tempSample temps => Sys2Proof.Machine.execTempSample temps s
  | .lanePrbsSet mb => Sys2Proof.Machine.execLanePrbsSet mb s
  | .lanePrbsRead mb compared errors => Sys2Proof.Machine.execLanePrbsRead mb compared errors s
  | .laneErrInject mb => Sys2Proof.Machine.execLaneErrInject mb s
  | .errorInjection type inst => Sys2Proof.Machine.execErrorInjection type inst s
  | .laneLoopSet mb => Sys2Proof.Machine.execLaneLoopSet mb s
  | .selfTest mb unit result => Sys2Proof.Machine.execSelfTest mb unit result s
  | .tapReset => Sys2Proof.Machine.execTapReset s
  | .extest => Sys2Proof.Machine.execExtest s
  | .samplePreload balls preload => Sys2Proof.Machine.execSamplePreload balls preload s
  | .idcode => Sys2Proof.Machine.execIdcode s
  | .clamp => Sys2Proof.Machine.execClamp s
  | .highz => Sys2Proof.Machine.execHighz s
  | .extestPulse => Sys2Proof.Machine.execExtestPulse s
  | .extestTrain => Sys2Proof.Machine.execExtestTrain s
  | .bypass => Sys2Proof.Machine.execBypass s
  | .shaperConforms shaper => Sys2Proof.Machine.execShaperConforms shaper s
  | .entropyRecovered => Sys2Proof.Machine.execEntropyRecovered s
  | .tetherClockLoss port => Sys2Proof.Machine.execTetherClockLoss port s
  | .maintenanceWindowEnd => Sys2Proof.Machine.execMaintenanceWindowEnd s
  | .commissionTimeout tree => Sys2Proof.Machine.execCommissionTimeout tree s
  | .prbsLock type inst => Sys2Proof.Machine.execPrbsLock type inst s
  | .prbsLockLoss type inst compared errors => Sys2Proof.Machine.execPrbsLockLoss type inst compared errors s

end Sys2Proof.Machine
end

