-- ==== Sys2Proof/Machine/Tick.lean ====
section
/-! DEFINITION. A tick: one cycle of the reference that device time runs from, which passes when no command waits (R96, R111, R114). -/
namespace Sys2Proof.Machine

/-- What device time advances by in one cycle, in units of 2^-32 ns: 6.430041152 ns of the PON reference (R111), else 6.4 ns of the Ethernet
reference, else the free oscillator's period (R96). Log entry 10 (DESIGN CHOICE). -/
def refCycle (s : State) : Nat :=
  if !ponRefsLost s then (6430041152 * 2 ^ 32 + 500000000) / 1000000000
  else if s.clk.eth then 64 * 2 ^ 32 / 10
  else Config.freeOscPeriod

/-- Device time after a cycle, with the slew in force; 64 bits of nanoseconds and 32 of fraction. -/
def devAfter (s : State) : Nat := ((s.time.dev : Int) + refCycle s + slewStep s (refCycle s)).toNat % 2 ^ 96

/-- The device runs: out of reset, powered, not tripped. -/
def running (s : State) : Bool := s.power.resetN && s.power.pwrGood && s.power.thermTripN

/-- A tick: elapsed time advances always, device time while the device runs. Log entry 11 (DESIGN CHOICE). -/
def State.tick (s : State) : State :=
  let c := refCycle s
  let s' := { s with time.up := s.time.up + c }
  if running s then { s' with time.dev := devAfter s, pon.tod.slew := s.pon.tod.slew - slewStep s c } else s'

end Sys2Proof.Machine
end

