-- ==== Sys2Proof/Machine/Step.lean ====
section
/-! DEFINITION. One step: the command at the front of the queue takes its effect; with none waiting, time passes. Log entry 225 (DESIGN CHOICE). -/
namespace Sys2Proof.Machine

/-- The front command is executed on the state with the queue's rest; an empty queue is a tick. Log entry 1 (DESIGN CHOICE). Log entry 12 (DESIGN CHOICE). Log entry 228 (DESIGN CHOICE). -/
def step (s : State) : Host.Outcome State Fault Refusal :=
  match s.pending with
  | [] => .next s.tick
  | c :: rest => exec c { s with pending := rest }

/-- The command that a word spells put at the front of the queue. -/
def State.withFetchWord (s : State) (nbits w : Nat) : State :=
  match decodeTableWord nbits w with
  | none => s
  | some c => { s with pending := c :: s.pending }

end Sys2Proof.Machine
end

