-- ==== Sys2Proof/Safety.lean ====
section
/-! DEFINITION. What claims are stated in: a host command that may start, the state in which its effect begins, what a row changes, and what
every step keeps. -/
namespace Sys2Proof.Machine

/-- Mailbox `mb` runs command `c` of a code, and nothing keeps its effect from starting: no earlier conflicting command is unanswered (R439), no
pair switch is in hand (R441), and its FLAGS are defined for the code (R436). -/
def Starts (s : State) (mb : Fin 16) (code : Nat) (c : Cmd) : Prop :=
  (s.mbox mb).cmd = some c ∧ c.code = code ∧ startable s c = true ∧ c.flags &&& cmdFlags code = c.flags

/-- The state in which the effect of command `c` in mailbox `mb` begins: `c` is marked started, and nothing else has changed. -/
def begun (s : State) (mb : Fin 16) (c : Cmd) : State :=
  s.setMbox mb { s.mbox mb with cmd := some { c with started := true } }

/-- The command of row `i` ends with status OK and body `body`, and its effect has left the state `t`. -/
def Answers (i : Instr) (s : State) (mb : Fin 16) (t : State) (body : List Int) : Prop :=
  exec i s = .next (t.respond mb .ok 0 body)

/-- It ends with status OK and some body, and has changed nothing but its mailbox. -/
def AnswersOnly (i : Instr) (s : State) (mb : Fin 16) (c : Cmd) : Prop :=
  ∃ body, Answers i s mb (begun s mb c) body

/-! ### Host commands -/

/-- Commands whose own rights test comes before the test of their FLAGS (R435 step 5). -/
def rightsFirst : List Nat := [0x0D01, 0x0D02, 0x0D04, 0x1001, 0x1002]

/-- The effect of an entry has been applied (Table 17.5). -/
def applied (st : Status) : Bool := st == .ok || st == .deferred

/-- The statuses of the entries of a request, applied in order. -/
def entryStatuses {α : Type} (f : State → α → State × Status × List Int) : State → List α → List Status
  | _, [] => []
  | s, e :: es => (f s e).2.1 :: entryStatuses f (f s e).1 es

/-! ### Frames -/

/-- Whenever row `i` takes `s` to `t`, `t` is `f s t`: with `f` writing into `s` the parts of `t` that may change, no other part has. -/
def ChangesOnly (i : Instr) (f : State → State → State) : Prop := ∀ s t, exec i s = .next t → t = f s t

/-- What the answer to a host command changes: mailboxes, the audit of it, the interrupt, sent or pending, and the key of a session that has closed
(R463). -/
def answered (s t : State) : State :=
  { s with mb := t.mb, roles.audit := t.roles.audit, host.pba := t.host.pba, outbox := t.outbox, cipher.slots := t.cipher.slots }

/-- Rows that may write a key slot other than a session's. -/
def writesSlots : Instr → Bool
  | .frameStart | .ploamuMessage .. | .keyGenerationDrained _ | .keyWrite _ | .keyErase .. | .keyGenerate _ | .multiframeStart | .tetherKeyTimeout
  | .mirrorRecordRx | .resetAssert _ | .resetRelease | .bringupStepDone _ | .powerStateSet _ | .tempSample _ => true
  | _ => false

/-! ### What every step keeps -/

/-- The fuses hold: the minimum security version is at least `m`, and enrolment, where `e` says it was done, is done (R460). -/
def Fused (m : Nat) (e : Bool) (s : State) : Prop := m ≤ s.fw.securityMin ∧ (e = true → s.roles.enrolled = true)

/-- The event store holds at most 256 records, and the next SEQ has 16 bits (R512, R517). -/
def StoreBounded (s : State) : Prop := s.ev.store.length ≤ 256 ∧ s.ev.seq < 65536

end Sys2Proof.Machine
end

