-- ==== Sys2Proof/Certificates/Slice0/Obligations.lean ====
section
/-! DEFINITION. The statements for the provers. -/
open Sys2Proof Sys2Proof.Machine

/-- R24, R26: a signal-link command of the active pair is accepted and one of the standby pair discarded and counted; a region's report carries its
whole current capacity under the next number, and a consumer applies a report that the region sent exactly when its number is later than the last
applied. R50, R51: a full receive bridge drops the word, marks what holds it and counts; an empty transmit bridge ends the FEC codeword of a tree
lane with a parity that fails, marks the frame of a tether lane invalid, and gives each frame in transmission of an uplink lane's MACs an invalid
FCS, and counts. Beyond the rules it rests on the model's choices and readings of log entries 13, 22, 23 and 39. -/
def Obligations.SignalCapacityAndBridges : Prop :=
  (∀ (s : State) (r : Fin 13), ∃ t, exec (.signalCommand r true) s = .next t ∧ t.fw.discarded.get r = s.fw.discarded.get r + 1 ∧
    t.fw.accepted = s.fw.accepted) ∧
  (∀ (s : State) (r : Fin 13), ∃ t, exec (.signalCommand r false) s = .next t ∧ t.fw.accepted.get r = s.fw.accepted.get r + 1 ∧
    t.fw.discarded = s.fw.discarded) ∧
  (∀ (s : State) (r : Nat), ((s.reportCapacity r).pace.capSent.get r).head? = some ⟨(s.pace.capSeq.get r + 1) % 65536, capacityOf s r⟩ ∧
    (s.reportCapacity r).pace.capSeq.get r = (s.pace.capSeq.get r + 1) % 65536) ∧
  (∀ (s : State) (k : Consumer) (r : Fin 13) (n : BitVec 16) (x : CapReport),
    (s.pace.capSent.get r.val).find? (fun y => y.seq == n.toNat) = some x → laterSeq (s.pace.held.get (consumerKey k r)).last x.seq = true →
    exec (.capacityReport k r n) s = .next { s with pace.held := s.pace.held.set (consumerKey k r) ⟨some x.seq, some x.figures⟩ }) ∧
  (∀ (s : State) (k : Consumer) (r : Fin 13) (n : BitVec 16), laterSeq (s.pace.held.get (consumerKey k r)).last n.toNat = false →
    exec (.capacityReport k r n) s = .next s) ∧
  (∀ (s : State) (k : Consumer) (r : Fin 13) (n : BitVec 16), (s.pace.capSent.get r.val).find? (fun y => y.seq == n.toNat) = none →
    exec (.capacityReport k r n) s = .next s) ∧
  (∀ (s : State) (ty : Fin 3) (i : Fin 128), ∃ t, exec (.bridgeOverrun ty i) s = .next t ∧
    t.pace.spoiled.get (laneIndex ty i) = true ∧ t.pace.overruns.get (laneIndex ty i) = s.pace.overruns.get (laneIndex ty i) + 1) ∧
  (∀ (s : State) (i : Fin 128), ∃ t, exec (.bridgeUnderrun 0 i) s = .next t ∧
    t.outbox = s.outbox ++ [.badCodeword i] ∧ t.pace.underruns.get (laneIndex 0 i) = s.pace.underruns.get (laneIndex 0 i) + 1) ∧
  (∀ (s : State) (i : Fin 128), ∃ t, exec (.bridgeUnderrun 1 i) s = .next t ∧
    t.outbox = s.outbox ++ (((List.range 32).filter (fun m => macUsed s m && (macLanes s m).contains i.val && decide (s.up < (s.mac m).busyUntil))).filterMap
      (fun m => (s.mac m).sending.map Out.badFcs)) ∧
    t.pace.underruns.get (laneIndex 1 i) = s.pace.underruns.get (laneIndex 1 i) + 1) ∧
  (∀ (s : State) (i : Fin 128), ∃ t, exec (.bridgeUnderrun 2 i) s = .next t ∧
    t.outbox = s.outbox ++ [.tetherInvalid i] ∧ t.pace.underruns.get (laneIndex 2 i) = s.pace.underruns.get (laneIndex 2 i) + 1)

/-- R38: a sample in time is kept, with its pace and its stall flag, as the block's sample of the window; a late one is discarded and counted. R39:
a sample below 1.0 or above 4.5 G hc/s makes the monitor faulty, and its block's pace is then the region median. R40: control pace is that of a
block in service, not slow and with a good monitor, and no such block has a lower one. R41, R42: where a window's rules are evaluated the target
moves by the capped sum of the upward terms, or by the downward step where there is none, clamped to VDD_MIN and VDD_MAX; in the window after a
target nothing moves. R42, R45: a window's close takes each region's load and runs the queued pass-through commands. R44: after the third failed
AVSBus attempt the target goes out over PMBus, a retry answered restores AVSBus, and a status poll keeps what the regulator answers. R45: a pass-
through command is queued while the loop is enabled and runs at once in mode 1; VOUT_COMMAND is refused outside mode 1. Beyond the rules it rests on
the model's choices and readings of log entries 3, 13, 16, 17, 18, 20, 21, 171, 197, 203, 232, 233, 235, 236 and 238. -/
def Obligations.PaceAndVoltage : Prop :=
  (∀ (s : State) (i : Fin 3328) (n : Nat) (st : Bool), exec (.paceSample i n st false) s =
    .next (s.setBlockPace i { s.blockPace i with sample := some (paceOfCount i n (ponRefsLost s), st) })) ∧
  (∀ (s : State) (i : Fin 3328) (n : Nat) (st : Bool), exec (.paceSample i n st true) s = .next { s with pace.late := s.pace.late + 1 }) ∧
  (∀ (s : State) (m i p : Nat) (st : Bool), (s.blockPace i).sample = some (p, st) → p < 1000 ∨ 4500 < p →
    ((s.judge m i).blockPace i).faulty = true ∧ (s.judge m i).ro .PACE_NOW i = m) ∧
  (∀ (s : State) (l : List Nat) (i p : Nat), controlPace s l = some (i, p) →
    i ∈ l ∧ blockInService s i = true ∧ (s.unit (instAddr i)).slow = false ∧ (s.blockPace i).faulty = false ∧ p = (s.ro .PACE_NOW i).toNat ∧
    ∀ j ∈ l, blockInService s j = true → (s.unit (instAddr j)).slow = false → (s.blockPace j).faulty = false → p ≤ (s.ro .PACE_NOW j).toNat) ∧
  (∀ (s : State) (i p : Nat) (loads : List Nat), s.getN .AVS_MODE ≠ 1 → s.pace.settle = .ready ∨ s.pace.settle = .fullWindow →
    s.pace.avsFailed = false → 0 < upStep s p loads → (s.evalLoop i p loads).pace.target = clampTarget s (s.pace.target + upStep s p loads)) ∧
  (∀ (s : State) (i p : Nat) (loads : List Nat), s.getN .AVS_MODE ≠ 1 → s.pace.settle = .ready ∨ s.pace.settle = .fullWindow →
    s.pace.avsFailed = false → upStep s p loads = 0 → (s.evalLoop i p loads).pace.target = clampTarget s (s.pace.target - downStep s)) ∧
  (∀ (s : State) (i p : Nat) (loads : List Nat), s.getN .AVS_MODE ≠ 1 → s.pace.settle = .settling ∨ s.pace.settle = .partialWindow →
    (s.evalLoop i p loads).pace.target = s.pace.target) ∧
  (∀ (s : State) (loads : List Nat), ∃ t, exec (.paceWindowClose loads) s = .next t ∧ t.pace.regulator = [] ∧
    ∀ r, r < 13 → t.pace.loads.get r = loads.getD r 0) ∧
  (∀ s : State, s.pace.settle = .settling → exec .avsSettleExpiry s = .next { s with pace.settle := .partialWindow }) ∧
  (∀ s : State, s.pace.settle ≠ .settling → exec .avsSettleExpiry s = .next s) ∧
  (∀ (s : State) (ok : Bool), s.pace.avsFailed = false → s.pace.attempts < 2 → exec (.avsbusTransactionDone false ok) s =
    .next (({ s with pace.attempts := s.pace.attempts + 1 }).emit (.voltage false s.pace.target))) ∧
  (∀ (s : State) (ok : Bool), s.pace.avsFailed = false → 2 ≤ s.pace.attempts → exec (.avsbusTransactionDone false ok) s =
    .next ((({ s with pace.attempts := 3, pace.avsFailed := true, pace.pmFailed := !ok }).emit (.voltage true s.pace.target)).raise
      .AVS_BUS_FAULT (srcChip 17) regC (evData [(8, 1 + 2 * b2n (!ok))] 3))) ∧
  (∀ s : State, s.pace.avsFailed = false → ∀ ok, exec (.avsbusTransactionDone true ok) s = .next { s with pace.attempts := 0 }) ∧
  (∀ (s : State) (ok : Bool), s.pace.avsFailed = true → exec (.avsbusRetry ok) s =
    .next ({ s with pace.avsFailed := !ok, pace.attempts := if ok then 0 else s.pace.attempts }.emit (.voltage false s.pace.target))) ∧
  (∀ (s : State) (a : RegStatus), ∃ t, exec (.pmbusStatusPoll (some a)) s = .next t ∧ t.ro .VDD_READ 0 = a.mv ∧
    t.ro .CORE_POWER 0 = a.mv * a.ma / 1000 ∧ t.pace.pmFailed = false ∧ t.pace.current = a.ma ∧ t.pace.temperature = a.temperature ∧
    t.pace.status = a.status) ∧
  (∀ s : State, s.pace.pmFailed = false → ∃ t, exec (.pmbusStatusPoll none) s = .next t ∧ t.pace.pmFailed = true) ∧
  (∀ (s : State) (mb : Fin 16) (c : Cmd) (cmd data : Nat) (ans : List Nat), Starts s mb 0x0201 c → s.getN .AVS_MODE ≠ 1 → cmd ≠ voutCommand →
    s.pace.pmFailed = false →
    exec (.regulatorPassthrough mb cmd data ans) s = .next (({ begun s mb c with
      pace.regulator := s.pace.regulator ++ [(⟨s.pace.nextTxn, cmd, data, ans⟩ : RegTxn)], pace.nextTxn := s.pace.nextTxn + 1 }).await mb
        (.regulator s.pace.nextTxn) true)) ∧
  (∀ (s : State) (mb : Fin 16) (c : Cmd) (data : Nat) (ans : List Nat), Starts s mb 0x0201 c → s.getN .AVS_MODE ≠ 1 →
    exec (.regulatorPassthrough mb voutCommand data ans) s = .next ((begun s mb c).respond mb .noRight 0 [])) ∧
  (∀ (s : State) (mb : Fin 16) (c : Cmd) (cmd data : Nat) (ans : List Nat), Starts s mb 0x0201 c → s.getN .AVS_MODE = 1 →
    s.pace.pmFailed = false →
    Answers (.regulatorPassthrough mb cmd data ans) s mb ((begun s mb c).emit (.regulator cmd data)) (ans.map Int.ofNat))

/-- R60, R65: an entry's end gives one reset pulse, by the settings in force, while the pulses are not held low. R74, R76: the map's next entry is
preloaded, a late one with the fused late seed and PRELOAD_LATE, and an entry with CONT = 1 needs no preload. R75: the next bank becomes active,
unless the burst before it was the same terminal's, whose state carries on. R81, R83, R84: a lane sleeps where its entry has a sleep window, a dark
channel's wake run wakes its transmit lane and both sleep after it, none while an activation keeps them awake. R82: light in a sleep window is
reported. R85, R86: a faulty segment or slice waits and is reported, and a spare takes its place while any is left. Beyond the rules it rests on the
model's choices and readings of log entries 3, 13, 30, 240, 241 and 246. -/
def Obligations.LaneRows : Prop :=
  (∀ (s : State) (n : Fin 32), (s.ln (rxLane (2 * n.val))).current.any (fun p => p.entry.isSome) = true →
    (s.ln (rxLane (2 * n.val))).pulsed = false → (s.chan (2 * n.val)).enabled = true → pulsesHeld s n = false →
    exec (.brstPulse n) s = .next ((s.setLn (rxLane (2 * n.val)) { s.ln (rxLane (2 * n.val)) with pulsed := true }).emit
      (.brst n (s.getF .BRST_OFFSET n).toNat (s.getF .BRST_WIDTH n).toNat))) ∧
  (∀ (s : State) (c : Fin 64) (p : PlanEntry) (l : List PlanEntry), (s.ln (rxLane c)).nextEntry = none → (s.ln (rxLane c)).plan = p :: l →
    p.entry.any (fun e => e.cont) = false → ∃ t, exec (.burstPreload c false) s = .next t ∧ (t.ln (rxLane c)).next = preloadOf s p false ∧
    (t.ln (rxLane c)).nextEntry = some p ∧ (t.ln (rxLane c)).plan = l ∧ t.ev = s.ev) ∧
  (∀ (s : State) (c : Fin 64) (p : PlanEntry) (l : List PlanEntry), (s.ln (rxLane c)).nextEntry = none → (s.ln (rxLane c)).plan = p :: l →
    p.entry.any (fun e => e.cont) = false → ∃ t, exec (.burstPreload c true) s = .next t ∧ (t.ln (rxLane c)).next = preloadOf s p true ∧
    (t.ln (rxLane c)).nextEntry = some p ∧ ∃ r, t.ev.transit = s.ev.transit ++ [r] ∧ r.kind = .PRELOAD_LATE) ∧
  (∀ (s : State) (c : Fin 64) (p : PlanEntry), (s.ln (rxLane c)).nextEntry = some p → planTerm p = none ∨ planTerm p ≠ (s.ln (rxLane c)).activeFor →
    ∃ t, exec (.bankSwap c) s = .next t ∧ (t.ln (rxLane c)).active = (s.ln (rxLane c)).next ∧ (t.ln (rxLane c)).activeFor = planTerm p ∧
    (t.ln (rxLane c)).nextEntry = none) ∧
  (∀ (s : State) (c : Fin 64) (p : PlanEntry) (n : Nat), (s.ln (rxLane c)).nextEntry = some p → planTerm p = some n →
    (s.ln (rxLane c)).activeFor = some n → ∃ t, exec (.bankSwap c) s = .next t ∧ (t.ln (rxLane c)).active = (s.ln (rxLane c)).active) ∧
  (∀ (s : State) (c : Fin 64), (s.ln (rxLane c)).sleepDue = true → s.lanes.keepAwake.get c = false → ∃ t, exec (.laneSleepStart c) s = .next t ∧
    (t.ln (rxLane c)).asleep = true) ∧
  (∀ (s : State) (c : Fin 64), ∃ t, exec (.laneWakeStart c) s = .next t ∧ (t.ln (rxLane c)).asleep = false) ∧
  (∀ (s : State) (c : Fin 64), s.power.dark.get c = true → ∃ t, exec (.darkWakeRunStart c) s = .next t ∧
    t.lanes.wakeRun.get c = true ∧ (t.ln (txLane c)).asleep = false) ∧
  (∀ (s : State) (c : Fin 64), s.power.dark.get c = true → s.lanes.keepAwake.get c = false → ∃ t, exec (.darkWakeRunEnd c) s = .next t ∧
    t.lanes.wakeRun.get c = false ∧ (t.ln (txLane c)).asleep = true ∧ (t.ln (rxLane c)).asleep = true) ∧
  (∀ (s : State) (c : Fin 64) (x : Nat) (l : Option (Fin 8192)) (n : Nat), (s.ln (rxLane c)).asleep = true →
    ∃ t, exec (.sleepLight c x l n) s = .next t ∧ ∃ r rest, t.ev.transit = s.ev.transit ++ r :: rest ∧ r.kind = .SLEEP_LIGHT) ∧
  (∀ (s : State) (c : Fin 64) (g : Fin 40), (s.ln (txLane c)).failedMask.testBit g = false → (s.ln (txLane c)).waiting.contains g.val = false →
    ∃ t, exec (.driverSegmentFault c g) s = .next t ∧ (t.ln (txLane c)).waiting = (s.ln (txLane c)).waiting ++ [g.val] ∧
      ∃ r, t.reports = s.reports ++ [r]) ∧
  (∀ (s : State) (c : Fin 64) (u : Nat) (l : List Nat), (s.ln (txLane c)).waiting = u :: l → (s.ln (txLane c)).sparesUsed < laneSpares (txLane c) →
    ∃ t, exec (.laneSegmentSwap c) s = .next t ∧ (t.ln (txLane c)).waiting = l ∧
      (t.ln (txLane c)).sparesUsed = (s.ln (txLane c)).sparesUsed + 1 ∧ ∃ r, t.ev.transit = s.ev.transit ++ [r] ∧ r.kind = .LANE_SEGMENT_SWAP) ∧
  (∀ (s : State) (c : Fin 64) (d n : Nat), n < d * 1000000 → ∃ t, exec (.sliceShadowPeriod c d n false) s = .next t ∧
    (s.ln (rxLane c)).shadow ∈ (t.ln (rxLane c)).waiting ∧ ∃ r, t.reports = s.reports ++ [r]) ∧
  (∀ (s : State) (c : Fin 64) (d n : Nat), d * 1000000 ≤ n → ∃ t, exec (.sliceShadowPeriod c d n false) s = .next t ∧
    (t.ln (rxLane c)).waiting = (s.ln (rxLane c)).waiting ∧ t.reports = s.reports) ∧
  (∀ (s : State) (c : Fin 64) (u : Nat) (l : List Nat), (s.ln (rxLane c)).waiting = u :: l → (s.ln (rxLane c)).sparesUsed < laneSpares (rxLane c) →
    ∃ t, exec (.laneSliceSwap c) s = .next t ∧ (t.ln (rxLane c)).waiting = l ∧
      (t.ln (rxLane c)).sparesUsed = (s.ln (rxLane c)).sparesUsed + 1 ∧ ∃ r, t.ev.transit = s.ev.transit ++ [r] ∧ r.kind = .LANE_SLICE_SWAP) ∧
  (∀ (s : State) (c : Fin 64) (p : PlanEntry) (l : List PlanEntry) (late : Bool), (s.ln (rxLane c)).nextEntry = none →
    (s.ln (rxLane c)).plan = p :: l → p.entry.any (fun e => e.cont) = true → exec (.burstPreload c late) s = .next s) ∧
  (∀ (s : State) (c : Fin 64), s.lanes.keepAwake.get c = true → exec (.laneSleepStart c) s = .next s)

/-- R62: a round takes every terminal that can be measured; a burst long enough for the RSSI pulse is measured, and its value read when the module
has settled. R63: the LOS input is kept, and tree loss is declared where its criterion held throughout the window. R66, R67: a master issues its
transaction after the select's setup; a stuck bus is cleared and the transaction tried once more, at idle too; a select is used again after its
holdoff. R68, R69: a CMIS 5.x module has its pages 00h, 01h and 02h read and leaves low power after the last; another is not managed; a ready module
gets its lane controls; an unanswered poll is counted. Beyond the rules it rests on the model's choices and readings of log entries 11, 13, 24, 26,
28 and 249. -/
def Obligations.ModuleRows : Prop :=
  (∀ (s : State) (n : Fin 32), roundLeft s n = [] → (s.optic n).rssi = none → ∃ t, exec (.rssiRoundStart n) s = .next t ∧
    (t.optic n).round = rssiTargets s n) ∧
  (∀ (s : State) (n : Fin 8192) (x : Nat), let k := (s.term n).chan / 2
    (s.optic k).rssi = none → (s.optic k).asked.contains n.val = true → rssiTarget s (s.term n) = true → pulsesHeld s k = false → s.getN .RSSI_LEAD k + s.getN .RSSI_WIDTH k + 20 ≤ x →
    ∃ t, exec (.rssiWindow n x) s = .next t ∧ (t.optic k).rssi = some ⟨n, true⟩ ∧
      t.outbox = s.outbox ++ [.rssi k (s.getN .RSSI_LEAD k) (s.getN .RSSI_WIDTH k)]) ∧
  (∀ (s : State) (n : Fin 32) (k : Nat), (s.optic n).rssi = some ⟨k, true⟩ → (s.optic n).holdoff = false →
    ∃ t, exec (.rssiSettleExpiry n) s = .next t ∧ (t.optic n).rssi = some ⟨k, false⟩) ∧
  (∀ (s : State) (n : Fin 32) (v : Bool), ∃ t, exec (.treeLosPin n v) s = .next t ∧ (t.optic n).losPin = v) ∧
  (∀ (s : State) (n : Fin 32), treeEnabled s n = true → (s.optic n).loss = false → (losHeld s n).1 = true →
    ∃ t, exec (.losWindowExpiry n) s = .next t ∧ (t.optic n).loss = true) ∧
  (∀ (s : State) (n : Fin 4) (x : ModTxn), (s.master n).running = some x → (s.master n).setup = true →
    ∃ t, exec (.mmsSelSetupExpiry n) s = .next t ∧ t.outbox = s.outbox ++ [.twoWire (txnTree x) (txnWords s x)]) ∧
  (∀ (s : State) (n : Fin 4) (x : ModTxn), (s.master n).running = some x → (s.master n).retried = false →
    ∃ t, exec (.mmsBusStuck n) s = .next t ∧ (t.master n).retried = true ∧
      t.outbox = s.outbox ++ [.busClear n, .twoWire (txnTree x) (txnWords s x)]) ∧
  (∀ (s : State) (n : Fin 32), ∃ t, exec (.mmsSelectHoldoffExpiry n) s = .next t ∧ (t.optic n).holdoff = false) ∧
  (∀ (s : State) (n : Fin 32) (b : Byte), b.toNat / 16 = 5 → ∃ t, exec (.moduleManageStart n b) s = .next t ∧
    (t.optic n).managing = true) ∧
  (∀ (s : State) (n : Fin 32) (b : Byte), b.toNat / 16 ≠ 5 → ∃ t, exec (.moduleManageStart n b) s = .next t ∧
    (t.optic n).managed = false ∧ ∃ r, t.ev.transit = s.ev.transit ++ [r] ∧ r.kind = .MODULE_UNMANAGED) ∧
  (∀ (s : State) (n : Fin 32), (s.optic n).managing = true → ∃ t, exec (.moduleReady n) s = .next t ∧ (t.optic n).managed = true ∧
    t.outbox = s.outbox ++ [.laneControls n (s.chan (2 * n.val)).enabled (s.chan (2 * n.val + 1)).enabled]) ∧
  (∀ (s : State) (n : Fin 32), ∃ t, exec (.modulePoll n none) s = .next t ∧ (t.optic n).absentPolls = (s.optic n).absentPolls + 1) ∧
  (∀ (s : State) (n : Fin 4) (k : Nat), (s.master n).running = some (.poll k) → (s.master n).setup = false →
    (s.master n).polls = [] → (s.master n).passes = [] → (s.master n).reads = [] →
    ∃ t, exec (.moduleTransactionDone n []) s = .next t ∧ (t.master n).running = none) ∧
  (∀ (s : State) (n : Fin 32) (b : Byte), b.toNat / 16 = 5 → (s.master (n / 8)).running.isSome = true →
    ∃ t, exec (.moduleManageStart n b) s = .next t ∧
    (t.master (n / 8)).polls = (s.master (n / 8)).polls ++ [.page n 0, .page n 1, .page n 2]) ∧
  (∀ (s : State) (n : Fin 4) (k : Nat) (d : List Byte), (s.master n).running = some (.page k 2) → (s.master n).setup = false →
    (s.master n).polls = [] → (s.master n).passes = [] → (s.master n).reads = [] → (s.optic k).managing = true →
    ∃ t, exec (.moduleTransactionDone n d) s = .next t ∧ t.outbox = s.outbox ++ [.moduleLowPowerOff k]) ∧
  (∀ (s : State) (n : Fin 4), (s.master n).running = none → (s.master n).retried = false → ∃ t, exec (.mmsBusStuck n) s = .next t ∧
    (t.master n).retried = true ∧ t.outbox = s.outbox ++ [.busClear n])

/-- R70: a pass-through read or write takes its place among the master's transactions, and a write to protected bytes of an enabled tree is refused
with NO_RIGHT. R62: a measurement asked for waits for its terminal's next long burst. R73, R80: BMEM_READ returns an entry's words, and BMEM_RESET
takes the entry to seed with the next GENERATION and returns its words; an entry not in use is NO_OBJECT. Beyond the rules it rests on the model's
choices and readings of log entries 25, 27, 239 and 247. -/
def Obligations.ModuleCommands : Prop :=
  (∀ (s : State) (mb : Fin 16) (c : Cmd) (n p b o k : Nat), Starts s mb 0x0320 c → n < 32 → p < 256 → b < 256 → o < 256 → 1 ≤ k → k ≤ 128 →
    o + k ≤ 256 → (s.optic n).holdoff = false →
    exec (.moduleRead mb n p b o k) s = .next ((({ begun s mb c with lanes.nextTxn := s.lanes.nextTxn + 1 }).queueTxn
      (.read s.lanes.nextTxn n p b o k)).await mb (.module s.lanes.nextTxn) false)) ∧
  (∀ (s : State) (mb : Fin 16) (c : Cmd) (n p b o : Nat) (d : List Byte), Starts s mb 0x0321 c → n < 32 → p < 256 → b < 256 → o < 256 →
    d ≠ [] → d.length ≤ 8 → o + d.length ≤ 256 → (s.optic n).holdoff = false → treeEnabled s n = false →
    exec (.moduleWrite mb n p b o d) s = .next ((({ begun s mb c with lanes.nextTxn := s.lanes.nextTxn + 1 }).queueTxn
      (.write s.lanes.nextTxn n p b o d)).await mb (.module s.lanes.nextTxn) true)) ∧
  (∀ (s : State) (mb : Fin 16) (c : Cmd) (n : Nat), Starts s mb 0x0330 c → n < 8192 → (s.term n).state = .operation →
    s.getN .RSSI_LOC (s.term n).chan ≠ 0 →
    exec (.rssiMeasure mb n) s = .next (((begun s mb c).setOptic ((s.term n).chan / 2) { s.optic ((s.term n).chan / 2) with
      asked := (s.optic ((s.term n).chan / 2)).asked ++ [n] }).await mb (.rssi n) false)) ∧
  (∀ (s : State) (mb : Fin 16) (c : Cmd) (n : Nat), Starts s mb 0x0310 c → n < 8192 → (s.bm n).valid = true →
    Answers (.bmemRead mb n) s mb (begun s mb c) ((bmWords n (s.bm n)).map Int.ofNat)) ∧
  (∀ (s : State) (mb : Fin 16) (c : Cmd) (n : Nat), Starts s mb 0x0311 c → n < 8192 → (s.bm n).valid = true →
    let e := { s.bm n with state := .seed, shortQual := false, cleanRun := 0, missSeen := false, generation := ((s.bm n).generation + 1) % 256 }
    Answers (.bmemReset mb n) s mb ((begun s mb c).setBm n e) ((bmWords n e).map Int.ofNat)) ∧
  (∀ (s : State) (mb : Fin 16) (c : Cmd) (n : Nat), Starts s mb 0x0310 c → 8192 ≤ n →
    exec (.bmemRead mb n) s = .next ((begun s mb c).respond mb .badArg 0 [])) ∧
  (∀ (s : State) (mb : Fin 16) (c : Cmd) (n : Nat), Starts s mb 0x0310 c → n < 8192 → (s.bm n).valid = false →
    exec (.bmemRead mb n) s = .next ((begun s mb c).respond mb .noObject 0 [])) ∧
  (∀ (s : State) (mb : Fin 16) (c : Cmd) (n : Nat), Starts s mb 0x0311 c → n < 8192 → (s.bm n).valid = false →
    exec (.bmemReset mb n) s = .next ((begun s mb c).respond mb .noObject 0 [])) ∧
  (∀ (s : State) (mb : Fin 16) (c : Cmd) (n p b o : Nat) (d : List Byte), Starts s mb 0x0321 c → n < 32 → p < 256 → b < 256 → o < 256 →
    d ≠ [] → d.length ≤ 8 → o + d.length ≤ 256 → treeEnabled s n = true → protectedBytes (s.optic n).managed p o d.length = true →
    exec (.moduleWrite mb n p b o d) s = .next ((begun s mb c).respond mb .noRight 0 []))

/-- R91: at a frame start the timeline counts on and every enabled channel starts frame g; without a timeline nothing happens. R95: where a PON
reference is lost the device changes to the other; with the last reference gone REF_LOSS is raised, and one that returns when none was present is
selected and calibrates the lanes. R97: the codewords of a frame, with its 24 bytes of PSBd, fill 125 µs of the line. R102, R103: an express SDU
that fits leaves whole at a fragment boundary, at its place among the frame's information bytes. R117: a channel that stops after its frame answers
its commands, and the timeline ends with the last. Beyond the rules it rests on the model's choices and readings of log entries 3, 6, 13, 35, 36,
37, 38, 48 and 58. -/
def Obligations.FramingRows : Prop :=
  (∀ (s : State) (g : Nat), s.pon.tl.next = some g → ∃ u : State, u.pon.tl.sfc = g ∧ u.pon.tl.next = some ((g + 1) % 2 ^ 51) ∧
    u.pon.tl.startAt = s.up ∧ exec .frameStart s = .next ((liveChannels u).foldl (fun s c => s.frameOf g c) u)) ∧
  (∀ s : State, s.pon.tl.next = none → exec .frameStart s = .next s) ∧
  (∀ s : State, s.clk.ref0 = true → s.clk.ref1 = true → s.clk.selected = false → ∃ t, exec (.ponRefLoss 0) s = .next t ∧
    t.clk.ref0 = false ∧ t.clk.selected = true ∧ ∃ r, t.ev.transit = s.ev.transit ++ [r] ∧ r.kind = .REF_SWITCH) ∧
  (∀ s : State, s.clk.eth = true → s.clk.ref0 = false → s.clk.ref1 = false → ∃ t, exec .ethRefLoss s = .next t ∧ t.clk.eth = false ∧
    ∃ r, t.ev.transit = s.ev.transit ++ [r] ∧ r.kind = .REF_LOSS) ∧
  (∀ s : State, exec (.refReturn 2) s = .next { s with clk.eth := true }) ∧
  (∀ s : State, s.clk.ref0 = false → s.clk.ref1 = false → s.clk.selected = false → s.power.calDeferred = true →
    ∃ t, exec (.refReturn 1) s = .next t ∧ t.clk.ref1 = true ∧ t.clk.selected = true ∧ t.power.ponCalibrated = true) ∧
  (∀ (s : State) (c : Fin 64) (x : DsSdu) (l : List DsSdu), (s.chan c).framer.carry = none → (s.chan c).framer.express = x :: l →
    (s.chan c).framer.idleOnly = false → sends s c = true → (s.gem x.gem).cipher = 0 → x.frame.len + 8 ≤ (s.chan c).framer.space →
    ∃ t, exec (.fragmentBoundary c 0) s = .next t ∧ t.outbox = s.outbox ++
      [.xgem c (s.gem x.gem).port 0 (frameInfo c - 4 - (s.chan c).framer.space) x.frame.id 0 x.frame.len true (x.frame.bytes.take x.frame.len)]) ∧
  (∀ (s : State) (c : Fin 64), (s.chan c).stop = .afterFrame → ∃ t, exec (.channelStop c) s = .next t ∧
    t = ((s.stopChannel c).respondAll (.channelStop c) .ok 0 [(c.val : Int)]).endTimeline) ∧
  (∀ c : Nat, 32 * frameBytes c = 5 * lineRate c)

/-- R112: an edge of the other polarity is ignored. R114, R115: the first named edge in FREE starts acquiring and slews its error away, one not
named is only stamped; a first edge missing leaves LOCKED, a second takes it to HOLDOVER with the slew stopped. R113: a good message names the next
edge, one with a bad CRC names none and raises TOD_MSG_ERROR. Beyond the rules it rests on the model's choices and readings of log entries 4, 44,
45, 46, 47 and 251. -/
def Obligations.DeviceTimeRows : Prop :=
  (∀ (s : State) (x n : Nat), inReset s = false → s.pon.tod.state = .free → s.pon.tod.named = some n →
    let e : Int := ((x - s.getN .TOD_PPS_DELAY : Nat) : Int) - n * sec9
    e.natAbs ≤ s.getN .TOD_STEP_LIMIT → ∃ t, exec (.ppsEdge x (s.getN .TOD_PPS_POLARITY == 0)) s = .next t ∧ t.pon.tod.state = .acquiring ∧ t.pon.tod.slew = -e * 2 ^ 32) ∧
  (∀ (s : State) (x : Nat), inReset s = false → s.pon.tod.state = .free → s.pon.tod.named = none →
    exec (.ppsEdge x (s.getN .TOD_PPS_POLARITY == 0)) s = .next { s with
      pon.tod.slewMax := s.getN .TOD_SLEW_MAX, pon.tod.lastEdge := some (x - s.getN .TOD_PPS_DELAY) }) ∧
  (∀ (s : State) (x : Nat), exec (.ppsEdge x (!(s.getN .TOD_PPS_POLARITY == 0))) s = .next s) ∧
  (∀ s : State, s.pon.tod.state = .locked → s.pon.tod.missing = 1 → ∃ t, exec .ppsEdgeMissing s = .next t ∧ t.pon.tod.state = .holdover ∧
    t.pon.tod.slew = 0 ∧ ∃ r, t.ev.transit = s.ev.transit ++ [r] ∧ r.kind = .PPS_LOSS) ∧
  (∀ s : State, s.pon.tod.state = .locked → s.pon.tod.missing = 0 → ∃ t, exec .ppsEdgeMissing s = .next t ∧ t.pon.tod.state = .locked) ∧
  (∀ (s : State) (bs : List Byte) (e : Nat), inReset s = false → bs.length = 16 → byteAt bs 0 = 0xC5 → byteAt bs 1 = 0x3A →
    crcBytes 16 0x1021 0xFFFF ((bs.drop 2).take 12) = beNat (bs.drop 14) → s.pon.tod.lastEdge = some e → e + 10000000 ≤ s.now →
    s.now ≤ e + 900000000 → byteAt bs 2 = 1 → bit (byteAt bs 3) 7 = true → s.pon.tod.state = .free →
    ∃ t, exec (.todMessage bs) s = .next t ∧ t.pon.tod.named = some (beNat ((bs.drop 4).take 6))) ∧
  (∀ (s : State) (bs : List Byte), inReset s = false → bs.length = 16 → byteAt bs 0 = 0xC5 → byteAt bs 1 = 0x3A →
    crcBytes 16 0x1021 0xFFFF ((bs.drop 2).take 12) ≠ beNat (bs.drop 14) → ∃ t, exec (.todMessage bs) s = .next t ∧
      t.pon.tod.named = s.pon.tod.named ∧ ∃ r, t.ev.transit = s.ev.transit ++ [r] ∧ r.kind = .TOD_MSG_ERROR)

/-- R117: CHANNEL_ENABLE of an enabled channel answers at once, of a disabled one at its first frame; CHANNEL_DISABLE ends after the current frame,
is refused with BUSY where terminals are in operation, and with FORCE first sends three broadcast Deactivate_ONU-ID. TIME_READ returns device time,
its state, the last phase error, the superframe count and FRAME_ALIGN_ERR. Beyond the rules it rests on the model's choices and readings of log
entries 33, 34, 35, 39, 53 and 58. -/
def Obligations.ChannelCommands : Prop :=
  (∀ (s : State) (mb : Fin 16) (c : Cmd) (n : Nat), Starts s mb 0x0401 c → n < 64 → (s.chan n).enabled = true →
    Answers (.channelEnable mb n) s mb (begun s mb c) [(n : Int)]) ∧
  (∀ (s : State) (mb : Fin 16) (c : Cmd) (n : Nat), Starts s mb 0x0401 c → n < 64 → (s.chan n).enabled = false →
    channelUnderTest s n = false → s.power.ponCalibrated = true → s.clk.ref0 = true → (s.ln (txLane n)).failed = false →
    ∃ t : State, exec (.channelEnable mb n) s = .next (t.await mb (.chanFirst n) true) ∧ ∃ g, (t.chan n).enableAt = some g) ∧
  (∀ (s : State) (mb : Fin 16) (c : Cmd) (n : Nat), Starts s mb 0x0402 c → n < 64 → (s.chan n).enabled = true → c.flags = 0 →
    termsOf s n (fun t => t.state == .operation) = [] →
    exec (.channelDisable mb n) s = .next (((begun s mb c).setChan n { s.chan n with stop := .afterFrame }).await mb (.channelStop n) true)) ∧
  (∀ (s : State) (mb : Fin 16) (c : Cmd) (n : Nat), Starts s mb 0x0402 c → n < 64 → (s.chan n).enabled = true → c.flags = 0 →
    termsOf s n (fun t => t.state == .operation) ≠ [] → exec (.channelDisable mb n) s = .next ((begun s mb c).respond mb .busy 0 [])) ∧
  (∀ (s : State) (mb : Fin 16) (c : Cmd), Starts s mb 0x0410 c →
    Answers (.timeRead mb) s mb (begun s mb c) [(s.now : Int), todCode s.pon.tod.state, s.ro .TOD_PHASE_ERR, s.pon.tl.sfc, s.pon.tl.alignErr]) ∧
  (∀ (s : State) (mb : Fin 16) (c : Cmd) (n : Nat), Starts s mb 0x0402 c → n < 64 → (s.chan n).enabled = true → c.flags = 1 → sends s n = true →
    exec (.channelDisable mb n) s = .next ((((begun s mb c).setChan n { s.chan n with stop := .forced 3 }).queuePloam n true
      { kind := .deactivate 1, term := none }).await mb (.channelStop n) true))

/-- R129, R131: a due discovery window is taken up on both channels of its tree, and a profile broadcast queues the profile set. R132, R151, R152:
an answer whose hunt over the window finds no delimiter counts as a collision; one that does, from an ABSENT terminal of its channel, acquires it at
the window's rate. R135, R136: a valid registration burst sends Ranging_Time with the delay that its round trip gives. R138: a window missed counts
an attempt, one preloaded late does not, and another is placed after RANGE_RETRY. R142: an update not yet confirmed sends Ranging_Time once more and
then ranges again. R127, R143: a terminal too long in LOST is deactivated with reason 2, and a held ONU-ID is free at its expiry. R75, R77: the
final state of a burst received goes into its lane and its entry, that of a burst missed into its lane. Beyond the rules it rests on the model's
choices and readings of log entries 3, 29, 39, 53, 56, 67, 86, 146, 148, 231, 242, 259 and 260. -/
def Obligations.ActivationRows : Prop :=
  (∀ (s : State) (n : Fin 32), exec (.discoveryWindowDue n) s = .next ((s.discoveryDue (2 * n.val)).discoveryDue (2 * n.val + 1))) ∧
  (∀ (s : State) (c : Fin 64), (s.chan c).enabled = true → runs s (c.val / 2) = true →
    exec (.profileBroadcast c) s = .next ((discRates s c).foldl (fun s r =>
      (s.queuePloam c false { kind := .profile 0 r, term := none }).queuePloam c false { kind := .profile 1 r, term := none }) s)) ∧
  (∀ (s : State) (c : Fin 64) (w : Window) (l : List Candidate) (sn mic a : Nat), begunWindow s c .discovery = some w →
    (huntInterval s c onuAll w l).found = none → ∃ t, exec (.snAnswer c l sn mic a) s = .next t ∧
    t.ro .DISC_COLLISIONS c = (addField (s.ro .DISC_COLLISIONS c).toNat 31 0 1 : Nat)) ∧
  (∀ (s : State) (c : Fin 64) (w : Window) (l : List Candidate) (sn a t o : Nat), begunWindow s c .discovery = some w → w.readmit = false →
    (huntInterval s c onuAll w l).found ≠ none → runs s (c.val / 2) = true → findSerial s sn = some t → (s.term t).chan = c.val →
    (s.term t).deact = none → (s.term t).state = .absent → (s.term t).blocked = false → (s.term t).readmit = none → (s.term t).onlyRate = none →
    pickOnu s t = some o → exec (.snAnswer c l sn (Config.ploamCode none [sn]) a) s =
      .next ((s.huntCounts c (huntInterval s c onuAll w l)).acquire t o w.rate a)) ∧
  (∀ (s : State) (n : Fin 8192) (w : Window) (l : List Candidate) (m : Nat) (id : List Byte) (x : Option Nat), let c := (s.term n).chan
    begunWindow s c (.ranging n) = some w → (huntInterval s c ((s.term n).onu.getD onuAll) w l).found ≠ none → (s.term n).state = .ranging →
    (s.term n).deact = none → (s.term n).result = none → runs s (c / 2) = true →
    rangeOut ((s.huntCounts c (huntInterval s c ((s.term n).onu.getD onuAll) w l)).setTerm n
      { s.term n with measRt := m, regId := id.take 36, respTime := (x.map (· % 65536)).getD 35000 }) n m = false →
    ∃ u : State, ∃ eqd, exec (.registrationBurst n l m id x (Config.ploamCode none (id.map (·.toNat)))) s =
      .next (u.queuePloam c true { kind := .rangingTime eqd, term := some n.val }) ∧ eqd = eqdOf (ui64 (s.term n).rate (teqdPs s c)) m) ∧
  (∀ (s : State) (n : Fin 8192), (s.term n).state = .ranging → (s.term n).deact = none → (s.term n).result = none →
    runs s ((s.term n).chan / 2) = true → rogueOverlaps s n = false → (s.term n).attempts + 1 < (s.term n).maxAttempts →
    exec (.rangingWindowMiss n false) s = .next (s.setTerm n { s.term n with attempts := (s.term n).attempts + 1 })) ∧
  (∀ (s : State) (n : Fin 8192), (s.term n).state = .ranging → (s.term n).deact = none → (s.term n).result = none →
    exec (.rangingWindowMiss n true) s = .next s) ∧
  (∀ (s : State) (n : Fin 8192), (s.term n).state = .ranging → (s.term n).deact = none → (s.term n).result = none →
    runs s ((s.term n).chan / 2) = true → exec (.rangeRetryExpiry n) s = .next (s.askRanging n 0)) ∧
  (∀ (s : State) (n : Fin 8192) (u : DriftUpdate), (s.term n).update = some u → u.again = false → runs s ((s.term n).chan / 2) = true →
    exec (.driftSettleExpiry n) s = .next ((s.setTerm n { s.term n with update := some { u with again := true } }).queuePloam (s.term n).chan true
      { kind := .rangingTime (u.oldEqd - u.delta), term := some n.val })) ∧
  (∀ (s : State) (n : Fin 8192) (u : DriftUpdate), (s.term n).update = some u → u.again = true → runs s ((s.term n).chan / 2) = true →
    exec (.driftSettleExpiry n) s = .next (s.rerange n)) ∧
  (∀ (s : State) (n : Fin 8192), (s.term n).state = .lost → runs s ((s.term n).chan / 2) = true →
    exec (.lobDeactExpiry n) s = .next (s.deactivate n 2)) ∧
  (∀ (s : State) (c : Fin 64) (o : Fin 1023), ∃ t, exec (.onuIdHoldExpiry c o) s = .next t ∧ (t.chan c).onuHeld.contains o.val = false) ∧
  (∀ (s : State) (n : Fin 8192) (f : LaneSettings), (s.pon.line.get n.val).rx = none → exec (.burstWriteBack n f) s =
    .next (s.carryFinal (rxLane (s.term n).chan) n (finalState none f))) ∧
  (∀ (s : State) (n : Fin 8192) (x : BurstRx) (f : LaneSettings), (s.pon.line.get n.val).rx = some x → burstHeld (s.term n) = true →
    recovering s (s.term n).chan = true → ∃ t, exec (.burstWriteBack n f) s = .next t ∧ (t.bm n).state = .learned ∧
    (t.bm n).set = { finalState (some x) f with rate := (s.bm n).rate } ∧ (t.bm n).lastFrame = x.frame % 2 ^ 32) ∧
  (∀ (s : State) (n : Fin 8192) (x : BurstRx) (f : LaneSettings), (s.pon.line.get n.val).rx = some x → burstHeld (s.term n) = true →
    recovering s (s.term n).chan = false → let u := s.carryFinal (rxLane (s.term n).chan) n (finalState (some x) f)
    exec (.burstWriteBack n f) s = .next ((u.writeBack' n x (finalState (some x) f)).driftTest n (finalState (some x) f).phase
      (cleanBurst u ((s.term n).chan / 2) (u.ln (rxLane (s.term n).chan)) x (finalState (some x) f).phase))) ∧
  (∀ (s : State) (c : Fin 64) (l : List Candidate) (sn mic a : Nat), begunWindow s c .discovery = none →
    exec (.snAnswer c l sn mic a) s = .next s)

/-- R144, R145: observations of phase 1 are collected; a terminal that 12 of them follow is the suspect, with its tally. R145, R147: a probe's light
is counted; where every terminal disabled leaves no light the candidates are bisected. R147: a re-admitted terminal that answers gets its previous
ONU-ID. R144, R148: the hold-off ends, an investigation is started, read and stopped by command. R132: the list of unknown serial numbers is read
and cleared. Beyond the rules it rests on the model's choices and readings of log entries 1, 12, 39, 59, 60, 61, 148 and 228. -/
def Obligations.RogueRows : Prop :=
  (∀ (s : State) (c : Fin 64) (w : Bool) (l : Option (Fin 8192)) (n : Nat), (s.rogue c).phase = 1 → (s.rogue c).collected.length < 16 →
    ∃ t, exec (.rogueObservation c w l n) s = .next t ∧
      (t.rogue c).collected = (s.rogue c).collected ++ [⟨if w then 2 else 0, l.map Fin.val, n, s.up⟩]) ∧
  (∀ (s : State) (c : Fin 64) (x : Suspect), (s.rogue c).phase = 1 →
    (named (s.rogue c).collected).find? (fun t => decide (12 ≤ trailing (s.rogue c).collected t.term)) = some x →
    ∃ t, exec (.rogueCorrelationEnd c) s = .next t ∧ (t.rogue c).phase = 0 ∧ (t.rogue c).suspects = [{ x with trailing := true }] ∧
      ∃ r, t.ev.transit = s.ev.transit ++ [r] ∧ r.kind = .ROGUE_SUSPECT) ∧
  (∀ (s : State) (c : Fin 64) (n : Nat), (s.rogue c).probesLeft = n + 2 → ∀ light, ∃ t, exec (.rogueProbeResult c light) s = .next t ∧
    (t.rogue c).probesLeft = n + 1 ∧ (t.rogue c).lit = (s.rogue c).lit + b2n light) ∧
  (∀ (s : State) (c : Fin 64), (s.rogue c).phase = 3 → (s.rogue c).probesLeft = 0 → (s.rogue c).step = some .all → (s.rogue c).lit = 0 →
    exec (.rogueBisectionStep c) s = .next (s.bisectNext c (s.rogue c).candidates [])) ∧
  (∀ (s : State) (n : Fin 8192) (k o : Nat), (s.term n).readmit = some k → (s.term n).onu = some o → (s.term n).state = .absent →
    stepping s n = false → exec (.readmissionAnswer n) s = .next (s.queuePloam (s.term n).chan true { kind := .assignOnuId o, term := some n.val })) ∧
  (∀ (s : State) (c : Fin 64), exec (.rogueHoldoffExpiry c) s = .next (s.setRogue c { s.rogue c with holdoff := false })) ∧
  (∀ (s : State) (mb : Fin 16) (c : Cmd) (n : Nat), Starts s mb 0x0530 c → n < 64 → (s.rogue n).phase = 0 → (s.chan n).enabled = true →
    runs s (n / 2) = true → rogueCount (begun s mb c) < 16 → Answers (.rogueStart mb n) s mb ((begun s mb c).openRogue n) []) ∧
  (∀ (s : State) (mb : Fin 16) (c : Cmd) (n : Nat), Starts s mb 0x0531 c → n < 64 →
    Answers (.rogueStatus mb n) s mb (begun s mb c) ([((s.rogue n).phase : Int), (s.rogue n).candidates.length] ++
      ((s.rogue n).suspects.map (fun x => [(x.term : Int), x.tally, b2n x.trailing])).flatten)) ∧
  (∀ (s : State) (mb : Fin 16) (c : Cmd) (n : Nat), Starts s mb 0x0532 c → n < 64 → (s.rogue n).phase = 0 →
    Answers (.rogueStop mb n) s mb (begun s mb c) []) ∧
  (∀ (s : State) (mb : Fin 16) (c : Cmd) (n : Nat), Starts s mb 0x0532 c → n < 64 → (s.rogue n).phase ≠ 0 → ∃ t : State,
    Answers (.rogueStop mb n) s mb t [] ∧ (t.rogue n).phase = 0) ∧
  (∀ (s : State) (mb : Fin 16) (c : Cmd) (n : Nat), Starts s mb 0x0520 c → n < 64 →
    Answers (.snListRead mb n) s mb ((begun s mb c).setChan n { s.chan n with unknown := [] }) ((s.chan n).unknown.map Int.ofNat))

/-- What each command of a terminal does where it has its effect: TERM_CREATE makes the terminal ABSENT with the lowest free burst memory entry
(R125); TERM_DELETE of an ABSENT terminal frees its index (R125); TERM_DEACTIVATE of an active one waits for the deactivation, of an ABSENT one
changes nothing (R127); TERM_DISABLE and TERM_ENABLE wait for their Disable_Serial_Number message (R126); TERM_READ returns Table 5.4; TERM_RERANGE
without a rate ranges a terminal in service again (R133, R141). A command that finds a step in progress waits for it, and fails with BUSY after 50
ms (R148). Beyond the rules it rests on the model's choices and readings of log entries 4, 39, 40, 49, 51, 52, 53, 54, 55, 127, 146, 248 and 279. -/
def Obligations.TerminalCommands : Prop :=
  (∀ (s : State) (mb : Fin 16) (c : Cmd) (n k sn a g : Nat), Starts s mb 0x0501 c → n < 8192 → k < 64 → sn < 2 ^ 64 → a < 32768 → g < 131072 →
    (s.term n).state = .free → findSerial s sn = none → (s.alloc a).valid = false → (s.gem g).valid = false →
    s.terms.keys (fun _ v => v.state != .free && (v.defAlloc == a || v.omciGem == g)) = [] → treeTerms s (k / 2) < 512 → regionTerms s (k / 8) < 2048 →
    regionAllocs s (k / 8) < 8192 → regionGems s (k / 8) < 32768 →
    let v : Terminal := { state := .absent, chan := k, serial := sn, defAlloc := a, omciGem := g, entry := freeEntry s (k / 8) }
    Answers (.termCreate mb n k sn 0xFFFF a g) s mb ((begun s mb c).putTerm n v) (termFields v)) ∧
  (∀ (s : State) (mb : Fin 16) (c : Cmd) (n : Nat), Starts s mb 0x0502 c → n < 8192 → (s.term n).state = .absent → stepping s n = false →
    otherMaps s n = false → Answers (.termDelete mb n) s mb ((((begun s mb c).dropPloam n).releaseTerm n).freeTerm n) (termFields {})) ∧
  (∀ (s : State) (mb : Fin 16) (c : Cmd) (n : Nat), Starts s mb 0x0503 c → n < 8192 → (s.term n).state = .operation → stepping s n = false →
    (((begun s mb c).deactivate n 1).term n).deact.isSome = true →
    exec (.termDeactivate mb n) s = .next (((begun s mb c).deactivate n 1).await mb (.termGone n) true)) ∧
  (∀ (s : State) (mb : Fin 16) (c : Cmd) (n : Nat), Starts s mb 0x0503 c → n < 8192 → (s.term n).state = .absent → stepping s n = false →
    Answers (.termDeactivate mb n) s mb (begun s mb c) (termFields (s.term n))) ∧
  (∀ (s : State) (mb : Fin 16) (c : Cmd) (n : Nat), Starts s mb 0x0504 c → n < 8192 → (s.term n).state ≠ .free → (s.term n).state ≠ .disabled →
    stepping s n = false →
    let t := ((begun s mb c).disableTerm n).queuePloam (s.term n).chan true { kind := .disableSn false, term := some n }
    takesPloam t (s.term n).chan = true → exec (.termDisable mb n) s = .next (t.await mb (.ploamSent n) true)) ∧
  (∀ (s : State) (mb : Fin 16) (c : Cmd) (n : Nat), Starts s mb 0x0505 c → n < 8192 → (s.term n).state = .disabled → stepping s n = false →
    let k := (s.term n).chan
    let t := ((begun s mb c).putTerm n { s.term n with state := .absent }).queuePloam k true { kind := .disableSn true, term := some n }
    let t := t.setRogue k { t.rogue k with disabled := (t.rogue k).disabled.filter (· != n) }
    takesPloam t k = true → exec (.termEnable mb n) s = .next (t.await mb (.ploamSent n) true)) ∧
  (∀ (s : State) (mb : Fin 16) (c : Cmd) (n : Nat), Starts s mb 0x0506 c → n < 8192 → (s.term n).state ≠ .free →
    Answers (.termRead mb n) s mb (begun s mb c) (termFields (s.term n))) ∧
  (∀ (s : State) (mb : Fin 16) (c : Cmd) (n : Nat), Starts s mb 0x0507 c → n < 8192 → inService (s.term n) = true → stepping s n = false →
    let t := ((begun s mb c).setTerm n { s.term n with blocked := false }).rerange n
    Answers (.termRerange mb n none) s mb t (termFields (t.term n))) ∧
  (∀ (s : State) (mb : Fin 16) (c : Cmd) (n : Nat), (s.mbox mb).cmd = some c → c.wait = some (.termStep n) → c.started = false →
    exec (.commandStepWaitTimeout mb) s = .next (s.respond mb .busy 0 [])) ∧
  (∀ (s : State) (mb : Fin 16) (c : Cmd) (n : Nat), Starts s mb 0x0503 c → n < 8192 → (s.term n).state ≠ .free → stepping s n = true →
    exec (.termDeactivate mb n) s = .next ((begun s mb c).park mb (.termStep n)))

/-- The commands of allocation and GEM indexes where they have their effect: ALLOC_MAP binds an Alloc-ID of 1,024 to 16,383 (R122), with
DBA_OVERCOMMIT where the channel passes its limit (R174); ALLOC_UNMAP leaves the index unbound with the default contract (R173); GEM_MAP binds a
multicast port and GEM_UNMAP unbinds one, with its count of SDUs dropped (R123, R124); ALLOC_CONTRACT sets a contract for the next cut-off (R173);
LEDGER_RESET, DBA_STATUS_READ and ALLOC_CONTRACT_READ (R198, R200); pre-announcements are taken in request order (R195) and removed by
DBA_PREANN_CANCEL (R194). Beyond the rules it rests on the model's choices and readings of log entries 4, 49, 76, 77, 78, 91, 147, 148, 279 and 280.
-/
def Obligations.MapCommands : Prop :=
  (∀ (s : State) (mb : Fin 16) (c : Cmd) (a k id n : Nat), Starts s mb 0x0510 c → a < 32768 → k < 64 → 1024 ≤ id → id ≤ 16383 → n < 8192 →
    (s.term n).state ≠ .free → (s.term n).chan = k → stepping s n = false → (s.alloc a).valid = false → defaultOfSome s a = false →
    s.dba.allocs.keys (fun _ v => v.valid && v.chan == k && v.allocId == id) = [] → regionAllocs s (k / 8) < 8192 →
    let e := { s.alloc a with valid := true, chan := k, allocId := id, dflt := false, term := n }
    let t := ((begun s mb c).putAlloc a e).mirror (k / 2) a (.contract (contractDue e))
    Answers (.allocMap mb a k id n) s mb (t.checkCommitted s k) (allocWords a e)) ∧
  (∀ (s : State) (mb : Fin 16) (c : Cmd) (a : Nat), Starts s mb 0x0511 c → a < 32768 → defaultOfSome s a = false → (s.alloc a).valid = true →
    stepping s (s.alloc a).term = false → ∃ t : State, Answers (.allocUnmap mb a) s mb t (allocWords a (t.alloc a)) ∧ (t.alloc a).valid = false ∧
      (t.alloc a).contract = {} ∧ (t.alloc a).nextContract = none ∧ (t.alloc a).demand = 0) ∧
  (∀ (s : State) (mb : Fin 16) (c : Cmd) (g : Nat) (e : GemEntry), Starts s mb 0x0512 c → g < 131072 → e.mcast = true → (s.gem g).valid = false →
    let f := { e with valid := true, dropped := 0, term := 0 }
    gemCheck f (s.term 0) = none → omciOfSome s g = false → gemOfPort s e.chan e.port = none →
    termsOf s e.chan (fun v => v.wantOnu == some e.port && v.onu != some e.port) = [] → regionGems s (regionOfChan e.chan) < 32768 →
    tapesOk ((begun s mb c).setGem g f) (regionOfChan e.chan) = true → Answers (.gemMap mb g e) s mb ((begun s mb c).putGem g f) (gemWords g f)) ∧
  (∀ (s : State) (mb : Fin 16) (c : Cmd) (g : Nat), Starts s mb 0x0513 c → g < 131072 → omciOfSome s g = false → (s.gem g).valid = true →
    (s.gem g).mcast = true → let t := (begun s mb c).unbindGem g false
    Answers (.gemUnmap mb g) s mb t (gemWords g (t.gem g) ++ [((t.gem g).dropped : Int)])) ∧
  (∀ (s : State) (mb : Fin 16) (c : Cmd) (a : Nat) (k : Contract), Starts s mb 0x0701 c → a < 32768 → contractOk k = true → (s.alloc a).valid = false →
    let e := { s.alloc a with nextContract := some k }
    Answers (.allocContract mb a k.rf k.ra k.rna k.rm k.w k.lat k.preann) s mb ((begun s mb c).setAlloc a e) (contractWords e k)) ∧
  (∀ (s : State) (mb : Fin 16) (c : Cmd) (a : Nat), Starts s mb 0x0702 c → a < 32768 →
    Answers (.allocContractRead mb a) s mb (begun s mb c) (contractWords (s.alloc a) (s.alloc a).contract)) ∧
  (∀ (s : State) (mb : Fin 16) (c : Cmd) (a : Nat), Starts s mb 0x0720 c → a < 32768 →
    Answers (.ledgerReset mb a) s mb ((begun s mb c).setAlloc a { s.alloc a with resetLedger := true })
      (contractWords { s.alloc a with resetLedger := true, ledger := 0 } (s.alloc a).contract)) ∧
  (∀ (s : State) (mb : Fin 16) (c : Cmd) (n : Nat), Starts s mb 0x0730 c → n < 64 → AnswersOnly (.dbaStatusRead mb n) s mb c) ∧
  (∀ (s : State) (mb : Fin 16) (c : Cmd) (a : Nat), Starts s mb 0x0711 c → a < 32768 →
    let l := s.dba.preanns
    Answers (.dbaPreannCancel mb a none) s mb { begun s mb c with dba.preanns := l.filter (fun p => p.alloc != a) }
      [((l.filter (fun p => p.alloc == a)).length : Int)]) ∧
  (∀ (s : State) (mb : Fin 16) (c : Cmd), Starts s mb 0x0710 c → preannEntries c ≠ [] → (preannEntries c).length ≤ 254 → c.body.length % 16 = 0 →
    let r := runEntries preannEntry (begun s mb c) 0 (preannEntries c)
    r.2.2.1 = none → exec (.dbaPreannounce mb) s = .next (r.1.respond mb .ok (r.2.1 * 2 ^ 16 + 0xFFFF) r.2.2.2))

/-- Upstream reception: a burst found by the hunt of a terminal that holds its grant is received, its arrival measured at the delimiter (R151,
R155); one whose holder is no longer bound is discarded (R217); a missed burst is counted and decodes no further (R156); a codeword that its decoder
corrects counts the bits it corrected, another one its weight (R157, Table 6.1); a PLOAMu message is discarded where it lies in an uncorrectable
codeword (R158) or fails its code, and else goes to the control pair (R159); a report goes on its way to the solver, or is discarded with its CRC
(R160); a BER window that closes declares its defect and opens the next (R168). Beyond the rules it rests on the model's choices and readings of log
entries 22, 62, 65, 66, 67, 68, 86, 265 and 293. -/
def Obligations.UpstreamRows : Prop :=
  (∀ (s : State) (n : Fin 8192) (b : UsBurst) (k : Candidate), (hunt s (s.term n) b.cands).found = some k → recovering s (s.term n).chan = false →
    burstHeld (s.term n) = true → b.gasp = false →
    let c := (s.term n).chan
    let t := (((s.huntCounts c (hunt s (s.term n) b.cands)).opticBurst (c / 2) true).beginRx n k b.phase).bump .US_BIP_ERR n b.bip
    exec (.upstreamBurst n b) s = .next ((t.burstSeen n (64 * k.pos + b.phase)).commissionBurst n b.feeder)) ∧
  (∀ (s : State) (n : Fin 8192) (b : UsBurst), (hunt s (s.term n) b.cands).found.isSome = true →
    burstHeld (s.term n) = false → ∃ t, exec (.upstreamBurst n b) s = .next t ∧
      (t.chan (s.term n).chan).discarded = (s.chan (s.term n).chan).discarded + 1 ∧ t.terms = s.terms ∧ t.line n = s.line n) ∧
  (∀ (s : State) (n : Fin 8192) (l : List Candidate), (hunt s (s.term n) l).found = none → recovering s (s.term n).chan = false →
    burstHeld (s.term n) = true → (s.ln (rxLane (s.term n).chan)).late = false → inProbe s (s.term n).chan = false →
    let c := (s.term n).chan
    let t := ((s.huntCounts c (hunt s (s.term n) l)).bumpF .US_DELIM_STATS c 31 16).opticBurst (c / 2) false
    let t := (t.setLine n { t.line n with rx := none }).dropKeystream n (grantOfBurst t n).1
    exec (.delimiterMiss n l) s = .next ((t.missCounters n).missBurst n true)) ∧
  (∀ (s : State) (n : Fin 8192) (info it : Nat) (errs : List Byte) (x : BurstRx), (s.line n).rx = some x → burstHeld (s.term n) = true →
    recovering s (s.term n).chan = false → (s.line n).sd.rule.isSome = true → (s.takeSpoiled 0 (rxLane (s.term n).chan)).1 = false →
    decodes (s.term n).chan (s.term n).rate errs it = true →
    let k := min info (infoBytes (s.term n).rate)
    ∃ t, exec (.fecCodeword n info errs it) s = .next t ∧
      (t.line n).sd.bits = (s.line n).sd.bits + 8 * (k + parityBytes (s.term n).rate) ∧
      (t.line n).sd.corrected = (s.line n).sd.corrected + bitsSet errs ∧ (t.line n).rx = some { x with decoded := x.decoded + k } ∧
      t.ro .US_FEC_CORR_BITS n = (addField (s.ro .US_FEC_CORR_BITS n).toNat 31 0 (bitsSet errs) : Nat)) ∧
  (∀ (s : State) (n : Fin 8192) (info it : Nat) (errs : List Byte) (x : BurstRx), (s.line n).rx = some x → burstHeld (s.term n) = true →
    recovering s (s.term n).chan = false → (s.line n).sf.rule.isSome = true →
    ((s.takeSpoiled 0 (rxLane (s.term n).chan)).1 || !decodes (s.term n).chan (s.term n).rate errs it) = true →
    let k := min info (infoBytes (s.term n).rate)
    ∃ t, exec (.fecCodeword n info errs it) s = .next t ∧
      (t.line n).sf.bits = (s.line n).sf.bits + 8 * (k + parityBytes (s.term n).rate) ∧
      (t.line n).sf.corrected = (s.line n).sf.corrected + fecWeight (s.term n).chan (s.term n).rate ∧
      (t.line n).rx = some { x with decoded := x.decoded + k, bad := x.bad ++ [(x.decoded, k)] } ∧
      t.ro .US_FEC_UNCORR n = (addField (s.ro .US_FEC_UNCORR n).toNat 31 0 1 : Nat)) ∧
  (∀ (s : State) (n : Fin 8192) (m : List Nat) (mic : Nat) (a : Option Nat) (x : BurstRx), (s.line n).rx = some x → burstHeld (s.term n) = true →
    (touchesBad x ploamuAt 48 = true → ∃ t, exec (.ploamuMessage n m mic a) s = .next t ∧
      (t.line n).ploamErrored = (s.line n).ploamErrored + 1 ∧ t.terms = s.terms ∧ t.chans = s.chans) ∧
    (touchesBad x ploamuAt 48 = false → mic ≠ Config.ploamCode (slotMsk s n) m → ∃ t, exec (.ploamuMessage n m mic a) s = .next t ∧
      (t.line n).micFails = (s.line n).micFails + 1 ∧ t.terms = s.terms ∧ t.chans = s.chans) ∧
    (touchesBad x ploamuAt 48 = false → mic = Config.ploamCode (slotMsk s n) m →
      exec (.ploamuMessage n m mic none) s = .next ((s.setTerm n { s.term n with askPloamu := false }).setChan (s.term n).chan
        { s.chan (s.term n).chan with toPair := (s.chan (s.term n).chan).toPair ++ [(n.val, m)] }))) ∧
  (∀ (s : State) (n : Fin 8192) (a : Fin 32768) (at_ w : Nat) (x : BurstRx), (s.line n).rx = some x → touchesBad x at_ 4 = false →
    (s.alloc a).valid = true → (s.alloc a).chan = (s.term n).chan → w < 0xFFFFFF →
    exec (.burstReport n a at_ true w) s = .next { s with dba.transit := s.dba.transit ++ [(a.val, x.frame % 2 ^ 14, w)] }) ∧
  (∀ (s : State) (n : Fin 8192) (a : Fin 32768) (at_ w : Nat) (crc : Bool) (x : BurstRx), (s.line n).rx = some x →
    (!crc || touchesBad x at_ 4) = true → ∃ t, exec (.burstReport n a at_ crc w) s = .next t ∧
    t.dba = s.dba ∧ t.ro .US_REPORT_DISCARDS (s.term n).chan = (addField (s.ro .US_REPORT_DISCARDS (s.term n).chan).toNat 31 16 1 : Nat)) ∧
  (∀ (s : State) (n : Fin 8192) (x f ms r : Nat), (s.line n).sf.rule = some (x, f, ms, r) → f * 10 ^ x ≤ (s.line n).sf.bits →
    (s.line n).sfOn = true → (windowJudge (s.line n).sf (x, f, ms, r)).1 = true → ∃ t, exec (.berWindowClose n true) s = .next t ∧
      (t.line n).sfOn = true ∧ (t.line n).sf = openWindow s (s.term n).chan true ∧ t.ev = s.ev) ∧
  (∀ (s : State) (n : Fin 8192) (x f ms r : Nat), (s.line n).sd.rule = some (x, f, ms, r) → ms * msec ≤ s.up - (s.line n).sd.opened →
    (s.line n).sdOn = false → (windowJudge (s.line n).sd (x, f, ms, r)).1 = true → ∃ t, exec (.berWindowClose n false) s = .next t ∧
      (t.line n).sdOn = true ∧ ∃ e, t.ev.transit = s.ev.transit ++ [e] ∧ e.kind = .US_SD ∧ e.clear = false)

/-- Delineation and reassembly: a whole SDU of a port in clear is released, descrambled (R158, R163, R165); a middle fragment joins its port's open
SDU (R165); a bad header ends the delineation of its allocation, whose later frames are none (R162); an idle frame is dropped uncounted (R162); an
encrypted frame is opened with the keystream dispatched for it, and without it in time is discarded (R164, R336, R341); an SDU whose next fragment
does not come is discarded (R167). Beyond the rules it rests on the model's choices and readings of log entries 41, 63, 64, 265 and 268. -/
def Obligations.DelineationRows : Prop :=
  (∀ (s : State) (n : Fin 8192) (gem : UsGem) (g : Nat) (x : BurstRx), (s.line n).rx = some x → x.lost.contains gem.alloc = false →
    gem.header = true → touchesBad x gem.at_ 8 = false → gem.idle = false → touchesBad x (gem.at_ + 8) gem.payload.length = false → gem.key = 0 →
    gem.last = true → gemOfPort s (s.term n).chan gem.port = some g → (s.gem g).dir = 3 → (s.gem g).mcast = false → (s.gem g).term = n →
    (s.gem g).cipher = 0 → (s.gem g).omci = false → s.pon.reasm.get g = none →
    let bytes := descramble (s.term n).chan (gem.at_ + 8) gem.payload
    exec (.xgemFrame n gem) s =
      .next { s with pon.released := s.pon.released ++ [⟨n.val, g, { id := gem.id, len := bytes.length, bytes := bytes }⟩] }) ∧
  (∀ (s : State) (n : Fin 8192) (gem : UsGem) (g : Nat) (x : BurstRx) (o : Reasm), (s.line n).rx = some x → x.lost.contains gem.alloc = false →
    gem.header = true → touchesBad x gem.at_ 8 = false → gem.idle = false → touchesBad x (gem.at_ + 8) gem.payload.length = false → gem.key = 0 →
    gem.last = false → gemOfPort s (s.term n).chan gem.port = some g → (s.gem g).dir = 2 → (s.gem g).mcast = false → (s.gem g).term = n →
    (s.gem g).cipher = 0 → s.pon.reasm.get g = some o → o.dead = false →
    let bytes := descramble (s.term n).chan (gem.at_ + 8) gem.payload
    o.len + bytes.length ≤ o.max →
    granules (o.len + bytes.length) ≤ granulesFree s (regionOfChan (s.gem g).chan) + granules o.len →
    exec (.xgemFrame n gem) s = .next (s.setReasm g (some { o with len := o.len + bytes.length, bytes := o.bytes ++ bytes, last := s.up }))) ∧
  (∀ (s : State) (n : Fin 8192) (gem : UsGem) (x : BurstRx), (s.line n).rx = some x → x.lost.contains gem.alloc = false →
    (!gem.header || touchesBad x gem.at_ 8) = true → ∃ t, exec (.xgemFrame n gem) s = .next t ∧
    (t.line n).rx = some { x with lost := x.lost ++ [gem.alloc] } ∧ t.pon.reasm = s.pon.reasm ∧ t.pon.released = s.pon.released ∧
    t.ro .US_GEM_DISCARDS (s.term n).chan = (addField (s.ro .US_GEM_DISCARDS (s.term n).chan).toNat 31 24 1 : Nat)) ∧
  (∀ (s : State) (n : Fin 8192) (gem : UsGem) (x : BurstRx), (s.line n).rx = some x → x.lost.contains gem.alloc = true →
    exec (.xgemFrame n gem) s = .next s) ∧
  (∀ (s : State) (n : Fin 8192) (gem : UsGem) (x : BurstRx), (s.line n).rx = some x → x.lost.contains gem.alloc = false → gem.header = true →
    touchesBad x gem.at_ 8 = false → gem.idle = true → exec (.xgemFrame n gem) s = .next s) ∧
  (∀ (s : State) (n : Fin 8192) (gem : UsGem) (g : Nat) (x : BurstRx), (s.line n).rx = some x →
    x.lost.contains gem.alloc = false → gem.header = true → touchesBad x gem.at_ 8 = false → gem.idle = false →
    touchesBad x (gem.at_ + 8) gem.payload.length = false → 0 < gem.key → gemOfPort s (s.term n).chan gem.port = some g →
    knownPort (s.gem g) n = true → keyFits s (s.gem g) gem.key = true →
    let bytes := descramble (s.term n).chan (gem.at_ + 8) gem.payload
    let o := s.keystreamOf n (s.term n).chan x gem.key bytes.length
    exec (.xgemFrame n gem) s = .next (match o.1, o.2.1 with
      | some k, _ => o.2.2.fragment g gem (openPayload (s.term n).chan k x (gem.at_ + 8) bytes)
      | none, true => o.2.2.dropFragment g gem.last
      | none, false => (o.2.2.cipherLate (regionOfChan (s.term n).chan)).dropFragment g gem.last)) ∧
  (∀ (s : State), ∃ t, exec .reasmTimeoutExpiry s = .next t ∧ ∀ g ∈ s.pon.reasm.keys (fun g o => match o with
    | some r => !r.dead && decide (s.getN .REASM_TIMEOUT (s.gem g).chan * 1000 < s.up - r.last)
    | none => false), ∀ r, t.pon.reasm.get g = some r → r.dead = true ∧ r.bytes = [])

/-- Grant maps: the constructor posts the map of the solution's frame and the fallback of the next (R203, R206); a copy whole before its deadline is
held as built, with its CRC tested (R204), and keystream is dispatched for its bursts (R341), a later one is not; at the deadline a framer takes the
built map of that frame, else the fallback with GM_LATE, else an empty map with GM_EMPTY (R207); GM_READ returns the copy last sent (R218); a report
reaches the store (R179); after a cut-off no pre-announcement of its frame or an earlier one is left (R194). Beyond the rules it rests on the
model's choices and readings of log entries 69, 84, 85, 86, 89, 90, 92, 268 and 269. -/
def Obligations.SolverAndMapRows : Prop :=
  (∀ (s : State) (c : Fin 64) (x : Solution), (s.chan c).maps.solution = some x → outOfRole s (blockAddr regM (44 + c / 32)) = false →
    ∃ t, exec (.solverOutputPosted c) s = .next t ∧ ∃ p, (t.chan c).maps.posted = some p ∧ (t.chan c).maps.solution = none ∧
      p.map.frame = x.frame ∧ p.map.fallback = false ∧ p.fallback.frame = x.frame + 1 ∧ p.fallback.fallback = true) ∧
  (∀ (s : State) (c : Fin 64) (m : MapCopy) (e : List (Nat × Byte)), (s.chan c).maps.posted = some m → (s.chan c).maps.deadline < m.map.frame →
    ∃ t : State, exec (.mapDelivery c e) s = .next (t.keystreams c m.map) ∧ (t.chan c).maps.built = some (m.map, copyGood c m.map e) ∧
      (t.chan c).maps.posted = none ∧ (t.chan c).maps.fallbacks = (s.chan c).maps.fallbacks ++ [m.fallback]) ∧
  (∀ (s : State) (c : Fin 64) (m : MapCopy) (e : List (Nat × Byte)), (s.chan c).maps.posted = some m → m.map.frame ≤ (s.chan c).maps.deadline →
    ∃ t, exec (.mapDelivery c e) s = .next t ∧ (t.chan c).maps.built = (s.chan c).maps.built ∧ t.cipher = s.cipher) ∧
  (∀ (s : State) (g : Nat), s.pon.tl.next = some g →
    exec .framingDeadline s = .next (((List.range 64).filter (fun c => sendsNext s c g)).foldl (fun s c => s.deadlineOf g c) s)) ∧
  (∀ (s : State) (c g : Nat) (m : GrantMap), (s.chan c).maps.built = some (m, true) → m.frame = g →
    ((s.chooseMap c g).chan c).maps.chosen = some m ∧ (s.chooseMap c g).ev = s.ev) ∧
  (∀ (s : State) (c g : Nat) (m f : GrantMap), (s.chan c).maps.built = some (m, false) →
    (s.chan c).maps.fallbacks.find? (fun f => f.frame == g) = some f →
    ((s.chooseMap c g).chan c).maps.chosen = some f ∧ ∃ e, (s.chooseMap c g).ev.transit = s.ev.transit ++ [e] ∧ e.kind = .GM_LATE) ∧
  (∀ (s : State) (c g : Nat), (s.chan c).maps.built = none → (s.chan c).maps.fallbacks.find? (fun f => f.frame == g) = none →
    (∃ m, ((s.chooseMap c g).chan c).maps.chosen = some m ∧ m.structs = [] ∧ m.frame = g ∧ m.empty = true) ∧
    ∃ e, (s.chooseMap c g).ev.transit = s.ev.transit ++ [e] ∧ e.kind = .GM_EMPTY) ∧
  (∀ (s : State) (mb : Fin 16) (c : Cmd) (n : Nat), Starts s mb 0x0740 c → n < 64 →
    Answers (.gmRead mb n) s mb (begun s mb c) ((copyBytes n (s.chan n).maps.sent).map (fun b => (b.toNat : Int)))) ∧
  (∀ (s : State) (mb : Fin 16) (c : Cmd) (n : Nat), Starts s mb 0x0741 c → n < 64 →
    Answers (.gmCalendarRead mb n) s mb (begun s mb c) (((s.chan n).maps.calendar.map (fun w =>
      [(winCode w.kind : Int), w.frame, w.start, w.from_ - w.frame * 125000, w.to_ - w.frame * 125000])).flatten)) ∧
  (∀ (s : State) (a f o : Nat) (l : List (Nat × Nat × Nat)), s.dba.transit = (a, f, o) :: l → (s.alloc a).valid = true →
    ∃ t, exec .reportArrival s = .next t ∧ t.dba.transit = l ∧ (t.alloc a).report = some (f, o)) ∧
  (∀ (s : State) (g : Nat), s.pon.tl.next = some g → ∃ t, exec .reportCutoff s = .next t ∧ t.dba.lastRun = g ∧
    ∀ p ∈ t.dba.preanns, g < p.frame)

/-- Frames at the uplinks and their classification: a good frame of a MAC that is up joins the parse lanes of its region (R225), one with a bad FCS
is counted (R361); PARSE_PASS stamps the oldest with the epoch in force (R235), and RECIRC_PASS takes a recirculated one when no first-pass packet
waits (R240); a rule's drop action drops (R234), its recirculate action asks for a buffer of class 14 (R239); an upstream SDU that MALFORMED_ACTION
or DEPTH_ACTION drops goes no further (R227, R228), another is looked up in the MAC and the flow table (R243, R257); a drained rule set is reported
(R236), and a swap that waits for it fails with TIMEOUT (R237). Beyond the rules it rests on the model's choices and readings of log entries 95, 99,
100 and 101. -/
def Obligations.ClassifyRows : Prop :=
  (∀ (s : State) (m : Fin 32) (f : Frame) (x : Option SecTag), (s.mac m).up = true → 64 ≤ f.len → f.len ≤ s.getN .UPLINK_MTU m →
    secured s m = false → (s.takeMac m).1 = false → ∃ t, exec (.uplinkFrameRx m f false false x) s = .next t ∧
      t.fwd.toParse.get (m / 16) = s.fwd.toParse.get (m / 16) ++ [{ frame := f, mac := m }]) ∧
  (∀ (s : State) (m : Fin 32) (f : Frame) (x : Option SecTag), (s.mac m).up = true → 64 ≤ f.len → f.len ≤ s.getN .UPLINK_MTU m →
    (s.takeMac m).1 = false → ∃ t, exec (.uplinkFrameRx m f false true x) s = .next t ∧ t.fwd.toParse = s.fwd.toParse ∧
      (t.mac m).stats.get stFcs = satTo 64 ((s.mac m).stats.get stFcs + 1)) ∧
  (∀ (s : State) (m : Fin 32) (f : Frame) (x : Option SecTag) (fcs : Bool), (s.mac m).up = true → (s.takeMac m).1 = true →
    ∃ t, exec (.uplinkFrameRx m f false fcs x) s = .next t ∧ t.fwd.toParse = s.fwd.toParse ∧
      (t.mac m).stats.get stBlock = satTo 64 ((s.mac m).stats.get stBlock + 1)) ∧
  (∀ (s : State) (r : Fin 2) (x : Parity) (k : Pkt) (l : List Pkt), s.fwd.toParse.get r = k :: l → exec (.parsePass r x) s =
    .next ((({ s with fwd.toParse := s.fwd.toParse.set r l }).flight r s.fwd.rules.epoch 1).pass { k with epoch := s.fwd.rules.epoch } x)) ∧
  (∀ (s : State) (r : Fin 2) (x : Parity) (k : Pkt) (l : List Pkt), s.fwd.recirc.get r = k :: l → s.fwd.toParse.get r = [] →
    exec (.recircPass r x) s =
    .next ((({ s with fwd.recirc := s.fwd.recirc.set r l }).bumpF .RECIRC_STATS r 31 16).pass k x)) ∧
  (∀ (s : State) (r : Fin 2) (x : Parity), s.fwd.toParse.get r ≠ [] → exec (.recircPass r x) s = .next s) ∧
  (∀ (s : State) (k : Pkt) (p : Parsed) (x : Parity) (i : Nat) (r : Rule),
    matchRule s (bankOf s k.epoch) (fun f => packetKey f k.mac k.copy k.second p) = some (i, r) → ruleAction r = 2 →
    s.classify k p x = ((s.hitRule (k.mac / 16) (bankOf s k.epoch) i).landed k).dropPkt k.frame) ∧
  (∀ (s : State) (k : Pkt) (p : Parsed) (x : Parity) (i : Nat) (r : Rule), k.second = false → ruleAction r = 5 →
    matchRule s (bankOf s k.epoch) (fun f => packetKey f k.mac k.copy k.second p) = some (i, r) → ∃ e,
    (s.classify k p x).fwd.wants = s.fwd.wants ++ [e] ∧ e.cls = 14 ∧ e.what = .recirc { k with second := true } (bits r.w0 23 20)) ∧
  (∀ (s : State) (r : Fin 8) (b : Bool) (u : UsSdu), s.pon.released.find? (fun u => (s.gem u.gem).chan / 8 == r.val) = some u →
    outcome s (32 + (s.gem u.gem).chan) (parse (cfgOf s (32 + (s.gem u.gem).chan)) u.frame.bytes) = some none →
    ∃ t, exec (.upstreamSduParse r b none) s = .next t ∧ t.pon.released = s.pon.released.erase u ∧ t.fwd = s.fwd) ∧
  (∀ (s : State) (r : Fin 8) (b : Bool) (u : UsSdu), s.pon.released.find? (fun u => (s.gem u.gem).chan / 8 == r.val) = some u →
    let c := (s.gem u.gem).chan
    let p := parse (cfgOf s (32 + c)) u.frame.bytes
    outcome s (32 + c) p = none → p.bad = 0 → p.depth = false → s.getN .ANTISPOOF_MODE u.gem = 0 → s.getN .LEARN_EN c = 0 →
    exec (.upstreamSduParse r b none) s = .next
      ((({ s with pon.released := s.pon.released.erase u }).lookup 1 (macKey (learnFid s u.gem u.frame p) p.smac) none).2.upLookup u p none)) ∧
  (∀ (s : State) (e : Nat), s.fwd.rules.draining = some e → inFlight s e = 0 → ∃ t, exec .rulesetDrained s = .next t ∧
    t.fwd.rules = { s.fwd.rules with draining := none } ∧ ∃ r, t.ev.transit = s.ev.transit ++ [r] ∧ r.kind = .RULESET_DRAINED) ∧
  (∀ (s : State) (e : Nat), s.fwd.rules.draining = some e → inFlight s e ≠ 0 → exec .rulesetDrained s = .next s) ∧
  (∀ (s : State) (mb : Fin 16) (c : Cmd), (s.mbox mb).cmd = some c → c.code = 0x0804 → c.wait = some .swapDrain → c.reply = none →
    exec (.swapWaitExpiry mb) s = .next (s.respond mb .timeout 0 []))

/-- The commands of the rule sets (R245): RULE_WRITE writes its rules into the staging set, and refuses an EXPECT that is not the next epoch (R238);
RULE_READ of the active set; RULESET_COPY makes the staging set equal to the active one, and is refused while a set drains; RULESET_SWAP makes the
staging set active under the next epoch (R236), and waits while a set drains (R237); RULESET_STATUS. Beyond the rules it rests on the model's
choices and readings of log entries 98 and 99. -/
def Obligations.RuleCommands : Prop :=
  (∀ (s : State) (mb : Fin 16) (c : Cmd) (i e : Nat) (l : List RuleEntry), Starts s mb 0x0801 c → l ≠ [] → l.length ≤ 32 → i + l.length ≤ 8192 →
    l.any ruleBad = false → s.fwd.rules.draining = none → e = (s.fwd.rules.epoch + 1) % 16 →
    let t := (begun s mb c).setRules (putRules s.fwd.rules (staging s * 8192 + i) l)
    Answers (.ruleWrite mb i e l) s mb t ((List.range l.length).map (fun k => ruleWords t (staging s * 8192 + i + k))).flatten) ∧
  (∀ (s : State) (mb : Fin 16) (c : Cmd) (i e : Nat) (l : List RuleEntry), Starts s mb 0x0801 c → l ≠ [] → l.length ≤ 32 → i + l.length ≤ 8192 →
    l.any ruleBad = false → s.fwd.rules.draining = none → e ≠ (s.fwd.rules.epoch + 1) % 16 →
    exec (.ruleWrite mb i e l) s = .next ((begun s mb c).respond mb .staleEpoch 0 [])) ∧
  (∀ (s : State) (mb : Fin 16) (c : Cmd) (i n : Nat), Starts s mb 0x0802 c → n ≠ 0 → n ≤ 32 → i + n ≤ 8192 →
    Answers (.ruleRead mb 0 i n) s mb (begun s mb c) ((List.range n).map (fun k => ruleWords s (s.fwd.rules.active * 8192 + i + k))).flatten) ∧
  (∀ (s : State) (mb : Fin 16) (c : Cmd), Starts s mb 0x0803 c → s.fwd.rules.draining = none → s.fwd.rules.active ≤ 1 → ∃ t : State,
    Answers (.rulesetCopy mb) s mb t [] ∧ t.fwd.rules.active = s.fwd.rules.active ∧
    (∀ i, i < 8192 → t.fwd.rules.rules.get (staging s * 8192 + i) = s.fwd.rules.rules.get (s.fwd.rules.active * 8192 + i)) ∧
    ∀ i, i < 8192 → t.fwd.rules.rules.get (s.fwd.rules.active * 8192 + i) = s.fwd.rules.rules.get (s.fwd.rules.active * 8192 + i)) ∧
  (∀ (s : State) (mb : Fin 16) (c : Cmd) (e : Nat), Starts s mb 0x0803 c → s.fwd.rules.draining = some e →
    exec (.rulesetCopy mb) s = .next ((begun s mb c).respond mb .busy 0 [])) ∧
  (∀ (s : State) (mb : Fin 16) (c : Cmd), Starts s mb 0x0804 c → s.fwd.rules.draining = none → ∃ t : State, Answers (.rulesetSwap mb) s mb t [] ∧
    t.fwd.rules = { s.fwd.rules with active := 1 - s.fwd.rules.active, epoch := (s.fwd.rules.epoch + 1) % 16, draining := some s.fwd.rules.epoch } ∧
    ∃ r, t.ev.transit = s.ev.transit ++ [r] ∧ r.kind = .RULESET_SWAPPED) ∧
  (∀ (s : State) (mb : Fin 16) (c : Cmd) (e : Nat), Starts s mb 0x0804 c → s.fwd.rules.draining = some e →
    exec (.rulesetSwap mb) s = .next ((begun s mb c).park mb .swapDrain)) ∧
  (∀ (s : State) (mb : Fin 16) (c : Cmd), Starts s mb 0x0805 c → AnswersOnly (.rulesetStatus mb) s mb c)

/-- The learning serialiser, the scanner and the move windows: a learn message at the head of the queue is applied and goes on to the peer, and the
host operations queued behind it follow at their turn (R264, R265, R31); it inserts a new address, and a move of a static entry is refused (R266,
R267); a flush deletes the entries it names (R268); a pass starts with AGING_PERIOD other than 0, and only then (R262); the scanner clears HIT, and
deletes what has not been hit since (R263); a sweep ends the move windows that have passed (R267). Beyond the rules it rests on the model's choices
and readings of log entries 6, 102, 103, 104, 271 and 273. -/
def Obligations.LearningRows : Prop :=
  (∀ (s : State) (x : Parity) (m : SerMsg) (l : List SerMsg), s.fwd.serial = m :: l → m.type = 0 →
    exec (.learnMessageApply x) s = .next (State.hostTurns l ((s.applyLearn m x).toPeer m))) ∧
  (∀ (s : State), State.hostTurns [] s = { s with fwd.serial := [] }) ∧
  (∀ (s : State) (m : SerMsg) (l : List SerMsg), m.host = none → State.hostTurns (m :: l) s = { s with fwd.serial := m :: l }) ∧
  (∀ (s t : State) (m : SerMsg) (l : List SerMsg) (mb : Nat) (o : TableOp) (st : Status) (d : Nat) (b : List Int), m.host = some (mb, o) →
    s.tableOp o = (t, .done st d b) → State.hostTurns (m :: l) s = State.hostTurns l (t.respondAll (.serialTurn mb) st d b)) ∧
  (∀ (s : State) (m : SerMsg), findKey s 1 (macKey m.fid m.addr) = none → bit (s.getN .ANTISPOOF_MODE m.gem) 2 = false →
    s.applyLearn m none = (s.insertEntry 1 (macKey m.fid m.addr) false true (.mac m.gem 0 false 0)).1) ∧
  (∀ (s : State) (m : SerMsg) (p : Place) (e : Ent), findKey s 1 (macKey m.fid m.addr) = some p → entryAt (s.table 1) p = some e →
    (macPort e).1 ≠ m.gem → e.isStatic = true → s.applyLearn m none = s.bump .MOVES_REFUSED 0) ∧
  (∀ (s : State) (m : SerMsg) (l : List SerMsg), s.fwd.serial = m :: l → m.type = 1 ∨ m.type = 2 → exec .macFlushApply s =
    .next (State.hostTurns l ((((allPlaces (s.table 1)).filter (flushes s m)).foldl (fun (s : State) p => s.deleteAt 1 p) s).toPeer m))) ∧
  (∀ (s : State) (x : Fin 2), s.getN .AGING_PERIOD x ≠ 0 → ∃ t, exec (.agingPassStart x) s = .next t ∧ (t.table x).scanning = true ∧
    (t.table x).passes = ((s.table x).passes + 1) % 256 ∧ (t.table x).slots = (s.table x).slots) ∧
  (∀ (s : State) (x : Fin 2), s.getN .AGING_PERIOD x = 0 → ∃ t, exec (.agingPassStart x) s = .next t ∧ (t.table x).scanning = false ∧
    (t.table x).passes = (s.table x).passes) ∧
  (∀ (s : State) (b i : Nat) (e : Ent), i < 4 → (s.table 0).scanning = true → entryAt (s.table 0) (.slot b i) = some e → e.isStatic = false →
    e.hit = true → ∃ t, exec (.agingScan 0 false (b * 4 + i)) s = .next t ∧ entryAt (t.table 0) (.slot b i) = some (toCopy { e with hit := false })) ∧
  (∀ (s : State) (b i : Nat) (e : Ent), i < 4 → (s.table 0).scanning = true → entryAt (s.table 0) (.slot b i) = some e → e.isStatic = false →
    e.hit = false → ∃ t, exec (.agingScan 0 false (b * 4 + i)) s = .next t ∧ entryAt (t.table 0) (.slot b i) = none ∧
      t.ro .AGED_OUT 0 = (addField (s.ro .AGED_OUT 0).toNat 31 0 1 : Nat)) ∧
  (∀ (s : State), exec .moveWindowSweep s = .next ((allPlaces (s.table 1)).foldl State.sweepEntry s)) ∧
  (∀ (s : State) (p : Place) (e : Ent) (g n st : Nat), entryAt (s.table 1) p = some e → e.v = .mac g n false st → n ≠ 0 → windowOver s st = true →
    s.sweepEntry p = s.writeAt 1 p { e with v := .mac g 0 false st })

/-- The commands of the flow and MAC tables (R270), each with nothing queued before it in the serialiser: FLOW_PROFILE_SET writes a profile within
its limits (R248); FLOW_ADD inserts a new key and returns the entry, or rewrites it under REPLACE (R261); FLOW_DELETE, FLOW_READ, MAC_ADD,
MAC_DELETE and MAC_READ; MAC_FLUSH queues a flush (R268); MAC_UNFREEZE ends a freeze (R267); EVICT_LOG_READ releases what it returns (R260);
TABLE_STATUS. An operation that finds messages queued waits for its turn (R265). Beyond the rules it rests on the model's choices and readings of
log entries 102, 271, 272, 273 and 279. -/
def Obligations.TableCommands : Prop :=
  (∀ (s : State) (mb : Fin 16) (c : Cmd) (n : Nat) (l : List Nat), Starts s mb 0x0901 c → n < 256 → l.length = 4 → l.all extractOk = true →
    l.foldl (fun n w => n + extLen w) 0 ≤ 88 →
    Answers (.flowProfileSet mb n l) s mb { begun s mb c with fwd.profiles := s.fwd.profiles.set n (some l) } (l.map Int.ofNat)) ∧
  (∀ (s : State) (mb : Fin 16) (c : Cmd) (e : FlowArg), Starts s mb 0x0902 c → s.fwd.serial = [] → flowOk e = true → findKey s 0 e.key = none →
    let r := (begun s mb c).insertEntry 0 e.key (bit c.flags 0) false (.flow e.kind e.queue e.meter e.marker e.index)
    r.2 = true → exec (.flowAdd mb [e]) s = .next (r.1.respond mb .ok 0x1FFFF (keyWords r.1 0 e.key))) ∧
  (∀ (s : State) (mb : Fin 16) (c : Cmd) (k : Nat) (p : Place), Starts s mb 0x0903 c → s.fwd.serial = [] → findKey s 0 k = some p →
    exec (.flowDelete mb [k]) s = .next (((begun s mb c).deleteAt 0 p).respond mb .ok 0x1FFFF [])) ∧
  (∀ (s : State) (mb : Fin 16) (c : Cmd) (k : Nat) (p : Place), Starts s mb 0x0904 c → findKey s 0 k = some p →
    exec (.flowRead mb [k] none) s = .next ((begun s mb c).respond mb .ok 0x1FFFF (entryWords s 0 p))) ∧
  (∀ (s : State) (mb : Fin 16) (c : Cmd) (e : MacArg) (p : Place), Starts s mb 0x0910 c → s.fwd.serial = [] → macArgOk e = true →
    findKey s 1 (macKey e.fid e.addr) = some p → bit c.flags 1 = true →
    let t := (begun s mb c).writeAt 1 p { isStatic := bit c.flags 0, hit := false, age := (s.table 1).passes, rem := remOf s 1 (macKey e.fid e.addr),
                                          v := .mac e.gem 0 false 0 }
    exec (.macAdd mb [e]) s = .next (t.respond mb .ok 0x1FFFF (keyWords t 1 (macKey e.fid e.addr)))) ∧
  (∀ (s : State) (mb : Fin 16) (c : Cmd) (e : MacArg) (p : Place), Starts s mb 0x0910 c → s.fwd.serial = [] → macArgOk e = true →
    findKey s 1 (macKey e.fid e.addr) = some p → bit c.flags 1 = false →
    exec (.macAdd mb [e]) s = .next ((begun s mb c).respond mb .alreadyExists 0 [])) ∧
  (∀ (s : State) (mb : Fin 16) (c : Cmd) (e : MacArg) (p : Place), Starts s mb 0x0911 c → s.fwd.serial = [] →
    findKey s 1 (macKey e.fid e.addr) = some p → exec (.macDelete mb [e]) s = .next (((begun s mb c).deleteAt 1 p).respond mb .ok 0x1FFFF [])) ∧
  (∀ (s : State) (mb : Fin 16) (c : Cmd) (l : List MacArg) (b n : Nat), Starts s mb 0x0912 c → n ≠ 0 → n ≤ 64 → b + n ≤ 65536 →
    AnswersOnly (.macRead mb l (some (b, n))) s mb c) ∧
  (∀ (s : State) (mb : Fin 16) (c : Cmd) (f : Nat), Starts s mb 0x0913 c → f < 4096 → s.fwd.serial.length < 4096 →
    Answers (.macFlush mb true f) s mb { begun s mb c with fwd.serial := s.fwd.serial ++ [flushMsg s true f] } []) ∧
  (∀ (s : State) (mb : Fin 16) (c : Cmd) (f a g n st : Nat) (p : Place) (e : Ent), Starts s mb 0x0914 c → f < 4096 → a < 2 ^ 48 →
    s.fwd.serial = [] → findKey s 1 (macKey f a) = some p → entryAt (s.table 1) p = some e → e.v = .mac g n true st →
    Answers (.macUnfreeze mb f a) s mb (((begun s mb c).writeAt 1 p { e with v := .mac g 0 false st }).raiseFreeze true g f) []) ∧
  (∀ (s : State) (mb : Fin 16) (c : Cmd) (f a : Nat), Starts s mb 0x0914 c → f < 4096 → a < 2 ^ 48 → s.fwd.serial ≠ [] →
    ∃ m : SerMsg, exec (.macUnfreeze mb f a) s = .next (({ begun s mb c with fwd.serial := s.fwd.serial ++ [m] }).await mb (.serialTurn mb) true) ∧
      m.host = some (mb.val, TableOp.unfreeze f a)) ∧
  (∀ (s : State) (mb : Fin 16) (c : Cmd) (x n : Nat), Starts s mb 0x0920 c → x < 2 → n ≠ 0 → n ≤ 64 → ∃ b, Answers (.evictLogRead mb x n) s mb
    ((begun s mb c).setTable x { s.table x with log := (s.table x).log.drop n }) b) ∧
  (∀ (s : State) (mb : Fin 16) (c : Cmd), Starts s mb 0x0921 c → AnswersOnly (.tableStatus mb) s mb c)

/-- The queues and gates: ENQUEUE places the oldest job (R276); admission, and the counts of frames admitted and of those that meet a disabled queue
(R277); SCHED_HANDOVER settles the shapers' changes, begins intervals, holds head frames that do not fit and selects (R278, R282, R284, R293);
GATE_INTERVAL_START and GATE_LIST_SWITCH (R290); the samples of queues, watched and not (R296, R297); a drained queue answers, one that is not
drained in time fails with TIMEOUT (R298); SHAPER_CONFORMS ends a debt (R283). Beyond the rules it rests on the model's choices and readings of log
entries 6, 108, 109, 111, 114, 136, 169 and 204. -/
def Obligations.QueueRows : Prop :=
  (∀ (s : State) (j : Job) (l : List Job), s.fwd.jobs = j :: l → exec .enqueue s = .next (({ s with fwd.jobs := l }).place j)) ∧
  (∀ (q : Queue) (n k : Nat), q.enable = true → n ≤ q.maxFrame → k ≠ 2 → depthOf q + n ≤ (if k = 1 then yellowLimit q else q.limit) →
    admission q n k = .accepted) ∧
  (∀ (s : State) (w : Nat) (j : Job), w < 65536 → admission (s.queueAt w) j.frame.len j.colour = .accepted → j.frame.buf = none →
    (s.queueAt w).run = [] → ((s.admitTo w j).queueAt w).frames = (s.queueAt w).frames ++ [{ frame := j.frame, at_ := s.now }] ∧
    ((s.admitTo w j).queueAt w).counts.enqueued = (s.queueAt w).counts.enqueued + 1) ∧
  (∀ (s : State) (w : Nat) (j : Job), w < 65536 → admission (s.queueAt w) j.frame.len j.colour = .disabled → j.frame.buf = none →
    ((s.admitTo w j).queueAt w).frames = (s.queueAt w).frames ∧
    ((s.admitTo w j).queueAt w).counts.disabled = (s.queueAt w).counts.disabled + 1) ∧
  (∀ (s : State) (m : Nat) (h : m < 32), exec (.schedHandover ⟨m, by omega⟩) s =
    .next ((((s.settleShapers m).openGates m).holdHeads m).scheduleMac m)) ∧
  (∀ (s : State) (c : Nat) (h : c < 64), exec (.schedHandover ⟨32 + c, by omega⟩) s =
    .next ((((s.settleShapers (32 + c)).openGates (32 + c)).holdHeads (32 + c)).scheduleTree c)) ∧
  (∀ (s : State) (g : Nat) (h : g < 8), exec (.schedHandover ⟨96 + g, by omega⟩) s = .next (s.scheduleTether g)) ∧
  (∀ (s : State) (i : Fin 96), (s.gate i).clearAt = none → exec (.gateIntervalStart i) s = .next (s.openGates i)) ∧
  (∀ (s : State) (i : Fin 96) (c : Nat), (s.gate i).clearAt = some c → c ≤ s.now → (s.gate i).pending = none →
    exec (.gateIntervalStart i) s = .next ((s.setGate i { s.gate i with oper := none, clearAt := none }).openGates i)) ∧
  (∀ (s : State) (i : Fin 96) (p : GateList), (s.gate i).pending = some p → p.start ≤ s.now → ∃ t : State,
    t = (s.setGate i { s.gate i with oper := some p, pending := none, clearAt := none }).openGates i ∧
    exec (.gateListSwitch i) s = .next (t.raise .GATE_LIST_ACTIVE (gateSrc i) (gateRegion i) (evData [(7, i.val)] p.entries.length))) ∧
  (∀ (s : State) (w : Fin 81920), watched s w = false → exec (.queueSample w) s = .next (s.sampleHist w)) ∧
  (∀ (s : State) (i : Fin 256) (w n : Nat), s.fwd.watch.get i = some (w, n) → delayOf s (s.queueAt w) ≤ n →
    exec (.watchSample i) s = .next ((s.sampleHist w).produce 1 i [w, depthOf (s.queueAt w), delayOf s (s.queueAt w)])) ∧
  (∀ (s : State) (w : Fin 81920), exec (.queueDrained w) s = .next (s.drainTest w)) ∧
  (∀ (s : State) (w : Fin 81920), exec (.queueDrainTimeout w) s =
    .next (s.respondAll (.queueDrained (decide (65536 ≤ w.val)) (w.val % 65536)) .timeout 0 [])) ∧
  (∀ (s : State) (r : ShaperRef), conforms s (s.shaperAt r).1 (s.shaperAt r).2 = false →
    exec (.shaperConforms r) s = .next (s.setShaper r { (s.shaperAt r).1 with content := 0, at_ := s.up }))

/-- The commands of queues, scheduler nodes, gates and watches (R299): QUEUE_CONFIG of a queue that is not of level 7 and passes its checks (R274),
QUEUE_READ, QUEUE_DISABLE with and without FLUSH (R298), SCHED_NODE_SET of a terminal, a tree channel and an uplink MAC in use (R275, R284),
GATE_LIST_SET and GATE_LIST_CLEAR on a tree channel (R290), GATE_STATUS, WATCH_SET (R296), and HIST_READ without CLEAR (R297). A write answers with
the object written (R449). Beyond the rules it rests on the model's choices and readings of log entries 4, 106, 108, 110, 115 and 279. -/
def Obligations.QueueCommands : Prop :=
  (∀ (s : State) (mb : Fin 16) (c : Cmd) (w : Nat) (a : QueueArg), Starts s mb 0x0A01 c → w < 65536 → queueRanges false a = true →
    let o := s.queueAt w
    let q := queueWith o a
    q.level ≠ 7 → (o.enable && !q.enable) = false →
    queueFault s w o q (o.bind != q.bind || o.level != q.level || o.bridge != q.bridge) = none →
    let t := (begun s mb c).setQueue w { q with shaper := askShaper o.shaper a.cir a.cbs }
    Answers (.queueConfig mb w a) s mb t (queueWords t w)) ∧
  (∀ (s : State) (mb : Fin 16) (c : Cmd) (w : Nat), Starts s mb 0x0A02 c → w < 81920 → Answers (.queueRead mb w) s mb (begun s mb c) (queueWords s w)) ∧
  (∀ (s : State) (mb : Fin 16) (c : Cmd) (w : Nat), Starts s mb 0x0A03 c → w < 81920 → c.flags.testBit 0 = true →
    Answers (.queueDisable mb w) s mb (((begun s mb c).disableQueue w).emptyQueue w) []) ∧
  (∀ (s : State) (mb : Fin 16) (c : Cmd) (w : Nat), Starts s mb 0x0A03 c → w < 81920 → c.flags.testBit 0 = false →
    queueEmpty (((begun s mb c).disableQueue w).queueAt w) = false → exec (.queueDisable mb w) s =
    .next (((begun s mb c).disableQueue w).await mb (.queueDrained (decide (65536 ≤ w)) (w % 65536)) true)) ∧
  (∀ (s : State) (mb : Fin 16) (c : Cmd) (n q : Nat), Starts s mb 0x0A10 c → n < 8192 → (s.term n).state ≠ .free → 64 ≤ q → q ≤ 65536 →
    let t := (begun s mb c).setTermNode n { s.fwd.termNodes.get n with quantum := q }
    Answers (.schedNodeSet mb (.term n) (some q) none none) s mb t (nodeWords t (.term n))) ∧
  (∀ (s : State) (mb : Fin 16) (c : Cmd) (k r b : Nat), Starts s mb 0x0A10 c → k < 64 → r ≤ 49766400 → 64 ≤ b → b ≤ 4194304 →
    let t := (begun s mb c).setShaper (.chan k) (askShaper (s.shaperAt (.chan k)).1 (some r) (some b))
    Answers (.schedNodeSet mb (.chan k) none (some r) (some b)) s mb t (nodeWords t (.chan k))) ∧
  (∀ (s : State) (mb : Fin 16) (c : Cmd) (m r : Nat), Starts s mb 0x0A10 c → m < 32 → macUsed s m = true → r ≤ 800000000 →
    let t := (begun s mb c).setShaper (.mac m) (askShaper (s.shaperAt (.mac m)).1 (some r) none)
    Answers (.schedNodeSet mb (.mac m) none (some r) none) s mb t (nodeWords t (.mac m))) ∧
  (∀ (s : State) (mb : Fin 16) (c : Cmd) (i y n : Nat) (l : List Nat), Starts s mb 0x0A30 c → 32 ≤ i → i < 96 → l ≠ [] → l.length ≤ 256 → 1000 ≤ y →
    y ≤ 1000000000 → (l.map gateEntry).foldl (fun n e => n + e.2) 0 = y → (∀ e ∈ l.map gateEntry, 10 ≤ e.2) → (s.gate i).pending = none →
    let t := (begun s mb c).setGate i { s.gate i with pending := some ⟨l.map gateEntry, y, boundaryAt (s.gate i) (max n s.now)⟩ }
    Answers (.gateListSet mb i y n l) s mb t (gateWords t i)) ∧
  (∀ (s : State) (mb : Fin 16) (c : Cmd) (i : Nat), Starts s mb 0x0A31 c → 32 ≤ i → i < 96 → (s.gate i).oper.isSome = true →
    let t := (begun s mb c).setGate i { s.gate i with pending := none, clearAt := some (boundaryAt (s.gate i) s.now) }
    Answers (.gateListClear mb i) s mb t (gateWords t i)) ∧
  (∀ (s : State) (mb : Fin 16) (c : Cmd) (i : Nat), Starts s mb 0x0A32 c → i < 96 → Answers (.gateStatus mb i) s mb (begun s mb c) (gateWords s i)) ∧
  (∀ (s : State) (mb : Fin 16) (c : Cmd) (i w n : Nat), Starts s mb 0x0A40 c → i < 256 → w < 81920 → (s.queueAt w).enable = true →
    (s.queueAt w).bind.isSome = true →
    Answers (.watchSet mb i (some w) n) s mb { begun s mb c with fwd.watch := s.fwd.watch.set i (some (w, n)) } []) ∧
  (∀ (s : State) (mb : Fin 16) (c : Cmd) (i n : Nat), Starts s mb 0x0A40 c → i < 256 →
    Answers (.watchSet mb i none n) s mb { begun s mb c with fwd.watch := s.fwd.watch.set i none } []) ∧
  (∀ (s : State) (mb : Fin 16) (c : Cmd) (w n : Nat), Starts s mb 0x0A41 c → n ≠ 0 → n ≤ 64 → w + n ≤ 81920 → c.flags.testBit 0 = false →
    AnswersOnly (.histRead mb w n) s mb c)

/-- The commands of the policers and markers: POLICER_SET and MARKER_SET within the ranges of R285 change their own meter alone, and a bucket whose
rate comes from 0 starts full (R288); a field out of range is refused with BAD_ARG; METER_READ reads either kind (R299). Beyond the rules it rests
on the model's choices and readings of log entry 279. -/
def Obligations.MeterCommands : Prop :=
  (∀ (s : State) (mb : Fin 16) (c : Cmd) (n r b : Nat), Starts s mb 0x0A20 c → n < 65536 → meterOk r b = true → ∃ t : State,
    Answers (.policerSet mb n r b) s mb t (meterWords t false n) ∧ (t.fwd.policers.get n).cir = r ∧ (t.fwd.policers.get n).cbs = b ∧
    ((s.fwd.policers.get n).cir = 0 → r ≠ 0 → (t.fwd.policers.get n).content = b * bucketUnits) ∧
    ∀ k, k ≠ n → t.fwd.policers.get k = s.fwd.policers.get k) ∧
  (∀ (s : State) (mb : Fin 16) (c : Cmd) (n r b : Nat), Starts s mb 0x0A20 c → n < 65536 → meterOk r b = false →
    exec (.policerSet mb n r b) s = .next ((begun s mb c).respond mb .badArg 0 [])) ∧
  (∀ (s : State) (mb : Fin 16) (c : Cmd) (n m a r b p q : Nat) (x y : Bool), Starts s mb 0x0A21 c → n < 4096 → m < 2 → a < 2 →
    meterOk r b = true → meterOk p q = true → ∃ t : State, Answers (.markerSet mb n m x a y r b p q) s mb t (meterWords t true n) ∧
    (t.fwd.markers.get n).mode = m ∧ (t.fwd.markers.get n).aware = x ∧ (t.fwd.markers.get n).cir = r ∧ (t.fwd.markers.get n).pir = p ∧
    (∀ k, k ≠ n → t.fwd.markers.get k = s.fwd.markers.get k) ∧ t.fwd.policers = s.fwd.policers) ∧
  (∀ (s : State) (mb : Fin 16) (c : Cmd) (n : Nat), Starts s mb 0x0A22 c → n < 4096 → Answers (.meterRead mb true n) s mb (begun s mb c) (meterWords s true n)) ∧
  (∀ (s : State) (mb : Fin 16) (c : Cmd) (n : Nat), Starts s mb 0x0A22 c → n < 65536 → Answers (.meterRead mb false n) s mb (begun s mb c) (meterWords s false n))

/-- The buffer pools: BUFFER_ALLOC of an ingress class serves its oldest request, of class 13 the next message for the host, of class 15 a mailbox's
command (R303, R309); the next buffer of a pool's free list is granted, a length beyond every pool is oversize (R303), a pool that is critical
answers empty (R312); BUFFER_TAKE, BUFFER_HANDOVER and BUFFER_FREE that meet their checks change the buffer's word alone, and at zero references the
buffer joins its pool's free list (R306); an operation that fails them is rejected (R307, R308). Beyond the rules it rests on the model's choices
and readings of log entries 4, 116, 117, 118, 119, 120 and 166. -/
def Obligations.BufferRows : Prop :=
  (∀ (s : State) (n i f : Nat) (m : DmaMsg) (r : BufRef) (z : Nat) (t : State), bufferTurn s = some i → s.host.staged[i]? = some (f, m) →
    s.allocBuf 13 m.len (isOmci m) false = (.granted r z, t) →
    exec (.bufferAlloc 13 n none) s = .next { t with host.staged := t.host.staged.set i (f, { m with buf := some r }) }) ∧
  (∀ (s : State) (n : Nat) (r : BufRef) (z : Nat) (t : State) (mb : Option (Fin 16)), s.allocBuf 15 n true false = (.granted r z, t) →
    exec (.bufferAlloc 15 n mb) s = .next t) ∧
  (∀ (s : State) (n : Nat) (mb : Fin 16) (c : Cmd), poolFor s n = none → (s.mbox mb).cmd = some c → c.started = true → c.reply = none →
    exec (.bufferAlloc 15 n (some mb)) s = .next ((s.bump .POOL_OVERSIZE 0).respond mb .noSpace 0 [])) ∧
  (∀ (s : State) (k : Fin 16) (n : Nat) (x : Want) (r : BufRef) (z : Nat) (t : State), k.val < 13 →
    s.fwd.wants.find? (fun x => x.cls == k.val) = some x →
    ({ s with fwd.wants := s.fwd.wants.erase x }).allocBuf k x.len x.exempt x.ct = (.granted r z, t) →
    exec (.bufferAlloc k n none) s = .next (t.grantWant x r z)) ∧
  (∀ (s : State) (k p n : Nat) (ct : Bool), poolFor s n = some p → (s.pool p).critical = false → s.fwd.bufs = [] →
    skipLost s p (s.pool p).fresh = (s.pool p).fresh → (s.pool p).fresh < poolCount s p → ∃ t : State,
    s.allocBuf k n false ct = (.granted ⟨poolBase s p + (s.pool p).fresh * (bufSize s p / 256), 1, false⟩ (bufSize s p), t) ∧
    (t.pool p).inUse = (s.pool p).inUse + 1) ∧
  (∀ (s : State) (k n : Nat) (ct : Bool), poolFor s n = none → s.allocBuf k n false ct = (.oversize, s.bump .POOL_OVERSIZE 0)) ∧
  (∀ (s : State) (k p n : Nat) (ct : Bool), poolFor s n = some p → (s.pool p).critical = true →
    s.allocBuf k n false ct = (.empty, s.bumpF .POOL_EMPTY_DROPS p 15 0)) ∧
  (∀ (s : State) (k : Fin 16) (i : Fin 262144) (g : Fin 64), opFault (s.buf i) true k g = none → ∃ t,
    exec (.bufferTake k i g) s = .next t ∧ t.buf i = { s.buf i with refcnt := (s.buf i).refcnt + 1, holders := withHolder (s.buf i).holders k } ∧
    ∀ j, j ≠ i.val → t.buf j = s.buf j) ∧
  (∀ (s : State) (a b : Fin 16) (i : Fin 262144) (g : Fin 64), opFault (s.buf i) false a g = none → ∃ t,
    exec (.bufferHandover a b true i g) s = .next t ∧ (t.buf i).refcnt = (s.buf i).refcnt ∧
    (t.buf i).holders = withHolder (withoutHolder (s.buf i).holders a) b ∧ ∀ j, j ≠ i.val → t.buf j = s.buf j) ∧
  (∀ (s : State) (k : Fin 16) (i : Fin 262144) (g : Fin 64) (l : Bool), opFault (s.buf i) false k g = none → 1 < (s.buf i).refcnt → ∃ t,
    exec (.bufferFree k l i g) s = .next t ∧ (t.buf i).refcnt = (s.buf i).refcnt - 1 ∧ (t.buf i).alloc = (s.buf i).alloc ∧
    t.fwd.pools = s.fwd.pools) ∧
  (∀ (s : State) (k : Fin 16) (i : Fin 262144) (g : Fin 64) (l : Bool), opFault (s.buf i) false k g = none → (s.buf i).refcnt ≤ 1 → ∃ t,
    exec (.bufferFree k l i g) s = .next t ∧ (t.buf i).alloc = false ∧ (t.buf i).gen = (s.buf i).gen ∧
    (t.pool (s.buf i).pool).freed = (s.pool (s.buf i).pool).freed ++ [i.val] ∧
    (t.pool (s.buf i).pool).inUse = (s.pool (s.buf i).pool).inUse - 1) ∧
  (∀ (s : State) (k : Fin 16) (i : Fin 262144) (g : Fin 64) (l : Bool) (n : Nat), opFault (s.buf i) false k g = some n →
    exec (.bufferFree k l i g) s = .next ((s.opArrived (.free k.val l i.val g.val)).rejectOp i k g n)) ∧
  (∀ (v : BufWord) (take : Bool) (k g : Nat), v.alloc = false → opFault v take k g = some (if take then 3 else 1)) ∧
  (∀ (v : BufWord) (take : Bool) (k g : Nat), v.alloc = true → v.gen ≠ g → opFault v take k g = some 3)

/-- The messages of the pools: FREEZE_MESSAGE to the DBA, the Glacier mover and the uplink MACs, THAW_MESSAGE to the DBA, and both kinds of
CRITICAL_MESSAGE (R312, R313); POOL_STATUS, and BUF_FAULT_LOG_READ, which releases what it returns (R326). -/
def Obligations.PoolRows : Prop :=
  (∀ (s : State) (p : Fin 4) (m : Nat × Nat × Nat), nextMsg s p 0 [0] = some m → ∃ t, exec (.freezeMessage p .dba) s = .next t ∧
    t.dba.frozen = s.dba.frozen ||| 2 ^ p.val ∧ t.fwd.poolMsgs = s.fwd.poolMsgs.erase m) ∧
  (∀ (s : State) (p : Fin 4) (m : Nat × Nat × Nat), nextMsg s p 2 [0] = some m → ∃ t, exec (.freezeMessage p .glacier) s = .next t ∧
    p.val ∈ t.fwd.moverFrozen) ∧
  (∀ (s : State) (p : Fin 4) (m : Nat × Nat × Nat), nextMsg s p 0 [1] = some m → ∃ t, exec (.thawMessage p .dba) s = .next t ∧
    t.dba.frozen = s.dba.frozen &&& (15 - 2 ^ p.val) ∧ t.fwd.poolMsgs = s.fwd.poolMsgs.erase m) ∧
  (∀ (s : State) (p : Fin 4) (m : Nat × Nat × Nat), nextMsg s p 2 [2, 3] = some m → m.2.1 = 2 → ∃ t, exec (.criticalMessage p) s = .next t ∧
    p.val ∈ t.fwd.moverCritical) ∧
  (∀ (s : State) (p : Fin 4) (m : Nat × Nat × Nat), nextMsg s p 2 [2, 3] = some m → m.2.1 = 3 → ∃ t, exec (.criticalMessage p) s = .next t ∧
    t.fwd.moverCritical = s.fwd.moverCritical.erase p.val) ∧
  (∀ (s : State) (mb : Fin 16) (c : Cmd), Starts s mb 0x0B01 c → AnswersOnly (.poolStatus mb) s mb c) ∧
  (∀ (s : State) (mb : Fin 16) (c : Cmd) (n : Nat), Starts s mb 0x0B02 c → n ≠ 0 → n ≤ 64 → Answers (.bufFaultLogRead mb n) s mb
    { begun s mb c with fwd.faultLog := s.fwd.faultLog.drop n }
    ((s.fwd.faultOverrun :: ((s.fwd.faultLog.take n).map bufFaultWords).flatten).map Int.ofNat))

/-- The Glacier mover and the DRAM channels: GLACIER_SPILL moves the first frame behind GLACIER_HEAD, or the next one behind a run (R316), in
Standby nothing, and with no page free drops the first arrival behind the run (R319); GLACIER_SPILL_ACK releases the buffer (R318); GLACIER_RETURN
asks for a buffer of class 12 (R317); DRAM_REQUEST serves a request on an idle channel (R320, R321); DRAM_REFRESH is postponed at most eight times
(R322); retraining runs in a window or is forced (R323); GLACIER_STATUS and DRAM_STATUS (R326). Beyond the rules it rests on the model's choices and
readings of log entries 3, 7, 122, 123, 124, 136, 281 and 282. -/
def Obligations.GlacierRows : Prop :=
  (∀ (s : State) (w : Fin 81920) (k l : List QFrame) (x : QFrame), spillNext s w = .start k x l → pageFree s (s.queueAt w) x = true →
    exec (.glacierSpill w) s = .next ((s.spillTo w { s.queueAt w with frames := k, tail := l } x).glacierTest w)) ∧
  (∀ (s : State) (w : Fin 81920) (l : List QFrame) (x : QFrame), spillNext s w = .append x l → pageFree s (s.queueAt w) x = true →
    exec (.glacierSpill w) s = .next (s.spillTo w { s.queueAt w with tail := l } x)) ∧
  (∀ (s : State) (w : Fin 81920) (l : List QFrame) (x y : QFrame), spillNext s w = .append x l → pageFree s (s.queueAt w) x = false →
    (s.queueAt w).tail.find? (·.arrival) = some y → ∃ t, exec (.glacierSpill w) s = .next t ∧
    (t.queueAt w).tail = (s.queueAt w).tail.eraseP (·.arrival) ∧ (t.queueAt w).run = (s.queueAt w).run ∧
    (t.queueAt w).counts.glacier = (s.queueAt w).counts.glacier + 1) ∧
  (∀ (s : State) (w : Fin 81920), s.power.dev = .standby → exec (.glacierSpill w) s = .next s) ∧
  (∀ (s : State) (w : Fin 81920) (f : Frame), (ackFirst (s.queueAt w).run).2 = some f → exec (.glacierSpillAck w) s =
    .next ((s.setQueue w { s.queueAt w with run := (ackFirst (s.queueAt w).run).1 }).freeFrame 12 f)) ∧
  (∀ (s : State) (w : Fin 81920) (x : QFrame) (l : List QFrame), let t := s.glacierTest w
    (t.queueAt w).run = x :: l → (t.queueAt w).returning = true → (t.queueAt w).asked = false → x.acked = true → criticalSpill t = false →
    ∃ u, exec (.glacierReturn w false) s = .next u ∧ u.fwd.wants = t.fwd.wants ++ [⟨12, x.frame.len, false, false, .glacier w⟩] ∧
      (u.queueAt w).asked = true) ∧
  (∀ (s : State) (d : Fin 8) (a : DramArg), s.dramCh d = {} → s.getN .DRAM_TARGET a.port ≠ 0 → a.age = 0 → ∃ t,
    exec (.dramRequest d [a] 0) s = .next t ∧ (t.dramCh d).ports.get a.port = [] ∧ (t.dramCh d).lastPort = a.port ∧
    (t.dramCh d).rows.get a.bank = (if keepsOpen a.port then some a.row else none) ∧ t.power.selfRefresh.get d = false) ∧
  (∀ (s : State) (d : Fin 8), (chanLevel s (s.dramCh d)).any (2 ≤ ·) = true → (s.dramCh d).postponed < 8 → exec (.dramRefresh d) s =
    .next (s.setDramCh d { s.dramCh d with postponed := (s.dramCh d).postponed + 1, postponements := (s.dramCh d).postponements + 1 })) ∧
  (∀ (s : State) (d : Fin 8), (chanLevel s (s.dramCh d)).any (2 ≤ ·) = false ∨ 8 ≤ (s.dramCh d).postponed → exec (.dramRefresh d) s =
    .next (s.setDramCh d { s.dramCh d with postponed := 0 })) ∧
  (∀ (s : State) (d : Fin 8), (chanLevel s (s.dramCh d)).any (1 ≤ ·) = true → exec (.dramRetrainCheck d) s =
    .next (s.setDramCh d { s.dramCh d with retrainDue := true })) ∧
  (∀ (s : State) (d : Fin 8), (chanLevel s (s.dramCh d)).any (1 ≤ ·) = false → exec (.dramRetrainCheck d) s =
    .next (s.setDramCh d { s.dramCh d with retrainDue := false, trained := true })) ∧
  (∀ (s : State) (d : Fin 8), (s.dramCh d).retrainDue = true → exec (.dramRetrainForced d) s =
    .next ((s.setDramCh d { s.dramCh d with retrainDue := false, trained := true }).raise .DRAM_RETRAIN_FORCED (srcDram d 0) regM (evData [] d))) ∧
  (∀ (s : State) (mb : Fin 16) (c : Cmd) (i o : Nat), Starts s mb 0x0B03 c → AnswersOnly (.glacierStatus mb i o) s mb c) ∧
  (∀ (s : State) (mb : Fin 16) (c : Cmd), Starts s mb 0x0C01 c → AnswersOnly (.dramStatus mb) s mb c)

/-- The cipher field and the key store: a pair's equal outputs release its block, and odd cells of earlier attempts are found (R331); different ones
are counted and tried again on a fresh pair, twice at most (R331); a generator reseeded starts with a fresh seed, one reseeded late goes on with
RNG_RESEED_LATE (R333); ENTROPY_FAIL and its end (R333); in mode 1 a generator stops while the health tests fail, and its region sends a report
(R333, R26); a drained generation is overwritten (R346), an erased slot zeroised with its mirror record (R348); a key exchange starts, repeats its
request, and fails after the third (R349). Beyond the rules it rests on the model's choices and readings of log entries 4, 6, 39, 95, 132, 147, 148,
207, 257 and 279. -/
def Obligations.CipherRows : Prop :=
  (∀ (s : State) (r : Fin 13) (n x : Nat) (j : Option (Fin 16)) (w : PairWork), (s.cipherRegion r).flight.find? (fun w => w.op == n) = some w →
    exec (.cipherPairResult r n x x j) s = .next ((((oddOnes w x).foldl (fun s c => s.oddCell r (roleCell s r c.block c.cell)) s).deliverBlock r w).dispatchAll r)) ∧
  (∀ (s : State) (r : Fin 13) (n x y : Nat) (j : Option (Fin 16)) (w : PairWork), (s.cipherRegion r).flight.find? (fun w => w.op == n) = some w →
    x ≠ y → w.attempts.length < 2 → ∃ t : State, exec (.cipherPairResult r n x y j) s = .next (t.dispatchAll r) ∧
    (t.cipherRegion r).retries = (s.cipherRegion r).retries ++ [{ w with attempts := w.attempts ++ [((w.a, x), (w.b, y))] }] ∧
    (t.cipherRegion r).flight = (s.cipherRegion r).flight.filter (fun z => z.op != n) ∧
    t.ro .CIPHER_MISMATCH r = (addField (s.ro .CIPHER_MISMATCH r).toNat 31 0 1 : Nat)) ∧
  (∀ (s : State) (r : Fin 13) (n x y : Nat), (s.cipherRegion r).flight.find? (fun w => w.op == n) = none →
    exec (.cipherPairResult r n x y none) s = .next s) ∧
  (∀ (s : State) (b : Fin 3328), exec (.rngReseed b false) s =
    .next (({ s with free := s.free + 1 }).setGen b { seed := Config.freeNat s.free })) ∧
  (∀ (s : State) (b : Fin 3328), ∃ t, exec (.rngReseed b true) s = .next t ∧ (t.cipher.generators.get b).late = true ∧
    (t.cipher.generators.get b).seed = (s.gen b).seed ∧ ∃ e, t.ev.transit = s.ev.transit ++ [e] ∧ e.kind = .RNG_RESEED_LATE) ∧
  (∀ (s : State) (x : BitVec 8), ∃ t, exec (.entropyFail x) s = .next t ∧ t.cipher.entropyBad = true ∧
    ∃ e, t.ev.transit = s.ev.transit ++ [e] ∧ e.kind = .ENTROPY_FAIL ∧ e.severity = 3) ∧
  (∀ s : State, exec .entropyRecovered s = .next { s with cipher.entropyBad := false }) ∧
  (∀ (s : State) (b : Fin 3328), s.getN .ENTROPY_MODE = 1 → s.cipher.entropyBad = true → ∃ t, exec (.generatorStop b) s = .next t ∧
    (t.cipher.generators.get b).stopped = true ∧
    t.pace.capSeq.get (b.val / 256) = (s.pace.capSeq.get (b.val / 256) + 1) % 65536) ∧
  (∀ (s : State) (k : Fin 18640), (s.slot k).erasing = false → (s.slot k).draining = true →
    exec (.keyGenerationDrained k) s = .next (s.setSlot k { s.slot k with draining := false, old := none })) ∧
  (∀ (s : State) (k : Fin 18640), (s.slot k).erasing = true → let t := (s.zeroSlot k).mirror (slotStream (s.zeroSlot k) k) k .keyErase
    exec (.keyGenerationDrained k) s = .next (t.respondAll (.keyDrained k) .ok 0 (slotRead t k 0))) ∧
  (∀ (s : State) (n : Fin 8192), mayRekey s n = true → exec (.keyExchangeStart n) s = .next (s.startExchange n)) ∧
  (∀ (s : State) (n : Fin 8192) (x : KeyExchange), (s.term n).exchange = some x → x.tries < 3 → exec (.keyExchTimeout n) s =
    .next ((s.setTerm n { s.term n with exchange := some { x with tries := x.tries + 1 } }).queuePloam (s.term n).chan false
      { kind := .keyRequest x.index, term := some n.val })) ∧
  (∀ (s : State) (n : Fin 8192) (x : KeyExchange), (s.term n).exchange = some x → 3 ≤ x.tries → ∃ t, exec (.keyExchTimeout n) s = .next t ∧
    (t.term n).exchange = none ∧ t.cipher = s.cipher ∧ ∃ e, t.ev.transit = s.ev.transit ++ [e] ∧ e.kind = .TERM_REKEY_FAIL)

/-- The commands of the key store and of the cipher field: KEY_WRITE of a broadcast key of 16 bytes under the session key, unwrapped and committed,
or refused with AUTH_FAIL and KEY_UNWRAP_FAIL (R345, R346); a slot of C.3 is refused with NO_RIGHT (R345); KEY_ERASE waits for the slot to drain
(R348); KEY_STATUS (R344); KEY_GENERATE of a session/CMAC slot returns the key wrapped, and fails with FAULTED while the health tests fail (R345);
TERM_REKEY (R349); BCAST_KEY_EXPORT (R351); CMAC_JOB gives a tag, or with VERIFY refuses one that differs (R351); CIPHER_STATUS. The key that
KEY_GENERATE makes is the free value of its draw. Beyond the rules it rests on the model's choices and readings of log entries 4, 126, 129, 130,
131, 133, 267 and 279. -/
def Obligations.KeyCommands : Prop :=
  (∀ (s : State) (mb : Fin 16) (c : Cmd) (key : Nat), let w := bodyWord c 0
    let k := bits w 14 0
    Starts s mb 0x0D01 c → c.role = 0 → c.body.length = 44 → (∀ x ∈ c.body.drop 28, x = 0) → 16384 ≤ k → k < 16512 →
    bits w 21 15 = 0 → bit w 28 = false → bits w 27 22 = 0 → c.key = some key →
    (s.slot k).draining = false → (s.slot k).erasing = false → (s.pair (slotPair k)).pending = none →
    (s.pair (slotPair k)).inForce ≠ slotIndex k → bit w 31 = false →
    (match Config.keyUnwrap key (beNat ((c.body.drop 4).take 24)) with
    | some m => let t := (begun s mb c).commitKey k ⟨m, false⟩
      Answers (.keyWrite mb) s mb t (slotRead t k 0)
    | none => exec (.keyWrite mb) s = .next (((begun s mb c).raiseKey .KEY_UNWRAP_FAIL k).respond mb .authFail 0 []))) ∧
  (∀ (s : State) (mb : Fin 16) (c : Cmd), Starts s mb 0x0D01 c → 18576 ≤ bits (bodyWord c 0) 14 0 → bits (bodyWord c 0) 14 0 ≤ 18583 →
    exec (.keyWrite mb) s = .next ((begun s mb c).respond mb .noRight 0 [])) ∧
  (∀ (s : State) (mb : Fin 16) (c : Cmd) (k : Nat), Starts s mb 0x0D02 c → c.role = 0 → 18584 ≤ k → k < 18640 → (s.slot k).erasing = false →
    exec (.keyErase mb k) s = .next (((begun s mb c).setSlot k { s.slot k with erasing := true }).await mb (.keyDrained k) true)) ∧
  (∀ (s : State) (mb : Fin 16) (c : Cmd) (l : List (Nat × Nat)), Starts s mb 0x0D03 c → l ≠ [] → l.length ≤ 64 → (∀ p ∈ l, p.1 < 18640) →
    Answers (.keyStatus mb l) s mb (begun s mb c) (l.map (fun p => slotRead s p.1 p.2)).flatten) ∧
  (∀ (s : State) (mb : Fin 16) (c : Cmd) (key : Nat), let w := bodyWord c 0
    let k := bits w 14 0
    Starts s mb 0x0D04 c → c.role = 0 → 18584 ≤ k → k < 18640 → bits w 21 15 = 0 → bit w 28 = false → bits w 27 22 = 0 →
    s.cipher.entropyBad = false → c.key = some key → (s.slot k).draining = false → (s.slot k).erasing = false →
    let m := Config.freeNat s.free % 2 ^ 128
    let t := ({ begun s mb c with free := s.free + 1 }).commitKey k ⟨m, false⟩
    Answers (.keyGenerate mb) s mb t (slotRead t k 0 ++ [(Config.keyWrap key m : Int)])) ∧
  (∀ (s : State) (mb : Fin 16) (c : Cmd), let w := bodyWord c 0
    Starts s mb 0x0D04 c → c.role = 0 → 18584 ≤ bits w 14 0 → bits w 14 0 < 18640 → bits w 21 15 = 0 → bit w 28 = false → bits w 27 22 = 0 →
    s.cipher.entropyBad = true → exec (.keyGenerate mb) s = .next ((begun s mb c).respond mb .faulted 0 [])) ∧
  (∀ (s : State) (mb : Fin 16) (c : Cmd) (n : Nat), Starts s mb 0x0D05 c → n < 8192 → stepping s n = false → mayRekey s n = true →
    Answers (.termRekey mb n) s mb ((begun s mb c).startExchange n) []) ∧
  (∀ (s : State) (mb : Fin 16) (c : Cmd) (k n key : Nat), Starts s mb 0x0D06 c → 16384 ≤ k → k < 16512 → n < 8192 → (s.term n).state ≠ .free →
    slotKey s k = some key → Answers (.bcastKeyExport mb k n) s mb (begun s mb c) [Config.keyWrap (Config.termKek (slotMsk s n)) key]) ∧
  (∀ (s : State) (mb : Fin 16) (c : Cmd) (k n key x : Nat) (d : List Byte), Starts s mb 0x0D10 c → 18584 ≤ k → k < 18640 → d.length ≤ 3968 →
    4 ≤ n → n ≤ 16 → slotKey s k = some key → c.flags.testBit 0 = false →
    Answers (.cmacJob mb k n d x) s mb (begun s mb c) [beNat ((Config.cmac key d).take n)]) ∧
  (∀ (s : State) (mb : Fin 16) (c : Cmd) (k n key x : Nat) (d : List Byte), Starts s mb 0x0D10 c → 18584 ≤ k → k < 18640 → d.length ≤ 3968 →
    4 ≤ n → n ≤ 16 → slotKey s k = some key → c.flags.testBit 0 = true → beNat ((Config.cmac key d).take n) ≠ x →
    exec (.cmacJob mb k n d x) s =
      .next (({ begun s mb c with cipher.authFails := s.cipher.authFails + 1 }).respond mb .authFail 0 [])) ∧
  (∀ (s : State) (mb : Fin 16) (c : Cmd), Starts s mb 0x0D20 c → AnswersOnly (.cipherStatus mb) s mb c)

/-- The uplinks: a link comes up once no fault has been seen for UPLINK_UP_HOLD (R360); it goes down on an alignment loss, on the fourth fault
sequence in a row and on a failed training (R360), which without a common ability is counted (R359); PFC and PAUSE frames pause classes in their
mode, and are discarded with flow control off (R362); a class resumes when its quanta expire (R362); PFC_REFRESH repeats the pause frame while a
pause stands (R363); a good verdict of a frame on the cut-through path moves its SA's packet number (R352, R366). Beyond the rules it rests on the
model's choices and readings of log entries 136, 138 and 139. -/
def Obligations.UplinkRows : Prop :=
  (∀ (s : State) (m : Fin 32), (s.mac m).up = false → macOn s m = true → (s.mac m).faultAt = none → pausing (s.mac m) = 0 → ∃ t, exec (.uplinkLinkUp m) s = .next t ∧
    (t.mac m).up = true ∧ (t.mac m).faults = 0 ∧ ∃ e, t.ev.transit = s.ev.transit ++ [e] ∧ e.kind = .UPLINK_LINK_DOWN ∧ e.clear = true) ∧
  (∀ (s : State) (m : Fin 32), (s.mac m).up = true → ∃ t, exec (.uplinkAlignmentLoss m) s = .next t ∧ (t.mac m).up = false ∧
    (t.mac m).aligned = false ∧ ∃ e, t.ev.transit = s.ev.transit ++ [e] ∧ e.kind = .UPLINK_LINK_DOWN ∧ e.clear = false) ∧
  (∀ (s : State) (m : Fin 32) (n : Nat), (s.mac m).up = false → (s.mac m).faultAt = some n → s.up < n + s.getN .UPLINK_UP_HOLD m * 1000000 →
    exec (.uplinkLinkUp m) s = .next s) ∧
  (∀ (s : State) (m : Fin 32), (s.mac m).up = true → (s.mac m).faults < 3 → exec (.uplinkFaultSequence m) s =
    .next (s.setMac m { s.mac m with faults := (s.mac m).faults + 1, faultAt := some s.up })) ∧
  (∀ (s : State) (m : Fin 32), (s.mac m).up = true → (s.mac m).faults = 3 → ∃ t, exec (.uplinkFaultSequence m) s = .next t ∧
    (t.mac m).up = false ∧ (t.mac m).faultAt = some s.up ∧ ∃ e, t.ev.transit = s.ev.transit ++ [e] ∧ e.kind = .UPLINK_LINK_DOWN) ∧
  (∀ (s : State) (m : Fin 32), (s.mac m).up = true → ∃ t, exec (.uplinkTrainingFail m false) s = .next t ∧ (t.mac m).up = false ∧
    (t.mac m).trained = false) ∧
  (∀ (s : State) (m : Fin 32), (s.mac m).up = false → ∃ t, exec (.uplinkTrainingFail m true) s = .next t ∧
    (t.mac m).stats.get stNoAbility = satTo 64 ((s.mac m).stats.get stNoAbility + 1)) ∧
  (∀ (s : State) (m : Fin 32) (q : Nat) (k : Fin 8), (s.mac m).up = true → s.getN .UPLINK_FC_MODE m = 2 →
    exec (.pauseFrameRx m true 0 [(k, q)]) s = .next (s.pauseClass m k q)) ∧
  (∀ (s : State) (m : Fin 32) (q : Nat), (s.mac m).up = true → s.getN .UPLINK_FC_MODE m = 1 →
    exec (.pauseFrameRx m false q []) s = .next ((classesIn 255).foldl (fun (s : State) c => s.pauseClass m c q) s)) ∧
  (∀ (s : State) (m : Fin 32) (q : Nat) (l : List (Fin 8 × Nat)) (b : Bool), (s.mac m).up = true → s.getN .UPLINK_FC_MODE m = 0 →
    exec (.pauseFrameRx m b q l) s = .next (s.stat m stDiscarded)) ∧
  (∀ (s : State) (m : Fin 32) (k : Fin 8), ∃ t, exec (.pauseQuantaExpiry m k) s = .next t ∧ (t.mac m).paused.get k = none) ∧
  (∀ (s : State) (m : Fin 32), pausing (s.mac m) ≠ 0 → exec (.pfcRefresh m) s = .next (s.pauseWork m true)) ∧
  (∀ (s : State) (m : Fin 32), pausing (s.mac m) = 0 → exec (.pfcRefresh m) s = .next s) ∧
  (∀ (s : State) (m n i p : Nat) (l : List (Nat × Nat × Nat × Nat)), s.cipher.cutThrough = (m, n, i, p) :: l →
    exec (.macsecVerdict i true) s = .next (({ s with cipher.cutThrough := l }).acceptPn n p)) ∧
  (∀ (s : State) (n p : Nat) (a : Sa), s.sa n = some a → ∃ b, (s.acceptPn n p).sa n = some b ∧ b.pn = max a.pn (p + 1) ∧
    b.counts.get 0 = satTo 64 (a.counts.get 0 + 1))

/-- The commands of the uplinks and of MACsec (R370): UPLINK_STATUS; UPLINK_STATS clears what it returns; UPLINK_RESTART takes the port's links down
(R360); MACSEC_SC_SET creates a receive SC, and refuses to delete one that does not exist; MACSEC_SA_SET binds a transmit SA whose key slot is
loaded (R367) and refuses one whose slot is empty; MACSEC_SA_READ clears the counters it returns. Beyond the rules it rests on the model's choices
and readings of log entries 136, 140, 142 and 279. -/
def Obligations.UplinkCommands : Prop :=
  (∀ (s : State) (mb : Fin 16) (c : Cmd) (b n : Nat), Starts s mb 0x0E01 c → n ≠ 0 → b + n ≤ 32 → Answers (.uplinkStatus mb b n) s mb (begun s mb c)
    (((List.range n).map (fun i => [linkState s (b + i), pauseState s (b + i)])).flatten.map Int.ofNat)) ∧
  (∀ (s : State) (mb : Fin 16) (c : Cmd) (m : Nat) (l : List Nat), Starts s mb 0x0E02 c → m < 32 → Answers (.uplinkStats mb m l) s mb
    ((begun s mb c).setMac m { s.mac m with stats := [] }) (((s.mac m).stats.getRange 0 26 ++ l).map Int.ofNat)) ∧
  (∀ (s : State) (mb : Fin 16) (c : Cmd) (p : Nat), Starts s mb 0x0E03 c → p < 4 → ∃ t : State,
    Answers (.uplinkRestart mb p) s mb t [] ∧ ∀ i, i < 8 → (t.mac (p * 8 + i)).up = false) ∧
  (∀ (s : State) (mb : Fin 16) (c : Cmd) (m x : Nat), Starts s mb 0x0E10 c → m < 32 → macUsed s m = true → (s.mac m).scs.contains x = false →
    (s.mac m).scs.length < 15 → let t := (begun s mb c).setMac m { s.mac m with scs := (s.mac m).scs ++ [x] }
    Answers (.macsecScSet mb m x false) s mb t (scWords t m)) ∧
  (∀ (s : State) (mb : Fin 16) (c : Cmd) (m x : Nat), Starts s mb 0x0E10 c → m < 32 → macUsed s m = true → (s.mac m).scs.contains x = false →
    exec (.macsecScSet mb m x true) s = .next ((begun s mb c).respond mb .noObject 0 [])) ∧
  (∀ (s : State) (mb : Fin 16) (c : Cmd) (n m a p : Nat), Starts s mb 0x0E11 c → n < 2048 → m < 32 → a < 4 → p < 2 ^ 32 → macUsed s m = true →
    (s.slot (16512 + n)).cur.isSome = true → s.fwd.sas = [] →
    let v : Sa := { mac := m, sci := none, an := a, enabled := true, xpn := false, pn := p }
    Answers (.macsecSaSet mb n m none a false p true) s mb
      (((begun s mb c).setSa n (some v)).setMac m { s.mac m with encoding := some n }) (saWords (some v))) ∧
  (∀ (s : State) (mb : Fin 16) (c : Cmd) (n m a p : Nat) (x : Option Nat), Starts s mb 0x0E11 c → n < 2048 → m < 32 → a < 4 → p < 2 ^ 32 →
    macUsed s m = true → (∀ k, x = some k → (s.mac m).scs.contains k = true) → (s.slot (16512 + n)).cur = none →
    exec (.macsecSaSet mb n m x a false p true) s = .next ((begun s mb c).respond mb .badArg 0 [])) ∧
  (∀ (s : State) (mb : Fin 16) (c : Cmd) (n : Nat) (a : Sa), Starts s mb 0x0E12 c → n < 2048 → s.sa n = some a →
    Answers (.macsecSaRead mb n) s mb ((begun s mb c).setSa n (some { a with counts := [] })) (saWords (some a)))

/-- The tether: a data lane in frame with at most 3 bit errors in its pattern stays in frame, its payload descrambled (R375, R376); a miss counts,
and the fourth in a row loses the frame (R376); a candidate confirmed a third time takes the lane in frame (R376); the loss of a port's clock takes
its lanes out of frame (R373); a port's direction sleeps only with TETHER_SLEEP_EN and the other port up, and wakes (R386); a management byte waits
for its overhead slot, and beyond 64 is dropped (R385); a frame of the mirror tributary whose tag checks brings its records, one whose tag fails is
counted (R380, R381); a group that is down receives nothing (R378). Beyond the rules it rests on the model's choices and readings of log entries
144, 145, 147, 148, 160, 161, 262, 263 and 283. -/
def Obligations.TetherRows : Prop :=
  (∀ (s : State) (i : Fin 34) (b : BitVec 2048) (k : Nat), i.val % 17 < 15 → tetherAsleep s (i / 17) 1 = false → underTest 2 (s.lane 2 i) = false →
    (s.tlane i).inFrame = true → (s.tlane i).skew = k →
    let w := (s.tlane i).past * 2 ^ 2048 + b.toNat
    bitErrors (patternAt w (s.tlane i).pos) (lanePattern i) ≤ 3 → ∃ t, exec (.tetherLaneFrame i b k) s = .next t ∧
    t.tlane i = { s.tlane i with misses := 0, payload := some (lanePayload i (s.tlane i).pos w), past := w % 2 ^ 2111 }) ∧
  (∀ (s : State) (i : Fin 34) (b : BitVec 2048) (k : Nat), i.val % 17 < 15 → tetherAsleep s (i / 17) 1 = false → underTest 2 (s.lane 2 i) = false →
    (s.tlane i).inFrame = true → (s.tlane i).skew = k →
    let w := (s.tlane i).past * 2 ^ 2048 + b.toNat
    3 < bitErrors (patternAt w (s.tlane i).pos) (lanePattern i) → ∃ t, exec (.tetherLaneFrame i b k) s = .next t ∧
    ((s.tlane i).misses < 3 → (t.tlane i).inFrame = true ∧ (t.tlane i).misses = (s.tlane i).misses + 1) ∧
    ((s.tlane i).misses = 3 → (t.tlane i).inFrame = false)) ∧
  (∀ (s : State) (i : Fin 34) (b : BitVec 2048) (k : Nat), i.val % 17 = 16 → exec (.tetherLaneFrame i b k) s = .next s) ∧
  (∀ (v : TetherLane) (p : Nat), v.cands = [(p, 2)] → (huntLane v [(p, 0)]).inFrame = true ∧ (huntLane v [(p, 0)]).pos = p) ∧
  (∀ (s : State) (p : Fin 2), exec (.tetherClockLoss p) s = .next ((((((List.range 16).map (· + 17 * p.val)).filter
    (fun i => (s.tlane i).inFrame && !tetherAsleep s p 1)).foldl State.lof (s.dropLanes p)).judgeGroups))) ∧
  (∀ (s : State) (p : Fin 2), s.getN .TETHER_SLEEP_EN p = 1 → joined s = false → portUp s p = true → portUp s (1 - p) = true →
    tetherAsleep s (1 - p) 0 = false → tetherAsleep s p 0 = false → exec (.tetherIdleExpiry p false) s =
    .next { s with prot.sleeping := s.prot.sleeping.set (2 * p) true }) ∧
  (∀ (s : State) (p : Fin 2) (r : Bool), s.getN .TETHER_SLEEP_EN p = 0 → exec (.tetherIdleExpiry p r) s = .next s) ∧
  (∀ (s : State) (p : Fin 2) (r : Bool), ∃ t, exec (.tetherWake p r) s = .next t ∧ t.prot.sleeping.get (2 * p.val + b2n r) = false) ∧
  (∀ (s : State) (k : Fin 4) (b : Byte), pinsIgnored s = false → (s.smpOf k).toTether.length < 64 → exec (.smpByteIn k b) s =
    .next (s.setSmp k { s.smpOf k with toTether := (s.smpOf k).toTether ++ [b] })) ∧
  (∀ (s : State) (k : Fin 4) (b : Byte), pinsIgnored s = false → 64 ≤ (s.smpOf k).toTether.length → ∃ t, exec (.smpByteIn k b) s = .next t ∧
    (t.smpOf k).toTether = (s.smpOf k).toTether ∧ (t.smpOf k).dropsIn = (s.smpOf k).dropsIn + 8 ∧
    ∃ e, t.ev.transit = s.ev.transit ++ [e] ∧ e.kind = .SMP_OVERRUN) ∧
  (∀ (s : State) (p : Fin 2) (g : Fin 4) (x : TetherRx) (rs : List MirrorRec), (s.tgroup (4 * p.val + g.val)).up = true → x.payload = .mirror rs →
    x.tagGood = true → (s.takeGroup (4 * p.val + g.val)).1 = false →
    let k := tetherKey s p 1 true
    let key := genKey (s.slot (18560 + k)) x.gen
    let r := (s.takeGroup (4 * p.val + g.val)).2.receiveWork regH key (aesBlocks (16 * rs.length) + 2)
    let i := (k * 8 + (4 * p.val + g.val)) * 2 + b2n x.gen
    key ≠ none → s.prot.rxCounters.get i = none → r.1 = true → exec (.tetherFrameRx p g 0 x) s =
    .next { r.2 with prot.rxCounters := r.2.prot.rxCounters.set i (some (x.counter % 2 ^ 32)), prot.mirrorIn := r.2.prot.mirrorIn ++ rs }) ∧
  (∀ (s : State) (p : Fin 2) (g : Fin 4) (x : TetherRx) (rs : List MirrorRec), (s.tgroup (4 * p.val + g.val)).up = true → x.payload = .mirror rs →
    x.tagGood = false → let k := tetherKey s p 1 true
    exec (.tetherFrameRx p g 0 x) s = .next (((s.takeGroup (4 * p.val + g.val)).2.receiveWork regH (genKey (s.slot (18560 + k)) x.gen)
      (aesBlocks (16 * rs.length) + 2)).2.tetherAuthFail p 1)) ∧
  (∀ (s : State) (p : Fin 2) (g : Fin 4) (n : Nat) (x : TetherRx), (s.tgroup (4 * p.val + g.val)).up = false →
    exec (.tetherFrameRx p g n x) s = .next s)

/-- The pair: a multiframe sends the pair message with the next count (R383); a message whose tag fails is counted (R381), a good one of a pair not
yet paired becomes the peer's last, with the delay measured (R383, R384); a tether key that finds no match in 10 s is given up (R381); a mirror
record of a tree not held here is applied (R387), and one out of sequence begins a gap (R388); CHECKPOINT records are emitted on every stream, and
the absence of one is noted (R388); the heartbeat toggles while the refresh is younger than 2 ms, and only then (R391, R397); the active control
pair refreshes it, and a missing refresh fences the device, tokens kept in name (R391). Beyond the rules it rests on the model's choices and
readings of log entries 3, 6, 13, 39, 128, 146, 147, 148, 149, 152, 154 and 155. -/
def Obligations.PairRows : Prop :=
  (∀ s : State, commitDue { s with prot.msgCount := s.prot.msgCount + 1 } = false → portUp s 0 = true → (slotKey s 18572).isSome = true → ∃ t,
    exec .multiframeStart s = .next t ∧ t.prot.msgCount = s.prot.msgCount + 1 ∧
    ∃ m, t.outbox = s.outbox ++ [.pairMsg m] ∧ m.count = s.prot.msgCount + 1) ∧
  (∀ (s : State) (p : Fin 2) (m : PairMsg) (h r n : Nat), exec (.pairMessageRx p false m h r n) s = .next (s.tetherAuthFail p 3)) ∧
  (∀ (s : State) (p : Fin 2) (m : PairMsg) (h r n : Nat), slotKey s (18572 + p.val) ≠ none → (∀ k, s.prot.lastAccepted = some k → k < m.count) →
    s.prot.paired = false → s.prot.keySlot = none → ∃ t, exec (.pairMessageRx p true m h r n) s = .next t ∧ t.prot.peer = some m ∧
    t.prot.lastAccepted = some m.count ∧ t.prot.delay = (r - m.echoHold) / 2 ∧ t.prot.tokens = s.prot.tokens) ∧
  (∀ (s : State) (k : Nat), s.prot.keySlot = some k → s.prot.keyCommit = none → ∃ t : State,
    exec .tetherKeyTimeout s = .next (t.respondAll (.keyCommit (18560 + k)) .timeout 0 []) ∧ t.prot.keySlot = none ∧
    (t.slot (18560 + k)).pending = none ∧ (t.slot (18560 + k)).cur = (s.slot (18560 + k)).cur) ∧
  (∀ (s : State) (r : MirrorRec) (l : List MirrorRec), s.prot.mirrorIn = r :: l → s.prot.paired = true → r.stream < 32 →
    holds s r.stream = false → exec .mirrorRecordRx s = .next (({ s with prot.mirrorIn := l }).applyRecord r)) ∧
  (∀ (s : State) (r : MirrorRec), r.stream < 32 → r.seq ≠ ((s.stream r.stream).applied + 1) % 2 ^ 32 → isBulkBegin r.body = false → ∃ t : State,
    s.applyRecord r = t.postReady r.stream 2 ∧ (t.stream r.stream).applied = r.seq ∧ (t.stream r.stream).clean = false ∧
    (t.stream r.stream).resync = true ∧ ∃ e, t.ev.transit = s.ev.transit ++ [e] ∧ e.kind = .TETHER_SEQ_GAP) ∧
  (∀ s : State, exec .checkpointEmit s = .next ((List.range 33).foldl (fun (s : State) n => s.mirror n 0 .checkpoint) s)) ∧
  (∀ s : State, exec (.checkpointAbsent 32) s = .next (s.setStream 32 { s.stream 32 with checkpoint := false })) ∧
  (∀ s : State, s.prot.fenced = false → (∃ n, s.prot.hbRefreshed = some n ∧ s.up - n ≤ 2 * msec) → ∃ t, exec .heartbeatToggle s = .next t ∧
    t.prot.hbLevel = (!s.prot.hbLevel) ∧ t.outbox = s.outbox ++ [.heartbeat (!s.prot.hbLevel)]) ∧
  (∀ (s : State) (n : Nat), s.prot.hbRefreshed = some n → 2 * msec < s.up - n → exec .heartbeatToggle s = .next s) ∧
  (∀ s : State, s.fw.pairB = false → s.fw.stateA = .active → exec .heartbeatRefresh s =
    .next { s with prot.hbRefreshed := some s.up, prot.fenced := false }) ∧
  (∀ s : State, s.prot.fenced = false → ∃ t, exec .protSelfFence s = .next t ∧ t.prot.fenced = true ∧
    (∀ n, n < 32 → holds s n = true → (t.token n).fenced = true ∧ (t.token n).held = (s.token n).held) ∧
    ∃ e, t.ev.transit = s.ev.transit ++ [e] ∧ e.kind = .PROT_SELF_FENCE)

/-- Silence of the peer: a heartbeat edge ends it, and with every group down the pair is lost (R397); with PROT_AUTO_DEAD the trees that were ready
are taken, else none (R397); a switch without TAKEN blocks its tree and fails with TIMEOUT (R394); a commissioning ends after one second, with the
median of at least four differences or with TIMEOUT (R392). The input is ignored in reset and in Hibernate (R563). Beyond the rules it rests on the
model's choices and readings of log entries 6, 14, 39, 146, 156, 157 and 158. -/
def Obligations.SilenceRows : Prop :=
  (∀ s : State, pinsIgnored s = false → anyUp s = true → exec .pairHbInEdge s = .next { s with prot.hbEdgeAt := some s.up, prot.silent := false }) ∧
  (∀ s : State, pinsIgnored s = true → exec .pairHbInEdge s = .next s) ∧
  (∀ s : State, pinsIgnored s = false → anyUp s = false → exec .pairHbInEdge s =
    .next ({ s with prot.hbEdgeAt := some s.up, prot.silent := false } : State).losePair) ∧
  (∀ s : State, s.prot.paired = true → anyUp s = false → s.prot.silent = false → s.getN .PROT_AUTO_DEAD = 0 → exec .peerSilent s =
    .next { s with prot.silent := true, prot.wasSilent := true }) ∧
  (∀ s : State, s.prot.paired = true → anyUp s = false → s.prot.silent = false → s.getN .PROT_AUTO_DEAD = 1 → s.prot.heldState = false →
    tokenAllowed { s with prot.silent := true, prot.wasSilent := true } = true → exec .peerSilent s =
    .next (trees.foldl (fun (s : State) n => (s.followEpoch n).takeSilent n) { s with prot.silent := true, prot.wasSilent := true })) ∧
  (∀ (s : State) (n : Nat), (s.token n).held = false → (s.token n).readyAtLoss = true → s.takeSilent n = s.takeToken n ((s.token n).epoch + 1) 4) ∧
  (∀ (s : State) (n : Fin 32), releasing (s.token n) = true → exec (.switchTakenTimeout n) s =
    .next (((s.setToken n { s.token n with release := .blocked }).blocked n 3).respondAll .protSwitch .timeout 0 [])) ∧
  (∀ (s : State) (n : Fin 32) (k : Commission), s.prot.commission.get n = some k → k.diffs.length < 4 → exec (.commissionTimeout n) s =
    .next (({ s with prot.commission := s.prot.commission.set n none }).respondAll (.commission n) .timeout 0 [])) ∧
  (∀ (s : State) (n : Fin 32) (k : Commission), s.prot.commission.get n = some k → 4 ≤ k.diffs.length → ∃ t : State,
    exec (.commissionTimeout n) s = .next (t.respondAll (.commission n) .ok 0 [medianOf k.diffs]) ∧ t.prot.commission.get n = none)

/-- The commands of the tether and of protection (R400): TETHER_STATUS; TETHER_RESTART applies the grouping as written and takes the port's groups
down (R374); PROT_PAIR; PROT_COMMISSION starts a measurement over at most 8 terminals (R392); PROT_SWITCH starts the switch of every tree named
(R394); PROT_CLAIM takes the token of a tree that nothing stands against, under the next epoch (R389, R390), and is refused in the held state
(R398); PROT_READMIT ends the held state (R398); PROT_STATUS; MIRROR_RESYNC sets a tree's RESYNC bit (R388). Beyond the rules it rests on the
model's choices and readings of log entries 39, 148, 156, 157 and 159. -/
def Obligations.ProtectionCommands : Prop :=
  (∀ (s : State) (mb : Fin 16) (c : Cmd), Starts s mb 0x0F01 c → AnswersOnly (.tetherStatus mb) s mb c) ∧
  (∀ (s : State) (mb : Fin 16) (c : Cmd) (p : Nat), Starts s mb 0x0F02 c → p < 2 → anyUnderTest s 2 (fun i => i / 17 == p) = false →
    ∃ t : State, Answers (.tetherRestart mb p) s mb (t.restartPort p) [p] ∧ t.getF .TETHER_GROUPING p = s.get .TETHER_GROUPING p) ∧
  (∀ (s : State) (mb : Fin 16) (c : Cmd) (a b : Bool), Starts s mb 0x0F10 c → Answers (.protPair mb a b) s mb
    (({ begun s mb c with prot.memberB := a, prot.paired := b }).postAllReady 1) []) ∧
  (∀ (s : State) (mb : Fin 16) (c : Cmd) (n : Nat), Starts s mb 0x0F11 c → n < 32 → s.prot.paired = true → runs s n = true →
    s.prot.commission.get n = none → ∃ t : State, exec (.protCommission mb n) s = .next (t.await mb (.commission n) true) ∧
    ∃ k, t.prot.commission.get n = some k ∧ k.diffs = [] ∧ k.terms.length ≤ 8) ∧
  (∀ (s : State) (mb : Fin 16) (c : Cmd) (l : List Nat), Starts s mb 0x0F12 c → l ≠ [] → (∀ n ∈ l, n < 32) → s.prot.paired = true →
    s.prot.heldState = false → (∀ n ∈ l, runs s n = true) → (∀ n ∈ l, peerCanTake s n = true) →
    exec (.protSwitch mb l) s = .next ((l.foldl (fun (s : State) n => s.startSwitch n 2) (begun s mb c)).await mb .protSwitch true)) ∧
  (∀ (s : State) (mb : Fin 16) (c : Cmd) (n : Nat), Starts s mb 0x0F13 c → n < 32 → s.prot.heldState = false →
    tokenAllowed (begun s mb c) = true → (s.token n).held = false → (s.token n).release = .none → claimRefused s n = none →
    exec (.protClaim mb [n]) s = .next ((((begun s mb c).followEpoch n).takeToken n ((((begun s mb c).followEpoch n).token n).epoch + 1) 3).respond
      mb .ok 0x1FFFF [n])) ∧
  (∀ (s : State) (mb : Fin 16) (c : Cmd) (n : Nat), Starts s mb 0x0F13 c → n < 32 → s.prot.heldState = true →
    exec (.protClaim mb [n]) s = .next ((begun s mb c).respond mb .notReady 0 [n])) ∧
  (∀ (s : State) (mb : Fin 16) (c : Cmd), Starts s mb 0x0F14 c → Answers (.protReadmit mb) s mb
    (({ begun s mb c with prot.heldState := false }).postAllReady 1) []) ∧
  (∀ (s : State) (mb : Fin 16) (c : Cmd), Starts s mb 0x0F15 c → AnswersOnly (.protStatus mb) s mb c) ∧
  (∀ (s : State) (mb : Fin 16) (c : Cmd) (n : Nat), Starts s mb 0x0F16 c → n < 32 → s.prot.paired = true → holds s n = false →
    exec (.mirrorResync mb [n]) s = .next (((begun s mb c).setStream n { s.stream n with resync := true }).respond mb .ok 0x1FFFF [n]))

/-- The host port and the mailboxes: a doorbell posts an idle mailbox and is an error in any other state (R429); a posted request is accepted by the
active control pair (R431); RESP_READY written 1 frees a mailbox (R429); an aligned 32-bit write reaches its register, any other access is discarded
and counted (R406), and RING is a doorbell (R428); reads that clear what they return, or latch the high word of device time (R407, R411); what
MB_STATUS and the offsets between the blocks read (R10, R406); BAR 2 answers 0 with no session open, and discards writes (R408); a function level
reset stops every channel, resets the mailboxes and ends every session (R405, R432); PERST_N resets the endpoint alone (R567). Beyond the rules it
rests on the model's choices and readings of log entries 2, 3, 13, 163 and 173. -/
def Obligations.MailboxRows : Prop :=
  (∀ (s : State) (n : Fin 16), (s.mbox n).state = .idle → exec (.mbDoorbell n) s = .next (s.setMbox n { s.mbox n with state := .posted })) ∧
  (∀ (s : State) (n : Fin 16), (s.mbox n).state ≠ .idle → ∃ t, exec (.mbDoorbell n) s = .next t ∧ (t.mbox n).state = (s.mbox n).state ∧
    (t.mbox n).doorbellErr = true ∧ (t.mbox n).cmd = (s.mbox n).cmd) ∧
  (∀ (s : State) (n : Fin 16) (l : List Obj), 3 < s.power.stage → pairActive s = true → (s.mbox n).state = .posted →
    exec (.mailboxAccept n l) s = .next (s.acceptRequest n l)) ∧
  (∀ (s : State) (n : Fin 16) (l : List Obj), pairActive s = false → exec (.mailboxAccept n l) s = .next s) ∧
  (∀ (s : State) (n : Fin 16), (s.mbox n).state = .respReady → exec (.respReadyClear n) s =
    .next (s.setMbox n { s.mbox n with state := .idle, respReady := false })) ∧
  (∀ (s : State) (n : Fin 16), (s.mbox n).state ≠ .respReady → exec (.respReadyClear n) s = .next s) ∧
  (∀ (s : State) (a : Nat) (v : Word) (b : Bool), a % 4 = 0 → exec (.registerWrite a 4 v b) s = .next (s.writeBar0 a v.toNat b)) ∧
  (∀ (s : State) (a n : Nat) (v : Word) (b : Bool), n ≠ 4 ∨ a % 4 ≠ 0 → exec (.registerWrite a n v b) s =
    .next (s.bumpF .PCIE_ERR_COUNT 0 31 16)) ∧
  (∀ (s : State) (n : Fin 16) (v : Word) (b : Bool), v.toNat.testBit 0 = true → exec (.registerWrite (0x30000 + 0x40 * n.val) 4 v b) s =
    exec (.mbDoorbell n) s) ∧
  (∀ s : State, exec .deviceTimeLoRead s = .next (({ s with host.timeHiLatch := s.now / 2 ^ 32 } : State).emit (.readData (s.now % 2 ^ 32)))) ∧
  (∀ s : State, exec .hostFlrCountRead s = .next (({ s with host.flrCount := 0 } : State).emit (.readData s.host.flrCount))) ∧
  (∀ (s : State) (c : Fin 64), ∃ t, exec (.doneCountRead c) s = .next t ∧ (t.ch c).doneCount = 0 ∧
    t.outbox = s.outbox ++ [.readData (s.ch c).doneCount]) ∧
  (∀ (s : State) (n : Fin 16), ∃ t, exec (.mbCountRead n) s = .next t ∧ (t.mbox n).completed = 0 ∧
    t.outbox = s.outbox ++ [.readData (s.mbox n).completed]) ∧
  (∀ (s : State) (n : Nat), n < 16 → bar0Value s (0x30004 + 0x40 * n) = mbStateCode (s.mbox n).state * 2 ^ 29 + b2n (s.mbox n).respReady * 2 ^ 28 +
    b2n (s.mbox n).doorbellErr * 2 ^ 27 + (s.mbox n).lastSeq ∧ bar0Value s (0x30000 + 0x40 * n) = 0) ∧
  (∀ (s : State) (a : Nat), 0x30400 ≤ a → a < 0x40000 → bar0Value s a = 0 ∧ s.bar0ReadEffect a = s) ∧
  (∀ (s : State) (o : Fin 67108864), exec (.bar2Access true o) s = .next (s.bumpF .PCIE_ERR_COUNT 0 31 16)) ∧
  (∀ (s : State) (o : Fin 67108864), (s.role 0).session = none → (s.role 1).session = none → (s.role 2).session = none →
    exec (.bar2Access false o) s = .next (s.emit (.readData 0))) ∧
  (∀ s : State, ∃ t, exec .functionLevelReset s = .next t ∧ (∀ n, n < 16 → (t.mbox n).state = .idle ∨ (t.mbox n).state = .reset) ∧
    (∀ r, r < 4 → (t.role r).session = none) ∧ (∀ c, c < 64 → (t.ch c).state = .disabled ∧ (t.ch c).enable = false) ∧
    t.host.flrCount = satTo 16 (s.host.flrCount + 1)) ∧
  (∀ s : State, ∃ t, exec (.pciePerst true) s = .next t ∧ t.host.perst = true ∧ t.host.msix = [] ∧ t.host.pba = [] ∧ t.mb = s.mb ∧
    t.host.channels = s.host.channels ∧ t.fwd = s.fwd) ∧
  (∀ s : State, exec (.pciePerst false) s = .next { s with host.perst := false })

/-- The DMA channels: ENABLE, ABORT, RESUME, the tail and COMMIT act on an open channel (R411, R415, R421, R422) and are discarded on one that is
not open (R410); a staged message that has its buffer joins the queue of the next channel of its function (R410), or is dropped at DMA_QUEUE_LIMIT
(R417); a descriptor with OWN = 1 is taken, one with OWN = 0 read again, and the third reading that finds 0 is an error (R413 to R415). Beyond the
rules it rests on the model's choices and readings of log entries 13, 164, 165, 166, 201, 207 and 276. -/
def Obligations.DmaRows : Prop :=
  (∀ (s : State) (c : Fin 64), (s.ch c).func ≠ 0 → (s.ch c).enable = false → exec (.chEnableSet c) s =
    .next ((s.setCh c { s.ch c with enable := true, head := 0, tail := 0, state := .idle }).handOver c)) ∧
  (∀ (s : State) (c : Fin 64), (s.ch c).func ≠ 0 → (s.ch c).enable = true → exec (.chEnableClear c) s =
    .next (((s.setCh c (disable (s.ch c))).testReq c).handOver c)) ∧
  (∀ (s : State) (c : Fin 64), (s.ch c).func ≠ 0 → exec (.chAbort c) s = .next (s.abortCh c)) ∧
  (∀ (s : State) (c : Fin 64), (s.ch c).func ≠ 0 → (s.ch c).state = .stopped → exec (.chResume c) s =
    .next (s.setCh c { s.ch c with state := .idle })) ∧
  (∀ (s : State) (c : Fin 64) (n : BitVec 16), (s.ch c).func ≠ 0 → exec (.ringTailWrite c n) s =
    .next (s.setCh c { s.ch c with tail := n.toNat % 2 ^ (s.ch c).ringLog2 })) ∧
  (∀ (s : State) (c : Fin 64) (b : Bool), (s.ch c).func ≠ 0 → exec (.shadowCommit c b) s = .next (s.requestCommit c b)) ∧
  (∀ (s : State) (c : Fin 64) (n : BitVec 16) (b : Bool), (s.ch c).func = 0 → exec (.chEnableSet c) s = .next s ∧ exec (.chEnableClear c) s = .next s ∧
    exec (.chAbort c) s = .next s ∧ exec (.chResume c) s = .next s ∧ exec (.ringTailWrite c n) s = .next s ∧ exec (.shadowCommit c b) s = .next s) ∧
  (∀ (s : State) (f : Fin 5) (m : DmaMsg) (l : List (Nat × DmaMsg)) (c : Nat), takeStaged f s.host.staged = some (m, l) → nextChannel s f = some c →
    m.buf.isSome = true → queueBytes (s.ch c) + m.len ≤ dmaLimit s c → ∃ t : State, exec (.dmaMessageEnqueue f) s = .next (t.testReq c) ∧
    (t.ch c).queue = (s.ch c).queue ++ [m] ∧ t.host.lastOf.get f = c + 1 ∧ t.host.staged = l) ∧
  (∀ (s : State) (f : Fin 5) (m : DmaMsg) (l : List (Nat × DmaMsg)) (c : Nat), takeStaged f s.host.staged = some (m, l) → nextChannel s f = some c →
    m.buf.isSome = true → dmaLimit s c < queueBytes (s.ch c) + m.len → exec (.dmaMessageEnqueue f) s =
    .next (({ s with host.staged := l, host.lastOf := s.host.lastOf.set f (c + 1) } : State).queueDrop c m)) ∧
  (∀ (s : State) (f : Fin 5) (m : DmaMsg) (l : List (Nat × DmaMsg)) (c : Nat), takeStaged f s.host.staged = some (m, l) → nextChannel s f = some c →
    m.buf = none → exec (.dmaMessageEnqueue f) s = .next s) ∧
  (∀ (s : State) (c : Fin 64) (w i : List Word), mayTake c (s.ch c) = true → (s.ch c).rereads = none → ((w.getD 0 0).toNat).testBit 31 = true →
    exec (.dmaDescriptorTake c w i) s = .next (s.takeDesc c w i)) ∧
  (∀ (s : State) (c : Fin 64) (w i : List Word), descFails w = false → ∃ r, ((s.takeDesc c w i).ch c).run = some r ∧
    ((s.takeDesc c w i).ch c).state = .active ∧ r.moved = 0 ∧ r.length = bits (w.getD 0 0).toNat 23 0 ∧
    r.addr = (w.getD 3 0).toNat * 2 ^ 32 + (w.getD 2 0).toNat ∧
    (((w.getD 0 0).toNat).testBit 28 = false → r.offsets = []) ∧
    (((w.getD 0 0).toNat).testBit 28 = true → r.offsets = tableOf (bits (w.getD 1 0).toNat 31 19) i ∧ r.elem = bits (w.getD 1 0).toNat 15 0)) ∧
  (∀ (s : State) (c : Fin 64) (w i : List Word), mayTake c (s.ch c) = true → (s.ch c).rereads = none → ((w.getD 0 0).toNat).testBit 31 = false →
    exec (.dmaDescriptorTake c w i) s = .next (s.setCh c { s.ch c with rereads := some 0 })) ∧
  (∀ (s : State) (c : Fin 64) (w i : List Word) (n : Nat), mayTake c (s.ch c) = true → (s.ch c).rereads = some n →
    ((w.getD 0 0).toNat).testBit 31 = true → exec (.dmaOwnReread c w i) s = .next (s.takeDesc c w i)) ∧
  (∀ (s : State) (c : Fin 64) (w i : List Word), mayTake c (s.ch c) = true → (s.ch c).rereads = some 2 →
    ((w.getD 0 0).toNat).testBit 31 = false → ∃ t, exec (.dmaOwnReread c w i) s = .next t ∧ (t.ch c).state = .error ∧ (t.ch c).descErr = true ∧
    (t.ch c).errIndex = (s.ch c).head ∧ t.outbox = s.outbox ∧ ∃ e, t.ev.transit = s.ev.transit ++ [e] ∧ e.kind = .DMA_DESC_ERR)

/-- Bursts and completions: a burst moves the least of BURST_MAX, the descriptor's rest and the message's (R419), at the addresses that its buffer
or its index table gives (R413); the fallback timer starts a run (R418); a descriptor completes with its message going on (R420); the coalescing
timer interrupts (R420); a bus error stops the channel (R423). DMA_CHANNEL_OPEN and DMA_CHANNEL_CLOSE by the operator, the refusal of a function's
open to a role without the right, and DMA_STATUS (R410, R425). That CHAIN_SRC stays as it was at an open is the model's reading: R411 gives it no
open value. Beyond the rules it rests on the model's choices and readings of log entries 13, 167 and 286. -/
def Obligations.DmaBursts : Prop :=
  (∀ (s : State) (c : Fin 64) (l : List Byte) (r : DescRun), 32 ≤ c.val → (s.ch c).run = some r → chRunning (s.ch c) = true →
    mayBurst (s.ch c) = true → (s.ch c).burstEnded = false → ∃ t : State, exec (.dmaBurst c l) s = .next (t.testReq c) ∧
    (t.ch c).run = some { r with moved := r.moved + min (s.ch c).oper.burst (r.length - r.moved) } ∧
    t.outbox = s.outbox ++ [.dmaRead c r.index (burstPieces r (min (s.ch c).oper.burst (r.length - r.moved)))]) ∧
  (∀ (s : State) (c : Fin 64) (l : List Byte) (r : DescRun) (m : DmaMsg) (q : List DmaMsg), c.val < 32 → (s.ch c).run = some r →
    chRunning (s.ch c) = true → mayBurst (s.ch c) = true → (s.ch c).burstEnded = false → (s.ch c).queue = m :: q →
    let n := min (s.ch c).oper.burst (min (r.length - r.moved) (m.len - (s.ch c).msgMoved))
    ∃ t : State, exec (.dmaBurst c l) s = .next (t.testReq c) ∧ (t.ch c).msgMoved = (s.ch c).msgMoved + n ∧
    t.outbox = s.outbox ++ [.dmaData c r.index (s.ch c).msgMoved (burstPieces r n) m.payload]) ∧
  (∀ (r : DescRun) (n : Nat), r.elem = 0 → n ≠ 0 → burstPieces r n = [((r.addr + r.moved) % 2 ^ 64, n)]) ∧
  (∀ (r : DescRun) (n : Nat), n ≠ 0 → r.elem ≠ 0 → n ≤ r.elem - r.moved % r.elem →
    burstPieces r n = [((r.addr + r.offsets.getD (r.moved / r.elem) 0 + r.moved % r.elem) % 2 ^ 64, n)]) ∧
  (∀ (s : State) (c : Fin 64), (s.ch c).oper.fallback % 2 = 1 → chRunning (s.ch c) = true → holdsWork s c = true →
    exec (.dmaTriggerTimer c) s = .next (s.setCh c { s.ch c with timerRun := true })) ∧
  (∀ (s : State) (c : Fin 64) (r : DescRun) (m : DmaMsg) (q : List DmaMsg), c.val < 32 → (s.ch c).run = some r → chRunning (s.ch c) = true →
    (s.ch c).burstEnded = true → (s.ch c).queue = m :: q → (s.ch c).msgMoved < m.len → (s.ch c).msgDescs < 63 → ∃ t : State,
    exec (.dmaDescriptorComplete c) s = .next (t.afterCompletion c r.irq) ∧ (t.ch c).msgDescs = (s.ch c).msgDescs + 1 ∧
    (t.ch c).queue = m :: q ∧ (t.ch c).head = ((s.ch c).head + 1) % ringSize (s.ch c)) ∧
  (∀ (s : State) (c : Fin 64), (s.ch c).uncovered ≠ 0 → exec (.dmaCoalesceTimeout c) s = .next (s.chInterrupt c)) ∧
  (∀ (s : State) (c : Fin 64) (b : Bool), chRunning (s.ch c) = true → (s.ch c).run = none → ∃ t, exec (.dmaBusError c b) s = .next t ∧
    (t.ch c).state = .error ∧ (t.ch c).busErr = true ∧ (t.ch c).errIndex = (s.ch c).head ∧
    ∃ e, t.ev.transit = s.ev.transit ++ [e] ∧ e.kind = .DMA_BUS_ERR) ∧
  (∀ (s : State) (mb : Fin 16) (c : Cmd) (n f : Nat), Starts s mb 0x1001 c → c.role = 0 → n < 32 → 1 ≤ f → f ≤ 4 → (s.ch n).state = .disabled →
    let o : TrigSet := { openSet with chainSrc := (s.ch n).shadow.chainSrc }
    Answers (.dmaChannelOpen mb n f) s mb (((begun s mb c).setCh n { s.ch n with func := f, oper := o, shadow := o }).testReq n) [n, f]) ∧
  (∀ (s : State) (mb : Fin 16) (c : Cmd) (n : Nat), Starts s mb 0x1001 c → c.role = 1 → exec (.dmaChannelOpen mb n 1) s =
    .next ((begun s mb c).respond mb .noRight 0 [])) ∧
  (∀ (s : State) (mb : Fin 16) (c : Cmd) (n : Nat), Starts s mb 0x1002 c → c.role = 0 → n < 64 → (s.ch n).func ≠ 0 → (s.ch n).func ≤ 4 → ∃ t : State,
    Answers (.dmaChannelClose mb n) s mb t [n] ∧ (t.ch n).func = 0 ∧ (t.ch n).state = .disabled ∧ (t.ch n).enable = false) ∧
  (∀ (s : State) (mb : Fin 16) (c : Cmd), Starts s mb 0x1003 c → AnswersOnly (.dmaStatus mb) s mb c)

/-- The parameter and identity commands: IDENT_READ answers identity, firmware version and serial number (R407); PARAM_READ answers its entries in
order (R441, R443); PARAM_WRITE writes a passing entry (R444) and an atomic write with a failing entry writes none (R446); PARAM_DESCRIBE answers
the key's descriptor of Table 17.7 with the named instance's default, and NO_OBJECT for an unknown key (R447); COUNTER_SNAPSHOT of existing entries
answers OK (R521); the telemetry period's end records every terminal in OPERATION (R522). Beyond the rules it rests on the model's choices and
readings of log entries 1, 12, 180, 205, 228 and 229. -/
def Obligations.ParamCommands : Prop :=
  (∀ (s : State) (mb : Fin 16) (c : Cmd), Starts s mb 0x0101 c →
    Answers (.identRead mb) s mb (begun s mb c) [(devIdent : Int), (versionWord s.fw.header : Int), (Config.serial : Int)] ∧ devIdent = 0x3250B100) ∧
  (∀ (s : State) (mb : Fin 16) (c : Cmd) (l : List ParEntry), Starts s mb 0x0102 c → entriesOfBody c = some l →
    let r := runEntries (readEntry (begun s mb c) true) (begun s mb c) 0 l
    r.2.2.1 = none → exec (.paramRead mb) s = .next (r.1.respond mb .ok (r.2.1 * 2 ^ 16 + 0xFFFF) r.2.2.2)) ∧
  (∀ (s u : State) (e : ParEntry) (p : Param), entryParam e = .ok p → p.info.sinceRead = false →
    readEntry u true s e = (s, .ok, parOut e .ok (paramValue u p e.inst))) ∧
  (∀ (s : State) (mb : Fin 16) (c : Cmd) (e : ParEntry) (p : Param), Starts s mb 0x0103 c → entriesOfBody c = some [e] → c.flags.testBit 0 = false →
    entryRefusal (begun s mb c) c.role e = .ok p → constraintFault ((begun s mb c).writePar p e.inst e.value) p e.inst = none →
    exec (.paramWrite mb) s =
      .next ((((begun s mb c).writePar p e.inst e.value).applied p e.inst).respond mb .ok 0x1FFFF (parOut e .ok e.value))) ∧
  (∀ (s : State) (mb : Fin 16) (c : Cmd) (l : List ParEntry) (x : Status) (i : Nat), Starts s mb 0x0103 c → entriesOfBody c = some l →
    c.flags.testBit 0 = true →
    (l.map (jointStatus (begun s mb c) ((begun s mb c).writeAll c.role l) c.role)).zipIdx.find? (fun x => x.1 != .ok) = some (x, i) →
    ∃ b, exec (.paramWrite mb) s = .next ((begun s mb c).respond mb x i b)) ∧
  (∀ (s : State) (p : Param) (i : Nat) (v : Int), (s.writePar p i v).get p i = v) ∧
  (∀ (s : State) (mb : Fin 16) (c : Cmd) (k i : Nat) (p : Param), Starts s mb 0x0104 c → Param.ofKey k = some p → p.info.ilo ≤ i → i ≤ p.info.ihi →
    Answers (.paramDescribe mb k i) s mb (begun s mb c) ([((k * 256 + p.info.type * 16 + p.info.effect : Nat) : Int), (p.info.ihi : Int)] ++
      wordsLe 2 p.info.lo ++ wordsLe 2 p.info.hi ++ [(p.info.step : Int), ((p.info.roles % 8 * 2 ^ 29 : Nat) : Int)] ++
      wordsLe 2 (s.defaultOf p i) ++ [0, 0])) ∧
  (∀ (s : State) (mb : Fin 16) (c : Cmd) (k i : Nat) (p : Param), Starts s mb 0x0104 c → Param.ofKey k = some p → i < p.info.ilo ∨ p.info.ihi < i →
    exec (.paramDescribe mb k i) s = .next ((begun s mb c).respond mb .badArg 0 [])) ∧
  (∀ (s : State) (mb : Fin 16) (c : Cmd) (k i : Nat), Starts s mb 0x0104 c → Param.ofKey k = none →
    exec (.paramDescribe mb k i) s = .next ((begun s mb c).respond mb .noObject 0 [])) ∧
  (∀ (s : State) (mb : Fin 16) (c : Cmd) (l : List ParEntry), Starts s mb 0x1311 c → entriesOfBody c = some l → c.flags.testBit 0 = false →
    (∀ e ∈ l, ∃ p, entryParam e = .ok p) →
    ∃ b, exec (.counterSnapshot mb) s = .next ((begun s mb c).respond mb .ok (l.length * 2 ^ 16 + 0xFFFF) b)) ∧
  (∀ s : State, exec .telemetryPeriodExpiry s = .next ((s.terms.keys (fun _ v => v.state == .operation)).foldl State.lineRecord s))

/-- Firmware update: FW_IMAGE_WRITE at offset 0 programs the image not running (R450); FW_ACTIVATE with a passing check puts the standby pair to
rebuilding on the other image, and a failing check answers AUTH_FAIL (R451); the rebuild time-out returns it and fails the command with
FW_UPDATE_FAIL, and the former active pair's load ends the update (R451); FW_COMMIT makes the running image the boot image and raises the minimum
security version (R452, R472); FW_STATUS answers (R454). Beyond the rules it rests on the model's choices and readings of log entries 6, 11, 175 and
176. -/
def Obligations.FirmwareRows : Prop :=
  (∀ (s : State) (mb : Fin 16) (c : Cmd), let d := (c.body.drop 8).take (bodyWord c 1)
    Starts s mb 0x0110 c → s.fw.progress = .none → bodyWord c 1 ≠ 0 → bodyWord c 1 ≤ 4000 → c.body.length = 8 + bodyWord c 1 → bodyWord c 0 = 0 →
    Answers (.fwImageWrite mb) s mb ((begun s mb c).program 0 d) []) ∧
  (∀ (s : State) (mb : Fin 16) (c : Cmd) (x : ImageCheck), Starts s mb 0x0111 c → s.fw.progress = .none → s.power.dev ≠ .hibernate →
    s.power.dev ≠ .hibernateExit → pairState s (!s.fw.pairB) = .standby → imageValid s x = true → x.stateFormat = s.fw.header.stateFormat → ∃ t : State,
    exec (.fwActivate mb x) s = .next (t.await mb .firmware true) ∧ t.fw.progress = .rebuilding ∧ pairState t (!s.fw.pairB) = .restarting) ∧
  (∀ (s : State) (mb : Fin 16) (c : Cmd) (x : ImageCheck), Starts s mb 0x0111 c → s.fw.progress = .none → s.power.dev ≠ .hibernate →
    s.power.dev ≠ .hibernateExit → pairState s (!s.fw.pairB) = .standby → imageValid s x = false →
    exec (.fwActivate mb x) s = .next ((begun s mb c).respond mb .authFail 0 [])) ∧
  (∀ s : State, s.fw.progress = .rebuilding → ∃ t : State, exec .fwRebuildTimeout s = .next (t.respondAll .firmware .faulted 0 []) ∧
    t.fw.progress = .none ∧ pairState t (!s.fw.pairB) = .standby ∧ ∃ e, t.ev.transit = s.ev.transit ++ [e] ∧ e.kind = .FW_UPDATE_FAIL) ∧
  (∀ s : State, s.fw.progress = .loading → ∃ t, exec (.fwStandbyLoadDone true) s = .next t ∧ t.fw.progress = .none ∧
    pairState t (!s.fw.pairB) = .standby) ∧
  (∀ (s : State) (mb : Fin 16) (c : Cmd), Starts s mb 0x0112 c → ∃ t : State, Answers (.fwCommit mb) s mb t [] ∧ t.fw.bootImage = s.fw.running ∧
    t.fw.securityMin = max s.fw.securityMin s.fw.header.security) ∧
  (∀ (s : State) (mb : Fin 16) (c : Cmd), Starts s mb 0x0113 c → AnswersOnly (.fwStatus mb) s mb c)

/-- Roles and sessions: SESSION_OPEN draws a challenge or is refused for the first reason that holds (R462); SESSION_AUTH with the right answer
opens the role's session, its key in the role's slot, a wrong answer counts as a failure, and a late one answers TIMEOUT (R462, R464); SESSION_CLOSE
and SESSION_IDLE close a session (R463); the end of a lockout (R464); the maker pin's fall closes the maker session (R459); the one enrolment (R460)
and an operator credential stored anew close the sessions they name (R461). Beyond the rules it rests on the model's choices and readings of log
entries 7, 288 and 289. -/
def Obligations.SessionRows : Prop :=
  (∀ (s : State) (mb : Fin 16) (c : Cmd), Starts s mb 0x1101 c → openRefusal s (bodyWord c 0) = none → ∃ (t : State) (q : Challenge),
    Answers (.sessionOpen mb) s mb t [q.id, q.nd] ∧ (t.role (bodyWord c 0)).challenge = some q ∧ q.id ≠ 0 ∧ q.id < 2 ^ 32 ∧ q.opened = s.up) ∧
  (∀ (s : State) (mb : Fin 16) (c : Cmd) (x : Status), Starts s mb 0x1101 c → openRefusal s (bodyWord c 0) = some x →
    exec (.sessionOpen mb) s = .next ((begun s mb c).respond mb x 0 [])) ∧
  (∀ (s : State) (mb : Fin 16) (c : Cmd) (r k : Nat) (q : Challenge), Starts s mb 0x1102 c → findChallenge s (bodyWord c 0) = some (r, q) → (r = 2 → c.maker = true) →
    s.up - q.opened ≤ second → credential s r = some k →
    if (c.body.drop 4).take 16 = authAnswer k r q then
      ∃ t : State, Answers (.sessionAuth mb) s mb t [leNat (authProof k r q)] ∧ (t.role r).challenge = none ∧
        (t.role r).session = some { id := q.id, lastUse := s.up } ∧ roleKey t r = sessionKey k r q
    else exec (.sessionAuth mb) s =
      .next ((((begun s mb c).setRole r { s.role r with challenge := none }).failAnswer r).respond mb .authFail 0 [])) ∧
  (∀ (s : State) (mb : Fin 16) (c : Cmd) (r : Nat) (q : Challenge), Starts s mb 0x1102 c → findChallenge s (bodyWord c 0) = some (r, q) → (r = 2 → c.maker = true) →
    second < s.up - q.opened →
    exec (.sessionAuth mb) s = .next (((begun s mb c).setRole r { s.role r with challenge := none }).respond mb .timeout 0 [])) ∧
  (∀ (s : State) (mb : Fin 16) (c : Cmd) (v : Session), Starts s mb 0x1103 c → (s.role c.role).session = some v → v.id = c.session → ∃ t : State,
    Answers (.sessionClose mb) s mb t [] ∧ (t.role c.role).session = none) ∧
  (∀ (s : State) (r : Fin 4), ∃ t, exec (.sessionIdleExpiry r) s = .next t ∧ (t.role r).session = none ∧
    ((s.role r).session.isSome = true → t.roles.audit.next = s.roles.audit.next + 1)) ∧
  (∀ (s : State) (r : Fin 4), ∃ t, exec (.authLockoutExpiry r) s = .next t ∧ (t.role r).locked = false ∧ (t.role r).session = (s.role r).session) ∧
  (∀ s : State, s.roles.makerEn = true → ∃ t, exec (.makerEnChange false) s = .next t ∧ t.roles.makerEn = false ∧ (t.role 2).session = none ∧
    ∃ e, t.ev.transit = s.ev.transit ++ [e] ∧ e.kind = .MAKER_EN_CHANGE) ∧
  (∀ (s : State) (mb : Fin 16) (c : Cmd) (w : Nat), Starts s mb 0x1110 c → s.roles.enrolled = true →
    exec (.credEnrol mb w) s = .next ((begun s mb c).respond mb .alreadyExists 0 [])) ∧
  (∀ (s : State) (mb : Fin 16) (c : Cmd) (w k : Nat), Starts s mb 0x1110 c → s.roles.enrolled = false → c.key = some k →
    match Config.keyUnwrap k w with
    | some v => ∃ t : State, Answers (.credEnrol mb w) s mb t [] ∧ t.roles.enrolled = true ∧
      (t.role 1).wrapped = some (Config.keyWrap Config.storageKey v) ∧ (t.role 3).session = none
    | none => exec (.credEnrol mb w) s = .next ((begun s mb c).respond mb .authFail 0 [])) ∧
  (∀ (s : State) (mb : Fin 16) (c : Cmd) (w k : Nat), Starts s mb 0x1111 c → c.key = some k →
    match Config.keyUnwrap k w with
    | some v => ∃ t : State, Answers (.credSet mb w) s mb t [] ∧
      (t.role 0).wrapped = some (Config.keyWrap Config.storageKey v) ∧ (t.role 0).session = none
    | none => exec (.credSet mb w) s = .next ((begun s mb c).respond mb .authFail 0 []))

/-- The audit trail and calibration: a record takes the next number and the ring keeps 4,096 (R465, R466); the second's summary record (R466);
records written to the flash, or AUDIT_PERSIST_FAIL (R468); AUDIT_READ of held records (R467); CAL_READ (R469); CAL_OVERLAY_WRITE puts a signed
overlay with a later version in force and stores it, or answers AUTH_FAIL (R470). Beyond the rules it rests on the model's choices and readings of
log entries 177, 215 and 288. -/
def Obligations.AuditRows : Prop :=
  (∀ (s : State) (r : AuditRec), (s.auditAdd r).roles.audit.next = s.roles.audit.next + 1 ∧
    (s.auditAdd r).roles.audit.ring.length = min 4096 (s.roles.audit.ring.length + 1)) ∧
  (∀ s : State, s.roles.audit.excess = 0 → ∃ t, exec .auditSummary s = .next t ∧ t.roles.audit.refusals = 0 ∧
    t.roles.audit.next = s.roles.audit.next) ∧
  (∀ s : State, s.roles.audit.excess ≠ 0 → ∃ t, exec .auditSummary s = .next t ∧ t.roles.audit.refusals = 0 ∧ t.roles.audit.excess = 0 ∧
    t.roles.audit.next = s.roles.audit.next + 1) ∧
  (∀ s : State, unpersisted s.roles.audit ≠ 0 → ∃ t, exec (.auditPersist true) s = .next t ∧ t.roles.audit.persisted = s.roles.audit.next ∧
    t.roles.audit.failing = false) ∧
  (∀ s : State, s.roles.audit.failing = true → ∃ t, exec (.auditPersistRetry false) s = .next t ∧ t.roles.audit.failing = true ∧
    t.roles.audit.persisted = s.roles.audit.persisted ∧ ∃ e, t.ev.transit = s.ev.transit ++ [e] ∧ e.kind = .AUDIT_PERSIST_FAIL) ∧
  (∀ (s : State) (mb : Fin 16) (c : Cmd) (b n : Nat), Starts s mb 0x1120 c → n ≠ 0 → n ≤ 200 →
    (s.roles.audit.ring.find? (fun e => e.1 == b)).isSome = true → AnswersOnly (.auditRead mb b n) s mb c) ∧
  (∀ (s : State) (mb : Fin 16) (c : Cmd) (b n : Nat), Starts s mb 0x1120 c → n ≠ 0 → n ≤ 200 →
    s.roles.audit.ring.find? (fun e => e.1 == b) = none → exec (.auditRead mb b n) s = .next ((begun s mb c).respond mb .noObject 0 [])) ∧
  (∀ (s : State) (mb : Fin 16) (c : Cmd) (k i : Nat), Starts s mb 0x1130 c → i < calInstances k → AnswersOnly (.calRead mb k i) s mb c) ∧
  (∀ (s : State) (mb : Fin 16) (c : Cmd), let n := bodyWord c 1
    let l := overlayEntries n (c.body.drop 8)
    Starts s mb 0x1131 c → n ≠ 0 → n ≤ 240 → c.body.length = 24 + 16 * n → storedVersion s < bodyWord c 0 →
    overlayModes n (c.body.drop 8) = true → l.all calEntryValid = true →
    if (credential s 1).map (fun k => Config.cmac k (c.body.take (8 + 16 * n))) = some (c.body.drop (8 + 16 * n)) then
      ∃ t : State, Answers (.calOverlayWrite mb) s mb (t.reportClamps ⟨bodyWord c 0, l⟩) [bodyWord c 0, n] ∧
        t.roles.overlay = some ⟨bodyWord c 0, l⟩ ∧ storedVersion t = bodyWord c 0
    else exec (.calOverlayWrite mb) s = .next ((begun s mb c).respond mb .authFail 0 []))

/-- Fault reports and recovery: the oldest report reaches the handler of its level, and Table 19.5's rules 1, 2 and 4 for a block or a cell (R482);
a stall and an uncorrectable word report their cell (R480, R477); corrections are counted, a scrub read that found nothing wrong changes nothing
(R477); a slow block of a cell field stays in service (R480); a ghost is counted at the fence (R500); a spare that has loaded its role resumes it
(R486); a region that fails its restart is iced (R487); a recovery that exceeds its limit escalates (R482). Beyond the rules it rests on the model's
choices and readings of log entries 181, 183, 187, 196, 197, 291 and 293. -/
def Obligations.FaultRows : Prop :=
  (∀ (s : State) (f : FaultReport) (l : List FaultReport), s.reports = f :: l → exec .faultReport s = .next (({ s with reports := l }).take f)) ∧
  (∀ (s : State) (f : FaultReport), addrLevel f.unit = 2 → heldAbove s f.unit = false → behindFence s f.unit = true → s.take f = s.ghost f.unit) ∧
  (∀ (s : State) (f : FaultReport), addrLevel f.unit = 1 → heldAbove s f.unit = true → s.take f = s.subsume (handlerOf f.unit)) ∧
  (∀ (s : State) (f : FaultReport) (x : FaultEntry), let a := regionAddr (addrRegion f.unit)
    addrLevel f.unit = 2 → heldAbove s f.unit = false → behindFence s f.unit = false → (s.handler a).slot = some x → x.unit ≠ f.unit → x.spare = none →
    (∀ e ∈ (s.handler a).queue, e.unit ≠ f.unit) → (s.handler a).queue.length < 4 →
    s.take f = s.setHandler a { s.handler a with queue := (s.handler a).queue ++ [{ unit := f.unit, cause := f.cause, since := s.up, origin := f.unit }] }) ∧
  (∀ (s : State) (b : Fin 3328) (k : BitVec 16), ∃ t, exec (.handshakeStall b k) s = .next t ∧
    t.reports = s.reports ++ [⟨cellAddr (b / 256) (b % 256) k.toNat, 5⟩]) ∧
  (∀ (s : State) (b : Fin 3328) (k : BitVec 16), ∃ t, exec (.sramUe b k) s = .next t ∧
    t.reports = s.reports ++ [⟨cellAddr (b / 256) (b % 256) k.toNat, 2⟩] ∧ ∃ e, t.ev.transit = s.ev.transit ++ [e] ∧ e.kind = .SRAM_UE) ∧
  (∀ (s : State) (b : Fin 3328) (k : BitVec 16), exec (.sramCorrection b k) s = .next (s.corrected (cellAddr (b / 256) (b % 256) k.toNat))) ∧
  (∀ (s : State) (b : Fin 3328) (k : BitVec 16), exec (.scrubRead b k true) s = .next (s.corrected (cellAddr (b / 256) (b % 256) k.toNat)) ∧
    exec (.scrubRead b k false) s = .next s) ∧
  (∀ (s : State) (b : Fin 3328), (s.unit (instAddr b)).slow = false → fenced s (instAddr b) = false →
    cellField (b / 256) (addrBlock (roleOf s (instAddr b))) = true → (s.unit (instAddr b)).holds = none → ∃ t,
    exec (.unitSlow b) s = .next t ∧ (t.unit (instAddr b)).slow = true ∧ t.reports = s.reports) ∧
  (∀ (s : State) (u : Word), behindFence s u.toNat = true → exec (.unitGhost u) s = .next (s.ghost u.toNat)) ∧
  (∀ (s : State) (r : Fin 13) (e : FaultEntry) (n : Nat), (s.handler (regionAddr r)).slot = some e → e.spare = some n → exec (.blockReplacementDone r) s =
    .next (((s.resume (blockAddr r n) e.cause).setHandler (regionAddr r) { (s.resume (blockAddr r n) e.cause).handler (regionAddr r) with slot := none }).nextBlock
      5 (regionAddr r))) ∧
  (∀ (s : State) (e : FaultEntry), (s.handler 0).slot = some e → exec (.regionRestartDone false) s =
    .next (s.iceRegion (addrRegion e.unit) e.cause).freeChip) ∧
  (∀ (s : State) (a : Word) (e : FaultEntry), a ≠ 0 → addrLevel a.toNat = 2 → (s.handler a.toNat).slot = some e →
    exec (.recoveryTimeout a) s = .next (s.escalateCell e)) ∧
  (∀ (s : State) (a : Word) (e : FaultEntry), a ≠ 0 → addrLevel a.toNat = 3 → (s.handler a.toNat).slot = some e →
    exec (.recoveryTimeout a) s = .next (s.escalateBlock e))

/-- Repairs and readmission: a cell of a cell field leaves its place and its share of capacity goes (R485); a suspect swapped out passes its self-
test and is a spare, an idle spare that fails one is condemned (R497, R498); the maintenance window opens and closes (R498, R501); three passed
readmission tests within READMIT_DAYS make an iced unit a spare, a failed one condemns it (R501); a control pair at fault restarts and self-tests,
its loss as the active one hands over, and the pair that has taken over resumes the commands (R490). Beyond the rules it rests on the model's
choices and readings of log entries 4, 6, 184, 185, 188, 189, 190 and 196. -/
def Obligations.RepairRows : Prop :=
  (∀ (s : State) (b : Fin 3328) (k : BitVec 16) (e : FaultEntry), (s.handler (instAddr b)).slot = some e → fenced s e.unit = true → e.cause ≠ 6 →
    cellField (b.val / 256) (b.val % 256) = true →
    let t : State := { s.reportCapacity (b.val / 256) with cipher.barred := (s.reportCapacity (b.val / 256)).cipher.barred.set e.unit false }
    exec (.cellRepairDone b k) s = .next ((t.setHandler (instAddr b) { t.handler (instAddr b) with slot := none }).nextCell 5 (instAddr b))) ∧
  (∀ (s : State) (u : Word), (s.unit u.toNat).swapped = true → ∃ t, exec (.spareSelfTest u true) s = .next t ∧ unitState t u.toNat = .spare ∧
    (t.unit u.toNat).swapped = false) ∧
  (∀ (s : State) (u : Word), (s.unit u.toNat).swapped = false → exec (.spareSelfTest u true) s = .next s) ∧
  (∀ (s : State) (u : Word), addrLevel u.toNat = 2 → (s.unit u.toNat).swapped = false → unitState s u.toNat = .spare → ∃ t : State,
    exec (.spareSelfTest u false) s = .next t ∧ unitState t u.toNat = .condemned) ∧
  (∀ s : State, s.getN .MAINT_LEN ≠ 0 → s.pon.tod.state ≠ .free → s.fault.window = false → s.getN .SUSPECT_SWAP = 0 → ∃ t : State,
    exec .maintenanceWindowStart s = .next t ∧ t.fault.window = true ∧ ∀ u ∈ readmittable s, (t.unit u).testDue = true) ∧
  (∀ s : State, s.getN .MAINT_LEN = 0 → exec .maintenanceWindowStart s = .next s) ∧
  (∀ s : State, ∃ t, exec .maintenanceWindowEnd s = .next t ∧ t.fault.window = false ∧ ∀ u, (t.unit u).testDue = false) ∧
  (∀ (s : State) (u : Word), (s.unit u.toNat).testDue = true → (s.unit u.toNat).state = some .iced → exec (.readmissionTestDone u false) s =
    .next ((s.condemn u.toNat 11).auditReadmit .faulted)) ∧
  (∀ (s : State) (u : Word), (s.unit u.toNat).testDue = true → (s.unit u.toNat).state = some .iced → (s.unit u.toNat).testPoints = 0 → ∃ t : State,
    exec (.readmissionTestDone u true) s = .next t ∧ (t.unit u.toNat).testPoints = 1 ∧ (t.unit u.toNat).state = some .iced ∧
    (t.unit u.toNat).testDue = false ∧ (t.unit u.toNat).firstTest = s.up) ∧
  (∀ (s : State) (u : Word), (s.unit u.toNat).testDue = true → (s.unit u.toNat).state = some .iced → (s.unit u.toNat).testPoints = 2 →
    s.up - (s.unit u.toNat).firstTest ≤ s.getN .READMIT_DAYS * 86400 * second → ∃ t : State,
    exec (.readmissionTestDone u true) s = .next t ∧ unitState t u.toNat = .spare) ∧
  (∀ (s : State) (b : Bool), pairState s b = .standby → exec (.lockstepMismatch b) s = .next (s.failPair b)) ∧
  (∀ (s : State) (b : Bool), pairState s b = .active → exec (.lockstepMismatch b) s = .next (s.failPair b).loseActive) ∧
  (∀ (s : State) (b : Bool), pairTesting s b = true → ∃ t, exec (.controlPairSelfTestDone b true) s = .next t ∧ pairState t b = .standby ∧
    pairTesting t b = false) ∧
  (∀ (s : State) (b : Bool), pairTesting s b = true → exec (.controlPairSelfTestDone b false) s = .next (s.condemnPair b 10)) ∧
  (∀ s : State, s.fw.progress ≠ .rebuilding → s.fw.hold = true → pairState s s.fw.pairB = .active → ∃ t : State,
    exec .controlPairTakeover s = .next (t.respondAll .pairSwitch .ok 0 []) ∧ t.fw.hold = false)

/-- The commands of faults, repairs and control pairs: FAULT_STATUS, UNIT_STATUS, READMIT_POLICY, READMIT_OVERRIDE of a fenced unit that passes,
REPAIR_MAP_READ, REPAIR_MAP_WRITE of ACTION 6 and CONTROL_PAIR_SWITCH (R504); SELF_TEST (R562). Beyond the rules it rests on the model's choices and
readings of log entries 189, 192, 193, 195 and 197. -/
def Obligations.FaultCommands : Prop :=
  (∀ (s : State) (mb : Fin 16) (c : Cmd), Starts s mb 0x1201 c → AnswersOnly (.faultStatus mb) s mb c) ∧
  (∀ (s : State) (mb : Fin 16) (c : Cmd) (u : Word), Starts s mb 0x1202 c → unitExists u.toNat = true → addrLevel u.toNat ≠ 3 →
    Answers (.unitStatus mb u) s mb (begun s mb c) (unitWords s u.toNat)) ∧
  (∀ (s : State) (mb : Fin 16) (c : Cmd) (b : Bool), Starts s mb 0x1203 c →
    Answers (.readmitPolicy mb b []) s mb { begun s mb c with fault.readmitOff := !b } []) ∧
  (∀ (s : State) (mb : Fin 16) (c : Cmd) (b : Bool) (u : Word), Starts s mb 0x1203 c → unitExists u.toNat = true →
    Answers (.readmitPolicy mb b [u]) s mb ((begun s mb c).setUnit u.toNat { s.unit u.toNat with forbidden := !b }) []) ∧
  (∀ (s : State) (mb : Fin 16) (c : Cmd) (u : Word), Starts s mb 0x1204 c → unitExists u.toNat = true → addrLevel u.toNat < 3 →
    fenced s u.toNat = true → Answers (.readmitOverride mb u true) s mb ((begun s mb c).readmit u.toNat) []) ∧
  (∀ (s : State) (mb : Fin 16) (c : Cmd) (n : Nat), Starts s mb 0x1205 c → AnswersOnly (.repairMapRead mb n) s mb c) ∧
  (∀ (s : State) (mb : Fin 16) (c : Cmd) (u : Word), Starts s mb 0x1206 c → unitExists u.toNat = true → addrLevel u.toNat < 3 →
    unitState s u.toNat = .iced → exec (.repairMapWrite mb [(u, 6)]) s = .next (((begun s mb c).toSpare u.toNat 6).respond mb .ok 0x1FFFF [])) ∧
  (∀ (s : State) (mb : Fin 16) (c : Cmd), Starts s mb 0x1207 c → pairState s (!s.fw.pairB) = .standby → ∃ t : State,
    exec (.controlPairSwitch mb) s = .next (t.await mb .pairSwitch true) ∧ t.fw.pairB = !s.fw.pairB ∧ t.fw.hold = true ∧
    pairState t (!s.fw.pairB) = .active ∧ pairState t s.fw.pairB = .standby) ∧
  (∀ (s : State) (mb : Fin 16) (c : Cmd) (u : Word) (n : Nat), Starts s mb 0x1410 c → unitExists u.toNat = true →
    Answers (.selfTest mb u n) s mb (begun s mb c) [n])

/-- Event delivery and telemetry: an arriving record is shed, masked or delivered (R512 to R514); a record on the store's route takes the next SEQ
and its place, and a full store of Major and Critical records loses the new one (R512, R517, R519); the shedding period, the batch time-out and the
vector holdoff end (R513, R516, R518); a telemetry record enters the ring, and the open telemetry message leaves (R523). Beyond the rules it rests
on the model's choices and readings of log entries 13, 15, 162, 169, 198, 199 and 206. -/
def Obligations.EventRows : Prop :=
  (∀ (s : State) (n : Fin 1624) (r : EvRec) (l : List EvRec), takeFirst n s.ev.transit = some (r, l) → s.ev.burst.get n < s.getN .EVENT_SOURCE_BURST →
    s.ev.maskKind.get r.kind.code = false → s.ev.maskSource.get n = false → exec (.eventArrival n) s =
    .next (({ s with ev.transit := l, ev.burst := s.ev.burst.set n (s.ev.burst.get n + 1) }).deliver r)) ∧
  (∀ (s : State) (n : Fin 1624) (r : EvRec) (l : List EvRec), takeFirst n s.ev.transit = some (r, l) → s.getN .EVENT_SOURCE_BURST ≤ s.ev.burst.get n →
    r.severity ≤ 1 → ∃ t, exec (.eventArrival n) s = .next t ∧ t.ev.store = s.ev.store ∧ t.ev.batch = s.ev.batch ∧ t.ev.seq = s.ev.seq ∧
    t.ro .EVENT_SHED n = (addField (s.ro .EVENT_SHED n).toNat 31 0 1 : Nat)) ∧
  (∀ (s : State) (n : Fin 1624) (r : EvRec) (l : List EvRec), takeFirst n s.ev.transit = some (r, l) → 1 < r.severity →
    s.ev.maskKind.get r.kind.code = true → ∃ t, exec (.eventArrival n) s = .next t ∧ t.ev.store = s.ev.store ∧ t.ev.batch = s.ev.batch ∧
    t.ro .EVENT_MASKED r.kind.code = (addField (s.ro .EVENT_MASKED r.kind.code).toNat 31 0 1 : Nat)) ∧
  (∀ (s : State) (r : EvRec), toRing s r.kind = false → s.ev.loss = none → s.ev.store.length < 256 → ∃ e, (s.deliver r).ev.store = s.ev.store ++ [e] ∧
    e.1 = { r with seq := s.ev.seq } ∧ (s.deliver r).ev.seq = (s.ev.seq + 1) % 65536) ∧
  (∀ (s : State) (e : EvRec × Option Nat), 256 ≤ s.ev.store.length → dropMinor s.ev.store = none → (s.storePut e).ev.store = s.ev.store ∧
    ∃ l, (s.storePut e).ev.loss = some l) ∧
  (∀ s : State, exec .eventShedPeriod s = .next { s with ev.burst := [] }) ∧
  (∀ s : State, s.ev.batch ≠ [] → ∃ t, exec .eventBatchTimeout s = .next t ∧ t.ev.batch = [] ∧ ∃ m, t.host.staged = s.host.staged ++ [(3, m)] ∧
    m.len = 16 * s.ev.batch.length ∧ m.payload = .events s.ev.batch) ∧
  (∀ s : State, s.ev.batch = [] → exec .eventBatchTimeout s = .next s) ∧
  (∀ (s : State) (v : Fin 64), (s.ev.vectors.get v).holdoff = true → (s.ev.vectors.get v).due = true → (s.host.msix.get v).masked = false →
    s.getN .EVENT_IRQ_HOLDOFF ≠ 0 → ∃ t, exec (.eventIrqHoldoffExpiry v) s = .next t ∧ t.outbox = s.outbox ++ [.msix v] ∧
    t.ev.vectors.get v = ⟨true, false⟩) ∧
  (∀ (s : State) (v : Fin 64), (s.ev.vectors.get v).due = false → ∃ t, exec (.eventIrqHoldoffExpiry v) s = .next t ∧ t.outbox = s.outbox ∧
    t.ev.vectors.get v = ⟨false, false⟩) ∧
  (∀ (s : State) (r : TelRec) (l : List TelRec), s.ev.telStaged = r :: l → openChannels s 4 false = [] → telemetryBytes s / 32 ≠ 0 → ∃ t,
    exec .telemetryRecord s = .next t ∧ t.ev.telStaged = l ∧ (s.ev.telHead, r) ∈ t.ev.telRing ∧
    t.ev.telHead = (s.ev.telHead + 32) % (telemetryBytes s / 32 * 32)) ∧
  (∀ s : State, s.ev.telOpen ≠ [] → ∃ t, exec .telemetryFlushExpiry s = .next t ∧ t.ev.telOpen = [] ∧
    t.host.staged = s.host.staged ++ [(4, { len := 32 * s.ev.telOpen.length, meta_ := 0, payload := .telemetry s.ev.telOpen })])

/-- The commands of events and telemetry: EVENT_MASK_SET (R514), EVENT_ROUTE_SET of one kind (R515), EVENT_READ (R517), and TELEMETRY_SET (R522),
each with the values it accepts. Beyond the rules it rests on the model's choices and readings of log entry 230. -/
def Obligations.EventCommands : Prop :=
  (∀ (s : State) (mb : Fin 16) (c : Cmd) (b : Bool) (k n : Nat), Starts s mb 0x1301 c → 1 ≤ k → k ≤ 142 → n < 1624 → s.ev.batch = [] → ∃ t : State,
    Answers (.eventMaskSet mb b [k] [n]) s mb t [k, n] ∧ t.ev.maskKind.get k = b ∧ t.ev.maskSource.get n = b ∧
    (∀ j, j ≠ k → t.ev.maskKind.get j = s.ev.maskKind.get j) ∧ ∀ j, j ≠ n → t.ev.maskSource.get j = s.ev.maskSource.get j) ∧
  (∀ (s : State) (mb : Fin 16) (c : Cmd) (b : Bool) (l : List Nat), Starts s mb 0x1301 c → exec (.eventMaskSet mb b [143] l) s =
    .next ((begun s mb c).respond mb .badArg 0 [])) ∧
  (∀ (s : State) (mb : Fin 16) (c : Cmd) (k v : Nat) (b : Bool), Starts s mb 0x1302 c → 1 ≤ k → k ≤ 142 → 48 ≤ v → v ≤ 63 → ∃ t : State,
    exec (.eventRouteSet mb [⟨k, b, some v⟩]) s = .next (t.respond mb .ok 0x1FFFF [k]) ∧ t.ev.routes.get k = ⟨b, some (some v)⟩ ∧
    t.ev.batch = []) ∧
  (∀ (s : State) (mb : Fin 16) (c : Cmd) (n : Nat), Starts s mb 0x1303 c → n ≤ 200 → Answers (.eventRead mb n) s mb
    { begun s mb c with ev.store := s.ev.store.drop n }
    (((s.ev.store.take n).map (fun e => (e.1.words.map (fun w => (w.toNat : Int))))).flatten)) ∧
  (∀ (s : State) (mb : Fin 16) (c : Cmd) (n : Nat), Starts s mb 0x1303 c → 200 < n → exec (.eventRead mb n) s =
    .next ((begun s mb c).respond mb .badArg 0 [])) ∧
  (∀ (s : State) (mb : Fin 16) (c : Cmd) (m p : Nat), Starts s mb 0x1310 c → m &&& 0x1E = m → 10 ≤ p → p ≤ 60000 → ∃ t : State,
    Answers (.telemetrySet mb m p) s mb t [m, p] ∧ t.ev.telMask = m ∧ t.get .TELEMETRY_PERIOD = p)

/-- Reset, bring-up and power: what RESET_N and the loss of power good lose and keep, and where RESET_N's rise begins (R529); steps 3 and 4, the
halt where no image is valid and where DRAM training fails (R533, R534); a channel falls due to go dark or to return at the next frame start (R538);
DRAM self-refresh in Standby (R539); entry to Standby, and BUSY while something ties the device up (R539); POWER_STATUS (R545); temperature samples
(R544). Beyond the rules it rests on the model's choices and readings of log entries 3, 11, 171, 207, 208, 213, 216, 219 and 220. -/
def Obligations.PowerRows : Prop :=
  (∀ s : State, ∃ t, exec (.resetAssert false) s = .next t ∧ t.power.resetN = false ∧ t.power.dev = .off ∧ t.terms = [] ∧ t.cipher = {} ∧
    t.par.flash = s.par.flash ∧ t.roles.enrolled = s.roles.enrolled ∧ t.fw.securityMin = s.fw.securityMin ∧ t.fault.log = s.fault.log) ∧
  (∀ s : State, ∃ t, exec (.resetAssert true) s = .next t ∧ t.power.pwrGood = false ∧ t.power.thermTripN = true ∧ t.power.dev = .off) ∧
  (∀ s : State, ∃ t, exec .resetRelease s = .next t ∧ t.power.stage = 3 ∧ t.power.dev = .bringup ∧ t.power.ready = false ∧ t.power.resetN = true ∧
    t.par.flash = s.par.flash) ∧
  (∀ s : State, s.power.halted = false → s.power.dev = .bringup → s.power.stage = 3 → ∃ t, exec (.bringupStepDone .rom) s = .next t ∧
    t.power.stage = 4 ∧ t.power.stageTime.get 3 = (s.up - s.power.stepStart) / msec) ∧
  (∀ (s : State) (a b : ImageCheck), s.power.halted = false → s.power.dev = .bringup → s.power.stage = 4 → s.fw.bootImage = false →
    imageValid s a = true → ∃ t, exec (.bringupStepDone (.image a b)) s = .next t ∧ t.power.stage = 5 ∧ t.fw.running = false ∧ t.fw.header = a) ∧
  (∀ (s : State) (a b : ImageCheck), s.power.halted = false → s.power.dev = .bringup → s.power.stage = 4 → imageValid s a = false →
    imageValid s b = false → exec (.bringupStepDone (.image a b)) s = .next { s with power.halted := true }) ∧
  (∀ (s : State) (n : Nat), s.power.halted = false → s.power.dev = .bringup → s.power.stage = 9 → exec (.bringupStepDone (.dram n false)) s =
    .next { s with power.halted := true }) ∧
  (∀ (s : State) (c : Fin 64), s.getN .DARK_AUTO c = 1 → (s.chan c).enabled = true → s.power.dark.get c = false → lightNeeded s c = false →
    exec (.darkIdleExpiry c) s = .next { s with power.darkDue := s.power.darkDue.set c (some (true, 2)) }) ∧
  (∀ (s : State) (c : Fin 64), s.power.dark.get c = true → termsOf s c (fun v => v.state == .operation) ≠ [] →
    exec (.darkChannelExit c) s = .next { s with power.darkDue := s.power.darkDue.set c (some (false, 3)) }) ∧
  (∀ (s : State) (d : Fin 8), s.power.dev = .standby → ∃ t, exec (.dramSrIdleExpiry d) s = .next t ∧ t.power.selfRefresh.get d = true) ∧
  (∀ (s : State) (d : Fin 8), s.power.dev ≠ .standby → exec (.dramSrIdleExpiry d) s = .next s) ∧
  (∀ (s : State) (mb : Fin 16) (c : Cmd), Starts s mb 0x0210 c → bodyWord c 0 = 0x02FFFFFF → s.power.dev = .active → tiedUp s = false →
    Answers (.powerStateSet mb) s mb (begun s mb c).enterStandby []) ∧
  (∀ (s : State) (mb : Fin 16) (c : Cmd), Starts s mb 0x0210 c → bodyWord c 0 = 0x02FFFFFF → s.power.dev = .active → tiedUp s = true →
    exec (.powerStateSet mb) s = .next ((begun s mb c).respond mb .busy 0 [])) ∧
  (∀ (s : State) (mb : Fin 16) (c : Cmd), Starts s mb 0x0211 c → AnswersOnly (.powerStatus mb) s mb c) ∧
  (∀ (s : State) (x : Int), s.power.dev ≠ .off → (∀ e ∈ s.power.tripRun, e.2 < 2) → exec (.tempSample [x]) s = .next (s.sense 0 x)) ∧
  (∀ (s : State) (l : List Int), s.power.dev = .off → exec (.tempSample l) s = .next s)

/-- Lane tests: LANE_PRBS_SET of an offered combination (R551, R553) or its refusal (R548, R549); LANE_PRBS_READ (R554); LANE_ERR_INJECT and an
injection (R555); LANE_LOOP_SET of an uplink lane (R556); a checker's lock and its loss (R552). TAP_RESET, IDCODE and BYPASS leave the balls alone
(R559, R560). Beyond the rules it rests on the model's choices and readings of log entries 13, 209, 221, 223 and 292. -/
def Obligations.LaneTestRows : Prop :=
  (∀ (s : State) (mb : Fin 16) (c : Cmd), let w := bodyWord c 0
    let k := bodyWord c 1
    Starts s mb 0x1401 c → laneRefusal s w = none → bits k 29 27 ≤ 4 → bits k 25 0 = 0 → bits w 31 30 < 2 →
    comboOk (bits w 31 30) (bits w 7 0) (k.testBit 31) (k.testBit 30) (s.lane (bits w 31 30) (bits w 7 0)).loop = true → Answers (.lanePrbsSet mb) s mb
      ((begun s mb c).setLane (bits w 31 30) (bits w 7 0) { gen := k.testBit 31, chk := k.testBit 30, pattern := bits k 29 27, invert := k.testBit 26, loop := (s.lane (bits w 31 30) (bits w 7 0)).loop }) [w, k]) ∧
  (∀ (s : State) (mb : Fin 16) (c : Cmd) (x : Status), Starts s mb 0x1401 c → laneRefusal s (bodyWord c 0) = some x →
    exec (.lanePrbsSet mb) s = .next ((begun s mb c).respond mb x 0 [])) ∧
  (∀ (s : State) (mb : Fin 16) (c : Cmd) (n e : Nat), let l := s.lane (bits (bodyWord c 0) 31 30) (bits (bodyWord c 0) 7 0)
    Starts s mb 0x1402 c → laneRefusal s (bodyWord c 0) = none → l.locked = true → c.flags.testBit 0 = false → ∃ t : State,
    Answers (.lanePrbsRead mb n e) s mb t [1, satTo 64 (l.compared + n), satTo 64 (l.errors + e), l.losses] ∧
    (t.lane (bits (bodyWord c 0) 31 30) (bits (bodyWord c 0) 7 0)).compared = satTo 64 (l.compared + n)) ∧
  (∀ (s : State) (mb : Fin 16) (c : Cmd), let l := s.lane (bits (bodyWord c 0) 31 30) (bits (bodyWord c 0) 7 0)
    Starts s mb 0x1403 c → laneRefusal s (bodyWord c 0) = none → l.gen = true → l.injLeft = 0 → 1 ≤ bits (bodyWord c 1) 31 24 →
    bits (bodyWord c 1) 31 24 ≤ 64 → bits (bodyWord c 1) 23 0 ≠ 0 → bodyWord c 2 ≠ 0 → bodyWord c 2 ≤ 1000000 → ∃ (t : State) (b : List Int),
    Answers (.laneErrInject mb) s mb t b ∧
    (t.lane (bits (bodyWord c 0) 31 30) (bits (bodyWord c 0) 7 0)).injLeft = bits (bodyWord c 1) 23 0) ∧
  (∀ (s : State) (k : Fin 3) (i : Fin 128), (s.lane k i).gen = true → (s.lane k i).injNext = none → (s.lane k i).injLeft ≠ 0 →
    exec (.errorInjection k i) s =
      .next ((s.setLane k i { s.lane k i with injLeft := (s.lane k i).injLeft - 1 }).emit (.injected k i (s.lane k i).injBits))) ∧
  (∀ (s : State) (mb : Fin 16) (c : Cmd), let w := bodyWord c 0
    let i := bits w 7 0
    Starts s mb 0x1404 c → bits w 31 30 = 1 → bodyWord c 1 ≤ 3 → bodyWord c 1 ≠ 2 → laneRefusal s w = none →
    comboOk 1 i (s.lane 1 i).gen (s.lane 1 i).chk (bodyWord c 1) = true → Answers (.laneLoopSet mb) s mb
      ((begun s mb c).setLane 1 i { s.lane 1 i with loop := bodyWord c 1, locked := false }) [w, bodyWord c 1]) ∧
  (∀ (s : State) (k : Fin 3) (i : Fin 128), (s.lane k i).chk = true → exec (.prbsLock k i) s = .next (s.setLane k i { s.lane k i with locked := true })) ∧
  (∀ (s : State) (k : Fin 3) (i : Fin 128) (n e : Nat), (s.lane k i).locked = true → ∃ t, exec (.prbsLockLoss k i n e) s = .next t ∧
    (t.lane k i).locked = false ∧ (t.lane k i).losses = satTo 16 ((s.lane k i).losses + 1) ∧
    (t.lane k i).errors = satTo 64 ((s.lane k i).errors + e)) ∧
  (∀ s : State, exec .tapReset s = .next { s with tap.ir := 2 }) ∧
  (∀ s : State, exec .idcode s = .next { s with tap.ir := 2, outbox := s.outbox ++ [.tdo (0xB * 2 ^ 28 + 0x3250 * 2 ^ 12 + Config.jedecId % 2 ^ 11 * 2 + 1)] }) ∧
  (∀ s : State, exec .bypass s = .next { s with tap.ir := 0xFF, outbox := s.outbox ++ [.tdo 0] })

/-- R560: the instructions that reach the balls take effect only while RESET_N is low and act as BYPASS while it is high, whatever their opcode;
SAMPLE/PRELOAD may be used at any time and never disturbs the balls. -/
def Obligations.TapRows : Prop :=
  (∀ s : State, s.power.resetN = false → exec .extest s = .next { s with tap.ir := 0 } ∧ exec .clamp s = .next { s with tap.ir := 3 } ∧
    exec .highz s = .next { s with tap.ir := 4 } ∧ exec .extestPulse s = .next { s with tap.ir := 5 } ∧
    exec .extestTrain s = .next { s with tap.ir := 6 } ∧ ballsDriven { s with tap.ir := 0 } = true ∧ ballsDriven { s with tap.ir := 3 } = true ∧
    ballsDriven { s with tap.ir := 5 } = true ∧ ballsDriven { s with tap.ir := 6 } = true ∧ ballsFloat { s with tap.ir := 4 } = true) ∧
  (∀ s : State, s.power.resetN = true → ∀ i ∈ [Instr.extest, .clamp, .highz, .extestPulse, .extestTrain], ∃ t n,
    exec .bypass s = .next t ∧ exec i s = .next { t with tap.ir := n } ∧ ballsDriven { t with tap.ir := n } = false ∧
    ballsFloat { t with tap.ir := n } = false) ∧
  (∀ (s : State) (b p : Nat), ∃ t, exec (.samplePreload b p) s = .next t ∧ ballsDriven t = false ∧ ballsFloat t = false)

/-- R238: RULE_WRITE is checked as a whole in the order given, and writes nothing when a check fails; EXPECT_EPOCH is the active epoch + 1 modulo
16. A swap is accepted whatever the staging contents. -/
def Obligations.RuleWriteChecks : Prop :=
  (∀ (s : State) (mb : Fin 16) (c : Cmd) (i e : Nat) (l : List RuleEntry), Starts s mb 0x0801 c →
    (l = [] ∨ 32 < l.length ∨ 8192 < i + l.length ∨ l.any ruleBad = true) →
    exec (.ruleWrite mb i e l) s = .next ((begun s mb c).respond mb .badArg 0 [])) ∧
  (∀ (s : State) (mb : Fin 16) (c : Cmd) (i e d : Nat) (l : List RuleEntry), Starts s mb 0x0801 c → l ≠ [] → l.length ≤ 32 → i + l.length ≤ 8192 →
    l.any ruleBad = false → s.fwd.rules.draining = some d → exec (.ruleWrite mb i e l) s = .next ((begun s mb c).respond mb .busy 0 [])) ∧
  (∀ (s : State) (mb : Fin 16) (c : Cmd) (i e : Nat) (l : List RuleEntry), Starts s mb 0x0801 c → l ≠ [] → l.length ≤ 32 → i + l.length ≤ 8192 →
    l.any ruleBad = false → s.fwd.rules.draining = none → e ≠ (s.fwd.rules.epoch + 1) % 16 →
    exec (.ruleWrite mb i e l) s = .next ((begun s mb c).respond mb .staleEpoch 0 [])) ∧
  (∀ (s : State) (mb : Fin 16) (c : Cmd) (i : Nat) (l : List RuleEntry), Starts s mb 0x0801 c → l ≠ [] → l.length ≤ 32 → i + l.length ≤ 8192 →
    l.any ruleBad = false → s.fwd.rules.draining = none → s.fwd.rules.active ≤ 1 → ∃ (t : State) (b : List Int),
    Answers (.ruleWrite mb i ((s.fwd.rules.epoch + 1) % 16) l) s mb t b ∧
    (∀ k e, l[k]? = some e → t.fwd.rules.rules.get (staging s * 8192 + i + k) = (putRule s.fwd.rules 0 e).rules.get 0) ∧
    ∀ j, j < 8192 → t.fwd.rules.rules.get (s.fwd.rules.active * 8192 + j) = s.fwd.rules.rules.get (s.fwd.rules.active * 8192 + j)) ∧
  (∀ (s : State) (mb : Fin 16) (c : Cmd), Starts s mb 0x0804 c → s.fwd.rules.draining = none → ∃ t : State, Answers (.rulesetSwap mb) s mb t [] ∧
    t.fwd.rules.rules = s.fwd.rules.rules ∧ t.fwd.rules.epoch = (s.fwd.rules.epoch + 1) % 16 ∧ t.fwd.rules.active = 1 - s.fwd.rules.active)

/-- R517: the store holds 256 records in SEQ order. At a full store the oldest Info or Minor record makes room, or, when none is held, the new
record is dropped; either is lost at the store. EVENT_READ returns and releases up to 200. -/
def Obligations.EventStore : Prop :=
  (∀ (s : State) (r : EvRec), toRing s r.kind = false → s.ev.loss = none → s.ev.store.length < 256 → ∃ v,
    (s.deliver r).ev.store = s.ev.store ++ [({ r with seq := s.ev.seq }, v)] ∧ (s.deliver r).ev.seq = (s.ev.seq + 1) % 65536) ∧
  (∀ (s : State) (e x : EvRec × Option Nat) (a b : List (EvRec × Option Nat)), 256 ≤ s.ev.store.length → s.ev.store = a ++ x :: b →
    (∀ y ∈ a, 1 < y.1.severity) → x.1.severity ≤ 1 → (s.storePut e).ev.store = a ++ b ++ [e]) ∧
  (∀ (s : State) (e : EvRec × Option Nat), 256 ≤ s.ev.store.length → (∀ y ∈ s.ev.store, 1 < y.1.severity) →
    (s.storePut e).ev.store = s.ev.store) ∧
  (∀ (s : State) (e : EvRec × Option Nat), 256 ≤ s.ev.store.length → s.ev.loss = none →
    (s.storePut e).ro .EVENT_LOST 0 = (addField (s.ro .EVENT_LOST 0).toNat 15 0 1 : Nat) ∧
    (s.storePut e).ev.loss = some (3, 1, s.now)) ∧
  (∀ (s : State) (mb : Fin 16) (c : Cmd) (n : Nat), Starts s mb 0x1303 c → n ≤ 200 → Answers (.eventRead mb n) s mb
    { begun s mb c with ev.store := s.ev.store.drop n }
    (((s.ev.store.take n).map (fun e => (e.1.words.map (fun w => (w.toNat : Int))))).flatten))

/-- R431, R434 to R436, R439: what holds of every host command's row. One that may not start changes nothing; a FLAGS bit that the command does not
define fails with BAD_ARG and no effect; the response carries COMMAND, SEQ and SESSION of the request, with DETAIL, body and DONE_TIME. Beyond the
rules it rests on the model's choices and readings of log entries 2 and 170. -/
def Obligations.HostCommandRules : Prop :=
  (∀ (i : Instr) (s : State) (mb : Fin 16) (code : Nat), i.command = some (mb, code) →
    (∀ c, (s.mbox mb).cmd = some c → c.code = code → startable s c = false) → exec i s = .next s) ∧
  (∀ (i : Instr) (s : State) (mb : Fin 16) (code : Nat) (c : Cmd), i.command = some (mb, code) → code ∉ rightsFirst → (s.mbox mb).cmd = some c →
    c.code = code → startable s c = true → c.flags &&& cmdFlags code ≠ c.flags → exec i s = .next ((begun s mb c).respond mb .badArg 0 [])) ∧
  (∀ (s : State) (n : Fin 16) (c : Cmd) (st : Status) (d : Nat) (b : List Int), (s.mbox n).cmd = some c → (s.mbox n).state ≠ .reset →
    (audited c && auditCritical c) = false → ((s.respond n st d b).mbox n).state = .respReady ∧ ((s.respond n st d b).mbox n).respReady = true ∧
    ((s.respond n st d b).mbox n).cmd = none ∧
    ∃ m, ((s.respond n st d b).mbox n).response = some ⟨c.code, c.seq, c.session, st.code, c.switched, d, b, m, s.now⟩) ∧
  (∀ (s : State) (n k : Nat) (st : Status) (d : Nat) (b : List Int), n ≠ k → (s.respond n st d b).mbox k = s.mbox k)

/-- R437: entries are applied in request order and a failed one does not stop later ones; STATUS and DETAIL of a command that carries entries. That
an entry answered DEFERRED counts as applied is the model's reading (log entry 229). Beyond the rules it rests on the model's choices and readings
of log entry 194. -/
def Obligations.EntryLists : Prop :=
  (∀ (α : Type) (f : State → α → State × Status × List Int) (s : State) (es : List α),
    (entriesCmd f s es).1 = es.foldl (fun s e => (f s e).1) s) ∧
  (∀ (α : Type) (f : State → α → State × Status × List Int) (s : State) (es : List α), (∀ x ∈ entryStatuses f s es, applied x = true) →
    ∃ b, (entriesCmd f s es).2 = .done .ok (es.length * 2 ^ 16 + 0xFFFF) b) ∧
  (∀ (α : Type) (f : State → α → State × Status × List Int) (s : State) (es : List α) (i : Nat) (x : Status),
    (entryStatuses f s es)[i]? = some x → applied x = false → (∀ j y, j < i → (entryStatuses f s es)[j]? = some y → applied y = true) →
    ∃ b, (entriesCmd f s es).2 = .done x (((entryStatuses f s es).filter applied).length * 2 ^ 16 + i) b) ∧
  (∀ (s : State) (mb : Fin 16) (c : Cmd) (l : List (Word × Nat)), Starts s mb 0x1206 c → ∃ t st d b,
    entriesCmd repairWrite (begun s mb c) l = (t, .done st d b) ∧ exec (.repairMapWrite mb l) s = .next (t.respond mb st d b)) ∧
  (∀ (s : State) (mb : Fin 16) (c : Cmd) (l : List RouteEntry), Starts s mb 0x1302 c → l ≠ [] → l.length ≤ 142 → ∃ t st d b,
    entriesCmd setRoute (begun s mb c).closeBatch l = (t, .done st d b) ∧ exec (.eventRouteSet mb l) s = .next (t.respond mb st d b)) ∧
  (∀ (s : State) (mb : Fin 16) (c : Cmd) (l : List Nat), Starts s mb 0x0903 c → count32 l.length = true → s.fwd.serial = [] → ∃ t st d b,
    entriesCmd (deleteKey 0) (begun s mb c) l = (t, .done st d b) ∧ exec (.flowDelete mb l) s = .next (t.respond mb st d b))

/-- One step runs the command at the front of the queue on the state with the queue's rest. With an empty queue one reference cycle passes, which is
the model's own choice (log entry 1): elapsed time advances, and device time while the device runs (R111). Beyond the rules it rests on the model's
choices and readings of log entries 10, 11, 12 and 228. -/
def Obligations.StepRules : Prop :=
  (∀ (s : State) (c : Instr) (rest : List Instr), step { s with pending := c :: rest } = exec c { s with pending := rest }) ∧
  (∀ s : State, s.pending = [] → ∃ t : State, step s = .next t ∧ t.time.up = s.time.up + refCycle s ∧
    t.time.dev = (if running s then devAfter s else s.time.dev) ∧ t = { s with time := t.time, pon.tod.slew := t.pon.tod.slew })

/-- R111, R383, R389, R532: what reset leaves, and that it meets what every step keeps. The values that the spec does not state are the model's
choices (log entry 2). Beyond the rules it rests on the model's choices and readings of log entries 3, 4, 39, 171 and 180. -/
def Obligations.ResetState : Prop :=
  State.reset.pending = [] ∧ State.reset.now = 0 ∧ State.reset.pon.tod.state = .free ∧ State.reset.power.stage = 3 ∧
  State.reset.power.ready = false ∧ State.reset.power.dev = .bringup ∧ State.reset.prot.msgCount = 0 ∧ State.reset.ev.telMask = 2 ∧
  State.reset.tap.ir = 2 ∧ (∀ t : Fin 32, (State.reset.token t).held = false) ∧ (∀ n : Fin 16, (State.reset.mbox n).state = .idle) ∧
  (∀ c : Fin 64, (State.reset.chan c).enabled = false) ∧ (∀ t : Fin 8192, (State.reset.term t).state = .free) ∧
  (∀ (p : Param) (i : Nat), State.reset.get p i = State.reset.defaultOf p i) ∧ Fused 0 false State.reset ∧ StoreBounded State.reset

/-- No step lowers the fused minimum security version or undoes enrolment: what is burnt into the fuses stays, over resets too. -/
def Obligations.FusesStay : Prop :=
  ∀ (m : Nat) (e : Bool) (s t : State), Fused m e s → step s = .next t → Fused m e t

/-- R512, R517: no step takes the event store over 256 records or the next SEQ over 16 bits. -/
def Obligations.StoreStaysBounded : Prop :=
  ∀ s t : State, StoreBounded s → step s = .next t → StoreBounded t

/-- Frames of the rows of lanes, framing, activation, upstream reception, bandwidth and maps: what each may change; every other part of the state, the
queue among it, stays. -/
def Obligations.PonFrames : Prop :=
  (∀ (x0 : Fin 13) (x1 : Bool), ChangesOnly (.signalCommand x0 x1) (fun s t => { s with
      fw.accepted := t.fw.accepted, fw.discarded := t.fw.discarded })) ∧
  (∀ (x0 : Consumer) (x1 : Fin 13) (x2 : BitVec 16), ChangesOnly (.capacityReport x0 x1 x2) (fun s t => { s with pace.held := t.pace.held })) ∧
  (∀ (x0 : Fin 4) (x1 : PoolConsumer), ∀ i ∈ [Instr.freezeMessage x0 x1, .thawMessage x0 x1], ChangesOnly i (fun s t => { s with
      dba.frozen := t.dba.frozen, fwd.macs := t.fwd.macs, fwd.moverFrozen := t.fwd.moverFrozen, fwd.poolMsgs := t.fwd.poolMsgs,
      outbox := t.outbox })) ∧
  (∀ (x0 : List Nat), ChangesOnly (.paceWindowClose x0) (fun s t => { answered s t with
      par.inForce := t.par.inForce, par.ro := t.par.ro, ev.rate := t.ev.rate, ev.telStaged := t.ev.telStaged, ev.transit := t.ev.transit,
      pace := t.pace, reports := t.reports })) ∧
  (∀ (x0 : Fin 3328) (x1 : Nat) (x2 x3 : Bool), ChangesOnly (.paceSample x0 x1 x2 x3) (fun s t => { s with
      pace.blocks := t.pace.blocks, pace.late := t.pace.late })) ∧
  (ChangesOnly .avsSettleExpiry (fun s t => { s with pace.settle := t.pace.settle })) ∧
  (∀ (x0 x1 : Bool), ChangesOnly (.avsbusTransactionDone x0 x1) (fun s t => { s with
      ev.transit := t.ev.transit, pace.attempts := t.pace.attempts, pace.avsFailed := t.pace.avsFailed, pace.pmFailed := t.pace.pmFailed,
      outbox := t.outbox })) ∧
  (∀ (x0 : Bool), ChangesOnly (.avsbusRetry x0) (fun s t => { s with
      pace.attempts := t.pace.attempts, pace.avsFailed := t.pace.avsFailed, outbox := t.outbox })) ∧
  (∀ (x0 : Option RegStatus), ChangesOnly (.pmbusStatusPoll x0) (fun s t => { s with
      par.ro := t.par.ro, ev.transit := t.ev.transit, pace.current := t.pace.current, pace.pmFailed := t.pace.pmFailed, pace.status := t.pace.status,
      pace.temperature := t.pace.temperature, outbox := t.outbox })) ∧
  (∀ (x0 : Fin 3) (x1 : Fin 128), ChangesOnly (.bridgeOverrun x0 x1) (fun s t => { s with
      ev.transit := t.ev.transit, pace.overruns := t.pace.overruns, pace.spoiled := t.pace.spoiled, reports := t.reports })) ∧
  (∀ (x0 : Fin 3) (x1 : Fin 128), ChangesOnly (.bridgeUnderrun x0 x1) (fun s t => { s with
      ev.transit := t.ev.transit, pace.underruns := t.pace.underruns, reports := t.reports, outbox := t.outbox })) ∧
  (∀ (x0 : Fin 32), ChangesOnly (.brstPulse x0) (fun s t => { s with lanes.lanes := t.lanes.lanes, outbox := t.outbox })) ∧
  (∀ (x0 : Fin 32) (x1 : Bool), ∀ i ∈ [Instr.rssiRoundStart x0, .treeLosPin x0 x1], ChangesOnly i (fun s t => { s with
      lanes.optics := t.lanes.optics })) ∧
  (∀ (x0 : Fin 8192) (x1 : Nat) (x2 : Fin 32), ∀ i ∈ [Instr.rssiWindow x0 x1, .moduleReady x2], ChangesOnly i (fun s t => { s with
      lanes.optics := t.lanes.optics, outbox := t.outbox })) ∧
  (∀ (x0 : Fin 32) (x1 : Fin 4) (x2 : List Byte), ∀ i ∈ [Instr.rssiSettleExpiry x0, .moduleTransactionDone x1 x2], ChangesOnly i (fun s t => {
    answered s t with
      lanes.bmem := t.lanes.bmem, lanes.masters := t.lanes.masters, lanes.optics := t.lanes.optics })) ∧
  (∀ (x0 : Fin 32), ChangesOnly (.losWindowExpiry x0) (fun s t => { s with
      par.inForce := t.par.inForce, ev.transit := t.ev.transit, lanes.optics := t.lanes.optics, prot.tokens := t.prot.tokens })) ∧
  (∀ (x0 : Fin 4), ChangesOnly (.mmsSelSetupExpiry x0) (fun s t => { s with lanes.masters := t.lanes.masters, outbox := t.outbox })) ∧
  (∀ (x0 : Fin 4), ChangesOnly (.mmsBusStuck x0) (fun s t => { answered s t with
      ev.transit := t.ev.transit, lanes.bmem := t.lanes.bmem, lanes.masters := t.lanes.masters, lanes.optics := t.lanes.optics })) ∧
  (∀ (x0 : Fin 32), ChangesOnly (.mmsSelectHoldoffExpiry x0) (fun s t => { s with
      lanes.masters := t.lanes.masters, lanes.optics := t.lanes.optics, outbox := t.outbox })) ∧
  (∀ (x0 : Fin 32) (x1 : Byte), ChangesOnly (.moduleManageStart x0 x1) (fun s t => { s with
      ev.transit := t.ev.transit, lanes.masters := t.lanes.masters, lanes.optics := t.lanes.optics, outbox := t.outbox })) ∧
  (∀ (x0 : Fin 32) (x1 : Option (List (Byte × Byte))), ChangesOnly (.modulePoll x0 x1) (fun s t => { s with
      ev.transit := t.ev.transit, lanes.bmem := t.lanes.bmem, lanes.masters := t.lanes.masters, lanes.optics := t.lanes.optics,
      prot.tokens := t.prot.tokens, outbox := t.outbox })) ∧
  (∀ (x0 : Fin 64) (x1 : Bool), ChangesOnly (.burstPreload x0 x1) (fun s t => { s with
      ev.transit := t.ev.transit, lanes.lanes := t.lanes.lanes, pon.line := t.pon.line })) ∧
  (∀ (x0 : Fin 64), ∀ i ∈ [Instr.bankSwap x0, .laneSleepStart x0, .laneWakeStart x0], ChangesOnly i (fun s t => { s with
      lanes.lanes := t.lanes.lanes })) ∧
  (∀ (x0 : Fin 8192) (x1 : LaneSettings), ChangesOnly (.burstWriteBack x0 x1) (fun s t => { answered s t with
      ev.transit := t.ev.transit, lanes.bmem := t.lanes.bmem, lanes.lanes := t.lanes.lanes, lanes.optics := t.lanes.optics, terms := t.terms,
      chans := t.chans, prot.streams := t.prot.streams, prot.txCounters := t.prot.txCounters })) ∧
  (∀ (x0 : Fin 64) (x1 x3 : Nat) (x2 : Option (Fin 8192)) (x4 : Bool) (x5 : Fin 8192), ∀ i ∈ [Instr.sleepLight x0 x1 x2 x3, .profileBroadcast x0,
    .rogueObservation x0 x4 x2 x1, .rogueCorrelationEnd x0, .readmissionAnswer x5], ChangesOnly i (fun s t => { s with
      ev.transit := t.ev.transit, chans := t.chans })) ∧
  (∀ (x0 : Fin 64), ∀ i ∈ [Instr.darkWakeRunStart x0, .darkWakeRunEnd x0], ChangesOnly i (fun s t => { s with
      lanes.lanes := t.lanes.lanes, lanes.wakeRun := t.lanes.wakeRun })) ∧
  (∀ (x0 : Fin 64) (x1 : Fin 40) (x2 x3 : Nat) (x4 : Bool), ∀ i ∈ [Instr.driverSegmentFault x0 x1, .sliceShadowPeriod x0 x2 x3 x4], ChangesOnly i
    (fun s t => { s with
      reports := t.reports, lanes.lanes := t.lanes.lanes })) ∧
  (∀ (x0 : Fin 64), ChangesOnly (.laneSegmentSwap x0) (fun s t => { answered s t with
      par.inForce := t.par.inForce, ev.transit := t.ev.transit, pace.capSent := t.pace.capSent, pace.capSeq := t.pace.capSeq,
      lanes.lanes := t.lanes.lanes, chans := t.chans, pon.tl := t.pon.tl, prot.tokens := t.prot.tokens })) ∧
  (∀ (x0 : Fin 64), ChangesOnly (.laneSliceSwap x0) (fun s t => { answered s t with
      ev.transit := t.ev.transit, pace.capSent := t.pace.capSent, pace.capSeq := t.pace.capSeq, lanes.lanes := t.lanes.lanes, chans := t.chans,
      pon.tl := t.pon.tl, prot.tokens := t.prot.tokens })) ∧
  (ChangesOnly .frameStart (fun s t => { t with
      pending := s.pending, time := s.time, clk := s.clk, accepted := s.accepted, fw := s.fw, dramBytes := s.dramBytes, pace := s.pace,
      units := s.units, reports := s.reports, fault := s.fault, laneTest := s.laneTest, tap := s.tap, free := s.free })) ∧
  (∀ (x0 : Fin 2), ChangesOnly (.ponRefLoss x0) (fun s t => { t with
      pending := s.pending, time := s.time, accepted := s.accepted, fw := s.fw, dramBytes := s.dramBytes, pace := s.pace, units := s.units,
      reports := s.reports, fault := s.fault, laneTest := s.laneTest, tap := s.tap, free := s.free })) ∧
  (ChangesOnly .ethRefLoss (fun s t => { s with clk.eth := t.clk.eth, ev.transit := t.ev.transit })) ∧
  (∀ (x0 : Fin 3), ChangesOnly (.refReturn x0) (fun s t => { s with
      clk := t.clk, ev.transit := t.ev.transit, power.calDeferred := t.power.calDeferred, power.ponCalibrated := t.power.ponCalibrated })) ∧
  (∀ (x0 : Fin 64) (x1 : Nat), ChangesOnly (.fragmentBoundary x0 x1) (fun s t => { s with
      par.ro := t.par.ro, chans := t.chans, cipher.generators := t.cipher.generators, cipher.regions := t.cipher.regions, fwd.ops := t.fwd.ops,
      outbox := t.outbox })) ∧
  (∀ (x0 : Nat) (x1 : Bool), ChangesOnly (.ppsEdge x0 x1) (fun s t => { s with
      time.dev := t.time.dev, par.ro := t.par.ro, ev.transit := t.ev.transit, pon.tod := t.pon.tod })) ∧
  (∀ (x0 : List Byte), ∀ i ∈ [Instr.ppsEdgeMissing, .todMessage x0], ChangesOnly i (fun s t => { s with
      par.ro := t.par.ro, ev.transit := t.ev.transit, pon.tod := t.pon.tod })) ∧
  (∀ (x0 : Fin 64), ChangesOnly (.channelStop x0) (fun s t => { t with
      pending := s.pending, time := s.time, clk := s.clk, accepted := s.accepted, fw := s.fw, dramBytes := s.dramBytes, pace := s.pace,
      units := s.units, reports := s.reports, fault := s.fault, laneTest := s.laneTest, tap := s.tap, free := s.free })) ∧
  (∀ (x0 : Fin 32), ChangesOnly (.discoveryWindowDue x0) (fun s t => { t with
      pending := s.pending, time := s.time, clk := s.clk, accepted := s.accepted, fw := s.fw, power := s.power, dramBytes := s.dramBytes,
      pace := s.pace, units := s.units, reports := s.reports, fault := s.fault, laneTest := s.laneTest, tap := s.tap, free := s.free })) ∧
  (∀ (x0 : Fin 64) (x1 : List Candidate) (x2 x3 x4 : Nat), ChangesOnly (.snAnswer x0 x1 x2 x3 x4) (fun s t => { t with
      pending := s.pending, time := s.time, clk := s.clk, accepted := s.accepted, fw := s.fw, dramBytes := s.dramBytes, pace := s.pace,
      units := s.units, reports := s.reports, fault := s.fault, laneTest := s.laneTest, tap := s.tap, free := s.free })) ∧
  (∀ (x0 : Fin 8192) (x1 : List Candidate) (x2 x5 : Nat) (x3 : List Byte) (x4 : Option Nat) (x6 : Bool), ∀ i ∈ [Instr.registrationBurst x0 x1 x2 x3
    x4 x5, .rangingWindowMiss x0 x6, .lobDeactExpiry x0], ChangesOnly i (fun s t => { t with
      pending := s.pending, time := s.time, clk := s.clk, accepted := s.accepted, fw := s.fw, power := s.power, dramBytes := s.dramBytes,
      pace := s.pace, units := s.units, reports := s.reports, fault := s.fault, laneTest := s.laneTest, tap := s.tap, free := s.free })) ∧
  (∀ (x0 : Fin 8192) (x1 : Fin 64) (x2 : Fin 1023), ∀ i ∈ [Instr.rangeRetryExpiry x0, .onuIdHoldExpiry x1 x2, .rogueHoldoffExpiry x1], ChangesOnly i
    (fun s t => { s with
      chans := t.chans })) ∧
  (∀ (x0 : Fin 8192) (x1 : Fin 64) (x2 : Bool), ∀ i ∈ [Instr.driftSettleExpiry x0, .rogueProbeResult x1 x2, .rogueBisectionStep x1], ChangesOnly i
    (fun s t => { answered s t with
      ev.transit := t.ev.transit, lanes.optics := t.lanes.optics, terms := t.terms, chans := t.chans, prot.streams := t.prot.streams,
      prot.txCounters := t.prot.txCounters })) ∧
  (∀ (x0 : Fin 8192) (x1 : UsBurst), ChangesOnly (.upstreamBurst x0 x1) (fun s t => { answered s t with
      par.ro := t.par.ro, par.vals := t.par.vals, ev.rate := t.ev.rate, ev.transit := t.ev.transit, lanes.optics := t.lanes.optics, terms := t.terms,
      chans := t.chans, pon.line := t.pon.line, cipher.regions := t.cipher.regions, prot.commission := t.prot.commission,
      prot.streams := t.prot.streams, prot.txCounters := t.prot.txCounters })) ∧
  (∀ (x0 : Fin 8192) (x1 : List Candidate), ChangesOnly (.delimiterMiss x0 x1) (fun s t => { t with
      pending := s.pending, time := s.time, clk := s.clk, accepted := s.accepted, fw := s.fw, power := s.power, dramBytes := s.dramBytes,
      pace := s.pace, units := s.units, reports := s.reports, fault := s.fault, fwd := s.fwd, laneTest := s.laneTest, tap := s.tap,
      free := s.free })) ∧
  (∀ (x0 : Fin 8192) (x1 x3 : Nat) (x2 : List Byte), ChangesOnly (.fecCodeword x0 x1 x2 x3) (fun s t => { s with
      par.ro := t.par.ro, pace.spoiled := t.pace.spoiled, pon.line := t.pon.line })) ∧
  (∀ (x0 : Fin 8192) (x1 : List Nat) (x2 : Nat) (x3 : Option Nat), ChangesOnly (.ploamuMessage x0 x1 x2 x3) (fun s t => { s with
      ev.rate := t.ev.rate, ev.transit := t.ev.transit, terms := t.terms, chans := t.chans, pon.line := t.pon.line,
      cipher.generators := t.cipher.generators, cipher.pairs := t.cipher.pairs, cipher.slots := t.cipher.slots, prot.streams := t.prot.streams,
      prot.txCounters := t.prot.txCounters, prot.wrap15 := t.prot.wrap15, outbox := t.outbox })) ∧
  (∀ (x0 : Fin 8192) (x1 : Fin 32768) (x2 x4 : Nat) (x3 : Bool), ChangesOnly (.burstReport x0 x1 x2 x3 x4) (fun s t => { s with
      par.ro := t.par.ro, dba.transit := t.dba.transit })) ∧
  (ChangesOnly .reportArrival (fun s t => { s with dba.allocs := t.dba.allocs, dba.transit := t.dba.transit })) ∧
  (∀ (x0 : Fin 8192) (x1 : UsGem), ChangesOnly (.xgemFrame x0 x1) (fun s t => { s with
      par.ro := t.par.ro, host.omciBad := t.host.omciBad, host.staged := t.host.staged, ev.rate := t.ev.rate, ev.transit := t.ev.transit,
      pon.line := t.pon.line, pon.reasm := t.pon.reasm, pon.released := t.pon.released, cipher.generators := t.cipher.generators,
      cipher.regions := t.cipher.regions })) ∧
  (ChangesOnly .reasmTimeoutExpiry (fun s t => { s with par.ro := t.par.ro, pon.reasm := t.pon.reasm })) ∧
  (∀ (x0 : Fin 8192) (x1 : Bool), ChangesOnly (.berWindowClose x0 x1) (fun s t => { s with
      par.ro := t.par.ro, ev.transit := t.ev.transit, pon.line := t.pon.line })) ∧
  (ChangesOnly .reportCutoff (fun s t => { s with
      par.ro := t.par.ro, ev.rate := t.ev.rate, ev.transit := t.ev.transit, terms := t.terms, chans := t.chans, dba.allocs := t.dba.allocs,
      dba.capacity := t.dba.capacity, dba.lastRun := t.dba.lastRun, dba.latchedFrozen := t.dba.latchedFrozen, dba.preannDrops := t.dba.preannDrops,
      dba.preanns := t.dba.preanns, prot.streams := t.prot.streams, prot.txCounters := t.prot.txCounters, outbox := t.outbox })) ∧
  (∀ (x0 : Fin 64), ChangesOnly (.solverOutputPosted x0) (fun s t => { s with
      par.ro := t.par.ro, ev.rate := t.ev.rate, ev.transit := t.ev.transit, chans := t.chans })) ∧
  (∀ (x0 : Fin 64) (x1 : List (Nat × Byte)), ChangesOnly (.mapDelivery x0 x1) (fun s t => { s with
      par.ro := t.par.ro, chans := t.chans, pon.line := t.pon.line, cipher.generators := t.cipher.generators, cipher.regions := t.cipher.regions })) ∧
  (ChangesOnly .framingDeadline (fun s t => { s with
      par.ro := t.par.ro, ev.transit := t.ev.transit, chans := t.chans, dba.allocs := t.dba.allocs, dba.clamps := t.dba.clamps,
      prot.streams := t.prot.streams, prot.tokens := t.prot.tokens, prot.txCounters := t.prot.txCounters, outbox := t.outbox }))

/-- Frames of the rows of classification, tables, queues, buffers, ciphers, uplinks, tether and protection: what each may change; every other part
of the state, the queue among it, stays. -/
def Obligations.ForwardingFrames : Prop :=
  (∀ (x0 : Fin 4), ChangesOnly (.criticalMessage x0) (fun s t => { s with fwd.moverCritical := t.fwd.moverCritical, fwd.poolMsgs := t.fwd.poolMsgs })) ∧
  (∀ (x0 : Fin 32) (x1 : Frame) (x2 x3 : Bool) (x4 : Option SecTag), ChangesOnly (.uplinkFrameRx x0 x1 x2 x3 x4) (fun s t => { s with
      par.ro := t.par.ro, ev.rate := t.ev.rate, ev.transit := t.ev.transit, pace.spoiled := t.pace.spoiled, cipher.cutThrough := t.cipher.cutThrough,
      cipher.generators := t.cipher.generators, cipher.regions := t.cipher.regions, fwd.macs := t.fwd.macs, fwd.sas := t.fwd.sas,
      fwd.toParse := t.fwd.toParse })) ∧
  (∀ (x0 : Fin 2) (x1 : Parity), ∀ i ∈ [Instr.parsePass x0 x1, .recircPass x0 x1], ChangesOnly i (fun s t => { s with
      par.ro := t.par.ro, host.staged := t.host.staged, ev.rate := t.ev.rate, ev.transit := t.ev.transit, reports := t.reports,
      fault.parity := t.fault.parity, fwd := t.fwd })) ∧
  (∀ (x0 : Fin 8) (x1 : Bool) (x2 : Parity), ChangesOnly (.upstreamSduParse x0 x1 x2) (fun s t => { s with
      par.ro := t.par.ro, host.staged := t.host.staged, ev.rate := t.ev.rate, ev.transit := t.ev.transit, reports := t.reports,
      fault.parity := t.fault.parity, pon.released := t.pon.released, fwd := t.fwd })) ∧
  (ChangesOnly .rulesetDrained (fun s t => { s with ev.transit := t.ev.transit, fwd.rules := t.fwd.rules })) ∧
  (∀ (x0 : Parity), ChangesOnly (.learnMessageApply x0) (fun s t => { answered s t with
      par.ro := t.par.ro, ev.rate := t.ev.rate, ev.transit := t.ev.transit, reports := t.reports, fault.parity := t.fault.parity,
      prot.txCounters := t.prot.txCounters, fwd.serial := t.fwd.serial, fwd.tables := t.fwd.tables, free := t.free })) ∧
  (ChangesOnly .macFlushApply (fun s t => { answered s t with
      par.ro := t.par.ro, ev.rate := t.ev.rate, ev.transit := t.ev.transit, prot.txCounters := t.prot.txCounters, fwd.serial := t.fwd.serial,
      fwd.tables := t.fwd.tables, free := t.free })) ∧
  (∀ (x0 : Fin 2), ChangesOnly (.agingPassStart x0) (fun s t => { s with fwd.tables := t.fwd.tables })) ∧
  (∀ (x0 : Fin 2) (x1 : Bool) (x2 : Nat), ChangesOnly (.agingScan x0 x1 x2) (fun s t => { s with
      par.ro := t.par.ro, ev.transit := t.ev.transit, fwd.tables := t.fwd.tables })) ∧
  (ChangesOnly .moveWindowSweep (fun s t => { s with ev.transit := t.ev.transit, fwd.tables := t.fwd.tables })) ∧
  (ChangesOnly .enqueue (fun s t => { s with
      par.ro := t.par.ro, host.staged := t.host.staged, ev.rate := t.ev.rate, ev.transit := t.ev.transit, prot.queues := t.prot.queues,
      fwd.downQ := t.fwd.downQ, fwd.jobs := t.fwd.jobs, fwd.ops := t.fwd.ops, fwd.upQ := t.fwd.upQ })) ∧
  (∀ (x0 : Fin 104), ChangesOnly (.schedHandover x0) (fun s t => { answered s t with
      par.ro := t.par.ro, ev.rate := t.ev.rate, ev.transit := t.ev.transit, chans := t.chans, cipher.generators := t.cipher.generators,
      cipher.regions := t.cipher.regions, prot.drr := t.prot.drr, prot.queues := t.prot.queues, prot.turn := t.prot.turn,
      prot.txCounters := t.prot.txCounters, fwd := t.fwd })) ∧
  (∀ (x0 : Fin 96), ∀ i ∈ [Instr.gateIntervalStart x0, .gateListSwitch x0], ChangesOnly i (fun s t => { answered s t with
      par.ro := t.par.ro, ev.rate := t.ev.rate, ev.transit := t.ev.transit, fwd.downQ := t.fwd.downQ, fwd.gates := t.fwd.gates, fwd.ops := t.fwd.ops,
      fwd.upQ := t.fwd.upQ })) ∧
  (∀ (x0 : Fin 81920), ChangesOnly (.queueSample x0) (fun s t => { s with fwd.hists := t.fwd.hists })) ∧
  (∀ (x0 : Fin 256), ChangesOnly (.watchSample x0) (fun s t => { s with
      ev.rate := t.ev.rate, ev.telStaged := t.ev.telStaged, ev.transit := t.ev.transit, fwd.hists := t.fwd.hists })) ∧
  (∀ (x0 : Fin 81920), ∀ i ∈ [Instr.queueDrained x0, .queueDrainTimeout x0], ChangesOnly i answered) ∧
  (∀ (x0 : Fin 16) (x1 : Nat) (x2 : Option (Fin 16)), ChangesOnly (.bufferAlloc x0 x1 x2) (fun s t => { answered s t with
      par.ro := t.par.ro, host.omciLost := t.host.omciLost, host.staged := t.host.staged, ev.loss := t.ev.loss,
      ev.lostSinceBatch := t.ev.lostSinceBatch, ev.rate := t.ev.rate, ev.telUnexported := t.ev.telUnexported, ev.transit := t.ev.transit,
      fwd := t.fwd })) ∧
  (∀ (x0 : Fin 16) (x1 : Fin 262144) (x2 : Fin 64), ChangesOnly (.bufferTake x0 x1 x2) (fun s t => { s with
      par.ro := t.par.ro, ev.rate := t.ev.rate, ev.transit := t.ev.transit, fwd.bufs := t.fwd.bufs, fwd.faultLog := t.fwd.faultLog,
      fwd.faultOverrun := t.fwd.faultOverrun, fwd.ops := t.fwd.ops, fwd.recirc := t.fwd.recirc, fwd.rules := t.fwd.rules })) ∧
  (∀ (x0 x1 : Fin 16) (x2 : Bool) (x3 : Fin 262144) (x4 : Fin 64), ChangesOnly (.bufferHandover x0 x1 x2 x3 x4) (fun s t => { s with
      par.ro := t.par.ro, ev.rate := t.ev.rate, ev.transit := t.ev.transit, fwd.bufs := t.fwd.bufs, fwd.faultLog := t.fwd.faultLog,
      fwd.faultOverrun := t.fwd.faultOverrun, fwd.ops := t.fwd.ops })) ∧
  (∀ (x0 : Fin 16) (x1 : Bool) (x2 : Fin 262144) (x3 : Fin 64), ChangesOnly (.bufferFree x0 x1 x2 x3) (fun s t => { s with
      par.ro := t.par.ro, ev.rate := t.ev.rate, ev.transit := t.ev.transit, fwd.bufs := t.fwd.bufs, fwd.faultLog := t.fwd.faultLog,
      fwd.faultOverrun := t.fwd.faultOverrun, fwd.ops := t.fwd.ops, fwd.poolMsgs := t.fwd.poolMsgs, fwd.pools := t.fwd.pools })) ∧
  (∀ (x0 : Fin 81920), ChangesOnly (.glacierSpill x0) (fun s t => { s with
      par.ro := t.par.ro, ev.rate := t.ev.rate, ev.transit := t.ev.transit, fwd.downQ := t.fwd.downQ, fwd.ops := t.fwd.ops, fwd.upQ := t.fwd.upQ })) ∧
  (∀ (x0 : Fin 81920), ChangesOnly (.glacierSpillAck x0) (fun s t => { s with fwd.downQ := t.fwd.downQ, fwd.ops := t.fwd.ops, fwd.upQ := t.fwd.upQ })) ∧
  (∀ (x0 : Fin 81920) (x1 : Bool), ChangesOnly (.glacierReturn x0 x1) (fun s t => { answered s t with
      par.ro := t.par.ro, fwd.downQ := t.fwd.downQ, fwd.upQ := t.fwd.upQ, fwd.wants := t.fwd.wants })) ∧
  (∀ (x0 : Fin 8) (x1 : List DramArg) (x2 : Fin 3), ChangesOnly (.dramRequest x0 x1 x2) (fun s t => { s with
      par.ro := t.par.ro, ev.transit := t.ev.transit, power.selfRefresh := t.power.selfRefresh, fwd.dram := t.fwd.dram })) ∧
  (∀ (x0 : Fin 8), ∀ i ∈ [Instr.dramRefresh x0, .dramRetrainCheck x0], ChangesOnly i (fun s t => { s with fwd.dram := t.fwd.dram })) ∧
  (∀ (x0 : Fin 8), ChangesOnly (.dramRetrainForced x0) (fun s t => { s with ev.transit := t.ev.transit, fwd.dram := t.fwd.dram })) ∧
  (∀ (x0 : Fin 13) (x1 x2 x3 : Nat) (x4 : Option (Fin 16)), ChangesOnly (.cipherPairResult x0 x1 x2 x3 x4) (fun s t => { answered s t with
      par.ro := t.par.ro, ev.rate := t.ev.rate, ev.transit := t.ev.transit, reports := t.reports, cipher.barred := t.cipher.barred,
      cipher.generators := t.cipher.generators, cipher.odd := t.cipher.odd, cipher.regions := t.cipher.regions })) ∧
  (∀ (x0 : Fin 3328) (x1 : Bool), ChangesOnly (.rngReseed x0 x1) (fun s t => { s with
      ev.transit := t.ev.transit, cipher.generators := t.cipher.generators, free := t.free })) ∧
  (∀ (x0 : BitVec 8), ChangesOnly (.entropyFail x0) (fun s t => { s with ev.transit := t.ev.transit, cipher.entropyBad := t.cipher.entropyBad })) ∧
  (∀ (x0 : Fin 3328), ChangesOnly (.generatorStop x0) (fun s t => { s with
      pace.capSent := t.pace.capSent, pace.capSeq := t.pace.capSeq, cipher.generators := t.cipher.generators })) ∧
  (∀ (x0 : Fin 18640), ChangesOnly (.keyGenerationDrained x0) (fun s t => { answered s t with
      prot.streams := t.prot.streams, prot.txCounters := t.prot.txCounters })) ∧
  (∀ (x0 : Fin 8192), ∀ i ∈ [Instr.keyExchangeStart x0, .keyExchTimeout x0], ChangesOnly i (fun s t => { s with
      ev.transit := t.ev.transit, terms := t.terms, chans := t.chans })) ∧
  (∀ (x0 : Nat) (x1 : Bool), ChangesOnly (.macsecVerdict x0 x1) (fun s t => { answered s t with
      par.ro := t.par.ro, ev.rate := t.ev.rate, ev.transit := t.ev.transit, chans := t.chans, cipher.cutThrough := t.cipher.cutThrough,
      fwd := t.fwd })) ∧
  (∀ (x0 : Fin 32), ChangesOnly (.uplinkLinkUp x0) (fun s t => { s with ev.transit := t.ev.transit, fwd.macs := t.fwd.macs, outbox := t.outbox })) ∧
  (∀ (x0 : Fin 32) (x1 : Bool), ∀ i ∈ [Instr.uplinkAlignmentLoss x0, .uplinkFaultSequence x0, .uplinkTrainingFail x0 x1], ChangesOnly i (fun s t => {
    s with
      ev.transit := t.ev.transit, fwd.macs := t.fwd.macs })) ∧
  (∀ (x0 : Fin 32) (x1 : Bool) (x2 : Nat) (x3 : List (Fin 8 × Nat)) (x4 : Fin 8), ∀ i ∈ [Instr.pauseFrameRx x0 x1 x2 x3, .pauseQuantaExpiry x0 x4],
    ChangesOnly i (fun s t => { s with
      fwd.macs := t.fwd.macs })) ∧
  (∀ (x0 : Fin 32), ChangesOnly (.pfcRefresh x0) (fun s t => { s with fwd.macs := t.fwd.macs, outbox := t.outbox })) ∧
  (∀ (x0 : Fin 34) (x1 : BitVec 2048) (x2 : Nat), ChangesOnly (.tetherLaneFrame x0 x1 x2) (fun s t => { s with
      ev.transit := t.ev.transit, prot := t.prot, outbox := t.outbox })) ∧
  (∀ (x0 : Fin 2) (x1 : Fin 4) (x2 : Nat) (x3 : TetherRx), ChangesOnly (.tetherFrameRx x0 x1 x2 x3) (fun s t => { s with
      par.ro := t.par.ro, ev.rate := t.ev.rate, ev.transit := t.ev.transit, pace.spoiled := t.pace.spoiled, cipher.generators := t.cipher.generators,
      cipher.regions := t.cipher.regions, prot.mirrorIn := t.prot.mirrorIn, prot.rxCounters := t.prot.rxCounters, prot.skipped := t.prot.skipped,
      fwd.serial := t.fwd.serial, fwd.wants := t.fwd.wants })) ∧
  (ChangesOnly .multiframeStart (fun s t => { answered s t with cipher.generators := t.cipher.generators, prot := t.prot })) ∧
  (∀ (x0 : Fin 2) (x1 : Bool) (x2 : PairMsg) (x3 x4 x5 : Nat), ChangesOnly (.pairMessageRx x0 x1 x2 x3 x4 x5) (fun s t => { t with
      pending := s.pending, time := s.time, clk := s.clk, accepted := s.accepted, fw := s.fw, dramBytes := s.dramBytes, pace := s.pace,
      units := s.units, reports := s.reports, fault := s.fault, laneTest := s.laneTest, tap := s.tap, free := s.free })) ∧
  (ChangesOnly .tetherKeyTimeout (fun s t => { answered s t with ev.transit := t.ev.transit, prot.keySlot := t.prot.keySlot })) ∧
  (∀ (x0 : Fin 4) (x1 : Byte), ChangesOnly (.smpByteIn x0 x1) (fun s t => { s with ev.transit := t.ev.transit, prot.smp := t.prot.smp })) ∧
  (∀ (x0 : Fin 2) (x1 : Bool), ∀ i ∈ [Instr.tetherIdleExpiry x0 x1, .tetherClockLoss x0], ChangesOnly i (fun s t => { s with
      ev.transit := t.ev.transit, prot := t.prot })) ∧
  (∀ (x0 : Fin 2) (x1 : Bool), ChangesOnly (.tetherWake x0 x1) (fun s t => { s with prot.sleeping := t.prot.sleeping })) ∧
  (ChangesOnly .mirrorRecordRx (fun s t => { s with
      par.inForce := t.par.inForce, par.vals := t.par.vals, ev.transit := t.ev.transit, lanes.bmem := t.lanes.bmem, terms := t.terms,
      chans := t.chans, pon.gems := t.pon.gems, pon.tl := t.pon.tl, dba.allocs := t.dba.allocs, cipher.generators := t.cipher.generators,
      cipher.pairs := t.cipher.pairs, cipher.slots := t.cipher.slots, prot.mirrorIn := t.prot.mirrorIn, prot.streams := t.prot.streams })) ∧
  (ChangesOnly .checkpointEmit (fun s t => { s with prot.streams := t.prot.streams, prot.txCounters := t.prot.txCounters, outbox := t.outbox })) ∧
  (∀ (x0 : Fin 33), ChangesOnly (.checkpointAbsent x0) (fun s t => { s with ev.transit := t.ev.transit, prot.streams := t.prot.streams })) ∧
  (ChangesOnly .heartbeatToggle (fun s t => { s with prot.hbLevel := t.prot.hbLevel, outbox := t.outbox })) ∧
  (ChangesOnly .heartbeatRefresh (fun s t => { s with prot.fenced := t.prot.fenced, prot.hbRefreshed := t.prot.hbRefreshed })) ∧
  (ChangesOnly .protSelfFence (fun s t => { s with ev.transit := t.ev.transit, prot.fenced := t.prot.fenced, prot.tokens := t.prot.tokens })) ∧
  (ChangesOnly .pairHbInEdge (fun s t => { s with
      ev.transit := t.ev.transit, prot.hbEdgeAt := t.prot.hbEdgeAt, prot.pairLost := t.prot.pairLost, prot.silent := t.prot.silent,
      prot.streams := t.prot.streams })) ∧
  (ChangesOnly .peerSilent (fun s t => { t with
      pending := s.pending, time := s.time, clk := s.clk, accepted := s.accepted, fw := s.fw, dramBytes := s.dramBytes, pace := s.pace,
      units := s.units, reports := s.reports, fault := s.fault, laneTest := s.laneTest, tap := s.tap, free := s.free })) ∧
  (∀ (x0 : Fin 32), ChangesOnly (.switchTakenTimeout x0) (fun s t => { answered s t with ev.transit := t.ev.transit, prot.tokens := t.prot.tokens })) ∧
  (∀ (x0 : ShaperRef), ChangesOnly (.shaperConforms x0) (fun s t => { s with
      fwd.chanNodes := t.fwd.chanNodes, fwd.downQ := t.fwd.downQ, fwd.macNodes := t.fwd.macNodes, fwd.termNodes := t.fwd.termNodes,
      fwd.upQ := t.fwd.upQ })) ∧
  (ChangesOnly .entropyRecovered (fun s t => { s with cipher.entropyBad := t.cipher.entropyBad })) ∧
  (∀ (x0 : Fin 32), ChangesOnly (.commissionTimeout x0) (fun s t => { answered s t with
      par.vals := t.par.vals, ev.transit := t.ev.transit, prot.commission := t.prot.commission, prot.streams := t.prot.streams,
      prot.txCounters := t.prot.txCounters }))

/-- Frames of the rows of the host port, mailboxes, roles, faults, events, power and lane tests: what each may change; every other part of the state,
the queue among it, stays. -/
def Obligations.DeviceFrames : Prop :=
  (ChangesOnly .functionLevelReset (fun s t => { s with
      mb := t.mb, roles.audit := t.roles.audit, roles.roles := t.roles.roles, host.channels := t.host.channels, host.flrCount := t.host.flrCount,
      ev.transit := t.ev.transit, cipher.slots := t.cipher.slots })) ∧
  (∀ (x0 : Bool), ChangesOnly (.pciePerst x0) (fun s t => { s with host := t.host })) ∧
  (∀ (x0 x1 : Nat) (x2 : Word) (x3 : Bool), ChangesOnly (.registerWrite x0 x1 x2 x3) (fun s t => { s with
      mb := t.mb, par.ro := t.par.ro, host.bar2Base := t.host.bar2Base, host.channels := t.host.channels, host.msix := t.host.msix,
      host.pba := t.host.pba, ev.rate := t.ev.rate, ev.telUnexported := t.ev.telUnexported, ev.transit := t.ev.transit, ev.vectors := t.ev.vectors,
      chans := t.chans, prot.queues := t.prot.queues, fwd.bufs := t.fwd.bufs, fwd.downQ := t.fwd.downQ, fwd.ops := t.fwd.ops,
      fwd.poolMsgs := t.fwd.poolMsgs, fwd.pools := t.fwd.pools, fwd.upQ := t.fwd.upQ, outbox := t.outbox, free := t.free })) ∧
  (ChangesOnly .deviceTimeLoRead (fun s t => { s with host.timeHiLatch := t.host.timeHiLatch, outbox := t.outbox })) ∧
  (ChangesOnly .hostFlrCountRead (fun s t => { s with host.flrCount := t.host.flrCount, outbox := t.outbox })) ∧
  (∀ (x0 : Fin 64) (x1 : List Byte), ∀ i ∈ [Instr.doneCountRead x0, .dmaBurst x0 x1], ChangesOnly i (fun s t => { s with
      host.channels := t.host.channels, outbox := t.outbox })) ∧
  (∀ (x0 : Fin 16), ChangesOnly (.mbCountRead x0) (fun s t => { s with mb := t.mb, outbox := t.outbox })) ∧
  (∀ (x0 : Bool) (x1 : Fin 67108864), ChangesOnly (.bar2Access x0 x1) (fun s t => { s with par.ro := t.par.ro, outbox := t.outbox })) ∧
  (∀ (x0 : Fin 64) (x1 : BitVec 16) (x2 : Bool), ∀ i ∈ [Instr.chEnableSet x0, .chEnableClear x0, .chResume x0, .ringTailWrite x0 x1, .shadowCommit x0
    x2, .dmaTriggerTimer x0], ChangesOnly i (fun s t => { s with
      host.channels := t.host.channels })) ∧
  (∀ (x0 : Fin 64), ∀ i ∈ [Instr.chAbort x0, .dmaDescriptorComplete x0], ChangesOnly i (fun s t => { s with
      par.ro := t.par.ro, host.channels := t.host.channels, host.pba := t.host.pba, ev.rate := t.ev.rate, ev.telUnexported := t.ev.telUnexported,
      ev.transit := t.ev.transit, ev.vectors := t.ev.vectors, chans := t.chans, prot.queues := t.prot.queues, fwd.bufs := t.fwd.bufs,
      fwd.downQ := t.fwd.downQ, fwd.ops := t.fwd.ops, fwd.poolMsgs := t.fwd.poolMsgs, fwd.pools := t.fwd.pools, fwd.upQ := t.fwd.upQ,
      outbox := t.outbox, free := t.free })) ∧
  (∀ (x0 : Fin 5), ChangesOnly (.dmaMessageEnqueue x0) (fun s t => { s with
      par.ro := t.par.ro, host.channels := t.host.channels, host.lastOf := t.host.lastOf, host.omciLost := t.host.omciLost, host.pba := t.host.pba,
      host.staged := t.host.staged, ev := t.ev, fwd.ops := t.fwd.ops, outbox := t.outbox })) ∧
  (∀ (x0 : Fin 64) (x1 x2 : List Word), ∀ i ∈ [Instr.dmaDescriptorTake x0 x1 x2, .dmaOwnReread x0 x1 x2], ChangesOnly i (fun s t => { s with
      host.channels := t.host.channels, ev.transit := t.ev.transit, fwd.ops := t.fwd.ops, outbox := t.outbox })) ∧
  (∀ (x0 : Fin 64), ChangesOnly (.dmaCoalesceTimeout x0) (fun s t => { s with
      host.channels := t.host.channels, host.pba := t.host.pba, outbox := t.outbox })) ∧
  (∀ (x0 : Fin 64) (x1 : Bool), ChangesOnly (.dmaBusError x0 x1) (fun s t => { s with
      par.ro := t.par.ro, host.channels := t.host.channels, ev.transit := t.ev.transit, fwd.ops := t.fwd.ops, outbox := t.outbox })) ∧
  (∀ (x0 : Fin 16), ChangesOnly (.mbDoorbell x0) (fun s t => { s with mb := t.mb, par.ro := t.par.ro })) ∧
  (∀ (x0 : Fin 16) (x1 : List Obj), ChangesOnly (.mailboxAccept x0 x1) (fun s t => { answered s t with
      accepted := t.accepted, par.ro := t.par.ro, roles.roles := t.roles.roles, ev.rate := t.ev.rate, ev.transit := t.ev.transit })) ∧
  (∀ (x0 : Fin 16), ChangesOnly (.respReadyClear x0) (fun s t => { s with mb := t.mb })) ∧
  (ChangesOnly .controlPairTakeover (fun s t => { answered s t with fw := t.fw, ev.transit := t.ev.transit })) ∧
  (ChangesOnly .fwRebuildTimeout (fun s t => { answered s t with
      fw.progress := t.fw.progress, fw.standbyOnRunning := t.fw.standbyOnRunning, fw.stateA := t.fw.stateA, fw.stateB := t.fw.stateB,
      ev.transit := t.ev.transit })) ∧
  (∀ (x0 : Bool), ChangesOnly (.fwStandbyLoadDone x0) (fun s t => { s with
      fw.progress := t.fw.progress, fw.standbyOnRunning := t.fw.standbyOnRunning, fw.stateA := t.fw.stateA, fw.stateB := t.fw.stateB,
      fw.testA := t.fw.testA, fw.testB := t.fw.testB, ev.transit := t.ev.transit, fault.lockFailA := t.fault.lockFailA,
      fault.lockFailB := t.fault.lockFailB, fault.log := t.fault.log })) ∧
  (∀ (x0 : Fin 4), ChangesOnly (.sessionIdleExpiry x0) (fun s t => { s with
      roles.audit := t.roles.audit, roles.roles := t.roles.roles, cipher.slots := t.cipher.slots })) ∧
  (∀ (x0 : Fin 4), ChangesOnly (.authLockoutExpiry x0) (fun s t => { s with roles.roles := t.roles.roles })) ∧
  (∀ (x0 : Bool), ChangesOnly (.makerEnChange x0) (fun s t => { s with
      roles.audit := t.roles.audit, roles.makerEn := t.roles.makerEn, roles.roles := t.roles.roles, ev.transit := t.ev.transit,
      cipher.slots := t.cipher.slots })) ∧
  (ChangesOnly .auditSummary (fun s t => { s with roles.audit := t.roles.audit })) ∧
  (∀ (x0 : Bool), ∀ i ∈ [Instr.auditPersist x0, .auditPersistRetry x0], ChangesOnly i (fun s t => { answered s t with ev.transit := t.ev.transit })) ∧
  (ChangesOnly .faultReport (fun s t => { t with
      pending := s.pending, time := s.time, clk := s.clk, accepted := s.accepted, fw := s.fw, power := s.power, dramBytes := s.dramBytes,
      terms := s.terms, dba := s.dba, laneTest := s.laneTest, tap := s.tap, free := s.free })) ∧
  (∀ (x0 : Fin 3328) (x1 : BitVec 16), ChangesOnly (.handshakeStall x0 x1) (fun s t => { s with reports := t.reports })) ∧
  (∀ (x0 : Fin 3328) (x1 : BitVec 16), ChangesOnly (.sramUe x0 x1) (fun s t => { s with ev.transit := t.ev.transit, reports := t.reports })) ∧
  (∀ (x0 : Fin 3328) (x1 : BitVec 16) (x2 : Bool) (x3 : Word), ∀ i ∈ [Instr.sramCorrection x0 x1, .scrubRead x0 x1 x2, .recoveryTimeout x3],
    ChangesOnly i (fun s t => { t with
      pending := s.pending, time := s.time, clk := s.clk, accepted := s.accepted, fw := s.fw, power := s.power, dramBytes := s.dramBytes,
      reports := s.reports, terms := s.terms, dba := s.dba, laneTest := s.laneTest, tap := s.tap, free := s.free })) ∧
  (∀ (x0 : Fin 3328) (x1 : BitVec 16), ChangesOnly (.cellRepairDone x0 x1) (fun s t => { t with
      pending := s.pending, time := s.time, clk := s.clk, accepted := s.accepted, fw := s.fw, power := s.power, dramBytes := s.dramBytes,
      reports := s.reports, terms := s.terms, dba := s.dba, laneTest := s.laneTest, tap := s.tap, free := s.free })) ∧
  (∀ (x0 : Fin 13), ChangesOnly (.blockReplacementDone x0) (fun s t => { t with
      pending := s.pending, time := s.time, clk := s.clk, accepted := s.accepted, fw := s.fw, power := s.power, dramBytes := s.dramBytes,
      reports := s.reports, terms := s.terms, dba := s.dba, laneTest := s.laneTest, tap := s.tap, free := s.free })) ∧
  (∀ (x0 : Bool), ChangesOnly (.regionRestartDone x0) (fun s t => { t with
      pending := s.pending, time := s.time, clk := s.clk, accepted := s.accepted, fw := s.fw, power := s.power, dramBytes := s.dramBytes,
      reports := s.reports, terms := s.terms, laneTest := s.laneTest, tap := s.tap, free := s.free })) ∧
  (∀ (x0 : Bool), ChangesOnly (.lockstepMismatch x0) (fun s t => { s with
      fw.hold := t.fw.hold, fw.pairB := t.fw.pairB, fw.stateA := t.fw.stateA, fw.stateB := t.fw.stateB, fw.testA := t.fw.testA,
      fw.testB := t.fw.testB, ev.transit := t.ev.transit, fault.lockFailA := t.fault.lockFailA, fault.lockFailB := t.fault.lockFailB,
      fault.log := t.fault.log })) ∧
  (∀ (x0 x1 : Bool), ChangesOnly (.controlPairSelfTestDone x0 x1) (fun s t => { s with
      fw.stateA := t.fw.stateA, fw.stateB := t.fw.stateB, fw.testA := t.fw.testA, fw.testB := t.fw.testB, ev.transit := t.ev.transit,
      fault.log := t.fault.log })) ∧
  (∀ (x0 : Fin 3328), ChangesOnly (.unitSlow x0) (fun s t => { s with ev.transit := t.ev.transit, units := t.units, reports := t.reports })) ∧
  (∀ (x0 : Word), ChangesOnly (.unitGhost x0) (fun s t => { s with par.ro := t.par.ro, ev.rate := t.ev.rate, ev.transit := t.ev.transit })) ∧
  (∀ (x0 : Word) (x1 : Bool), ChangesOnly (.spareSelfTest x0 x1) (fun s t => { s with
      ev.transit := t.ev.transit, units := t.units, fault.log := t.fault.log, fault.spareUsed := t.fault.spareUsed })) ∧
  (ChangesOnly .maintenanceWindowStart (fun s t => { t with
      pending := s.pending, time := s.time, clk := s.clk, accepted := s.accepted, fw := s.fw, power := s.power, dramBytes := s.dramBytes,
      reports := s.reports, terms := s.terms, dba := s.dba, laneTest := s.laneTest, tap := s.tap, free := s.free })) ∧
  (∀ (x0 : Word) (x1 : Bool), ChangesOnly (.readmissionTestDone x0 x1) (fun s t => { s with
      roles.audit := t.roles.audit, ev.transit := t.ev.transit, units := t.units, fault.log := t.fault.log, fault.spareUsed := t.fault.spareUsed })) ∧
  (∀ (x0 : Fin 1624), ChangesOnly (.eventArrival x0) (fun s t => { s with
      par.ro := t.par.ro, host.pba := t.host.pba, host.staged := t.host.staged, ev := t.ev, outbox := t.outbox })) ∧
  (ChangesOnly .eventShedPeriod (fun s t => { s with ev.burst := t.ev.burst })) ∧
  (ChangesOnly .eventBatchTimeout (fun s t => { s with
      host.staged := t.host.staged, ev.batch := t.ev.batch, ev.lostSinceBatch := t.ev.lostSinceBatch })) ∧
  (∀ (x0 : Fin 64), ChangesOnly (.eventIrqHoldoffExpiry x0) (fun s t => { s with
      host.pba := t.host.pba, ev.vectors := t.ev.vectors, outbox := t.outbox })) ∧
  (ChangesOnly .telemetryRecord (fun s t => { s with par.ro := t.par.ro, host.staged := t.host.staged, ev := t.ev })) ∧
  (ChangesOnly .telemetryPeriodExpiry (fun s t => { s with ev.telStaged := t.ev.telStaged })) ∧
  (ChangesOnly .telemetryFlushExpiry (fun s t => { s with host.staged := t.host.staged, ev.telOpen := t.ev.telOpen })) ∧
  (∀ (x0 : Bool) (x1 : List Int), ∀ i ∈ [Instr.resetAssert x0, .resetRelease, .tempSample x1], ChangesOnly i (fun s t => { t with
      pending := s.pending, tap := s.tap, outbox := s.outbox, free := s.free })) ∧
  (∀ (x0 : BootStep), ChangesOnly (.bringupStepDone x0) (fun s t => { t with
      pending := s.pending, time := s.time, clk := s.clk, accepted := s.accepted, reports := s.reports, terms := s.terms, dba := s.dba,
      laneTest := s.laneTest, tap := s.tap, free := s.free })) ∧
  (∀ (x0 : Fin 64), ∀ i ∈ [Instr.darkIdleExpiry x0, .darkChannelExit x0], ChangesOnly i (fun s t => { s with power.darkDue := t.power.darkDue })) ∧
  (∀ (x0 : Fin 8), ChangesOnly (.dramSrIdleExpiry x0) (fun s t => { s with power.selfRefresh := t.power.selfRefresh })) ∧
  (∀ (x0 : Fin 3) (x1 : Fin 128), ChangesOnly (.errorInjection x0 x1) (fun s t => { s with laneTest := t.laneTest, outbox := t.outbox })) ∧
  (ChangesOnly .tapReset (fun s t => { s with tap.ir := t.tap.ir })) ∧
  (∀ i ∈ [Instr.extest, .idcode, .clamp, .highz, .extestPulse, .extestTrain, .bypass], ChangesOnly i (fun s t => { s with
      tap.ir := t.tap.ir, outbox := t.outbox })) ∧
  (∀ (x0 x1 : Nat), ChangesOnly (.samplePreload x0 x1) (fun s t => { s with tap := t.tap, outbox := t.outbox })) ∧
  (ChangesOnly .maintenanceWindowEnd (fun s t => { s with units := t.units, fault.window := t.fault.window })) ∧
  (∀ (x0 : Fin 3) (x1 : Fin 128) (x2 x3 : Nat), ∀ i ∈ [Instr.prbsLock x0 x1, .prbsLockLoss x0 x1 x2 x3], ChangesOnly i (fun s t => { s with
      laneTest := t.laneTest }))

/-- Frames of the host commands, whatever they answer: what each may change beside its answer; every other part of the state, the queue among it,
stays. No row but those that load, erase, restore or lose keys changes a slot but those of sessions. -/
def Obligations.CommandFrames : Prop :=
  (∀ (x0 : Fin 16) (x1 x2 : Nat) (x3 : List Nat), ChangesOnly (.regulatorPassthrough x0 x1 x2 x3) (fun s t => { answered s t with
      pace.nextTxn := t.pace.nextTxn, pace.regulator := t.pace.regulator })) ∧
  (∀ (x0 : Fin 16) (x1 x2 x3 x4 x5 : Nat) (x6 : List Byte), ∀ i ∈ [Instr.moduleRead x0 x1 x2 x3 x4 x5, .moduleWrite x0 x1 x2 x3 x4 x6], ChangesOnly i
    (fun s t => { answered s t with
      lanes.masters := t.lanes.masters, lanes.nextTxn := t.lanes.nextTxn })) ∧
  (∀ (x0 : Fin 16) (x1 : Nat), ChangesOnly (.rssiMeasure x0 x1) (fun s t => { answered s t with lanes.optics := t.lanes.optics })) ∧
  (∀ (x0 : Fin 16) (x1 x2 x3 : Nat) (x4 : List Nat) (x5 : Option (Nat × Nat)) (x6 : List MacArg) (x7 : Bool) (x8 : List (Nat × Nat)) (x9 : Word), ∀ i
    ∈ [Instr.bmemRead x0 x1, .timeRead x0, .termRead x0 x1, .rogueStatus x0 x1, .commandStepWaitTimeout x0, .allocContractRead x0 x1, .dbaStatusRead
    x0 x1, .gmRead x0 x1, .gmCalendarRead x0 x1, .swapWaitExpiry x0, .ruleRead x0 x1 x2 x3, .rulesetStatus x0, .flowRead x0 x4 x5, .macRead x0 x6 x5,
    .tableStatus x0, .queueRead x0 x1, .meterRead x0 x7 x1, .gateStatus x0 x1, .poolStatus x0, .glacierStatus x0 x1 x2, .dramStatus x0, .keyStatus x0
    x8, .bcastKeyExport x0 x1 x2, .cipherStatus x0, .uplinkStatus x0 x1 x2, .tetherStatus x0, .protStatus x0, .dmaStatus x0, .identRead x0,
    .paramDescribe x0 x1 x2, .fwStatus x0, .auditRead x0 x1 x2, .calRead x0 x1 x2, .faultStatus x0, .unitStatus x0 x9, .repairMapRead x0 x1,
    .powerStatus x0, .selfTest x0 x9 x1], ChangesOnly i answered) ∧
  (∀ (x0 : Fin 16) (x1 : Nat), ChangesOnly (.bmemReset x0 x1) (fun s t => { answered s t with lanes.bmem := t.lanes.bmem })) ∧
  (∀ (x0 : Fin 16) (x1 : Nat), ChangesOnly (.channelEnable x0 x1) (fun s t => { answered s t with
      par.inForce := t.par.inForce, par.ro := t.par.ro, ev.transit := t.ev.transit, chans := t.chans, pon.tl := t.pon.tl })) ∧
  (∀ (x0 : Fin 16) (x1 : Nat), ∀ i ∈ [Instr.channelDisable x0 x1, .rogueStart x0 x1], ChangesOnly i (fun s t => { answered s t with
      ev.transit := t.ev.transit, chans := t.chans })) ∧
  (∀ (x0 : Fin 16) (x1 x2 x3 x4 x5 x6 : Nat), ChangesOnly (.termCreate x0 x1 x2 x3 x4 x5 x6) (fun s t => { answered s t with
      terms := t.terms, prot.streams := t.prot.streams, prot.txCounters := t.prot.txCounters })) ∧
  (∀ (x0 : Fin 16) (x1 : Nat) (x2 : Option Nat), ∀ i ∈ [Instr.termDelete x0 x1, .termDeactivate x0 x1, .termDisable x0 x1, .termRerange x0 x1 x2],
    ChangesOnly i (fun s t => { t with
      pending := s.pending, time := s.time, clk := s.clk, accepted := s.accepted, fw := s.fw, power := s.power, dramBytes := s.dramBytes,
      pace := s.pace, units := s.units, reports := s.reports, fault := s.fault, laneTest := s.laneTest, tap := s.tap, free := s.free })) ∧
  (∀ (x0 : Fin 16) (x1 : Nat), ∀ i ∈ [Instr.termEnable x0 x1, .rogueStop x0 x1], ChangesOnly i (fun s t => { answered s t with
      ev.transit := t.ev.transit, terms := t.terms, chans := t.chans, prot.streams := t.prot.streams, prot.txCounters := t.prot.txCounters })) ∧
  (∀ (x0 : Fin 16) (x1 x2 x3 x4 : Nat), ChangesOnly (.allocMap x0 x1 x2 x3 x4) (fun s t => { answered s t with
      ev.transit := t.ev.transit, dba.allocs := t.dba.allocs, prot.streams := t.prot.streams, prot.txCounters := t.prot.txCounters })) ∧
  (∀ (x0 : Fin 16) (x1 x2 x3 x4 x5 x6 x7 x8 : Nat), ∀ i ∈ [Instr.allocUnmap x0 x1, .allocContract x0 x1 x2 x3 x4 x5 x6 x7 x8], ChangesOnly i (fun s t
    => { answered s t with
      dba.allocs := t.dba.allocs, prot.streams := t.prot.streams, prot.txCounters := t.prot.txCounters })) ∧
  (∀ (x0 : Fin 16) (x1 : Nat) (x2 : GemEntry), ChangesOnly (.gemMap x0 x1 x2) (fun s t => { answered s t with
      pon.gems := t.pon.gems, prot.streams := t.prot.streams, prot.txCounters := t.prot.txCounters })) ∧
  (∀ (x0 : Fin 16) (x1 : Nat), ChangesOnly (.gemUnmap x0 x1) (fun s t => { answered s t with
      par.ro := t.par.ro, ev.rate := t.ev.rate, ev.transit := t.ev.transit, chans := t.chans, pon.gems := t.pon.gems, pon.reasm := t.pon.reasm,
      prot.streams := t.prot.streams, prot.txCounters := t.prot.txCounters, fwd.downQ := t.fwd.downQ, fwd.ops := t.fwd.ops,
      fwd.serial := t.fwd.serial, fwd.upQ := t.fwd.upQ, fwd.watch := t.fwd.watch })) ∧
  (∀ (x0 : Fin 16) (x1 : Nat), ChangesOnly (.snListRead x0 x1) (fun s t => { answered s t with chans := t.chans })) ∧
  (∀ (x0 : Fin 16) (x1 : Nat) (x2 : Option Nat), ∀ i ∈ [Instr.dbaPreannounce x0, .dbaPreannCancel x0 x1 x2], ChangesOnly i (fun s t => { answered s t
    with
      dba.preanns := t.dba.preanns })) ∧
  (∀ (x0 : Fin 16) (x1 : Nat), ChangesOnly (.ledgerReset x0 x1) (fun s t => { answered s t with dba.allocs := t.dba.allocs })) ∧
  (∀ (x0 : Fin 16) (x1 x2 : Nat) (x3 : List RuleEntry), ∀ i ∈ [Instr.ruleWrite x0 x1 x2 x3, .rulesetCopy x0], ChangesOnly i (fun s t => { answered s
    t with
      fwd.rules := t.fwd.rules })) ∧
  (∀ (x0 : Fin 16), ChangesOnly (.rulesetSwap x0) (fun s t => { answered s t with ev.transit := t.ev.transit, fwd.rules := t.fwd.rules })) ∧
  (∀ (x0 : Fin 16) (x1 : Nat) (x2 : List Nat), ChangesOnly (.flowProfileSet x0 x1 x2) (fun s t => { answered s t with
      fwd.profiles := t.fwd.profiles })) ∧
  (∀ (x0 : Fin 16) (x1 : List FlowArg) (x2 : List Nat) (x3 : List MacArg) (x4 x5 : Nat), ∀ i ∈ [Instr.flowAdd x0 x1, .flowDelete x0 x2, .macAdd x0
    x3, .macDelete x0 x3, .macUnfreeze x0 x4 x5], ChangesOnly i (fun s t => { answered s t with
      par.ro := t.par.ro, ev.rate := t.ev.rate, ev.transit := t.ev.transit, fwd.serial := t.fwd.serial, fwd.tables := t.fwd.tables,
      free := t.free })) ∧
  (∀ (x0 : Fin 16) (x1 : Bool) (x2 : Nat), ChangesOnly (.macFlush x0 x1 x2) (fun s t => { answered s t with
      par.ro := t.par.ro, ev.rate := t.ev.rate, ev.transit := t.ev.transit, fwd.serial := t.fwd.serial })) ∧
  (∀ (x0 : Fin 16) (x1 x2 : Nat), ChangesOnly (.evictLogRead x0 x1 x2) (fun s t => { answered s t with fwd.tables := t.fwd.tables })) ∧
  (∀ (x0 : Fin 16) (x1 : Nat) (x2 : QueueArg), ChangesOnly (.queueConfig x0 x1 x2) (fun s t => { answered s t with
      fwd.downQ := t.fwd.downQ, fwd.upQ := t.fwd.upQ, fwd.watch := t.fwd.watch })) ∧
  (∀ (x0 : Fin 16) (x1 : Nat), ChangesOnly (.queueDisable x0 x1) (fun s t => { answered s t with
      fwd.downQ := t.fwd.downQ, fwd.ops := t.fwd.ops, fwd.upQ := t.fwd.upQ, fwd.watch := t.fwd.watch })) ∧
  (∀ (x0 : Fin 16) (x1 : ShaperRef) (x2 x3 x4 : Option Nat), ChangesOnly (.schedNodeSet x0 x1 x2 x3 x4) (fun s t => { answered s t with
      fwd.chanNodes := t.fwd.chanNodes, fwd.downQ := t.fwd.downQ, fwd.macNodes := t.fwd.macNodes, fwd.termNodes := t.fwd.termNodes,
      fwd.upQ := t.fwd.upQ })) ∧
  (∀ (x0 : Fin 16) (x1 x2 x3 : Nat), ChangesOnly (.policerSet x0 x1 x2 x3) (fun s t => { answered s t with fwd.policers := t.fwd.policers })) ∧
  (∀ (x0 : Fin 16) (x1 x2 x4 x6 x7 x8 x9 : Nat) (x3 x5 : Bool), ChangesOnly (.markerSet x0 x1 x2 x3 x4 x5 x6 x7 x8 x9) (fun s t => { answered s t
    with
      fwd.markers := t.fwd.markers })) ∧
  (∀ (x0 : Fin 16) (x1 x2 x3 : Nat) (x4 : List Nat), ∀ i ∈ [Instr.gateListSet x0 x1 x2 x3 x4, .gateListClear x0 x1], ChangesOnly i (fun s t => {
    answered s t with
      fwd.gates := t.fwd.gates })) ∧
  (∀ (x0 : Fin 16) (x1 x3 : Nat) (x2 : Option Nat), ChangesOnly (.watchSet x0 x1 x2 x3) (fun s t => { answered s t with fwd.watch := t.fwd.watch })) ∧
  (∀ (x0 : Fin 16) (x1 x2 : Nat), ChangesOnly (.histRead x0 x1 x2) (fun s t => { answered s t with fwd.hists := t.fwd.hists })) ∧
  (∀ (x0 : Fin 16) (x1 : Nat), ChangesOnly (.bufFaultLogRead x0 x1) (fun s t => { answered s t with fwd.faultLog := t.fwd.faultLog })) ∧
  (∀ (x0 : Fin 16), ChangesOnly (.keyWrite x0) (fun s t => { answered s t with
      ev.transit := t.ev.transit, chans := t.chans, cipher.generators := t.cipher.generators, cipher.pairs := t.cipher.pairs,
      prot.keyCommit := t.prot.keyCommit, prot.keySince := t.prot.keySince, prot.keySlot := t.prot.keySlot, prot.streams := t.prot.streams,
      prot.txCounters := t.prot.txCounters, prot.wrap15 := t.prot.wrap15 })) ∧
  (∀ (x0 : Fin 16) (x1 : Nat), ChangesOnly (.keyErase x0 x1) (fun s t => { answered s t with chans := t.chans, cipher.pairs := t.cipher.pairs })) ∧
  (∀ (x0 : Fin 16), ChangesOnly (.keyGenerate x0) (fun s t => { answered s t with
      ev.transit := t.ev.transit, chans := t.chans, cipher.generators := t.cipher.generators, cipher.pairs := t.cipher.pairs,
      prot.keyCommit := t.prot.keyCommit, prot.keySince := t.prot.keySince, prot.keySlot := t.prot.keySlot, prot.streams := t.prot.streams,
      prot.txCounters := t.prot.txCounters, prot.wrap15 := t.prot.wrap15, free := t.free })) ∧
  (∀ (x0 : Fin 16) (x1 : Nat), ChangesOnly (.termRekey x0 x1) (fun s t => { answered s t with
      ev.transit := t.ev.transit, terms := t.terms, chans := t.chans })) ∧
  (∀ (x0 : Fin 16) (x1 x2 x4 : Nat) (x3 : List Byte), ChangesOnly (.cmacJob x0 x1 x2 x3 x4) (fun s t => { answered s t with
      cipher.authFails := t.cipher.authFails })) ∧
  (∀ (x0 : Fin 16) (x1 : Nat) (x2 : List Nat), ChangesOnly (.uplinkStats x0 x1 x2) (fun s t => { answered s t with fwd.macs := t.fwd.macs })) ∧
  (∀ (x0 : Fin 16) (x1 : Nat), ChangesOnly (.uplinkRestart x0 x1) (fun s t => { answered s t with
      par.inForce := t.par.inForce, ev.transit := t.ev.transit, fwd.downQ := t.fwd.downQ, fwd.macs := t.fwd.macs, fwd.ops := t.fwd.ops,
      fwd.upQ := t.fwd.upQ, fwd.watch := t.fwd.watch })) ∧
  (∀ (x0 : Fin 16) (x1 x2 x5 x6 : Nat) (x3 x7 : Bool) (x4 : Option Nat), ∀ i ∈ [Instr.macsecScSet x0 x1 x2 x3, .macsecSaSet x0 x1 x2 x4 x5 x3 x6 x7],
    ChangesOnly i (fun s t => { answered s t with
      fwd.macs := t.fwd.macs, fwd.sas := t.fwd.sas })) ∧
  (∀ (x0 : Fin 16) (x1 : Nat), ChangesOnly (.macsecSaRead x0 x1) (fun s t => { answered s t with fwd.sas := t.fwd.sas })) ∧
  (∀ (x0 : Fin 16) (x1 : Nat), ChangesOnly (.tetherRestart x0 x1) (fun s t => { answered s t with
      par.inForce := t.par.inForce, ev.transit := t.ev.transit, prot := t.prot })) ∧
  (∀ (x0 : Fin 16) (x1 x2 : Bool), ChangesOnly (.protPair x0 x1 x2) (fun s t => { answered s t with
      ev.transit := t.ev.transit, prot.memberB := t.prot.memberB, prot.paired := t.prot.paired, prot.streams := t.prot.streams })) ∧
  (∀ (x0 : Fin 16) (x1 : Nat), ChangesOnly (.protCommission x0 x1) (fun s t => { answered s t with prot.commission := t.prot.commission })) ∧
  (∀ (x0 : Fin 16) (x1 : List Nat), ChangesOnly (.protSwitch x0 x1) (fun s t => { answered s t with
      ev.transit := t.ev.transit, prot.tokens := t.prot.tokens })) ∧
  (∀ (x0 : Fin 16) (x1 : List Nat), ChangesOnly (.protClaim x0 x1) (fun s t => { t with
      pending := s.pending, time := s.time, clk := s.clk, accepted := s.accepted, fw := s.fw, dramBytes := s.dramBytes, pace := s.pace,
      units := s.units, reports := s.reports, fault := s.fault, laneTest := s.laneTest, tap := s.tap, free := s.free })) ∧
  (∀ (x0 : Fin 16), ChangesOnly (.protReadmit x0) (fun s t => { answered s t with
      ev.transit := t.ev.transit, prot.heldState := t.prot.heldState, prot.streams := t.prot.streams })) ∧
  (∀ (x0 : Fin 16) (x1 : List Nat), ChangesOnly (.mirrorResync x0 x1) (fun s t => { answered s t with prot.streams := t.prot.streams })) ∧
  (∀ (x0 : Fin 16) (x1 x2 : Nat), ChangesOnly (.dmaChannelOpen x0 x1 x2) (fun s t => { answered s t with host.channels := t.host.channels })) ∧
  (∀ (x0 : Fin 16) (x1 : Nat), ChangesOnly (.dmaChannelClose x0 x1) (fun s t => { answered s t with
      par.ro := t.par.ro, host.channels := t.host.channels, ev.rate := t.ev.rate, ev.telUnexported := t.ev.telUnexported, ev.transit := t.ev.transit,
      ev.vectors := t.ev.vectors, chans := t.chans, prot.queues := t.prot.queues, fwd.bufs := t.fwd.bufs, fwd.downQ := t.fwd.downQ,
      fwd.ops := t.fwd.ops, fwd.poolMsgs := t.fwd.poolMsgs, fwd.pools := t.fwd.pools, fwd.upQ := t.fwd.upQ, free := t.free })) ∧
  (∀ (x0 : Fin 16), ∀ i ∈ [Instr.paramRead x0, .counterSnapshot x0], ChangesOnly i (fun s t => { answered s t with
      par.ro := t.par.ro, fault.handlers := t.fault.handlers })) ∧
  (∀ (x0 : Fin 16), ChangesOnly (.paramWrite x0) (fun s t => { answered s t with
      par.flash := t.par.flash, par.ro := t.par.ro, par.vals := t.par.vals, ev.transit := t.ev.transit, pace.attempts := t.pace.attempts,
      pace.settle := t.pace.settle, pace.target := t.pace.target, fwd.macs := t.fwd.macs, fwd.tables := t.fwd.tables })) ∧
  (∀ (x0 : Fin 16), ChangesOnly (.fwImageWrite x0) (fun s t => { answered s t with
      fw.erasedSectors := t.fw.erasedSectors, fw.imageA := t.fw.imageA, fw.imageB := t.fw.imageB, fw.newHeader := t.fw.newHeader })) ∧
  (∀ (x0 : Fin 16) (x1 : ImageCheck), ChangesOnly (.fwActivate x0 x1) (fun s t => { answered s t with
      fw.newHeader := t.fw.newHeader, fw.progress := t.fw.progress, fw.standbyOnRunning := t.fw.standbyOnRunning, fw.stateA := t.fw.stateA,
      fw.stateB := t.fw.stateB })) ∧
  (∀ (x0 : Fin 16), ChangesOnly (.fwCommit x0) (fun s t => { answered s t with
      fw.bootCount := t.fw.bootCount, fw.bootImage := t.fw.bootImage, fw.securityMin := t.fw.securityMin })) ∧
  (∀ (x0 : Fin 16), ChangesOnly (.sessionOpen x0) (fun s t => { answered s t with roles.roles := t.roles.roles, free := t.free })) ∧
  (∀ (x0 : Fin 16), ChangesOnly (.sessionAuth x0) (fun s t => { answered s t with
      roles.roles := t.roles.roles, ev.transit := t.ev.transit, cipher.generators := t.cipher.generators })) ∧
  (∀ (x0 : Fin 16), ChangesOnly (.sessionClose x0) (fun s t => { answered s t with roles.roles := t.roles.roles })) ∧
  (∀ (x0 : Fin 16) (x1 : Nat), ChangesOnly (.credEnrol x0 x1) (fun s t => { answered s t with
      roles.enrolled := t.roles.enrolled, roles.roles := t.roles.roles, ev.transit := t.ev.transit })) ∧
  (∀ (x0 : Fin 16) (x1 : Nat), ChangesOnly (.credSet x0 x1) (fun s t => { answered s t with
      roles.roles := t.roles.roles, ev.transit := t.ev.transit })) ∧
  (∀ (x0 : Fin 16), ChangesOnly (.calOverlayWrite x0) (fun s t => { answered s t with
      roles.overlay := t.roles.overlay, roles.overlayA := t.roles.overlayA, roles.overlayB := t.roles.overlayB, ev.transit := t.ev.transit })) ∧
  (∀ (x0 : Fin 16) (x1 : Bool) (x2 : List Word), ChangesOnly (.readmitPolicy x0 x1 x2) (fun s t => { answered s t with
      units := t.units, fault.readmitOff := t.fault.readmitOff })) ∧
  (∀ (x0 : Fin 16) (x1 : Word) (x2 : Bool), ChangesOnly (.readmitOverride x0 x1 x2) (fun s t => { answered s t with
      fw.stateA := t.fw.stateA, fw.stateB := t.fw.stateB, ev.transit := t.ev.transit, units := t.units, fault.log := t.fault.log,
      fault.spareUsed := t.fault.spareUsed })) ∧
  (∀ (x0 : Fin 16) (x1 : List (Word × Nat)), ChangesOnly (.repairMapWrite x0 x1) (fun s t => { t with
      pending := s.pending, time := s.time, clk := s.clk, accepted := s.accepted, power := s.power, dramBytes := s.dramBytes, reports := s.reports,
      terms := s.terms, dba := s.dba, laneTest := s.laneTest, tap := s.tap, free := s.free })) ∧
  (∀ (x0 : Fin 16), ChangesOnly (.controlPairSwitch x0) (fun s t => { answered s t with
      fw.hold := t.fw.hold, fw.pairB := t.fw.pairB, fw.stateA := t.fw.stateA, fw.stateB := t.fw.stateB })) ∧
  (∀ (x0 : Fin 16) (x1 : Bool) (x2 x3 : List Nat), ChangesOnly (.eventMaskSet x0 x1 x2 x3) (fun s t => { answered s t with
      host.staged := t.host.staged, ev.batch := t.ev.batch, ev.lostSinceBatch := t.ev.lostSinceBatch, ev.maskKind := t.ev.maskKind,
      ev.maskSource := t.ev.maskSource })) ∧
  (∀ (x0 : Fin 16) (x1 : List RouteEntry), ChangesOnly (.eventRouteSet x0 x1) (fun s t => { answered s t with
      host.staged := t.host.staged, ev.batch := t.ev.batch, ev.lostSinceBatch := t.ev.lostSinceBatch, ev.routes := t.ev.routes })) ∧
  (∀ (x0 : Fin 16) (x1 : Nat), ChangesOnly (.eventRead x0 x1) (fun s t => { answered s t with ev.store := t.ev.store })) ∧
  (∀ (x0 : Fin 16) (x1 x2 : Nat), ChangesOnly (.telemetrySet x0 x1 x2) (fun s t => { answered s t with
      par.vals := t.par.vals, ev.telMask := t.ev.telMask })) ∧
  (∀ (x0 : Fin 16), ChangesOnly (.powerStateSet x0) (fun s t => { t with
      pending := s.pending, time := s.time, clk := s.clk, accepted := s.accepted, fw := s.fw, dramBytes := s.dramBytes, pace := s.pace,
      units := s.units, reports := s.reports, fault := s.fault, terms := s.terms, dba := s.dba, laneTest := s.laneTest, tap := s.tap,
      free := s.free })) ∧
  (∀ (x0 : Fin 16), ∀ i ∈ [Instr.lanePrbsSet x0, .laneLoopSet x0], ChangesOnly i (fun s t => { answered s t with
      ev.transit := t.ev.transit, prot := t.prot, laneTest := t.laneTest })) ∧
  (∀ (x0 : Fin 16) (x1 x2 : Nat), ∀ i ∈ [Instr.lanePrbsRead x0 x1 x2, .laneErrInject x0], ChangesOnly i (fun s t => { answered s t with
      laneTest := t.laneTest })) ∧
  (∀ (i : Instr) (s t : State) (k : Nat), writesSlots i = false → exec i s = .next t → k < sessionSlot 0 → t.slot k = s.slot k)
end

