-- ==== Sys2Proof/Laws/Tab.lean ====
section
/-! SUPPORT. Tables: reading what was written, and the canonical form kept by every operation. -/
namespace Sys2Proof.Tab
variable {α : Type}

theorem getD_erase_self (d : α) (t : Tab α) (i : Nat) : getD d (erase t i) i = d := by
  induction t with
  | nil => rfl
  | cons c t ih =>
    obtain ⟨k, v⟩ := c
    by_cases h : k = i
    · simpa [erase, h] using ih
    · simpa [erase, h, getD] using ih

theorem getD_erase_ne (d : α) (t : Tab α) {i j : Nat} (h : i ≠ j) : getD d (erase t i) j = getD d t j := by
  induction t with
  | nil => rfl
  | cons c t ih =>
    obtain ⟨k, v⟩ := c
    by_cases hk : k = i
    · have hj : k ≠ j := hk ▸ h
      simpa [erase, hk, getD, h] using ih
    · by_cases hj : k = j
      · simp [erase, getD, hj, Ne.symm h]
      · simpa [erase, hk, getD, hj] using ih

theorem getD_insert_ne (d : α) (t : Tab α) (v : α) {i j : Nat} (h : i ≠ j) : getD d (insert i v t) j = getD d t j := by
  induction t with
  | nil => simp [insert, getD, h]
  | cons c t ih =>
    obtain ⟨k, w⟩ := c
    by_cases hk : i < k
    · simp [insert, hk, getD, h]
    · by_cases hj : k = j
      · subst hj; simp [insert, hk, getD]
      · simp [insert, hk, getD, hj, ih]

theorem getD_insert_self (d : α) (t : Tab α) (v : α) (i : Nat) (h : ∀ c ∈ t, c.1 ≠ i) : getD d (insert i v t) i = v := by
  induction t with
  | nil => simp [insert, getD]
  | cons c t ih =>
    obtain ⟨k, w⟩ := c
    have h1 : k ≠ i := h (k, w) (by simp)
    have h2 := ih (fun c hc => h c (by simp [hc]))
    by_cases hk : i < k <;> simp [insert, hk, getD, h1, h2]

theorem not_mem_erase (t : Tab α) (i : Nat) : ∀ c ∈ erase t i, c.1 ≠ i := by
  intro c hc; simp [erase] at hc; exact hc.2

@[simp] theorem get_set_self [Inhabited α] [DecidableEq α] (t : Tab α) (i : Nat) (v : α) : get (set t i v) i = v := by
  by_cases h : v = default
  · simp [set, h, get, getD_erase_self]
  · simp only [set, h, if_false, get]
    exact getD_insert_self _ _ _ _ (not_mem_erase t i)

theorem get_set_ne [Inhabited α] [DecidableEq α] (t : Tab α) {i j : Nat} (v : α) (h : i ≠ j) : get (set t i v) j = get t j := by
  by_cases hv : v = default
  · simp [set, hv, get, getD_erase_ne _ _ h]
  · simp only [set, hv, if_false, get]
    rw [getD_insert_ne _ _ _ h, getD_erase_ne _ _ h]

theorem get_set [Inhabited α] [DecidableEq α] (t : Tab α) (i j : Nat) (v : α) :
    get (set t i v) j = if i = j then v else get t j := by
  by_cases h : i = j
  · subst h; simp
  · simp [h, get_set_ne]

@[simp] theorem get_mod_self [Inhabited α] [DecidableEq α] (t : Tab α) (i : Nat) (f : α → α) : get (mod t i f) i = f (get t i) := by
  simp [mod]

@[simp] theorem get_nil [Inhabited α] (i : Nat) : get ([] : Tab α) i = default := rfl

/-- Every index of a rising table is above its head's. -/
theorem rising_cons (k : Nat) (v : α) (t : Tab α) : rising ((k, v) :: t) = true ↔ (∀ c ∈ t, k < c.1) ∧ rising t = true := by
  induction t generalizing k v with
  | nil => simp [rising]
  | cons c t ih =>
    obtain ⟨m, w⟩ := c
    simp only [rising, Bool.and_eq_true, decide_eq_true_eq, ih m w, List.mem_cons, forall_eq_or_imp]
    exact ⟨fun ⟨h1, h2, h3⟩ => ⟨⟨h1, fun c hc => Nat.lt_trans h1 (h2 c hc)⟩, h2, h3⟩, fun ⟨⟨h1, _⟩, h3⟩ => ⟨h1, h3⟩⟩

theorem rising_erase (t : Tab α) (i : Nat) (h : rising t = true) : rising (erase t i) = true := by
  induction t with
  | nil => rfl
  | cons c t ih =>
    obtain ⟨k, v⟩ := c
    rw [rising_cons] at h
    by_cases hk : k = i
    · simpa [erase, hk] using ih h.2
    · have : erase ((k, v) :: t) i = (k, v) :: erase t i := by simp [erase, hk]
      rw [this, rising_cons]
      exact ⟨fun c hc => h.1 c (by simp [erase] at hc; exact hc.1), ih h.2⟩

theorem mem_insert (i : Nat) (v : α) (t : Tab α) (c : Nat × α) : c ∈ insert i v t ↔ c = (i, v) ∨ c ∈ t := by
  induction t with
  | nil => simp [insert]
  | cons d t ih =>
    obtain ⟨k, w⟩ := d
    by_cases hk : i < k <;> simp only [insert, hk, if_true, if_false, List.mem_cons, ih]
    constructor <;> (intro h; rcases h with h | h | h <;> simp [h])

theorem rising_insert (i : Nat) (v : α) (t : Tab α) (h : rising t = true) (hn : ∀ c ∈ t, c.1 ≠ i) : rising (insert i v t) = true := by
  induction t with
  | nil => rfl
  | cons c t ih =>
    obtain ⟨k, w⟩ := c
    have h0 := h
    rw [rising_cons] at h
    have hki : k ≠ i := hn (k, w) (by simp)
    by_cases hk : i < k
    · simp only [insert, hk, if_true]
      rw [rising_cons]
      refine ⟨fun c hc => ?_, h0⟩
      rcases List.mem_cons.1 hc with rfl | hc
      · exact hk
      · exact Nat.lt_trans hk (h.1 c hc)
    · simp only [insert, hk, if_false]
      rw [rising_cons]
      refine ⟨fun c hc => ?_, ih h.2 (fun c hc => hn c (by simp [hc]))⟩
      rcases (mem_insert i v t c).1 hc with rfl | hc
      · simp; omega
      · exact h.1 c hc

/-- A write keeps the canonical form. -/
theorem wf_set [Inhabited α] [DecidableEq α] (t : Tab α) (i : Nat) (v : α) (h : wf t = true) : wf (set t i v) = true := by
  simp only [wf, Bool.and_eq_true, List.all_eq_true, decide_eq_true_eq] at h ⊢
  have he : ∀ c ∈ erase t i, c.2 ≠ default := fun c hc => h.2 c (by simp [erase] at hc; exact hc.1)
  by_cases hv : v = default
  · simp only [set, hv, if_true]
    exact ⟨rising_erase t i h.1, he⟩
  · simp only [set, hv, if_false]
    refine ⟨rising_insert i v _ (rising_erase t i h.1) (not_mem_erase t i), fun c hc => ?_⟩
    rcases (mem_insert i v _ c).1 hc with rfl | hc
    · exact hv
    · exact he c hc

theorem wf_setRange [Inhabited α] [DecidableEq α] (vs : List α) (t : Tab α) (i : Nat) (h : wf t = true) : wf (setRange t i vs) = true := by
  induction vs generalizing t i with
  | nil => exact h
  | cons v vs ih => exact ih _ _ (wf_set t i v h)

end Sys2Proof.Tab
end

