-- ==== Sys2Proof/Laws/State.lean ====
section
/-! SUPPORT. What each update of the state leaves as it was, field by field and reading by reading, and what it writes. -/
namespace Sys2Proof.Machine
variable (s : State)

/-! ### Reading what was written -/

theorem chan_setChan (i j : Nat) (v : ChanState) : (s.setChan i v).chan j = if i = j then v else s.chan j := Tab.get_set _ _ _ _
@[simp] theorem chan_setChan_self (i : Nat) (v : ChanState) : (s.setChan i v).chan i = v := Tab.get_set_self _ _ _
theorem chan_setChan_ne {i j : Nat} (v : ChanState) (h : i ≠ j) : (s.setChan i v).chan j = s.chan j := Tab.get_set_ne _ _ h
theorem term_setTerm (i j : Nat) (v : Terminal) : (s.setTerm i v).term j = if i = j then v else s.term j := Tab.get_set _ _ _ _
@[simp] theorem term_setTerm_self (i : Nat) (v : Terminal) : (s.setTerm i v).term i = v := Tab.get_set_self _ _ _
theorem term_setTerm_ne {i j : Nat} (v : Terminal) (h : i ≠ j) : (s.setTerm i v).term j = s.term j := Tab.get_set_ne _ _ h
theorem ln_setLn (i j : Nat) (v : LaneState) : (s.setLn i v).ln j = if i = j then v else s.ln j := Tab.get_set _ _ _ _
@[simp] theorem ln_setLn_self (i : Nat) (v : LaneState) : (s.setLn i v).ln i = v := Tab.get_set_self _ _ _
theorem ln_setLn_ne {i j : Nat} (v : LaneState) (h : i ≠ j) : (s.setLn i v).ln j = s.ln j := Tab.get_set_ne _ _ h
theorem optic_setOptic (i j : Nat) (v : TreeOptics) : (s.setOptic i v).optic j = if i = j then v else s.optic j := Tab.get_set _ _ _ _
@[simp] theorem optic_setOptic_self (i : Nat) (v : TreeOptics) : (s.setOptic i v).optic i = v := Tab.get_set_self _ _ _
theorem optic_setOptic_ne {i j : Nat} (v : TreeOptics) (h : i ≠ j) : (s.setOptic i v).optic j = s.optic j := Tab.get_set_ne _ _ h
theorem bm_setBm (i j : Nat) (v : BmEntry) : (s.setBm i v).bm j = if i = j then v else s.bm j := Tab.get_set _ _ _ _
@[simp] theorem bm_setBm_self (i : Nat) (v : BmEntry) : (s.setBm i v).bm i = v := Tab.get_set_self _ _ _
theorem bm_setBm_ne {i j : Nat} (v : BmEntry) (h : i ≠ j) : (s.setBm i v).bm j = s.bm j := Tab.get_set_ne _ _ h
theorem master_setMaster (i j : Nat) (v : Master) : (s.setMaster i v).master j = if i = j then v else s.master j := Tab.get_set _ _ _ _
@[simp] theorem master_setMaster_self (i : Nat) (v : Master) : (s.setMaster i v).master i = v := Tab.get_set_self _ _ _
theorem master_setMaster_ne {i j : Nat} (v : Master) (h : i ≠ j) : (s.setMaster i v).master j = s.master j := Tab.get_set_ne _ _ h
theorem alloc_setAlloc (i j : Nat) (v : Alloc) : (s.setAlloc i v).alloc j = if i = j then v else s.alloc j := Tab.get_set _ _ _ _
@[simp] theorem alloc_setAlloc_self (i : Nat) (v : Alloc) : (s.setAlloc i v).alloc i = v := Tab.get_set_self _ _ _
theorem alloc_setAlloc_ne {i j : Nat} (v : Alloc) (h : i ≠ j) : (s.setAlloc i v).alloc j = s.alloc j := Tab.get_set_ne _ _ h
theorem gem_setGem (i j : Nat) (v : GemEntry) : (s.setGem i v).gem j = if i = j then v else s.gem j := Tab.get_set _ _ _ _
@[simp] theorem gem_setGem_self (i : Nat) (v : GemEntry) : (s.setGem i v).gem i = v := Tab.get_set_self _ _ _
theorem gem_setGem_ne {i j : Nat} (v : GemEntry) (h : i ≠ j) : (s.setGem i v).gem j = s.gem j := Tab.get_set_ne _ _ h
theorem line_setLine (i j : Nat) (v : LineState) : (s.setLine i v).line j = if i = j then v else s.line j := Tab.get_set _ _ _ _
@[simp] theorem line_setLine_self (i : Nat) (v : LineState) : (s.setLine i v).line i = v := Tab.get_set_self _ _ _
theorem line_setLine_ne {i j : Nat} (v : LineState) (h : i ≠ j) : (s.setLine i v).line j = s.line j := Tab.get_set_ne _ _ h
theorem pair_setPair (i j : Nat) (v : KeyPair) : (s.setPair i v).pair j = if i = j then v else s.pair j := Tab.get_set _ _ _ _
@[simp] theorem pair_setPair_self (i : Nat) (v : KeyPair) : (s.setPair i v).pair i = v := Tab.get_set_self _ _ _
theorem pair_setPair_ne {i j : Nat} (v : KeyPair) (h : i ≠ j) : (s.setPair i v).pair j = s.pair j := Tab.get_set_ne _ _ h
theorem slot_setSlot (i j : Nat) (v : KeySlot) : (s.setSlot i v).slot j = if i = j then v else s.slot j := Tab.get_set _ _ _ _
@[simp] theorem slot_setSlot_self (i : Nat) (v : KeySlot) : (s.setSlot i v).slot i = v := Tab.get_set_self _ _ _
theorem slot_setSlot_ne {i j : Nat} (v : KeySlot) (h : i ≠ j) : (s.setSlot i v).slot j = s.slot j := Tab.get_set_ne _ _ h
theorem token_setToken (i j : Nat) (v : Token) : (s.setToken i v).token j = if i = j then v else s.token j := Tab.get_set _ _ _ _
@[simp] theorem token_setToken_self (i : Nat) (v : Token) : (s.setToken i v).token i = v := Tab.get_set_self _ _ _
theorem token_setToken_ne {i j : Nat} (v : Token) (h : i ≠ j) : (s.setToken i v).token j = s.token j := Tab.get_set_ne _ _ h
theorem stream_setStream (i j : Nat) (v : Stream) : (s.setStream i v).stream j = if i = j then v else s.stream j := Tab.get_set _ _ _ _
@[simp] theorem stream_setStream_self (i : Nat) (v : Stream) : (s.setStream i v).stream i = v := Tab.get_set_self _ _ _
theorem stream_setStream_ne {i j : Nat} (v : Stream) (h : i ≠ j) : (s.setStream i v).stream j = s.stream j := Tab.get_set_ne _ _ h
theorem tlane_setTlane (i j : Nat) (v : TetherLane) : (s.setTlane i v).tlane j = if i = j then v else s.tlane j := Tab.get_set _ _ _ _
@[simp] theorem tlane_setTlane_self (i : Nat) (v : TetherLane) : (s.setTlane i v).tlane i = v := Tab.get_set_self _ _ _
theorem tlane_setTlane_ne {i j : Nat} (v : TetherLane) (h : i ≠ j) : (s.setTlane i v).tlane j = s.tlane j := Tab.get_set_ne _ _ h
theorem unit_setUnit (i j : Nat) (v : UnitRec) : (s.setUnit i v).unit j = if i = j then v else s.unit j := Tab.get_set _ _ _ _
@[simp] theorem unit_setUnit_self (i : Nat) (v : UnitRec) : (s.setUnit i v).unit i = v := Tab.get_set_self _ _ _
theorem unit_setUnit_ne {i j : Nat} (v : UnitRec) (h : i ≠ j) : (s.setUnit i v).unit j = s.unit j := Tab.get_set_ne _ _ h
theorem handler_setHandler (i j : Nat) (v : Handler) : (s.setHandler i v).handler j = if i = j then v else s.handler j := Tab.get_set _ _ _ _
@[simp] theorem handler_setHandler_self (i : Nat) (v : Handler) : (s.setHandler i v).handler i = v := Tab.get_set_self _ _ _
theorem handler_setHandler_ne {i j : Nat} (v : Handler) (h : i ≠ j) : (s.setHandler i v).handler j = s.handler j := Tab.get_set_ne _ _ h
theorem mbox_setMbox (i j : Nat) (v : Mailbox) : (s.setMbox i v).mbox j = if i = j then v else s.mbox j := Tab.get_set _ _ _ _
@[simp] theorem mbox_setMbox_self (i : Nat) (v : Mailbox) : (s.setMbox i v).mbox i = v := Tab.get_set_self _ _ _
theorem mbox_setMbox_ne {i j : Nat} (v : Mailbox) (h : i ≠ j) : (s.setMbox i v).mbox j = s.mbox j := Tab.get_set_ne _ _ h
theorem ch_setCh (i j : Nat) (v : DmaCh) : (s.setCh i v).ch j = if i = j then v else s.ch j := Tab.get_set _ _ _ _
@[simp] theorem ch_setCh_self (i : Nat) (v : DmaCh) : (s.setCh i v).ch i = v := Tab.get_set_self _ _ _
theorem ch_setCh_ne {i j : Nat} (v : DmaCh) (h : i ≠ j) : (s.setCh i v).ch j = s.ch j := Tab.get_set_ne _ _ h
theorem role_setRole (i j : Nat) (v : RoleState) : (s.setRole i v).role j = if i = j then v else s.role j := Tab.get_set _ _ _ _
@[simp] theorem role_setRole_self (i : Nat) (v : RoleState) : (s.setRole i v).role i = v := Tab.get_set_self _ _ _
theorem role_setRole_ne {i j : Nat} (v : RoleState) (h : i ≠ j) : (s.setRole i v).role j = s.role j := Tab.get_set_ne _ _ h
theorem dq_setDq (i j : Nat) (v : Queue) : (s.setDq i v).dq j = if i = j then v else s.dq j := Tab.get_set _ _ _ _
@[simp] theorem dq_setDq_self (i : Nat) (v : Queue) : (s.setDq i v).dq i = v := Tab.get_set_self _ _ _
theorem dq_setDq_ne {i j : Nat} (v : Queue) (h : i ≠ j) : (s.setDq i v).dq j = s.dq j := Tab.get_set_ne _ _ h
theorem uq_setUq (i j : Nat) (v : Queue) : (s.setUq i v).uq j = if i = j then v else s.uq j := Tab.get_set _ _ _ _
@[simp] theorem uq_setUq_self (i : Nat) (v : Queue) : (s.setUq i v).uq i = v := Tab.get_set_self _ _ _
theorem uq_setUq_ne {i j : Nat} (v : Queue) (h : i ≠ j) : (s.setUq i v).uq j = s.uq j := Tab.get_set_ne _ _ h
theorem pool_setPool (i j : Nat) (v : Pool) : (s.setPool i v).pool j = if i = j then v else s.pool j := Tab.get_set _ _ _ _
@[simp] theorem pool_setPool_self (i : Nat) (v : Pool) : (s.setPool i v).pool i = v := Tab.get_set_self _ _ _
theorem pool_setPool_ne {i j : Nat} (v : Pool) (h : i ≠ j) : (s.setPool i v).pool j = s.pool j := Tab.get_set_ne _ _ h
theorem mac_setMac (i j : Nat) (v : MacState) : (s.setMac i v).mac j = if i = j then v else s.mac j := Tab.get_set _ _ _ _
@[simp] theorem mac_setMac_self (i : Nat) (v : MacState) : (s.setMac i v).mac i = v := Tab.get_set_self _ _ _
theorem mac_setMac_ne {i j : Nat} (v : MacState) (h : i ≠ j) : (s.setMac i v).mac j = s.mac j := Tab.get_set_ne _ _ h
theorem table_setTable (i j : Nat) (v : TableState) : (s.setTable i v).table j = if i = j then v else s.table j := Tab.get_set _ _ _ _
@[simp] theorem table_setTable_self (i : Nat) (v : TableState) : (s.setTable i v).table i = v := Tab.get_set_self _ _ _
theorem table_setTable_ne {i j : Nat} (v : TableState) (h : i ≠ j) : (s.setTable i v).table j = s.table j := Tab.get_set_ne _ _ h
theorem dramCh_setDramCh (i j : Nat) (v : DramCh) : (s.setDramCh i v).dramCh j = if i = j then v else s.dramCh j := Tab.get_set _ _ _ _
@[simp] theorem dramCh_setDramCh_self (i : Nat) (v : DramCh) : (s.setDramCh i v).dramCh i = v := Tab.get_set_self _ _ _
theorem dramCh_setDramCh_ne {i j : Nat} (v : DramCh) (h : i ≠ j) : (s.setDramCh i v).dramCh j = s.dramCh j := Tab.get_set_ne _ _ h
theorem buf_setBuf (i j : Nat) (v : BufWord) : (s.setBuf i v).buf j = if i = j then v else s.buf j := Tab.get_set _ _ _ _
@[simp] theorem buf_setBuf_self (i : Nat) (v : BufWord) : (s.setBuf i v).buf i = v := Tab.get_set_self _ _ _
theorem buf_setBuf_ne {i j : Nat} (v : BufWord) (h : i ≠ j) : (s.setBuf i v).buf j = s.buf j := Tab.get_set_ne _ _ h
theorem gate_setGate (i j : Nat) (v : GateState) : (s.setGate i v).gate j = if i = j then v else s.gate j := Tab.get_set _ _ _ _
@[simp] theorem gate_setGate_self (i : Nat) (v : GateState) : (s.setGate i v).gate i = v := Tab.get_set_self _ _ _
theorem gate_setGate_ne {i j : Nat} (v : GateState) (h : i ≠ j) : (s.setGate i v).gate j = s.gate j := Tab.get_set_ne _ _ h

/-! ### setChan -/

@[simp] theorem setChan_pending (i : Nat) (v : ChanState) : (s.setChan i v).pending = s.pending := rfl
@[simp] theorem setChan_time (i : Nat) (v : ChanState) : (s.setChan i v).time = s.time := rfl
@[simp] theorem setChan_clk (i : Nat) (v : ChanState) : (s.setChan i v).clk = s.clk := rfl
@[simp] theorem setChan_par (i : Nat) (v : ChanState) : (s.setChan i v).par = s.par := rfl
@[simp] theorem setChan_mb (i : Nat) (v : ChanState) : (s.setChan i v).mb = s.mb := rfl
@[simp] theorem setChan_accepted (i : Nat) (v : ChanState) : (s.setChan i v).accepted = s.accepted := rfl
@[simp] theorem setChan_roles (i : Nat) (v : ChanState) : (s.setChan i v).roles = s.roles := rfl
@[simp] theorem setChan_fw (i : Nat) (v : ChanState) : (s.setChan i v).fw = s.fw := rfl
@[simp] theorem setChan_host (i : Nat) (v : ChanState) : (s.setChan i v).host = s.host := rfl
@[simp] theorem setChan_ev (i : Nat) (v : ChanState) : (s.setChan i v).ev = s.ev := rfl
@[simp] theorem setChan_power (i : Nat) (v : ChanState) : (s.setChan i v).power = s.power := rfl
@[simp] theorem setChan_dramBytes (i : Nat) (v : ChanState) : (s.setChan i v).dramBytes = s.dramBytes := rfl
@[simp] theorem setChan_pace (i : Nat) (v : ChanState) : (s.setChan i v).pace = s.pace := rfl
@[simp] theorem setChan_units (i : Nat) (v : ChanState) : (s.setChan i v).units = s.units := rfl
@[simp] theorem setChan_reports (i : Nat) (v : ChanState) : (s.setChan i v).reports = s.reports := rfl
@[simp] theorem setChan_fault (i : Nat) (v : ChanState) : (s.setChan i v).fault = s.fault := rfl
@[simp] theorem setChan_lanes (i : Nat) (v : ChanState) : (s.setChan i v).lanes = s.lanes := rfl
@[simp] theorem setChan_terms (i : Nat) (v : ChanState) : (s.setChan i v).terms = s.terms := rfl
@[simp] theorem setChan_pon (i : Nat) (v : ChanState) : (s.setChan i v).pon = s.pon := rfl
@[simp] theorem setChan_dba (i : Nat) (v : ChanState) : (s.setChan i v).dba = s.dba := rfl
@[simp] theorem setChan_cipher (i : Nat) (v : ChanState) : (s.setChan i v).cipher = s.cipher := rfl
@[simp] theorem setChan_prot (i : Nat) (v : ChanState) : (s.setChan i v).prot = s.prot := rfl
@[simp] theorem setChan_fwd (i : Nat) (v : ChanState) : (s.setChan i v).fwd = s.fwd := rfl
@[simp] theorem setChan_laneTest (i : Nat) (v : ChanState) : (s.setChan i v).laneTest = s.laneTest := rfl
@[simp] theorem setChan_tap (i : Nat) (v : ChanState) : (s.setChan i v).tap = s.tap := rfl
@[simp] theorem setChan_outbox (i : Nat) (v : ChanState) : (s.setChan i v).outbox = s.outbox := rfl
@[simp] theorem setChan_free (i : Nat) (v : ChanState) : (s.setChan i v).free = s.free := rfl
/-- Every other reading. -/
@[simp] theorem setChan_reads (i : Nat) (v : ChanState) :
    (∀ n, (s.setChan i v).term n = s.term n) ∧ (∀ n, (s.setChan i v).ln n = s.ln n) ∧ (∀ n, (s.setChan i v).optic n = s.optic n) ∧
    (∀ n, (s.setChan i v).bm n = s.bm n) ∧ (∀ n, (s.setChan i v).master n = s.master n) ∧ (∀ n, (s.setChan i v).alloc n = s.alloc n) ∧
    (∀ n, (s.setChan i v).gem n = s.gem n) ∧ (∀ n, (s.setChan i v).line n = s.line n) ∧ (∀ n, (s.setChan i v).pair n = s.pair n) ∧
    (∀ n, (s.setChan i v).slot n = s.slot n) ∧ (∀ n, (s.setChan i v).token n = s.token n) ∧ (∀ n, (s.setChan i v).stream n = s.stream n) ∧
    (∀ n, (s.setChan i v).tlane n = s.tlane n) ∧ (∀ n, (s.setChan i v).unit n = s.unit n) ∧ (∀ n, (s.setChan i v).handler n = s.handler n) ∧
    (∀ n, (s.setChan i v).mbox n = s.mbox n) ∧ (∀ n, (s.setChan i v).ch n = s.ch n) ∧ (∀ n, (s.setChan i v).role n = s.role n) ∧
    (∀ n, (s.setChan i v).dq n = s.dq n) ∧ (∀ n, (s.setChan i v).uq n = s.uq n) ∧ (∀ n, (s.setChan i v).pool n = s.pool n) ∧
    (∀ n, (s.setChan i v).mac n = s.mac n) ∧ (∀ n, (s.setChan i v).table n = s.table n) ∧ (∀ n, (s.setChan i v).dramCh n = s.dramCh n) ∧
    (∀ n, (s.setChan i v).buf n = s.buf n) ∧ (∀ n, (s.setChan i v).gate n = s.gate n) ∧ (∀ p n, (s.setChan i v).get p n = s.get p n) ∧
    (∀ p n, (s.setChan i v).getN p n = s.getN p n) ∧ (∀ p n, (s.setChan i v).getF p n = s.getF p n) ∧
    (∀ p n, (s.setChan i v).ro p n = s.ro p n) ∧ (s.setChan i v).now = s.now ∧ (s.setChan i v).up = s.up := by
  and_intros <;> intros <;> rfl

/-! ### setTerm -/

@[simp] theorem setTerm_pending (i : Nat) (v : Terminal) : (s.setTerm i v).pending = s.pending := rfl
@[simp] theorem setTerm_time (i : Nat) (v : Terminal) : (s.setTerm i v).time = s.time := rfl
@[simp] theorem setTerm_clk (i : Nat) (v : Terminal) : (s.setTerm i v).clk = s.clk := rfl
@[simp] theorem setTerm_par (i : Nat) (v : Terminal) : (s.setTerm i v).par = s.par := rfl
@[simp] theorem setTerm_mb (i : Nat) (v : Terminal) : (s.setTerm i v).mb = s.mb := rfl
@[simp] theorem setTerm_accepted (i : Nat) (v : Terminal) : (s.setTerm i v).accepted = s.accepted := rfl
@[simp] theorem setTerm_roles (i : Nat) (v : Terminal) : (s.setTerm i v).roles = s.roles := rfl
@[simp] theorem setTerm_fw (i : Nat) (v : Terminal) : (s.setTerm i v).fw = s.fw := rfl
@[simp] theorem setTerm_host (i : Nat) (v : Terminal) : (s.setTerm i v).host = s.host := rfl
@[simp] theorem setTerm_ev (i : Nat) (v : Terminal) : (s.setTerm i v).ev = s.ev := rfl
@[simp] theorem setTerm_power (i : Nat) (v : Terminal) : (s.setTerm i v).power = s.power := rfl
@[simp] theorem setTerm_dramBytes (i : Nat) (v : Terminal) : (s.setTerm i v).dramBytes = s.dramBytes := rfl
@[simp] theorem setTerm_pace (i : Nat) (v : Terminal) : (s.setTerm i v).pace = s.pace := rfl
@[simp] theorem setTerm_units (i : Nat) (v : Terminal) : (s.setTerm i v).units = s.units := rfl
@[simp] theorem setTerm_reports (i : Nat) (v : Terminal) : (s.setTerm i v).reports = s.reports := rfl
@[simp] theorem setTerm_fault (i : Nat) (v : Terminal) : (s.setTerm i v).fault = s.fault := rfl
@[simp] theorem setTerm_lanes (i : Nat) (v : Terminal) : (s.setTerm i v).lanes = s.lanes := rfl
@[simp] theorem setTerm_chans (i : Nat) (v : Terminal) : (s.setTerm i v).chans = s.chans := rfl
@[simp] theorem setTerm_pon (i : Nat) (v : Terminal) : (s.setTerm i v).pon = s.pon := rfl
@[simp] theorem setTerm_dba (i : Nat) (v : Terminal) : (s.setTerm i v).dba = s.dba := rfl
@[simp] theorem setTerm_cipher (i : Nat) (v : Terminal) : (s.setTerm i v).cipher = s.cipher := rfl
@[simp] theorem setTerm_prot (i : Nat) (v : Terminal) : (s.setTerm i v).prot = s.prot := rfl
@[simp] theorem setTerm_fwd (i : Nat) (v : Terminal) : (s.setTerm i v).fwd = s.fwd := rfl
@[simp] theorem setTerm_laneTest (i : Nat) (v : Terminal) : (s.setTerm i v).laneTest = s.laneTest := rfl
@[simp] theorem setTerm_tap (i : Nat) (v : Terminal) : (s.setTerm i v).tap = s.tap := rfl
@[simp] theorem setTerm_outbox (i : Nat) (v : Terminal) : (s.setTerm i v).outbox = s.outbox := rfl
@[simp] theorem setTerm_free (i : Nat) (v : Terminal) : (s.setTerm i v).free = s.free := rfl
/-- Every other reading. -/
@[simp] theorem setTerm_reads (i : Nat) (v : Terminal) :
    (∀ n, (s.setTerm i v).chan n = s.chan n) ∧ (∀ n, (s.setTerm i v).ln n = s.ln n) ∧ (∀ n, (s.setTerm i v).optic n = s.optic n) ∧
    (∀ n, (s.setTerm i v).bm n = s.bm n) ∧ (∀ n, (s.setTerm i v).master n = s.master n) ∧ (∀ n, (s.setTerm i v).alloc n = s.alloc n) ∧
    (∀ n, (s.setTerm i v).gem n = s.gem n) ∧ (∀ n, (s.setTerm i v).line n = s.line n) ∧ (∀ n, (s.setTerm i v).pair n = s.pair n) ∧
    (∀ n, (s.setTerm i v).slot n = s.slot n) ∧ (∀ n, (s.setTerm i v).token n = s.token n) ∧ (∀ n, (s.setTerm i v).stream n = s.stream n) ∧
    (∀ n, (s.setTerm i v).tlane n = s.tlane n) ∧ (∀ n, (s.setTerm i v).unit n = s.unit n) ∧ (∀ n, (s.setTerm i v).handler n = s.handler n) ∧
    (∀ n, (s.setTerm i v).mbox n = s.mbox n) ∧ (∀ n, (s.setTerm i v).ch n = s.ch n) ∧ (∀ n, (s.setTerm i v).role n = s.role n) ∧
    (∀ n, (s.setTerm i v).dq n = s.dq n) ∧ (∀ n, (s.setTerm i v).uq n = s.uq n) ∧ (∀ n, (s.setTerm i v).pool n = s.pool n) ∧
    (∀ n, (s.setTerm i v).mac n = s.mac n) ∧ (∀ n, (s.setTerm i v).table n = s.table n) ∧ (∀ n, (s.setTerm i v).dramCh n = s.dramCh n) ∧
    (∀ n, (s.setTerm i v).buf n = s.buf n) ∧ (∀ n, (s.setTerm i v).gate n = s.gate n) ∧ (∀ p n, (s.setTerm i v).get p n = s.get p n) ∧
    (∀ p n, (s.setTerm i v).getN p n = s.getN p n) ∧ (∀ p n, (s.setTerm i v).getF p n = s.getF p n) ∧
    (∀ p n, (s.setTerm i v).ro p n = s.ro p n) ∧ (s.setTerm i v).now = s.now ∧ (s.setTerm i v).up = s.up := by
  and_intros <;> intros <;> rfl

/-! ### setLn -/

@[simp] theorem setLn_pending (i : Nat) (v : LaneState) : (s.setLn i v).pending = s.pending := rfl
@[simp] theorem setLn_time (i : Nat) (v : LaneState) : (s.setLn i v).time = s.time := rfl
@[simp] theorem setLn_clk (i : Nat) (v : LaneState) : (s.setLn i v).clk = s.clk := rfl
@[simp] theorem setLn_par (i : Nat) (v : LaneState) : (s.setLn i v).par = s.par := rfl
@[simp] theorem setLn_mb (i : Nat) (v : LaneState) : (s.setLn i v).mb = s.mb := rfl
@[simp] theorem setLn_accepted (i : Nat) (v : LaneState) : (s.setLn i v).accepted = s.accepted := rfl
@[simp] theorem setLn_roles (i : Nat) (v : LaneState) : (s.setLn i v).roles = s.roles := rfl
@[simp] theorem setLn_fw (i : Nat) (v : LaneState) : (s.setLn i v).fw = s.fw := rfl
@[simp] theorem setLn_host (i : Nat) (v : LaneState) : (s.setLn i v).host = s.host := rfl
@[simp] theorem setLn_ev (i : Nat) (v : LaneState) : (s.setLn i v).ev = s.ev := rfl
@[simp] theorem setLn_power (i : Nat) (v : LaneState) : (s.setLn i v).power = s.power := rfl
@[simp] theorem setLn_dramBytes (i : Nat) (v : LaneState) : (s.setLn i v).dramBytes = s.dramBytes := rfl
@[simp] theorem setLn_pace (i : Nat) (v : LaneState) : (s.setLn i v).pace = s.pace := rfl
@[simp] theorem setLn_units (i : Nat) (v : LaneState) : (s.setLn i v).units = s.units := rfl
@[simp] theorem setLn_reports (i : Nat) (v : LaneState) : (s.setLn i v).reports = s.reports := rfl
@[simp] theorem setLn_fault (i : Nat) (v : LaneState) : (s.setLn i v).fault = s.fault := rfl
@[simp] theorem setLn_terms (i : Nat) (v : LaneState) : (s.setLn i v).terms = s.terms := rfl
@[simp] theorem setLn_chans (i : Nat) (v : LaneState) : (s.setLn i v).chans = s.chans := rfl
@[simp] theorem setLn_pon (i : Nat) (v : LaneState) : (s.setLn i v).pon = s.pon := rfl
@[simp] theorem setLn_dba (i : Nat) (v : LaneState) : (s.setLn i v).dba = s.dba := rfl
@[simp] theorem setLn_cipher (i : Nat) (v : LaneState) : (s.setLn i v).cipher = s.cipher := rfl
@[simp] theorem setLn_prot (i : Nat) (v : LaneState) : (s.setLn i v).prot = s.prot := rfl
@[simp] theorem setLn_fwd (i : Nat) (v : LaneState) : (s.setLn i v).fwd = s.fwd := rfl
@[simp] theorem setLn_laneTest (i : Nat) (v : LaneState) : (s.setLn i v).laneTest = s.laneTest := rfl
@[simp] theorem setLn_tap (i : Nat) (v : LaneState) : (s.setLn i v).tap = s.tap := rfl
@[simp] theorem setLn_outbox (i : Nat) (v : LaneState) : (s.setLn i v).outbox = s.outbox := rfl
@[simp] theorem setLn_free (i : Nat) (v : LaneState) : (s.setLn i v).free = s.free := rfl
/-- Every other reading. -/
@[simp] theorem setLn_reads (i : Nat) (v : LaneState) :
    (∀ n, (s.setLn i v).chan n = s.chan n) ∧ (∀ n, (s.setLn i v).term n = s.term n) ∧ (∀ n, (s.setLn i v).optic n = s.optic n) ∧
    (∀ n, (s.setLn i v).bm n = s.bm n) ∧ (∀ n, (s.setLn i v).master n = s.master n) ∧ (∀ n, (s.setLn i v).alloc n = s.alloc n) ∧
    (∀ n, (s.setLn i v).gem n = s.gem n) ∧ (∀ n, (s.setLn i v).line n = s.line n) ∧ (∀ n, (s.setLn i v).pair n = s.pair n) ∧
    (∀ n, (s.setLn i v).slot n = s.slot n) ∧ (∀ n, (s.setLn i v).token n = s.token n) ∧ (∀ n, (s.setLn i v).stream n = s.stream n) ∧
    (∀ n, (s.setLn i v).tlane n = s.tlane n) ∧ (∀ n, (s.setLn i v).unit n = s.unit n) ∧ (∀ n, (s.setLn i v).handler n = s.handler n) ∧
    (∀ n, (s.setLn i v).mbox n = s.mbox n) ∧ (∀ n, (s.setLn i v).ch n = s.ch n) ∧ (∀ n, (s.setLn i v).role n = s.role n) ∧
    (∀ n, (s.setLn i v).dq n = s.dq n) ∧ (∀ n, (s.setLn i v).uq n = s.uq n) ∧ (∀ n, (s.setLn i v).pool n = s.pool n) ∧
    (∀ n, (s.setLn i v).mac n = s.mac n) ∧ (∀ n, (s.setLn i v).table n = s.table n) ∧ (∀ n, (s.setLn i v).dramCh n = s.dramCh n) ∧
    (∀ n, (s.setLn i v).buf n = s.buf n) ∧ (∀ n, (s.setLn i v).gate n = s.gate n) ∧ (∀ p n, (s.setLn i v).get p n = s.get p n) ∧
    (∀ p n, (s.setLn i v).getN p n = s.getN p n) ∧ (∀ p n, (s.setLn i v).getF p n = s.getF p n) ∧ (∀ p n, (s.setLn i v).ro p n = s.ro p n) ∧
    (s.setLn i v).now = s.now ∧ (s.setLn i v).up = s.up := by
  and_intros <;> intros <;> rfl

/-! ### setOptic -/

@[simp] theorem setOptic_pending (i : Nat) (v : TreeOptics) : (s.setOptic i v).pending = s.pending := rfl
@[simp] theorem setOptic_time (i : Nat) (v : TreeOptics) : (s.setOptic i v).time = s.time := rfl
@[simp] theorem setOptic_clk (i : Nat) (v : TreeOptics) : (s.setOptic i v).clk = s.clk := rfl
@[simp] theorem setOptic_par (i : Nat) (v : TreeOptics) : (s.setOptic i v).par = s.par := rfl
@[simp] theorem setOptic_mb (i : Nat) (v : TreeOptics) : (s.setOptic i v).mb = s.mb := rfl
@[simp] theorem setOptic_accepted (i : Nat) (v : TreeOptics) : (s.setOptic i v).accepted = s.accepted := rfl
@[simp] theorem setOptic_roles (i : Nat) (v : TreeOptics) : (s.setOptic i v).roles = s.roles := rfl
@[simp] theorem setOptic_fw (i : Nat) (v : TreeOptics) : (s.setOptic i v).fw = s.fw := rfl
@[simp] theorem setOptic_host (i : Nat) (v : TreeOptics) : (s.setOptic i v).host = s.host := rfl
@[simp] theorem setOptic_ev (i : Nat) (v : TreeOptics) : (s.setOptic i v).ev = s.ev := rfl
@[simp] theorem setOptic_power (i : Nat) (v : TreeOptics) : (s.setOptic i v).power = s.power := rfl
@[simp] theorem setOptic_dramBytes (i : Nat) (v : TreeOptics) : (s.setOptic i v).dramBytes = s.dramBytes := rfl
@[simp] theorem setOptic_pace (i : Nat) (v : TreeOptics) : (s.setOptic i v).pace = s.pace := rfl
@[simp] theorem setOptic_units (i : Nat) (v : TreeOptics) : (s.setOptic i v).units = s.units := rfl
@[simp] theorem setOptic_reports (i : Nat) (v : TreeOptics) : (s.setOptic i v).reports = s.reports := rfl
@[simp] theorem setOptic_fault (i : Nat) (v : TreeOptics) : (s.setOptic i v).fault = s.fault := rfl
@[simp] theorem setOptic_terms (i : Nat) (v : TreeOptics) : (s.setOptic i v).terms = s.terms := rfl
@[simp] theorem setOptic_chans (i : Nat) (v : TreeOptics) : (s.setOptic i v).chans = s.chans := rfl
@[simp] theorem setOptic_pon (i : Nat) (v : TreeOptics) : (s.setOptic i v).pon = s.pon := rfl
@[simp] theorem setOptic_dba (i : Nat) (v : TreeOptics) : (s.setOptic i v).dba = s.dba := rfl
@[simp] theorem setOptic_cipher (i : Nat) (v : TreeOptics) : (s.setOptic i v).cipher = s.cipher := rfl
@[simp] theorem setOptic_prot (i : Nat) (v : TreeOptics) : (s.setOptic i v).prot = s.prot := rfl
@[simp] theorem setOptic_fwd (i : Nat) (v : TreeOptics) : (s.setOptic i v).fwd = s.fwd := rfl
@[simp] theorem setOptic_laneTest (i : Nat) (v : TreeOptics) : (s.setOptic i v).laneTest = s.laneTest := rfl
@[simp] theorem setOptic_tap (i : Nat) (v : TreeOptics) : (s.setOptic i v).tap = s.tap := rfl
@[simp] theorem setOptic_outbox (i : Nat) (v : TreeOptics) : (s.setOptic i v).outbox = s.outbox := rfl
@[simp] theorem setOptic_free (i : Nat) (v : TreeOptics) : (s.setOptic i v).free = s.free := rfl
/-- Every other reading. -/
@[simp] theorem setOptic_reads (i : Nat) (v : TreeOptics) :
    (∀ n, (s.setOptic i v).chan n = s.chan n) ∧ (∀ n, (s.setOptic i v).term n = s.term n) ∧ (∀ n, (s.setOptic i v).ln n = s.ln n) ∧
    (∀ n, (s.setOptic i v).bm n = s.bm n) ∧ (∀ n, (s.setOptic i v).master n = s.master n) ∧ (∀ n, (s.setOptic i v).alloc n = s.alloc n) ∧
    (∀ n, (s.setOptic i v).gem n = s.gem n) ∧ (∀ n, (s.setOptic i v).line n = s.line n) ∧ (∀ n, (s.setOptic i v).pair n = s.pair n) ∧
    (∀ n, (s.setOptic i v).slot n = s.slot n) ∧ (∀ n, (s.setOptic i v).token n = s.token n) ∧ (∀ n, (s.setOptic i v).stream n = s.stream n) ∧
    (∀ n, (s.setOptic i v).tlane n = s.tlane n) ∧ (∀ n, (s.setOptic i v).unit n = s.unit n) ∧ (∀ n, (s.setOptic i v).handler n = s.handler n) ∧
    (∀ n, (s.setOptic i v).mbox n = s.mbox n) ∧ (∀ n, (s.setOptic i v).ch n = s.ch n) ∧ (∀ n, (s.setOptic i v).role n = s.role n) ∧
    (∀ n, (s.setOptic i v).dq n = s.dq n) ∧ (∀ n, (s.setOptic i v).uq n = s.uq n) ∧ (∀ n, (s.setOptic i v).pool n = s.pool n) ∧
    (∀ n, (s.setOptic i v).mac n = s.mac n) ∧ (∀ n, (s.setOptic i v).table n = s.table n) ∧ (∀ n, (s.setOptic i v).dramCh n = s.dramCh n) ∧
    (∀ n, (s.setOptic i v).buf n = s.buf n) ∧ (∀ n, (s.setOptic i v).gate n = s.gate n) ∧ (∀ p n, (s.setOptic i v).get p n = s.get p n) ∧
    (∀ p n, (s.setOptic i v).getN p n = s.getN p n) ∧ (∀ p n, (s.setOptic i v).getF p n = s.getF p n) ∧
    (∀ p n, (s.setOptic i v).ro p n = s.ro p n) ∧ (s.setOptic i v).now = s.now ∧ (s.setOptic i v).up = s.up := by
  and_intros <;> intros <;> rfl

/-! ### setBm -/

@[simp] theorem setBm_pending (i : Nat) (v : BmEntry) : (s.setBm i v).pending = s.pending := rfl
@[simp] theorem setBm_time (i : Nat) (v : BmEntry) : (s.setBm i v).time = s.time := rfl
@[simp] theorem setBm_clk (i : Nat) (v : BmEntry) : (s.setBm i v).clk = s.clk := rfl
@[simp] theorem setBm_par (i : Nat) (v : BmEntry) : (s.setBm i v).par = s.par := rfl
@[simp] theorem setBm_mb (i : Nat) (v : BmEntry) : (s.setBm i v).mb = s.mb := rfl
@[simp] theorem setBm_accepted (i : Nat) (v : BmEntry) : (s.setBm i v).accepted = s.accepted := rfl
@[simp] theorem setBm_roles (i : Nat) (v : BmEntry) : (s.setBm i v).roles = s.roles := rfl
@[simp] theorem setBm_fw (i : Nat) (v : BmEntry) : (s.setBm i v).fw = s.fw := rfl
@[simp] theorem setBm_host (i : Nat) (v : BmEntry) : (s.setBm i v).host = s.host := rfl
@[simp] theorem setBm_ev (i : Nat) (v : BmEntry) : (s.setBm i v).ev = s.ev := rfl
@[simp] theorem setBm_power (i : Nat) (v : BmEntry) : (s.setBm i v).power = s.power := rfl
@[simp] theorem setBm_dramBytes (i : Nat) (v : BmEntry) : (s.setBm i v).dramBytes = s.dramBytes := rfl
@[simp] theorem setBm_pace (i : Nat) (v : BmEntry) : (s.setBm i v).pace = s.pace := rfl
@[simp] theorem setBm_units (i : Nat) (v : BmEntry) : (s.setBm i v).units = s.units := rfl
@[simp] theorem setBm_reports (i : Nat) (v : BmEntry) : (s.setBm i v).reports = s.reports := rfl
@[simp] theorem setBm_fault (i : Nat) (v : BmEntry) : (s.setBm i v).fault = s.fault := rfl
@[simp] theorem setBm_terms (i : Nat) (v : BmEntry) : (s.setBm i v).terms = s.terms := rfl
@[simp] theorem setBm_chans (i : Nat) (v : BmEntry) : (s.setBm i v).chans = s.chans := rfl
@[simp] theorem setBm_pon (i : Nat) (v : BmEntry) : (s.setBm i v).pon = s.pon := rfl
@[simp] theorem setBm_dba (i : Nat) (v : BmEntry) : (s.setBm i v).dba = s.dba := rfl
@[simp] theorem setBm_cipher (i : Nat) (v : BmEntry) : (s.setBm i v).cipher = s.cipher := rfl
@[simp] theorem setBm_prot (i : Nat) (v : BmEntry) : (s.setBm i v).prot = s.prot := rfl
@[simp] theorem setBm_fwd (i : Nat) (v : BmEntry) : (s.setBm i v).fwd = s.fwd := rfl
@[simp] theorem setBm_laneTest (i : Nat) (v : BmEntry) : (s.setBm i v).laneTest = s.laneTest := rfl
@[simp] theorem setBm_tap (i : Nat) (v : BmEntry) : (s.setBm i v).tap = s.tap := rfl
@[simp] theorem setBm_outbox (i : Nat) (v : BmEntry) : (s.setBm i v).outbox = s.outbox := rfl
@[simp] theorem setBm_free (i : Nat) (v : BmEntry) : (s.setBm i v).free = s.free := rfl
/-- Every other reading. -/
@[simp] theorem setBm_reads (i : Nat) (v : BmEntry) :
    (∀ n, (s.setBm i v).chan n = s.chan n) ∧ (∀ n, (s.setBm i v).term n = s.term n) ∧ (∀ n, (s.setBm i v).ln n = s.ln n) ∧
    (∀ n, (s.setBm i v).optic n = s.optic n) ∧ (∀ n, (s.setBm i v).master n = s.master n) ∧ (∀ n, (s.setBm i v).alloc n = s.alloc n) ∧
    (∀ n, (s.setBm i v).gem n = s.gem n) ∧ (∀ n, (s.setBm i v).line n = s.line n) ∧ (∀ n, (s.setBm i v).pair n = s.pair n) ∧
    (∀ n, (s.setBm i v).slot n = s.slot n) ∧ (∀ n, (s.setBm i v).token n = s.token n) ∧ (∀ n, (s.setBm i v).stream n = s.stream n) ∧
    (∀ n, (s.setBm i v).tlane n = s.tlane n) ∧ (∀ n, (s.setBm i v).unit n = s.unit n) ∧ (∀ n, (s.setBm i v).handler n = s.handler n) ∧
    (∀ n, (s.setBm i v).mbox n = s.mbox n) ∧ (∀ n, (s.setBm i v).ch n = s.ch n) ∧ (∀ n, (s.setBm i v).role n = s.role n) ∧
    (∀ n, (s.setBm i v).dq n = s.dq n) ∧ (∀ n, (s.setBm i v).uq n = s.uq n) ∧ (∀ n, (s.setBm i v).pool n = s.pool n) ∧
    (∀ n, (s.setBm i v).mac n = s.mac n) ∧ (∀ n, (s.setBm i v).table n = s.table n) ∧ (∀ n, (s.setBm i v).dramCh n = s.dramCh n) ∧
    (∀ n, (s.setBm i v).buf n = s.buf n) ∧ (∀ n, (s.setBm i v).gate n = s.gate n) ∧ (∀ p n, (s.setBm i v).get p n = s.get p n) ∧
    (∀ p n, (s.setBm i v).getN p n = s.getN p n) ∧ (∀ p n, (s.setBm i v).getF p n = s.getF p n) ∧ (∀ p n, (s.setBm i v).ro p n = s.ro p n) ∧
    (s.setBm i v).now = s.now ∧ (s.setBm i v).up = s.up := by
  and_intros <;> intros <;> rfl

/-! ### setMaster -/

@[simp] theorem setMaster_pending (i : Nat) (v : Master) : (s.setMaster i v).pending = s.pending := rfl
@[simp] theorem setMaster_time (i : Nat) (v : Master) : (s.setMaster i v).time = s.time := rfl
@[simp] theorem setMaster_clk (i : Nat) (v : Master) : (s.setMaster i v).clk = s.clk := rfl
@[simp] theorem setMaster_par (i : Nat) (v : Master) : (s.setMaster i v).par = s.par := rfl
@[simp] theorem setMaster_mb (i : Nat) (v : Master) : (s.setMaster i v).mb = s.mb := rfl
@[simp] theorem setMaster_accepted (i : Nat) (v : Master) : (s.setMaster i v).accepted = s.accepted := rfl
@[simp] theorem setMaster_roles (i : Nat) (v : Master) : (s.setMaster i v).roles = s.roles := rfl
@[simp] theorem setMaster_fw (i : Nat) (v : Master) : (s.setMaster i v).fw = s.fw := rfl
@[simp] theorem setMaster_host (i : Nat) (v : Master) : (s.setMaster i v).host = s.host := rfl
@[simp] theorem setMaster_ev (i : Nat) (v : Master) : (s.setMaster i v).ev = s.ev := rfl
@[simp] theorem setMaster_power (i : Nat) (v : Master) : (s.setMaster i v).power = s.power := rfl
@[simp] theorem setMaster_dramBytes (i : Nat) (v : Master) : (s.setMaster i v).dramBytes = s.dramBytes := rfl
@[simp] theorem setMaster_pace (i : Nat) (v : Master) : (s.setMaster i v).pace = s.pace := rfl
@[simp] theorem setMaster_units (i : Nat) (v : Master) : (s.setMaster i v).units = s.units := rfl
@[simp] theorem setMaster_reports (i : Nat) (v : Master) : (s.setMaster i v).reports = s.reports := rfl
@[simp] theorem setMaster_fault (i : Nat) (v : Master) : (s.setMaster i v).fault = s.fault := rfl
@[simp] theorem setMaster_terms (i : Nat) (v : Master) : (s.setMaster i v).terms = s.terms := rfl
@[simp] theorem setMaster_chans (i : Nat) (v : Master) : (s.setMaster i v).chans = s.chans := rfl
@[simp] theorem setMaster_pon (i : Nat) (v : Master) : (s.setMaster i v).pon = s.pon := rfl
@[simp] theorem setMaster_dba (i : Nat) (v : Master) : (s.setMaster i v).dba = s.dba := rfl
@[simp] theorem setMaster_cipher (i : Nat) (v : Master) : (s.setMaster i v).cipher = s.cipher := rfl
@[simp] theorem setMaster_prot (i : Nat) (v : Master) : (s.setMaster i v).prot = s.prot := rfl
@[simp] theorem setMaster_fwd (i : Nat) (v : Master) : (s.setMaster i v).fwd = s.fwd := rfl
@[simp] theorem setMaster_laneTest (i : Nat) (v : Master) : (s.setMaster i v).laneTest = s.laneTest := rfl
@[simp] theorem setMaster_tap (i : Nat) (v : Master) : (s.setMaster i v).tap = s.tap := rfl
@[simp] theorem setMaster_outbox (i : Nat) (v : Master) : (s.setMaster i v).outbox = s.outbox := rfl
@[simp] theorem setMaster_free (i : Nat) (v : Master) : (s.setMaster i v).free = s.free := rfl
/-- Every other reading. -/
@[simp] theorem setMaster_reads (i : Nat) (v : Master) :
    (∀ n, (s.setMaster i v).chan n = s.chan n) ∧ (∀ n, (s.setMaster i v).term n = s.term n) ∧ (∀ n, (s.setMaster i v).ln n = s.ln n) ∧
    (∀ n, (s.setMaster i v).optic n = s.optic n) ∧ (∀ n, (s.setMaster i v).bm n = s.bm n) ∧ (∀ n, (s.setMaster i v).alloc n = s.alloc n) ∧
    (∀ n, (s.setMaster i v).gem n = s.gem n) ∧ (∀ n, (s.setMaster i v).line n = s.line n) ∧ (∀ n, (s.setMaster i v).pair n = s.pair n) ∧
    (∀ n, (s.setMaster i v).slot n = s.slot n) ∧ (∀ n, (s.setMaster i v).token n = s.token n) ∧ (∀ n, (s.setMaster i v).stream n = s.stream n) ∧
    (∀ n, (s.setMaster i v).tlane n = s.tlane n) ∧ (∀ n, (s.setMaster i v).unit n = s.unit n) ∧
    (∀ n, (s.setMaster i v).handler n = s.handler n) ∧ (∀ n, (s.setMaster i v).mbox n = s.mbox n) ∧ (∀ n, (s.setMaster i v).ch n = s.ch n) ∧
    (∀ n, (s.setMaster i v).role n = s.role n) ∧ (∀ n, (s.setMaster i v).dq n = s.dq n) ∧ (∀ n, (s.setMaster i v).uq n = s.uq n) ∧
    (∀ n, (s.setMaster i v).pool n = s.pool n) ∧ (∀ n, (s.setMaster i v).mac n = s.mac n) ∧ (∀ n, (s.setMaster i v).table n = s.table n) ∧
    (∀ n, (s.setMaster i v).dramCh n = s.dramCh n) ∧ (∀ n, (s.setMaster i v).buf n = s.buf n) ∧ (∀ n, (s.setMaster i v).gate n = s.gate n) ∧
    (∀ p n, (s.setMaster i v).get p n = s.get p n) ∧ (∀ p n, (s.setMaster i v).getN p n = s.getN p n) ∧
    (∀ p n, (s.setMaster i v).getF p n = s.getF p n) ∧ (∀ p n, (s.setMaster i v).ro p n = s.ro p n) ∧ (s.setMaster i v).now = s.now ∧
    (s.setMaster i v).up = s.up := by
  and_intros <;> intros <;> rfl

/-! ### setAlloc -/

@[simp] theorem setAlloc_pending (i : Nat) (v : Alloc) : (s.setAlloc i v).pending = s.pending := rfl
@[simp] theorem setAlloc_time (i : Nat) (v : Alloc) : (s.setAlloc i v).time = s.time := rfl
@[simp] theorem setAlloc_clk (i : Nat) (v : Alloc) : (s.setAlloc i v).clk = s.clk := rfl
@[simp] theorem setAlloc_par (i : Nat) (v : Alloc) : (s.setAlloc i v).par = s.par := rfl
@[simp] theorem setAlloc_mb (i : Nat) (v : Alloc) : (s.setAlloc i v).mb = s.mb := rfl
@[simp] theorem setAlloc_accepted (i : Nat) (v : Alloc) : (s.setAlloc i v).accepted = s.accepted := rfl
@[simp] theorem setAlloc_roles (i : Nat) (v : Alloc) : (s.setAlloc i v).roles = s.roles := rfl
@[simp] theorem setAlloc_fw (i : Nat) (v : Alloc) : (s.setAlloc i v).fw = s.fw := rfl
@[simp] theorem setAlloc_host (i : Nat) (v : Alloc) : (s.setAlloc i v).host = s.host := rfl
@[simp] theorem setAlloc_ev (i : Nat) (v : Alloc) : (s.setAlloc i v).ev = s.ev := rfl
@[simp] theorem setAlloc_power (i : Nat) (v : Alloc) : (s.setAlloc i v).power = s.power := rfl
@[simp] theorem setAlloc_dramBytes (i : Nat) (v : Alloc) : (s.setAlloc i v).dramBytes = s.dramBytes := rfl
@[simp] theorem setAlloc_pace (i : Nat) (v : Alloc) : (s.setAlloc i v).pace = s.pace := rfl
@[simp] theorem setAlloc_units (i : Nat) (v : Alloc) : (s.setAlloc i v).units = s.units := rfl
@[simp] theorem setAlloc_reports (i : Nat) (v : Alloc) : (s.setAlloc i v).reports = s.reports := rfl
@[simp] theorem setAlloc_fault (i : Nat) (v : Alloc) : (s.setAlloc i v).fault = s.fault := rfl
@[simp] theorem setAlloc_lanes (i : Nat) (v : Alloc) : (s.setAlloc i v).lanes = s.lanes := rfl
@[simp] theorem setAlloc_terms (i : Nat) (v : Alloc) : (s.setAlloc i v).terms = s.terms := rfl
@[simp] theorem setAlloc_chans (i : Nat) (v : Alloc) : (s.setAlloc i v).chans = s.chans := rfl
@[simp] theorem setAlloc_pon (i : Nat) (v : Alloc) : (s.setAlloc i v).pon = s.pon := rfl
@[simp] theorem setAlloc_cipher (i : Nat) (v : Alloc) : (s.setAlloc i v).cipher = s.cipher := rfl
@[simp] theorem setAlloc_prot (i : Nat) (v : Alloc) : (s.setAlloc i v).prot = s.prot := rfl
@[simp] theorem setAlloc_fwd (i : Nat) (v : Alloc) : (s.setAlloc i v).fwd = s.fwd := rfl
@[simp] theorem setAlloc_laneTest (i : Nat) (v : Alloc) : (s.setAlloc i v).laneTest = s.laneTest := rfl
@[simp] theorem setAlloc_tap (i : Nat) (v : Alloc) : (s.setAlloc i v).tap = s.tap := rfl
@[simp] theorem setAlloc_outbox (i : Nat) (v : Alloc) : (s.setAlloc i v).outbox = s.outbox := rfl
@[simp] theorem setAlloc_free (i : Nat) (v : Alloc) : (s.setAlloc i v).free = s.free := rfl
/-- Every other reading. -/
@[simp] theorem setAlloc_reads (i : Nat) (v : Alloc) :
    (∀ n, (s.setAlloc i v).chan n = s.chan n) ∧ (∀ n, (s.setAlloc i v).term n = s.term n) ∧ (∀ n, (s.setAlloc i v).ln n = s.ln n) ∧
    (∀ n, (s.setAlloc i v).optic n = s.optic n) ∧ (∀ n, (s.setAlloc i v).bm n = s.bm n) ∧ (∀ n, (s.setAlloc i v).master n = s.master n) ∧
    (∀ n, (s.setAlloc i v).gem n = s.gem n) ∧ (∀ n, (s.setAlloc i v).line n = s.line n) ∧ (∀ n, (s.setAlloc i v).pair n = s.pair n) ∧
    (∀ n, (s.setAlloc i v).slot n = s.slot n) ∧ (∀ n, (s.setAlloc i v).token n = s.token n) ∧ (∀ n, (s.setAlloc i v).stream n = s.stream n) ∧
    (∀ n, (s.setAlloc i v).tlane n = s.tlane n) ∧ (∀ n, (s.setAlloc i v).unit n = s.unit n) ∧ (∀ n, (s.setAlloc i v).handler n = s.handler n) ∧
    (∀ n, (s.setAlloc i v).mbox n = s.mbox n) ∧ (∀ n, (s.setAlloc i v).ch n = s.ch n) ∧ (∀ n, (s.setAlloc i v).role n = s.role n) ∧
    (∀ n, (s.setAlloc i v).dq n = s.dq n) ∧ (∀ n, (s.setAlloc i v).uq n = s.uq n) ∧ (∀ n, (s.setAlloc i v).pool n = s.pool n) ∧
    (∀ n, (s.setAlloc i v).mac n = s.mac n) ∧ (∀ n, (s.setAlloc i v).table n = s.table n) ∧ (∀ n, (s.setAlloc i v).dramCh n = s.dramCh n) ∧
    (∀ n, (s.setAlloc i v).buf n = s.buf n) ∧ (∀ n, (s.setAlloc i v).gate n = s.gate n) ∧ (∀ p n, (s.setAlloc i v).get p n = s.get p n) ∧
    (∀ p n, (s.setAlloc i v).getN p n = s.getN p n) ∧ (∀ p n, (s.setAlloc i v).getF p n = s.getF p n) ∧
    (∀ p n, (s.setAlloc i v).ro p n = s.ro p n) ∧ (s.setAlloc i v).now = s.now ∧ (s.setAlloc i v).up = s.up := by
  and_intros <;> intros <;> rfl

/-! ### setGem -/

@[simp] theorem setGem_pending (i : Nat) (v : GemEntry) : (s.setGem i v).pending = s.pending := rfl
@[simp] theorem setGem_time (i : Nat) (v : GemEntry) : (s.setGem i v).time = s.time := rfl
@[simp] theorem setGem_clk (i : Nat) (v : GemEntry) : (s.setGem i v).clk = s.clk := rfl
@[simp] theorem setGem_par (i : Nat) (v : GemEntry) : (s.setGem i v).par = s.par := rfl
@[simp] theorem setGem_mb (i : Nat) (v : GemEntry) : (s.setGem i v).mb = s.mb := rfl
@[simp] theorem setGem_accepted (i : Nat) (v : GemEntry) : (s.setGem i v).accepted = s.accepted := rfl
@[simp] theorem setGem_roles (i : Nat) (v : GemEntry) : (s.setGem i v).roles = s.roles := rfl
@[simp] theorem setGem_fw (i : Nat) (v : GemEntry) : (s.setGem i v).fw = s.fw := rfl
@[simp] theorem setGem_host (i : Nat) (v : GemEntry) : (s.setGem i v).host = s.host := rfl
@[simp] theorem setGem_ev (i : Nat) (v : GemEntry) : (s.setGem i v).ev = s.ev := rfl
@[simp] theorem setGem_power (i : Nat) (v : GemEntry) : (s.setGem i v).power = s.power := rfl
@[simp] theorem setGem_dramBytes (i : Nat) (v : GemEntry) : (s.setGem i v).dramBytes = s.dramBytes := rfl
@[simp] theorem setGem_pace (i : Nat) (v : GemEntry) : (s.setGem i v).pace = s.pace := rfl
@[simp] theorem setGem_units (i : Nat) (v : GemEntry) : (s.setGem i v).units = s.units := rfl
@[simp] theorem setGem_reports (i : Nat) (v : GemEntry) : (s.setGem i v).reports = s.reports := rfl
@[simp] theorem setGem_fault (i : Nat) (v : GemEntry) : (s.setGem i v).fault = s.fault := rfl
@[simp] theorem setGem_lanes (i : Nat) (v : GemEntry) : (s.setGem i v).lanes = s.lanes := rfl
@[simp] theorem setGem_terms (i : Nat) (v : GemEntry) : (s.setGem i v).terms = s.terms := rfl
@[simp] theorem setGem_chans (i : Nat) (v : GemEntry) : (s.setGem i v).chans = s.chans := rfl
@[simp] theorem setGem_dba (i : Nat) (v : GemEntry) : (s.setGem i v).dba = s.dba := rfl
@[simp] theorem setGem_cipher (i : Nat) (v : GemEntry) : (s.setGem i v).cipher = s.cipher := rfl
@[simp] theorem setGem_prot (i : Nat) (v : GemEntry) : (s.setGem i v).prot = s.prot := rfl
@[simp] theorem setGem_fwd (i : Nat) (v : GemEntry) : (s.setGem i v).fwd = s.fwd := rfl
@[simp] theorem setGem_laneTest (i : Nat) (v : GemEntry) : (s.setGem i v).laneTest = s.laneTest := rfl
@[simp] theorem setGem_tap (i : Nat) (v : GemEntry) : (s.setGem i v).tap = s.tap := rfl
@[simp] theorem setGem_outbox (i : Nat) (v : GemEntry) : (s.setGem i v).outbox = s.outbox := rfl
@[simp] theorem setGem_free (i : Nat) (v : GemEntry) : (s.setGem i v).free = s.free := rfl
/-- Every other reading. -/
@[simp] theorem setGem_reads (i : Nat) (v : GemEntry) :
    (∀ n, (s.setGem i v).chan n = s.chan n) ∧ (∀ n, (s.setGem i v).term n = s.term n) ∧ (∀ n, (s.setGem i v).ln n = s.ln n) ∧
    (∀ n, (s.setGem i v).optic n = s.optic n) ∧ (∀ n, (s.setGem i v).bm n = s.bm n) ∧ (∀ n, (s.setGem i v).master n = s.master n) ∧
    (∀ n, (s.setGem i v).alloc n = s.alloc n) ∧ (∀ n, (s.setGem i v).line n = s.line n) ∧ (∀ n, (s.setGem i v).pair n = s.pair n) ∧
    (∀ n, (s.setGem i v).slot n = s.slot n) ∧ (∀ n, (s.setGem i v).token n = s.token n) ∧ (∀ n, (s.setGem i v).stream n = s.stream n) ∧
    (∀ n, (s.setGem i v).tlane n = s.tlane n) ∧ (∀ n, (s.setGem i v).unit n = s.unit n) ∧ (∀ n, (s.setGem i v).handler n = s.handler n) ∧
    (∀ n, (s.setGem i v).mbox n = s.mbox n) ∧ (∀ n, (s.setGem i v).ch n = s.ch n) ∧ (∀ n, (s.setGem i v).role n = s.role n) ∧
    (∀ n, (s.setGem i v).dq n = s.dq n) ∧ (∀ n, (s.setGem i v).uq n = s.uq n) ∧ (∀ n, (s.setGem i v).pool n = s.pool n) ∧
    (∀ n, (s.setGem i v).mac n = s.mac n) ∧ (∀ n, (s.setGem i v).table n = s.table n) ∧ (∀ n, (s.setGem i v).dramCh n = s.dramCh n) ∧
    (∀ n, (s.setGem i v).buf n = s.buf n) ∧ (∀ n, (s.setGem i v).gate n = s.gate n) ∧ (∀ p n, (s.setGem i v).get p n = s.get p n) ∧
    (∀ p n, (s.setGem i v).getN p n = s.getN p n) ∧ (∀ p n, (s.setGem i v).getF p n = s.getF p n) ∧ (∀ p n, (s.setGem i v).ro p n = s.ro p n) ∧
    (s.setGem i v).now = s.now ∧ (s.setGem i v).up = s.up := by
  and_intros <;> intros <;> rfl

/-! ### setLine -/

@[simp] theorem setLine_pending (i : Nat) (v : LineState) : (s.setLine i v).pending = s.pending := rfl
@[simp] theorem setLine_time (i : Nat) (v : LineState) : (s.setLine i v).time = s.time := rfl
@[simp] theorem setLine_clk (i : Nat) (v : LineState) : (s.setLine i v).clk = s.clk := rfl
@[simp] theorem setLine_par (i : Nat) (v : LineState) : (s.setLine i v).par = s.par := rfl
@[simp] theorem setLine_mb (i : Nat) (v : LineState) : (s.setLine i v).mb = s.mb := rfl
@[simp] theorem setLine_accepted (i : Nat) (v : LineState) : (s.setLine i v).accepted = s.accepted := rfl
@[simp] theorem setLine_roles (i : Nat) (v : LineState) : (s.setLine i v).roles = s.roles := rfl
@[simp] theorem setLine_fw (i : Nat) (v : LineState) : (s.setLine i v).fw = s.fw := rfl
@[simp] theorem setLine_host (i : Nat) (v : LineState) : (s.setLine i v).host = s.host := rfl
@[simp] theorem setLine_ev (i : Nat) (v : LineState) : (s.setLine i v).ev = s.ev := rfl
@[simp] theorem setLine_power (i : Nat) (v : LineState) : (s.setLine i v).power = s.power := rfl
@[simp] theorem setLine_dramBytes (i : Nat) (v : LineState) : (s.setLine i v).dramBytes = s.dramBytes := rfl
@[simp] theorem setLine_pace (i : Nat) (v : LineState) : (s.setLine i v).pace = s.pace := rfl
@[simp] theorem setLine_units (i : Nat) (v : LineState) : (s.setLine i v).units = s.units := rfl
@[simp] theorem setLine_reports (i : Nat) (v : LineState) : (s.setLine i v).reports = s.reports := rfl
@[simp] theorem setLine_fault (i : Nat) (v : LineState) : (s.setLine i v).fault = s.fault := rfl
@[simp] theorem setLine_lanes (i : Nat) (v : LineState) : (s.setLine i v).lanes = s.lanes := rfl
@[simp] theorem setLine_terms (i : Nat) (v : LineState) : (s.setLine i v).terms = s.terms := rfl
@[simp] theorem setLine_chans (i : Nat) (v : LineState) : (s.setLine i v).chans = s.chans := rfl
@[simp] theorem setLine_dba (i : Nat) (v : LineState) : (s.setLine i v).dba = s.dba := rfl
@[simp] theorem setLine_cipher (i : Nat) (v : LineState) : (s.setLine i v).cipher = s.cipher := rfl
@[simp] theorem setLine_prot (i : Nat) (v : LineState) : (s.setLine i v).prot = s.prot := rfl
@[simp] theorem setLine_fwd (i : Nat) (v : LineState) : (s.setLine i v).fwd = s.fwd := rfl
@[simp] theorem setLine_laneTest (i : Nat) (v : LineState) : (s.setLine i v).laneTest = s.laneTest := rfl
@[simp] theorem setLine_tap (i : Nat) (v : LineState) : (s.setLine i v).tap = s.tap := rfl
@[simp] theorem setLine_outbox (i : Nat) (v : LineState) : (s.setLine i v).outbox = s.outbox := rfl
@[simp] theorem setLine_free (i : Nat) (v : LineState) : (s.setLine i v).free = s.free := rfl
/-- Every other reading. -/
@[simp] theorem setLine_reads (i : Nat) (v : LineState) :
    (∀ n, (s.setLine i v).chan n = s.chan n) ∧ (∀ n, (s.setLine i v).term n = s.term n) ∧ (∀ n, (s.setLine i v).ln n = s.ln n) ∧
    (∀ n, (s.setLine i v).optic n = s.optic n) ∧ (∀ n, (s.setLine i v).bm n = s.bm n) ∧ (∀ n, (s.setLine i v).master n = s.master n) ∧
    (∀ n, (s.setLine i v).alloc n = s.alloc n) ∧ (∀ n, (s.setLine i v).gem n = s.gem n) ∧ (∀ n, (s.setLine i v).pair n = s.pair n) ∧
    (∀ n, (s.setLine i v).slot n = s.slot n) ∧ (∀ n, (s.setLine i v).token n = s.token n) ∧ (∀ n, (s.setLine i v).stream n = s.stream n) ∧
    (∀ n, (s.setLine i v).tlane n = s.tlane n) ∧ (∀ n, (s.setLine i v).unit n = s.unit n) ∧ (∀ n, (s.setLine i v).handler n = s.handler n) ∧
    (∀ n, (s.setLine i v).mbox n = s.mbox n) ∧ (∀ n, (s.setLine i v).ch n = s.ch n) ∧ (∀ n, (s.setLine i v).role n = s.role n) ∧
    (∀ n, (s.setLine i v).dq n = s.dq n) ∧ (∀ n, (s.setLine i v).uq n = s.uq n) ∧ (∀ n, (s.setLine i v).pool n = s.pool n) ∧
    (∀ n, (s.setLine i v).mac n = s.mac n) ∧ (∀ n, (s.setLine i v).table n = s.table n) ∧ (∀ n, (s.setLine i v).dramCh n = s.dramCh n) ∧
    (∀ n, (s.setLine i v).buf n = s.buf n) ∧ (∀ n, (s.setLine i v).gate n = s.gate n) ∧ (∀ p n, (s.setLine i v).get p n = s.get p n) ∧
    (∀ p n, (s.setLine i v).getN p n = s.getN p n) ∧ (∀ p n, (s.setLine i v).getF p n = s.getF p n) ∧
    (∀ p n, (s.setLine i v).ro p n = s.ro p n) ∧ (s.setLine i v).now = s.now ∧ (s.setLine i v).up = s.up := by
  and_intros <;> intros <;> rfl

/-! ### setPair -/

@[simp] theorem setPair_pending (i : Nat) (v : KeyPair) : (s.setPair i v).pending = s.pending := rfl
@[simp] theorem setPair_time (i : Nat) (v : KeyPair) : (s.setPair i v).time = s.time := rfl
@[simp] theorem setPair_clk (i : Nat) (v : KeyPair) : (s.setPair i v).clk = s.clk := rfl
@[simp] theorem setPair_par (i : Nat) (v : KeyPair) : (s.setPair i v).par = s.par := rfl
@[simp] theorem setPair_mb (i : Nat) (v : KeyPair) : (s.setPair i v).mb = s.mb := rfl
@[simp] theorem setPair_accepted (i : Nat) (v : KeyPair) : (s.setPair i v).accepted = s.accepted := rfl
@[simp] theorem setPair_roles (i : Nat) (v : KeyPair) : (s.setPair i v).roles = s.roles := rfl
@[simp] theorem setPair_fw (i : Nat) (v : KeyPair) : (s.setPair i v).fw = s.fw := rfl
@[simp] theorem setPair_host (i : Nat) (v : KeyPair) : (s.setPair i v).host = s.host := rfl
@[simp] theorem setPair_ev (i : Nat) (v : KeyPair) : (s.setPair i v).ev = s.ev := rfl
@[simp] theorem setPair_power (i : Nat) (v : KeyPair) : (s.setPair i v).power = s.power := rfl
@[simp] theorem setPair_dramBytes (i : Nat) (v : KeyPair) : (s.setPair i v).dramBytes = s.dramBytes := rfl
@[simp] theorem setPair_pace (i : Nat) (v : KeyPair) : (s.setPair i v).pace = s.pace := rfl
@[simp] theorem setPair_units (i : Nat) (v : KeyPair) : (s.setPair i v).units = s.units := rfl
@[simp] theorem setPair_reports (i : Nat) (v : KeyPair) : (s.setPair i v).reports = s.reports := rfl
@[simp] theorem setPair_fault (i : Nat) (v : KeyPair) : (s.setPair i v).fault = s.fault := rfl
@[simp] theorem setPair_lanes (i : Nat) (v : KeyPair) : (s.setPair i v).lanes = s.lanes := rfl
@[simp] theorem setPair_terms (i : Nat) (v : KeyPair) : (s.setPair i v).terms = s.terms := rfl
@[simp] theorem setPair_chans (i : Nat) (v : KeyPair) : (s.setPair i v).chans = s.chans := rfl
@[simp] theorem setPair_pon (i : Nat) (v : KeyPair) : (s.setPair i v).pon = s.pon := rfl
@[simp] theorem setPair_dba (i : Nat) (v : KeyPair) : (s.setPair i v).dba = s.dba := rfl
@[simp] theorem setPair_prot (i : Nat) (v : KeyPair) : (s.setPair i v).prot = s.prot := rfl
@[simp] theorem setPair_fwd (i : Nat) (v : KeyPair) : (s.setPair i v).fwd = s.fwd := rfl
@[simp] theorem setPair_laneTest (i : Nat) (v : KeyPair) : (s.setPair i v).laneTest = s.laneTest := rfl
@[simp] theorem setPair_tap (i : Nat) (v : KeyPair) : (s.setPair i v).tap = s.tap := rfl
@[simp] theorem setPair_outbox (i : Nat) (v : KeyPair) : (s.setPair i v).outbox = s.outbox := rfl
@[simp] theorem setPair_free (i : Nat) (v : KeyPair) : (s.setPair i v).free = s.free := rfl
/-- Every other reading. -/
@[simp] theorem setPair_reads (i : Nat) (v : KeyPair) :
    (∀ n, (s.setPair i v).chan n = s.chan n) ∧ (∀ n, (s.setPair i v).term n = s.term n) ∧ (∀ n, (s.setPair i v).ln n = s.ln n) ∧
    (∀ n, (s.setPair i v).optic n = s.optic n) ∧ (∀ n, (s.setPair i v).bm n = s.bm n) ∧ (∀ n, (s.setPair i v).master n = s.master n) ∧
    (∀ n, (s.setPair i v).alloc n = s.alloc n) ∧ (∀ n, (s.setPair i v).gem n = s.gem n) ∧ (∀ n, (s.setPair i v).line n = s.line n) ∧
    (∀ n, (s.setPair i v).slot n = s.slot n) ∧ (∀ n, (s.setPair i v).token n = s.token n) ∧ (∀ n, (s.setPair i v).stream n = s.stream n) ∧
    (∀ n, (s.setPair i v).tlane n = s.tlane n) ∧ (∀ n, (s.setPair i v).unit n = s.unit n) ∧ (∀ n, (s.setPair i v).handler n = s.handler n) ∧
    (∀ n, (s.setPair i v).mbox n = s.mbox n) ∧ (∀ n, (s.setPair i v).ch n = s.ch n) ∧ (∀ n, (s.setPair i v).role n = s.role n) ∧
    (∀ n, (s.setPair i v).dq n = s.dq n) ∧ (∀ n, (s.setPair i v).uq n = s.uq n) ∧ (∀ n, (s.setPair i v).pool n = s.pool n) ∧
    (∀ n, (s.setPair i v).mac n = s.mac n) ∧ (∀ n, (s.setPair i v).table n = s.table n) ∧ (∀ n, (s.setPair i v).dramCh n = s.dramCh n) ∧
    (∀ n, (s.setPair i v).buf n = s.buf n) ∧ (∀ n, (s.setPair i v).gate n = s.gate n) ∧ (∀ p n, (s.setPair i v).get p n = s.get p n) ∧
    (∀ p n, (s.setPair i v).getN p n = s.getN p n) ∧ (∀ p n, (s.setPair i v).getF p n = s.getF p n) ∧
    (∀ p n, (s.setPair i v).ro p n = s.ro p n) ∧ (s.setPair i v).now = s.now ∧ (s.setPair i v).up = s.up := by
  and_intros <;> intros <;> rfl

/-! ### setSlot -/

@[simp] theorem setSlot_pending (i : Nat) (v : KeySlot) : (s.setSlot i v).pending = s.pending := rfl
@[simp] theorem setSlot_time (i : Nat) (v : KeySlot) : (s.setSlot i v).time = s.time := rfl
@[simp] theorem setSlot_clk (i : Nat) (v : KeySlot) : (s.setSlot i v).clk = s.clk := rfl
@[simp] theorem setSlot_par (i : Nat) (v : KeySlot) : (s.setSlot i v).par = s.par := rfl
@[simp] theorem setSlot_mb (i : Nat) (v : KeySlot) : (s.setSlot i v).mb = s.mb := rfl
@[simp] theorem setSlot_accepted (i : Nat) (v : KeySlot) : (s.setSlot i v).accepted = s.accepted := rfl
@[simp] theorem setSlot_roles (i : Nat) (v : KeySlot) : (s.setSlot i v).roles = s.roles := rfl
@[simp] theorem setSlot_fw (i : Nat) (v : KeySlot) : (s.setSlot i v).fw = s.fw := rfl
@[simp] theorem setSlot_host (i : Nat) (v : KeySlot) : (s.setSlot i v).host = s.host := rfl
@[simp] theorem setSlot_ev (i : Nat) (v : KeySlot) : (s.setSlot i v).ev = s.ev := rfl
@[simp] theorem setSlot_power (i : Nat) (v : KeySlot) : (s.setSlot i v).power = s.power := rfl
@[simp] theorem setSlot_dramBytes (i : Nat) (v : KeySlot) : (s.setSlot i v).dramBytes = s.dramBytes := rfl
@[simp] theorem setSlot_pace (i : Nat) (v : KeySlot) : (s.setSlot i v).pace = s.pace := rfl
@[simp] theorem setSlot_units (i : Nat) (v : KeySlot) : (s.setSlot i v).units = s.units := rfl
@[simp] theorem setSlot_reports (i : Nat) (v : KeySlot) : (s.setSlot i v).reports = s.reports := rfl
@[simp] theorem setSlot_fault (i : Nat) (v : KeySlot) : (s.setSlot i v).fault = s.fault := rfl
@[simp] theorem setSlot_lanes (i : Nat) (v : KeySlot) : (s.setSlot i v).lanes = s.lanes := rfl
@[simp] theorem setSlot_terms (i : Nat) (v : KeySlot) : (s.setSlot i v).terms = s.terms := rfl
@[simp] theorem setSlot_chans (i : Nat) (v : KeySlot) : (s.setSlot i v).chans = s.chans := rfl
@[simp] theorem setSlot_pon (i : Nat) (v : KeySlot) : (s.setSlot i v).pon = s.pon := rfl
@[simp] theorem setSlot_dba (i : Nat) (v : KeySlot) : (s.setSlot i v).dba = s.dba := rfl
@[simp] theorem setSlot_prot (i : Nat) (v : KeySlot) : (s.setSlot i v).prot = s.prot := rfl
@[simp] theorem setSlot_fwd (i : Nat) (v : KeySlot) : (s.setSlot i v).fwd = s.fwd := rfl
@[simp] theorem setSlot_laneTest (i : Nat) (v : KeySlot) : (s.setSlot i v).laneTest = s.laneTest := rfl
@[simp] theorem setSlot_tap (i : Nat) (v : KeySlot) : (s.setSlot i v).tap = s.tap := rfl
@[simp] theorem setSlot_outbox (i : Nat) (v : KeySlot) : (s.setSlot i v).outbox = s.outbox := rfl
@[simp] theorem setSlot_free (i : Nat) (v : KeySlot) : (s.setSlot i v).free = s.free := rfl
/-- Every other reading. -/
@[simp] theorem setSlot_reads (i : Nat) (v : KeySlot) :
    (∀ n, (s.setSlot i v).chan n = s.chan n) ∧ (∀ n, (s.setSlot i v).term n = s.term n) ∧ (∀ n, (s.setSlot i v).ln n = s.ln n) ∧
    (∀ n, (s.setSlot i v).optic n = s.optic n) ∧ (∀ n, (s.setSlot i v).bm n = s.bm n) ∧ (∀ n, (s.setSlot i v).master n = s.master n) ∧
    (∀ n, (s.setSlot i v).alloc n = s.alloc n) ∧ (∀ n, (s.setSlot i v).gem n = s.gem n) ∧ (∀ n, (s.setSlot i v).line n = s.line n) ∧
    (∀ n, (s.setSlot i v).pair n = s.pair n) ∧ (∀ n, (s.setSlot i v).token n = s.token n) ∧ (∀ n, (s.setSlot i v).stream n = s.stream n) ∧
    (∀ n, (s.setSlot i v).tlane n = s.tlane n) ∧ (∀ n, (s.setSlot i v).unit n = s.unit n) ∧ (∀ n, (s.setSlot i v).handler n = s.handler n) ∧
    (∀ n, (s.setSlot i v).mbox n = s.mbox n) ∧ (∀ n, (s.setSlot i v).ch n = s.ch n) ∧ (∀ n, (s.setSlot i v).role n = s.role n) ∧
    (∀ n, (s.setSlot i v).dq n = s.dq n) ∧ (∀ n, (s.setSlot i v).uq n = s.uq n) ∧ (∀ n, (s.setSlot i v).pool n = s.pool n) ∧
    (∀ n, (s.setSlot i v).mac n = s.mac n) ∧ (∀ n, (s.setSlot i v).table n = s.table n) ∧ (∀ n, (s.setSlot i v).dramCh n = s.dramCh n) ∧
    (∀ n, (s.setSlot i v).buf n = s.buf n) ∧ (∀ n, (s.setSlot i v).gate n = s.gate n) ∧ (∀ p n, (s.setSlot i v).get p n = s.get p n) ∧
    (∀ p n, (s.setSlot i v).getN p n = s.getN p n) ∧ (∀ p n, (s.setSlot i v).getF p n = s.getF p n) ∧
    (∀ p n, (s.setSlot i v).ro p n = s.ro p n) ∧ (s.setSlot i v).now = s.now ∧ (s.setSlot i v).up = s.up := by
  and_intros <;> intros <;> rfl

/-! ### setToken -/

@[simp] theorem setToken_pending (i : Nat) (v : Token) : (s.setToken i v).pending = s.pending := rfl
@[simp] theorem setToken_time (i : Nat) (v : Token) : (s.setToken i v).time = s.time := rfl
@[simp] theorem setToken_clk (i : Nat) (v : Token) : (s.setToken i v).clk = s.clk := rfl
@[simp] theorem setToken_par (i : Nat) (v : Token) : (s.setToken i v).par = s.par := rfl
@[simp] theorem setToken_mb (i : Nat) (v : Token) : (s.setToken i v).mb = s.mb := rfl
@[simp] theorem setToken_accepted (i : Nat) (v : Token) : (s.setToken i v).accepted = s.accepted := rfl
@[simp] theorem setToken_roles (i : Nat) (v : Token) : (s.setToken i v).roles = s.roles := rfl
@[simp] theorem setToken_fw (i : Nat) (v : Token) : (s.setToken i v).fw = s.fw := rfl
@[simp] theorem setToken_host (i : Nat) (v : Token) : (s.setToken i v).host = s.host := rfl
@[simp] theorem setToken_ev (i : Nat) (v : Token) : (s.setToken i v).ev = s.ev := rfl
@[simp] theorem setToken_power (i : Nat) (v : Token) : (s.setToken i v).power = s.power := rfl
@[simp] theorem setToken_dramBytes (i : Nat) (v : Token) : (s.setToken i v).dramBytes = s.dramBytes := rfl
@[simp] theorem setToken_pace (i : Nat) (v : Token) : (s.setToken i v).pace = s.pace := rfl
@[simp] theorem setToken_units (i : Nat) (v : Token) : (s.setToken i v).units = s.units := rfl
@[simp] theorem setToken_reports (i : Nat) (v : Token) : (s.setToken i v).reports = s.reports := rfl
@[simp] theorem setToken_fault (i : Nat) (v : Token) : (s.setToken i v).fault = s.fault := rfl
@[simp] theorem setToken_lanes (i : Nat) (v : Token) : (s.setToken i v).lanes = s.lanes := rfl
@[simp] theorem setToken_terms (i : Nat) (v : Token) : (s.setToken i v).terms = s.terms := rfl
@[simp] theorem setToken_chans (i : Nat) (v : Token) : (s.setToken i v).chans = s.chans := rfl
@[simp] theorem setToken_pon (i : Nat) (v : Token) : (s.setToken i v).pon = s.pon := rfl
@[simp] theorem setToken_dba (i : Nat) (v : Token) : (s.setToken i v).dba = s.dba := rfl
@[simp] theorem setToken_cipher (i : Nat) (v : Token) : (s.setToken i v).cipher = s.cipher := rfl
@[simp] theorem setToken_fwd (i : Nat) (v : Token) : (s.setToken i v).fwd = s.fwd := rfl
@[simp] theorem setToken_laneTest (i : Nat) (v : Token) : (s.setToken i v).laneTest = s.laneTest := rfl
@[simp] theorem setToken_tap (i : Nat) (v : Token) : (s.setToken i v).tap = s.tap := rfl
@[simp] theorem setToken_outbox (i : Nat) (v : Token) : (s.setToken i v).outbox = s.outbox := rfl
@[simp] theorem setToken_free (i : Nat) (v : Token) : (s.setToken i v).free = s.free := rfl
/-- Every other reading. -/
@[simp] theorem setToken_reads (i : Nat) (v : Token) :
    (∀ n, (s.setToken i v).chan n = s.chan n) ∧ (∀ n, (s.setToken i v).term n = s.term n) ∧ (∀ n, (s.setToken i v).ln n = s.ln n) ∧
    (∀ n, (s.setToken i v).optic n = s.optic n) ∧ (∀ n, (s.setToken i v).bm n = s.bm n) ∧ (∀ n, (s.setToken i v).master n = s.master n) ∧
    (∀ n, (s.setToken i v).alloc n = s.alloc n) ∧ (∀ n, (s.setToken i v).gem n = s.gem n) ∧ (∀ n, (s.setToken i v).line n = s.line n) ∧
    (∀ n, (s.setToken i v).pair n = s.pair n) ∧ (∀ n, (s.setToken i v).slot n = s.slot n) ∧ (∀ n, (s.setToken i v).stream n = s.stream n) ∧
    (∀ n, (s.setToken i v).tlane n = s.tlane n) ∧ (∀ n, (s.setToken i v).unit n = s.unit n) ∧ (∀ n, (s.setToken i v).handler n = s.handler n) ∧
    (∀ n, (s.setToken i v).mbox n = s.mbox n) ∧ (∀ n, (s.setToken i v).ch n = s.ch n) ∧ (∀ n, (s.setToken i v).role n = s.role n) ∧
    (∀ n, (s.setToken i v).dq n = s.dq n) ∧ (∀ n, (s.setToken i v).uq n = s.uq n) ∧ (∀ n, (s.setToken i v).pool n = s.pool n) ∧
    (∀ n, (s.setToken i v).mac n = s.mac n) ∧ (∀ n, (s.setToken i v).table n = s.table n) ∧ (∀ n, (s.setToken i v).dramCh n = s.dramCh n) ∧
    (∀ n, (s.setToken i v).buf n = s.buf n) ∧ (∀ n, (s.setToken i v).gate n = s.gate n) ∧ (∀ p n, (s.setToken i v).get p n = s.get p n) ∧
    (∀ p n, (s.setToken i v).getN p n = s.getN p n) ∧ (∀ p n, (s.setToken i v).getF p n = s.getF p n) ∧
    (∀ p n, (s.setToken i v).ro p n = s.ro p n) ∧ (s.setToken i v).now = s.now ∧ (s.setToken i v).up = s.up := by
  and_intros <;> intros <;> rfl

/-! ### setStream -/

@[simp] theorem setStream_pending (i : Nat) (v : Stream) : (s.setStream i v).pending = s.pending := rfl
@[simp] theorem setStream_time (i : Nat) (v : Stream) : (s.setStream i v).time = s.time := rfl
@[simp] theorem setStream_clk (i : Nat) (v : Stream) : (s.setStream i v).clk = s.clk := rfl
@[simp] theorem setStream_par (i : Nat) (v : Stream) : (s.setStream i v).par = s.par := rfl
@[simp] theorem setStream_mb (i : Nat) (v : Stream) : (s.setStream i v).mb = s.mb := rfl
@[simp] theorem setStream_accepted (i : Nat) (v : Stream) : (s.setStream i v).accepted = s.accepted := rfl
@[simp] theorem setStream_roles (i : Nat) (v : Stream) : (s.setStream i v).roles = s.roles := rfl
@[simp] theorem setStream_fw (i : Nat) (v : Stream) : (s.setStream i v).fw = s.fw := rfl
@[simp] theorem setStream_host (i : Nat) (v : Stream) : (s.setStream i v).host = s.host := rfl
@[simp] theorem setStream_ev (i : Nat) (v : Stream) : (s.setStream i v).ev = s.ev := rfl
@[simp] theorem setStream_power (i : Nat) (v : Stream) : (s.setStream i v).power = s.power := rfl
@[simp] theorem setStream_dramBytes (i : Nat) (v : Stream) : (s.setStream i v).dramBytes = s.dramBytes := rfl
@[simp] theorem setStream_pace (i : Nat) (v : Stream) : (s.setStream i v).pace = s.pace := rfl
@[simp] theorem setStream_units (i : Nat) (v : Stream) : (s.setStream i v).units = s.units := rfl
@[simp] theorem setStream_reports (i : Nat) (v : Stream) : (s.setStream i v).reports = s.reports := rfl
@[simp] theorem setStream_fault (i : Nat) (v : Stream) : (s.setStream i v).fault = s.fault := rfl
@[simp] theorem setStream_lanes (i : Nat) (v : Stream) : (s.setStream i v).lanes = s.lanes := rfl
@[simp] theorem setStream_terms (i : Nat) (v : Stream) : (s.setStream i v).terms = s.terms := rfl
@[simp] theorem setStream_chans (i : Nat) (v : Stream) : (s.setStream i v).chans = s.chans := rfl
@[simp] theorem setStream_pon (i : Nat) (v : Stream) : (s.setStream i v).pon = s.pon := rfl
@[simp] theorem setStream_dba (i : Nat) (v : Stream) : (s.setStream i v).dba = s.dba := rfl
@[simp] theorem setStream_cipher (i : Nat) (v : Stream) : (s.setStream i v).cipher = s.cipher := rfl
@[simp] theorem setStream_fwd (i : Nat) (v : Stream) : (s.setStream i v).fwd = s.fwd := rfl
@[simp] theorem setStream_laneTest (i : Nat) (v : Stream) : (s.setStream i v).laneTest = s.laneTest := rfl
@[simp] theorem setStream_tap (i : Nat) (v : Stream) : (s.setStream i v).tap = s.tap := rfl
@[simp] theorem setStream_outbox (i : Nat) (v : Stream) : (s.setStream i v).outbox = s.outbox := rfl
@[simp] theorem setStream_free (i : Nat) (v : Stream) : (s.setStream i v).free = s.free := rfl
/-- Every other reading. -/
@[simp] theorem setStream_reads (i : Nat) (v : Stream) :
    (∀ n, (s.setStream i v).chan n = s.chan n) ∧ (∀ n, (s.setStream i v).term n = s.term n) ∧ (∀ n, (s.setStream i v).ln n = s.ln n) ∧
    (∀ n, (s.setStream i v).optic n = s.optic n) ∧ (∀ n, (s.setStream i v).bm n = s.bm n) ∧ (∀ n, (s.setStream i v).master n = s.master n) ∧
    (∀ n, (s.setStream i v).alloc n = s.alloc n) ∧ (∀ n, (s.setStream i v).gem n = s.gem n) ∧ (∀ n, (s.setStream i v).line n = s.line n) ∧
    (∀ n, (s.setStream i v).pair n = s.pair n) ∧ (∀ n, (s.setStream i v).slot n = s.slot n) ∧ (∀ n, (s.setStream i v).token n = s.token n) ∧
    (∀ n, (s.setStream i v).tlane n = s.tlane n) ∧ (∀ n, (s.setStream i v).unit n = s.unit n) ∧
    (∀ n, (s.setStream i v).handler n = s.handler n) ∧ (∀ n, (s.setStream i v).mbox n = s.mbox n) ∧ (∀ n, (s.setStream i v).ch n = s.ch n) ∧
    (∀ n, (s.setStream i v).role n = s.role n) ∧ (∀ n, (s.setStream i v).dq n = s.dq n) ∧ (∀ n, (s.setStream i v).uq n = s.uq n) ∧
    (∀ n, (s.setStream i v).pool n = s.pool n) ∧ (∀ n, (s.setStream i v).mac n = s.mac n) ∧ (∀ n, (s.setStream i v).table n = s.table n) ∧
    (∀ n, (s.setStream i v).dramCh n = s.dramCh n) ∧ (∀ n, (s.setStream i v).buf n = s.buf n) ∧ (∀ n, (s.setStream i v).gate n = s.gate n) ∧
    (∀ p n, (s.setStream i v).get p n = s.get p n) ∧ (∀ p n, (s.setStream i v).getN p n = s.getN p n) ∧
    (∀ p n, (s.setStream i v).getF p n = s.getF p n) ∧ (∀ p n, (s.setStream i v).ro p n = s.ro p n) ∧ (s.setStream i v).now = s.now ∧
    (s.setStream i v).up = s.up := by
  and_intros <;> intros <;> rfl

/-! ### setTlane -/

@[simp] theorem setTlane_pending (i : Nat) (v : TetherLane) : (s.setTlane i v).pending = s.pending := rfl
@[simp] theorem setTlane_time (i : Nat) (v : TetherLane) : (s.setTlane i v).time = s.time := rfl
@[simp] theorem setTlane_clk (i : Nat) (v : TetherLane) : (s.setTlane i v).clk = s.clk := rfl
@[simp] theorem setTlane_par (i : Nat) (v : TetherLane) : (s.setTlane i v).par = s.par := rfl
@[simp] theorem setTlane_mb (i : Nat) (v : TetherLane) : (s.setTlane i v).mb = s.mb := rfl
@[simp] theorem setTlane_accepted (i : Nat) (v : TetherLane) : (s.setTlane i v).accepted = s.accepted := rfl
@[simp] theorem setTlane_roles (i : Nat) (v : TetherLane) : (s.setTlane i v).roles = s.roles := rfl
@[simp] theorem setTlane_fw (i : Nat) (v : TetherLane) : (s.setTlane i v).fw = s.fw := rfl
@[simp] theorem setTlane_host (i : Nat) (v : TetherLane) : (s.setTlane i v).host = s.host := rfl
@[simp] theorem setTlane_ev (i : Nat) (v : TetherLane) : (s.setTlane i v).ev = s.ev := rfl
@[simp] theorem setTlane_power (i : Nat) (v : TetherLane) : (s.setTlane i v).power = s.power := rfl
@[simp] theorem setTlane_dramBytes (i : Nat) (v : TetherLane) : (s.setTlane i v).dramBytes = s.dramBytes := rfl
@[simp] theorem setTlane_pace (i : Nat) (v : TetherLane) : (s.setTlane i v).pace = s.pace := rfl
@[simp] theorem setTlane_units (i : Nat) (v : TetherLane) : (s.setTlane i v).units = s.units := rfl
@[simp] theorem setTlane_reports (i : Nat) (v : TetherLane) : (s.setTlane i v).reports = s.reports := rfl
@[simp] theorem setTlane_fault (i : Nat) (v : TetherLane) : (s.setTlane i v).fault = s.fault := rfl
@[simp] theorem setTlane_lanes (i : Nat) (v : TetherLane) : (s.setTlane i v).lanes = s.lanes := rfl
@[simp] theorem setTlane_terms (i : Nat) (v : TetherLane) : (s.setTlane i v).terms = s.terms := rfl
@[simp] theorem setTlane_chans (i : Nat) (v : TetherLane) : (s.setTlane i v).chans = s.chans := rfl
@[simp] theorem setTlane_pon (i : Nat) (v : TetherLane) : (s.setTlane i v).pon = s.pon := rfl
@[simp] theorem setTlane_dba (i : Nat) (v : TetherLane) : (s.setTlane i v).dba = s.dba := rfl
@[simp] theorem setTlane_cipher (i : Nat) (v : TetherLane) : (s.setTlane i v).cipher = s.cipher := rfl
@[simp] theorem setTlane_fwd (i : Nat) (v : TetherLane) : (s.setTlane i v).fwd = s.fwd := rfl
@[simp] theorem setTlane_laneTest (i : Nat) (v : TetherLane) : (s.setTlane i v).laneTest = s.laneTest := rfl
@[simp] theorem setTlane_tap (i : Nat) (v : TetherLane) : (s.setTlane i v).tap = s.tap := rfl
@[simp] theorem setTlane_outbox (i : Nat) (v : TetherLane) : (s.setTlane i v).outbox = s.outbox := rfl
@[simp] theorem setTlane_free (i : Nat) (v : TetherLane) : (s.setTlane i v).free = s.free := rfl
/-- Every other reading. -/
@[simp] theorem setTlane_reads (i : Nat) (v : TetherLane) :
    (∀ n, (s.setTlane i v).chan n = s.chan n) ∧ (∀ n, (s.setTlane i v).term n = s.term n) ∧ (∀ n, (s.setTlane i v).ln n = s.ln n) ∧
    (∀ n, (s.setTlane i v).optic n = s.optic n) ∧ (∀ n, (s.setTlane i v).bm n = s.bm n) ∧ (∀ n, (s.setTlane i v).master n = s.master n) ∧
    (∀ n, (s.setTlane i v).alloc n = s.alloc n) ∧ (∀ n, (s.setTlane i v).gem n = s.gem n) ∧ (∀ n, (s.setTlane i v).line n = s.line n) ∧
    (∀ n, (s.setTlane i v).pair n = s.pair n) ∧ (∀ n, (s.setTlane i v).slot n = s.slot n) ∧ (∀ n, (s.setTlane i v).token n = s.token n) ∧
    (∀ n, (s.setTlane i v).stream n = s.stream n) ∧ (∀ n, (s.setTlane i v).unit n = s.unit n) ∧
    (∀ n, (s.setTlane i v).handler n = s.handler n) ∧ (∀ n, (s.setTlane i v).mbox n = s.mbox n) ∧ (∀ n, (s.setTlane i v).ch n = s.ch n) ∧
    (∀ n, (s.setTlane i v).role n = s.role n) ∧ (∀ n, (s.setTlane i v).dq n = s.dq n) ∧ (∀ n, (s.setTlane i v).uq n = s.uq n) ∧
    (∀ n, (s.setTlane i v).pool n = s.pool n) ∧ (∀ n, (s.setTlane i v).mac n = s.mac n) ∧ (∀ n, (s.setTlane i v).table n = s.table n) ∧
    (∀ n, (s.setTlane i v).dramCh n = s.dramCh n) ∧ (∀ n, (s.setTlane i v).buf n = s.buf n) ∧ (∀ n, (s.setTlane i v).gate n = s.gate n) ∧
    (∀ p n, (s.setTlane i v).get p n = s.get p n) ∧ (∀ p n, (s.setTlane i v).getN p n = s.getN p n) ∧
    (∀ p n, (s.setTlane i v).getF p n = s.getF p n) ∧ (∀ p n, (s.setTlane i v).ro p n = s.ro p n) ∧ (s.setTlane i v).now = s.now ∧
    (s.setTlane i v).up = s.up := by
  and_intros <;> intros <;> rfl

/-! ### setUnit -/

@[simp] theorem setUnit_pending (i : Nat) (v : UnitRec) : (s.setUnit i v).pending = s.pending := rfl
@[simp] theorem setUnit_time (i : Nat) (v : UnitRec) : (s.setUnit i v).time = s.time := rfl
@[simp] theorem setUnit_clk (i : Nat) (v : UnitRec) : (s.setUnit i v).clk = s.clk := rfl
@[simp] theorem setUnit_par (i : Nat) (v : UnitRec) : (s.setUnit i v).par = s.par := rfl
@[simp] theorem setUnit_mb (i : Nat) (v : UnitRec) : (s.setUnit i v).mb = s.mb := rfl
@[simp] theorem setUnit_accepted (i : Nat) (v : UnitRec) : (s.setUnit i v).accepted = s.accepted := rfl
@[simp] theorem setUnit_roles (i : Nat) (v : UnitRec) : (s.setUnit i v).roles = s.roles := rfl
@[simp] theorem setUnit_fw (i : Nat) (v : UnitRec) : (s.setUnit i v).fw = s.fw := rfl
@[simp] theorem setUnit_host (i : Nat) (v : UnitRec) : (s.setUnit i v).host = s.host := rfl
@[simp] theorem setUnit_ev (i : Nat) (v : UnitRec) : (s.setUnit i v).ev = s.ev := rfl
@[simp] theorem setUnit_power (i : Nat) (v : UnitRec) : (s.setUnit i v).power = s.power := rfl
@[simp] theorem setUnit_dramBytes (i : Nat) (v : UnitRec) : (s.setUnit i v).dramBytes = s.dramBytes := rfl
@[simp] theorem setUnit_pace (i : Nat) (v : UnitRec) : (s.setUnit i v).pace = s.pace := rfl
@[simp] theorem setUnit_reports (i : Nat) (v : UnitRec) : (s.setUnit i v).reports = s.reports := rfl
@[simp] theorem setUnit_fault (i : Nat) (v : UnitRec) : (s.setUnit i v).fault = s.fault := rfl
@[simp] theorem setUnit_lanes (i : Nat) (v : UnitRec) : (s.setUnit i v).lanes = s.lanes := rfl
@[simp] theorem setUnit_terms (i : Nat) (v : UnitRec) : (s.setUnit i v).terms = s.terms := rfl
@[simp] theorem setUnit_chans (i : Nat) (v : UnitRec) : (s.setUnit i v).chans = s.chans := rfl
@[simp] theorem setUnit_pon (i : Nat) (v : UnitRec) : (s.setUnit i v).pon = s.pon := rfl
@[simp] theorem setUnit_dba (i : Nat) (v : UnitRec) : (s.setUnit i v).dba = s.dba := rfl
@[simp] theorem setUnit_cipher (i : Nat) (v : UnitRec) : (s.setUnit i v).cipher = s.cipher := rfl
@[simp] theorem setUnit_prot (i : Nat) (v : UnitRec) : (s.setUnit i v).prot = s.prot := rfl
@[simp] theorem setUnit_fwd (i : Nat) (v : UnitRec) : (s.setUnit i v).fwd = s.fwd := rfl
@[simp] theorem setUnit_laneTest (i : Nat) (v : UnitRec) : (s.setUnit i v).laneTest = s.laneTest := rfl
@[simp] theorem setUnit_tap (i : Nat) (v : UnitRec) : (s.setUnit i v).tap = s.tap := rfl
@[simp] theorem setUnit_outbox (i : Nat) (v : UnitRec) : (s.setUnit i v).outbox = s.outbox := rfl
@[simp] theorem setUnit_free (i : Nat) (v : UnitRec) : (s.setUnit i v).free = s.free := rfl
/-- Every other reading. -/
@[simp] theorem setUnit_reads (i : Nat) (v : UnitRec) :
    (∀ n, (s.setUnit i v).chan n = s.chan n) ∧ (∀ n, (s.setUnit i v).term n = s.term n) ∧ (∀ n, (s.setUnit i v).ln n = s.ln n) ∧
    (∀ n, (s.setUnit i v).optic n = s.optic n) ∧ (∀ n, (s.setUnit i v).bm n = s.bm n) ∧ (∀ n, (s.setUnit i v).master n = s.master n) ∧
    (∀ n, (s.setUnit i v).alloc n = s.alloc n) ∧ (∀ n, (s.setUnit i v).gem n = s.gem n) ∧ (∀ n, (s.setUnit i v).line n = s.line n) ∧
    (∀ n, (s.setUnit i v).pair n = s.pair n) ∧ (∀ n, (s.setUnit i v).slot n = s.slot n) ∧ (∀ n, (s.setUnit i v).token n = s.token n) ∧
    (∀ n, (s.setUnit i v).stream n = s.stream n) ∧ (∀ n, (s.setUnit i v).tlane n = s.tlane n) ∧ (∀ n, (s.setUnit i v).handler n = s.handler n) ∧
    (∀ n, (s.setUnit i v).mbox n = s.mbox n) ∧ (∀ n, (s.setUnit i v).ch n = s.ch n) ∧ (∀ n, (s.setUnit i v).role n = s.role n) ∧
    (∀ n, (s.setUnit i v).dq n = s.dq n) ∧ (∀ n, (s.setUnit i v).uq n = s.uq n) ∧ (∀ n, (s.setUnit i v).pool n = s.pool n) ∧
    (∀ n, (s.setUnit i v).mac n = s.mac n) ∧ (∀ n, (s.setUnit i v).table n = s.table n) ∧ (∀ n, (s.setUnit i v).dramCh n = s.dramCh n) ∧
    (∀ n, (s.setUnit i v).buf n = s.buf n) ∧ (∀ n, (s.setUnit i v).gate n = s.gate n) ∧ (∀ p n, (s.setUnit i v).get p n = s.get p n) ∧
    (∀ p n, (s.setUnit i v).getN p n = s.getN p n) ∧ (∀ p n, (s.setUnit i v).getF p n = s.getF p n) ∧
    (∀ p n, (s.setUnit i v).ro p n = s.ro p n) ∧ (s.setUnit i v).now = s.now ∧ (s.setUnit i v).up = s.up := by
  and_intros <;> intros <;> rfl

/-! ### setHandler -/

@[simp] theorem setHandler_pending (i : Nat) (v : Handler) : (s.setHandler i v).pending = s.pending := rfl
@[simp] theorem setHandler_time (i : Nat) (v : Handler) : (s.setHandler i v).time = s.time := rfl
@[simp] theorem setHandler_clk (i : Nat) (v : Handler) : (s.setHandler i v).clk = s.clk := rfl
@[simp] theorem setHandler_par (i : Nat) (v : Handler) : (s.setHandler i v).par = s.par := rfl
@[simp] theorem setHandler_mb (i : Nat) (v : Handler) : (s.setHandler i v).mb = s.mb := rfl
@[simp] theorem setHandler_accepted (i : Nat) (v : Handler) : (s.setHandler i v).accepted = s.accepted := rfl
@[simp] theorem setHandler_roles (i : Nat) (v : Handler) : (s.setHandler i v).roles = s.roles := rfl
@[simp] theorem setHandler_fw (i : Nat) (v : Handler) : (s.setHandler i v).fw = s.fw := rfl
@[simp] theorem setHandler_host (i : Nat) (v : Handler) : (s.setHandler i v).host = s.host := rfl
@[simp] theorem setHandler_ev (i : Nat) (v : Handler) : (s.setHandler i v).ev = s.ev := rfl
@[simp] theorem setHandler_power (i : Nat) (v : Handler) : (s.setHandler i v).power = s.power := rfl
@[simp] theorem setHandler_dramBytes (i : Nat) (v : Handler) : (s.setHandler i v).dramBytes = s.dramBytes := rfl
@[simp] theorem setHandler_pace (i : Nat) (v : Handler) : (s.setHandler i v).pace = s.pace := rfl
@[simp] theorem setHandler_units (i : Nat) (v : Handler) : (s.setHandler i v).units = s.units := rfl
@[simp] theorem setHandler_reports (i : Nat) (v : Handler) : (s.setHandler i v).reports = s.reports := rfl
@[simp] theorem setHandler_lanes (i : Nat) (v : Handler) : (s.setHandler i v).lanes = s.lanes := rfl
@[simp] theorem setHandler_terms (i : Nat) (v : Handler) : (s.setHandler i v).terms = s.terms := rfl
@[simp] theorem setHandler_chans (i : Nat) (v : Handler) : (s.setHandler i v).chans = s.chans := rfl
@[simp] theorem setHandler_pon (i : Nat) (v : Handler) : (s.setHandler i v).pon = s.pon := rfl
@[simp] theorem setHandler_dba (i : Nat) (v : Handler) : (s.setHandler i v).dba = s.dba := rfl
@[simp] theorem setHandler_cipher (i : Nat) (v : Handler) : (s.setHandler i v).cipher = s.cipher := rfl
@[simp] theorem setHandler_prot (i : Nat) (v : Handler) : (s.setHandler i v).prot = s.prot := rfl
@[simp] theorem setHandler_fwd (i : Nat) (v : Handler) : (s.setHandler i v).fwd = s.fwd := rfl
@[simp] theorem setHandler_laneTest (i : Nat) (v : Handler) : (s.setHandler i v).laneTest = s.laneTest := rfl
@[simp] theorem setHandler_tap (i : Nat) (v : Handler) : (s.setHandler i v).tap = s.tap := rfl
@[simp] theorem setHandler_outbox (i : Nat) (v : Handler) : (s.setHandler i v).outbox = s.outbox := rfl
@[simp] theorem setHandler_free (i : Nat) (v : Handler) : (s.setHandler i v).free = s.free := rfl
/-- Every other reading. -/
@[simp] theorem setHandler_reads (i : Nat) (v : Handler) :
    (∀ n, (s.setHandler i v).chan n = s.chan n) ∧ (∀ n, (s.setHandler i v).term n = s.term n) ∧ (∀ n, (s.setHandler i v).ln n = s.ln n) ∧
    (∀ n, (s.setHandler i v).optic n = s.optic n) ∧ (∀ n, (s.setHandler i v).bm n = s.bm n) ∧ (∀ n, (s.setHandler i v).master n = s.master n) ∧
    (∀ n, (s.setHandler i v).alloc n = s.alloc n) ∧ (∀ n, (s.setHandler i v).gem n = s.gem n) ∧ (∀ n, (s.setHandler i v).line n = s.line n) ∧
    (∀ n, (s.setHandler i v).pair n = s.pair n) ∧ (∀ n, (s.setHandler i v).slot n = s.slot n) ∧ (∀ n, (s.setHandler i v).token n = s.token n) ∧
    (∀ n, (s.setHandler i v).stream n = s.stream n) ∧ (∀ n, (s.setHandler i v).tlane n = s.tlane n) ∧
    (∀ n, (s.setHandler i v).unit n = s.unit n) ∧ (∀ n, (s.setHandler i v).mbox n = s.mbox n) ∧ (∀ n, (s.setHandler i v).ch n = s.ch n) ∧
    (∀ n, (s.setHandler i v).role n = s.role n) ∧ (∀ n, (s.setHandler i v).dq n = s.dq n) ∧ (∀ n, (s.setHandler i v).uq n = s.uq n) ∧
    (∀ n, (s.setHandler i v).pool n = s.pool n) ∧ (∀ n, (s.setHandler i v).mac n = s.mac n) ∧ (∀ n, (s.setHandler i v).table n = s.table n) ∧
    (∀ n, (s.setHandler i v).dramCh n = s.dramCh n) ∧ (∀ n, (s.setHandler i v).buf n = s.buf n) ∧ (∀ n, (s.setHandler i v).gate n = s.gate n) ∧
    (∀ p n, (s.setHandler i v).get p n = s.get p n) ∧ (∀ p n, (s.setHandler i v).getN p n = s.getN p n) ∧
    (∀ p n, (s.setHandler i v).getF p n = s.getF p n) ∧ (∀ p n, (s.setHandler i v).ro p n = s.ro p n) ∧ (s.setHandler i v).now = s.now ∧
    (s.setHandler i v).up = s.up := by
  and_intros <;> intros <;> rfl

/-! ### setMbox -/

@[simp] theorem setMbox_pending (i : Nat) (v : Mailbox) : (s.setMbox i v).pending = s.pending := rfl
@[simp] theorem setMbox_time (i : Nat) (v : Mailbox) : (s.setMbox i v).time = s.time := rfl
@[simp] theorem setMbox_clk (i : Nat) (v : Mailbox) : (s.setMbox i v).clk = s.clk := rfl
@[simp] theorem setMbox_par (i : Nat) (v : Mailbox) : (s.setMbox i v).par = s.par := rfl
@[simp] theorem setMbox_accepted (i : Nat) (v : Mailbox) : (s.setMbox i v).accepted = s.accepted := rfl
@[simp] theorem setMbox_roles (i : Nat) (v : Mailbox) : (s.setMbox i v).roles = s.roles := rfl
@[simp] theorem setMbox_fw (i : Nat) (v : Mailbox) : (s.setMbox i v).fw = s.fw := rfl
@[simp] theorem setMbox_host (i : Nat) (v : Mailbox) : (s.setMbox i v).host = s.host := rfl
@[simp] theorem setMbox_ev (i : Nat) (v : Mailbox) : (s.setMbox i v).ev = s.ev := rfl
@[simp] theorem setMbox_power (i : Nat) (v : Mailbox) : (s.setMbox i v).power = s.power := rfl
@[simp] theorem setMbox_dramBytes (i : Nat) (v : Mailbox) : (s.setMbox i v).dramBytes = s.dramBytes := rfl
@[simp] theorem setMbox_pace (i : Nat) (v : Mailbox) : (s.setMbox i v).pace = s.pace := rfl
@[simp] theorem setMbox_units (i : Nat) (v : Mailbox) : (s.setMbox i v).units = s.units := rfl
@[simp] theorem setMbox_reports (i : Nat) (v : Mailbox) : (s.setMbox i v).reports = s.reports := rfl
@[simp] theorem setMbox_fault (i : Nat) (v : Mailbox) : (s.setMbox i v).fault = s.fault := rfl
@[simp] theorem setMbox_lanes (i : Nat) (v : Mailbox) : (s.setMbox i v).lanes = s.lanes := rfl
@[simp] theorem setMbox_terms (i : Nat) (v : Mailbox) : (s.setMbox i v).terms = s.terms := rfl
@[simp] theorem setMbox_chans (i : Nat) (v : Mailbox) : (s.setMbox i v).chans = s.chans := rfl
@[simp] theorem setMbox_pon (i : Nat) (v : Mailbox) : (s.setMbox i v).pon = s.pon := rfl
@[simp] theorem setMbox_dba (i : Nat) (v : Mailbox) : (s.setMbox i v).dba = s.dba := rfl
@[simp] theorem setMbox_cipher (i : Nat) (v : Mailbox) : (s.setMbox i v).cipher = s.cipher := rfl
@[simp] theorem setMbox_prot (i : Nat) (v : Mailbox) : (s.setMbox i v).prot = s.prot := rfl
@[simp] theorem setMbox_fwd (i : Nat) (v : Mailbox) : (s.setMbox i v).fwd = s.fwd := rfl
@[simp] theorem setMbox_laneTest (i : Nat) (v : Mailbox) : (s.setMbox i v).laneTest = s.laneTest := rfl
@[simp] theorem setMbox_tap (i : Nat) (v : Mailbox) : (s.setMbox i v).tap = s.tap := rfl
@[simp] theorem setMbox_outbox (i : Nat) (v : Mailbox) : (s.setMbox i v).outbox = s.outbox := rfl
@[simp] theorem setMbox_free (i : Nat) (v : Mailbox) : (s.setMbox i v).free = s.free := rfl
/-- Every other reading. -/
@[simp] theorem setMbox_reads (i : Nat) (v : Mailbox) :
    (∀ n, (s.setMbox i v).chan n = s.chan n) ∧ (∀ n, (s.setMbox i v).term n = s.term n) ∧ (∀ n, (s.setMbox i v).ln n = s.ln n) ∧
    (∀ n, (s.setMbox i v).optic n = s.optic n) ∧ (∀ n, (s.setMbox i v).bm n = s.bm n) ∧ (∀ n, (s.setMbox i v).master n = s.master n) ∧
    (∀ n, (s.setMbox i v).alloc n = s.alloc n) ∧ (∀ n, (s.setMbox i v).gem n = s.gem n) ∧ (∀ n, (s.setMbox i v).line n = s.line n) ∧
    (∀ n, (s.setMbox i v).pair n = s.pair n) ∧ (∀ n, (s.setMbox i v).slot n = s.slot n) ∧ (∀ n, (s.setMbox i v).token n = s.token n) ∧
    (∀ n, (s.setMbox i v).stream n = s.stream n) ∧ (∀ n, (s.setMbox i v).tlane n = s.tlane n) ∧ (∀ n, (s.setMbox i v).unit n = s.unit n) ∧
    (∀ n, (s.setMbox i v).handler n = s.handler n) ∧ (∀ n, (s.setMbox i v).ch n = s.ch n) ∧ (∀ n, (s.setMbox i v).role n = s.role n) ∧
    (∀ n, (s.setMbox i v).dq n = s.dq n) ∧ (∀ n, (s.setMbox i v).uq n = s.uq n) ∧ (∀ n, (s.setMbox i v).pool n = s.pool n) ∧
    (∀ n, (s.setMbox i v).mac n = s.mac n) ∧ (∀ n, (s.setMbox i v).table n = s.table n) ∧ (∀ n, (s.setMbox i v).dramCh n = s.dramCh n) ∧
    (∀ n, (s.setMbox i v).buf n = s.buf n) ∧ (∀ n, (s.setMbox i v).gate n = s.gate n) ∧ (∀ p n, (s.setMbox i v).get p n = s.get p n) ∧
    (∀ p n, (s.setMbox i v).getN p n = s.getN p n) ∧ (∀ p n, (s.setMbox i v).getF p n = s.getF p n) ∧
    (∀ p n, (s.setMbox i v).ro p n = s.ro p n) ∧ (s.setMbox i v).now = s.now ∧ (s.setMbox i v).up = s.up := by
  and_intros <;> intros <;> rfl

/-! ### setCh -/

@[simp] theorem setCh_pending (i : Nat) (v : DmaCh) : (s.setCh i v).pending = s.pending := rfl
@[simp] theorem setCh_time (i : Nat) (v : DmaCh) : (s.setCh i v).time = s.time := rfl
@[simp] theorem setCh_clk (i : Nat) (v : DmaCh) : (s.setCh i v).clk = s.clk := rfl
@[simp] theorem setCh_par (i : Nat) (v : DmaCh) : (s.setCh i v).par = s.par := rfl
@[simp] theorem setCh_mb (i : Nat) (v : DmaCh) : (s.setCh i v).mb = s.mb := rfl
@[simp] theorem setCh_accepted (i : Nat) (v : DmaCh) : (s.setCh i v).accepted = s.accepted := rfl
@[simp] theorem setCh_roles (i : Nat) (v : DmaCh) : (s.setCh i v).roles = s.roles := rfl
@[simp] theorem setCh_fw (i : Nat) (v : DmaCh) : (s.setCh i v).fw = s.fw := rfl
@[simp] theorem setCh_ev (i : Nat) (v : DmaCh) : (s.setCh i v).ev = s.ev := rfl
@[simp] theorem setCh_power (i : Nat) (v : DmaCh) : (s.setCh i v).power = s.power := rfl
@[simp] theorem setCh_dramBytes (i : Nat) (v : DmaCh) : (s.setCh i v).dramBytes = s.dramBytes := rfl
@[simp] theorem setCh_pace (i : Nat) (v : DmaCh) : (s.setCh i v).pace = s.pace := rfl
@[simp] theorem setCh_units (i : Nat) (v : DmaCh) : (s.setCh i v).units = s.units := rfl
@[simp] theorem setCh_reports (i : Nat) (v : DmaCh) : (s.setCh i v).reports = s.reports := rfl
@[simp] theorem setCh_fault (i : Nat) (v : DmaCh) : (s.setCh i v).fault = s.fault := rfl
@[simp] theorem setCh_lanes (i : Nat) (v : DmaCh) : (s.setCh i v).lanes = s.lanes := rfl
@[simp] theorem setCh_terms (i : Nat) (v : DmaCh) : (s.setCh i v).terms = s.terms := rfl
@[simp] theorem setCh_chans (i : Nat) (v : DmaCh) : (s.setCh i v).chans = s.chans := rfl
@[simp] theorem setCh_pon (i : Nat) (v : DmaCh) : (s.setCh i v).pon = s.pon := rfl
@[simp] theorem setCh_dba (i : Nat) (v : DmaCh) : (s.setCh i v).dba = s.dba := rfl
@[simp] theorem setCh_cipher (i : Nat) (v : DmaCh) : (s.setCh i v).cipher = s.cipher := rfl
@[simp] theorem setCh_prot (i : Nat) (v : DmaCh) : (s.setCh i v).prot = s.prot := rfl
@[simp] theorem setCh_fwd (i : Nat) (v : DmaCh) : (s.setCh i v).fwd = s.fwd := rfl
@[simp] theorem setCh_laneTest (i : Nat) (v : DmaCh) : (s.setCh i v).laneTest = s.laneTest := rfl
@[simp] theorem setCh_tap (i : Nat) (v : DmaCh) : (s.setCh i v).tap = s.tap := rfl
@[simp] theorem setCh_outbox (i : Nat) (v : DmaCh) : (s.setCh i v).outbox = s.outbox := rfl
@[simp] theorem setCh_free (i : Nat) (v : DmaCh) : (s.setCh i v).free = s.free := rfl
/-- Every other reading. -/
@[simp] theorem setCh_reads (i : Nat) (v : DmaCh) :
    (∀ n, (s.setCh i v).chan n = s.chan n) ∧ (∀ n, (s.setCh i v).term n = s.term n) ∧ (∀ n, (s.setCh i v).ln n = s.ln n) ∧
    (∀ n, (s.setCh i v).optic n = s.optic n) ∧ (∀ n, (s.setCh i v).bm n = s.bm n) ∧ (∀ n, (s.setCh i v).master n = s.master n) ∧
    (∀ n, (s.setCh i v).alloc n = s.alloc n) ∧ (∀ n, (s.setCh i v).gem n = s.gem n) ∧ (∀ n, (s.setCh i v).line n = s.line n) ∧
    (∀ n, (s.setCh i v).pair n = s.pair n) ∧ (∀ n, (s.setCh i v).slot n = s.slot n) ∧ (∀ n, (s.setCh i v).token n = s.token n) ∧
    (∀ n, (s.setCh i v).stream n = s.stream n) ∧ (∀ n, (s.setCh i v).tlane n = s.tlane n) ∧ (∀ n, (s.setCh i v).unit n = s.unit n) ∧
    (∀ n, (s.setCh i v).handler n = s.handler n) ∧ (∀ n, (s.setCh i v).mbox n = s.mbox n) ∧ (∀ n, (s.setCh i v).role n = s.role n) ∧
    (∀ n, (s.setCh i v).dq n = s.dq n) ∧ (∀ n, (s.setCh i v).uq n = s.uq n) ∧ (∀ n, (s.setCh i v).pool n = s.pool n) ∧
    (∀ n, (s.setCh i v).mac n = s.mac n) ∧ (∀ n, (s.setCh i v).table n = s.table n) ∧ (∀ n, (s.setCh i v).dramCh n = s.dramCh n) ∧
    (∀ n, (s.setCh i v).buf n = s.buf n) ∧ (∀ n, (s.setCh i v).gate n = s.gate n) ∧ (∀ p n, (s.setCh i v).get p n = s.get p n) ∧
    (∀ p n, (s.setCh i v).getN p n = s.getN p n) ∧ (∀ p n, (s.setCh i v).getF p n = s.getF p n) ∧ (∀ p n, (s.setCh i v).ro p n = s.ro p n) ∧
    (s.setCh i v).now = s.now ∧ (s.setCh i v).up = s.up := by
  and_intros <;> intros <;> rfl

/-! ### setRole -/

@[simp] theorem setRole_pending (i : Nat) (v : RoleState) : (s.setRole i v).pending = s.pending := rfl
@[simp] theorem setRole_time (i : Nat) (v : RoleState) : (s.setRole i v).time = s.time := rfl
@[simp] theorem setRole_clk (i : Nat) (v : RoleState) : (s.setRole i v).clk = s.clk := rfl
@[simp] theorem setRole_par (i : Nat) (v : RoleState) : (s.setRole i v).par = s.par := rfl
@[simp] theorem setRole_mb (i : Nat) (v : RoleState) : (s.setRole i v).mb = s.mb := rfl
@[simp] theorem setRole_accepted (i : Nat) (v : RoleState) : (s.setRole i v).accepted = s.accepted := rfl
@[simp] theorem setRole_fw (i : Nat) (v : RoleState) : (s.setRole i v).fw = s.fw := rfl
@[simp] theorem setRole_host (i : Nat) (v : RoleState) : (s.setRole i v).host = s.host := rfl
@[simp] theorem setRole_ev (i : Nat) (v : RoleState) : (s.setRole i v).ev = s.ev := rfl
@[simp] theorem setRole_power (i : Nat) (v : RoleState) : (s.setRole i v).power = s.power := rfl
@[simp] theorem setRole_dramBytes (i : Nat) (v : RoleState) : (s.setRole i v).dramBytes = s.dramBytes := rfl
@[simp] theorem setRole_pace (i : Nat) (v : RoleState) : (s.setRole i v).pace = s.pace := rfl
@[simp] theorem setRole_units (i : Nat) (v : RoleState) : (s.setRole i v).units = s.units := rfl
@[simp] theorem setRole_reports (i : Nat) (v : RoleState) : (s.setRole i v).reports = s.reports := rfl
@[simp] theorem setRole_fault (i : Nat) (v : RoleState) : (s.setRole i v).fault = s.fault := rfl
@[simp] theorem setRole_lanes (i : Nat) (v : RoleState) : (s.setRole i v).lanes = s.lanes := rfl
@[simp] theorem setRole_terms (i : Nat) (v : RoleState) : (s.setRole i v).terms = s.terms := rfl
@[simp] theorem setRole_chans (i : Nat) (v : RoleState) : (s.setRole i v).chans = s.chans := rfl
@[simp] theorem setRole_pon (i : Nat) (v : RoleState) : (s.setRole i v).pon = s.pon := rfl
@[simp] theorem setRole_dba (i : Nat) (v : RoleState) : (s.setRole i v).dba = s.dba := rfl
@[simp] theorem setRole_cipher (i : Nat) (v : RoleState) : (s.setRole i v).cipher = s.cipher := rfl
@[simp] theorem setRole_prot (i : Nat) (v : RoleState) : (s.setRole i v).prot = s.prot := rfl
@[simp] theorem setRole_fwd (i : Nat) (v : RoleState) : (s.setRole i v).fwd = s.fwd := rfl
@[simp] theorem setRole_laneTest (i : Nat) (v : RoleState) : (s.setRole i v).laneTest = s.laneTest := rfl
@[simp] theorem setRole_tap (i : Nat) (v : RoleState) : (s.setRole i v).tap = s.tap := rfl
@[simp] theorem setRole_outbox (i : Nat) (v : RoleState) : (s.setRole i v).outbox = s.outbox := rfl
@[simp] theorem setRole_free (i : Nat) (v : RoleState) : (s.setRole i v).free = s.free := rfl
/-- Every other reading. -/
@[simp] theorem setRole_reads (i : Nat) (v : RoleState) :
    (∀ n, (s.setRole i v).chan n = s.chan n) ∧ (∀ n, (s.setRole i v).term n = s.term n) ∧ (∀ n, (s.setRole i v).ln n = s.ln n) ∧
    (∀ n, (s.setRole i v).optic n = s.optic n) ∧ (∀ n, (s.setRole i v).bm n = s.bm n) ∧ (∀ n, (s.setRole i v).master n = s.master n) ∧
    (∀ n, (s.setRole i v).alloc n = s.alloc n) ∧ (∀ n, (s.setRole i v).gem n = s.gem n) ∧ (∀ n, (s.setRole i v).line n = s.line n) ∧
    (∀ n, (s.setRole i v).pair n = s.pair n) ∧ (∀ n, (s.setRole i v).slot n = s.slot n) ∧ (∀ n, (s.setRole i v).token n = s.token n) ∧
    (∀ n, (s.setRole i v).stream n = s.stream n) ∧ (∀ n, (s.setRole i v).tlane n = s.tlane n) ∧ (∀ n, (s.setRole i v).unit n = s.unit n) ∧
    (∀ n, (s.setRole i v).handler n = s.handler n) ∧ (∀ n, (s.setRole i v).mbox n = s.mbox n) ∧ (∀ n, (s.setRole i v).ch n = s.ch n) ∧
    (∀ n, (s.setRole i v).dq n = s.dq n) ∧ (∀ n, (s.setRole i v).uq n = s.uq n) ∧ (∀ n, (s.setRole i v).pool n = s.pool n) ∧
    (∀ n, (s.setRole i v).mac n = s.mac n) ∧ (∀ n, (s.setRole i v).table n = s.table n) ∧ (∀ n, (s.setRole i v).dramCh n = s.dramCh n) ∧
    (∀ n, (s.setRole i v).buf n = s.buf n) ∧ (∀ n, (s.setRole i v).gate n = s.gate n) ∧ (∀ p n, (s.setRole i v).get p n = s.get p n) ∧
    (∀ p n, (s.setRole i v).getN p n = s.getN p n) ∧ (∀ p n, (s.setRole i v).getF p n = s.getF p n) ∧
    (∀ p n, (s.setRole i v).ro p n = s.ro p n) ∧ (s.setRole i v).now = s.now ∧ (s.setRole i v).up = s.up := by
  and_intros <;> intros <;> rfl

/-! ### setDq -/

@[simp] theorem setDq_pending (i : Nat) (v : Queue) : (s.setDq i v).pending = s.pending := rfl
@[simp] theorem setDq_time (i : Nat) (v : Queue) : (s.setDq i v).time = s.time := rfl
@[simp] theorem setDq_clk (i : Nat) (v : Queue) : (s.setDq i v).clk = s.clk := rfl
@[simp] theorem setDq_par (i : Nat) (v : Queue) : (s.setDq i v).par = s.par := rfl
@[simp] theorem setDq_mb (i : Nat) (v : Queue) : (s.setDq i v).mb = s.mb := rfl
@[simp] theorem setDq_accepted (i : Nat) (v : Queue) : (s.setDq i v).accepted = s.accepted := rfl
@[simp] theorem setDq_roles (i : Nat) (v : Queue) : (s.setDq i v).roles = s.roles := rfl
@[simp] theorem setDq_fw (i : Nat) (v : Queue) : (s.setDq i v).fw = s.fw := rfl
@[simp] theorem setDq_host (i : Nat) (v : Queue) : (s.setDq i v).host = s.host := rfl
@[simp] theorem setDq_ev (i : Nat) (v : Queue) : (s.setDq i v).ev = s.ev := rfl
@[simp] theorem setDq_power (i : Nat) (v : Queue) : (s.setDq i v).power = s.power := rfl
@[simp] theorem setDq_dramBytes (i : Nat) (v : Queue) : (s.setDq i v).dramBytes = s.dramBytes := rfl
@[simp] theorem setDq_pace (i : Nat) (v : Queue) : (s.setDq i v).pace = s.pace := rfl
@[simp] theorem setDq_units (i : Nat) (v : Queue) : (s.setDq i v).units = s.units := rfl
@[simp] theorem setDq_reports (i : Nat) (v : Queue) : (s.setDq i v).reports = s.reports := rfl
@[simp] theorem setDq_fault (i : Nat) (v : Queue) : (s.setDq i v).fault = s.fault := rfl
@[simp] theorem setDq_lanes (i : Nat) (v : Queue) : (s.setDq i v).lanes = s.lanes := rfl
@[simp] theorem setDq_terms (i : Nat) (v : Queue) : (s.setDq i v).terms = s.terms := rfl
@[simp] theorem setDq_chans (i : Nat) (v : Queue) : (s.setDq i v).chans = s.chans := rfl
@[simp] theorem setDq_pon (i : Nat) (v : Queue) : (s.setDq i v).pon = s.pon := rfl
@[simp] theorem setDq_dba (i : Nat) (v : Queue) : (s.setDq i v).dba = s.dba := rfl
@[simp] theorem setDq_cipher (i : Nat) (v : Queue) : (s.setDq i v).cipher = s.cipher := rfl
@[simp] theorem setDq_prot (i : Nat) (v : Queue) : (s.setDq i v).prot = s.prot := rfl
@[simp] theorem setDq_laneTest (i : Nat) (v : Queue) : (s.setDq i v).laneTest = s.laneTest := rfl
@[simp] theorem setDq_tap (i : Nat) (v : Queue) : (s.setDq i v).tap = s.tap := rfl
@[simp] theorem setDq_outbox (i : Nat) (v : Queue) : (s.setDq i v).outbox = s.outbox := rfl
@[simp] theorem setDq_free (i : Nat) (v : Queue) : (s.setDq i v).free = s.free := rfl
/-- Every other reading. -/
@[simp] theorem setDq_reads (i : Nat) (v : Queue) :
    (∀ n, (s.setDq i v).chan n = s.chan n) ∧ (∀ n, (s.setDq i v).term n = s.term n) ∧ (∀ n, (s.setDq i v).ln n = s.ln n) ∧
    (∀ n, (s.setDq i v).optic n = s.optic n) ∧ (∀ n, (s.setDq i v).bm n = s.bm n) ∧ (∀ n, (s.setDq i v).master n = s.master n) ∧
    (∀ n, (s.setDq i v).alloc n = s.alloc n) ∧ (∀ n, (s.setDq i v).gem n = s.gem n) ∧ (∀ n, (s.setDq i v).line n = s.line n) ∧
    (∀ n, (s.setDq i v).pair n = s.pair n) ∧ (∀ n, (s.setDq i v).slot n = s.slot n) ∧ (∀ n, (s.setDq i v).token n = s.token n) ∧
    (∀ n, (s.setDq i v).stream n = s.stream n) ∧ (∀ n, (s.setDq i v).tlane n = s.tlane n) ∧ (∀ n, (s.setDq i v).unit n = s.unit n) ∧
    (∀ n, (s.setDq i v).handler n = s.handler n) ∧ (∀ n, (s.setDq i v).mbox n = s.mbox n) ∧ (∀ n, (s.setDq i v).ch n = s.ch n) ∧
    (∀ n, (s.setDq i v).role n = s.role n) ∧ (∀ n, (s.setDq i v).uq n = s.uq n) ∧ (∀ n, (s.setDq i v).pool n = s.pool n) ∧
    (∀ n, (s.setDq i v).mac n = s.mac n) ∧ (∀ n, (s.setDq i v).table n = s.table n) ∧ (∀ n, (s.setDq i v).dramCh n = s.dramCh n) ∧
    (∀ n, (s.setDq i v).buf n = s.buf n) ∧ (∀ n, (s.setDq i v).gate n = s.gate n) ∧ (∀ p n, (s.setDq i v).get p n = s.get p n) ∧
    (∀ p n, (s.setDq i v).getN p n = s.getN p n) ∧ (∀ p n, (s.setDq i v).getF p n = s.getF p n) ∧ (∀ p n, (s.setDq i v).ro p n = s.ro p n) ∧
    (s.setDq i v).now = s.now ∧ (s.setDq i v).up = s.up := by
  and_intros <;> intros <;> rfl

/-! ### setUq -/

@[simp] theorem setUq_pending (i : Nat) (v : Queue) : (s.setUq i v).pending = s.pending := rfl
@[simp] theorem setUq_time (i : Nat) (v : Queue) : (s.setUq i v).time = s.time := rfl
@[simp] theorem setUq_clk (i : Nat) (v : Queue) : (s.setUq i v).clk = s.clk := rfl
@[simp] theorem setUq_par (i : Nat) (v : Queue) : (s.setUq i v).par = s.par := rfl
@[simp] theorem setUq_mb (i : Nat) (v : Queue) : (s.setUq i v).mb = s.mb := rfl
@[simp] theorem setUq_accepted (i : Nat) (v : Queue) : (s.setUq i v).accepted = s.accepted := rfl
@[simp] theorem setUq_roles (i : Nat) (v : Queue) : (s.setUq i v).roles = s.roles := rfl
@[simp] theorem setUq_fw (i : Nat) (v : Queue) : (s.setUq i v).fw = s.fw := rfl
@[simp] theorem setUq_host (i : Nat) (v : Queue) : (s.setUq i v).host = s.host := rfl
@[simp] theorem setUq_ev (i : Nat) (v : Queue) : (s.setUq i v).ev = s.ev := rfl
@[simp] theorem setUq_power (i : Nat) (v : Queue) : (s.setUq i v).power = s.power := rfl
@[simp] theorem setUq_dramBytes (i : Nat) (v : Queue) : (s.setUq i v).dramBytes = s.dramBytes := rfl
@[simp] theorem setUq_pace (i : Nat) (v : Queue) : (s.setUq i v).pace = s.pace := rfl
@[simp] theorem setUq_units (i : Nat) (v : Queue) : (s.setUq i v).units = s.units := rfl
@[simp] theorem setUq_reports (i : Nat) (v : Queue) : (s.setUq i v).reports = s.reports := rfl
@[simp] theorem setUq_fault (i : Nat) (v : Queue) : (s.setUq i v).fault = s.fault := rfl
@[simp] theorem setUq_lanes (i : Nat) (v : Queue) : (s.setUq i v).lanes = s.lanes := rfl
@[simp] theorem setUq_terms (i : Nat) (v : Queue) : (s.setUq i v).terms = s.terms := rfl
@[simp] theorem setUq_chans (i : Nat) (v : Queue) : (s.setUq i v).chans = s.chans := rfl
@[simp] theorem setUq_pon (i : Nat) (v : Queue) : (s.setUq i v).pon = s.pon := rfl
@[simp] theorem setUq_dba (i : Nat) (v : Queue) : (s.setUq i v).dba = s.dba := rfl
@[simp] theorem setUq_cipher (i : Nat) (v : Queue) : (s.setUq i v).cipher = s.cipher := rfl
@[simp] theorem setUq_prot (i : Nat) (v : Queue) : (s.setUq i v).prot = s.prot := rfl
@[simp] theorem setUq_laneTest (i : Nat) (v : Queue) : (s.setUq i v).laneTest = s.laneTest := rfl
@[simp] theorem setUq_tap (i : Nat) (v : Queue) : (s.setUq i v).tap = s.tap := rfl
@[simp] theorem setUq_outbox (i : Nat) (v : Queue) : (s.setUq i v).outbox = s.outbox := rfl
@[simp] theorem setUq_free (i : Nat) (v : Queue) : (s.setUq i v).free = s.free := rfl
/-- Every other reading. -/
@[simp] theorem setUq_reads (i : Nat) (v : Queue) :
    (∀ n, (s.setUq i v).chan n = s.chan n) ∧ (∀ n, (s.setUq i v).term n = s.term n) ∧ (∀ n, (s.setUq i v).ln n = s.ln n) ∧
    (∀ n, (s.setUq i v).optic n = s.optic n) ∧ (∀ n, (s.setUq i v).bm n = s.bm n) ∧ (∀ n, (s.setUq i v).master n = s.master n) ∧
    (∀ n, (s.setUq i v).alloc n = s.alloc n) ∧ (∀ n, (s.setUq i v).gem n = s.gem n) ∧ (∀ n, (s.setUq i v).line n = s.line n) ∧
    (∀ n, (s.setUq i v).pair n = s.pair n) ∧ (∀ n, (s.setUq i v).slot n = s.slot n) ∧ (∀ n, (s.setUq i v).token n = s.token n) ∧
    (∀ n, (s.setUq i v).stream n = s.stream n) ∧ (∀ n, (s.setUq i v).tlane n = s.tlane n) ∧ (∀ n, (s.setUq i v).unit n = s.unit n) ∧
    (∀ n, (s.setUq i v).handler n = s.handler n) ∧ (∀ n, (s.setUq i v).mbox n = s.mbox n) ∧ (∀ n, (s.setUq i v).ch n = s.ch n) ∧
    (∀ n, (s.setUq i v).role n = s.role n) ∧ (∀ n, (s.setUq i v).dq n = s.dq n) ∧ (∀ n, (s.setUq i v).pool n = s.pool n) ∧
    (∀ n, (s.setUq i v).mac n = s.mac n) ∧ (∀ n, (s.setUq i v).table n = s.table n) ∧ (∀ n, (s.setUq i v).dramCh n = s.dramCh n) ∧
    (∀ n, (s.setUq i v).buf n = s.buf n) ∧ (∀ n, (s.setUq i v).gate n = s.gate n) ∧ (∀ p n, (s.setUq i v).get p n = s.get p n) ∧
    (∀ p n, (s.setUq i v).getN p n = s.getN p n) ∧ (∀ p n, (s.setUq i v).getF p n = s.getF p n) ∧ (∀ p n, (s.setUq i v).ro p n = s.ro p n) ∧
    (s.setUq i v).now = s.now ∧ (s.setUq i v).up = s.up := by
  and_intros <;> intros <;> rfl

/-! ### setPool -/

@[simp] theorem setPool_pending (i : Nat) (v : Pool) : (s.setPool i v).pending = s.pending := rfl
@[simp] theorem setPool_time (i : Nat) (v : Pool) : (s.setPool i v).time = s.time := rfl
@[simp] theorem setPool_clk (i : Nat) (v : Pool) : (s.setPool i v).clk = s.clk := rfl
@[simp] theorem setPool_par (i : Nat) (v : Pool) : (s.setPool i v).par = s.par := rfl
@[simp] theorem setPool_mb (i : Nat) (v : Pool) : (s.setPool i v).mb = s.mb := rfl
@[simp] theorem setPool_accepted (i : Nat) (v : Pool) : (s.setPool i v).accepted = s.accepted := rfl
@[simp] theorem setPool_roles (i : Nat) (v : Pool) : (s.setPool i v).roles = s.roles := rfl
@[simp] theorem setPool_fw (i : Nat) (v : Pool) : (s.setPool i v).fw = s.fw := rfl
@[simp] theorem setPool_host (i : Nat) (v : Pool) : (s.setPool i v).host = s.host := rfl
@[simp] theorem setPool_ev (i : Nat) (v : Pool) : (s.setPool i v).ev = s.ev := rfl
@[simp] theorem setPool_power (i : Nat) (v : Pool) : (s.setPool i v).power = s.power := rfl
@[simp] theorem setPool_dramBytes (i : Nat) (v : Pool) : (s.setPool i v).dramBytes = s.dramBytes := rfl
@[simp] theorem setPool_pace (i : Nat) (v : Pool) : (s.setPool i v).pace = s.pace := rfl
@[simp] theorem setPool_units (i : Nat) (v : Pool) : (s.setPool i v).units = s.units := rfl
@[simp] theorem setPool_reports (i : Nat) (v : Pool) : (s.setPool i v).reports = s.reports := rfl
@[simp] theorem setPool_fault (i : Nat) (v : Pool) : (s.setPool i v).fault = s.fault := rfl
@[simp] theorem setPool_lanes (i : Nat) (v : Pool) : (s.setPool i v).lanes = s.lanes := rfl
@[simp] theorem setPool_terms (i : Nat) (v : Pool) : (s.setPool i v).terms = s.terms := rfl
@[simp] theorem setPool_chans (i : Nat) (v : Pool) : (s.setPool i v).chans = s.chans := rfl
@[simp] theorem setPool_pon (i : Nat) (v : Pool) : (s.setPool i v).pon = s.pon := rfl
@[simp] theorem setPool_dba (i : Nat) (v : Pool) : (s.setPool i v).dba = s.dba := rfl
@[simp] theorem setPool_cipher (i : Nat) (v : Pool) : (s.setPool i v).cipher = s.cipher := rfl
@[simp] theorem setPool_prot (i : Nat) (v : Pool) : (s.setPool i v).prot = s.prot := rfl
@[simp] theorem setPool_laneTest (i : Nat) (v : Pool) : (s.setPool i v).laneTest = s.laneTest := rfl
@[simp] theorem setPool_tap (i : Nat) (v : Pool) : (s.setPool i v).tap = s.tap := rfl
@[simp] theorem setPool_outbox (i : Nat) (v : Pool) : (s.setPool i v).outbox = s.outbox := rfl
@[simp] theorem setPool_free (i : Nat) (v : Pool) : (s.setPool i v).free = s.free := rfl
/-- Every other reading. -/
@[simp] theorem setPool_reads (i : Nat) (v : Pool) :
    (∀ n, (s.setPool i v).chan n = s.chan n) ∧ (∀ n, (s.setPool i v).term n = s.term n) ∧ (∀ n, (s.setPool i v).ln n = s.ln n) ∧
    (∀ n, (s.setPool i v).optic n = s.optic n) ∧ (∀ n, (s.setPool i v).bm n = s.bm n) ∧ (∀ n, (s.setPool i v).master n = s.master n) ∧
    (∀ n, (s.setPool i v).alloc n = s.alloc n) ∧ (∀ n, (s.setPool i v).gem n = s.gem n) ∧ (∀ n, (s.setPool i v).line n = s.line n) ∧
    (∀ n, (s.setPool i v).pair n = s.pair n) ∧ (∀ n, (s.setPool i v).slot n = s.slot n) ∧ (∀ n, (s.setPool i v).token n = s.token n) ∧
    (∀ n, (s.setPool i v).stream n = s.stream n) ∧ (∀ n, (s.setPool i v).tlane n = s.tlane n) ∧ (∀ n, (s.setPool i v).unit n = s.unit n) ∧
    (∀ n, (s.setPool i v).handler n = s.handler n) ∧ (∀ n, (s.setPool i v).mbox n = s.mbox n) ∧ (∀ n, (s.setPool i v).ch n = s.ch n) ∧
    (∀ n, (s.setPool i v).role n = s.role n) ∧ (∀ n, (s.setPool i v).dq n = s.dq n) ∧ (∀ n, (s.setPool i v).uq n = s.uq n) ∧
    (∀ n, (s.setPool i v).mac n = s.mac n) ∧ (∀ n, (s.setPool i v).table n = s.table n) ∧ (∀ n, (s.setPool i v).dramCh n = s.dramCh n) ∧
    (∀ n, (s.setPool i v).buf n = s.buf n) ∧ (∀ n, (s.setPool i v).gate n = s.gate n) ∧ (∀ p n, (s.setPool i v).get p n = s.get p n) ∧
    (∀ p n, (s.setPool i v).getN p n = s.getN p n) ∧ (∀ p n, (s.setPool i v).getF p n = s.getF p n) ∧
    (∀ p n, (s.setPool i v).ro p n = s.ro p n) ∧ (s.setPool i v).now = s.now ∧ (s.setPool i v).up = s.up := by
  and_intros <;> intros <;> rfl

/-! ### setMac -/

@[simp] theorem setMac_pending (i : Nat) (v : MacState) : (s.setMac i v).pending = s.pending := rfl
@[simp] theorem setMac_time (i : Nat) (v : MacState) : (s.setMac i v).time = s.time := rfl
@[simp] theorem setMac_clk (i : Nat) (v : MacState) : (s.setMac i v).clk = s.clk := rfl
@[simp] theorem setMac_par (i : Nat) (v : MacState) : (s.setMac i v).par = s.par := rfl
@[simp] theorem setMac_mb (i : Nat) (v : MacState) : (s.setMac i v).mb = s.mb := rfl
@[simp] theorem setMac_accepted (i : Nat) (v : MacState) : (s.setMac i v).accepted = s.accepted := rfl
@[simp] theorem setMac_roles (i : Nat) (v : MacState) : (s.setMac i v).roles = s.roles := rfl
@[simp] theorem setMac_fw (i : Nat) (v : MacState) : (s.setMac i v).fw = s.fw := rfl
@[simp] theorem setMac_host (i : Nat) (v : MacState) : (s.setMac i v).host = s.host := rfl
@[simp] theorem setMac_ev (i : Nat) (v : MacState) : (s.setMac i v).ev = s.ev := rfl
@[simp] theorem setMac_power (i : Nat) (v : MacState) : (s.setMac i v).power = s.power := rfl
@[simp] theorem setMac_dramBytes (i : Nat) (v : MacState) : (s.setMac i v).dramBytes = s.dramBytes := rfl
@[simp] theorem setMac_pace (i : Nat) (v : MacState) : (s.setMac i v).pace = s.pace := rfl
@[simp] theorem setMac_units (i : Nat) (v : MacState) : (s.setMac i v).units = s.units := rfl
@[simp] theorem setMac_reports (i : Nat) (v : MacState) : (s.setMac i v).reports = s.reports := rfl
@[simp] theorem setMac_fault (i : Nat) (v : MacState) : (s.setMac i v).fault = s.fault := rfl
@[simp] theorem setMac_lanes (i : Nat) (v : MacState) : (s.setMac i v).lanes = s.lanes := rfl
@[simp] theorem setMac_terms (i : Nat) (v : MacState) : (s.setMac i v).terms = s.terms := rfl
@[simp] theorem setMac_chans (i : Nat) (v : MacState) : (s.setMac i v).chans = s.chans := rfl
@[simp] theorem setMac_pon (i : Nat) (v : MacState) : (s.setMac i v).pon = s.pon := rfl
@[simp] theorem setMac_dba (i : Nat) (v : MacState) : (s.setMac i v).dba = s.dba := rfl
@[simp] theorem setMac_cipher (i : Nat) (v : MacState) : (s.setMac i v).cipher = s.cipher := rfl
@[simp] theorem setMac_prot (i : Nat) (v : MacState) : (s.setMac i v).prot = s.prot := rfl
@[simp] theorem setMac_laneTest (i : Nat) (v : MacState) : (s.setMac i v).laneTest = s.laneTest := rfl
@[simp] theorem setMac_tap (i : Nat) (v : MacState) : (s.setMac i v).tap = s.tap := rfl
@[simp] theorem setMac_outbox (i : Nat) (v : MacState) : (s.setMac i v).outbox = s.outbox := rfl
@[simp] theorem setMac_free (i : Nat) (v : MacState) : (s.setMac i v).free = s.free := rfl
/-- Every other reading. -/
@[simp] theorem setMac_reads (i : Nat) (v : MacState) :
    (∀ n, (s.setMac i v).chan n = s.chan n) ∧ (∀ n, (s.setMac i v).term n = s.term n) ∧ (∀ n, (s.setMac i v).ln n = s.ln n) ∧
    (∀ n, (s.setMac i v).optic n = s.optic n) ∧ (∀ n, (s.setMac i v).bm n = s.bm n) ∧ (∀ n, (s.setMac i v).master n = s.master n) ∧
    (∀ n, (s.setMac i v).alloc n = s.alloc n) ∧ (∀ n, (s.setMac i v).gem n = s.gem n) ∧ (∀ n, (s.setMac i v).line n = s.line n) ∧
    (∀ n, (s.setMac i v).pair n = s.pair n) ∧ (∀ n, (s.setMac i v).slot n = s.slot n) ∧ (∀ n, (s.setMac i v).token n = s.token n) ∧
    (∀ n, (s.setMac i v).stream n = s.stream n) ∧ (∀ n, (s.setMac i v).tlane n = s.tlane n) ∧ (∀ n, (s.setMac i v).unit n = s.unit n) ∧
    (∀ n, (s.setMac i v).handler n = s.handler n) ∧ (∀ n, (s.setMac i v).mbox n = s.mbox n) ∧ (∀ n, (s.setMac i v).ch n = s.ch n) ∧
    (∀ n, (s.setMac i v).role n = s.role n) ∧ (∀ n, (s.setMac i v).dq n = s.dq n) ∧ (∀ n, (s.setMac i v).uq n = s.uq n) ∧
    (∀ n, (s.setMac i v).pool n = s.pool n) ∧ (∀ n, (s.setMac i v).table n = s.table n) ∧ (∀ n, (s.setMac i v).dramCh n = s.dramCh n) ∧
    (∀ n, (s.setMac i v).buf n = s.buf n) ∧ (∀ n, (s.setMac i v).gate n = s.gate n) ∧ (∀ p n, (s.setMac i v).get p n = s.get p n) ∧
    (∀ p n, (s.setMac i v).getN p n = s.getN p n) ∧ (∀ p n, (s.setMac i v).getF p n = s.getF p n) ∧ (∀ p n, (s.setMac i v).ro p n = s.ro p n) ∧
    (s.setMac i v).now = s.now ∧ (s.setMac i v).up = s.up := by
  and_intros <;> intros <;> rfl

/-! ### setTable -/

@[simp] theorem setTable_pending (i : Nat) (v : TableState) : (s.setTable i v).pending = s.pending := rfl
@[simp] theorem setTable_time (i : Nat) (v : TableState) : (s.setTable i v).time = s.time := rfl
@[simp] theorem setTable_clk (i : Nat) (v : TableState) : (s.setTable i v).clk = s.clk := rfl
@[simp] theorem setTable_par (i : Nat) (v : TableState) : (s.setTable i v).par = s.par := rfl
@[simp] theorem setTable_mb (i : Nat) (v : TableState) : (s.setTable i v).mb = s.mb := rfl
@[simp] theorem setTable_accepted (i : Nat) (v : TableState) : (s.setTable i v).accepted = s.accepted := rfl
@[simp] theorem setTable_roles (i : Nat) (v : TableState) : (s.setTable i v).roles = s.roles := rfl
@[simp] theorem setTable_fw (i : Nat) (v : TableState) : (s.setTable i v).fw = s.fw := rfl
@[simp] theorem setTable_host (i : Nat) (v : TableState) : (s.setTable i v).host = s.host := rfl
@[simp] theorem setTable_ev (i : Nat) (v : TableState) : (s.setTable i v).ev = s.ev := rfl
@[simp] theorem setTable_power (i : Nat) (v : TableState) : (s.setTable i v).power = s.power := rfl
@[simp] theorem setTable_dramBytes (i : Nat) (v : TableState) : (s.setTable i v).dramBytes = s.dramBytes := rfl
@[simp] theorem setTable_pace (i : Nat) (v : TableState) : (s.setTable i v).pace = s.pace := rfl
@[simp] theorem setTable_units (i : Nat) (v : TableState) : (s.setTable i v).units = s.units := rfl
@[simp] theorem setTable_reports (i : Nat) (v : TableState) : (s.setTable i v).reports = s.reports := rfl
@[simp] theorem setTable_fault (i : Nat) (v : TableState) : (s.setTable i v).fault = s.fault := rfl
@[simp] theorem setTable_lanes (i : Nat) (v : TableState) : (s.setTable i v).lanes = s.lanes := rfl
@[simp] theorem setTable_terms (i : Nat) (v : TableState) : (s.setTable i v).terms = s.terms := rfl
@[simp] theorem setTable_chans (i : Nat) (v : TableState) : (s.setTable i v).chans = s.chans := rfl
@[simp] theorem setTable_pon (i : Nat) (v : TableState) : (s.setTable i v).pon = s.pon := rfl
@[simp] theorem setTable_dba (i : Nat) (v : TableState) : (s.setTable i v).dba = s.dba := rfl
@[simp] theorem setTable_cipher (i : Nat) (v : TableState) : (s.setTable i v).cipher = s.cipher := rfl
@[simp] theorem setTable_prot (i : Nat) (v : TableState) : (s.setTable i v).prot = s.prot := rfl
@[simp] theorem setTable_laneTest (i : Nat) (v : TableState) : (s.setTable i v).laneTest = s.laneTest := rfl
@[simp] theorem setTable_tap (i : Nat) (v : TableState) : (s.setTable i v).tap = s.tap := rfl
@[simp] theorem setTable_outbox (i : Nat) (v : TableState) : (s.setTable i v).outbox = s.outbox := rfl
@[simp] theorem setTable_free (i : Nat) (v : TableState) : (s.setTable i v).free = s.free := rfl
/-- Every other reading. -/
@[simp] theorem setTable_reads (i : Nat) (v : TableState) :
    (∀ n, (s.setTable i v).chan n = s.chan n) ∧ (∀ n, (s.setTable i v).term n = s.term n) ∧ (∀ n, (s.setTable i v).ln n = s.ln n) ∧
    (∀ n, (s.setTable i v).optic n = s.optic n) ∧ (∀ n, (s.setTable i v).bm n = s.bm n) ∧ (∀ n, (s.setTable i v).master n = s.master n) ∧
    (∀ n, (s.setTable i v).alloc n = s.alloc n) ∧ (∀ n, (s.setTable i v).gem n = s.gem n) ∧ (∀ n, (s.setTable i v).line n = s.line n) ∧
    (∀ n, (s.setTable i v).pair n = s.pair n) ∧ (∀ n, (s.setTable i v).slot n = s.slot n) ∧ (∀ n, (s.setTable i v).token n = s.token n) ∧
    (∀ n, (s.setTable i v).stream n = s.stream n) ∧ (∀ n, (s.setTable i v).tlane n = s.tlane n) ∧ (∀ n, (s.setTable i v).unit n = s.unit n) ∧
    (∀ n, (s.setTable i v).handler n = s.handler n) ∧ (∀ n, (s.setTable i v).mbox n = s.mbox n) ∧ (∀ n, (s.setTable i v).ch n = s.ch n) ∧
    (∀ n, (s.setTable i v).role n = s.role n) ∧ (∀ n, (s.setTable i v).dq n = s.dq n) ∧ (∀ n, (s.setTable i v).uq n = s.uq n) ∧
    (∀ n, (s.setTable i v).pool n = s.pool n) ∧ (∀ n, (s.setTable i v).mac n = s.mac n) ∧ (∀ n, (s.setTable i v).dramCh n = s.dramCh n) ∧
    (∀ n, (s.setTable i v).buf n = s.buf n) ∧ (∀ n, (s.setTable i v).gate n = s.gate n) ∧ (∀ p n, (s.setTable i v).get p n = s.get p n) ∧
    (∀ p n, (s.setTable i v).getN p n = s.getN p n) ∧ (∀ p n, (s.setTable i v).getF p n = s.getF p n) ∧
    (∀ p n, (s.setTable i v).ro p n = s.ro p n) ∧ (s.setTable i v).now = s.now ∧ (s.setTable i v).up = s.up := by
  and_intros <;> intros <;> rfl

/-! ### setDramCh -/

@[simp] theorem setDramCh_pending (i : Nat) (v : DramCh) : (s.setDramCh i v).pending = s.pending := rfl
@[simp] theorem setDramCh_time (i : Nat) (v : DramCh) : (s.setDramCh i v).time = s.time := rfl
@[simp] theorem setDramCh_clk (i : Nat) (v : DramCh) : (s.setDramCh i v).clk = s.clk := rfl
@[simp] theorem setDramCh_par (i : Nat) (v : DramCh) : (s.setDramCh i v).par = s.par := rfl
@[simp] theorem setDramCh_mb (i : Nat) (v : DramCh) : (s.setDramCh i v).mb = s.mb := rfl
@[simp] theorem setDramCh_accepted (i : Nat) (v : DramCh) : (s.setDramCh i v).accepted = s.accepted := rfl
@[simp] theorem setDramCh_roles (i : Nat) (v : DramCh) : (s.setDramCh i v).roles = s.roles := rfl
@[simp] theorem setDramCh_fw (i : Nat) (v : DramCh) : (s.setDramCh i v).fw = s.fw := rfl
@[simp] theorem setDramCh_host (i : Nat) (v : DramCh) : (s.setDramCh i v).host = s.host := rfl
@[simp] theorem setDramCh_ev (i : Nat) (v : DramCh) : (s.setDramCh i v).ev = s.ev := rfl
@[simp] theorem setDramCh_power (i : Nat) (v : DramCh) : (s.setDramCh i v).power = s.power := rfl
@[simp] theorem setDramCh_dramBytes (i : Nat) (v : DramCh) : (s.setDramCh i v).dramBytes = s.dramBytes := rfl
@[simp] theorem setDramCh_pace (i : Nat) (v : DramCh) : (s.setDramCh i v).pace = s.pace := rfl
@[simp] theorem setDramCh_units (i : Nat) (v : DramCh) : (s.setDramCh i v).units = s.units := rfl
@[simp] theorem setDramCh_reports (i : Nat) (v : DramCh) : (s.setDramCh i v).reports = s.reports := rfl
@[simp] theorem setDramCh_fault (i : Nat) (v : DramCh) : (s.setDramCh i v).fault = s.fault := rfl
@[simp] theorem setDramCh_lanes (i : Nat) (v : DramCh) : (s.setDramCh i v).lanes = s.lanes := rfl
@[simp] theorem setDramCh_terms (i : Nat) (v : DramCh) : (s.setDramCh i v).terms = s.terms := rfl
@[simp] theorem setDramCh_chans (i : Nat) (v : DramCh) : (s.setDramCh i v).chans = s.chans := rfl
@[simp] theorem setDramCh_pon (i : Nat) (v : DramCh) : (s.setDramCh i v).pon = s.pon := rfl
@[simp] theorem setDramCh_dba (i : Nat) (v : DramCh) : (s.setDramCh i v).dba = s.dba := rfl
@[simp] theorem setDramCh_cipher (i : Nat) (v : DramCh) : (s.setDramCh i v).cipher = s.cipher := rfl
@[simp] theorem setDramCh_prot (i : Nat) (v : DramCh) : (s.setDramCh i v).prot = s.prot := rfl
@[simp] theorem setDramCh_laneTest (i : Nat) (v : DramCh) : (s.setDramCh i v).laneTest = s.laneTest := rfl
@[simp] theorem setDramCh_tap (i : Nat) (v : DramCh) : (s.setDramCh i v).tap = s.tap := rfl
@[simp] theorem setDramCh_outbox (i : Nat) (v : DramCh) : (s.setDramCh i v).outbox = s.outbox := rfl
@[simp] theorem setDramCh_free (i : Nat) (v : DramCh) : (s.setDramCh i v).free = s.free := rfl
/-- Every other reading. -/
@[simp] theorem setDramCh_reads (i : Nat) (v : DramCh) :
    (∀ n, (s.setDramCh i v).chan n = s.chan n) ∧ (∀ n, (s.setDramCh i v).term n = s.term n) ∧ (∀ n, (s.setDramCh i v).ln n = s.ln n) ∧
    (∀ n, (s.setDramCh i v).optic n = s.optic n) ∧ (∀ n, (s.setDramCh i v).bm n = s.bm n) ∧ (∀ n, (s.setDramCh i v).master n = s.master n) ∧
    (∀ n, (s.setDramCh i v).alloc n = s.alloc n) ∧ (∀ n, (s.setDramCh i v).gem n = s.gem n) ∧ (∀ n, (s.setDramCh i v).line n = s.line n) ∧
    (∀ n, (s.setDramCh i v).pair n = s.pair n) ∧ (∀ n, (s.setDramCh i v).slot n = s.slot n) ∧ (∀ n, (s.setDramCh i v).token n = s.token n) ∧
    (∀ n, (s.setDramCh i v).stream n = s.stream n) ∧ (∀ n, (s.setDramCh i v).tlane n = s.tlane n) ∧ (∀ n, (s.setDramCh i v).unit n = s.unit n) ∧
    (∀ n, (s.setDramCh i v).handler n = s.handler n) ∧ (∀ n, (s.setDramCh i v).mbox n = s.mbox n) ∧ (∀ n, (s.setDramCh i v).ch n = s.ch n) ∧
    (∀ n, (s.setDramCh i v).role n = s.role n) ∧ (∀ n, (s.setDramCh i v).dq n = s.dq n) ∧ (∀ n, (s.setDramCh i v).uq n = s.uq n) ∧
    (∀ n, (s.setDramCh i v).pool n = s.pool n) ∧ (∀ n, (s.setDramCh i v).mac n = s.mac n) ∧ (∀ n, (s.setDramCh i v).table n = s.table n) ∧
    (∀ n, (s.setDramCh i v).buf n = s.buf n) ∧ (∀ n, (s.setDramCh i v).gate n = s.gate n) ∧ (∀ p n, (s.setDramCh i v).get p n = s.get p n) ∧
    (∀ p n, (s.setDramCh i v).getN p n = s.getN p n) ∧ (∀ p n, (s.setDramCh i v).getF p n = s.getF p n) ∧
    (∀ p n, (s.setDramCh i v).ro p n = s.ro p n) ∧ (s.setDramCh i v).now = s.now ∧ (s.setDramCh i v).up = s.up := by
  and_intros <;> intros <;> rfl

/-! ### setBuf -/

@[simp] theorem setBuf_pending (i : Nat) (v : BufWord) : (s.setBuf i v).pending = s.pending := rfl
@[simp] theorem setBuf_time (i : Nat) (v : BufWord) : (s.setBuf i v).time = s.time := rfl
@[simp] theorem setBuf_clk (i : Nat) (v : BufWord) : (s.setBuf i v).clk = s.clk := rfl
@[simp] theorem setBuf_par (i : Nat) (v : BufWord) : (s.setBuf i v).par = s.par := rfl
@[simp] theorem setBuf_mb (i : Nat) (v : BufWord) : (s.setBuf i v).mb = s.mb := rfl
@[simp] theorem setBuf_accepted (i : Nat) (v : BufWord) : (s.setBuf i v).accepted = s.accepted := rfl
@[simp] theorem setBuf_roles (i : Nat) (v : BufWord) : (s.setBuf i v).roles = s.roles := rfl
@[simp] theorem setBuf_fw (i : Nat) (v : BufWord) : (s.setBuf i v).fw = s.fw := rfl
@[simp] theorem setBuf_host (i : Nat) (v : BufWord) : (s.setBuf i v).host = s.host := rfl
@[simp] theorem setBuf_ev (i : Nat) (v : BufWord) : (s.setBuf i v).ev = s.ev := rfl
@[simp] theorem setBuf_power (i : Nat) (v : BufWord) : (s.setBuf i v).power = s.power := rfl
@[simp] theorem setBuf_dramBytes (i : Nat) (v : BufWord) : (s.setBuf i v).dramBytes = s.dramBytes := rfl
@[simp] theorem setBuf_pace (i : Nat) (v : BufWord) : (s.setBuf i v).pace = s.pace := rfl
@[simp] theorem setBuf_units (i : Nat) (v : BufWord) : (s.setBuf i v).units = s.units := rfl
@[simp] theorem setBuf_reports (i : Nat) (v : BufWord) : (s.setBuf i v).reports = s.reports := rfl
@[simp] theorem setBuf_fault (i : Nat) (v : BufWord) : (s.setBuf i v).fault = s.fault := rfl
@[simp] theorem setBuf_lanes (i : Nat) (v : BufWord) : (s.setBuf i v).lanes = s.lanes := rfl
@[simp] theorem setBuf_terms (i : Nat) (v : BufWord) : (s.setBuf i v).terms = s.terms := rfl
@[simp] theorem setBuf_chans (i : Nat) (v : BufWord) : (s.setBuf i v).chans = s.chans := rfl
@[simp] theorem setBuf_pon (i : Nat) (v : BufWord) : (s.setBuf i v).pon = s.pon := rfl
@[simp] theorem setBuf_dba (i : Nat) (v : BufWord) : (s.setBuf i v).dba = s.dba := rfl
@[simp] theorem setBuf_cipher (i : Nat) (v : BufWord) : (s.setBuf i v).cipher = s.cipher := rfl
@[simp] theorem setBuf_prot (i : Nat) (v : BufWord) : (s.setBuf i v).prot = s.prot := rfl
@[simp] theorem setBuf_laneTest (i : Nat) (v : BufWord) : (s.setBuf i v).laneTest = s.laneTest := rfl
@[simp] theorem setBuf_tap (i : Nat) (v : BufWord) : (s.setBuf i v).tap = s.tap := rfl
@[simp] theorem setBuf_outbox (i : Nat) (v : BufWord) : (s.setBuf i v).outbox = s.outbox := rfl
@[simp] theorem setBuf_free (i : Nat) (v : BufWord) : (s.setBuf i v).free = s.free := rfl
/-- Every other reading. -/
@[simp] theorem setBuf_reads (i : Nat) (v : BufWord) :
    (∀ n, (s.setBuf i v).chan n = s.chan n) ∧ (∀ n, (s.setBuf i v).term n = s.term n) ∧ (∀ n, (s.setBuf i v).ln n = s.ln n) ∧
    (∀ n, (s.setBuf i v).optic n = s.optic n) ∧ (∀ n, (s.setBuf i v).bm n = s.bm n) ∧ (∀ n, (s.setBuf i v).master n = s.master n) ∧
    (∀ n, (s.setBuf i v).alloc n = s.alloc n) ∧ (∀ n, (s.setBuf i v).gem n = s.gem n) ∧ (∀ n, (s.setBuf i v).line n = s.line n) ∧
    (∀ n, (s.setBuf i v).pair n = s.pair n) ∧ (∀ n, (s.setBuf i v).slot n = s.slot n) ∧ (∀ n, (s.setBuf i v).token n = s.token n) ∧
    (∀ n, (s.setBuf i v).stream n = s.stream n) ∧ (∀ n, (s.setBuf i v).tlane n = s.tlane n) ∧ (∀ n, (s.setBuf i v).unit n = s.unit n) ∧
    (∀ n, (s.setBuf i v).handler n = s.handler n) ∧ (∀ n, (s.setBuf i v).mbox n = s.mbox n) ∧ (∀ n, (s.setBuf i v).ch n = s.ch n) ∧
    (∀ n, (s.setBuf i v).role n = s.role n) ∧ (∀ n, (s.setBuf i v).dq n = s.dq n) ∧ (∀ n, (s.setBuf i v).uq n = s.uq n) ∧
    (∀ n, (s.setBuf i v).pool n = s.pool n) ∧ (∀ n, (s.setBuf i v).mac n = s.mac n) ∧ (∀ n, (s.setBuf i v).table n = s.table n) ∧
    (∀ n, (s.setBuf i v).dramCh n = s.dramCh n) ∧ (∀ n, (s.setBuf i v).gate n = s.gate n) ∧ (∀ p n, (s.setBuf i v).get p n = s.get p n) ∧
    (∀ p n, (s.setBuf i v).getN p n = s.getN p n) ∧ (∀ p n, (s.setBuf i v).getF p n = s.getF p n) ∧ (∀ p n, (s.setBuf i v).ro p n = s.ro p n) ∧
    (s.setBuf i v).now = s.now ∧ (s.setBuf i v).up = s.up := by
  and_intros <;> intros <;> rfl

/-! ### setGate -/

@[simp] theorem setGate_pending (i : Nat) (v : GateState) : (s.setGate i v).pending = s.pending := rfl
@[simp] theorem setGate_time (i : Nat) (v : GateState) : (s.setGate i v).time = s.time := rfl
@[simp] theorem setGate_clk (i : Nat) (v : GateState) : (s.setGate i v).clk = s.clk := rfl
@[simp] theorem setGate_par (i : Nat) (v : GateState) : (s.setGate i v).par = s.par := rfl
@[simp] theorem setGate_mb (i : Nat) (v : GateState) : (s.setGate i v).mb = s.mb := rfl
@[simp] theorem setGate_accepted (i : Nat) (v : GateState) : (s.setGate i v).accepted = s.accepted := rfl
@[simp] theorem setGate_roles (i : Nat) (v : GateState) : (s.setGate i v).roles = s.roles := rfl
@[simp] theorem setGate_fw (i : Nat) (v : GateState) : (s.setGate i v).fw = s.fw := rfl
@[simp] theorem setGate_host (i : Nat) (v : GateState) : (s.setGate i v).host = s.host := rfl
@[simp] theorem setGate_ev (i : Nat) (v : GateState) : (s.setGate i v).ev = s.ev := rfl
@[simp] theorem setGate_power (i : Nat) (v : GateState) : (s.setGate i v).power = s.power := rfl
@[simp] theorem setGate_dramBytes (i : Nat) (v : GateState) : (s.setGate i v).dramBytes = s.dramBytes := rfl
@[simp] theorem setGate_pace (i : Nat) (v : GateState) : (s.setGate i v).pace = s.pace := rfl
@[simp] theorem setGate_units (i : Nat) (v : GateState) : (s.setGate i v).units = s.units := rfl
@[simp] theorem setGate_reports (i : Nat) (v : GateState) : (s.setGate i v).reports = s.reports := rfl
@[simp] theorem setGate_fault (i : Nat) (v : GateState) : (s.setGate i v).fault = s.fault := rfl
@[simp] theorem setGate_lanes (i : Nat) (v : GateState) : (s.setGate i v).lanes = s.lanes := rfl
@[simp] theorem setGate_terms (i : Nat) (v : GateState) : (s.setGate i v).terms = s.terms := rfl
@[simp] theorem setGate_chans (i : Nat) (v : GateState) : (s.setGate i v).chans = s.chans := rfl
@[simp] theorem setGate_pon (i : Nat) (v : GateState) : (s.setGate i v).pon = s.pon := rfl
@[simp] theorem setGate_dba (i : Nat) (v : GateState) : (s.setGate i v).dba = s.dba := rfl
@[simp] theorem setGate_cipher (i : Nat) (v : GateState) : (s.setGate i v).cipher = s.cipher := rfl
@[simp] theorem setGate_prot (i : Nat) (v : GateState) : (s.setGate i v).prot = s.prot := rfl
@[simp] theorem setGate_laneTest (i : Nat) (v : GateState) : (s.setGate i v).laneTest = s.laneTest := rfl
@[simp] theorem setGate_tap (i : Nat) (v : GateState) : (s.setGate i v).tap = s.tap := rfl
@[simp] theorem setGate_outbox (i : Nat) (v : GateState) : (s.setGate i v).outbox = s.outbox := rfl
@[simp] theorem setGate_free (i : Nat) (v : GateState) : (s.setGate i v).free = s.free := rfl
/-- Every other reading. -/
@[simp] theorem setGate_reads (i : Nat) (v : GateState) :
    (∀ n, (s.setGate i v).chan n = s.chan n) ∧ (∀ n, (s.setGate i v).term n = s.term n) ∧ (∀ n, (s.setGate i v).ln n = s.ln n) ∧
    (∀ n, (s.setGate i v).optic n = s.optic n) ∧ (∀ n, (s.setGate i v).bm n = s.bm n) ∧ (∀ n, (s.setGate i v).master n = s.master n) ∧
    (∀ n, (s.setGate i v).alloc n = s.alloc n) ∧ (∀ n, (s.setGate i v).gem n = s.gem n) ∧ (∀ n, (s.setGate i v).line n = s.line n) ∧
    (∀ n, (s.setGate i v).pair n = s.pair n) ∧ (∀ n, (s.setGate i v).slot n = s.slot n) ∧ (∀ n, (s.setGate i v).token n = s.token n) ∧
    (∀ n, (s.setGate i v).stream n = s.stream n) ∧ (∀ n, (s.setGate i v).tlane n = s.tlane n) ∧ (∀ n, (s.setGate i v).unit n = s.unit n) ∧
    (∀ n, (s.setGate i v).handler n = s.handler n) ∧ (∀ n, (s.setGate i v).mbox n = s.mbox n) ∧ (∀ n, (s.setGate i v).ch n = s.ch n) ∧
    (∀ n, (s.setGate i v).role n = s.role n) ∧ (∀ n, (s.setGate i v).dq n = s.dq n) ∧ (∀ n, (s.setGate i v).uq n = s.uq n) ∧
    (∀ n, (s.setGate i v).pool n = s.pool n) ∧ (∀ n, (s.setGate i v).mac n = s.mac n) ∧ (∀ n, (s.setGate i v).table n = s.table n) ∧
    (∀ n, (s.setGate i v).dramCh n = s.dramCh n) ∧ (∀ n, (s.setGate i v).buf n = s.buf n) ∧ (∀ p n, (s.setGate i v).get p n = s.get p n) ∧
    (∀ p n, (s.setGate i v).getN p n = s.getN p n) ∧ (∀ p n, (s.setGate i v).getF p n = s.getF p n) ∧
    (∀ p n, (s.setGate i v).ro p n = s.ro p n) ∧ (s.setGate i v).now = s.now ∧ (s.setGate i v).up = s.up := by
  and_intros <;> intros <;> rfl

/-! ### setPar -/

@[simp] theorem setPar_pending (q : Param) (i : Nat) (v : Int) : (s.setPar q i v).pending = s.pending := rfl
@[simp] theorem setPar_time (q : Param) (i : Nat) (v : Int) : (s.setPar q i v).time = s.time := rfl
@[simp] theorem setPar_clk (q : Param) (i : Nat) (v : Int) : (s.setPar q i v).clk = s.clk := rfl
@[simp] theorem setPar_mb (q : Param) (i : Nat) (v : Int) : (s.setPar q i v).mb = s.mb := rfl
@[simp] theorem setPar_accepted (q : Param) (i : Nat) (v : Int) : (s.setPar q i v).accepted = s.accepted := rfl
@[simp] theorem setPar_roles (q : Param) (i : Nat) (v : Int) : (s.setPar q i v).roles = s.roles := rfl
@[simp] theorem setPar_fw (q : Param) (i : Nat) (v : Int) : (s.setPar q i v).fw = s.fw := rfl
@[simp] theorem setPar_host (q : Param) (i : Nat) (v : Int) : (s.setPar q i v).host = s.host := rfl
@[simp] theorem setPar_ev (q : Param) (i : Nat) (v : Int) : (s.setPar q i v).ev = s.ev := rfl
@[simp] theorem setPar_power (q : Param) (i : Nat) (v : Int) : (s.setPar q i v).power = s.power := rfl
@[simp] theorem setPar_dramBytes (q : Param) (i : Nat) (v : Int) : (s.setPar q i v).dramBytes = s.dramBytes := rfl
@[simp] theorem setPar_pace (q : Param) (i : Nat) (v : Int) : (s.setPar q i v).pace = s.pace := rfl
@[simp] theorem setPar_units (q : Param) (i : Nat) (v : Int) : (s.setPar q i v).units = s.units := rfl
@[simp] theorem setPar_reports (q : Param) (i : Nat) (v : Int) : (s.setPar q i v).reports = s.reports := rfl
@[simp] theorem setPar_fault (q : Param) (i : Nat) (v : Int) : (s.setPar q i v).fault = s.fault := rfl
@[simp] theorem setPar_lanes (q : Param) (i : Nat) (v : Int) : (s.setPar q i v).lanes = s.lanes := rfl
@[simp] theorem setPar_terms (q : Param) (i : Nat) (v : Int) : (s.setPar q i v).terms = s.terms := rfl
@[simp] theorem setPar_chans (q : Param) (i : Nat) (v : Int) : (s.setPar q i v).chans = s.chans := rfl
@[simp] theorem setPar_pon (q : Param) (i : Nat) (v : Int) : (s.setPar q i v).pon = s.pon := rfl
@[simp] theorem setPar_dba (q : Param) (i : Nat) (v : Int) : (s.setPar q i v).dba = s.dba := rfl
@[simp] theorem setPar_cipher (q : Param) (i : Nat) (v : Int) : (s.setPar q i v).cipher = s.cipher := rfl
@[simp] theorem setPar_prot (q : Param) (i : Nat) (v : Int) : (s.setPar q i v).prot = s.prot := rfl
@[simp] theorem setPar_fwd (q : Param) (i : Nat) (v : Int) : (s.setPar q i v).fwd = s.fwd := rfl
@[simp] theorem setPar_laneTest (q : Param) (i : Nat) (v : Int) : (s.setPar q i v).laneTest = s.laneTest := rfl
@[simp] theorem setPar_tap (q : Param) (i : Nat) (v : Int) : (s.setPar q i v).tap = s.tap := rfl
@[simp] theorem setPar_outbox (q : Param) (i : Nat) (v : Int) : (s.setPar q i v).outbox = s.outbox := rfl
@[simp] theorem setPar_free (q : Param) (i : Nat) (v : Int) : (s.setPar q i v).free = s.free := rfl
/-- Every other reading. -/
@[simp] theorem setPar_reads (q : Param) (i : Nat) (v : Int) :
    (∀ n, (s.setPar q i v).chan n = s.chan n) ∧ (∀ n, (s.setPar q i v).term n = s.term n) ∧ (∀ n, (s.setPar q i v).ln n = s.ln n) ∧
    (∀ n, (s.setPar q i v).optic n = s.optic n) ∧ (∀ n, (s.setPar q i v).bm n = s.bm n) ∧ (∀ n, (s.setPar q i v).master n = s.master n) ∧
    (∀ n, (s.setPar q i v).alloc n = s.alloc n) ∧ (∀ n, (s.setPar q i v).gem n = s.gem n) ∧ (∀ n, (s.setPar q i v).line n = s.line n) ∧
    (∀ n, (s.setPar q i v).pair n = s.pair n) ∧ (∀ n, (s.setPar q i v).slot n = s.slot n) ∧ (∀ n, (s.setPar q i v).token n = s.token n) ∧
    (∀ n, (s.setPar q i v).stream n = s.stream n) ∧ (∀ n, (s.setPar q i v).tlane n = s.tlane n) ∧ (∀ n, (s.setPar q i v).unit n = s.unit n) ∧
    (∀ n, (s.setPar q i v).handler n = s.handler n) ∧ (∀ n, (s.setPar q i v).mbox n = s.mbox n) ∧ (∀ n, (s.setPar q i v).ch n = s.ch n) ∧
    (∀ n, (s.setPar q i v).role n = s.role n) ∧ (∀ n, (s.setPar q i v).dq n = s.dq n) ∧ (∀ n, (s.setPar q i v).uq n = s.uq n) ∧
    (∀ n, (s.setPar q i v).pool n = s.pool n) ∧ (∀ n, (s.setPar q i v).mac n = s.mac n) ∧ (∀ n, (s.setPar q i v).table n = s.table n) ∧
    (∀ n, (s.setPar q i v).dramCh n = s.dramCh n) ∧ (∀ n, (s.setPar q i v).buf n = s.buf n) ∧ (∀ n, (s.setPar q i v).gate n = s.gate n) ∧
    (s.setPar q i v).now = s.now ∧ (s.setPar q i v).up = s.up := by
  and_intros <;> intros <;> rfl

/-! ### setRo -/

@[simp] theorem setRo_pending (q : Param) (i : Nat) (v : Int) : (s.setRo q i v).pending = s.pending := rfl
@[simp] theorem setRo_time (q : Param) (i : Nat) (v : Int) : (s.setRo q i v).time = s.time := rfl
@[simp] theorem setRo_clk (q : Param) (i : Nat) (v : Int) : (s.setRo q i v).clk = s.clk := rfl
@[simp] theorem setRo_mb (q : Param) (i : Nat) (v : Int) : (s.setRo q i v).mb = s.mb := rfl
@[simp] theorem setRo_accepted (q : Param) (i : Nat) (v : Int) : (s.setRo q i v).accepted = s.accepted := rfl
@[simp] theorem setRo_roles (q : Param) (i : Nat) (v : Int) : (s.setRo q i v).roles = s.roles := rfl
@[simp] theorem setRo_fw (q : Param) (i : Nat) (v : Int) : (s.setRo q i v).fw = s.fw := rfl
@[simp] theorem setRo_host (q : Param) (i : Nat) (v : Int) : (s.setRo q i v).host = s.host := rfl
@[simp] theorem setRo_ev (q : Param) (i : Nat) (v : Int) : (s.setRo q i v).ev = s.ev := rfl
@[simp] theorem setRo_power (q : Param) (i : Nat) (v : Int) : (s.setRo q i v).power = s.power := rfl
@[simp] theorem setRo_dramBytes (q : Param) (i : Nat) (v : Int) : (s.setRo q i v).dramBytes = s.dramBytes := rfl
@[simp] theorem setRo_pace (q : Param) (i : Nat) (v : Int) : (s.setRo q i v).pace = s.pace := rfl
@[simp] theorem setRo_units (q : Param) (i : Nat) (v : Int) : (s.setRo q i v).units = s.units := rfl
@[simp] theorem setRo_reports (q : Param) (i : Nat) (v : Int) : (s.setRo q i v).reports = s.reports := rfl
@[simp] theorem setRo_fault (q : Param) (i : Nat) (v : Int) : (s.setRo q i v).fault = s.fault := rfl
@[simp] theorem setRo_lanes (q : Param) (i : Nat) (v : Int) : (s.setRo q i v).lanes = s.lanes := rfl
@[simp] theorem setRo_terms (q : Param) (i : Nat) (v : Int) : (s.setRo q i v).terms = s.terms := rfl
@[simp] theorem setRo_chans (q : Param) (i : Nat) (v : Int) : (s.setRo q i v).chans = s.chans := rfl
@[simp] theorem setRo_pon (q : Param) (i : Nat) (v : Int) : (s.setRo q i v).pon = s.pon := rfl
@[simp] theorem setRo_dba (q : Param) (i : Nat) (v : Int) : (s.setRo q i v).dba = s.dba := rfl
@[simp] theorem setRo_cipher (q : Param) (i : Nat) (v : Int) : (s.setRo q i v).cipher = s.cipher := rfl
@[simp] theorem setRo_prot (q : Param) (i : Nat) (v : Int) : (s.setRo q i v).prot = s.prot := rfl
@[simp] theorem setRo_fwd (q : Param) (i : Nat) (v : Int) : (s.setRo q i v).fwd = s.fwd := rfl
@[simp] theorem setRo_laneTest (q : Param) (i : Nat) (v : Int) : (s.setRo q i v).laneTest = s.laneTest := rfl
@[simp] theorem setRo_tap (q : Param) (i : Nat) (v : Int) : (s.setRo q i v).tap = s.tap := rfl
@[simp] theorem setRo_outbox (q : Param) (i : Nat) (v : Int) : (s.setRo q i v).outbox = s.outbox := rfl
@[simp] theorem setRo_free (q : Param) (i : Nat) (v : Int) : (s.setRo q i v).free = s.free := rfl
/-- Every other reading. -/
@[simp] theorem setRo_reads (q : Param) (i : Nat) (v : Int) :
    (∀ n, (s.setRo q i v).chan n = s.chan n) ∧ (∀ n, (s.setRo q i v).term n = s.term n) ∧ (∀ n, (s.setRo q i v).ln n = s.ln n) ∧
    (∀ n, (s.setRo q i v).optic n = s.optic n) ∧ (∀ n, (s.setRo q i v).bm n = s.bm n) ∧ (∀ n, (s.setRo q i v).master n = s.master n) ∧
    (∀ n, (s.setRo q i v).alloc n = s.alloc n) ∧ (∀ n, (s.setRo q i v).gem n = s.gem n) ∧ (∀ n, (s.setRo q i v).line n = s.line n) ∧
    (∀ n, (s.setRo q i v).pair n = s.pair n) ∧ (∀ n, (s.setRo q i v).slot n = s.slot n) ∧ (∀ n, (s.setRo q i v).token n = s.token n) ∧
    (∀ n, (s.setRo q i v).stream n = s.stream n) ∧ (∀ n, (s.setRo q i v).tlane n = s.tlane n) ∧ (∀ n, (s.setRo q i v).unit n = s.unit n) ∧
    (∀ n, (s.setRo q i v).handler n = s.handler n) ∧ (∀ n, (s.setRo q i v).mbox n = s.mbox n) ∧ (∀ n, (s.setRo q i v).ch n = s.ch n) ∧
    (∀ n, (s.setRo q i v).role n = s.role n) ∧ (∀ n, (s.setRo q i v).dq n = s.dq n) ∧ (∀ n, (s.setRo q i v).uq n = s.uq n) ∧
    (∀ n, (s.setRo q i v).pool n = s.pool n) ∧ (∀ n, (s.setRo q i v).mac n = s.mac n) ∧ (∀ n, (s.setRo q i v).table n = s.table n) ∧
    (∀ n, (s.setRo q i v).dramCh n = s.dramCh n) ∧ (∀ n, (s.setRo q i v).buf n = s.buf n) ∧ (∀ n, (s.setRo q i v).gate n = s.gate n) ∧
    (s.setRo q i v).now = s.now ∧ (s.setRo q i v).up = s.up := by
  and_intros <;> intros <;> rfl

/-! ### emit -/

@[simp] theorem emit_pending (x : Out) : (s.emit x).pending = s.pending := rfl
@[simp] theorem emit_time (x : Out) : (s.emit x).time = s.time := rfl
@[simp] theorem emit_clk (x : Out) : (s.emit x).clk = s.clk := rfl
@[simp] theorem emit_par (x : Out) : (s.emit x).par = s.par := rfl
@[simp] theorem emit_mb (x : Out) : (s.emit x).mb = s.mb := rfl
@[simp] theorem emit_accepted (x : Out) : (s.emit x).accepted = s.accepted := rfl
@[simp] theorem emit_roles (x : Out) : (s.emit x).roles = s.roles := rfl
@[simp] theorem emit_fw (x : Out) : (s.emit x).fw = s.fw := rfl
@[simp] theorem emit_host (x : Out) : (s.emit x).host = s.host := rfl
@[simp] theorem emit_ev (x : Out) : (s.emit x).ev = s.ev := rfl
@[simp] theorem emit_power (x : Out) : (s.emit x).power = s.power := rfl
@[simp] theorem emit_dramBytes (x : Out) : (s.emit x).dramBytes = s.dramBytes := rfl
@[simp] theorem emit_pace (x : Out) : (s.emit x).pace = s.pace := rfl
@[simp] theorem emit_units (x : Out) : (s.emit x).units = s.units := rfl
@[simp] theorem emit_reports (x : Out) : (s.emit x).reports = s.reports := rfl
@[simp] theorem emit_fault (x : Out) : (s.emit x).fault = s.fault := rfl
@[simp] theorem emit_lanes (x : Out) : (s.emit x).lanes = s.lanes := rfl
@[simp] theorem emit_terms (x : Out) : (s.emit x).terms = s.terms := rfl
@[simp] theorem emit_chans (x : Out) : (s.emit x).chans = s.chans := rfl
@[simp] theorem emit_pon (x : Out) : (s.emit x).pon = s.pon := rfl
@[simp] theorem emit_dba (x : Out) : (s.emit x).dba = s.dba := rfl
@[simp] theorem emit_cipher (x : Out) : (s.emit x).cipher = s.cipher := rfl
@[simp] theorem emit_prot (x : Out) : (s.emit x).prot = s.prot := rfl
@[simp] theorem emit_fwd (x : Out) : (s.emit x).fwd = s.fwd := rfl
@[simp] theorem emit_laneTest (x : Out) : (s.emit x).laneTest = s.laneTest := rfl
@[simp] theorem emit_tap (x : Out) : (s.emit x).tap = s.tap := rfl
@[simp] theorem emit_free (x : Out) : (s.emit x).free = s.free := rfl
/-- Every other reading. -/
@[simp] theorem emit_reads (x : Out) :
    (∀ n, (s.emit x).chan n = s.chan n) ∧ (∀ n, (s.emit x).term n = s.term n) ∧ (∀ n, (s.emit x).ln n = s.ln n) ∧
    (∀ n, (s.emit x).optic n = s.optic n) ∧ (∀ n, (s.emit x).bm n = s.bm n) ∧ (∀ n, (s.emit x).master n = s.master n) ∧
    (∀ n, (s.emit x).alloc n = s.alloc n) ∧ (∀ n, (s.emit x).gem n = s.gem n) ∧ (∀ n, (s.emit x).line n = s.line n) ∧
    (∀ n, (s.emit x).pair n = s.pair n) ∧ (∀ n, (s.emit x).slot n = s.slot n) ∧ (∀ n, (s.emit x).token n = s.token n) ∧
    (∀ n, (s.emit x).stream n = s.stream n) ∧ (∀ n, (s.emit x).tlane n = s.tlane n) ∧ (∀ n, (s.emit x).unit n = s.unit n) ∧
    (∀ n, (s.emit x).handler n = s.handler n) ∧ (∀ n, (s.emit x).mbox n = s.mbox n) ∧ (∀ n, (s.emit x).ch n = s.ch n) ∧
    (∀ n, (s.emit x).role n = s.role n) ∧ (∀ n, (s.emit x).dq n = s.dq n) ∧ (∀ n, (s.emit x).uq n = s.uq n) ∧
    (∀ n, (s.emit x).pool n = s.pool n) ∧ (∀ n, (s.emit x).mac n = s.mac n) ∧ (∀ n, (s.emit x).table n = s.table n) ∧
    (∀ n, (s.emit x).dramCh n = s.dramCh n) ∧ (∀ n, (s.emit x).buf n = s.buf n) ∧ (∀ n, (s.emit x).gate n = s.gate n) ∧
    (∀ p n, (s.emit x).get p n = s.get p n) ∧ (∀ p n, (s.emit x).getN p n = s.getN p n) ∧ (∀ p n, (s.emit x).getF p n = s.getF p n) ∧
    (∀ p n, (s.emit x).ro p n = s.ro p n) ∧ (s.emit x).now = s.now ∧ (s.emit x).up = s.up := by
  and_intros <;> intros <;> rfl

/-! ### raiseAs -/

@[simp] theorem raiseAs_pending (k : EvKind) (x : Bool) (a r d : Nat) : (s.raiseAs k x a r d).pending = s.pending := rfl
@[simp] theorem raiseAs_time (k : EvKind) (x : Bool) (a r d : Nat) : (s.raiseAs k x a r d).time = s.time := rfl
@[simp] theorem raiseAs_clk (k : EvKind) (x : Bool) (a r d : Nat) : (s.raiseAs k x a r d).clk = s.clk := rfl
@[simp] theorem raiseAs_par (k : EvKind) (x : Bool) (a r d : Nat) : (s.raiseAs k x a r d).par = s.par := rfl
@[simp] theorem raiseAs_mb (k : EvKind) (x : Bool) (a r d : Nat) : (s.raiseAs k x a r d).mb = s.mb := rfl
@[simp] theorem raiseAs_accepted (k : EvKind) (x : Bool) (a r d : Nat) : (s.raiseAs k x a r d).accepted = s.accepted := rfl
@[simp] theorem raiseAs_roles (k : EvKind) (x : Bool) (a r d : Nat) : (s.raiseAs k x a r d).roles = s.roles := rfl
@[simp] theorem raiseAs_fw (k : EvKind) (x : Bool) (a r d : Nat) : (s.raiseAs k x a r d).fw = s.fw := rfl
@[simp] theorem raiseAs_host (k : EvKind) (x : Bool) (a r d : Nat) : (s.raiseAs k x a r d).host = s.host := rfl
@[simp] theorem raiseAs_power (k : EvKind) (x : Bool) (a r d : Nat) : (s.raiseAs k x a r d).power = s.power := rfl
@[simp] theorem raiseAs_dramBytes (k : EvKind) (x : Bool) (a r d : Nat) : (s.raiseAs k x a r d).dramBytes = s.dramBytes := rfl
@[simp] theorem raiseAs_pace (k : EvKind) (x : Bool) (a r d : Nat) : (s.raiseAs k x a r d).pace = s.pace := rfl
@[simp] theorem raiseAs_units (k : EvKind) (x : Bool) (a r d : Nat) : (s.raiseAs k x a r d).units = s.units := rfl
@[simp] theorem raiseAs_reports (k : EvKind) (x : Bool) (a r d : Nat) : (s.raiseAs k x a r d).reports = s.reports := rfl
@[simp] theorem raiseAs_fault (k : EvKind) (x : Bool) (a r d : Nat) : (s.raiseAs k x a r d).fault = s.fault := rfl
@[simp] theorem raiseAs_lanes (k : EvKind) (x : Bool) (a r d : Nat) : (s.raiseAs k x a r d).lanes = s.lanes := rfl
@[simp] theorem raiseAs_terms (k : EvKind) (x : Bool) (a r d : Nat) : (s.raiseAs k x a r d).terms = s.terms := rfl
@[simp] theorem raiseAs_chans (k : EvKind) (x : Bool) (a r d : Nat) : (s.raiseAs k x a r d).chans = s.chans := rfl
@[simp] theorem raiseAs_pon (k : EvKind) (x : Bool) (a r d : Nat) : (s.raiseAs k x a r d).pon = s.pon := rfl
@[simp] theorem raiseAs_dba (k : EvKind) (x : Bool) (a r d : Nat) : (s.raiseAs k x a r d).dba = s.dba := rfl
@[simp] theorem raiseAs_cipher (k : EvKind) (x : Bool) (a r d : Nat) : (s.raiseAs k x a r d).cipher = s.cipher := rfl
@[simp] theorem raiseAs_prot (k : EvKind) (x : Bool) (a r d : Nat) : (s.raiseAs k x a r d).prot = s.prot := rfl
@[simp] theorem raiseAs_fwd (k : EvKind) (x : Bool) (a r d : Nat) : (s.raiseAs k x a r d).fwd = s.fwd := rfl
@[simp] theorem raiseAs_laneTest (k : EvKind) (x : Bool) (a r d : Nat) : (s.raiseAs k x a r d).laneTest = s.laneTest := rfl
@[simp] theorem raiseAs_tap (k : EvKind) (x : Bool) (a r d : Nat) : (s.raiseAs k x a r d).tap = s.tap := rfl
@[simp] theorem raiseAs_outbox (k : EvKind) (x : Bool) (a r d : Nat) : (s.raiseAs k x a r d).outbox = s.outbox := rfl
@[simp] theorem raiseAs_free (k : EvKind) (x : Bool) (a r d : Nat) : (s.raiseAs k x a r d).free = s.free := rfl
/-- Every other reading. -/
@[simp] theorem raiseAs_reads (k : EvKind) (x : Bool) (a r d : Nat) :
    (∀ n, (s.raiseAs k x a r d).chan n = s.chan n) ∧ (∀ n, (s.raiseAs k x a r d).term n = s.term n) ∧
    (∀ n, (s.raiseAs k x a r d).ln n = s.ln n) ∧ (∀ n, (s.raiseAs k x a r d).optic n = s.optic n) ∧ (∀ n, (s.raiseAs k x a r d).bm n = s.bm n) ∧
    (∀ n, (s.raiseAs k x a r d).master n = s.master n) ∧ (∀ n, (s.raiseAs k x a r d).alloc n = s.alloc n) ∧
    (∀ n, (s.raiseAs k x a r d).gem n = s.gem n) ∧ (∀ n, (s.raiseAs k x a r d).line n = s.line n) ∧
    (∀ n, (s.raiseAs k x a r d).pair n = s.pair n) ∧ (∀ n, (s.raiseAs k x a r d).slot n = s.slot n) ∧
    (∀ n, (s.raiseAs k x a r d).token n = s.token n) ∧ (∀ n, (s.raiseAs k x a r d).stream n = s.stream n) ∧
    (∀ n, (s.raiseAs k x a r d).tlane n = s.tlane n) ∧ (∀ n, (s.raiseAs k x a r d).unit n = s.unit n) ∧
    (∀ n, (s.raiseAs k x a r d).handler n = s.handler n) ∧ (∀ n, (s.raiseAs k x a r d).mbox n = s.mbox n) ∧
    (∀ n, (s.raiseAs k x a r d).ch n = s.ch n) ∧ (∀ n, (s.raiseAs k x a r d).role n = s.role n) ∧ (∀ n, (s.raiseAs k x a r d).dq n = s.dq n) ∧
    (∀ n, (s.raiseAs k x a r d).uq n = s.uq n) ∧ (∀ n, (s.raiseAs k x a r d).pool n = s.pool n) ∧ (∀ n, (s.raiseAs k x a r d).mac n = s.mac n) ∧
    (∀ n, (s.raiseAs k x a r d).table n = s.table n) ∧ (∀ n, (s.raiseAs k x a r d).dramCh n = s.dramCh n) ∧
    (∀ n, (s.raiseAs k x a r d).buf n = s.buf n) ∧ (∀ n, (s.raiseAs k x a r d).gate n = s.gate n) ∧
    (∀ p n, (s.raiseAs k x a r d).get p n = s.get p n) ∧ (∀ p n, (s.raiseAs k x a r d).getN p n = s.getN p n) ∧
    (∀ p n, (s.raiseAs k x a r d).getF p n = s.getF p n) ∧ (∀ p n, (s.raiseAs k x a r d).ro p n = s.ro p n) ∧
    (s.raiseAs k x a r d).now = s.now ∧ (s.raiseAs k x a r d).up = s.up := by
  and_intros <;> intros <;> rfl

/-! ### begun -/

@[simp] theorem begun_pending (m : Fin 16) (c : Cmd) : (begun s m c).pending = s.pending := rfl
@[simp] theorem begun_time (m : Fin 16) (c : Cmd) : (begun s m c).time = s.time := rfl
@[simp] theorem begun_clk (m : Fin 16) (c : Cmd) : (begun s m c).clk = s.clk := rfl
@[simp] theorem begun_par (m : Fin 16) (c : Cmd) : (begun s m c).par = s.par := rfl
@[simp] theorem begun_accepted (m : Fin 16) (c : Cmd) : (begun s m c).accepted = s.accepted := rfl
@[simp] theorem begun_roles (m : Fin 16) (c : Cmd) : (begun s m c).roles = s.roles := rfl
@[simp] theorem begun_fw (m : Fin 16) (c : Cmd) : (begun s m c).fw = s.fw := rfl
@[simp] theorem begun_host (m : Fin 16) (c : Cmd) : (begun s m c).host = s.host := rfl
@[simp] theorem begun_ev (m : Fin 16) (c : Cmd) : (begun s m c).ev = s.ev := rfl
@[simp] theorem begun_power (m : Fin 16) (c : Cmd) : (begun s m c).power = s.power := rfl
@[simp] theorem begun_dramBytes (m : Fin 16) (c : Cmd) : (begun s m c).dramBytes = s.dramBytes := rfl
@[simp] theorem begun_pace (m : Fin 16) (c : Cmd) : (begun s m c).pace = s.pace := rfl
@[simp] theorem begun_units (m : Fin 16) (c : Cmd) : (begun s m c).units = s.units := rfl
@[simp] theorem begun_reports (m : Fin 16) (c : Cmd) : (begun s m c).reports = s.reports := rfl
@[simp] theorem begun_fault (m : Fin 16) (c : Cmd) : (begun s m c).fault = s.fault := rfl
@[simp] theorem begun_lanes (m : Fin 16) (c : Cmd) : (begun s m c).lanes = s.lanes := rfl
@[simp] theorem begun_terms (m : Fin 16) (c : Cmd) : (begun s m c).terms = s.terms := rfl
@[simp] theorem begun_chans (m : Fin 16) (c : Cmd) : (begun s m c).chans = s.chans := rfl
@[simp] theorem begun_pon (m : Fin 16) (c : Cmd) : (begun s m c).pon = s.pon := rfl
@[simp] theorem begun_dba (m : Fin 16) (c : Cmd) : (begun s m c).dba = s.dba := rfl
@[simp] theorem begun_cipher (m : Fin 16) (c : Cmd) : (begun s m c).cipher = s.cipher := rfl
@[simp] theorem begun_prot (m : Fin 16) (c : Cmd) : (begun s m c).prot = s.prot := rfl
@[simp] theorem begun_fwd (m : Fin 16) (c : Cmd) : (begun s m c).fwd = s.fwd := rfl
@[simp] theorem begun_laneTest (m : Fin 16) (c : Cmd) : (begun s m c).laneTest = s.laneTest := rfl
@[simp] theorem begun_tap (m : Fin 16) (c : Cmd) : (begun s m c).tap = s.tap := rfl
@[simp] theorem begun_outbox (m : Fin 16) (c : Cmd) : (begun s m c).outbox = s.outbox := rfl
@[simp] theorem begun_free (m : Fin 16) (c : Cmd) : (begun s m c).free = s.free := rfl
/-- Every other reading. -/
@[simp] theorem begun_reads (m : Fin 16) (c : Cmd) :
    (∀ n, (begun s m c).chan n = s.chan n) ∧ (∀ n, (begun s m c).term n = s.term n) ∧ (∀ n, (begun s m c).ln n = s.ln n) ∧
    (∀ n, (begun s m c).optic n = s.optic n) ∧ (∀ n, (begun s m c).bm n = s.bm n) ∧ (∀ n, (begun s m c).master n = s.master n) ∧
    (∀ n, (begun s m c).alloc n = s.alloc n) ∧ (∀ n, (begun s m c).gem n = s.gem n) ∧ (∀ n, (begun s m c).line n = s.line n) ∧
    (∀ n, (begun s m c).pair n = s.pair n) ∧ (∀ n, (begun s m c).slot n = s.slot n) ∧ (∀ n, (begun s m c).token n = s.token n) ∧
    (∀ n, (begun s m c).stream n = s.stream n) ∧ (∀ n, (begun s m c).tlane n = s.tlane n) ∧ (∀ n, (begun s m c).unit n = s.unit n) ∧
    (∀ n, (begun s m c).handler n = s.handler n) ∧ (∀ n, (begun s m c).ch n = s.ch n) ∧ (∀ n, (begun s m c).role n = s.role n) ∧
    (∀ n, (begun s m c).dq n = s.dq n) ∧ (∀ n, (begun s m c).uq n = s.uq n) ∧ (∀ n, (begun s m c).pool n = s.pool n) ∧
    (∀ n, (begun s m c).mac n = s.mac n) ∧ (∀ n, (begun s m c).table n = s.table n) ∧ (∀ n, (begun s m c).dramCh n = s.dramCh n) ∧
    (∀ n, (begun s m c).buf n = s.buf n) ∧ (∀ n, (begun s m c).gate n = s.gate n) ∧ (∀ p n, (begun s m c).get p n = s.get p n) ∧
    (∀ p n, (begun s m c).getN p n = s.getN p n) ∧ (∀ p n, (begun s m c).getF p n = s.getF p n) ∧ (∀ p n, (begun s m c).ro p n = s.ro p n) ∧
    (begun s m c).now = s.now ∧ (begun s m c).up = s.up := by
  and_intros <;> intros <;> rfl

end Sys2Proof.Machine
end

