-- ==== Sys2Proof/Laws/Ops.lean ====
section
/-! SUPPORT. What each shared operation can do, said once: the start of a host command, its response, events, messages, time. -/
namespace Sys2Proof.Machine

/-! ### The start of a host command -/

@[simp] theorem begun_cmd (s : State) (mb : Fin 16) (c : Cmd) : ((begun s mb c).mbox mb).cmd = some { c with started := true } := by
  simp [begun]

@[simp] theorem begun_state (s : State) (mb : Fin 16) (c : Cmd) : ((begun s mb c).mbox mb).state = (s.mbox mb).state := by
  simp [begun]

/-- A command that may start runs its own test and body on the state in which it is marked started. -/
theorem commandWith_starts {s : State} {mb : Fin 16} {code : Nat} {c : Cmd} (h : Starts s mb code c)
    (pre : Cmd → State → Option Status) (body : Cmd → State → State × Reply) (hp : pre c (begun s mb c) = none) :
    s.commandWith mb code pre body =
      (match body c (begun s mb c) with
       | (t, .done st d b) => t.respond mb st d b
       | (t, .wait w k) => t.await mb w k
       | (t, .hold w) => t.park mb w) := by
  obtain ⟨h1, rfl, h3, h4⟩ := h
  unfold State.commandWith
  rw [h1]
  simp only [h3, decide_true, Bool.and_self, if_true]
  split
  · rename_i st he
    exact absurd (he.symm.trans hp) (by simp)
  · rw [if_pos h4]
    rfl

/-- A command whose body ends with a reply responds with it. -/
theorem command_done {s t : State} {mb : Fin 16} {code : Nat} {c : Cmd} (h : Starts s mb code c)
    {body : Cmd → State → State × Reply} {st : Status} {d : Nat} {b : List Int} (hb : body c (begun s mb c) = (t, .done st d b)) :
    s.command mb code body = t.respond mb st d b := by
  unfold State.command
  rw [commandWith_starts h _ _ rfl, hb]

/-- A command whose body waits is left waiting. -/
theorem command_wait {s t : State} {mb : Fin 16} {code : Nat} {c : Cmd} (h : Starts s mb code c)
    {body : Cmd → State → State × Reply} {w : WaitFor} {k : Bool} (hb : body c (begun s mb c) = (t, .wait w k)) :
    s.command mb code body = t.await mb w k := by
  unfold State.command
  rw [commandWith_starts h _ _ rfl, hb]

/-- Where no command of the code may start, its row changes nothing. -/
theorem commandWith_idle {s : State} {mb code : Nat} (pre : Cmd → State → Option Status) (body : Cmd → State → State × Reply)
    (h : ∀ c, (s.mbox mb).cmd = some c → (decide (c.code = code) && startable s c) = false) : s.commandWith mb code pre body = s := by
  unfold State.commandWith
  cases hc : (s.mbox mb).cmd with
  | none => rfl
  | some c => simp [h c hc]

/-! ### Responses -/

/-- A vector's message touches the pending bits and what has left the device only. -/
theorem msix_frame (s : State) (v : Nat) : ∃ p o, s.msix v = { s with host.pba := p, outbox := o } := by
  unfold State.msix State.emit
  split
  · exact ⟨_, s.outbox, rfl⟩
  · exact ⟨s.host.pba, _, rfl⟩

theorem msix_mb (s : State) (v : Nat) : (s.msix v).mb = s.mb := by
  obtain ⟨p, o, h⟩ := msix_frame s v
  rw [h]

theorem ite_msix_mbox (p : Prop) [Decidable p] (s : State) (v n : Nat) : (if p then s.msix v else s).mbox n = s.mbox n := by
  split
  · simp [State.mbox, msix_mb]
  · rfl

/-- The key of a closed session that a response may drop touches its session slot only. -/
theorem dropKey_frame (s : State) (r : Nat) :
    ∃ k, s.dropKey r = { s with cipher.slots := k } ∧ ∀ i, i ≠ sessionSlot r → k.get i = s.cipher.slots.get i := by
  unfold State.dropKey
  simp only
  split
  · exact ⟨_, rfl, fun i h => Tab.get_set_ne _ _ (Ne.symm h)⟩
  · exact ⟨s.cipher.slots, rfl, fun _ _ => rfl⟩

/-- A posted response touches its mailbox, the session slot of its command's role, the pending bits and what has left the device only. -/
theorem post_frame (s : State) (n : Nat) (c : Cmd) (st : Status) (d : Nat) (b : List Int) :
    ∃ m k p o, s.post n c st d b = { s with mb := m, cipher.slots := k, host.pba := p, outbox := o } ∧
      ∀ i, i ≠ sessionSlot c.role → k.get i = s.cipher.slots.get i := by
  unfold State.post
  simp only
  split
  · obtain ⟨k, h, hk⟩ := dropKey_frame (s.setMbox n { s.mbox n with state := .idle, cmd := none }) c.role
    exact ⟨_, k, s.host.pba, s.outbox, h, hk⟩
  · split
    · obtain ⟨k, h, hk⟩ := dropKey_frame (s.setMbox n _) c.role
      rw [h]
      obtain ⟨p, o, g⟩ := msix_frame { s.setMbox n _ with cipher.slots := k } (mbVector n (s.mbox n))
      exact ⟨_, k, p, o, g, hk⟩
    · obtain ⟨k, h, hk⟩ := dropKey_frame (s.setMbox n _) c.role
      exact ⟨_, k, s.host.pba, s.outbox, h, hk⟩

/-- A response touches its mailbox, a session slot, the audit, the pending bits and what has left the device only. -/
theorem respond_frame (s : State) (n : Nat) (st : Status) (d : Nat) (b : List Int) :
    ∃ m k a p o, s.respond n st d b = { s with mb := m, cipher.slots := k, roles.audit := a, host.pba := p, outbox := o } ∧
      ∀ i, i < 18580 → k.get i = s.cipher.slots.get i := by
  unfold State.respond
  split
  · exact ⟨s.mb, s.cipher.slots, s.roles.audit, s.host.pba, s.outbox, rfl, fun _ _ => rfl⟩
  · rename_i c _
    have low : ∀ i, i < 18580 → i ≠ sessionSlot c.role := by
      intro i hi
      unfold sessionSlot
      omega
    split
    · simp only
      split
      · exact ⟨_, s.cipher.slots, _, s.host.pba, s.outbox, rfl, fun _ _ => rfl⟩
      · obtain ⟨m, k, p, o, h, hk⟩ := post_frame (s.auditAdd (auditOf s n c st)) n c st d b
        exact ⟨m, k, _, p, o, h, fun i hi => hk i (low i hi)⟩
    · obtain ⟨m, k, p, o, h, hk⟩ := post_frame s n c st d b
      exact ⟨m, k, s.roles.audit, p, o, h, fun i hi => hk i (low i hi)⟩

theorem respondAll_frame (s : State) (w : WaitFor) (st : Status) (d : Nat) (b : List Int) :
    ∃ m k a p o, s.respondAll w st d b = { s with mb := m, cipher.slots := k, roles.audit := a, host.pba := p, outbox := o } ∧
      ∀ i, i < 18580 → k.get i = s.cipher.slots.get i := by
  unfold State.respondAll
  generalize waiters s w = l
  induction l generalizing s with
  | nil => exact ⟨s.mb, s.cipher.slots, s.roles.audit, s.host.pba, s.outbox, rfl, fun _ _ => rfl⟩
  | cons n l ih =>
    obtain ⟨m, k, a, p, o, h, hk⟩ := respond_frame s n st d b
    obtain ⟨m', k', a', p', o', h', hk'⟩ := ih (s.respond n st d b)
    refine ⟨m', k', a', p', o', ?_, ?_⟩
    · simp only [List.foldl_cons]
      rw [h', h]
    · intro i hi
      rw [hk' i hi, h]
      exact hk i hi

/-- Response `b` to the command of row `code` that starts with its own test. -/
theorem commandWith_done {s t : State} {mb : Fin 16} {code : Nat} {c : Cmd} (h : Starts s mb code c) {pre : Cmd → State → Option Status}
    {body : Cmd → State → State × Reply} {st : Status} {d : Nat} {b : List Int} (hp : pre c (begun s mb c) = none)
    (hb : body c (begun s mb c) = (t, .done st d b)) : s.commandWith mb code pre body = t.respond mb st d b := by
  rw [commandWith_starts h _ _ hp, hb]

/-- A command with a flag its code does not define ends with BAD_ARG, where its row has no test before that of the flags. -/
theorem commandWith_flags {s : State} {mb : Fin 16} {code : Nat} {c : Cmd} (pre : Cmd → State → Option Status)
    (body : Cmd → State → State × Reply) (h1 : (s.mbox mb).cmd = some c) (h2 : c.code = code) (h3 : startable s c = true)
    (h4 : c.flags &&& cmdFlags code ≠ c.flags) (hp : ∀ c s, pre c s = none) :
    s.commandWith mb code pre body = (begun s mb c).respond mb .badArg 0 [] := by
  subst h2
  unfold State.commandWith
  rw [h1]
  simp only [h3, decide_true, Bool.and_self, if_true, hp, if_neg h4]
  rfl

/-- The same three at the outcome of a row. -/
theorem next_done {s t : State} {mb : Fin 16} {code : Nat} {c : Cmd} (h : Starts s mb code c) {b : List Int} {st : Status} {d : Nat}
    {body : Cmd → State → State × Reply} (hb : body c (begun s mb c) = (t, .done st d b)) :
    Host.Outcome.next (σ := State) (φ := Fault) (ρ := Refusal) (s.command mb code body) = .next (t.respond mb st d b) :=
  congrArg _ (command_done h hb)

theorem next_wait {s t : State} {mb : Fin 16} {code : Nat} {c : Cmd} (h : Starts s mb code c) {w : WaitFor} {k : Bool}
    {body : Cmd → State → State × Reply} (hb : body c (begun s mb c) = (t, .wait w k)) :
    Host.Outcome.next (σ := State) (φ := Fault) (ρ := Refusal) (s.command mb code body) = .next (t.await mb w k) :=
  congrArg _ (command_wait h hb)

theorem next_done_ex {s t : State} {mb : Fin 16} {code : Nat} {c : Cmd} (h : Starts s mb code c)
    {body : Cmd → State → State × Reply} (hb : ∃ b, body c (begun s mb c) = (t, .done .ok 0 b)) :
    ∃ b, Host.Outcome.next (σ := State) (φ := Fault) (ρ := Refusal) (s.command mb code body) = .next (t.respond mb .ok 0 b) := by
  obtain ⟨b, hb⟩ := hb
  exact ⟨b, next_done h hb⟩

/-! ### Events, messages, time -/

@[simp] theorem raise_transit (s : State) (k : EvKind) (a r d : Nat) :
    (s.raise k a r d).ev.transit = s.ev.transit ++ [⟨a, k, k.severity false, r, false, 0, s.now, d⟩] := rfl

@[simp] theorem raiseAs_transit (s : State) (k : EvKind) (c : Bool) (a r d : Nat) :
    (s.raiseAs k c a r d).ev.transit = s.ev.transit ++ [⟨a, k, k.severity c, r, c, 0, s.now, d⟩] := rfl

theorem raise_frame (s : State) (k : EvKind) (a r d : Nat) : ∃ l, s.raise k a r d = { s with ev.transit := l } := ⟨_, rfl⟩

theorem raiseAs_frame (s : State) (k : EvKind) (c : Bool) (a r d : Nat) : ∃ l, s.raiseAs k c a r d = { s with ev.transit := l } := ⟨_, rfl⟩

theorem raiseEvery_frame (s : State) (p : Nat) (k : EvKind) (i a r : Nat) (d : Nat → Nat) :
    ∃ l t, s.raiseEvery p k i a r d = { s with ev.transit := l, ev.rate := t } := by
  unfold State.raiseEvery
  dsimp only
  split
  · exact ⟨_, _, rfl⟩
  · split
    · exact ⟨_, _, rfl⟩
    · exact ⟨s.ev.transit, _, rfl⟩

@[simp] theorem emit_outbox (s : State) (o : Out) : (s.emit o).outbox = s.outbox ++ [o] := rfl

@[simp] theorem setRo_ro_self (s : State) (p : Param) (i : Nat) (v : Int) : (s.setRo p i v).ro p i = v := by
  simp [State.ro, State.setRo]

theorem setRo_ro_ne (s : State) {p q : Param} {i j : Nat} (v : Int) (h : pkey p i ≠ pkey q j) : (s.setRo p i v).ro q j = s.ro q j := by
  simp [State.ro, State.setRo, Tab.get_set_ne _ _ h]

/-! ### Protection and rogue observation -/

/-- A protection trigger touches the token and the events raised only. -/
theorem protFault_frame (s : State) (t d : Nat) : ∃ x y, s.protFault t d = { s with prot.tokens := x, ev.transit := y } := by
  unfold State.protFault State.startSwitch State.blocked State.setToken
  split
  · split
    · exact ⟨s.prot.tokens, s.ev.transit, rfl⟩
    · split
      · exact ⟨_, s.ev.transit, rfl⟩
      · exact ⟨s.prot.tokens, _, rfl⟩
  · exact ⟨s.prot.tokens, s.ev.transit, rfl⟩

/-- A rogue observation touches the channel and adds at most events. -/
theorem rogueObserve_frame (s : State) (a b : Nat) (c : Option Nat) (d : Nat) :
    ∃ x l, s.rogueObserve a b c d = { s with chans := x, ev.transit := s.ev.transit ++ l } := by
  unfold State.rogueObserve
  dsimp only
  generalize (_ && _ : Bool) = q
  cases q
  · exact ⟨_, [], by simp; rfl⟩
  · exact ⟨_, [_], rfl⟩

/-- What every round of a fold keeps, the fold keeps. -/
theorem foldl_keep {α β : Type} (P : β → Prop) (f : β → α → β) (h : ∀ b a, P b → P (f b a)) (l : List α) (b : β) (hb : P b) :
    P (l.foldl f b) := by
  induction l generalizing b with
  | nil => exact hb
  | cons a l ih => exact ih _ (h _ _ hb)

/-- A PLOAM message queued touches the channel and the events raised only. -/
theorem queuePloam_frame (s : State) (c : Nat) (u : Bool) (m : PloamMsg) : ∃ x l, s.queuePloam c u m = { s with chans := x, ev.transit := l } := by
  unfold State.queuePloam
  dsimp only
  repeat' split
  all_goals first
    | exact ⟨s.chans, s.ev.transit, rfl⟩
    | exact ⟨_, s.ev.transit, rfl⟩
    | exact ⟨_, _, rfl⟩

@[simp] theorem up_eq (s : State) : s.up = s.time.up / 2 ^ 32 := rfl

end Sys2Proof.Machine
end

