-- ==== Sys2Proof/Laws/PerInstr.lean ====
section
/-! SUPPORT. Statements made for every command of the table, one lemma per constructor. -/
namespace Sys2Proof.Laws.F

/-- A host command's code stands in the catalogue, and someone has the right to it (R440, Table 17.10). -/
def Statement (i : Instr) : Prop :=
  ∀ mb code, i.command = some (mb, code) → ∃ rights flags, Machine.cmdInfo code = some (rights, flags) ∧ 0 < rights

theorem signalCommand (a0 : Fin 13) (a1 : Bool) : Statement (.signalCommand a0 a1) := fun _ _ h => by cases h
theorem capacityReport (a0 : Consumer) (a1 : Fin 13) (a2 : BitVec 16) : Statement (.capacityReport a0 a1 a2) := fun _ _ h => by cases h
theorem freezeMessage (a0 : Fin 4) (a1 : PoolConsumer) : Statement (.freezeMessage a0 a1) := fun _ _ h => by cases h
theorem thawMessage (a0 : Fin 4) (a1 : PoolConsumer) : Statement (.thawMessage a0 a1) := fun _ _ h => by cases h
theorem criticalMessage (a0 : Fin 4) : Statement (.criticalMessage a0) := fun _ _ h => by cases h
theorem paceWindowClose (a0 : List Nat) : Statement (.paceWindowClose a0) := fun _ _ h => by cases h
theorem paceSample (a0 : Fin 3328) (a1 : Nat) (a2 : Bool) (a3 : Bool) : Statement (.paceSample a0 a1 a2 a3) := fun _ _ h => by cases h
theorem avsSettleExpiry : Statement (.avsSettleExpiry) := fun _ _ h => by cases h
theorem avsbusTransactionDone (a0 : Bool) (a1 : Bool) : Statement (.avsbusTransactionDone a0 a1) := fun _ _ h => by cases h
theorem avsbusRetry (a0 : Bool) : Statement (.avsbusRetry a0) := fun _ _ h => by cases h
theorem pmbusStatusPoll (a0 : Option RegStatus) : Statement (.pmbusStatusPoll a0) := fun _ _ h => by cases h
theorem regulatorPassthrough (a0 : Fin 16) (a1 : Nat) (a2 : Nat) (a3 : List Nat) : Statement (.regulatorPassthrough a0 a1 a2 a3) := fun _ _ h => by cases h; exact ⟨_, _, rfl, by decide⟩
theorem bridgeOverrun (a0 : Fin 3) (a1 : Fin 128) : Statement (.bridgeOverrun a0 a1) := fun _ _ h => by cases h
theorem bridgeUnderrun (a0 : Fin 3) (a1 : Fin 128) : Statement (.bridgeUnderrun a0 a1) := fun _ _ h => by cases h
theorem brstPulse (a0 : Fin 32) : Statement (.brstPulse a0) := fun _ _ h => by cases h
theorem rssiRoundStart (a0 : Fin 32) : Statement (.rssiRoundStart a0) := fun _ _ h => by cases h
theorem rssiWindow (a0 : Fin 8192) (a1 : Nat) : Statement (.rssiWindow a0 a1) := fun _ _ h => by cases h
theorem rssiSettleExpiry (a0 : Fin 32) : Statement (.rssiSettleExpiry a0) := fun _ _ h => by cases h
theorem treeLosPin (a0 : Fin 32) (a1 : Bool) : Statement (.treeLosPin a0 a1) := fun _ _ h => by cases h
theorem losWindowExpiry (a0 : Fin 32) : Statement (.losWindowExpiry a0) := fun _ _ h => by cases h
theorem mmsSelSetupExpiry (a0 : Fin 4) : Statement (.mmsSelSetupExpiry a0) := fun _ _ h => by cases h
theorem moduleTransactionDone (a0 : Fin 4) (a1 : List Byte) : Statement (.moduleTransactionDone a0 a1) := fun _ _ h => by cases h
theorem mmsBusStuck (a0 : Fin 4) : Statement (.mmsBusStuck a0) := fun _ _ h => by cases h
theorem mmsSelectHoldoffExpiry (a0 : Fin 32) : Statement (.mmsSelectHoldoffExpiry a0) := fun _ _ h => by cases h
theorem moduleManageStart (a0 : Fin 32) (a1 : Byte) : Statement (.moduleManageStart a0 a1) := fun _ _ h => by cases h
theorem moduleReady (a0 : Fin 32) : Statement (.moduleReady a0) := fun _ _ h => by cases h
theorem modulePoll (a0 : Fin 32) (a1 : Option (List (Byte × Byte))) : Statement (.modulePoll a0 a1) := fun _ _ h => by cases h
theorem moduleRead (a0 : Fin 16) (a1 : Nat) (a2 : Nat) (a3 : Nat) (a4 : Nat) (a5 : Nat) : Statement (.moduleRead a0 a1 a2 a3 a4 a5) := fun _ _ h => by cases h; exact ⟨_, _, rfl, by decide⟩
theorem moduleWrite (a0 : Fin 16) (a1 : Nat) (a2 : Nat) (a3 : Nat) (a4 : Nat) (a5 : List Byte) : Statement (.moduleWrite a0 a1 a2 a3 a4 a5) := fun _ _ h => by cases h; exact ⟨_, _, rfl, by decide⟩
theorem rssiMeasure (a0 : Fin 16) (a1 : Nat) : Statement (.rssiMeasure a0 a1) := fun _ _ h => by cases h; exact ⟨_, _, rfl, by decide⟩
theorem bmemRead (a0 : Fin 16) (a1 : Nat) : Statement (.bmemRead a0 a1) := fun _ _ h => by cases h; exact ⟨_, _, rfl, by decide⟩
theorem bmemReset (a0 : Fin 16) (a1 : Nat) : Statement (.bmemReset a0 a1) := fun _ _ h => by cases h; exact ⟨_, _, rfl, by decide⟩
theorem burstPreload (a0 : Fin 64) (a1 : Bool) : Statement (.burstPreload a0 a1) := fun _ _ h => by cases h
theorem bankSwap (a0 : Fin 64) : Statement (.bankSwap a0) := fun _ _ h => by cases h
theorem burstWriteBack (a0 : Fin 8192) (a1 : LaneSettings) : Statement (.burstWriteBack a0 a1) := fun _ _ h => by cases h
theorem laneSleepStart (a0 : Fin 64) : Statement (.laneSleepStart a0) := fun _ _ h => by cases h
theorem laneWakeStart (a0 : Fin 64) : Statement (.laneWakeStart a0) := fun _ _ h => by cases h
theorem sleepLight (a0 : Fin 64) (a1 : Nat) (a2 : Option (Fin 8192)) (a3 : Nat) : Statement (.sleepLight a0 a1 a2 a3) := fun _ _ h => by cases h
theorem darkWakeRunStart (a0 : Fin 64) : Statement (.darkWakeRunStart a0) := fun _ _ h => by cases h
theorem darkWakeRunEnd (a0 : Fin 64) : Statement (.darkWakeRunEnd a0) := fun _ _ h => by cases h
theorem driverSegmentFault (a0 : Fin 64) (a1 : Fin 40) : Statement (.driverSegmentFault a0 a1) := fun _ _ h => by cases h
theorem laneSegmentSwap (a0 : Fin 64) : Statement (.laneSegmentSwap a0) := fun _ _ h => by cases h
theorem sliceShadowPeriod (a0 : Fin 64) (a1 : Nat) (a2 : Nat) (a3 : Bool) : Statement (.sliceShadowPeriod a0 a1 a2 a3) := fun _ _ h => by cases h
theorem laneSliceSwap (a0 : Fin 64) : Statement (.laneSliceSwap a0) := fun _ _ h => by cases h
theorem frameStart : Statement (.frameStart) := fun _ _ h => by cases h
theorem ponRefLoss (a0 : Fin 2) : Statement (.ponRefLoss a0) := fun _ _ h => by cases h
theorem ethRefLoss : Statement (.ethRefLoss) := fun _ _ h => by cases h
theorem refReturn (a0 : Fin 3) : Statement (.refReturn a0) := fun _ _ h => by cases h
theorem fragmentBoundary (a0 : Fin 64) (a1 : Nat) : Statement (.fragmentBoundary a0 a1) := fun _ _ h => by cases h
theorem ppsEdge (a0 : Nat) (a1 : Bool) : Statement (.ppsEdge a0 a1) := fun _ _ h => by cases h
theorem ppsEdgeMissing : Statement (.ppsEdgeMissing) := fun _ _ h => by cases h
theorem todMessage (a0 : List Byte) : Statement (.todMessage a0) := fun _ _ h => by cases h
theorem channelEnable (a0 : Fin 16) (a1 : Nat) : Statement (.channelEnable a0 a1) := fun _ _ h => by cases h; exact ⟨_, _, rfl, by decide⟩
theorem channelDisable (a0 : Fin 16) (a1 : Nat) : Statement (.channelDisable a0 a1) := fun _ _ h => by cases h; exact ⟨_, _, rfl, by decide⟩
theorem channelStop (a0 : Fin 64) : Statement (.channelStop a0) := fun _ _ h => by cases h
theorem timeRead (a0 : Fin 16) : Statement (.timeRead a0) := fun _ _ h => by cases h; exact ⟨_, _, rfl, by decide⟩
theorem discoveryWindowDue (a0 : Fin 32) : Statement (.discoveryWindowDue a0) := fun _ _ h => by cases h
theorem profileBroadcast (a0 : Fin 64) : Statement (.profileBroadcast a0) := fun _ _ h => by cases h
theorem snAnswer (a0 : Fin 64) (a1 : List Candidate) (a2 : Nat) (a3 : Nat) (a4 : Nat) : Statement (.snAnswer a0 a1 a2 a3 a4) := fun _ _ h => by cases h
theorem registrationBurst (a0 : Fin 8192) (a1 : List Candidate) (a2 : Nat) (a3 : List Byte) (a4 : Option Nat) (a5 : Nat) : Statement (.registrationBurst a0 a1 a2 a3 a4 a5) := fun _ _ h => by cases h
theorem rangingWindowMiss (a0 : Fin 8192) (a1 : Bool) : Statement (.rangingWindowMiss a0 a1) := fun _ _ h => by cases h
theorem rangeRetryExpiry (a0 : Fin 8192) : Statement (.rangeRetryExpiry a0) := fun _ _ h => by cases h
theorem driftSettleExpiry (a0 : Fin 8192) : Statement (.driftSettleExpiry a0) := fun _ _ h => by cases h
theorem lobDeactExpiry (a0 : Fin 8192) : Statement (.lobDeactExpiry a0) := fun _ _ h => by cases h
theorem onuIdHoldExpiry (a0 : Fin 64) (a1 : Fin 1023) : Statement (.onuIdHoldExpiry a0 a1) := fun _ _ h => by cases h
theorem rogueObservation (a0 : Fin 64) (a1 : Bool) (a2 : Option (Fin 8192)) (a3 : Nat) : Statement (.rogueObservation a0 a1 a2 a3) := fun _ _ h => by cases h
theorem rogueCorrelationEnd (a0 : Fin 64) : Statement (.rogueCorrelationEnd a0) := fun _ _ h => by cases h
theorem rogueProbeResult (a0 : Fin 64) (a1 : Bool) : Statement (.rogueProbeResult a0 a1) := fun _ _ h => by cases h
theorem rogueBisectionStep (a0 : Fin 64) : Statement (.rogueBisectionStep a0) := fun _ _ h => by cases h
theorem readmissionAnswer (a0 : Fin 8192) : Statement (.readmissionAnswer a0) := fun _ _ h => by cases h
theorem rogueHoldoffExpiry (a0 : Fin 64) : Statement (.rogueHoldoffExpiry a0) := fun _ _ h => by cases h
theorem termCreate (a0 : Fin 16) (a1 : Nat) (a2 : Nat) (a3 : Nat) (a4 : Nat) (a5 : Nat) (a6 : Nat) : Statement (.termCreate a0 a1 a2 a3 a4 a5 a6) := fun _ _ h => by cases h; exact ⟨_, _, rfl, by decide⟩
theorem termDelete (a0 : Fin 16) (a1 : Nat) : Statement (.termDelete a0 a1) := fun _ _ h => by cases h; exact ⟨_, _, rfl, by decide⟩
theorem termDeactivate (a0 : Fin 16) (a1 : Nat) : Statement (.termDeactivate a0 a1) := fun _ _ h => by cases h; exact ⟨_, _, rfl, by decide⟩
theorem termDisable (a0 : Fin 16) (a1 : Nat) : Statement (.termDisable a0 a1) := fun _ _ h => by cases h; exact ⟨_, _, rfl, by decide⟩
theorem termEnable (a0 : Fin 16) (a1 : Nat) : Statement (.termEnable a0 a1) := fun _ _ h => by cases h; exact ⟨_, _, rfl, by decide⟩
theorem termRead (a0 : Fin 16) (a1 : Nat) : Statement (.termRead a0 a1) := fun _ _ h => by cases h; exact ⟨_, _, rfl, by decide⟩
theorem termRerange (a0 : Fin 16) (a1 : Nat) (a2 : Option Nat) : Statement (.termRerange a0 a1 a2) := fun _ _ h => by cases h; exact ⟨_, _, rfl, by decide⟩
theorem allocMap (a0 : Fin 16) (a1 : Nat) (a2 : Nat) (a3 : Nat) (a4 : Nat) : Statement (.allocMap a0 a1 a2 a3 a4) := fun _ _ h => by cases h; exact ⟨_, _, rfl, by decide⟩
theorem allocUnmap (a0 : Fin 16) (a1 : Nat) : Statement (.allocUnmap a0 a1) := fun _ _ h => by cases h; exact ⟨_, _, rfl, by decide⟩
theorem gemMap (a0 : Fin 16) (a1 : Nat) (a2 : GemEntry) : Statement (.gemMap a0 a1 a2) := fun _ _ h => by cases h; exact ⟨_, _, rfl, by decide⟩
theorem gemUnmap (a0 : Fin 16) (a1 : Nat) : Statement (.gemUnmap a0 a1) := fun _ _ h => by cases h; exact ⟨_, _, rfl, by decide⟩
theorem snListRead (a0 : Fin 16) (a1 : Nat) : Statement (.snListRead a0 a1) := fun _ _ h => by cases h; exact ⟨_, _, rfl, by decide⟩
theorem rogueStart (a0 : Fin 16) (a1 : Nat) : Statement (.rogueStart a0 a1) := fun _ _ h => by cases h; exact ⟨_, _, rfl, by decide⟩
theorem rogueStatus (a0 : Fin 16) (a1 : Nat) : Statement (.rogueStatus a0 a1) := fun _ _ h => by cases h; exact ⟨_, _, rfl, by decide⟩
theorem rogueStop (a0 : Fin 16) (a1 : Nat) : Statement (.rogueStop a0 a1) := fun _ _ h => by cases h; exact ⟨_, _, rfl, by decide⟩
theorem commandStepWaitTimeout (a0 : Fin 16) : Statement (.commandStepWaitTimeout a0) := fun _ _ h => by cases h
theorem upstreamBurst (a0 : Fin 8192) (a1 : UsBurst) : Statement (.upstreamBurst a0 a1) := fun _ _ h => by cases h
theorem delimiterMiss (a0 : Fin 8192) (a1 : List Candidate) : Statement (.delimiterMiss a0 a1) := fun _ _ h => by cases h
theorem fecCodeword (a0 : Fin 8192) (a1 : Nat) (a2 : List Byte) (a3 : Nat) : Statement (.fecCodeword a0 a1 a2 a3) := fun _ _ h => by cases h
theorem ploamuMessage (a0 : Fin 8192) (a1 : List Nat) (a2 : Nat) (a3 : Option Nat) : Statement (.ploamuMessage a0 a1 a2 a3) := fun _ _ h => by cases h
theorem burstReport (a0 : Fin 8192) (a1 : Fin 32768) (a2 : Nat) (a3 : Bool) (a4 : Nat) : Statement (.burstReport a0 a1 a2 a3 a4) := fun _ _ h => by cases h
theorem reportArrival : Statement (.reportArrival) := fun _ _ h => by cases h
theorem xgemFrame (a0 : Fin 8192) (a1 : UsGem) : Statement (.xgemFrame a0 a1) := fun _ _ h => by cases h
theorem reasmTimeoutExpiry : Statement (.reasmTimeoutExpiry) := fun _ _ h => by cases h
theorem berWindowClose (a0 : Fin 8192) (a1 : Bool) : Statement (.berWindowClose a0 a1) := fun _ _ h => by cases h
theorem reportCutoff : Statement (.reportCutoff) := fun _ _ h => by cases h
theorem allocContract (a0 : Fin 16) (a1 : Nat) (a2 : Nat) (a3 : Nat) (a4 : Nat) (a5 : Nat) (a6 : Nat) (a7 : Nat) (a8 : Nat) : Statement (.allocContract a0 a1 a2 a3 a4 a5 a6 a7 a8) := fun _ _ h => by cases h; exact ⟨_, _, rfl, by decide⟩
theorem allocContractRead (a0 : Fin 16) (a1 : Nat) : Statement (.allocContractRead a0 a1) := fun _ _ h => by cases h; exact ⟨_, _, rfl, by decide⟩
theorem dbaPreannounce (a0 : Fin 16) : Statement (.dbaPreannounce a0) := fun _ _ h => by cases h; exact ⟨_, _, rfl, by decide⟩
theorem dbaPreannCancel (a0 : Fin 16) (a1 : Nat) (a2 : Option Nat) : Statement (.dbaPreannCancel a0 a1 a2) := fun _ _ h => by cases h; exact ⟨_, _, rfl, by decide⟩
theorem ledgerReset (a0 : Fin 16) (a1 : Nat) : Statement (.ledgerReset a0 a1) := fun _ _ h => by cases h; exact ⟨_, _, rfl, by decide⟩
theorem dbaStatusRead (a0 : Fin 16) (a1 : Nat) : Statement (.dbaStatusRead a0 a1) := fun _ _ h => by cases h; exact ⟨_, _, rfl, by decide⟩
theorem solverOutputPosted (a0 : Fin 64) : Statement (.solverOutputPosted a0) := fun _ _ h => by cases h
theorem mapDelivery (a0 : Fin 64) (a1 : List (Nat × Byte)) : Statement (.mapDelivery a0 a1) := fun _ _ h => by cases h
theorem framingDeadline : Statement (.framingDeadline) := fun _ _ h => by cases h
theorem gmRead (a0 : Fin 16) (a1 : Nat) : Statement (.gmRead a0 a1) := fun _ _ h => by cases h; exact ⟨_, _, rfl, by decide⟩
theorem gmCalendarRead (a0 : Fin 16) (a1 : Nat) : Statement (.gmCalendarRead a0 a1) := fun _ _ h => by cases h; exact ⟨_, _, rfl, by decide⟩
theorem uplinkFrameRx (a0 : Fin 32) (a1 : Frame) (a2 : Bool) (a3 : Bool) (a4 : Option SecTag) : Statement (.uplinkFrameRx a0 a1 a2 a3 a4) := fun _ _ h => by cases h
theorem parsePass (a0 : Fin 2) (a1 : Parity) : Statement (.parsePass a0 a1) := fun _ _ h => by cases h
theorem recircPass (a0 : Fin 2) (a1 : Parity) : Statement (.recircPass a0 a1) := fun _ _ h => by cases h
theorem upstreamSduParse (a0 : Fin 8) (a1 : Bool) (a2 : Parity) : Statement (.upstreamSduParse a0 a1 a2) := fun _ _ h => by cases h
theorem rulesetDrained : Statement (.rulesetDrained) := fun _ _ h => by cases h
theorem swapWaitExpiry (a0 : Fin 16) : Statement (.swapWaitExpiry a0) := fun _ _ h => by cases h
theorem ruleWrite (a0 : Fin 16) (a1 : Nat) (a2 : Nat) (a3 : List RuleEntry) : Statement (.ruleWrite a0 a1 a2 a3) := fun _ _ h => by cases h; exact ⟨_, _, rfl, by decide⟩
theorem ruleRead (a0 : Fin 16) (a1 : Nat) (a2 : Nat) (a3 : Nat) : Statement (.ruleRead a0 a1 a2 a3) := fun _ _ h => by cases h; exact ⟨_, _, rfl, by decide⟩
theorem rulesetCopy (a0 : Fin 16) : Statement (.rulesetCopy a0) := fun _ _ h => by cases h; exact ⟨_, _, rfl, by decide⟩
theorem rulesetSwap (a0 : Fin 16) : Statement (.rulesetSwap a0) := fun _ _ h => by cases h; exact ⟨_, _, rfl, by decide⟩
theorem rulesetStatus (a0 : Fin 16) : Statement (.rulesetStatus a0) := fun _ _ h => by cases h; exact ⟨_, _, rfl, by decide⟩
theorem learnMessageApply (a0 : Parity) : Statement (.learnMessageApply a0) := fun _ _ h => by cases h
theorem macFlushApply : Statement (.macFlushApply) := fun _ _ h => by cases h
theorem agingPassStart (a0 : Fin 2) : Statement (.agingPassStart a0) := fun _ _ h => by cases h
theorem agingScan (a0 : Fin 2) (a1 : Bool) (a2 : Nat) : Statement (.agingScan a0 a1 a2) := fun _ _ h => by cases h
theorem moveWindowSweep : Statement (.moveWindowSweep) := fun _ _ h => by cases h
theorem flowProfileSet (a0 : Fin 16) (a1 : Nat) (a2 : List Nat) : Statement (.flowProfileSet a0 a1 a2) := fun _ _ h => by cases h; exact ⟨_, _, rfl, by decide⟩
theorem flowAdd (a0 : Fin 16) (a1 : List FlowArg) : Statement (.flowAdd a0 a1) := fun _ _ h => by cases h; exact ⟨_, _, rfl, by decide⟩
theorem flowDelete (a0 : Fin 16) (a1 : List Nat) : Statement (.flowDelete a0 a1) := fun _ _ h => by cases h; exact ⟨_, _, rfl, by decide⟩
theorem flowRead (a0 : Fin 16) (a1 : List Nat) (a2 : Option (Nat × Nat)) : Statement (.flowRead a0 a1 a2) := fun _ _ h => by cases h; exact ⟨_, _, rfl, by decide⟩
theorem macAdd (a0 : Fin 16) (a1 : List MacArg) : Statement (.macAdd a0 a1) := fun _ _ h => by cases h; exact ⟨_, _, rfl, by decide⟩
theorem macDelete (a0 : Fin 16) (a1 : List MacArg) : Statement (.macDelete a0 a1) := fun _ _ h => by cases h; exact ⟨_, _, rfl, by decide⟩
theorem macRead (a0 : Fin 16) (a1 : List MacArg) (a2 : Option (Nat × Nat)) : Statement (.macRead a0 a1 a2) := fun _ _ h => by cases h; exact ⟨_, _, rfl, by decide⟩
theorem macFlush (a0 : Fin 16) (a1 : Bool) (a2 : Nat) : Statement (.macFlush a0 a1 a2) := fun _ _ h => by cases h; exact ⟨_, _, rfl, by decide⟩
theorem macUnfreeze (a0 : Fin 16) (a1 : Nat) (a2 : Nat) : Statement (.macUnfreeze a0 a1 a2) := fun _ _ h => by cases h; exact ⟨_, _, rfl, by decide⟩
theorem evictLogRead (a0 : Fin 16) (a1 : Nat) (a2 : Nat) : Statement (.evictLogRead a0 a1 a2) := fun _ _ h => by cases h; exact ⟨_, _, rfl, by decide⟩
theorem tableStatus (a0 : Fin 16) : Statement (.tableStatus a0) := fun _ _ h => by cases h; exact ⟨_, _, rfl, by decide⟩
theorem enqueue : Statement (.enqueue) := fun _ _ h => by cases h
theorem schedHandover (a0 : Fin 104) : Statement (.schedHandover a0) := fun _ _ h => by cases h
theorem gateIntervalStart (a0 : Fin 96) : Statement (.gateIntervalStart a0) := fun _ _ h => by cases h
theorem gateListSwitch (a0 : Fin 96) : Statement (.gateListSwitch a0) := fun _ _ h => by cases h
theorem queueSample (a0 : Fin 81920) : Statement (.queueSample a0) := fun _ _ h => by cases h
theorem watchSample (a0 : Fin 256) : Statement (.watchSample a0) := fun _ _ h => by cases h
theorem queueDrained (a0 : Fin 81920) : Statement (.queueDrained a0) := fun _ _ h => by cases h
theorem queueDrainTimeout (a0 : Fin 81920) : Statement (.queueDrainTimeout a0) := fun _ _ h => by cases h
theorem queueConfig (a0 : Fin 16) (a1 : Nat) (a2 : QueueArg) : Statement (.queueConfig a0 a1 a2) := fun _ _ h => by cases h; exact ⟨_, _, rfl, by decide⟩
theorem queueRead (a0 : Fin 16) (a1 : Nat) : Statement (.queueRead a0 a1) := fun _ _ h => by cases h; exact ⟨_, _, rfl, by decide⟩
theorem queueDisable (a0 : Fin 16) (a1 : Nat) : Statement (.queueDisable a0 a1) := fun _ _ h => by cases h; exact ⟨_, _, rfl, by decide⟩
theorem schedNodeSet (a0 : Fin 16) (a1 : ShaperRef) (a2 : Option Nat) (a3 : Option Nat) (a4 : Option Nat) : Statement (.schedNodeSet a0 a1 a2 a3 a4) := fun _ _ h => by cases h; exact ⟨_, _, rfl, by decide⟩
theorem policerSet (a0 : Fin 16) (a1 : Nat) (a2 : Nat) (a3 : Nat) : Statement (.policerSet a0 a1 a2 a3) := fun _ _ h => by cases h; exact ⟨_, _, rfl, by decide⟩
theorem markerSet (a0 : Fin 16) (a1 : Nat) (a2 : Nat) (a3 : Bool) (a4 : Nat) (a5 : Bool) (a6 : Nat) (a7 : Nat) (a8 : Nat) (a9 : Nat) : Statement (.markerSet a0 a1 a2 a3 a4 a5 a6 a7 a8 a9) := fun _ _ h => by cases h; exact ⟨_, _, rfl, by decide⟩
theorem meterRead (a0 : Fin 16) (a1 : Bool) (a2 : Nat) : Statement (.meterRead a0 a1 a2) := fun _ _ h => by cases h; exact ⟨_, _, rfl, by decide⟩
theorem gateListSet (a0 : Fin 16) (a1 : Nat) (a2 : Nat) (a3 : Nat) (a4 : List Nat) : Statement (.gateListSet a0 a1 a2 a3 a4) := fun _ _ h => by cases h; exact ⟨_, _, rfl, by decide⟩
theorem gateListClear (a0 : Fin 16) (a1 : Nat) : Statement (.gateListClear a0 a1) := fun _ _ h => by cases h; exact ⟨_, _, rfl, by decide⟩
theorem gateStatus (a0 : Fin 16) (a1 : Nat) : Statement (.gateStatus a0 a1) := fun _ _ h => by cases h; exact ⟨_, _, rfl, by decide⟩
theorem watchSet (a0 : Fin 16) (a1 : Nat) (a2 : Option Nat) (a3 : Nat) : Statement (.watchSet a0 a1 a2 a3) := fun _ _ h => by cases h; exact ⟨_, _, rfl, by decide⟩
theorem histRead (a0 : Fin 16) (a1 : Nat) (a2 : Nat) : Statement (.histRead a0 a1 a2) := fun _ _ h => by cases h; exact ⟨_, _, rfl, by decide⟩
theorem bufferAlloc (a0 : Fin 16) (a1 : Nat) (a2 : Option (Fin 16)) : Statement (.bufferAlloc a0 a1 a2) := fun _ _ h => by cases h
theorem bufferTake (a0 : Fin 16) (a1 : Fin 262144) (a2 : Fin 64) : Statement (.bufferTake a0 a1 a2) := fun _ _ h => by cases h
theorem bufferHandover (a0 : Fin 16) (a1 : Fin 16) (a2 : Bool) (a3 : Fin 262144) (a4 : Fin 64) : Statement (.bufferHandover a0 a1 a2 a3 a4) := fun _ _ h => by cases h
theorem bufferFree (a0 : Fin 16) (a1 : Bool) (a2 : Fin 262144) (a3 : Fin 64) : Statement (.bufferFree a0 a1 a2 a3) := fun _ _ h => by cases h
theorem glacierSpill (a0 : Fin 81920) : Statement (.glacierSpill a0) := fun _ _ h => by cases h
theorem glacierSpillAck (a0 : Fin 81920) : Statement (.glacierSpillAck a0) := fun _ _ h => by cases h
theorem glacierReturn (a0 : Fin 81920) (a1 : Bool) : Statement (.glacierReturn a0 a1) := fun _ _ h => by cases h
theorem dramRequest (a0 : Fin 8) (a1 : List DramArg) (a2 : Fin 3) : Statement (.dramRequest a0 a1 a2) := fun _ _ h => by cases h
theorem dramRefresh (a0 : Fin 8) : Statement (.dramRefresh a0) := fun _ _ h => by cases h
theorem dramRetrainCheck (a0 : Fin 8) : Statement (.dramRetrainCheck a0) := fun _ _ h => by cases h
theorem dramRetrainForced (a0 : Fin 8) : Statement (.dramRetrainForced a0) := fun _ _ h => by cases h
theorem poolStatus (a0 : Fin 16) : Statement (.poolStatus a0) := fun _ _ h => by cases h; exact ⟨_, _, rfl, by decide⟩
theorem bufFaultLogRead (a0 : Fin 16) (a1 : Nat) : Statement (.bufFaultLogRead a0 a1) := fun _ _ h => by cases h; exact ⟨_, _, rfl, by decide⟩
theorem glacierStatus (a0 : Fin 16) (a1 : Nat) (a2 : Nat) : Statement (.glacierStatus a0 a1 a2) := fun _ _ h => by cases h; exact ⟨_, _, rfl, by decide⟩
theorem dramStatus (a0 : Fin 16) : Statement (.dramStatus a0) := fun _ _ h => by cases h; exact ⟨_, _, rfl, by decide⟩
theorem cipherPairResult (a0 : Fin 13) (a1 : Nat) (a2 : Nat) (a3 : Nat) (a4 : Option (Fin 16)) : Statement (.cipherPairResult a0 a1 a2 a3 a4) := fun _ _ h => by cases h
theorem rngReseed (a0 : Fin 3328) (a1 : Bool) : Statement (.rngReseed a0 a1) := fun _ _ h => by cases h
theorem entropyFail (a0 : BitVec 8) : Statement (.entropyFail a0) := fun _ _ h => by cases h
theorem generatorStop (a0 : Fin 3328) : Statement (.generatorStop a0) := fun _ _ h => by cases h
theorem keyGenerationDrained (a0 : Fin 18640) : Statement (.keyGenerationDrained a0) := fun _ _ h => by cases h
theorem keyExchangeStart (a0 : Fin 8192) : Statement (.keyExchangeStart a0) := fun _ _ h => by cases h
theorem keyExchTimeout (a0 : Fin 8192) : Statement (.keyExchTimeout a0) := fun _ _ h => by cases h
theorem macsecVerdict (a0 : Nat) (a1 : Bool) : Statement (.macsecVerdict a0 a1) := fun _ _ h => by cases h
theorem keyWrite (a0 : Fin 16) : Statement (.keyWrite a0) := fun _ _ h => by cases h; exact ⟨_, _, rfl, by decide⟩
theorem keyErase (a0 : Fin 16) (a1 : Nat) : Statement (.keyErase a0 a1) := fun _ _ h => by cases h; exact ⟨_, _, rfl, by decide⟩
theorem keyStatus (a0 : Fin 16) (a1 : List (Nat × Nat)) : Statement (.keyStatus a0 a1) := fun _ _ h => by cases h; exact ⟨_, _, rfl, by decide⟩
theorem keyGenerate (a0 : Fin 16) : Statement (.keyGenerate a0) := fun _ _ h => by cases h; exact ⟨_, _, rfl, by decide⟩
theorem termRekey (a0 : Fin 16) (a1 : Nat) : Statement (.termRekey a0 a1) := fun _ _ h => by cases h; exact ⟨_, _, rfl, by decide⟩
theorem bcastKeyExport (a0 : Fin 16) (a1 : Nat) (a2 : Nat) : Statement (.bcastKeyExport a0 a1 a2) := fun _ _ h => by cases h; exact ⟨_, _, rfl, by decide⟩
theorem cmacJob (a0 : Fin 16) (a1 : Nat) (a2 : Nat) (a3 : List Byte) (a4 : Nat) : Statement (.cmacJob a0 a1 a2 a3 a4) := fun _ _ h => by cases h; exact ⟨_, _, rfl, by decide⟩
theorem cipherStatus (a0 : Fin 16) : Statement (.cipherStatus a0) := fun _ _ h => by cases h; exact ⟨_, _, rfl, by decide⟩
theorem uplinkLinkUp (a0 : Fin 32) : Statement (.uplinkLinkUp a0) := fun _ _ h => by cases h
theorem uplinkAlignmentLoss (a0 : Fin 32) : Statement (.uplinkAlignmentLoss a0) := fun _ _ h => by cases h
theorem uplinkFaultSequence (a0 : Fin 32) : Statement (.uplinkFaultSequence a0) := fun _ _ h => by cases h
theorem uplinkTrainingFail (a0 : Fin 32) (a1 : Bool) : Statement (.uplinkTrainingFail a0 a1) := fun _ _ h => by cases h
theorem pauseFrameRx (a0 : Fin 32) (a1 : Bool) (a2 : Nat) (a3 : List (Fin 8 × Nat)) : Statement (.pauseFrameRx a0 a1 a2 a3) := fun _ _ h => by cases h
theorem pauseQuantaExpiry (a0 : Fin 32) (a1 : Fin 8) : Statement (.pauseQuantaExpiry a0 a1) := fun _ _ h => by cases h
theorem pfcRefresh (a0 : Fin 32) : Statement (.pfcRefresh a0) := fun _ _ h => by cases h
theorem uplinkStatus (a0 : Fin 16) (a1 : Nat) (a2 : Nat) : Statement (.uplinkStatus a0 a1 a2) := fun _ _ h => by cases h; exact ⟨_, _, rfl, by decide⟩
theorem uplinkStats (a0 : Fin 16) (a1 : Nat) (a2 : List Nat) : Statement (.uplinkStats a0 a1 a2) := fun _ _ h => by cases h; exact ⟨_, _, rfl, by decide⟩
theorem uplinkRestart (a0 : Fin 16) (a1 : Nat) : Statement (.uplinkRestart a0 a1) := fun _ _ h => by cases h; exact ⟨_, _, rfl, by decide⟩
theorem macsecScSet (a0 : Fin 16) (a1 : Nat) (a2 : Nat) (a3 : Bool) : Statement (.macsecScSet a0 a1 a2 a3) := fun _ _ h => by cases h; exact ⟨_, _, rfl, by decide⟩
theorem macsecSaSet (a0 : Fin 16) (a1 : Nat) (a2 : Nat) (a3 : Option Nat) (a4 : Nat) (a5 : Bool) (a6 : Nat) (a7 : Bool) : Statement (.macsecSaSet a0 a1 a2 a3 a4 a5 a6 a7) := fun _ _ h => by cases h; exact ⟨_, _, rfl, by decide⟩
theorem macsecSaRead (a0 : Fin 16) (a1 : Nat) : Statement (.macsecSaRead a0 a1) := fun _ _ h => by cases h; exact ⟨_, _, rfl, by decide⟩
theorem tetherLaneFrame (a0 : Fin 34) (a1 : BitVec 2048) (a2 : Nat) : Statement (.tetherLaneFrame a0 a1 a2) := fun _ _ h => by cases h
theorem tetherFrameRx (a0 : Fin 2) (a1 : Fin 4) (a2 : Nat) (a3 : TetherRx) : Statement (.tetherFrameRx a0 a1 a2 a3) := fun _ _ h => by cases h
theorem multiframeStart : Statement (.multiframeStart) := fun _ _ h => by cases h
theorem pairMessageRx (a0 : Fin 2) (a1 : Bool) (a2 : PairMsg) (a3 : Nat) (a4 : Nat) (a5 : Nat) : Statement (.pairMessageRx a0 a1 a2 a3 a4 a5) := fun _ _ h => by cases h
theorem tetherKeyTimeout : Statement (.tetherKeyTimeout) := fun _ _ h => by cases h
theorem smpByteIn (a0 : Fin 4) (a1 : Byte) : Statement (.smpByteIn a0 a1) := fun _ _ h => by cases h
theorem tetherIdleExpiry (a0 : Fin 2) (a1 : Bool) : Statement (.tetherIdleExpiry a0 a1) := fun _ _ h => by cases h
theorem tetherWake (a0 : Fin 2) (a1 : Bool) : Statement (.tetherWake a0 a1) := fun _ _ h => by cases h
theorem mirrorRecordRx : Statement (.mirrorRecordRx) := fun _ _ h => by cases h
theorem checkpointEmit : Statement (.checkpointEmit) := fun _ _ h => by cases h
theorem checkpointAbsent (a0 : Fin 33) : Statement (.checkpointAbsent a0) := fun _ _ h => by cases h
theorem heartbeatToggle : Statement (.heartbeatToggle) := fun _ _ h => by cases h
theorem heartbeatRefresh : Statement (.heartbeatRefresh) := fun _ _ h => by cases h
theorem protSelfFence : Statement (.protSelfFence) := fun _ _ h => by cases h
theorem pairHbInEdge : Statement (.pairHbInEdge) := fun _ _ h => by cases h
theorem peerSilent : Statement (.peerSilent) := fun _ _ h => by cases h
theorem switchTakenTimeout (a0 : Fin 32) : Statement (.switchTakenTimeout a0) := fun _ _ h => by cases h
theorem tetherStatus (a0 : Fin 16) : Statement (.tetherStatus a0) := fun _ _ h => by cases h; exact ⟨_, _, rfl, by decide⟩
theorem tetherRestart (a0 : Fin 16) (a1 : Nat) : Statement (.tetherRestart a0 a1) := fun _ _ h => by cases h; exact ⟨_, _, rfl, by decide⟩
theorem protPair (a0 : Fin 16) (a1 : Bool) (a2 : Bool) : Statement (.protPair a0 a1 a2) := fun _ _ h => by cases h; exact ⟨_, _, rfl, by decide⟩
theorem protCommission (a0 : Fin 16) (a1 : Nat) : Statement (.protCommission a0 a1) := fun _ _ h => by cases h; exact ⟨_, _, rfl, by decide⟩
theorem protSwitch (a0 : Fin 16) (a1 : List Nat) : Statement (.protSwitch a0 a1) := fun _ _ h => by cases h; exact ⟨_, _, rfl, by decide⟩
theorem protClaim (a0 : Fin 16) (a1 : List Nat) : Statement (.protClaim a0 a1) := fun _ _ h => by cases h; exact ⟨_, _, rfl, by decide⟩
theorem protReadmit (a0 : Fin 16) : Statement (.protReadmit a0) := fun _ _ h => by cases h; exact ⟨_, _, rfl, by decide⟩
theorem protStatus (a0 : Fin 16) : Statement (.protStatus a0) := fun _ _ h => by cases h; exact ⟨_, _, rfl, by decide⟩
theorem mirrorResync (a0 : Fin 16) (a1 : List Nat) : Statement (.mirrorResync a0 a1) := fun _ _ h => by cases h; exact ⟨_, _, rfl, by decide⟩
theorem functionLevelReset : Statement (.functionLevelReset) := fun _ _ h => by cases h
theorem pciePerst (a0 : Bool) : Statement (.pciePerst a0) := fun _ _ h => by cases h
theorem registerWrite (a0 : Nat) (a1 : Nat) (a2 : Word) (a3 : Bool) : Statement (.registerWrite a0 a1 a2 a3) := fun _ _ h => by cases h
theorem deviceTimeLoRead : Statement (.deviceTimeLoRead) := fun _ _ h => by cases h
theorem hostFlrCountRead : Statement (.hostFlrCountRead) := fun _ _ h => by cases h
theorem doneCountRead (a0 : Fin 64) : Statement (.doneCountRead a0) := fun _ _ h => by cases h
theorem mbCountRead (a0 : Fin 16) : Statement (.mbCountRead a0) := fun _ _ h => by cases h
theorem bar2Access (a0 : Bool) (a1 : Fin 67108864) : Statement (.bar2Access a0 a1) := fun _ _ h => by cases h
theorem chEnableSet (a0 : Fin 64) : Statement (.chEnableSet a0) := fun _ _ h => by cases h
theorem chEnableClear (a0 : Fin 64) : Statement (.chEnableClear a0) := fun _ _ h => by cases h
theorem chAbort (a0 : Fin 64) : Statement (.chAbort a0) := fun _ _ h => by cases h
theorem chResume (a0 : Fin 64) : Statement (.chResume a0) := fun _ _ h => by cases h
theorem ringTailWrite (a0 : Fin 64) (a1 : BitVec 16) : Statement (.ringTailWrite a0 a1) := fun _ _ h => by cases h
theorem shadowCommit (a0 : Fin 64) (a1 : Bool) : Statement (.shadowCommit a0 a1) := fun _ _ h => by cases h
theorem dmaMessageEnqueue (a0 : Fin 5) : Statement (.dmaMessageEnqueue a0) := fun _ _ h => by cases h
theorem dmaDescriptorTake (a0 : Fin 64) (a1 : List Word) (a2 : List Word) : Statement (.dmaDescriptorTake a0 a1 a2) := fun _ _ h => by cases h
theorem dmaOwnReread (a0 : Fin 64) (a1 : List Word) (a2 : List Word) : Statement (.dmaOwnReread a0 a1 a2) := fun _ _ h => by cases h
theorem dmaBurst (a0 : Fin 64) (a1 : List Byte) : Statement (.dmaBurst a0 a1) := fun _ _ h => by cases h
theorem dmaTriggerTimer (a0 : Fin 64) : Statement (.dmaTriggerTimer a0) := fun _ _ h => by cases h
theorem dmaDescriptorComplete (a0 : Fin 64) : Statement (.dmaDescriptorComplete a0) := fun _ _ h => by cases h
theorem dmaCoalesceTimeout (a0 : Fin 64) : Statement (.dmaCoalesceTimeout a0) := fun _ _ h => by cases h
theorem dmaBusError (a0 : Fin 64) (a1 : Bool) : Statement (.dmaBusError a0 a1) := fun _ _ h => by cases h
theorem dmaChannelOpen (a0 : Fin 16) (a1 : Nat) (a2 : Nat) : Statement (.dmaChannelOpen a0 a1 a2) := fun _ _ h => by cases h; exact ⟨_, _, rfl, by decide⟩
theorem dmaChannelClose (a0 : Fin 16) (a1 : Nat) : Statement (.dmaChannelClose a0 a1) := fun _ _ h => by cases h; exact ⟨_, _, rfl, by decide⟩
theorem dmaStatus (a0 : Fin 16) : Statement (.dmaStatus a0) := fun _ _ h => by cases h; exact ⟨_, _, rfl, by decide⟩
theorem mbDoorbell (a0 : Fin 16) : Statement (.mbDoorbell a0) := fun _ _ h => by cases h
theorem mailboxAccept (a0 : Fin 16) (a1 : List Obj) : Statement (.mailboxAccept a0 a1) := fun _ _ h => by cases h
theorem respReadyClear (a0 : Fin 16) : Statement (.respReadyClear a0) := fun _ _ h => by cases h
theorem controlPairTakeover : Statement (.controlPairTakeover) := fun _ _ h => by cases h
theorem identRead (a0 : Fin 16) : Statement (.identRead a0) := fun _ _ h => by cases h; exact ⟨_, _, rfl, by decide⟩
theorem paramRead (a0 : Fin 16) : Statement (.paramRead a0) := fun _ _ h => by cases h; exact ⟨_, _, rfl, by decide⟩
theorem paramWrite (a0 : Fin 16) : Statement (.paramWrite a0) := fun _ _ h => by cases h; exact ⟨_, _, rfl, by decide⟩
theorem paramDescribe (a0 : Fin 16) (a1 : Nat) (a2 : Nat) : Statement (.paramDescribe a0 a1 a2) := fun _ _ h => by cases h; exact ⟨_, _, rfl, by decide⟩
theorem fwImageWrite (a0 : Fin 16) : Statement (.fwImageWrite a0) := fun _ _ h => by cases h; exact ⟨_, _, rfl, by decide⟩
theorem fwActivate (a0 : Fin 16) (a1 : ImageCheck) : Statement (.fwActivate a0 a1) := fun _ _ h => by cases h; exact ⟨_, _, rfl, by decide⟩
theorem fwRebuildTimeout : Statement (.fwRebuildTimeout) := fun _ _ h => by cases h
theorem fwStandbyLoadDone (a0 : Bool) : Statement (.fwStandbyLoadDone a0) := fun _ _ h => by cases h
theorem fwCommit (a0 : Fin 16) : Statement (.fwCommit a0) := fun _ _ h => by cases h; exact ⟨_, _, rfl, by decide⟩
theorem fwStatus (a0 : Fin 16) : Statement (.fwStatus a0) := fun _ _ h => by cases h; exact ⟨_, _, rfl, by decide⟩
theorem sessionOpen (a0 : Fin 16) : Statement (.sessionOpen a0) := fun _ _ h => by cases h; exact ⟨_, _, rfl, by decide⟩
theorem sessionAuth (a0 : Fin 16) : Statement (.sessionAuth a0) := fun _ _ h => by cases h; exact ⟨_, _, rfl, by decide⟩
theorem sessionClose (a0 : Fin 16) : Statement (.sessionClose a0) := fun _ _ h => by cases h; exact ⟨_, _, rfl, by decide⟩
theorem sessionIdleExpiry (a0 : Fin 4) : Statement (.sessionIdleExpiry a0) := fun _ _ h => by cases h
theorem authLockoutExpiry (a0 : Fin 4) : Statement (.authLockoutExpiry a0) := fun _ _ h => by cases h
theorem makerEnChange (a0 : Bool) : Statement (.makerEnChange a0) := fun _ _ h => by cases h
theorem credEnrol (a0 : Fin 16) (a1 : Nat) : Statement (.credEnrol a0 a1) := fun _ _ h => by cases h; exact ⟨_, _, rfl, by decide⟩
theorem credSet (a0 : Fin 16) (a1 : Nat) : Statement (.credSet a0 a1) := fun _ _ h => by cases h; exact ⟨_, _, rfl, by decide⟩
theorem auditSummary : Statement (.auditSummary) := fun _ _ h => by cases h
theorem auditPersist (a0 : Bool) : Statement (.auditPersist a0) := fun _ _ h => by cases h
theorem auditPersistRetry (a0 : Bool) : Statement (.auditPersistRetry a0) := fun _ _ h => by cases h
theorem auditRead (a0 : Fin 16) (a1 : Nat) (a2 : Nat) : Statement (.auditRead a0 a1 a2) := fun _ _ h => by cases h; exact ⟨_, _, rfl, by decide⟩
theorem calRead (a0 : Fin 16) (a1 : Nat) (a2 : Nat) : Statement (.calRead a0 a1 a2) := fun _ _ h => by cases h; exact ⟨_, _, rfl, by decide⟩
theorem calOverlayWrite (a0 : Fin 16) : Statement (.calOverlayWrite a0) := fun _ _ h => by cases h; exact ⟨_, _, rfl, by decide⟩
theorem faultReport : Statement (.faultReport) := fun _ _ h => by cases h
theorem handshakeStall (a0 : Fin 3328) (a1 : BitVec 16) : Statement (.handshakeStall a0 a1) := fun _ _ h => by cases h
theorem sramUe (a0 : Fin 3328) (a1 : BitVec 16) : Statement (.sramUe a0 a1) := fun _ _ h => by cases h
theorem sramCorrection (a0 : Fin 3328) (a1 : BitVec 16) : Statement (.sramCorrection a0 a1) := fun _ _ h => by cases h
theorem scrubRead (a0 : Fin 3328) (a1 : BitVec 16) (a2 : Bool) : Statement (.scrubRead a0 a1 a2) := fun _ _ h => by cases h
theorem cellRepairDone (a0 : Fin 3328) (a1 : BitVec 16) : Statement (.cellRepairDone a0 a1) := fun _ _ h => by cases h
theorem blockReplacementDone (a0 : Fin 13) : Statement (.blockReplacementDone a0) := fun _ _ h => by cases h
theorem regionRestartDone (a0 : Bool) : Statement (.regionRestartDone a0) := fun _ _ h => by cases h
theorem recoveryTimeout (a0 : Word) : Statement (.recoveryTimeout a0) := fun _ _ h => by cases h
theorem lockstepMismatch (a0 : Bool) : Statement (.lockstepMismatch a0) := fun _ _ h => by cases h
theorem controlPairSelfTestDone (a0 : Bool) (a1 : Bool) : Statement (.controlPairSelfTestDone a0 a1) := fun _ _ h => by cases h
theorem unitSlow (a0 : Fin 3328) : Statement (.unitSlow a0) := fun _ _ h => by cases h
theorem unitGhost (a0 : Word) : Statement (.unitGhost a0) := fun _ _ h => by cases h
theorem spareSelfTest (a0 : Word) (a1 : Bool) : Statement (.spareSelfTest a0 a1) := fun _ _ h => by cases h
theorem maintenanceWindowStart : Statement (.maintenanceWindowStart) := fun _ _ h => by cases h
theorem readmissionTestDone (a0 : Word) (a1 : Bool) : Statement (.readmissionTestDone a0 a1) := fun _ _ h => by cases h
theorem faultStatus (a0 : Fin 16) : Statement (.faultStatus a0) := fun _ _ h => by cases h; exact ⟨_, _, rfl, by decide⟩
theorem unitStatus (a0 : Fin 16) (a1 : Word) : Statement (.unitStatus a0 a1) := fun _ _ h => by cases h; exact ⟨_, _, rfl, by decide⟩
theorem readmitPolicy (a0 : Fin 16) (a1 : Bool) (a2 : List Word) : Statement (.readmitPolicy a0 a1 a2) := fun _ _ h => by cases h; exact ⟨_, _, rfl, by decide⟩
theorem readmitOverride (a0 : Fin 16) (a1 : Word) (a2 : Bool) : Statement (.readmitOverride a0 a1 a2) := fun _ _ h => by cases h; exact ⟨_, _, rfl, by decide⟩
theorem repairMapRead (a0 : Fin 16) (a1 : Nat) : Statement (.repairMapRead a0 a1) := fun _ _ h => by cases h; exact ⟨_, _, rfl, by decide⟩
theorem repairMapWrite (a0 : Fin 16) (a1 : List (Word × Nat)) : Statement (.repairMapWrite a0 a1) := fun _ _ h => by cases h; exact ⟨_, _, rfl, by decide⟩
theorem controlPairSwitch (a0 : Fin 16) : Statement (.controlPairSwitch a0) := fun _ _ h => by cases h; exact ⟨_, _, rfl, by decide⟩
theorem eventArrival (a0 : Fin 1624) : Statement (.eventArrival a0) := fun _ _ h => by cases h
theorem eventShedPeriod : Statement (.eventShedPeriod) := fun _ _ h => by cases h
theorem eventBatchTimeout : Statement (.eventBatchTimeout) := fun _ _ h => by cases h
theorem eventIrqHoldoffExpiry (a0 : Fin 64) : Statement (.eventIrqHoldoffExpiry a0) := fun _ _ h => by cases h
theorem telemetryRecord : Statement (.telemetryRecord) := fun _ _ h => by cases h
theorem telemetryPeriodExpiry : Statement (.telemetryPeriodExpiry) := fun _ _ h => by cases h
theorem telemetryFlushExpiry : Statement (.telemetryFlushExpiry) := fun _ _ h => by cases h
theorem eventMaskSet (a0 : Fin 16) (a1 : Bool) (a2 : List Nat) (a3 : List Nat) : Statement (.eventMaskSet a0 a1 a2 a3) := fun _ _ h => by cases h; exact ⟨_, _, rfl, by decide⟩
theorem eventRouteSet (a0 : Fin 16) (a1 : List RouteEntry) : Statement (.eventRouteSet a0 a1) := fun _ _ h => by cases h; exact ⟨_, _, rfl, by decide⟩
theorem eventRead (a0 : Fin 16) (a1 : Nat) : Statement (.eventRead a0 a1) := fun _ _ h => by cases h; exact ⟨_, _, rfl, by decide⟩
theorem telemetrySet (a0 : Fin 16) (a1 : Nat) (a2 : Nat) : Statement (.telemetrySet a0 a1 a2) := fun _ _ h => by cases h; exact ⟨_, _, rfl, by decide⟩
theorem counterSnapshot (a0 : Fin 16) : Statement (.counterSnapshot a0) := fun _ _ h => by cases h; exact ⟨_, _, rfl, by decide⟩
theorem resetAssert (a0 : Bool) : Statement (.resetAssert a0) := fun _ _ h => by cases h
theorem resetRelease : Statement (.resetRelease) := fun _ _ h => by cases h
theorem bringupStepDone (a0 : BootStep) : Statement (.bringupStepDone a0) := fun _ _ h => by cases h
theorem darkIdleExpiry (a0 : Fin 64) : Statement (.darkIdleExpiry a0) := fun _ _ h => by cases h
theorem darkChannelExit (a0 : Fin 64) : Statement (.darkChannelExit a0) := fun _ _ h => by cases h
theorem dramSrIdleExpiry (a0 : Fin 8) : Statement (.dramSrIdleExpiry a0) := fun _ _ h => by cases h
theorem powerStateSet (a0 : Fin 16) : Statement (.powerStateSet a0) := fun _ _ h => by cases h; exact ⟨_, _, rfl, by decide⟩
theorem powerStatus (a0 : Fin 16) : Statement (.powerStatus a0) := fun _ _ h => by cases h; exact ⟨_, _, rfl, by decide⟩
theorem tempSample (a0 : List Int) : Statement (.tempSample a0) := fun _ _ h => by cases h
theorem lanePrbsSet (a0 : Fin 16) : Statement (.lanePrbsSet a0) := fun _ _ h => by cases h; exact ⟨_, _, rfl, by decide⟩
theorem lanePrbsRead (a0 : Fin 16) (a1 : Nat) (a2 : Nat) : Statement (.lanePrbsRead a0 a1 a2) := fun _ _ h => by cases h; exact ⟨_, _, rfl, by decide⟩
theorem laneErrInject (a0 : Fin 16) : Statement (.laneErrInject a0) := fun _ _ h => by cases h; exact ⟨_, _, rfl, by decide⟩
theorem errorInjection (a0 : Fin 3) (a1 : Fin 128) : Statement (.errorInjection a0 a1) := fun _ _ h => by cases h
theorem laneLoopSet (a0 : Fin 16) : Statement (.laneLoopSet a0) := fun _ _ h => by cases h; exact ⟨_, _, rfl, by decide⟩
theorem selfTest (a0 : Fin 16) (a1 : Word) (a2 : Nat) : Statement (.selfTest a0 a1 a2) := fun _ _ h => by cases h; exact ⟨_, _, rfl, by decide⟩
theorem tapReset : Statement (.tapReset) := fun _ _ h => by cases h
theorem extest : Statement (.extest) := fun _ _ h => by cases h
theorem samplePreload (a0 : Nat) (a1 : Nat) : Statement (.samplePreload a0 a1) := fun _ _ h => by cases h
theorem idcode : Statement (.idcode) := fun _ _ h => by cases h
theorem clamp : Statement (.clamp) := fun _ _ h => by cases h
theorem highz : Statement (.highz) := fun _ _ h => by cases h
theorem extestPulse : Statement (.extestPulse) := fun _ _ h => by cases h
theorem extestTrain : Statement (.extestTrain) := fun _ _ h => by cases h
theorem bypass : Statement (.bypass) := fun _ _ h => by cases h
theorem shaperConforms (a0 : ShaperRef) : Statement (.shaperConforms a0) := fun _ _ h => by cases h
theorem entropyRecovered : Statement (.entropyRecovered) := fun _ _ h => by cases h
theorem tetherClockLoss (a0 : Fin 2) : Statement (.tetherClockLoss a0) := fun _ _ h => by cases h
theorem maintenanceWindowEnd : Statement (.maintenanceWindowEnd) := fun _ _ h => by cases h
theorem commissionTimeout (a0 : Fin 32) : Statement (.commissionTimeout a0) := fun _ _ h => by cases h
theorem prbsLock (a0 : Fin 3) (a1 : Fin 128) : Statement (.prbsLock a0 a1) := fun _ _ h => by cases h
theorem prbsLockLoss (a0 : Fin 3) (a1 : Fin 128) (a2 : Nat) (a3 : Nat) : Statement (.prbsLockLoss a0 a1 a2 a3) := fun _ _ h => by cases h

end Sys2Proof.Laws.F
end

