-- ==== Sys2Proof/Tests/Slice0.lean ====
section
/-! SUPPORT. Tests: ill-formed commands are refused, the worked examples of the spec come out as it says, and every hypothesis of a statement
is met by a concrete state and concrete operands. -/
namespace Sys2Proof.Tests
open Sys2Proof Sys2Proof.Machine

section
set_option Elab.async false
set_option linter.unusedVariables false

/-! ### States and commands to test with -/

/-- A command that a mailbox has taken, not yet started. -/
def cmdOf (code : Nat) (body : List Byte := []) (flags : Nat := 0) (role : Nat := 0) (key : Option Nat := none) : Cmd :=
  { code := code, seq := 1, session := 0, flags := flags, role := role, key := key, body := body, index := 0, objs := [] }

/-- `s` with command `c` running in mailbox 0. -/
def hosted (s : State) (c : Cmd) : State := s.setMbox 0 { state := .running, cmd := some c }

/-- The reset state with one entry in the MAC table. -/
def macState (fid addr : Nat) (v : EntVal) (static : Bool) : State :=
  State.reset.setTable 1
    { slots := [(4 * bucketOf State.reset 1 (macKey fid addr),
        some { isStatic := static, hit := false, age := 0, rem := remOf State.reset 1 (macKey fid addr), v := v })] }

/-- The reset state with one entry in the flow table. -/
def flowState (key : Nat) (v : EntVal) : State :=
  State.reset.setTable 0
    { slots := [(4 * bucketOf State.reset 0 key, some { isStatic := false, hit := false, age := 0, rem := remOf State.reset 0 key, v := v })] }

/-- A time-of-day message with a good checksum. -/
def todGood : List Byte := [0xC5, 0x3A, 1, 128, 0, 0, 0, 0, 0, 5, 0, 0, 0, 0, 45, 113]

/-- A request body of 32-bit words. -/
def bodyOf (ws : List Nat) : List Byte := (ws.map (leBytes 4)).flatten

/-- Where a row leaves the machine. -/
def after (i : Instr) (s : State) : State :=
  match exec i s with
  | .next t => t
  | _ => s

/-! ### Ill-formed commands -/

theorem test_ill_formed_1 : ([
  .paceWindowClose [], .paceSample 0 (2 ^ 32) false false, .regulatorPassthrough 0 (2 ^ 32) 0 [], .regulatorPassthrough 0 0 (2 ^ 32) [],
  .regulatorPassthrough 0 0 0 ([2 ^ 32]), .rssiWindow 0 (2 ^ 64), .moduleTransactionDone 0 (List.replicate 4065 0),
  .moduleRead 0 (2 ^ 32) 0 0 0 0, .moduleRead 0 0 (2 ^ 32) 0 0 0, .moduleRead 0 0 0 (2 ^ 32) 0 0, .moduleRead 0 0 0 0 (2 ^ 32) 0,
  .moduleRead 0 0 0 0 0 (2 ^ 32), .moduleWrite 0 (2 ^ 32) 0 0 0 [], .moduleWrite 0 0 (2 ^ 32) 0 0 [], .moduleWrite 0 0 0 (2 ^ 32) 0 [],
  .moduleWrite 0 0 0 0 (2 ^ 32) [], .moduleWrite 0 0 0 0 0 (List.replicate 4065 0), .rssiMeasure 0 (2 ^ 32), .bmemRead 0 (2 ^ 32),
  .bmemReset 0 (2 ^ 32), .sleepLight 0 (2 ^ 64) none 0, .sleepLight 0 0 none (2 ^ 64), .sliceShadowPeriod 0 1 0 false,
  .fragmentBoundary 0 (2 ^ 64), .ppsEdge (2 ^ 64) false, .todMessage [], .channelEnable 0 (2 ^ 32), .channelDisable 0 (2 ^ 32),
  .snAnswer 0 [] (2 ^ 64) 0 0, .snAnswer 0 [] 0 (2 ^ 64) 0, .snAnswer 0 [] 0 0 (2 ^ 64), .registrationBurst 0 [] (2 ^ 64) [] none 0,
  .registrationBurst 0 [] 0 (List.replicate 37 0) none 0, .registrationBurst 0 [] 0 [] none (2 ^ 64), .rogueObservation 0 false none (2 ^ 64),
  .termCreate 0 (2 ^ 32) 0 0 0 0 0, .termCreate 0 0 (2 ^ 32) 0 0 0 0, .termCreate 0 0 0 (2 ^ 64) 0 0 0, .termCreate 0 0 0 0 (2 ^ 32) 0 0,
  .termCreate 0 0 0 0 0 (2 ^ 32) 0] : List Instr).all
    (fun i => !i.wellFormed) = true := by decide +kernel

theorem test_ill_formed_2 : ([
  .termCreate 0 0 0 0 0 0 (2 ^ 32), .termDelete 0 (2 ^ 32), .termDeactivate 0 (2 ^ 32), .termDisable 0 (2 ^ 32), .termEnable 0 (2 ^ 32),
  .termRead 0 (2 ^ 32), .termRerange 0 (2 ^ 32) none, .termRerange 0 0 (some (2 ^ 32)), .allocMap 0 (2 ^ 32) 0 0 0, .allocMap 0 0 (2 ^ 32) 0 0,
  .allocMap 0 0 0 (2 ^ 32) 0, .allocMap 0 0 0 0 (2 ^ 32), .allocUnmap 0 (2 ^ 32), .gemMap 0 (2 ^ 32) default, .gemUnmap 0 (2 ^ 32),
  .snListRead 0 (2 ^ 32), .rogueStart 0 (2 ^ 32), .rogueStatus 0 (2 ^ 32), .rogueStop 0 (2 ^ 32), .fecCodeword 0 1825 [] 0,
  .fecCodeword 0 0 (List.replicate 2161 0) 0, .ploamuMessage 0 ([2 ^ 64]) 0 none, .ploamuMessage 0 [] (2 ^ 64) none,
  .burstReport 0 0 (2 ^ 24) false 0, .burstReport 0 0 0 false (2 ^ 24), .allocContract 0 (2 ^ 32) 0 0 0 0 0 0 0,
  .allocContract 0 0 (2 ^ 32) 0 0 0 0 0 0, .allocContract 0 0 0 (2 ^ 32) 0 0 0 0 0, .allocContract 0 0 0 0 (2 ^ 32) 0 0 0 0,
  .allocContract 0 0 0 0 0 (2 ^ 32) 0 0 0, .allocContract 0 0 0 0 0 0 (2 ^ 32) 0 0, .allocContract 0 0 0 0 0 0 0 (2 ^ 32) 0,
  .allocContract 0 0 0 0 0 0 0 0 (2 ^ 32), .allocContractRead 0 (2 ^ 32), .dbaPreannCancel 0 (2 ^ 32) none, .dbaPreannCancel 0 0 (some (2 ^ 64)),
  .ledgerReset 0 (2 ^ 32), .dbaStatusRead 0 (2 ^ 32), .gmRead 0 (2 ^ 32), .gmCalendarRead 0 (2 ^ 32)] : List Instr).all
    (fun i => !i.wellFormed) = true := by decide +kernel

theorem test_ill_formed_3 : ([
  .ruleWrite 0 (2 ^ 32) 0 [], .ruleWrite 0 0 (2 ^ 32) [], .ruleRead 0 (2 ^ 32) 0 0, .ruleRead 0 0 (2 ^ 32) 0, .ruleRead 0 0 0 (2 ^ 32),
  .agingScan 0 false (2 ^ 32), .flowProfileSet 0 (2 ^ 32) [], .flowProfileSet 0 0 ([2 ^ 32]), .flowDelete 0 ([2 ^ 96]),
  .flowRead 0 ([2 ^ 96]) none, .macFlush 0 false (2 ^ 32), .macUnfreeze 0 (2 ^ 32) 0, .macUnfreeze 0 0 (2 ^ 48), .evictLogRead 0 (2 ^ 32) 0,
  .evictLogRead 0 0 (2 ^ 32), .queueConfig 0 (2 ^ 32) ({}), .queueRead 0 (2 ^ 32), .queueDisable 0 (2 ^ 32),
  .schedNodeSet 0 (.chan 0) (some (2 ^ 32)) none none, .schedNodeSet 0 (.chan 0) none (some (2 ^ 32)) none,
  .schedNodeSet 0 (.chan 0) none none (some (2 ^ 32)), .policerSet 0 (2 ^ 32) 0 0, .policerSet 0 0 (2 ^ 32) 0, .policerSet 0 0 0 (2 ^ 32),
  .markerSet 0 (2 ^ 32) 0 false 0 false 0 0 0 0, .markerSet 0 0 (2 ^ 32) false 0 false 0 0 0 0, .markerSet 0 0 0 false (2 ^ 32) false 0 0 0 0,
  .markerSet 0 0 0 false 0 false (2 ^ 32) 0 0 0, .markerSet 0 0 0 false 0 false 0 (2 ^ 32) 0 0, .markerSet 0 0 0 false 0 false 0 0 (2 ^ 32) 0,
  .markerSet 0 0 0 false 0 false 0 0 0 (2 ^ 32), .meterRead 0 false (2 ^ 32), .gateListSet 0 (2 ^ 32) 0 0 [], .gateListSet 0 0 (2 ^ 32) 0 [],
  .gateListSet 0 0 0 (2 ^ 64) [], .gateListSet 0 0 0 0 ([2 ^ 64]), .gateListClear 0 (2 ^ 32), .gateStatus 0 (2 ^ 32),
  .watchSet 0 (2 ^ 32) none 0, .watchSet 0 0 (some (2 ^ 32)) 0] : List Instr).all
    (fun i => !i.wellFormed) = true := by decide +kernel

theorem test_ill_formed_4 : ([
  .watchSet 0 0 none (2 ^ 32), .histRead 0 (2 ^ 32) 0, .histRead 0 0 (2 ^ 32), .bufFaultLogRead 0 (2 ^ 32), .glacierStatus 0 (2 ^ 32) 0,
  .glacierStatus 0 0 (2 ^ 32), .cipherPairResult 0 (2 ^ 64) 0 0 none, .cipherPairResult 0 0 (2 ^ 128) 0 none,
  .cipherPairResult 0 0 0 (2 ^ 128) none, .keyErase 0 (2 ^ 32), .termRekey 0 (2 ^ 32), .bcastKeyExport 0 (2 ^ 32) 0,
  .bcastKeyExport 0 0 (2 ^ 32), .cmacJob 0 (2 ^ 32) 0 [] 0, .cmacJob 0 0 (2 ^ 32) [] 0, .cmacJob 0 0 0 (List.replicate 4065 0) 0,
  .cmacJob 0 0 0 [] (2 ^ 128), .pauseFrameRx 0 false (2 ^ 16) [], .uplinkStatus 0 (2 ^ 32) 0, .uplinkStatus 0 0 (2 ^ 32),
  .uplinkStats 0 (2 ^ 32) [], .uplinkStats 0 0 ([2 ^ 32]), .uplinkRestart 0 (2 ^ 32), .macsecScSet 0 (2 ^ 32) 0 false,
  .macsecScSet 0 0 (2 ^ 64) false, .macsecSaSet 0 (2 ^ 32) 0 none 0 false 0 false, .macsecSaSet 0 0 (2 ^ 32) none 0 false 0 false,
  .macsecSaSet 0 0 0 (some (2 ^ 64)) 0 false 0 false, .macsecSaSet 0 0 0 none (2 ^ 32) false 0 false,
  .macsecSaSet 0 0 0 none 0 false (2 ^ 64) false, .macsecSaRead 0 (2 ^ 32), .tetherLaneFrame 0 default (2 ^ 32), .tetherRestart 0 (2 ^ 32),
  .protCommission 0 (2 ^ 32), .protSwitch 0 ([2 ^ 32]), .protClaim 0 ([2 ^ 32]), .mirrorResync 0 ([2 ^ 32]), .registerWrite (2 ^ 20) 0 0 false,
  .registerWrite 0 9 0 false, .dmaDescriptorTake 0 [] []] : List Instr).all
    (fun i => !i.wellFormed) = true := by decide +kernel

theorem test_ill_formed_5 : ([
  .dmaOwnReread 0 [] [], .dmaBurst 0 (List.replicate 4097 0), .dmaChannelOpen 0 (2 ^ 32) 0, .dmaChannelOpen 0 0 (2 ^ 32),
  .dmaChannelClose 0 (2 ^ 32), .paramDescribe 0 (2 ^ 32) 0, .paramDescribe 0 0 (2 ^ 32), .auditRead 0 (2 ^ 32) 0, .auditRead 0 0 (2 ^ 32),
  .calRead 0 (2 ^ 32) 0, .calRead 0 0 (2 ^ 32), .repairMapRead 0 (2 ^ 32), .eventMaskSet 0 false ([2 ^ 32]) [],
  .eventMaskSet 0 false [] ([2 ^ 32]), .eventRead 0 (2 ^ 32), .telemetrySet 0 (2 ^ 32) 0, .telemetrySet 0 0 (2 ^ 32), .tempSample [],
  .lanePrbsRead 0 0 1, .selfTest 0 0 (2 ^ 32), .prbsLockLoss 0 0 0 1, .paceWindowClose (List.replicate 13 101),
  .uplinkFrameRx 0 { id := 1, len := 2, bytes := [0] } false false none, .ruleWrite 0 0 0 [⟨2 ^ 384, 0, [0, 0, 0, 0], 0, 0⟩],
  .ruleWrite 0 0 0 [⟨0, 2 ^ 384, [0, 0, 0, 0], 0, 0⟩], .ruleWrite 0 0 0 [⟨0, 0, [0, 0, 0], 0, 0⟩],
  .ruleWrite 0 0 0 [⟨0, 0, [0, 0, 0, 2 ^ 32], 0, 0⟩], .ruleWrite 0 0 0 [⟨0, 0, [0, 0, 0, 0], 2 ^ 32, 0⟩],
  .ruleWrite 0 0 0 [⟨0, 0, [0, 0, 0, 0], 0, 2 ^ 32⟩], .flowAdd 0 [⟨2 ^ 96, 0, 0, false, false, 0⟩], .macAdd 0 [⟨0, 2 ^ 48, 0⟩],
  .macAdd 0 [⟨2 ^ 32, 0, 0⟩], .macAdd 0 [⟨0, 0, 2 ^ 32⟩], .macDelete 0 [⟨0, 2 ^ 48, 0⟩], .macDelete 0 [⟨2 ^ 32, 0, 0⟩],
  .macRead 0 [⟨0, 2 ^ 48, 0⟩] none, .macRead 0 [⟨2 ^ 32, 0, 0⟩] none, .keyStatus 0 [(2 ^ 32, 0)], .keyStatus 0 [(0, 2 ^ 32)],
  .pauseFrameRx 0 false 0 [(0, 2 ^ 16)]] : List Instr).all
    (fun i => !i.wellFormed) = true := by decide +kernel

theorem test_ill_formed_6 : ([
  .tetherFrameRx 0 0 0 ⟨2 ^ 64, true, true, .idle⟩, .pairMessageRx 0 true { count := 2 ^ 32, hold := List.replicate 32 false } 0 0 0,
  .pairMessageRx 0 true { hold := [] } 0 0 0, .repairMapWrite 0 [(0, 2 ^ 32)], .eventRouteSet 0 [⟨2 ^ 32, false, none⟩],
  .eventRouteSet 0 [⟨0, false, some (2 ^ 32)⟩]] : List Instr).all
    (fun i => !i.wellFormed) = true := by decide +kernel


theorem test_well_formed : ([.frameStart, .tempSample (List.replicate 64 25), .ruleWrite 0 8191 15 [⟨2 ^ 384 - 1, 0, [0, 0, 0, 0], 0, 0⟩],
    .snAnswer 0 [] (2 ^ 64 - 1) 4 0, .pairMessageRx 0 true { hold := List.replicate 32 true } 0 0 0] : List Instr).all
    Instr.wellFormed = true := by decide +kernel

/-! ### Worked examples -/

/-- R62: 31.6 µW is −15.0 dBm, class 8; 0 is below the resolution, class 0. -/
theorem test_rssi_class : rssiClassOf 316 = 8 ∧ rssiClassOf 0 = 0 := by decide +kernel

/-- Example 5.1, step 1: the reserved interval is 34 to 674 µs from the discovery grant. -/
theorem test_discovery_interval : discFrom State.reset 12 = 34000 ∧ discTo State.reset 12 = 674000 := by decide +kernel

/-- Example 5.1, step 7: Teqd 7,776,000 bits, M 7,504,424 bits and 48/64, EQD_BITS 271,575, ρ −16. -/
theorem test_eqd : eqdOf (Frac.of (7776000 * 64)) (7504424 * 64 + 48) = 271575 ∧
    rhoOf (Frac.of (7776000 * 64)) (7504424 * 64 + 48) 271575 = -16 := by decide +kernel

/-- Example 5.1, continued: PHASE 113 against PHASE_REF −16 is an update by 2 bits. -/
theorem test_drift_update : ((State.reset.setTerm 0 { eqdBits := 271575 }).startUpdate 0 113 129).term 0 =
    { eqdBits := 271575, update := some ⟨2, 113, 271575, false⟩ } := by decide +kernel

/-- Example 5.1, continued: a first burst at −14 makes PHASE_REF −15. -/
theorem test_drift_end : (((State.reset.setBm 0 { phaseRef := -16 }).endUpdate 0 ⟨2, 113, 271575, false⟩ (-14)).bm 0).phaseRef = -15 := by
  decide +kernel

/-- Example 6.1: the false delimiter at −3 is released and counted, the true one at −1 is found. -/
theorem test_hunt : hunt State.reset { chan := 42, rate := 2, onu := some 7 } [⟨-3, 2, none⟩, ⟨-1, 0, some 7⟩] =
    { found := some ⟨-1, 0, some 7⟩, falses := 1 } := by decide +kernel

/-- Example 6.2: 14 corrected bits of 10^7 declare SD at 10^-6; none clear it. -/
theorem test_ber_window : windowJudge { bits := 10 ^ 7, corrected := 14 } (6, 10, 0, 10) = (true, false) ∧
    windowJudge { bits := 10 ^ 7, corrected := 0 } (6, 10, 0, 10) = (false, true) := by decide +kernel

/-- Example 7.2: corrections 0.5 and 1.5 at ledgers of ± 31,250 bytes. -/
theorem test_ledger_correction : ((corrOf { rm := 1000000 } 31250).mul (Frac.of 20)).floor = 10 ∧ ((corrOf { rm := 1000000 } (-31250)).mul (Frac.of 20)).floor = 30 := by
  decide +kernel

/-- Example 7.2: 30,000 bytes among corrected weights 2, 3 and 2 with wants of 20,000, 20,000 and 6,000. -/
theorem test_water_fill : (waterFill 4 (Frac.of 30000) [⟨0, Frac.of 2, Frac.of 20000, Frac.of 1⟩, ⟨1, Frac.of 3, Frac.of 20000, Frac.of 1⟩,
    ⟨2, Frac.of 2, Frac.of 6000, Frac.of 1⟩]).map (fun p => (p.1, p.2.floor)) = [(2, 6000), (0, 9600), (1, 14400)] := by decide +kernel

/-- Example 8.1: coded bytes of the bursts of A, B and C. -/
theorem test_coded_bytes : codedBytes 1 1012 = 1172 ∧ codedBytes 1 5012 = 5780 ∧ codedBytes 0 512 = 560 := by decide

/-- Example 8.1: the parts of a profile in units of channel 1, at 9.95328 and at 2.48832 Gb/s. -/
theorem test_profile_units : [16, 8, 64, 160, 32].map (profileUnits 1 1) = [20, 10, 80, 200, 40] ∧
    [64, 160, 32].map (profileUnits 1 0) = [80, 200, 40] := by decide +kernel

/-- R337, by hand: 172 pairs and no tape unit make 50 per cent, 330 make 100, more stay at 100, and one tape unit costs 7 pairs. -/
theorem test_cipher_share : cipherShare 172 0 = 50 ∧ cipherShare 330 0 = 100 ∧ cipherShare 400 0 = 100 ∧ cipherShare 179 1 = 50 ∧
    cipherShare 10 0 = 0 := by decide

/-- R443: values in the units of the spec's examples, and one that is no multiple of its step. -/
theorem test_param_units : inParamRange .PACE_BAND_LOW 275 = true ∧ inParamRange .VDD_MIN 700 = true ∧ inParamRange .DRIFT_TIW 40 = true ∧
    inParamRange .RSSI_SETTLE 10 = true ∧ inParamRange .LOS_WINDOW 250 = true ∧ inParamRange .LOS_WINDOW 251 = false ∧
    inParamRange .LOB_DEACT_TIME 1000 = true := by decide +kernel

/-! ### Single steps -/

/-- IDENT_READ answers the device identity (R442). -/
theorem test_ident_read : ((after (.identRead 0) (hosted State.reset (cmdOf 0x0101))).mbox 0).response.map (fun r => (r.status, r.body.head?)) =
    some (0, some 0x3250B100) := by decide +kernel

/-- A row whose command is not in its mailbox changes nothing. -/
theorem test_no_command : after (.identRead 0) State.reset = State.reset := by decide +kernel

/-- The front of the queue is taken, the rest waits. -/
theorem test_queue_order : step { State.reset with pending := [.ethRefLoss, .frameStart] } =
    exec .ethRefLoss { State.reset with pending := [.frameStart] } := rfl

/-- No word spells a command, so placing one changes nothing. -/
theorem test_no_words : decodeTableWord 32 0xFFFFFFFF = none ∧ State.reset.withFetchWord 32 5 = State.reset := ⟨rfl, by decide +kernel⟩


/-! ### The hypotheses of every statement are met -/

theorem test_witness_SignalCapacityAndBridges :
    (∃ (s : State) (k : Consumer) (r : Fin 13) (n : BitVec 16) (x : CapReport),
      ((s.pace.capSent.get r.val).find? (fun y => y.seq == n.toNat) = some x) ∧ (laterSeq (s.pace.held.get (consumerKey k r)).last x.seq = true)) ∧
    (∃ (s : State) (k : Consumer) (r : Fin 13) (n : BitVec 16), (laterSeq (s.pace.held.get (consumerKey k r)).last n.toNat = false)) ∧
    (∃ (s : State) (k : Consumer) (r : Fin 13) (n : BitVec 16), ((s.pace.capSent.get r.val).find? (fun y => y.seq == n.toNat) = none)) :=
  ⟨⟨{ State.reset with pace.capSent := [(0, [⟨5, {}⟩])] }, (.control), 0, (5), (⟨5, {}⟩), by and_intros <;> decide +kernel⟩,
   ⟨{ State.reset with pace.held := [(0, { last := some 5 })] }, (.dba), 0, 0, by decide +kernel⟩,
   ⟨State.reset, (.dba), 0, 0, by decide +kernel⟩⟩

theorem test_witness_PaceAndVoltage :
    (∃ (s : State) (m : Nat) (i : Nat) (p : Nat) (st : Bool), ((s.blockPace i).sample = some (p, st)) ∧ (p < 1000 ∨ 4500 < p)) ∧
    (∃ (s : State) (l : List Nat) (i : Nat) (p : Nat), (controlPace s l = some (i, p))) ∧
    (∃ (s : State) (i : Nat) (p : Nat) (loads : List Nat), (s.getN .AVS_MODE ≠ 1) ∧ (s.pace.settle = .ready ∨ s.pace.settle = .fullWindow) ∧
      (s.pace.avsFailed = false) ∧ (0 < upStep s p loads)) ∧
    (∃ (s : State) (i : Nat) (p : Nat) (loads : List Nat), (s.getN .AVS_MODE ≠ 1) ∧ (s.pace.settle = .ready ∨ s.pace.settle = .fullWindow) ∧
      (s.pace.avsFailed = false) ∧ (upStep s p loads = 0)) ∧
    (∃ (s : State) (i : Nat) (p : Nat) (loads : List Nat), (s.getN .AVS_MODE ≠ 1) ∧ (s.pace.settle = .settling ∨ s.pace.settle = .partialWindow)) ∧
    (∃ (s : State), (s.pace.settle = .settling)) ∧
    (∃ (s : State), (s.pace.settle ≠ .settling)) ∧
    (∃ (s : State) (ok : Bool), (s.pace.avsFailed = false) ∧ (s.pace.attempts < 2)) ∧
    (∃ (s : State) (ok : Bool), (s.pace.avsFailed = false) ∧ (2 ≤ s.pace.attempts)) ∧
    (∃ (s : State), (s.pace.avsFailed = false)) ∧
    (∃ (s : State) (ok : Bool), (s.pace.avsFailed = true)) ∧
    (∃ (s : State), (s.pace.pmFailed = false)) ∧
    (∃ (s : State) (mb : Fin 16) (c : Cmd) (cmd : Nat) (data : Nat) (ans : List Nat), (Starts s mb 0x0201 c) ∧ (s.getN .AVS_MODE ≠ 1) ∧
      (cmd ≠ voutCommand) ∧ (s.pace.pmFailed = false)) ∧
    (∃ (s : State) (mb : Fin 16) (c : Cmd) (data : Nat) (ans : List Nat), (Starts s mb 0x0201 c) ∧ (s.getN .AVS_MODE ≠ 1)) ∧
    (∃ (s : State) (mb : Fin 16) (c : Cmd) (cmd : Nat) (data : Nat) (ans : List Nat), (Starts s mb 0x0201 c) ∧ (s.getN .AVS_MODE = 1) ∧
      (s.pace.pmFailed = false)) :=
  ⟨⟨(State.reset.setBlockPace 0 { sample := some (0, false) }), 0, 0, 0, false, by and_intros <;> decide +kernel⟩,
   ⟨State.reset, ([0]), 0, 0, by decide +kernel⟩,
   ⟨{ State.reset with pace.attempts := 2 }, 0, 0, [], by and_intros <;> decide +kernel⟩,
   ⟨State.reset, 0, (9999), [], by and_intros <;> decide +kernel⟩,
   ⟨{ State.reset with pace.settle := .settling }, 0, 0, [], by and_intros <;> decide +kernel⟩,
   ⟨{ State.reset with pace.settle := .settling }, by decide +kernel⟩,
   ⟨State.reset, by decide +kernel⟩,
   ⟨State.reset, false, by and_intros <;> decide +kernel⟩,
   ⟨{ State.reset with pace.attempts := 2 }, false, by and_intros <;> decide +kernel⟩,
   ⟨State.reset, by decide +kernel⟩,
   ⟨{ State.reset with pace.avsFailed := true }, false, by decide +kernel⟩,
   ⟨State.reset, by decide +kernel⟩,
   ⟨(hosted State.reset (cmdOf 0x0201)), 0, (cmdOf 0x0201), 0, 0, [], ⟨rfl, rfl, by and_intros <;> decide +kernel⟩, by and_intros <;> decide +kernel⟩,
   ⟨(hosted State.reset (cmdOf 0x0201)), 0, (cmdOf 0x0201), 0, [], ⟨rfl, rfl, by and_intros <;> decide +kernel⟩, by decide +kernel⟩,
   ⟨(hosted (State.reset.setPar .AVS_MODE 0 1) (cmdOf 0x0201)), 0, (cmdOf 0x0201), 0, 0, [], ⟨rfl, rfl, by and_intros <;> decide +kernel⟩,
    by and_intros <;> decide +kernel⟩⟩

theorem test_witness_LaneRows :
    (∃ (s : State) (n : Fin 32), ((s.ln (rxLane (2 * n.val))).current.any (fun p => p.entry.isSome) = true) ∧
      ((s.ln (rxLane (2 * n.val))).pulsed = false) ∧ ((s.chan (2 * n.val)).enabled = true) ∧ (pulsesHeld s n = false)) ∧
    (∃ (s : State) (c : Fin 64) (p : PlanEntry) (l : List PlanEntry), ((s.ln (rxLane c)).nextEntry = none) ∧ ((s.ln (rxLane c)).plan = p :: l) ∧
      (p.entry.any (fun e => e.cont) = false)) ∧
    (∃ (s : State) (c : Fin 64) (p : PlanEntry) (l : List PlanEntry), ((s.ln (rxLane c)).nextEntry = none) ∧ ((s.ln (rxLane c)).plan = p :: l) ∧
      (p.entry.any (fun e => e.cont) = false)) ∧
    (∃ (s : State) (c : Fin 64) (p : PlanEntry), ((s.ln (rxLane c)).nextEntry = some p) ∧
      (planTerm p = none ∨ planTerm p ≠ (s.ln (rxLane c)).activeFor)) ∧
    (∃ (s : State) (c : Fin 64) (p : PlanEntry) (n : Nat), ((s.ln (rxLane c)).nextEntry = some p) ∧ (planTerm p = some n) ∧
      ((s.ln (rxLane c)).activeFor = some n)) ∧
    (∃ (s : State) (c : Fin 64), ((s.ln (rxLane c)).sleepDue = true) ∧ (s.lanes.keepAwake.get c = false)) ∧
    (∃ (s : State) (c : Fin 64), (s.power.dark.get c = true)) ∧
    (∃ (s : State) (c : Fin 64), (s.power.dark.get c = true) ∧ (s.lanes.keepAwake.get c = false)) ∧
    (∃ (s : State) (c : Fin 64) (x : Nat) (l : Option (Fin 8192)) (n : Nat), ((s.ln (rxLane c)).asleep = true)) ∧
    (∃ (s : State) (c : Fin 64) (g : Fin 40), ((s.ln (txLane c)).failedMask.testBit g = false) ∧ ((s.ln (txLane c)).waiting.contains g.val = false)) ∧
    (∃ (s : State) (c : Fin 64) (u : Nat) (l : List Nat), ((s.ln (txLane c)).waiting = u :: l) ∧
      ((s.ln (txLane c)).sparesUsed < laneSpares (txLane c))) ∧
    (∃ (s : State) (c : Fin 64) (d : Nat) (n : Nat), (n < d * 1000000)) ∧
    (∃ (s : State) (c : Fin 64) (d : Nat) (n : Nat), (d * 1000000 ≤ n)) ∧
    (∃ (s : State) (c : Fin 64) (u : Nat) (l : List Nat), ((s.ln (rxLane c)).waiting = u :: l) ∧
      ((s.ln (rxLane c)).sparesUsed < laneSpares (rxLane c))) ∧
    (∃ (s : State) (c : Fin 64) (p : PlanEntry) (l : List PlanEntry) (late : Bool), ((s.ln (rxLane c)).nextEntry = none) ∧
      ((s.ln (rxLane c)).plan = p :: l) ∧ (p.entry.any (fun e => e.cont) = true)) ∧
    (∃ (s : State) (c : Fin 64), (s.lanes.keepAwake.get c = true)) :=
  ⟨⟨((State.reset.setChan 0 { enabled := true }).setLn (rxLane 0) { current := some ⟨0, some default, 0⟩ }), 0, by and_intros <;> decide +kernel⟩,
   ⟨(State.reset.setLn (rxLane 0) { plan := [⟨0, none, 0⟩] }), 0, (⟨0, none, 0⟩), [], by and_intros <;> decide +kernel⟩,
   ⟨(State.reset.setLn (rxLane 0) { plan := [⟨0, none, 0⟩] }), 0, (⟨0, none, 0⟩), [], by and_intros <;> decide +kernel⟩,
   ⟨(State.reset.setLn (rxLane 0) { nextEntry := some ⟨0, none, 0⟩ }), 0, (⟨0, none, 0⟩), by and_intros <;> decide +kernel⟩,
   ⟨(State.reset.setLn (rxLane 0) { nextEntry := some ⟨0, some { start := 0, duration := 0, kind := .burst, rate := 0, term := some 3 }, 0⟩, activeFor := some 3 }), 0, (⟨0, some { start := 0, duration := 0, kind := .burst, rate := 0, term := some 3 }, 0⟩), (3), by and_intros <;> decide +kernel⟩,
   ⟨(State.reset.setLn (rxLane 0) { sleepDue := true }), 0, by and_intros <;> decide +kernel⟩,
   ⟨{ State.reset with power.dark := [(0, true)] }, 0, by decide +kernel⟩,
   ⟨{ State.reset with power.dark := [(0, true)] }, 0, by and_intros <;> decide +kernel⟩,
   ⟨(State.reset.setLn (rxLane 0) { asleep := true }), 0, 0, none, 0, by decide +kernel⟩,
   ⟨State.reset, 0, 0, by and_intros <;> decide +kernel⟩,
   ⟨(State.reset.setLn (txLane 0) { waiting := [3] }), 0, (3), [], by and_intros <;> decide +kernel⟩,
   ⟨State.reset, 0, (1), 0, by decide +kernel⟩,
   ⟨State.reset, 0, 0, 0, by decide +kernel⟩,
   ⟨(State.reset.setLn (rxLane 0) { waiting := [3] }), 0, (3), [], by and_intros <;> decide +kernel⟩,
   ⟨(State.reset.setLn (rxLane 0) { plan := [⟨0, some { start := 0, duration := 0, kind := .burst, rate := 0, cont := true }, 0⟩] }), 0, (⟨0,
    some { start := 0, duration := 0, kind := .burst, rate := 0, cont := true }, 0⟩), [], false, by and_intros <;> decide +kernel⟩,
   ⟨{ State.reset with lanes.keepAwake := [(0, true)] }, 0, by decide +kernel⟩⟩

theorem test_witness_ModuleRows :
    (∃ (s : State) (n : Fin 32), (roundLeft s n = []) ∧ ((s.optic n).rssi = none)) ∧
    (∃ (s : State) (n : Fin 8192) (x : Nat), let k := (s.term n).chan / 2
    ((s.optic k).rssi = none) ∧ ((s.optic k).asked.contains n.val = true) ∧ (rssiTarget s (s.term n) = true) ∧ (pulsesHeld s k = false) ∧
      (s.getN .RSSI_LEAD k + s.getN .RSSI_WIDTH k + 20 ≤ x)) ∧
    (∃ (s : State) (n : Fin 32) (k : Nat), ((s.optic n).rssi = some ⟨k, true⟩) ∧ ((s.optic n).holdoff = false)) ∧
    (∃ (s : State) (n : Fin 32), (treeEnabled s n = true) ∧ ((s.optic n).loss = false) ∧ ((losHeld s n).1 = true)) ∧
    (∃ (s : State) (n : Fin 4) (x : ModTxn), ((s.master n).running = some x) ∧ ((s.master n).setup = true)) ∧
    (∃ (s : State) (n : Fin 4) (x : ModTxn), ((s.master n).running = some x) ∧ ((s.master n).retried = false)) ∧
    (∃ (s : State) (n : Fin 32) (b : Byte), (b.toNat / 16 = 5)) ∧
    (∃ (s : State) (n : Fin 32) (b : Byte), (b.toNat / 16 ≠ 5)) ∧
    (∃ (s : State) (n : Fin 32), ((s.optic n).managing = true)) ∧
    (∃ (s : State) (n : Fin 4) (k : Nat), ((s.master n).running = some (.poll k)) ∧ ((s.master n).setup = false) ∧ ((s.master n).polls = []) ∧
      ((s.master n).passes = []) ∧ ((s.master n).reads = [])) ∧
    (∃ (s : State) (n : Fin 32) (b : Byte), (b.toNat / 16 = 5) ∧ ((s.master (n / 8)).running.isSome = true)) ∧
    (∃ (s : State) (n : Fin 4) (k : Nat) (d : List Byte), ((s.master n).running = some (.page k 2)) ∧ ((s.master n).setup = false) ∧
      ((s.master n).polls = []) ∧ ((s.master n).passes = []) ∧ ((s.master n).reads = []) ∧ ((s.optic k).managing = true)) ∧
    (∃ (s : State) (n : Fin 4), ((s.master n).running = none) ∧ ((s.master n).retried = false)) :=
  ⟨⟨State.reset, 0, by and_intros <;> decide +kernel⟩,
   ⟨(((State.reset.setTerm 0 { state := .operation }).setPar .RSSI_LOC 0 1).setOptic 0 { asked := [0] }), 0, (1000000), by and_intros <;> decide +kernel⟩,
   ⟨(State.reset.setOptic 0 { rssi := some ⟨0, true⟩ }), 0, 0, by and_intros <;> decide +kernel⟩,
   ⟨(((State.reset.setPar .LOS_SOURCE 0 1).setChan 0 { enabled := true }).setOptic 0 { granted := 4 }), 0, by and_intros <;> decide +kernel⟩,
   ⟨(State.reset.setMaster 0 { running := some (.poll 5), setup := true }), 0, (.poll 5), by and_intros <;> decide +kernel⟩,
   ⟨(State.reset.setMaster 0 { running := some (.poll 5) }), 0, (.poll 5), by and_intros <;> decide +kernel⟩,
   ⟨State.reset, 0, (0x50), by decide +kernel⟩,
   ⟨State.reset, 0, 0, by decide +kernel⟩,
   ⟨(State.reset.setOptic 0 { managing := true }), 0, by decide +kernel⟩,
   ⟨(State.reset.setMaster 0 { running := some (.poll 0) }), 0, 0, by and_intros <;> decide +kernel⟩,
   ⟨(State.reset.setMaster 0 { running := some (.poll 0) }), 0, (0x50), by and_intros <;> decide +kernel⟩,
   ⟨((State.reset.setMaster 0 { running := some (.page 0 2) }).setOptic 0 { managing := true }), 0, 0, [], by and_intros <;> decide +kernel⟩,
   ⟨State.reset, 0, by and_intros <;> decide +kernel⟩⟩

theorem test_witness_ModuleCommands :
    (∃ (s : State) (mb : Fin 16) (c : Cmd) (n : Nat) (p : Nat) (b : Nat) (o : Nat) (k : Nat), (Starts s mb 0x0320 c) ∧ (n < 32) ∧ (p < 256) ∧
      (b < 256) ∧ (o < 256) ∧ (1 ≤ k) ∧ (k ≤ 128) ∧ (o + k ≤ 256) ∧ ((s.optic n).holdoff = false)) ∧
    (∃ (s : State) (mb : Fin 16) (c : Cmd) (n : Nat) (p : Nat) (b : Nat) (o : Nat) (d : List Byte), (Starts s mb 0x0321 c) ∧ (n < 32) ∧ (p < 256) ∧
      (b < 256) ∧ (o < 256) ∧ (d ≠ []) ∧ (d.length ≤ 8) ∧ (o + d.length ≤ 256) ∧ ((s.optic n).holdoff = false) ∧ (treeEnabled s n = false)) ∧
    (∃ (s : State) (mb : Fin 16) (c : Cmd) (n : Nat), (Starts s mb 0x0330 c) ∧ (n < 8192) ∧ ((s.term n).state = .operation) ∧
      (s.getN .RSSI_LOC (s.term n).chan ≠ 0)) ∧
    (∃ (s : State) (mb : Fin 16) (c : Cmd) (n : Nat), (Starts s mb 0x0310 c) ∧ (n < 8192) ∧ ((s.bm n).valid = true)) ∧
    (∃ (s : State) (mb : Fin 16) (c : Cmd) (n : Nat), (Starts s mb 0x0311 c) ∧ (n < 8192) ∧ ((s.bm n).valid = true)) ∧
    (∃ (s : State) (mb : Fin 16) (c : Cmd) (n : Nat), (Starts s mb 0x0310 c) ∧ (8192 ≤ n)) ∧
    (∃ (s : State) (mb : Fin 16) (c : Cmd) (n : Nat), (Starts s mb 0x0310 c) ∧ (n < 8192) ∧ ((s.bm n).valid = false)) ∧
    (∃ (s : State) (mb : Fin 16) (c : Cmd) (n : Nat), (Starts s mb 0x0311 c) ∧ (n < 8192) ∧ ((s.bm n).valid = false)) ∧
    (∃ (s : State) (mb : Fin 16) (c : Cmd) (n : Nat) (p : Nat) (b : Nat) (o : Nat) (d : List Byte), (Starts s mb 0x0321 c) ∧ (n < 32) ∧ (p < 256) ∧
      (b < 256) ∧ (o < 256) ∧ (d ≠ []) ∧ (d.length ≤ 8) ∧ (o + d.length ≤ 256) ∧ (treeEnabled s n = true) ∧
      (protectedBytes (s.optic n).managed p o d.length = true)) :=
  ⟨⟨(hosted State.reset (cmdOf 0x0320)), 0, (cmdOf 0x0320), (31), (255), (255), (128), (128), ⟨rfl, rfl, by and_intros <;> decide +kernel⟩,
    by and_intros <;> decide +kernel⟩,
   ⟨(hosted State.reset (cmdOf 0x0321)), 0, (cmdOf 0x0321), (31), (255), (255), (248), (List.replicate 8 1), ⟨rfl, rfl, by and_intros <;> decide +kernel⟩, by and_intros <;> decide +kernel⟩,
   ⟨(hosted ((State.reset.setTerm 8191 { state := .operation }).setPar .RSSI_LOC 0 1) (cmdOf 0x0330)), 0, (cmdOf 0x0330), (8191), ⟨rfl, rfl,
    by and_intros <;> decide +kernel⟩, by and_intros <;> decide +kernel⟩,
   ⟨(hosted (State.reset.setBm 8191 { valid := true }) (cmdOf 0x0310)), 0, (cmdOf 0x0310), (8191), ⟨rfl, rfl, by and_intros <;> decide +kernel⟩,
    by and_intros <;> decide +kernel⟩,
   ⟨(hosted (State.reset.setBm 8191 { valid := true }) (cmdOf 0x0311)), 0, (cmdOf 0x0311), (8191), ⟨rfl, rfl, by and_intros <;> decide +kernel⟩,
    by and_intros <;> decide +kernel⟩,
   ⟨(hosted State.reset (cmdOf 0x0310)), 0, (cmdOf 0x0310), (8192), ⟨rfl, rfl, by and_intros <;> decide +kernel⟩, by decide +kernel⟩,
   ⟨(hosted State.reset (cmdOf 0x0310)), 0, (cmdOf 0x0310), 0, ⟨rfl, rfl, by and_intros <;> decide +kernel⟩, by and_intros <;> decide +kernel⟩,
   ⟨(hosted State.reset (cmdOf 0x0311)), 0, (cmdOf 0x0311), 0, ⟨rfl, rfl, by and_intros <;> decide +kernel⟩, by and_intros <;> decide +kernel⟩,
   ⟨(hosted (State.reset.setChan 0 { enabled := true }) (cmdOf 0x0321)), 0, (cmdOf 0x0321), 0, 0, 0, (26), ([1]), ⟨rfl, rfl, by and_intros <;> decide +kernel⟩, by and_intros <;> decide +kernel⟩⟩

theorem test_witness_FramingRows :
    (∃ (s : State) (g : Nat), (s.pon.tl.next = some g)) ∧
    (∃ (s : State), (s.pon.tl.next = none)) ∧
    (∃ (s : State), (s.clk.ref0 = true) ∧ (s.clk.ref1 = true) ∧ (s.clk.selected = false)) ∧
    (∃ (s : State), (s.clk.eth = true) ∧ (s.clk.ref0 = false) ∧ (s.clk.ref1 = false)) ∧
    (∃ (s : State), (s.clk.ref0 = false) ∧ (s.clk.ref1 = false) ∧ (s.clk.selected = false) ∧ (s.power.calDeferred = true)) ∧
    (∃ (s : State) (c : Fin 64) (x : DsSdu) (l : List DsSdu), ((s.chan c).framer.carry = none) ∧ ((s.chan c).framer.express = x :: l) ∧
      ((s.chan c).framer.idleOnly = false) ∧ (sends s c = true) ∧ ((s.gem x.gem).cipher = 0) ∧ (x.frame.len + 8 ≤ (s.chan c).framer.space)) ∧
    (∃ (s : State) (c : Fin 64), ((s.chan c).stop = .afterFrame)) :=
  ⟨⟨{ State.reset with pon.tl.next := some 9 }, (9), by decide +kernel⟩,
   ⟨State.reset, by decide +kernel⟩,
   ⟨{ State.reset with clk.ref0 := true, clk.ref1 := true }, by and_intros <;> decide +kernel⟩,
   ⟨State.reset, by and_intros <;> decide +kernel⟩,
   ⟨{ State.reset with power.calDeferred := true }, by and_intros <;> decide +kernel⟩,
   ⟨((State.reset.setChan 0 { enabled := true, framer := { express := [⟨0, { id := 1, len := 64 }, 0, true⟩], space := 1000, idleOnly := false } }).setToken 0 { held := true }), 0, (⟨0, { id := 1, len := 64 }, 0, true⟩), [], by and_intros <;> decide +kernel⟩,
   ⟨(State.reset.setChan 0 { stop := .afterFrame }), 0, by decide +kernel⟩⟩

theorem test_witness_DeviceTimeRows :
    (∃ (s : State) (x : Nat) (n : Nat), (inReset s = false) ∧ (s.pon.tod.state = .free) ∧ (s.pon.tod.named = some n) ∧
      (let e : Int := ((x - s.getN .TOD_PPS_DELAY : Nat) : Int) - n * sec9
    (e.natAbs ≤ s.getN .TOD_STEP_LIMIT))) ∧
    (∃ (s : State) (x : Nat), (inReset s = false) ∧ (s.pon.tod.state = .free) ∧ (s.pon.tod.named = none)) ∧
    (∃ (s : State), (s.pon.tod.state = .locked) ∧ (s.pon.tod.missing = 1)) ∧
    (∃ (s : State), (s.pon.tod.state = .locked) ∧ (s.pon.tod.missing = 0)) ∧
    (∃ (s : State) (bs : List Byte) (e : Nat), (inReset s = false) ∧ (bs.length = 16) ∧ (byteAt bs 0 = 0xC5) ∧ (byteAt bs 1 = 0x3A) ∧
      (crcBytes 16 0x1021 0xFFFF ((bs.drop 2).take 12) = beNat (bs.drop 14)) ∧ (s.pon.tod.lastEdge = some e) ∧ (e + 10000000 ≤ s.now) ∧
      (s.now ≤ e + 900000000) ∧ (byteAt bs 2 = 1) ∧ (bit (byteAt bs 3) 7 = true) ∧ (s.pon.tod.state = .free)) ∧
    (∃ (s : State) (bs : List Byte), (inReset s = false) ∧ (bs.length = 16) ∧ (byteAt bs 0 = 0xC5) ∧ (byteAt bs 1 = 0x3A) ∧
      (crcBytes 16 0x1021 0xFFFF ((bs.drop 2).take 12) ≠ beNat (bs.drop 14))) :=
  ⟨⟨{ State.reset with pon.tod.named := some 3 }, (3000000000), (3), by and_intros <;> decide +kernel⟩,
   ⟨State.reset, 0, by and_intros <;> decide +kernel⟩,
   ⟨{ State.reset with pon.tod.state := .locked, pon.tod.missing := 1 }, by and_intros <;> decide +kernel⟩,
   ⟨{ State.reset with pon.tod.state := .locked }, by and_intros <;> decide +kernel⟩,
   ⟨{ State.reset with pon.tod.lastEdge := some 0, time.dev := 10000000 * 2 ^ 32 }, (todGood), 0, by and_intros <;> decide +kernel⟩,
   ⟨State.reset, ([0xC5, 0x3A] ++ List.replicate 14 0), by and_intros <;> decide +kernel⟩⟩

theorem test_witness_ChannelCommands :
    (∃ (s : State) (mb : Fin 16) (c : Cmd) (n : Nat), (Starts s mb 0x0401 c) ∧ (n < 64) ∧ ((s.chan n).enabled = true)) ∧
    (∃ (s : State) (mb : Fin 16) (c : Cmd) (n : Nat), (Starts s mb 0x0401 c) ∧ (n < 64) ∧ ((s.chan n).enabled = false) ∧
      (channelUnderTest s n = false) ∧ (s.power.ponCalibrated = true) ∧ (s.clk.ref0 = true) ∧ ((s.ln (txLane n)).failed = false)) ∧
    (∃ (s : State) (mb : Fin 16) (c : Cmd) (n : Nat), (Starts s mb 0x0402 c) ∧ (n < 64) ∧ ((s.chan n).enabled = true) ∧ (c.flags = 0) ∧
      (termsOf s n (fun t => t.state == .operation) = [])) ∧
    (∃ (s : State) (mb : Fin 16) (c : Cmd) (n : Nat), (Starts s mb 0x0402 c) ∧ (n < 64) ∧ ((s.chan n).enabled = true) ∧ (c.flags = 0) ∧
      (termsOf s n (fun t => t.state == .operation) ≠ [])) ∧
    (∃ (s : State) (mb : Fin 16) (c : Cmd), (Starts s mb 0x0410 c)) ∧
    (∃ (s : State) (mb : Fin 16) (c : Cmd) (n : Nat), (Starts s mb 0x0402 c) ∧ (n < 64) ∧ ((s.chan n).enabled = true) ∧ (c.flags = 1) ∧
      (sends s n = true)) :=
  ⟨⟨(hosted (State.reset.setChan 63 { enabled := true }) (cmdOf 0x0401)), 0, (cmdOf 0x0401), (63), ⟨rfl, rfl, by and_intros <;> decide +kernel⟩,
    by and_intros <;> decide +kernel⟩,
   ⟨(hosted { State.reset with power.ponCalibrated := true, clk.ref0 := true } (cmdOf 0x0401)), 0, (cmdOf 0x0401), (63), ⟨rfl, rfl, by and_intros <;> decide +kernel⟩, by and_intros <;> decide +kernel⟩,
   ⟨(hosted (State.reset.setChan 63 { enabled := true }) (cmdOf 0x0402)), 0, (cmdOf 0x0402), (63), ⟨rfl, rfl, by and_intros <;> decide +kernel⟩,
    by and_intros <;> decide +kernel⟩,
   ⟨(hosted ((State.reset.setChan 63 { enabled := true }).setTerm 5 { state := .operation, chan := 63 }) (cmdOf 0x0402)), 0, (cmdOf 0x0402), (63),
    ⟨rfl, rfl, by and_intros <;> decide +kernel⟩, by and_intros <;> decide +kernel⟩,
   ⟨(hosted State.reset (cmdOf 0x0410)), 0, (cmdOf 0x0410), ⟨rfl, rfl, by and_intros <;> decide +kernel⟩⟩,
   ⟨(hosted ((State.reset.setChan 0 { enabled := true }).setToken 0 { held := true }) (cmdOf 0x0402 [] 1)), 0, (cmdOf 0x0402 [] 1), 0, ⟨rfl, rfl,
    by and_intros <;> decide +kernel⟩, by and_intros <;> decide +kernel⟩⟩

theorem test_witness_ActivationRows :
    (∃ (s : State) (c : Fin 64), ((s.chan c).enabled = true) ∧ (runs s (c.val / 2) = true)) ∧
    (∃ (s : State) (c : Fin 64) (w : Window) (l : List Candidate) (sn : Nat) (mic : Nat) (a : Nat), (begunWindow s c .discovery = some w) ∧
      ((huntInterval s c onuAll w l).found = none)) ∧
    (∃ (s : State) (c : Fin 64) (w : Window) (l : List Candidate) (sn : Nat) (a : Nat) (t : Nat) (o : Nat), (begunWindow s c .discovery = some w) ∧
      (w.readmit = false) ∧ (huntInterval s c onuAll w l).found ≠ none ∧ (runs s (c.val / 2) = true) ∧ (findSerial s sn = some t) ∧
      ((s.term t).chan = c.val) ∧ ((s.term t).deact = none) ∧ ((s.term t).state = .absent) ∧ ((s.term t).blocked = false) ∧
      ((s.term t).readmit = none) ∧ ((s.term t).onlyRate = none) ∧ (pickOnu s t = some o)) ∧
    (∃ (s : State) (n : Fin 8192) (w : Window) (l : List Candidate) (m : Nat) (id : List Byte) (x : Option Nat), let c := (s.term n).chan
    (begunWindow s c (.ranging n) = some w) ∧ (huntInterval s c ((s.term n).onu.getD onuAll) w l).found ≠ none ∧ ((s.term n).state = .ranging) ∧
      ((s.term n).deact = none) ∧ ((s.term n).result = none) ∧ (runs s (c / 2) = true) ∧
      (rangeOut ((s.huntCounts c (huntInterval s c ((s.term n).onu.getD onuAll) w l)).setTerm n
      { s.term n with measRt := m, regId := id.take 36, respTime := (x.map (· % 65536)).getD 35000 }) n m = false)) ∧
    (∃ (s : State) (n : Fin 8192), ((s.term n).state = .ranging) ∧ ((s.term n).deact = none) ∧ ((s.term n).result = none) ∧
      (runs s ((s.term n).chan / 2) = true) ∧ (rogueOverlaps s n = false) ∧ ((s.term n).attempts + 1 < (s.term n).maxAttempts)) ∧
    (∃ (s : State) (n : Fin 8192), ((s.term n).state = .ranging) ∧ ((s.term n).deact = none) ∧ ((s.term n).result = none)) ∧
    (∃ (s : State) (n : Fin 8192), ((s.term n).state = .ranging) ∧ ((s.term n).deact = none) ∧ ((s.term n).result = none) ∧
      (runs s ((s.term n).chan / 2) = true)) ∧
    (∃ (s : State) (n : Fin 8192) (u : DriftUpdate), ((s.term n).update = some u) ∧ (u.again = false) ∧ (runs s ((s.term n).chan / 2) = true)) ∧
    (∃ (s : State) (n : Fin 8192) (u : DriftUpdate), ((s.term n).update = some u) ∧ (u.again = true) ∧ (runs s ((s.term n).chan / 2) = true)) ∧
    (∃ (s : State) (n : Fin 8192), ((s.term n).state = .lost) ∧ (runs s ((s.term n).chan / 2) = true)) ∧
    (∃ (s : State) (n : Fin 8192) (f : LaneSettings), ((s.pon.line.get n.val).rx = none)) ∧
    (∃ (s : State) (n : Fin 8192) (x : BurstRx) (f : LaneSettings), ((s.pon.line.get n.val).rx = some x) ∧ (burstHeld (s.term n) = true) ∧
      (recovering s (s.term n).chan = true)) ∧
    (∃ (s : State) (n : Fin 8192) (x : BurstRx) (f : LaneSettings), ((s.pon.line.get n.val).rx = some x) ∧ (burstHeld (s.term n) = true) ∧
      (recovering s (s.term n).chan = false)) ∧
    (∃ (s : State) (c : Fin 64) (l : List Candidate) (sn : Nat) (mic : Nat) (a : Nat), (begunWindow s c .discovery = none)) :=
  ⟨⟨((State.reset.setChan 0 { enabled := true }).setToken 0 { held := true }), 0, by and_intros <;> decide +kernel⟩,
   ⟨(State.reset.setChan 0 { enabled := true, maps := { calendar := [{ kind := .discovery, rate := 0, frame := 0, start := 0, from_ := 0, to_ := 1000 }] } }), 0, ({ kind := .discovery, rate := 0, frame := 0, start := 0, from_ := 0, to_ := 1000 }), [], 0, 0, 0, by and_intros <;> decide +kernel⟩,
   ⟨(((State.reset.setChan 0 { enabled := true, maps := { calendar := [{ kind := .discovery, rate := 0, frame := 0, start := 0, from_ := 0, to_ := 1000 }] } }).setToken 0 { held := true }).setTerm 7 { state := .absent, serial := 42 }), 0, ({ kind := .discovery, rate := 0, frame := 0, start := 0, from_ := 0, to_ := 1000 }), ([⟨0, 0, some 1023⟩]), (42), 0, (7), 0, by and_intros <;> decide +kernel⟩,
   ⟨((((State.reset.setChan 0 { enabled := true, maps := { calendar := [{ kind := .ranging 0, rate := 0, frame := 0, start := 0, from_ := 0, to_ := 1000 }] } }).setToken 0 { held := true }).setTerm 0 { state := .ranging }).setPar .RANGE_TEQD 0 0), 0, ({ kind := .ranging 0, rate := 0, frame := 0, start := 0, from_ := 0, to_ := 1000 }), ([⟨0, 0, some 1023⟩]), (0), [], none, by and_intros <;> decide +kernel⟩,
   ⟨((State.reset.setToken 0 { held := true }).setTerm 0 { state := .ranging, maxAttempts := 8 }), 0, by and_intros <;> decide +kernel⟩,
   ⟨(State.reset.setTerm 0 { state := .ranging }), 0, by and_intros <;> decide +kernel⟩,
   ⟨((State.reset.setToken 0 { held := true }).setTerm 0 { state := .ranging }), 0, by and_intros <;> decide +kernel⟩,
   ⟨((State.reset.setToken 0 { held := true }).setTerm 0 { state := .operation, update := some ⟨1, 0, 0, false⟩ }), 0, (⟨1, 0, 0, false⟩),
    by and_intros <;> decide +kernel⟩,
   ⟨((State.reset.setToken 0 { held := true }).setTerm 0 { state := .operation, update := some ⟨1, 0, 0, true⟩ }), 0, (⟨1, 0, 0, true⟩),
    by and_intros <;> decide +kernel⟩,
   ⟨((State.reset.setToken 0 { held := true }).setTerm 0 { state := .lost }), 0, by and_intros <;> decide +kernel⟩,
   ⟨(State.reset.setTerm 0 { state := .operation }), 0, default, by decide +kernel⟩,
   ⟨({ (State.reset.setTerm 0 { state := .operation }) with pon.line := [(0, { rx := some ({ frame := 0, start := 0, pos := 0, arrival := 0, scheduled := true }) })] }.setUnit (regionAddr 0) { state := some .iced }), 0, ({ frame := 0, start := 0, pos := 0, arrival := 0, scheduled := true }), default, by and_intros <;> decide +kernel⟩,
   ⟨{ (State.reset.setTerm 0 { state := .operation }) with pon.line := [(0, { rx := some ({ frame := 0, start := 0, pos := 0, arrival := 0, scheduled := true }) })] }, 0, ({ frame := 0, start := 0, pos := 0, arrival := 0, scheduled := true }), default, by and_intros <;> decide +kernel⟩,
   ⟨State.reset, 0, [], 0, 0, 0, by decide +kernel⟩⟩

theorem test_witness_RogueRows :
    (∃ (s : State) (c : Fin 64) (w : Bool) (l : Option (Fin 8192)) (n : Nat), ((s.rogue c).phase = 1) ∧ ((s.rogue c).collected.length < 16)) ∧
    (∃ (s : State) (c : Fin 64) (x : Suspect), ((s.rogue c).phase = 1) ∧
      ((named (s.rogue c).collected).find? (fun t => decide (12 ≤ trailing (s.rogue c).collected t.term)) = some x)) ∧
    (∃ (s : State) (c : Fin 64) (n : Nat), ((s.rogue c).probesLeft = n + 2)) ∧
    (∃ (s : State) (c : Fin 64), ((s.rogue c).phase = 3) ∧ ((s.rogue c).probesLeft = 0) ∧ ((s.rogue c).step = some .all) ∧ ((s.rogue c).lit = 0)) ∧
    (∃ (s : State) (n : Fin 8192) (k : Nat) (o : Nat), ((s.term n).readmit = some k) ∧ ((s.term n).onu = some o) ∧ ((s.term n).state = .absent) ∧
      (stepping s n = false)) ∧
    (∃ (s : State) (mb : Fin 16) (c : Cmd) (n : Nat), (Starts s mb 0x0530 c) ∧ (n < 64) ∧ ((s.rogue n).phase = 0) ∧ ((s.chan n).enabled = true) ∧
      (runs s (n / 2) = true) ∧ (rogueCount (begun s mb c) < 16)) ∧
    (∃ (s : State) (mb : Fin 16) (c : Cmd) (n : Nat), (Starts s mb 0x0531 c) ∧ (n < 64)) ∧
    (∃ (s : State) (mb : Fin 16) (c : Cmd) (n : Nat), (Starts s mb 0x0532 c) ∧ (n < 64) ∧ ((s.rogue n).phase = 0)) ∧
    (∃ (s : State) (mb : Fin 16) (c : Cmd) (n : Nat), (Starts s mb 0x0532 c) ∧ (n < 64) ∧ (s.rogue n).phase ≠ 0) ∧
    (∃ (s : State) (mb : Fin 16) (c : Cmd) (n : Nat), (Starts s mb 0x0520 c) ∧ (n < 64)) :=
  ⟨⟨(State.reset.setRogue 0 { phase := 1 }), 0, false, none, 0, by and_intros <;> decide +kernel⟩,
   ⟨(State.reset.setRogue 0 { phase := 1, collected := List.replicate 12 ⟨0, some 3, 0, 0⟩ }), 0, (⟨3, 12, false⟩), by and_intros <;> decide +kernel⟩,
   ⟨(State.reset.setRogue 0 { probesLeft := 2 }), 0, 0, by decide +kernel⟩,
   ⟨(State.reset.setRogue 0 { phase := 3, step := some .all }), 0, by and_intros <;> decide +kernel⟩,
   ⟨(State.reset.setTerm 0 { state := .absent, readmit := some 4, onu := some 9 }), 0, (4), (9), by and_intros <;> decide +kernel⟩,
   ⟨(hosted ((State.reset.setChan 1 { enabled := true }).setToken 0 { held := true }) (cmdOf 0x0530)), 0, (cmdOf 0x0530), (1), ⟨rfl, rfl,
    by and_intros <;> decide +kernel⟩, by and_intros <;> decide +kernel⟩,
   ⟨(hosted State.reset (cmdOf 0x0531)), 0, (cmdOf 0x0531), 0, ⟨rfl, rfl, by and_intros <;> decide +kernel⟩, by decide +kernel⟩,
   ⟨(hosted State.reset (cmdOf 0x0532)), 0, (cmdOf 0x0532), 0, ⟨rfl, rfl, by and_intros <;> decide +kernel⟩, by and_intros <;> decide +kernel⟩,
   ⟨(hosted (State.reset.setRogue 0 { phase := 1 }) (cmdOf 0x0532)), 0, (cmdOf 0x0532), 0, ⟨rfl, rfl, by and_intros <;> decide +kernel⟩,
    by and_intros <;> decide +kernel⟩,
   ⟨(hosted State.reset (cmdOf 0x0520)), 0, (cmdOf 0x0520), 0, ⟨rfl, rfl, by and_intros <;> decide +kernel⟩, by decide +kernel⟩⟩

theorem test_witness_TerminalCommands :
    (∃ (s : State) (mb : Fin 16) (c : Cmd) (n : Nat) (k : Nat) (sn : Nat) (a : Nat) (g : Nat), (Starts s mb 0x0501 c) ∧ (n < 8192) ∧ (k < 64) ∧
      (sn < 2 ^ 64) ∧ (a < 32768) ∧ (g < 131072) ∧ ((s.term n).state = .free) ∧ (findSerial s sn = none) ∧ ((s.alloc a).valid = false) ∧
      ((s.gem g).valid = false) ∧ (s.terms.keys (fun _ v => v.state != .free && (v.defAlloc == a || v.omciGem == g)) = []) ∧
      (treeTerms s (k / 2) < 512) ∧ (regionTerms s (k / 8) < 2048) ∧ (regionAllocs s (k / 8) < 8192) ∧ (regionGems s (k / 8) < 32768)) ∧
    (∃ (s : State) (mb : Fin 16) (c : Cmd) (n : Nat), (Starts s mb 0x0502 c) ∧ (n < 8192) ∧ ((s.term n).state = .absent) ∧ (stepping s n = false) ∧
      (otherMaps s n = false)) ∧
    (∃ (s : State) (mb : Fin 16) (c : Cmd) (n : Nat), (Starts s mb 0x0503 c) ∧ (n < 8192) ∧ ((s.term n).state = .operation) ∧
      (stepping s n = false) ∧ ((((begun s mb c).deactivate n 1).term n).deact.isSome = true)) ∧
    (∃ (s : State) (mb : Fin 16) (c : Cmd) (n : Nat), (Starts s mb 0x0503 c) ∧ (n < 8192) ∧ ((s.term n).state = .absent) ∧ (stepping s n = false)) ∧
    (∃ (s : State) (mb : Fin 16) (c : Cmd) (n : Nat), (Starts s mb 0x0504 c) ∧ (n < 8192) ∧ (s.term n).state ≠ .free ∧
      (s.term n).state ≠ .disabled ∧ (stepping s n = false) ∧
      (let t := ((begun s mb c).disableTerm n).queuePloam (s.term n).chan true { kind := .disableSn false, term := some n }
    (takesPloam t (s.term n).chan = true))) ∧
    (∃ (s : State) (mb : Fin 16) (c : Cmd) (n : Nat), (Starts s mb 0x0505 c) ∧ (n < 8192) ∧ ((s.term n).state = .disabled) ∧
      (stepping s n = false) ∧ (let k := (s.term n).chan
    let t := ((begun s mb c).putTerm n { s.term n with state := .absent }).queuePloam k true { kind := .disableSn true, term := some n }
    let t := t.setRogue k { t.rogue k with disabled := (t.rogue k).disabled.filter (· != n) }
    (takesPloam t k = true))) ∧
    (∃ (s : State) (mb : Fin 16) (c : Cmd) (n : Nat), (Starts s mb 0x0506 c) ∧ (n < 8192) ∧ (s.term n).state ≠ .free) ∧
    (∃ (s : State) (mb : Fin 16) (c : Cmd) (n : Nat), (Starts s mb 0x0507 c) ∧ (n < 8192) ∧ (inService (s.term n) = true) ∧ (stepping s n = false)) ∧
    (∃ (s : State) (mb : Fin 16) (c : Cmd) (n : Nat), ((s.mbox mb).cmd = some c) ∧ (c.wait = some (.termStep n)) ∧ (c.started = false)) ∧
    (∃ (s : State) (mb : Fin 16) (c : Cmd) (n : Nat), (Starts s mb 0x0503 c) ∧ (n < 8192) ∧ (s.term n).state ≠ .free ∧ (stepping s n = true)) :=
  ⟨⟨(hosted State.reset (cmdOf 0x0501)), 0, (cmdOf 0x0501), (8191), (63), 0, (32767), (131071), ⟨rfl, rfl, by and_intros <;> decide +kernel⟩,
    by and_intros <;> decide +kernel⟩,
   ⟨(hosted (State.reset.setTerm 0 { state := .absent }) (cmdOf 0x0502)), 0, (cmdOf 0x0502), 0, ⟨rfl, rfl, by and_intros <;> decide +kernel⟩,
    by and_intros <;> decide +kernel⟩,
   ⟨(hosted (((State.reset.setToken 0 { held := true }).setChan 0 { enabled := true }).setTerm 0 { state := .operation, onu := some 1 }) (cmdOf 0x0503)), 0, (cmdOf 0x0503), 0, ⟨rfl, rfl, by and_intros <;> decide +kernel⟩, by and_intros <;> decide +kernel⟩,
   ⟨(hosted (State.reset.setTerm 0 { state := .absent }) (cmdOf 0x0503)), 0, (cmdOf 0x0503), 0, ⟨rfl, rfl, by and_intros <;> decide +kernel⟩,
    by and_intros <;> decide +kernel⟩,
   ⟨(hosted (((State.reset.setToken 0 { held := true }).setChan 0 { enabled := true }).setTerm 0 { state := .absent }) (cmdOf 0x0504)), 0,
    (cmdOf 0x0504), 0, ⟨rfl, rfl, by and_intros <;> decide +kernel⟩, by and_intros <;> decide +kernel⟩,
   ⟨(hosted (((State.reset.setToken 0 { held := true }).setChan 0 { enabled := true }).setTerm 0 { state := .disabled }) (cmdOf 0x0505)), 0,
    (cmdOf 0x0505), 0, ⟨rfl, rfl, by and_intros <;> decide +kernel⟩, by and_intros <;> decide +kernel⟩,
   ⟨(hosted (State.reset.setTerm 0 { state := .absent }) (cmdOf 0x0506)), 0, (cmdOf 0x0506), 0, ⟨rfl, rfl, by and_intros <;> decide +kernel⟩,
    by and_intros <;> decide +kernel⟩,
   ⟨(hosted (State.reset.setTerm 0 { state := .operation }) (cmdOf 0x0507)), 0, (cmdOf 0x0507), 0, ⟨rfl, rfl, by and_intros <;> decide +kernel⟩,
    by and_intros <;> decide +kernel⟩,
   ⟨(hosted State.reset { cmdOf 0x0503 with wait := some (.termStep 3) }), (0), ({ cmdOf 0x0503 with wait := some (.termStep 3) }), (3),
    by and_intros <;> decide +kernel⟩,
   ⟨(hosted ((State.reset.setTerm 0 { state := .operation }).setChan 0 { urgent := [{ kind := .deactivate 1, term := some 0 }] }) (cmdOf 0x0503)), 0,
    (cmdOf 0x0503), 0, ⟨rfl, rfl, by and_intros <;> decide +kernel⟩, by and_intros <;> decide +kernel⟩⟩

theorem test_witness_MapCommands :
    (∃ (s : State) (mb : Fin 16) (c : Cmd) (a : Nat) (k : Nat) (id : Nat) (n : Nat), (Starts s mb 0x0510 c) ∧ (a < 32768) ∧ (k < 64) ∧ (1024 ≤ id) ∧
      (id ≤ 16383) ∧ (n < 8192) ∧ (s.term n).state ≠ .free ∧ ((s.term n).chan = k) ∧ (stepping s n = false) ∧ ((s.alloc a).valid = false) ∧
      (defaultOfSome s a = false) ∧ (s.dba.allocs.keys (fun _ v => v.valid && v.chan == k && v.allocId == id) = []) ∧
      (regionAllocs s (k / 8) < 8192)) ∧
    (∃ (s : State) (mb : Fin 16) (c : Cmd) (a : Nat), (Starts s mb 0x0511 c) ∧ (a < 32768) ∧ (defaultOfSome s a = false) ∧
      ((s.alloc a).valid = true) ∧ (stepping s (s.alloc a).term = false)) ∧
    (∃ (s : State) (mb : Fin 16) (c : Cmd) (g : Nat) (e : GemEntry), (Starts s mb 0x0512 c) ∧ (g < 131072) ∧ (e.mcast = true) ∧
      ((s.gem g).valid = false) ∧ (let f := { e with valid := true, dropped := 0, term := 0 }
    (gemCheck f (s.term 0) = none) ∧ (omciOfSome s g = false) ∧ (gemOfPort s e.chan e.port = none) ∧
      (termsOf s e.chan (fun v => v.wantOnu == some e.port && v.onu != some e.port) = []) ∧ (regionGems s (regionOfChan e.chan) < 32768) ∧
      (tapesOk ((begun s mb c).setGem g f) (regionOfChan e.chan) = true))) ∧
    (∃ (s : State) (mb : Fin 16) (c : Cmd) (g : Nat), (Starts s mb 0x0513 c) ∧ (g < 131072) ∧ (omciOfSome s g = false) ∧ ((s.gem g).valid = true) ∧
      ((s.gem g).mcast = true)) ∧
    (∃ (s : State) (mb : Fin 16) (c : Cmd) (a : Nat) (k : Contract), (Starts s mb 0x0701 c) ∧ (a < 32768) ∧ (contractOk k = true) ∧
      ((s.alloc a).valid = false)) ∧
    (∃ (s : State) (mb : Fin 16) (c : Cmd) (a : Nat), (Starts s mb 0x0702 c) ∧ (a < 32768)) ∧
    (∃ (s : State) (mb : Fin 16) (c : Cmd) (a : Nat), (Starts s mb 0x0720 c) ∧ (a < 32768)) ∧
    (∃ (s : State) (mb : Fin 16) (c : Cmd) (n : Nat), (Starts s mb 0x0730 c) ∧ (n < 64)) ∧
    (∃ (s : State) (mb : Fin 16) (c : Cmd) (a : Nat), (Starts s mb 0x0711 c) ∧ (a < 32768)) ∧
    (∃ (s : State) (mb : Fin 16) (c : Cmd), (Starts s mb 0x0710 c) ∧ (preannEntries c ≠ []) ∧ ((preannEntries c).length ≤ 254) ∧
      (c.body.length % 16 = 0) ∧ (let r := runEntries preannEntry (begun s mb c) 0 (preannEntries c)
    (r.2.2.1 = none))) :=
  ⟨⟨(hosted (State.reset.setTerm 0 { state := .absent, chan := 63 }) (cmdOf 0x0510)), 0, (cmdOf 0x0510), (32767), (63), (1024), 0, ⟨rfl, rfl,
    by and_intros <;> decide +kernel⟩, by and_intros <;> decide +kernel⟩,
   ⟨(hosted (State.reset.setAlloc 5 { valid := true }) (cmdOf 0x0511)), 0, (cmdOf 0x0511), (5), ⟨rfl, rfl, by and_intros <;> decide +kernel⟩,
    by and_intros <;> decide +kernel⟩,
   ⟨(hosted State.reset (cmdOf 0x0512)), 0, (cmdOf 0x0512), 0, ({ mcast := true, dir := 1, port := 1021 }), ⟨rfl, rfl, by and_intros <;> decide +kernel⟩, by and_intros <;> decide +kernel⟩,
   ⟨(hosted (State.reset.setGem 7 { valid := true, mcast := true }) (cmdOf 0x0513)), 0, (cmdOf 0x0513), (7), ⟨rfl, rfl, by and_intros <;> decide +kernel⟩, by and_intros <;> decide +kernel⟩,
   ⟨(hosted State.reset (cmdOf 0x0701)), 0, (cmdOf 0x0701), 0, default, ⟨rfl, rfl, by and_intros <;> decide +kernel⟩, by and_intros <;> decide +kernel⟩,
   ⟨(hosted State.reset (cmdOf 0x0702)), 0, (cmdOf 0x0702), 0, ⟨rfl, rfl, by and_intros <;> decide +kernel⟩, by decide +kernel⟩,
   ⟨(hosted State.reset (cmdOf 0x0720)), 0, (cmdOf 0x0720), 0, ⟨rfl, rfl, by and_intros <;> decide +kernel⟩, by decide +kernel⟩,
   ⟨(hosted State.reset (cmdOf 0x0730)), 0, (cmdOf 0x0730), 0, ⟨rfl, rfl, by and_intros <;> decide +kernel⟩, by decide +kernel⟩,
   ⟨(hosted State.reset (cmdOf 0x0711)), 0, (cmdOf 0x0711), 0, ⟨rfl, rfl, by and_intros <;> decide +kernel⟩, by decide +kernel⟩,
   ⟨(hosted State.reset (cmdOf 0x0710 (bodyOf [0, 2, 0, 0]))), 0, (cmdOf 0x0710 (bodyOf [0, 2, 0, 0])), ⟨rfl, rfl, by and_intros <;> decide +kernel⟩, by and_intros <;> decide +kernel⟩⟩

theorem test_witness_UpstreamRows :
    (∃ (s : State) (n : Fin 8192) (b : UsBurst) (k : Candidate), ((hunt s (s.term n) b.cands).found = some k) ∧
      (recovering s (s.term n).chan = false) ∧ (burstHeld (s.term n) = true) ∧ (b.gasp = false)) ∧
    (∃ (s : State) (n : Fin 8192) (b : UsBurst), ((hunt s (s.term n) b.cands).found.isSome = true) ∧ (burstHeld (s.term n) = false)) ∧
    (∃ (s : State) (n : Fin 8192) (l : List Candidate), ((hunt s (s.term n) l).found = none) ∧ (recovering s (s.term n).chan = false) ∧
      (burstHeld (s.term n) = true) ∧ ((s.ln (rxLane (s.term n).chan)).late = false) ∧ (inProbe s (s.term n).chan = false)) ∧
    (∃ (s : State) (n : Fin 8192) (info : Nat) (it : Nat) (errs : List Byte) (x : BurstRx), ((s.line n).rx = some x) ∧
      (burstHeld (s.term n) = true) ∧ (recovering s (s.term n).chan = false) ∧ ((s.line n).sd.rule.isSome = true) ∧
      ((s.takeSpoiled 0 (rxLane (s.term n).chan)).1 = false) ∧ (decodes (s.term n).chan (s.term n).rate errs it = true)) ∧
    (∃ (s : State) (n : Fin 8192) (info : Nat) (it : Nat) (errs : List Byte) (x : BurstRx), ((s.line n).rx = some x) ∧
      (burstHeld (s.term n) = true) ∧ (recovering s (s.term n).chan = false) ∧ ((s.line n).sf.rule.isSome = true) ∧
      (((s.takeSpoiled 0 (rxLane (s.term n).chan)).1 || !decodes (s.term n).chan (s.term n).rate errs it) = true)) ∧
    (∃ (s : State) (n : Fin 8192) (m : List Nat) (mic : Nat) (a : Option Nat) (x : BurstRx), ((s.line n).rx = some x) ∧
      (burstHeld (s.term n) = true)) ∧
    (∃ (s : State) (n : Fin 8192) (a : Fin 32768) (at_ : Nat) (w : Nat) (x : BurstRx), ((s.line n).rx = some x) ∧ (touchesBad x at_ 4 = false) ∧
      ((s.alloc a).valid = true) ∧ ((s.alloc a).chan = (s.term n).chan) ∧ (w < 0xFFFFFF)) ∧
    (∃ (s : State) (n : Fin 8192) (a : Fin 32768) (at_ : Nat) (w : Nat) (crc : Bool) (x : BurstRx), ((s.line n).rx = some x) ∧
      ((!crc || touchesBad x at_ 4) = true)) ∧
    (∃ (s : State) (n : Fin 8192) (x : Nat) (f : Nat) (ms : Nat) (r : Nat), ((s.line n).sf.rule = some (x, f, ms, r)) ∧
      (f * 10 ^ x ≤ (s.line n).sf.bits) ∧ ((s.line n).sfOn = true) ∧ ((windowJudge (s.line n).sf (x, f, ms, r)).1 = true)) ∧
    (∃ (s : State) (n : Fin 8192) (x : Nat) (f : Nat) (ms : Nat) (r : Nat), ((s.line n).sd.rule = some (x, f, ms, r)) ∧
      (ms * msec ≤ s.up - (s.line n).sd.opened) ∧ ((s.line n).sdOn = false) ∧ ((windowJudge (s.line n).sd (x, f, ms, r)).1 = true)) :=
  ⟨⟨(State.reset.setTerm 0 { state := .operation, onu := some 5 }), 0, (⟨[⟨0, 0, some 5⟩], 0, false, 0, none⟩), (⟨0, 0, some 5⟩), by and_intros <;> decide +kernel⟩,
   ⟨(State.reset.setTerm 0 { state := .absent, onu := some 5 }), 0, (⟨[⟨0, 0, some 5⟩], 0, false, 0, none⟩), by and_intros <;> decide +kernel⟩,
   ⟨(State.reset.setTerm 0 { state := .operation }), 0, [], by and_intros <;> decide +kernel⟩,
   ⟨{ (State.reset.setTerm 0 { state := .operation }) with pon.line := [(0, { sd := { rule := some (6, 10, 100, 10) }, rx := some ({ frame := 0, start := 0, pos := 0, arrival := 0, scheduled := true }) })] }, 0, 0, (10), [], ({ frame := 0, start := 0, pos := 0, arrival := 0, scheduled := true }), by and_intros <;> decide +kernel⟩,
   ⟨{ (State.reset.setTerm 0 { state := .operation }) with pon.line := [(0, { sf := { rule := some (3, 10, 100, 10) }, rx := some ({ frame := 0, start := 0, pos := 0, arrival := 0, scheduled := true }) })] }, 0, 0, (11), [], ({ frame := 0, start := 0, pos := 0, arrival := 0, scheduled := true }), by and_intros <;> decide +kernel⟩,
   ⟨{ (State.reset.setTerm 0 { state := .operation }) with pon.line := [(0, { rx := some ({ frame := 0, start := 0, pos := 0, arrival := 0, scheduled := true }) })] }, 0, [], 0, none, ({ frame := 0, start := 0, pos := 0, arrival := 0, scheduled := true }), by and_intros <;> decide +kernel⟩,
   ⟨{ (State.reset.setAlloc 0 { valid := true }) with pon.line := [(0, { rx := some ({ frame := 0, start := 0, pos := 0, arrival := 0, scheduled := true }) })] }, 0, 0, 0, (0xFFFFFE), ({ frame := 0, start := 0, pos := 0, arrival := 0, scheduled := true }), by and_intros <;> decide +kernel⟩,
   ⟨{ State.reset with pon.line := [(0, { rx := some ({ frame := 0, start := 0, pos := 0, arrival := 0, scheduled := true }) })] }, 0, 0, 0, 0, false,
    ({ frame := 0, start := 0, pos := 0, arrival := 0, scheduled := true }), by and_intros <;> decide +kernel⟩,
   ⟨{ State.reset with pon.line := [(0, { sf := { rule := some (3, 10, 100, 10), bits := 10000, corrected := 10 }, sfOn := true })] }, 0, (3), (10),
    (100), (10), by and_intros <;> decide +kernel⟩,
   ⟨{ State.reset with pon.line := [(0, { sd := { rule := some (3, 10, 100, 10), bits := 10000, corrected := 10 } })], time.up := 100 * msec * 2 ^ 32 }, 0, (3), (10), (100), (10), by and_intros <;> decide +kernel⟩⟩

theorem test_witness_DelineationRows :
    (∃ (s : State) (n : Fin 8192) (gem : UsGem) (g : Nat) (x : BurstRx), ((s.line n).rx = some x) ∧ (x.lost.contains gem.alloc = false) ∧
      (gem.header = true) ∧ (touchesBad x gem.at_ 8 = false) ∧ (gem.idle = false) ∧ (touchesBad x (gem.at_ + 8) gem.payload.length = false) ∧
      (gem.key = 0) ∧ (gem.last = true) ∧ (gemOfPort s (s.term n).chan gem.port = some g) ∧ ((s.gem g).dir = 3) ∧ ((s.gem g).mcast = false) ∧
      ((s.gem g).term = n) ∧ ((s.gem g).cipher = 0) ∧ ((s.gem g).omci = false) ∧ (s.pon.reasm.get g = none)) ∧
    (∃ (s : State) (n : Fin 8192) (gem : UsGem) (g : Nat) (x : BurstRx) (o : Reasm), ((s.line n).rx = some x) ∧
      (x.lost.contains gem.alloc = false) ∧ (gem.header = true) ∧ (touchesBad x gem.at_ 8 = false) ∧ (gem.idle = false) ∧
      (touchesBad x (gem.at_ + 8) gem.payload.length = false) ∧ (gem.key = 0) ∧ (gem.last = false) ∧
      (gemOfPort s (s.term n).chan gem.port = some g) ∧ ((s.gem g).dir = 2) ∧ ((s.gem g).mcast = false) ∧ ((s.gem g).term = n) ∧
      ((s.gem g).cipher = 0) ∧ (s.pon.reasm.get g = some o) ∧ (o.dead = false) ∧ (let bytes := descramble (s.term n).chan (gem.at_ + 8) gem.payload
    (o.len + bytes.length ≤ o.max) ∧ (granules (o.len + bytes.length) ≤ granulesFree s (regionOfChan (s.gem g).chan) + granules o.len))) ∧
    (∃ (s : State) (n : Fin 8192) (gem : UsGem) (x : BurstRx), ((s.line n).rx = some x) ∧ (x.lost.contains gem.alloc = false) ∧
      ((!gem.header || touchesBad x gem.at_ 8) = true)) ∧
    (∃ (s : State) (n : Fin 8192) (gem : UsGem) (x : BurstRx), ((s.line n).rx = some x) ∧ (x.lost.contains gem.alloc = true)) ∧
    (∃ (s : State) (n : Fin 8192) (gem : UsGem) (x : BurstRx), ((s.line n).rx = some x) ∧ (x.lost.contains gem.alloc = false) ∧
      (gem.header = true) ∧ (touchesBad x gem.at_ 8 = false) ∧ (gem.idle = true)) ∧
    (∃ (s : State) (n : Fin 8192) (gem : UsGem) (g : Nat) (x : BurstRx), ((s.line n).rx = some x) ∧ (x.lost.contains gem.alloc = false) ∧
      (gem.header = true) ∧ (touchesBad x gem.at_ 8 = false) ∧ (gem.idle = false) ∧ (touchesBad x (gem.at_ + 8) gem.payload.length = false) ∧
      (0 < gem.key) ∧ (gemOfPort s (s.term n).chan gem.port = some g) ∧ (knownPort (s.gem g) n = true) ∧ (keyFits s (s.gem g) gem.key = true)) :=
  ⟨⟨{ (State.reset.setGem 4 { valid := true, dir := 3, port := 9 }) with pon.line := [(0, { rx := some ({ frame := 0, start := 0, pos := 0, arrival := 0, scheduled := true }) })] }, 0, ({ alloc := 5, at_ := 0, header := true, idle := false, port := 9, key := 0, last := true, id := 1, payload := [1, 2] }), (4), ({ frame := 0, start := 0, pos := 0, arrival := 0, scheduled := true }), by and_intros <;> decide +kernel⟩,
   ⟨{ { (State.reset.setGem 4 { valid := true, dir := 2, port := 9 }) with pon.line := [(0, { rx := some ({ frame := 0, start := 0, pos := 0, arrival := 0, scheduled := true }) })] } with pon.reasm := [(4, some { max := 9600, len := 2, bytes := [1, 2], last := 0 })] }, 0, ({ alloc := 5, at_ := 0, header := true, idle := false, port := 9, key := 0, last := false, id := 1, payload := [1, 2] }), (4), ({ frame := 0, start := 0, pos := 0, arrival := 0, scheduled := true }), ({ max := 9600, len := 2, bytes := [1, 2], last := 0 }), by and_intros <;> decide +kernel⟩,
   ⟨{ State.reset with pon.line := [(0, { rx := some ({ frame := 0, start := 0, pos := 0, arrival := 0, scheduled := true }) })] }, 0,
    ({ alloc := 5, at_ := 0, header := false, idle := false, port := 9, key := 0, last := true, id := 1, payload := [1, 2] }),
    ({ frame := 0, start := 0, pos := 0, arrival := 0, scheduled := true }), by and_intros <;> decide +kernel⟩,
   ⟨{ State.reset with pon.line := [(0, { rx := some ({ frame := 0, start := 0, pos := 0, arrival := 0, scheduled := true, lost := [5] }) })] }, 0,
    ({ alloc := 5, at_ := 0, header := true, idle := false, port := 9, key := 0, last := true, id := 1, payload := [1, 2] }),
    ({ frame := 0, start := 0, pos := 0, arrival := 0, scheduled := true, lost := [5] }), by and_intros <;> decide +kernel⟩,
   ⟨{ State.reset with pon.line := [(0, { rx := some ({ frame := 0, start := 0, pos := 0, arrival := 0, scheduled := true }) })] }, 0,
    ({ alloc := 5, at_ := 0, header := true, idle := true, port := 9, key := 0, last := true, id := 1, payload := [1, 2] }),
    ({ frame := 0, start := 0, pos := 0, arrival := 0, scheduled := true }), by and_intros <;> decide +kernel⟩,
   ⟨(((({ State.reset with pon.line := [(0, { rx := some ({ frame := 0, start := 0, pos := 0, arrival := 0, scheduled := true }) })] }).setGem 4 { valid := true, dir := 3, port := 9, cipher := 1 }).setSlot (pairSlot (termPair 0) 1) { cur := some ⟨5, 0, false⟩ })), 0, ({ alloc := 5, at_ := 0, header := true, idle := false, port := 9, key := 1, last := true, id := 1, payload := [1, 2] }), (4), ({ frame := 0, start := 0, pos := 0, arrival := 0, scheduled := true }), by and_intros <;> decide +kernel⟩⟩

theorem test_witness_SolverAndMapRows :
    (∃ (s : State) (c : Fin 64) (x : Solution), ((s.chan c).maps.solution = some x) ∧ (outOfRole s (blockAddr regM (44 + c / 32)) = false)) ∧
    (∃ (s : State) (c : Fin 64) (m : MapCopy) (e : List (Nat × Byte)), ((s.chan c).maps.posted = some m) ∧ ((s.chan c).maps.deadline < m.map.frame)) ∧
    (∃ (s : State) (c : Fin 64) (m : MapCopy) (e : List (Nat × Byte)), ((s.chan c).maps.posted = some m) ∧ (m.map.frame ≤ (s.chan c).maps.deadline)) ∧
    (∃ (s : State) (g : Nat), (s.pon.tl.next = some g)) ∧
    (∃ (s : State) (c : Nat) (g : Nat) (m : GrantMap), ((s.chan c).maps.built = some (m, true)) ∧ (m.frame = g)) ∧
    (∃ (s : State) (c : Nat) (g : Nat) (m : GrantMap) (f : GrantMap), ((s.chan c).maps.built = some (m, false)) ∧
      ((s.chan c).maps.fallbacks.find? (fun f => f.frame == g) = some f)) ∧
    (∃ (s : State) (c : Nat) (g : Nat), ((s.chan c).maps.built = none) ∧ ((s.chan c).maps.fallbacks.find? (fun f => f.frame == g) = none)) ∧
    (∃ (s : State) (mb : Fin 16) (c : Cmd) (n : Nat), (Starts s mb 0x0740 c) ∧ (n < 64)) ∧
    (∃ (s : State) (mb : Fin 16) (c : Cmd) (n : Nat), (Starts s mb 0x0741 c) ∧ (n < 64)) ∧
    (∃ (s : State) (a : Nat) (f : Nat) (o : Nat) (l : List (Nat × Nat × Nat)), (s.dba.transit = (a, f, o) :: l) ∧ ((s.alloc a).valid = true)) ∧
    (∃ (s : State) (g : Nat), (s.pon.tl.next = some g)) :=
  ⟨⟨(State.reset.setChan 0 { maps := { solution := some { frame := 12 } } }), 0, ({ frame := 12 }), by and_intros <;> decide +kernel⟩,
   ⟨(State.reset.setChan 0 { maps := { posted := some ⟨{ frame := 12 }, { frame := 13, fallback := true }⟩ } }), 0, (⟨{ frame := 12 },
    { frame := 13, fallback := true }⟩), [], by and_intros <;> decide +kernel⟩,
   ⟨(State.reset.setChan 0 { maps := { posted := some ⟨{ frame := 12 }, { frame := 13, fallback := true }⟩, deadline := 12 } }), 0, (⟨{ frame := 12 },
    { frame := 13, fallback := true }⟩), [], by and_intros <;> decide +kernel⟩,
   ⟨{ State.reset with pon.tl.next := some 9 }, (9), by decide +kernel⟩,
   ⟨(State.reset.setChan 0 { maps := { built := some ({ frame := 12 }, true) } }), 0, (12), ({ frame := 12 }), by and_intros <;> decide +kernel⟩,
   ⟨(State.reset.setChan 0 { maps := { built := some ({ frame := 12 }, false), fallbacks := [{ frame := 12, fallback := true }] } }), 0, (12),
    ({ frame := 12 }), ({ frame := 12, fallback := true }), by and_intros <;> decide +kernel⟩,
   ⟨State.reset, 0, 0, by and_intros <;> decide +kernel⟩,
   ⟨(hosted State.reset (cmdOf 0x0740)), 0, (cmdOf 0x0740), 0, ⟨rfl, rfl, by and_intros <;> decide +kernel⟩, by decide +kernel⟩,
   ⟨(hosted State.reset (cmdOf 0x0741)), 0, (cmdOf 0x0741), 0, ⟨rfl, rfl, by and_intros <;> decide +kernel⟩, by decide +kernel⟩,
   ⟨{ (State.reset.setAlloc 3 { valid := true }) with dba.transit := [(3, 4, 5)] }, (3), (4), (5), [], by and_intros <;> decide +kernel⟩,
   ⟨{ State.reset with pon.tl.next := some 9 }, (9), by decide +kernel⟩⟩

theorem test_witness_ClassifyRows :
    (∃ (s : State) (m : Fin 32) (f : Frame) (x : Option SecTag), ((s.mac m).up = true) ∧ (64 ≤ f.len) ∧ (f.len ≤ s.getN .UPLINK_MTU m) ∧
      (secured s m = false) ∧ ((s.takeMac m).1 = false)) ∧
    (∃ (s : State) (m : Fin 32) (f : Frame) (x : Option SecTag), ((s.mac m).up = true) ∧ (64 ≤ f.len) ∧ (f.len ≤ s.getN .UPLINK_MTU m) ∧
      ((s.takeMac m).1 = false)) ∧
    (∃ (s : State) (m : Fin 32) (f : Frame) (x : Option SecTag) (fcs : Bool), ((s.mac m).up = true) ∧ ((s.takeMac m).1 = true)) ∧
    (∃ (s : State) (r : Fin 2) (x : Parity) (k : Pkt) (l : List Pkt), (s.fwd.toParse.get r = k :: l)) ∧
    (∃ (s : State) (r : Fin 2) (x : Parity) (k : Pkt) (l : List Pkt), (s.fwd.recirc.get r = k :: l) ∧ (s.fwd.toParse.get r = [])) ∧
    (∃ (s : State) (r : Fin 2) (x : Parity), (s.fwd.toParse.get r ≠ [])) ∧
    (∃ (s : State) (k : Pkt) (p : Parsed) (x : Parity) (i : Nat) (r : Rule),
      (matchRule s (bankOf s k.epoch) (fun f => packetKey f k.mac k.copy k.second p) = some (i, r)) ∧ (ruleAction r = 2)) ∧
    (∃ (s : State) (k : Pkt) (p : Parsed) (x : Parity) (i : Nat) (r : Rule), (k.second = false) ∧ (ruleAction r = 5) ∧
      (matchRule s (bankOf s k.epoch) (fun f => packetKey f k.mac k.copy k.second p) = some (i, r))) ∧
    (∃ (s : State) (r : Fin 8) (b : Bool) (u : UsSdu), (s.pon.released.find? (fun u => (s.gem u.gem).chan / 8 == r.val) = some u) ∧
      (outcome s (32 + (s.gem u.gem).chan) (parse (cfgOf s (32 + (s.gem u.gem).chan)) u.frame.bytes) = some none)) ∧
    (∃ (s : State) (r : Fin 8) (b : Bool) (u : UsSdu), (s.pon.released.find? (fun u => (s.gem u.gem).chan / 8 == r.val) = some u) ∧
      (let c := (s.gem u.gem).chan
    let p := parse (cfgOf s (32 + c)) u.frame.bytes
    (outcome s (32 + c) p = none) ∧ (p.bad = 0) ∧ (p.depth = false) ∧ (s.getN .ANTISPOOF_MODE u.gem = 0) ∧ (s.getN .LEARN_EN c = 0))) ∧
    (∃ (s : State) (e : Nat), (s.fwd.rules.draining = some e) ∧ (inFlight s e = 0)) ∧
    (∃ (s : State) (e : Nat), (s.fwd.rules.draining = some e) ∧ (inFlight s e ≠ 0)) ∧
    (∃ (s : State) (mb : Fin 16) (c : Cmd), ((s.mbox mb).cmd = some c) ∧ (c.code = 0x0804) ∧ (c.wait = some .swapDrain) ∧ (c.reply = none)) :=
  ⟨⟨(State.reset.setMac 0 { up := true }), 0, ({ id := 1, len := 64 }), none, by and_intros <;> decide +kernel⟩,
   ⟨(State.reset.setMac 0 { up := true }), 0, ({ id := 1, len := 64 }), none, by and_intros <;> decide +kernel⟩,
   ⟨{ (State.reset.setMac 0 { up := true }) with pace.spoiled := [(laneIndex 1 0, true)] }, 0, default, none, false, by and_intros <;> decide +kernel⟩,
   ⟨{ State.reset with fwd.toParse := [(0, [⟨{ id := 1, len := 64, bytes := List.replicate 60 0 }, 0, 0, false, 0⟩])] }, 0, none,
    (⟨{ id := 1, len := 64, bytes := List.replicate 60 0 }, 0, 0, false, 0⟩), [], by decide +kernel⟩,
   ⟨{ State.reset with fwd.recirc := [(0, [⟨{ id := 1, len := 64, bytes := List.replicate 60 0 }, 0, 0, false, 0⟩])] }, 0, none,
    (⟨{ id := 1, len := 64, bytes := List.replicate 60 0 }, 0, 0, false, 0⟩), [], by and_intros <;> decide +kernel⟩,
   ⟨{ State.reset with fwd.toParse := [(0, [{ frame := { id := 1, len := 64, bytes := List.replicate 60 0 }, mac := 0 }])] }, 0, none,
    by decide +kernel⟩,
   ⟨{ State.reset with fwd.rules.rules := [(0, some { value := 0, mask := 0, w0 := 2 * 2 ^ 28, w1 := 0, w2 := 0 })] },
    ({ frame := { id := 1, len := 64, bytes := List.replicate 60 0 }, mac := 0 }), default, none, 0,
    ({ value := 0, mask := 0, w0 := 2 * 2 ^ 28, w1 := 0, w2 := 0 }), by and_intros <;> decide +kernel⟩,
   ⟨{ State.reset with fwd.rules.rules := [(0, some { value := 0, mask := 0, w0 := 5 * 2 ^ 28, w1 := 0, w2 := 0 })] },
    ({ frame := { id := 1, len := 64, bytes := List.replicate 60 0 }, mac := 0 }), default, none, 0,
    ({ value := 0, mask := 0, w0 := 5 * 2 ^ 28, w1 := 0, w2 := 0 }), by and_intros <;> decide +kernel⟩,
   ⟨{ State.reset with pon.released := [⟨0, 4, { id := 1, len := 64 }⟩] }, 0, false, (⟨0, 4, { id := 1, len := 64 }⟩), by and_intros <;> decide +kernel⟩,
   ⟨(({ State.reset with pon.released := [⟨0, 4, { id := 1, len := 64, bytes := List.replicate 12 0 ++ [0x88, 0xB5] ++ List.replicate 46 0 }⟩] }.setPar .ANTISPOOF_MODE 4 0).setPar .LEARN_EN 0 0), 0, false, (⟨0, 4, { id := 1, len := 64, bytes := List.replicate 12 0 ++ [0x88, 0xB5] ++ List.replicate 46 0 }⟩), by and_intros <;> decide +kernel⟩,
   ⟨{ State.reset with fwd.rules.draining := some 0 }, 0, by and_intros <;> decide +kernel⟩,
   ⟨{ State.reset with fwd.rules.draining := some 0, fwd.rules.inFlight := [(0, 1)] }, 0, by and_intros <;> decide +kernel⟩,
   ⟨(hosted State.reset { cmdOf 0x0804 with wait := some .swapDrain }), (0), ({ cmdOf 0x0804 with wait := some .swapDrain }), by and_intros <;> decide +kernel⟩⟩

theorem test_witness_RuleCommands :
    (∃ (s : State) (mb : Fin 16) (c : Cmd) (i : Nat) (e : Nat) (l : List RuleEntry), (Starts s mb 0x0801 c) ∧ (l ≠ []) ∧ (l.length ≤ 32) ∧
      (i + l.length ≤ 8192) ∧ (l.any ruleBad = false) ∧ (s.fwd.rules.draining = none) ∧ (e = (s.fwd.rules.epoch + 1) % 16)) ∧
    (∃ (s : State) (mb : Fin 16) (c : Cmd) (i : Nat) (e : Nat) (l : List RuleEntry), (Starts s mb 0x0801 c) ∧ (l ≠ []) ∧ (l.length ≤ 32) ∧
      (i + l.length ≤ 8192) ∧ (l.any ruleBad = false) ∧ (s.fwd.rules.draining = none) ∧ (e ≠ (s.fwd.rules.epoch + 1) % 16)) ∧
    (∃ (s : State) (mb : Fin 16) (c : Cmd) (i : Nat) (n : Nat), (Starts s mb 0x0802 c) ∧ (n ≠ 0) ∧ (n ≤ 32) ∧ (i + n ≤ 8192)) ∧
    (∃ (s : State) (mb : Fin 16) (c : Cmd), (Starts s mb 0x0803 c) ∧ (s.fwd.rules.draining = none) ∧ (s.fwd.rules.active ≤ 1)) ∧
    (∃ (s : State) (mb : Fin 16) (c : Cmd) (e : Nat), (Starts s mb 0x0803 c) ∧ (s.fwd.rules.draining = some e)) ∧
    (∃ (s : State) (mb : Fin 16) (c : Cmd), (Starts s mb 0x0804 c) ∧ (s.fwd.rules.draining = none)) ∧
    (∃ (s : State) (mb : Fin 16) (c : Cmd) (e : Nat), (Starts s mb 0x0804 c) ∧ (s.fwd.rules.draining = some e)) ∧
    (∃ (s : State) (mb : Fin 16) (c : Cmd), (Starts s mb 0x0805 c)) :=
  ⟨⟨(hosted State.reset (cmdOf 0x0801)), 0, (cmdOf 0x0801), (8191), (1), ([⟨0, 3 * 2 ^ 382, [2 ^ 29, 0, 0, 0], 2 ^ 31, 0⟩]), ⟨rfl, rfl,
    by and_intros <;> decide +kernel⟩, by and_intros <;> decide +kernel⟩,
   ⟨(hosted State.reset (cmdOf 0x0801)), 0, (cmdOf 0x0801), (8191), 0, ([⟨0, 3 * 2 ^ 382, [2 ^ 29, 0, 0, 0], 2 ^ 31, 0⟩]), ⟨rfl, rfl,
    by and_intros <;> decide +kernel⟩, by and_intros <;> decide +kernel⟩,
   ⟨(hosted State.reset (cmdOf 0x0802)), 0, (cmdOf 0x0802), (8160), (32), ⟨rfl, rfl, by and_intros <;> decide +kernel⟩, by and_intros <;> decide +kernel⟩,
   ⟨(hosted State.reset (cmdOf 0x0803)), 0, (cmdOf 0x0803), ⟨rfl, rfl, by and_intros <;> decide +kernel⟩, by and_intros <;> decide +kernel⟩,
   ⟨(hosted { State.reset with fwd.rules.draining := some 0 } (cmdOf 0x0803)), 0, (cmdOf 0x0803), 0, ⟨rfl, rfl, by and_intros <;> decide +kernel⟩,
    by decide +kernel⟩,
   ⟨(hosted State.reset (cmdOf 0x0804)), 0, (cmdOf 0x0804), ⟨rfl, rfl, by and_intros <;> decide +kernel⟩, by decide +kernel⟩,
   ⟨(hosted { State.reset with fwd.rules.draining := some 0 } (cmdOf 0x0804)), 0, (cmdOf 0x0804), 0, ⟨rfl, rfl, by and_intros <;> decide +kernel⟩,
    by decide +kernel⟩,
   ⟨(hosted State.reset (cmdOf 0x0805)), 0, (cmdOf 0x0805), ⟨rfl, rfl, by and_intros <;> decide +kernel⟩⟩⟩

theorem test_witness_LearningRows :
    (∃ (s : State) (x : Parity) (m : SerMsg) (l : List SerMsg), (s.fwd.serial = m :: l) ∧ (m.type = 0)) ∧
    (∃ (s : State) (m : SerMsg) (l : List SerMsg), (m.host = none)) ∧
    (∃ (s : State) (t : State) (m : SerMsg) (l : List SerMsg) (mb : Nat) (o : TableOp) (st : Status) (d : Nat) (b : List Int), (m.host = some (mb,
      o)) ∧ (s.tableOp o = (t, .done st d b))) ∧
    (∃ (s : State) (m : SerMsg), (findKey s 1 (macKey m.fid m.addr) = none) ∧ (bit (s.getN .ANTISPOOF_MODE m.gem) 2 = false)) ∧
    (∃ (s : State) (m : SerMsg) (p : Place) (e : Ent), (findKey s 1 (macKey m.fid m.addr) = some p) ∧ (entryAt (s.table 1) p = some e) ∧
      (macPort e).1 ≠ m.gem ∧ (e.isStatic = true)) ∧
    (∃ (s : State) (m : SerMsg) (l : List SerMsg), (s.fwd.serial = m :: l) ∧ (m.type = 1 ∨ m.type = 2)) ∧
    (∃ (s : State) (x : Fin 2), (s.getN .AGING_PERIOD x ≠ 0)) ∧
    (∃ (s : State) (x : Fin 2), (s.getN .AGING_PERIOD x = 0)) ∧
    (∃ (s : State) (b : Nat) (i : Nat) (e : Ent), (i < 4) ∧ ((s.table 0).scanning = true) ∧ (entryAt (s.table 0) (.slot b i) = some e) ∧
      (e.isStatic = false) ∧ (e.hit = true)) ∧
    (∃ (s : State) (b : Nat) (i : Nat) (e : Ent), (i < 4) ∧ ((s.table 0).scanning = true) ∧ (entryAt (s.table 0) (.slot b i) = some e) ∧
      (e.isStatic = false) ∧ (e.hit = false)) ∧
    (∃ (s : State) (p : Place) (e : Ent) (g : Nat) (n : Nat) (st : Nat), (entryAt (s.table 1) p = some e) ∧ (e.v = .mac g n false st) ∧ (n ≠ 0) ∧
      (windowOver s st = true)) :=
  ⟨⟨{ State.reset with fwd.serial := [{ type := 0, peer := false, fid := 1, gem := 2, addr := 3, chan := 0, time := 0 }] }, none,
    ({ type := 0, peer := false, fid := 1, gem := 2, addr := 3, chan := 0, time := 0 }), [], by and_intros <;> decide +kernel⟩,
   ⟨State.reset, ({ type := 0, peer := false, fid := 1, gem := 2, addr := 3, chan := 0, time := 0 }), [], by decide +kernel⟩,
   ⟨State.reset, ((State.tableOp State.reset (.unfreeze 0 0)).1),
    ({ type := 0, peer := false, fid := 1, gem := 2, addr := 3, chan := 0, time := 0, host := some (0, .unfreeze 0 0) }), [], (0), (.unfreeze 0 0),
    (.noObject), (0), ([]), by decide +kernel, rfl⟩,
   ⟨State.reset, ({ type := 0, peer := false, fid := 1, gem := 2, addr := 3, chan := 0, time := 0 }), by and_intros <;> decide +kernel⟩,
   ⟨(macState 1 2 (.mac 9 0 false 0) true), ({ type := 0, peer := false, fid := 1, gem := 7, addr := 2, chan := 0, time := 0 }),
    (.slot (bucketOf State.reset 1 (macKey 1 2)) 0),
    ({ isStatic := true, hit := false, age := 0, rem := remOf State.reset 1 (macKey 1 2), v := .mac 9 0 false 0 }), by and_intros <;> decide +kernel⟩,
   ⟨{ State.reset with fwd.serial := [{ type := 1, peer := false, fid := 1, gem := 2, addr := 3, chan := 0, time := 0 }] },
    ({ type := 1, peer := false, fid := 1, gem := 2, addr := 3, chan := 0, time := 0 }), [], by and_intros <;> decide +kernel⟩,
   ⟨State.reset, 0, by decide +kernel⟩,
   ⟨(State.reset.setPar .AGING_PERIOD 0 0), 0, by decide +kernel⟩,
   ⟨(State.reset.setTable 0 { slots := [(0, some { isStatic := false, hit := true, age := 0, rem := 0, v := .flow 0 0 false false 0 })], scanning := true }), 0, 0, ({ isStatic := false, hit := true, age := 0, rem := 0, v := .flow 0 0 false false 0 }), by and_intros <;> decide +kernel⟩,
   ⟨(State.reset.setTable 0 { slots := [(3, some { isStatic := false, hit := false, age := 0, rem := 0, v := .flow 0 0 false false 0 })], scanning := true }), 0, (3), ({ isStatic := false, hit := false, age := 0, rem := 0, v := .flow 0 0 false false 0 }), by and_intros <;> decide +kernel⟩,
   ⟨({ macState 1 2 (.mac 9 3 false 0) false with time.dev := 2 * 10 ^ 9 * 2 ^ 32, time.up := 2 * 10 ^ 9 * 2 ^ 32 }),
    (.slot (bucketOf State.reset 1 (macKey 1 2)) 0),
    ({ isStatic := false, hit := false, age := 0, rem := remOf State.reset 1 (macKey 1 2), v := .mac 9 3 false 0 }), (9), (3), 0, by and_intros <;> decide +kernel⟩⟩

theorem test_witness_TableCommands :
    (∃ (s : State) (mb : Fin 16) (c : Cmd) (n : Nat) (l : List Nat), (Starts s mb 0x0901 c) ∧ (n < 256) ∧ (l.length = 4) ∧
      (l.all extractOk = true) ∧ (l.foldl (fun n w => n + extLen w) 0 ≤ 88)) ∧
    (∃ (s : State) (mb : Fin 16) (c : Cmd) (e : FlowArg), (Starts s mb 0x0902 c) ∧ (s.fwd.serial = []) ∧ (flowOk e = true) ∧
      (findKey s 0 e.key = none) ∧
      (let r := (begun s mb c).insertEntry 0 e.key (bit c.flags 0) false (.flow e.kind e.queue e.meter e.marker e.index)
    (r.2 = true))) ∧
    (∃ (s : State) (mb : Fin 16) (c : Cmd) (k : Nat) (p : Place), (Starts s mb 0x0903 c) ∧ (s.fwd.serial = []) ∧ (findKey s 0 k = some p)) ∧
    (∃ (s : State) (mb : Fin 16) (c : Cmd) (k : Nat) (p : Place), (Starts s mb 0x0904 c) ∧ (findKey s 0 k = some p)) ∧
    (∃ (s : State) (mb : Fin 16) (c : Cmd) (e : MacArg) (p : Place), (Starts s mb 0x0910 c) ∧ (s.fwd.serial = []) ∧ (macArgOk e = true) ∧
      (findKey s 1 (macKey e.fid e.addr) = some p) ∧ (bit c.flags 1 = true)) ∧
    (∃ (s : State) (mb : Fin 16) (c : Cmd) (e : MacArg) (p : Place), (Starts s mb 0x0910 c) ∧ (s.fwd.serial = []) ∧ (macArgOk e = true) ∧
      (findKey s 1 (macKey e.fid e.addr) = some p) ∧ (bit c.flags 1 = false)) ∧
    (∃ (s : State) (mb : Fin 16) (c : Cmd) (e : MacArg) (p : Place), (Starts s mb 0x0911 c) ∧ (s.fwd.serial = []) ∧
      (findKey s 1 (macKey e.fid e.addr) = some p)) ∧
    (∃ (s : State) (mb : Fin 16) (c : Cmd) (l : List MacArg) (b : Nat) (n : Nat), (Starts s mb 0x0912 c) ∧ (n ≠ 0) ∧ (n ≤ 64) ∧ (b + n ≤ 65536)) ∧
    (∃ (s : State) (mb : Fin 16) (c : Cmd) (f : Nat), (Starts s mb 0x0913 c) ∧ (f < 4096) ∧ (s.fwd.serial.length < 4096)) ∧
    (∃ (s : State) (mb : Fin 16) (c : Cmd) (f : Nat) (a : Nat) (g : Nat) (n : Nat) (st : Nat) (p : Place) (e : Ent), (Starts s mb 0x0914 c) ∧
      (f < 4096) ∧ (a < 2 ^ 48) ∧ (s.fwd.serial = []) ∧ (findKey s 1 (macKey f a) = some p) ∧ (entryAt (s.table 1) p = some e) ∧
      (e.v = .mac g n true st)) ∧
    (∃ (s : State) (mb : Fin 16) (c : Cmd) (f : Nat) (a : Nat), (Starts s mb 0x0914 c) ∧ (f < 4096) ∧ (a < 2 ^ 48) ∧ (s.fwd.serial ≠ [])) ∧
    (∃ (s : State) (mb : Fin 16) (c : Cmd) (x : Nat) (n : Nat), (Starts s mb 0x0920 c) ∧ (x < 2) ∧ (n ≠ 0) ∧ (n ≤ 64)) ∧
    (∃ (s : State) (mb : Fin 16) (c : Cmd), (Starts s mb 0x0921 c)) :=
  ⟨⟨(hosted State.reset (cmdOf 0x0901)), 0, (cmdOf 0x0901), (255), ([0, 0, 0, 0]), ⟨rfl, rfl, by and_intros <;> decide +kernel⟩, by and_intros <;> decide +kernel⟩,
   ⟨(hosted State.reset (cmdOf 0x0902)), 0, (cmdOf 0x0902), (⟨5, 0, 9, false, false, 0⟩), ⟨rfl, rfl, by and_intros <;> decide +kernel⟩,
    by and_intros <;> decide +kernel⟩,
   ⟨(hosted (flowState 5 (.flow 0 9 false false 0)) (cmdOf 0x0903)), 0, (cmdOf 0x0903), (5), (.slot (bucketOf State.reset 0 5) 0), ⟨rfl, rfl,
    by and_intros <;> decide +kernel⟩, by and_intros <;> decide +kernel⟩,
   ⟨(hosted (flowState 5 (.flow 0 9 false false 0)) (cmdOf 0x0904)), 0, (cmdOf 0x0904), (5), (.slot (bucketOf State.reset 0 5) 0), ⟨rfl, rfl,
    by and_intros <;> decide +kernel⟩, by decide +kernel⟩,
   ⟨(hosted (macState 1 2 (.mac 9 0 false 0) false) (cmdOf 0x0910 [] 2)), 0, (cmdOf 0x0910 [] 2), (⟨1, 2, 0⟩),
    (.slot (bucketOf State.reset 1 (macKey 1 2)) 0), ⟨rfl, rfl, by and_intros <;> decide +kernel⟩, by and_intros <;> decide +kernel⟩,
   ⟨(hosted (macState 1 2 (.mac 9 0 false 0) false) (cmdOf 0x0910)), 0, (cmdOf 0x0910), (⟨1, 2, 0⟩), (.slot (bucketOf State.reset 1 (macKey 1 2)) 0),
    ⟨rfl, rfl, by and_intros <;> decide +kernel⟩, by and_intros <;> decide +kernel⟩,
   ⟨(hosted (macState 1 2 (.mac 9 0 false 0) false) (cmdOf 0x0911)), 0, (cmdOf 0x0911), (⟨1, 2, 0⟩), (.slot (bucketOf State.reset 1 (macKey 1 2)) 0),
    ⟨rfl, rfl, by and_intros <;> decide +kernel⟩, by and_intros <;> decide +kernel⟩,
   ⟨(hosted State.reset (cmdOf 0x0912)), 0, (cmdOf 0x0912), [], (65472), (64), ⟨rfl, rfl, by and_intros <;> decide +kernel⟩, by and_intros <;> decide +kernel⟩,
   ⟨(hosted State.reset (cmdOf 0x0913)), 0, (cmdOf 0x0913), (4095), ⟨rfl, rfl, by and_intros <;> decide +kernel⟩, by and_intros <;> decide +kernel⟩,
   ⟨(hosted (macState 1 2 (.mac 9 8 true 0) false) (cmdOf 0x0914)), 0, (cmdOf 0x0914), (1), (2), (9), (8), 0,
    (.slot (bucketOf State.reset 1 (macKey 1 2)) 0),
    ({ isStatic := false, hit := false, age := 0, rem := remOf State.reset 1 (macKey 1 2), v := .mac 9 8 true 0 }), ⟨rfl, rfl, by and_intros <;> decide +kernel⟩, by and_intros <;> decide +kernel⟩,
   ⟨(hosted { State.reset with fwd.serial := [{ type := 0, peer := false, fid := 1, gem := 2, addr := 3, chan := 0, time := 0 }] } (cmdOf 0x0914)), 0,
    (cmdOf 0x0914), 0, 0, ⟨rfl, rfl, by and_intros <;> decide +kernel⟩, by and_intros <;> decide +kernel⟩,
   ⟨(hosted State.reset (cmdOf 0x0920)), 0, (cmdOf 0x0920), (1), (64), ⟨rfl, rfl, by and_intros <;> decide +kernel⟩, by and_intros <;> decide +kernel⟩,
   ⟨(hosted State.reset (cmdOf 0x0921)), 0, (cmdOf 0x0921), ⟨rfl, rfl, by and_intros <;> decide +kernel⟩⟩⟩

theorem test_witness_QueueRows :
    (∃ (s : State) (j : Job) (l : List Job), (s.fwd.jobs = j :: l)) ∧
    (∃ (q : Queue) (n : Nat) (k : Nat), (q.enable = true) ∧ (n ≤ q.maxFrame) ∧ (k ≠ 2) ∧
      (depthOf q + n ≤ (if k = 1 then yellowLimit q else q.limit))) ∧
    (∃ (s : State) (w : Nat) (j : Job), (w < 65536) ∧ (admission (s.queueAt w) j.frame.len j.colour = .accepted) ∧ (j.frame.buf = none) ∧
      ((s.queueAt w).run = [])) ∧
    (∃ (s : State) (w : Nat) (j : Job), (w < 65536) ∧ (admission (s.queueAt w) j.frame.len j.colour = .disabled) ∧ (j.frame.buf = none)) ∧
    (∃ (s : State) (i : Fin 96), ((s.gate i).clearAt = none)) ∧
    (∃ (s : State) (i : Fin 96) (c : Nat), ((s.gate i).clearAt = some c) ∧ (c ≤ s.now) ∧ ((s.gate i).pending = none)) ∧
    (∃ (s : State) (i : Fin 96) (p : GateList), ((s.gate i).pending = some p) ∧ (p.start ≤ s.now)) ∧
    (∃ (s : State) (w : Fin 81920), (watched s w = false)) ∧
    (∃ (s : State) (i : Fin 256) (w : Nat) (n : Nat), (s.fwd.watch.get i = some (w, n)) ∧ (delayOf s (s.queueAt w) ≤ n)) ∧
    (∃ (s : State) (r : ShaperRef), (conforms s (s.shaperAt r).1 (s.shaperAt r).2 = false)) :=
  ⟨⟨{ State.reset with fwd.jobs := [{ frame := { id := 1, len := 64 }, cls := 0, dest := .down 0 }] },
    ({ frame := { id := 1, len := 64 }, cls := 0, dest := .down 0 }), [], by decide +kernel⟩,
   ⟨({ enable := true }), (9600), 0, by and_intros <;> decide +kernel⟩,
   ⟨{ State.reset with fwd.downQ := [(0, { enable := true })] }, 0, ({ frame := { id := 1, len := 64 }, cls := 0, dest := .down 0 }),
    by and_intros <;> decide +kernel⟩,
   ⟨State.reset, 0, ({ frame := { id := 1, len := 64 }, cls := 0, dest := .down 0 }), by and_intros <;> decide +kernel⟩,
   ⟨State.reset, 0, by decide +kernel⟩,
   ⟨{ State.reset with fwd.gates := [(0, { clearAt := some 0 })] }, 0, 0, by and_intros <;> decide +kernel⟩,
   ⟨{ State.reset with fwd.gates := [(0, { pending := some ⟨[(255, 1000)], 1000, 0⟩ })] }, 0, (⟨[(255, 1000)], 1000, 0⟩), by and_intros <;> decide +kernel⟩,
   ⟨State.reset, 0, by decide +kernel⟩,
   ⟨{ State.reset with fwd.watch := [(0, some (3, 1000))] }, 0, (3), (1000), by and_intros <;> decide +kernel⟩,
   ⟨{ State.reset with fwd.downQ := [(0, { shaper := { cir := 1000, content := -1 } })] }, (.queue 0), by decide +kernel⟩⟩

theorem test_witness_QueueCommands :
    (∃ (s : State) (mb : Fin 16) (c : Cmd) (w : Nat) (a : QueueArg), (Starts s mb 0x0A01 c) ∧ (w < 65536) ∧ (queueRanges false a = true) ∧
      (let o := s.queueAt w
    let q := queueWith o a
    (q.level ≠ 7) ∧ ((o.enable && !q.enable) = false) ∧
      (queueFault s w o q (o.bind != q.bind || o.level != q.level || o.bridge != q.bridge) = none))) ∧
    (∃ (s : State) (mb : Fin 16) (c : Cmd) (w : Nat), (Starts s mb 0x0A02 c) ∧ (w < 81920)) ∧
    (∃ (s : State) (mb : Fin 16) (c : Cmd) (w : Nat), (Starts s mb 0x0A03 c) ∧ (w < 81920) ∧ (c.flags.testBit 0 = true)) ∧
    (∃ (s : State) (mb : Fin 16) (c : Cmd) (w : Nat), (Starts s mb 0x0A03 c) ∧ (w < 81920) ∧ (c.flags.testBit 0 = false) ∧
      (queueEmpty (((begun s mb c).disableQueue w).queueAt w) = false)) ∧
    (∃ (s : State) (mb : Fin 16) (c : Cmd) (n : Nat) (q : Nat), (Starts s mb 0x0A10 c) ∧ (n < 8192) ∧ (s.term n).state ≠ .free ∧ (64 ≤ q) ∧
      (q ≤ 65536)) ∧
    (∃ (s : State) (mb : Fin 16) (c : Cmd) (k : Nat) (r : Nat) (b : Nat), (Starts s mb 0x0A10 c) ∧ (k < 64) ∧ (r ≤ 49766400) ∧ (64 ≤ b) ∧
      (b ≤ 4194304)) ∧
    (∃ (s : State) (mb : Fin 16) (c : Cmd) (m : Nat) (r : Nat), (Starts s mb 0x0A10 c) ∧ (m < 32) ∧ (macUsed s m = true) ∧ (r ≤ 800000000)) ∧
    (∃ (s : State) (mb : Fin 16) (c : Cmd) (i : Nat) (y : Nat) (n : Nat) (l : List Nat), (Starts s mb 0x0A30 c) ∧ (32 ≤ i) ∧ (i < 96) ∧ (l ≠ []) ∧
      (l.length ≤ 256) ∧ (1000 ≤ y) ∧ (y ≤ 1000000000) ∧ ((l.map gateEntry).foldl (fun n e => n + e.2) 0 = y) ∧ ((∀ e ∈ l.map gateEntry,
      10 ≤ e.2)) ∧ ((s.gate i).pending = none)) ∧
    (∃ (s : State) (mb : Fin 16) (c : Cmd) (i : Nat), (Starts s mb 0x0A31 c) ∧ (32 ≤ i) ∧ (i < 96) ∧ ((s.gate i).oper.isSome = true)) ∧
    (∃ (s : State) (mb : Fin 16) (c : Cmd) (i : Nat), (Starts s mb 0x0A32 c) ∧ (i < 96)) ∧
    (∃ (s : State) (mb : Fin 16) (c : Cmd) (i : Nat) (w : Nat) (n : Nat), (Starts s mb 0x0A40 c) ∧ (i < 256) ∧ (w < 81920) ∧
      ((s.queueAt w).enable = true) ∧ ((s.queueAt w).bind.isSome = true)) ∧
    (∃ (s : State) (mb : Fin 16) (c : Cmd) (i : Nat) (n : Nat), (Starts s mb 0x0A40 c) ∧ (i < 256)) ∧
    (∃ (s : State) (mb : Fin 16) (c : Cmd) (w : Nat) (n : Nat), (Starts s mb 0x0A41 c) ∧ (n ≠ 0) ∧ (n ≤ 64) ∧ (w + n ≤ 81920) ∧
      (c.flags.testBit 0 = false)) :=
  ⟨⟨(hosted State.reset (cmdOf 0x0A01)), 0, (cmdOf 0x0A01), (65535), ({ level := some 6 }), ⟨rfl, rfl, by and_intros <;> decide +kernel⟩,
    by and_intros <;> decide +kernel⟩,
   ⟨(hosted State.reset (cmdOf 0x0A02)), 0, (cmdOf 0x0A02), (81919), ⟨rfl, rfl, by and_intros <;> decide +kernel⟩, by decide +kernel⟩,
   ⟨(hosted State.reset (cmdOf 0x0A03 [] 1)), 0, (cmdOf 0x0A03 [] 1), (81919), ⟨rfl, rfl, by and_intros <;> decide +kernel⟩, by and_intros <;> decide +kernel⟩,
   ⟨(hosted { State.reset with fwd.downQ := [(0, { enable := true, frames := [{ frame := { id := 1, len := 64 }, at_ := 0 }] })] } (cmdOf 0x0A03)), 0,
    (cmdOf 0x0A03), 0, ⟨rfl, rfl, by and_intros <;> decide +kernel⟩, by and_intros <;> decide +kernel⟩,
   ⟨(hosted (State.reset.setTerm 0 { state := .absent }) (cmdOf 0x0A10)), 0, (cmdOf 0x0A10), 0, (65536), ⟨rfl, rfl, by and_intros <;> decide +kernel⟩, by and_intros <;> decide +kernel⟩,
   ⟨(hosted State.reset (cmdOf 0x0A10)), 0, (cmdOf 0x0A10), (63), (49766400), (4194304), ⟨rfl, rfl, by and_intros <;> decide +kernel⟩,
    by and_intros <;> decide +kernel⟩,
   ⟨(hosted State.reset (cmdOf 0x0A10)), 0, (cmdOf 0x0A10), 0, 0, ⟨rfl, rfl, by and_intros <;> decide +kernel⟩, by and_intros <;> decide +kernel⟩,
   ⟨(hosted State.reset (cmdOf 0x0A30)), 0, (cmdOf 0x0A30), (95), (1000), 0, ([0xFF0003E8]), ⟨rfl, rfl, by and_intros <;> decide +kernel⟩,
    by and_intros <;> decide +kernel⟩,
   ⟨(hosted { State.reset with fwd.gates := [(95, { oper := some ⟨[(255, 1000)], 1000, 0⟩ })] } (cmdOf 0x0A31)), 0, (cmdOf 0x0A31), (95), ⟨rfl, rfl,
    by and_intros <;> decide +kernel⟩, by and_intros <;> decide +kernel⟩,
   ⟨(hosted State.reset (cmdOf 0x0A32)), 0, (cmdOf 0x0A32), (95), ⟨rfl, rfl, by and_intros <;> decide +kernel⟩, by decide +kernel⟩,
   ⟨(hosted { State.reset with fwd.downQ := [(0, { enable := true, bind := some 3 })] } (cmdOf 0x0A40)), 0, (cmdOf 0x0A40), (255), 0, 0, ⟨rfl, rfl,
    by and_intros <;> decide +kernel⟩, by and_intros <;> decide +kernel⟩,
   ⟨(hosted State.reset (cmdOf 0x0A40)), 0, (cmdOf 0x0A40), (255), 0, ⟨rfl, rfl, by and_intros <;> decide +kernel⟩, by decide +kernel⟩,
   ⟨(hosted State.reset (cmdOf 0x0A41)), 0, (cmdOf 0x0A41), (81856), (64), ⟨rfl, rfl, by and_intros <;> decide +kernel⟩, by and_intros <;> decide +kernel⟩⟩

theorem test_witness_MeterCommands :
    (∃ (s : State) (mb : Fin 16) (c : Cmd) (n : Nat) (r : Nat) (b : Nat), (Starts s mb 0x0A20 c) ∧ (n < 65536) ∧ (meterOk r b = true)) ∧
    (∃ (s : State) (mb : Fin 16) (c : Cmd) (n : Nat) (r : Nat) (b : Nat), (Starts s mb 0x0A20 c) ∧ (n < 65536) ∧ (meterOk r b = false)) ∧
    (∃ (s : State) (mb : Fin 16) (c : Cmd) (n : Nat) (m : Nat) (a : Nat) (r : Nat) (b : Nat) (p : Nat) (q : Nat) (x : Bool) (y : Bool),
      (Starts s mb 0x0A21 c) ∧ (n < 4096) ∧ (m < 2) ∧ (a < 2) ∧ (meterOk r b = true) ∧ (meterOk p q = true)) ∧
    (∃ (s : State) (mb : Fin 16) (c : Cmd) (n : Nat), (Starts s mb 0x0A22 c) ∧ (n < 4096)) ∧
    (∃ (s : State) (mb : Fin 16) (c : Cmd) (n : Nat), (Starts s mb 0x0A22 c) ∧ (n < 65536)) :=
  ⟨⟨(hosted State.reset (cmdOf 0x0A20)), 0, (cmdOf 0x0A20), (65535), (1000), (64), ⟨rfl, rfl, by and_intros <;> decide +kernel⟩, by and_intros <;> decide +kernel⟩,
   ⟨(hosted State.reset (cmdOf 0x0A20)), 0, (cmdOf 0x0A20), (65535), 0, (0), ⟨rfl, rfl, by and_intros <;> decide +kernel⟩, by and_intros <;> decide +kernel⟩,
   ⟨(hosted State.reset (cmdOf 0x0A21)), 0, (cmdOf 0x0A21), (4095), (1), (1), (1000), (64), (1000), (64), false, false, ⟨rfl, rfl, by and_intros <;> decide +kernel⟩, by and_intros <;> decide +kernel⟩,
   ⟨(hosted State.reset (cmdOf 0x0A22)), 0, (cmdOf 0x0A22), (4095), ⟨rfl, rfl, by and_intros <;> decide +kernel⟩, by decide +kernel⟩,
   ⟨(hosted State.reset (cmdOf 0x0A22)), 0, (cmdOf 0x0A22), (65535), ⟨rfl, rfl, by and_intros <;> decide +kernel⟩, by decide +kernel⟩⟩

theorem test_witness_BufferRows :
    (∃ (s : State) (n : Nat) (i : Nat) (f : Nat) (m : DmaMsg) (r : BufRef) (z : Nat) (t : State), (bufferTurn s = some i) ∧
      (s.host.staged[i]? = some (f, m)) ∧ (s.allocBuf 13 m.len (isOmci m) false = (.granted r z, t))) ∧
    (∃ (s : State) (n : Nat) (r : BufRef) (z : Nat) (t : State) (mb : Option (Fin 16)), (s.allocBuf 15 n true false = (.granted r z, t))) ∧
    (∃ (s : State) (n : Nat) (mb : Fin 16) (c : Cmd), (poolFor s n = none) ∧ ((s.mbox mb).cmd = some c) ∧ (c.started = true) ∧ (c.reply = none)) ∧
    (∃ (s : State) (k : Fin 16) (n : Nat) (x : Want) (r : BufRef) (z : Nat) (t : State), (k.val < 13) ∧
      (s.fwd.wants.find? (fun x => x.cls == k.val) = some x) ∧
      (({ s with fwd.wants := s.fwd.wants.erase x }).allocBuf k x.len x.exempt x.ct = (.granted r z, t))) ∧
    (∃ (s : State) (k : Nat) (p : Nat) (n : Nat) (ct : Bool), (poolFor s n = some p) ∧ ((s.pool p).critical = false) ∧ (s.fwd.bufs = []) ∧
      (skipLost s p (s.pool p).fresh = (s.pool p).fresh) ∧ ((s.pool p).fresh < poolCount s p)) ∧
    (∃ (s : State) (k : Nat) (n : Nat) (ct : Bool), (poolFor s n = none)) ∧
    (∃ (s : State) (k : Nat) (p : Nat) (n : Nat) (ct : Bool), (poolFor s n = some p) ∧ ((s.pool p).critical = true)) ∧
    (∃ (s : State) (k : Fin 16) (i : Fin 262144) (g : Fin 64), (opFault (s.buf i) true k g = none)) ∧
    (∃ (s : State) (a : Fin 16) (b : Fin 16) (i : Fin 262144) (g : Fin 64), (opFault (s.buf i) false a g = none)) ∧
    (∃ (s : State) (k : Fin 16) (i : Fin 262144) (g : Fin 64) (l : Bool), (opFault (s.buf i) false k g = none) ∧ (1 < (s.buf i).refcnt)) ∧
    (∃ (s : State) (k : Fin 16) (i : Fin 262144) (g : Fin 64) (l : Bool), (opFault (s.buf i) false k g = none) ∧ ((s.buf i).refcnt ≤ 1)) ∧
    (∃ (s : State) (k : Fin 16) (i : Fin 262144) (g : Fin 64) (l : Bool) (n : Nat), (opFault (s.buf i) false k g = some n)) ∧
    (∃ (v : BufWord) (take : Bool) (k : Nat) (g : Nat), (v.alloc = false)) ∧
    (∃ (v : BufWord) (take : Bool) (k : Nat) (g : Nat), (v.alloc = true) ∧ (v.gen ≠ g)) :=
  ⟨⟨({ State.reset with host.staged := [(1, { len := 64, meta_ := 0, payload := .frame { id := 1, len := 64 } })] }), 0, (0), (1),
    ({ len := 64, meta_ := 0, payload := .frame { id := 1, len := 64 } }), (⟨0, 1, false⟩), (256),
    ((State.allocBuf ({ State.reset with host.staged := [(1, { len := 64, meta_ := 0, payload := .frame { id := 1, len := 64 } })] } : State) 13 64 false false).2), by and_intros <;> decide +kernel⟩,
   ⟨State.reset, (64), (⟨0, 1, false⟩), (256), ((State.allocBuf State.reset 15 64 true false).2), none, by decide +kernel⟩,
   ⟨(hosted State.reset { cmdOf 0x0101 with started := true }), (1000000), 0, ({ cmdOf 0x0101 with started := true }), by and_intros <;> decide +kernel⟩,
   ⟨{ State.reset with fwd.wants := [{ cls := 0, len := 64, exempt := false, ct := false, what := .job { frame := { id := 1, len := 64 }, cls := 0, dest := .down 0 } }] }, 0, 0, ({ cls := 0, len := 64, exempt := false, ct := false, what := .job { frame := { id := 1, len := 64 }, cls := 0, dest := .down 0 } }), (⟨0, 1, false⟩), (256), ((({ State.reset with fwd.wants := [] } : State).allocBuf 0 64 false false).2), by and_intros <;> decide +kernel⟩,
   ⟨State.reset, 0, 0, (64), false, by and_intros <;> decide +kernel⟩,
   ⟨State.reset, 0, (100000), false, by decide +kernel⟩,
   ⟨{ State.reset with fwd.pools := [(0, { critical := true })] }, 0, 0, (64), false, by and_intros <;> decide +kernel⟩,
   ⟨{ State.reset with fwd.bufs := [(0, { alloc := true, refcnt := 1, holders := 1, gen := 0 })] }, 0, 0, 0, by decide +kernel⟩,
   ⟨{ State.reset with fwd.bufs := [(0, { alloc := true, refcnt := 1, holders := 1, gen := 0 })] }, 0, 0, 0, 0, by decide +kernel⟩,
   ⟨{ State.reset with fwd.bufs := [(0, { alloc := true, refcnt := 2, holders := 1, gen := 0 })] }, 0, 0, 0, false, by and_intros <;> decide +kernel⟩,
   ⟨{ State.reset with fwd.bufs := [(0, { alloc := true, refcnt := 1, holders := 1, gen := 0 })] }, 0, 0, 0, false, by and_intros <;> decide +kernel⟩,
   ⟨State.reset, 0, 0, 0, false, (1), by decide +kernel⟩,
   ⟨default, false, 0, 0, by decide +kernel⟩,
   ⟨({ alloc := true }), false, 0, (1), by and_intros <;> decide +kernel⟩⟩

theorem test_witness_PoolRows :
    (∃ (s : State) (p : Fin 4) (m : Nat × Nat × Nat), (nextMsg s p 0 [0] = some m)) ∧
    (∃ (s : State) (p : Fin 4) (m : Nat × Nat × Nat), (nextMsg s p 2 [0] = some m)) ∧
    (∃ (s : State) (p : Fin 4) (m : Nat × Nat × Nat), (nextMsg s p 0 [1] = some m)) ∧
    (∃ (s : State) (p : Fin 4) (m : Nat × Nat × Nat), (nextMsg s p 2 [2, 3] = some m) ∧ (m.2.1 = 2)) ∧
    (∃ (s : State) (p : Fin 4) (m : Nat × Nat × Nat), (nextMsg s p 2 [2, 3] = some m) ∧ (m.2.1 = 3)) ∧
    (∃ (s : State) (mb : Fin 16) (c : Cmd), (Starts s mb 0x0B01 c)) ∧
    (∃ (s : State) (mb : Fin 16) (c : Cmd) (n : Nat), (Starts s mb 0x0B02 c) ∧ (n ≠ 0) ∧ (n ≤ 64)) :=
  ⟨⟨{ State.reset with fwd.poolMsgs := [(0, 0, 0)] }, 0, ((0, 0, 0)), by decide +kernel⟩,
   ⟨{ State.reset with fwd.poolMsgs := [(0, 0, 2)] }, 0, ((0, 0, 2)), by decide +kernel⟩,
   ⟨{ State.reset with fwd.poolMsgs := [(0, 1, 0)] }, 0, ((0, 1, 0)), by decide +kernel⟩,
   ⟨{ State.reset with fwd.poolMsgs := [(0, 2, 2)] }, 0, ((0, 2, 2)), by and_intros <;> decide +kernel⟩,
   ⟨{ State.reset with fwd.poolMsgs := [(0, 3, 2)] }, 0, ((0, 3, 2)), by and_intros <;> decide +kernel⟩,
   ⟨(hosted State.reset (cmdOf 0x0B01)), 0, (cmdOf 0x0B01), ⟨rfl, rfl, by and_intros <;> decide +kernel⟩⟩,
   ⟨(hosted State.reset (cmdOf 0x0B02)), 0, (cmdOf 0x0B02), (64), ⟨rfl, rfl, by and_intros <;> decide +kernel⟩, by and_intros <;> decide +kernel⟩⟩

theorem test_witness_GlacierRows :
    (∃ (s : State) (w : Fin 81920) (k : List QFrame) (l : List QFrame) (x : QFrame), (spillNext s w = .start k x l) ∧
      (pageFree s (s.queueAt w) x = true)) ∧
    (∃ (s : State) (w : Fin 81920) (l : List QFrame) (x : QFrame), (spillNext s w = .append x l) ∧ (pageFree s (s.queueAt w) x = true)) ∧
    (∃ (s : State) (w : Fin 81920) (l : List QFrame) (x : QFrame) (y : QFrame), (spillNext s w = .append x l) ∧
      (pageFree s (s.queueAt w) x = false) ∧ ((s.queueAt w).tail.find? (·.arrival) = some y)) ∧
    (∃ (s : State) (w : Fin 81920), (s.power.dev = .standby)) ∧
    (∃ (s : State) (w : Fin 81920) (f : Frame), ((ackFirst (s.queueAt w).run).2 = some f)) ∧
    (∃ (s : State) (w : Fin 81920) (x : QFrame) (l : List QFrame), let t := s.glacierTest w
    ((t.queueAt w).run = x :: l) ∧ ((t.queueAt w).returning = true) ∧ ((t.queueAt w).asked = false) ∧ (x.acked = true) ∧ (criticalSpill t = false)) ∧
    (∃ (s : State) (d : Fin 8) (a : DramArg), (s.dramCh d = {}) ∧ (s.getN .DRAM_TARGET a.port ≠ 0) ∧ (a.age = 0)) ∧
    (∃ (s : State) (d : Fin 8), ((chanLevel s (s.dramCh d)).any (2 ≤ ·) = true) ∧ ((s.dramCh d).postponed < 8)) ∧
    (∃ (s : State) (d : Fin 8), ((chanLevel s (s.dramCh d)).any (2 ≤ ·) = false ∨ 8 ≤ (s.dramCh d).postponed)) ∧
    (∃ (s : State) (d : Fin 8), ((chanLevel s (s.dramCh d)).any (1 ≤ ·) = true)) ∧
    (∃ (s : State) (d : Fin 8), ((chanLevel s (s.dramCh d)).any (1 ≤ ·) = false)) ∧
    (∃ (s : State) (d : Fin 8), ((s.dramCh d).retrainDue = true)) ∧
    (∃ (s : State) (mb : Fin 16) (c : Cmd) (i : Nat) (o : Nat), (Starts s mb 0x0B03 c)) ∧
    (∃ (s : State) (mb : Fin 16) (c : Cmd), (Starts s mb 0x0C01 c)) :=
  ⟨⟨{ ((State.reset.setPar .QUEUE_DEEP 0 1).setPar .GLACIER_HEAD 0 0) with fwd.moverFrozen := [0], fwd.downQ := [(0, { enable := true, frames := [{ frame := { id := 1, len := 64, buf := some ⟨0, 0, false⟩ }, at_ := 0 }] })], dramBytes := 2 ^ 31 }, 0, [], [], ({ frame := { id := 1, len := 64, buf := some ⟨0, 0, false⟩ }, at_ := 0 }), by and_intros <;> decide +kernel⟩,
   ⟨{ (({ State.reset with fwd.moverFrozen := [0] }.setPar .QUEUE_DEEP 0 1).setPar .GLACIER_HEAD 0 0) with fwd.downQ := [(0, { enable := true, run := [{ frame := { id := 1, len := 64 }, at_ := 0 }], tail := [{ frame := { id := 1, len := 64, buf := some ⟨0, 0, false⟩ }, at_ := 0 }] })], dramBytes := 2 ^ 31 }, 0, [], ({ frame := { id := 1, len := 64, buf := some ⟨0, 0, false⟩ }, at_ := 0 }), by and_intros <;> decide +kernel⟩,
   ⟨{ (({ State.reset with fwd.moverFrozen := [0] }.setPar .QUEUE_DEEP 0 1).setPar .GLACIER_HEAD 0 0) with fwd.downQ := [(0, { enable := true, run := [{ frame := { id := 1, len := 64 }, at_ := 0 }], tail := [{ frame := { id := 1, len := 64, buf := some ⟨0, 0, false⟩ }, at_ := 0 }, { frame := { id := 1, len := 64 }, at_ := 0, arrival := true }] })], dramBytes := 0 }, 0, ([{ frame := { id := 1, len := 64 }, at_ := 0, arrival := true }]), ({ frame := { id := 1, len := 64, buf := some ⟨0, 0, false⟩ }, at_ := 0 }), ({ frame := { id := 1, len := 64 }, at_ := 0, arrival := true }), by and_intros <;> decide +kernel⟩,
   ⟨{ State.reset with power.dev := .standby }, 0, by decide +kernel⟩,
   ⟨{ State.reset with fwd.downQ := [(0, { enable := true, run := [{ frame := { id := 1, len := 64 }, at_ := 0 }] })] }, 0, ({ id := 1, len := 64 }),
    by decide +kernel⟩,
   ⟨{ State.reset with fwd.downQ := [(0, { enable := true, run := [{ ({ frame := { id := 1, len := 64 }, at_ := 0 } : QFrame) with acked := true }] })] }, 0, ({ ({ frame := { id := 1, len := 64 }, at_ := 0 } : QFrame) with acked := true }), [], by and_intros <;> decide +kernel⟩,
   ⟨State.reset, 0, (⟨0, 0, 0, false, 0⟩), by and_intros <;> decide +kernel⟩,
   ⟨({ State.reset with time.up := 10 ^ 6 * 2 ^ 32 }.setDramCh 0 { ports := [(0, [⟨0, 0, false, 0, true⟩])] }), 0, by and_intros <;> decide +kernel⟩,
   ⟨State.reset, 0, by decide +kernel⟩,
   ⟨({ State.reset with time.up := 10 ^ 6 * 2 ^ 32 }.setDramCh 0 { ports := [(0, [⟨0, 0, false, 0, true⟩])] }), 0, by decide +kernel⟩,
   ⟨State.reset, 0, by decide +kernel⟩,
   ⟨(State.reset.setDramCh 0 { retrainDue := true }), 0, by decide +kernel⟩,
   ⟨(hosted State.reset (cmdOf 0x0B03)), 0, (cmdOf 0x0B03), 0, 0, ⟨rfl, rfl, by and_intros <;> decide +kernel⟩⟩,
   ⟨(hosted State.reset (cmdOf 0x0C01)), 0, (cmdOf 0x0C01), ⟨rfl, rfl, by and_intros <;> decide +kernel⟩⟩⟩

theorem test_witness_CipherRows :
    (∃ (s : State) (r : Fin 13) (n : Nat) (x : Nat) (j : Option (Fin 16)) (w : PairWork),
      ((s.cipherRegion r).flight.find? (fun w => w.op == n) = some w)) ∧
    (∃ (s : State) (r : Fin 13) (n : Nat) (x : Nat) (y : Nat) (j : Option (Fin 16)) (w : PairWork),
      ((s.cipherRegion r).flight.find? (fun w => w.op == n) = some w) ∧ (x ≠ y) ∧ (w.attempts.length < 2)) ∧
    (∃ (s : State) (r : Fin 13) (n : Nat) (x : Nat) (y : Nat), ((s.cipherRegion r).flight.find? (fun w => w.op == n) = none)) ∧
    (∃ (s : State) (b : Fin 3328), (s.getN .ENTROPY_MODE = 1) ∧ (s.cipher.entropyBad = true)) ∧
    (∃ (s : State) (k : Fin 18640), ((s.slot k).erasing = false) ∧ ((s.slot k).draining = true)) ∧
    (∃ (s : State) (k : Fin 18640), ((s.slot k).erasing = true)) ∧
    (∃ (s : State) (n : Fin 8192), (mayRekey s n = true)) ∧
    (∃ (s : State) (n : Fin 8192) (x : KeyExchange), ((s.term n).exchange = some x) ∧ (x.tries < 3)) ∧
    (∃ (s : State) (n : Fin 8192) (x : KeyExchange), ((s.term n).exchange = some x) ∧ (3 ≤ x.tries)) :=
  ⟨⟨{ State.reset with cipher.regions := [(0, { flight := [{ op := 0, job := 0, index := 0, a := ⟨0, 0, 0, 0, 0⟩, b := ⟨0, 0, 0, 0, 0⟩, due := 0 }] })] }, 0, 0, 0, none, ({ op := 0, job := 0, index := 0, a := ⟨0, 0, 0, 0, 0⟩, b := ⟨0, 0, 0, 0, 0⟩, due := 0 }), by decide +kernel⟩,
   ⟨{ State.reset with cipher.regions := [(0, { flight := [{ op := 0, job := 0, index := 0, a := ⟨0, 0, 0, 0, 0⟩, b := ⟨0, 0, 0, 0, 0⟩, due := 0 }] })] }, 0, 0, 0, (1), none, ({ op := 0, job := 0, index := 0, a := ⟨0, 0, 0, 0, 0⟩, b := ⟨0, 0, 0, 0, 0⟩, due := 0 }), by and_intros <;> decide +kernel⟩,
   ⟨State.reset, 0, 0, 0, 0, by decide +kernel⟩,
   ⟨{ (State.reset.setPar .ENTROPY_MODE 0 1) with cipher.entropyBad := true }, 0, by and_intros <;> decide +kernel⟩,
   ⟨(State.reset.setSlot 0 { draining := true }), 0, by and_intros <;> decide +kernel⟩,
   ⟨(State.reset.setSlot 0 { erasing := true }), 0, by decide +kernel⟩,
   ⟨((State.reset.setToken 0 { held := true }).setTerm 0 { state := .operation }), 0, by decide +kernel⟩,
   ⟨(State.reset.setTerm 0 { exchange := some ⟨1, 2⟩ }), 0, (⟨1, 2⟩), by and_intros <;> decide +kernel⟩,
   ⟨(State.reset.setTerm 0 { exchange := some ⟨1, 3⟩ }), 0, (⟨1, 3⟩), by and_intros <;> decide +kernel⟩⟩

theorem test_witness_KeyCommands :
    (∃ (s : State) (mb : Fin 16) (c : Cmd) (key : Nat), let w := bodyWord c 0
    let k := bits w 14 0
    (Starts s mb 0x0D01 c) ∧ (c.role = 0) ∧ (c.body.length = 44) ∧ ((∀ x ∈ c.body.drop 28, x = 0)) ∧ (16384 ≤ k) ∧ (k < 16512) ∧
      (bits w 21 15 = 0) ∧ (bit w 28 = false) ∧ (bits w 27 22 = 0) ∧ (c.key = some key) ∧ ((s.slot k).draining = false) ∧
      ((s.slot k).erasing = false) ∧ ((s.pair (slotPair k)).pending = none) ∧ (s.pair (slotPair k)).inForce ≠ slotIndex k ∧ (bit w 31 = false)) ∧
    (∃ (s : State) (mb : Fin 16) (c : Cmd), (Starts s mb 0x0D01 c) ∧ (18576 ≤ bits (bodyWord c 0) 14 0) ∧ (bits (bodyWord c 0) 14 0 ≤ 18583)) ∧
    (∃ (s : State) (mb : Fin 16) (c : Cmd) (k : Nat), (Starts s mb 0x0D02 c) ∧ (c.role = 0) ∧ (18584 ≤ k) ∧ (k < 18640) ∧
      ((s.slot k).erasing = false)) ∧
    (∃ (s : State) (mb : Fin 16) (c : Cmd) (l : List (Nat × Nat)), (Starts s mb 0x0D03 c) ∧ (l ≠ []) ∧ (l.length ≤ 64) ∧ ((∀ p ∈ l, p.1 < 18640))) ∧
    (∃ (s : State) (mb : Fin 16) (c : Cmd) (key : Nat), let w := bodyWord c 0
    let k := bits w 14 0
    (Starts s mb 0x0D04 c) ∧ (c.role = 0) ∧ (18584 ≤ k) ∧ (k < 18640) ∧ (bits w 21 15 = 0) ∧ (bit w 28 = false) ∧ (bits w 27 22 = 0) ∧
      (s.cipher.entropyBad = false) ∧ (c.key = some key) ∧ ((s.slot k).draining = false) ∧ ((s.slot k).erasing = false)) ∧
    (∃ (s : State) (mb : Fin 16) (c : Cmd), let w := bodyWord c 0
    (Starts s mb 0x0D04 c) ∧ (c.role = 0) ∧ (18584 ≤ bits w 14 0) ∧ (bits w 14 0 < 18640) ∧ (bits w 21 15 = 0) ∧ (bit w 28 = false) ∧
      (bits w 27 22 = 0) ∧ (s.cipher.entropyBad = true)) ∧
    (∃ (s : State) (mb : Fin 16) (c : Cmd) (n : Nat), (Starts s mb 0x0D05 c) ∧ (n < 8192) ∧ (stepping s n = false) ∧ (mayRekey s n = true)) ∧
    (∃ (s : State) (mb : Fin 16) (c : Cmd) (k : Nat) (n : Nat) (key : Nat), (Starts s mb 0x0D06 c) ∧ (16384 ≤ k) ∧ (k < 16512) ∧ (n < 8192) ∧
      (s.term n).state ≠ .free ∧ (slotKey s k = some key)) ∧
    (∃ (s : State) (mb : Fin 16) (c : Cmd) (k : Nat) (n : Nat) (key : Nat) (x : Nat) (d : List Byte), (Starts s mb 0x0D10 c) ∧ (18584 ≤ k) ∧
      (k < 18640) ∧ (d.length ≤ 3968) ∧ (4 ≤ n) ∧ (n ≤ 16) ∧ (slotKey s k = some key) ∧ (c.flags.testBit 0 = false)) ∧
    (∃ (s : State) (mb : Fin 16) (c : Cmd) (k : Nat) (n : Nat) (key : Nat) (x : Nat) (d : List Byte), (Starts s mb 0x0D10 c) ∧ (18584 ≤ k) ∧
      (k < 18640) ∧ (d.length ≤ 3968) ∧ (4 ≤ n) ∧ (n ≤ 16) ∧ (slotKey s k = some key) ∧ (c.flags.testBit 0 = true) ∧
      (beNat ((Config.cmac key d).take n) ≠ x)) ∧
    (∃ (s : State) (mb : Fin 16) (c : Cmd), (Starts s mb 0x0D20 c)) :=
  ⟨⟨(hosted State.reset (cmdOf 0x0D01 (bodyOf (16384 :: List.replicate 10 0)) 0 0 (some 7))), 0,
    (cmdOf 0x0D01 (bodyOf (16384 :: List.replicate 10 0)) 0 0 (some 7)), (7), ⟨rfl, rfl, by and_intros <;> decide +kernel⟩, by and_intros <;> decide +kernel⟩,
   ⟨(hosted State.reset (cmdOf 0x0D01 (bodyOf [18576]))), 0, (cmdOf 0x0D01 (bodyOf [18576])), ⟨rfl, rfl, by and_intros <;> decide +kernel⟩,
    by and_intros <;> decide +kernel⟩,
   ⟨(hosted State.reset (cmdOf 0x0D02)), 0, (cmdOf 0x0D02), (18584), ⟨rfl, rfl, by and_intros <;> decide +kernel⟩, by and_intros <;> decide +kernel⟩,
   ⟨(hosted State.reset (cmdOf 0x0D03)), 0, (cmdOf 0x0D03), ([(18639, 0)]), ⟨rfl, rfl, by and_intros <;> decide +kernel⟩, by and_intros <;> decide +kernel⟩,
   ⟨(hosted State.reset (cmdOf 0x0D04 (bodyOf [18584]) 0 0 (some 7))), 0, (cmdOf 0x0D04 (bodyOf [18584]) 0 0 (some 7)), (7), ⟨rfl, rfl,
    by and_intros <;> decide +kernel⟩, by and_intros <;> decide +kernel⟩,
   ⟨(hosted { State.reset with cipher.entropyBad := true } (cmdOf 0x0D04 (bodyOf [18584]))), 0, (cmdOf 0x0D04 (bodyOf [18584])), ⟨rfl, rfl,
    by and_intros <;> decide +kernel⟩, by and_intros <;> decide +kernel⟩,
   ⟨(hosted ((State.reset.setToken 0 { held := true }).setTerm 0 { state := .operation }) (cmdOf 0x0D05)), 0, (cmdOf 0x0D05), 0, ⟨rfl, rfl,
    by and_intros <;> decide +kernel⟩, by and_intros <;> decide +kernel⟩,
   ⟨(hosted ((State.reset.setTerm 0 { state := .absent }).setSlot 16384 { cur := some ⟨5, 0, false⟩ }) (cmdOf 0x0D06)), 0, (cmdOf 0x0D06), (16384), 0,
    (5), ⟨rfl, rfl, by and_intros <;> decide +kernel⟩, by and_intros <;> decide +kernel⟩,
   ⟨(hosted (State.reset.setSlot 18584 { cur := some ⟨5, 0, false⟩ }) (cmdOf 0x0D10)), 0, (cmdOf 0x0D10), (18584), (16), (5), 0, [], ⟨rfl, rfl,
    by and_intros <;> decide +kernel⟩, by and_intros <;> decide +kernel⟩,
   ⟨(hosted (State.reset.setSlot 18584 { cur := some ⟨5, 0, false⟩ }) (cmdOf 0x0D10 [] 1)), 0, (cmdOf 0x0D10 [] 1), (18584), (16), (5),
    (beNat ((Config.cmac 5 []).take 16) + 1), [], ⟨rfl, rfl, by and_intros <;> decide +kernel⟩, by decide +kernel, by decide +kernel,
    by decide +kernel, by decide +kernel, by decide +kernel, by decide +kernel, by decide +kernel, (by omega)⟩,
   ⟨(hosted State.reset (cmdOf 0x0D20)), 0, (cmdOf 0x0D20), ⟨rfl, rfl, by and_intros <;> decide +kernel⟩⟩⟩

theorem test_witness_UplinkRows :
    (∃ (s : State) (m : Fin 32), ((s.mac m).up = false) ∧ (macOn s m = true) ∧ ((s.mac m).faultAt = none) ∧ (pausing (s.mac m) = 0)) ∧
    (∃ (s : State) (m : Fin 32), ((s.mac m).up = true)) ∧
    (∃ (s : State) (m : Fin 32) (n : Nat), ((s.mac m).up = false) ∧ ((s.mac m).faultAt = some n) ∧ (s.up < n + s.getN .UPLINK_UP_HOLD m * 1000000)) ∧
    (∃ (s : State) (m : Fin 32), ((s.mac m).up = true) ∧ ((s.mac m).faults < 3)) ∧
    (∃ (s : State) (m : Fin 32), ((s.mac m).up = true) ∧ ((s.mac m).faults = 3)) ∧
    (∃ (s : State) (m : Fin 32), ((s.mac m).up = true)) ∧
    (∃ (s : State) (m : Fin 32), ((s.mac m).up = false)) ∧
    (∃ (s : State) (m : Fin 32) (q : Nat) (k : Fin 8), ((s.mac m).up = true) ∧ (s.getN .UPLINK_FC_MODE m = 2)) ∧
    (∃ (s : State) (m : Fin 32) (q : Nat), ((s.mac m).up = true) ∧ (s.getN .UPLINK_FC_MODE m = 1)) ∧
    (∃ (s : State) (m : Fin 32) (q : Nat) (l : List (Fin 8 × Nat)) (b : Bool), ((s.mac m).up = true) ∧ (s.getN .UPLINK_FC_MODE m = 0)) ∧
    (∃ (s : State) (m : Fin 32), (pausing (s.mac m) ≠ 0)) ∧
    (∃ (s : State) (m : Fin 32), (pausing (s.mac m) = 0)) ∧
    (∃ (s : State) (m : Nat) (n : Nat) (i : Nat) (p : Nat) (l : List (Nat × Nat × Nat × Nat)), (s.cipher.cutThrough = (m, n, i, p) :: l)) ∧
    (∃ (s : State) (n : Nat) (p : Nat) (a : Sa), (s.sa n = some a)) :=
  ⟨⟨(State.reset.setPar .UPLINK_ENABLE 0 1), 0, by and_intros <;> decide +kernel⟩,
   ⟨(State.reset.setMac 0 { up := true }), 0, by decide +kernel⟩,
   ⟨(State.reset.setMac 0 { faultAt := some 0 }), 0, 0, by and_intros <;> decide +kernel⟩,
   ⟨(State.reset.setMac 0 { up := true, faults := 2 }), 0, by and_intros <;> decide +kernel⟩,
   ⟨(State.reset.setMac 0 { up := true, faults := 3 }), 0, by and_intros <;> decide +kernel⟩,
   ⟨(State.reset.setMac 0 { up := true }), 0, by decide +kernel⟩,
   ⟨State.reset, 0, by decide +kernel⟩,
   ⟨((State.reset.setMac 0 { up := true }).setPar .UPLINK_FC_MODE 0 2), 0, 0, 0, by and_intros <;> decide +kernel⟩,
   ⟨((State.reset.setMac 0 { up := true }).setPar .UPLINK_FC_MODE 0 1), 0, 0, by and_intros <;> decide +kernel⟩,
   ⟨((State.reset.setMac 0 { up := true }).setPar .UPLINK_FC_MODE 0 0), 0, 0, [], false, by and_intros <;> decide +kernel⟩,
   ⟨(State.reset.setMac 0 { freezes := [(0, 3)] }), 0, by decide +kernel⟩,
   ⟨State.reset, 0, by decide +kernel⟩,
   ⟨{ State.reset with cipher.cutThrough := [(1, 2, 3, 4)] }, (1), (2), (3), (4), [], by decide +kernel⟩,
   ⟨(State.reset.setSa 3 (some ⟨0, none, 0, true, false, 1, 0, false, false, []⟩)), (3), 0, (⟨0, none, 0, true, false, 1, 0, false, false, []⟩),
    by decide +kernel⟩⟩

theorem test_witness_UplinkCommands :
    (∃ (s : State) (mb : Fin 16) (c : Cmd) (b : Nat) (n : Nat), (Starts s mb 0x0E01 c) ∧ (n ≠ 0) ∧ (b + n ≤ 32)) ∧
    (∃ (s : State) (mb : Fin 16) (c : Cmd) (m : Nat) (l : List Nat), (Starts s mb 0x0E02 c) ∧ (m < 32)) ∧
    (∃ (s : State) (mb : Fin 16) (c : Cmd) (p : Nat), (Starts s mb 0x0E03 c) ∧ (p < 4)) ∧
    (∃ (s : State) (mb : Fin 16) (c : Cmd) (m : Nat) (x : Nat), (Starts s mb 0x0E10 c) ∧ (m < 32) ∧ (macUsed s m = true) ∧
      ((s.mac m).scs.contains x = false) ∧ ((s.mac m).scs.length < 15)) ∧
    (∃ (s : State) (mb : Fin 16) (c : Cmd) (m : Nat) (x : Nat), (Starts s mb 0x0E10 c) ∧ (m < 32) ∧ (macUsed s m = true) ∧
      ((s.mac m).scs.contains x = false)) ∧
    (∃ (s : State) (mb : Fin 16) (c : Cmd) (n : Nat) (m : Nat) (a : Nat) (p : Nat), (Starts s mb 0x0E11 c) ∧ (n < 2048) ∧ (m < 32) ∧ (a < 4) ∧
      (p < 2 ^ 32) ∧ (macUsed s m = true) ∧ ((s.slot (16512 + n)).cur.isSome = true) ∧ (s.fwd.sas = [])) ∧
    (∃ (s : State) (mb : Fin 16) (c : Cmd) (n : Nat) (m : Nat) (a : Nat) (p : Nat) (x : Option Nat), (Starts s mb 0x0E11 c) ∧ (n < 2048) ∧
      (m < 32) ∧ (a < 4) ∧ (p < 2 ^ 32) ∧ (macUsed s m = true) ∧ ((∀ k, x = some k → (s.mac m).scs.contains k = true)) ∧
      ((s.slot (16512 + n)).cur = none)) ∧
    (∃ (s : State) (mb : Fin 16) (c : Cmd) (n : Nat) (a : Sa), (Starts s mb 0x0E12 c) ∧ (n < 2048) ∧ (s.sa n = some a)) :=
  ⟨⟨(hosted State.reset (cmdOf 0x0E01)), 0, (cmdOf 0x0E01), 0, (32), ⟨rfl, rfl, by and_intros <;> decide +kernel⟩, by and_intros <;> decide +kernel⟩,
   ⟨(hosted State.reset (cmdOf 0x0E02)), 0, (cmdOf 0x0E02), (31), [], ⟨rfl, rfl, by and_intros <;> decide +kernel⟩, by decide +kernel⟩,
   ⟨(hosted State.reset (cmdOf 0x0E03)), 0, (cmdOf 0x0E03), (3), ⟨rfl, rfl, by and_intros <;> decide +kernel⟩, by decide +kernel⟩,
   ⟨(hosted State.reset (cmdOf 0x0E10)), 0, (cmdOf 0x0E10), 0, 0, ⟨rfl, rfl, by and_intros <;> decide +kernel⟩, by and_intros <;> decide +kernel⟩,
   ⟨(hosted State.reset (cmdOf 0x0E10)), 0, (cmdOf 0x0E10), 0, 0, ⟨rfl, rfl, by and_intros <;> decide +kernel⟩, by and_intros <;> decide +kernel⟩,
   ⟨(hosted (State.reset.setSlot 18559 { cur := some ⟨5, 0, false⟩ }) (cmdOf 0x0E11)), 0, (cmdOf 0x0E11), (2047), 0, (3), (4294967295), ⟨rfl, rfl,
    by and_intros <;> decide +kernel⟩, by and_intros <;> decide +kernel⟩,
   ⟨(hosted State.reset (cmdOf 0x0E11)), 0, (cmdOf 0x0E11), (2047), 0, (3), (4294967295), none, ⟨rfl, rfl, by and_intros <;> decide +kernel⟩,
    by decide +kernel, by decide +kernel, by decide +kernel, by decide +kernel, by decide +kernel, (by intro k h; cases h), by decide +kernel⟩,
   ⟨(hosted (State.reset.setSa 2047 (some ⟨0, none, 0, true, false, 1, 0, false, false, []⟩)) (cmdOf 0x0E12)), 0, (cmdOf 0x0E12), (2047), (⟨0, none, 0,
    true, false, 1, 0, false, false, []⟩), ⟨rfl, rfl, by and_intros <;> decide +kernel⟩, by and_intros <;> decide +kernel⟩⟩

theorem test_witness_TetherRows :
    (∃ (s : State) (i : Fin 34) (b : BitVec 2048) (k : Nat), (i.val % 17 < 15) ∧ (tetherAsleep s (i / 17) 1 = false) ∧
      (underTest 2 (s.lane 2 i) = false) ∧ ((s.tlane i).inFrame = true) ∧ ((s.tlane i).skew = k) ∧ (let w := (s.tlane i).past * 2 ^ 2048 + b.toNat
    (bitErrors (patternAt w (s.tlane i).pos) (lanePattern i) ≤ 3))) ∧
    (∃ (s : State) (i : Fin 34) (b : BitVec 2048) (k : Nat), (i.val % 17 < 15) ∧ (tetherAsleep s (i / 17) 1 = false) ∧
      (underTest 2 (s.lane 2 i) = false) ∧ ((s.tlane i).inFrame = true) ∧ ((s.tlane i).skew = k) ∧ (let w := (s.tlane i).past * 2 ^ 2048 + b.toNat
    (3 < bitErrors (patternAt w (s.tlane i).pos) (lanePattern i)))) ∧
    (∃ (s : State) (i : Fin 34) (b : BitVec 2048) (k : Nat), (i.val % 17 = 16)) ∧
    (∃ (v : TetherLane) (p : Nat), (v.cands = [(p, 2)])) ∧
    (∃ (s : State) (p : Fin 2), (s.getN .TETHER_SLEEP_EN p = 1) ∧ (joined s = false) ∧ (portUp s p = true) ∧ (portUp s (1 - p) = true) ∧
      (tetherAsleep s (1 - p) 0 = false) ∧ (tetherAsleep s p 0 = false)) ∧
    (∃ (s : State) (p : Fin 2) (r : Bool), (s.getN .TETHER_SLEEP_EN p = 0)) ∧
    (∃ (s : State) (k : Fin 4) (b : Byte), (pinsIgnored s = false) ∧ ((s.smpOf k).toTether.length < 64)) ∧
    (∃ (s : State) (k : Fin 4) (b : Byte), (pinsIgnored s = false) ∧ (64 ≤ (s.smpOf k).toTether.length)) ∧
    (∃ (s : State) (p : Fin 2) (g : Fin 4) (x : TetherRx) (rs : List MirrorRec), ((s.tgroup (4 * p.val + g.val)).up = true) ∧
      (x.payload = .mirror rs) ∧ (x.tagGood = true) ∧ ((s.takeGroup (4 * p.val + g.val)).1 = false) ∧ (let k := tetherKey s p 1 true
    let key := genKey (s.slot (18560 + k)) x.gen
    let r := (s.takeGroup (4 * p.val + g.val)).2.receiveWork regH key (aesBlocks (16 * rs.length) + 2)
    let i := (k * 8 + (4 * p.val + g.val)) * 2 + b2n x.gen
    (key ≠ none) ∧ (s.prot.rxCounters.get i = none) ∧ (r.1 = true))) ∧
    (∃ (s : State) (p : Fin 2) (g : Fin 4) (x : TetherRx) (rs : List MirrorRec), ((s.tgroup (4 * p.val + g.val)).up = true) ∧
      (x.payload = .mirror rs) ∧ (x.tagGood = false)) ∧
    (∃ (s : State) (p : Fin 2) (g : Fin 4) (n : Nat) (x : TetherRx), ((s.tgroup (4 * p.val + g.val)).up = false)) :=
  ⟨⟨(State.reset.setTlane 1 { inFrame := true, pos := 63 }), (1), (BitVec.ofNat 2048 (lanePattern 1 * 2 ^ 1984)), 0, by and_intros <;> decide +kernel⟩,
   ⟨(State.reset.setTlane 1 { inFrame := true, pos := 7 }), (1), 0, 0, by and_intros <;> decide +kernel⟩,
   ⟨State.reset, (16), 0, 0, by decide +kernel⟩,
   ⟨({ cands := [(9, 2)] }), (9), by decide +kernel⟩,
   ⟨{ (State.reset.setPar .TETHER_SLEEP_EN 0 1) with prot.groups := [(0, { up := true }), (4, { up := true })] }, 0, by and_intros <;> decide +kernel⟩,
   ⟨(State.reset.setPar .TETHER_SLEEP_EN 0 0), 0, false, by decide +kernel⟩,
   ⟨State.reset, 0, 0, by and_intros <;> decide +kernel⟩,
   ⟨(State.reset.setSmp 0 { toTether := List.replicate 64 0 }), 0, 0, by and_intros <;> decide +kernel⟩,
   ⟨{ (State.reset.setSlot 18564 { cur := some ⟨5, 0, false⟩ }) with prot.groups := [(0, { up := true })] }, 0, 0,
    ({ counter := 1, gen := false, tagGood := true, payload := .mirror [] }), [], by and_intros <;> decide +kernel⟩,
   ⟨{ State.reset with prot.groups := [(0, { up := true })] }, 0, 0, ({ counter := 1, gen := false, tagGood := false, payload := .mirror [] }), [],
    by and_intros <;> decide +kernel⟩,
   ⟨State.reset, 0, 0, 0, ({ counter := 1, gen := false, tagGood := true, payload := .idle }), by decide +kernel⟩⟩

theorem test_witness_PairRows :
    (∃ (s : State), (commitDue { s with prot.msgCount := s.prot.msgCount + 1 } = false) ∧ (portUp s 0 = true) ∧ ((slotKey s 18572).isSome = true)) ∧
    (∃ (s : State) (p : Fin 2) (m : PairMsg) (h : Nat) (r : Nat) (n : Nat), (slotKey s (18572 + p.val) ≠ none) ∧ ((∀ k,
      s.prot.lastAccepted = some k → k < m.count)) ∧ (s.prot.paired = false) ∧ (s.prot.keySlot = none)) ∧
    (∃ (s : State) (k : Nat), (s.prot.keySlot = some k) ∧ (s.prot.keyCommit = none)) ∧
    (∃ (s : State) (r : MirrorRec) (l : List MirrorRec), (s.prot.mirrorIn = r :: l) ∧ (s.prot.paired = true) ∧ (r.stream < 32) ∧
      (holds s r.stream = false)) ∧
    (∃ (s : State) (r : MirrorRec), (r.stream < 32) ∧ (r.seq ≠ ((s.stream r.stream).applied + 1) % 2 ^ 32) ∧ (isBulkBegin r.body = false)) ∧
    (∃ (s : State), (s.prot.fenced = false) ∧ ((∃ n, s.prot.hbRefreshed = some n ∧ s.up - n ≤ 2 * msec))) ∧
    (∃ (s : State) (n : Nat), (s.prot.hbRefreshed = some n) ∧ (2 * msec < s.up - n)) ∧
    (∃ (s : State), (s.fw.pairB = false) ∧ (s.fw.stateA = .active)) ∧
    (∃ (s : State), (s.prot.fenced = false)) :=
  ⟨⟨{ (State.reset.setSlot 18572 { cur := some ⟨5, 0, false⟩ }) with prot.groups := [(0, { up := true })] }, by and_intros <;> decide +kernel⟩,
   ⟨{ (State.reset.setSlot 18572 { cur := some ⟨5, 0, false⟩ }) with prot.lastAccepted := some 1 }, 0, ({ count := 2 }), 0, 0, 0, by decide +kernel,
    (by intro k h; cases h; decide), by and_intros <;> decide +kernel⟩,
   ⟨{ State.reset with prot.keySlot := some 3 }, (3), by and_intros <;> decide +kernel⟩,
   ⟨{ State.reset with prot.paired := true, prot.mirrorIn := [⟨31, 0, 1, 0, false, .checkpoint⟩] }, (⟨31, 0, 1, 0, false, .checkpoint⟩), [],
    by and_intros <;> decide +kernel⟩,
   ⟨State.reset, (⟨31, 0, 2, 0, false, .checkpoint⟩), by and_intros <;> decide +kernel⟩,
   ⟨{ State.reset with prot.hbRefreshed := some 0, time.up := 2 * msec * 2 ^ 32 }, by decide +kernel, ⟨0, by decide +kernel⟩⟩,
   ⟨{ State.reset with prot.hbRefreshed := some 0, time.up := (2 * msec + 1) * 2 ^ 32 }, 0, by and_intros <;> decide +kernel⟩,
   ⟨State.reset, by and_intros <;> decide +kernel⟩,
   ⟨State.reset, by decide +kernel⟩⟩

theorem test_witness_SilenceRows :
    (∃ (s : State), (pinsIgnored s = false) ∧ (anyUp s = true)) ∧
    (∃ (s : State), (pinsIgnored s = true)) ∧
    (∃ (s : State), (pinsIgnored s = false) ∧ (anyUp s = false)) ∧
    (∃ (s : State), (s.prot.paired = true) ∧ (anyUp s = false) ∧ (s.prot.silent = false) ∧ (s.getN .PROT_AUTO_DEAD = 0)) ∧
    (∃ (s : State), (s.prot.paired = true) ∧ (anyUp s = false) ∧ (s.prot.silent = false) ∧ (s.getN .PROT_AUTO_DEAD = 1) ∧
      (s.prot.heldState = false) ∧ (tokenAllowed { s with prot.silent := true, prot.wasSilent := true } = true)) ∧
    (∃ (s : State) (n : Nat), ((s.token n).held = false) ∧ ((s.token n).readyAtLoss = true)) ∧
    (∃ (s : State) (n : Fin 32), (releasing (s.token n) = true)) ∧
    (∃ (s : State) (n : Fin 32) (k : Commission), (s.prot.commission.get n = some k) ∧ (k.diffs.length < 4)) ∧
    (∃ (s : State) (n : Fin 32) (k : Commission), (s.prot.commission.get n = some k) ∧ (4 ≤ k.diffs.length)) :=
  ⟨⟨{ State.reset with prot.groups := [(0, { up := true })] }, by and_intros <;> decide +kernel⟩,
   ⟨{ State.reset with power.dev := .off }, by decide +kernel⟩,
   ⟨State.reset, by and_intros <;> decide +kernel⟩,
   ⟨({ State.reset with prot.paired := true }.setPar .PROT_AUTO_DEAD 0 0), by and_intros <;> decide +kernel⟩,
   ⟨({ State.reset with prot.paired := true, power.dev := .active }.setPar .PROT_AUTO_DEAD 0 1), by and_intros <;> decide +kernel⟩,
   ⟨(State.reset.setToken 31 { readyAtLoss := true }), (31), by and_intros <;> decide +kernel⟩,
   ⟨(State.reset.setToken 0 { held := true, release := .released 5 }), 0, by decide +kernel⟩,
   ⟨{ State.reset with prot.commission := [(0, some { terms := [1], diffs := [5, 6, 7] })] }, 0, ({ terms := [1], diffs := [5, 6, 7] }),
    by and_intros <;> decide +kernel⟩,
   ⟨{ State.reset with prot.commission := [(0, some { terms := [1], diffs := [5, 6, 7, 8] })] }, 0, ({ terms := [1], diffs := [5, 6, 7, 8] }),
    by and_intros <;> decide +kernel⟩⟩

theorem test_witness_ProtectionCommands :
    (∃ (s : State) (mb : Fin 16) (c : Cmd), (Starts s mb 0x0F01 c)) ∧
    (∃ (s : State) (mb : Fin 16) (c : Cmd) (p : Nat), (Starts s mb 0x0F02 c) ∧ (p < 2) ∧ (anyUnderTest s 2 (fun i => i / 17 == p) = false)) ∧
    (∃ (s : State) (mb : Fin 16) (c : Cmd) (a : Bool) (b : Bool), (Starts s mb 0x0F10 c)) ∧
    (∃ (s : State) (mb : Fin 16) (c : Cmd) (n : Nat), (Starts s mb 0x0F11 c) ∧ (n < 32) ∧ (s.prot.paired = true) ∧ (runs s n = true) ∧
      (s.prot.commission.get n = none)) ∧
    (∃ (s : State) (mb : Fin 16) (c : Cmd) (l : List Nat), (Starts s mb 0x0F12 c) ∧ (l ≠ []) ∧ ((∀ n ∈ l, n < 32)) ∧ (s.prot.paired = true) ∧
      (s.prot.heldState = false) ∧ ((∀ n ∈ l, runs s n = true)) ∧ ((∀ n ∈ l, peerCanTake s n = true))) ∧
    (∃ (s : State) (mb : Fin 16) (c : Cmd) (n : Nat), (Starts s mb 0x0F13 c) ∧ (n < 32) ∧ (s.prot.heldState = false) ∧
      (tokenAllowed (begun s mb c) = true) ∧ ((s.token n).held = false) ∧ ((s.token n).release = .none) ∧ (claimRefused s n = none)) ∧
    (∃ (s : State) (mb : Fin 16) (c : Cmd) (n : Nat), (Starts s mb 0x0F13 c) ∧ (n < 32) ∧ (s.prot.heldState = true)) ∧
    (∃ (s : State) (mb : Fin 16) (c : Cmd), (Starts s mb 0x0F14 c)) ∧
    (∃ (s : State) (mb : Fin 16) (c : Cmd), (Starts s mb 0x0F15 c)) ∧
    (∃ (s : State) (mb : Fin 16) (c : Cmd) (n : Nat), (Starts s mb 0x0F16 c) ∧ (n < 32) ∧ (s.prot.paired = true) ∧ (holds s n = false)) :=
  ⟨⟨(hosted State.reset (cmdOf 0x0F01)), 0, (cmdOf 0x0F01), ⟨rfl, rfl, by and_intros <;> decide +kernel⟩⟩,
   ⟨(hosted State.reset (cmdOf 0x0F02)), 0, (cmdOf 0x0F02), (1), ⟨rfl, rfl, by and_intros <;> decide +kernel⟩, by and_intros <;> decide +kernel⟩,
   ⟨(hosted State.reset (cmdOf 0x0F10)), 0, (cmdOf 0x0F10), false, false, ⟨rfl, rfl, by and_intros <;> decide +kernel⟩⟩,
   ⟨(hosted ({ State.reset with prot.paired := true }.setToken 31 { held := true }) (cmdOf 0x0F11)), 0, (cmdOf 0x0F11), (31), ⟨rfl, rfl,
    by and_intros <;> decide +kernel⟩, by and_intros <;> decide +kernel⟩,
   ⟨(hosted ({ State.reset with prot.paired := true, prot.peer := some { ready := List.replicate 32 true, health := List.replicate 32 true } }.setToken 31 { held := true }) (cmdOf 0x0F12)), 0, (cmdOf 0x0F12), ([31]), ⟨rfl, rfl, by and_intros <;> decide +kernel⟩, by and_intros <;> decide +kernel⟩,
   ⟨(hosted { State.reset with power.dev := .active } (cmdOf 0x0F13)), 0, (cmdOf 0x0F13), (31), ⟨rfl, rfl, by and_intros <;> decide +kernel⟩,
    by and_intros <;> decide +kernel⟩,
   ⟨(hosted { State.reset with prot.heldState := true } (cmdOf 0x0F13)), 0, (cmdOf 0x0F13), (31), ⟨rfl, rfl, by and_intros <;> decide +kernel⟩,
    by and_intros <;> decide +kernel⟩,
   ⟨(hosted State.reset (cmdOf 0x0F14)), 0, (cmdOf 0x0F14), ⟨rfl, rfl, by and_intros <;> decide +kernel⟩⟩,
   ⟨(hosted State.reset (cmdOf 0x0F15)), 0, (cmdOf 0x0F15), ⟨rfl, rfl, by and_intros <;> decide +kernel⟩⟩,
   ⟨(hosted { State.reset with prot.paired := true } (cmdOf 0x0F16)), 0, (cmdOf 0x0F16), (31), ⟨rfl, rfl, by and_intros <;> decide +kernel⟩,
    by and_intros <;> decide +kernel⟩⟩

theorem test_witness_MailboxRows :
    (∃ (s : State) (n : Fin 16), ((s.mbox n).state = .idle)) ∧
    (∃ (s : State) (n : Fin 16), (s.mbox n).state ≠ .idle) ∧
    (∃ (s : State) (n : Fin 16) (l : List Obj), (3 < s.power.stage) ∧ (pairActive s = true) ∧ ((s.mbox n).state = .posted)) ∧
    (∃ (s : State) (n : Fin 16) (l : List Obj), (pairActive s = false)) ∧
    (∃ (s : State) (n : Fin 16), ((s.mbox n).state = .respReady)) ∧
    (∃ (s : State) (n : Fin 16), (s.mbox n).state ≠ .respReady) ∧
    (∃ (s : State) (a : Nat) (v : Word) (b : Bool), (a % 4 = 0)) ∧
    (∃ (s : State) (a : Nat) (n : Nat) (v : Word) (b : Bool), (n ≠ 4 ∨ a % 4 ≠ 0)) ∧
    (∃ (s : State) (n : Fin 16) (v : Word) (b : Bool), (v.toNat.testBit 0 = true)) ∧
    (∃ (s : State) (n : Nat), (n < 16)) ∧
    (∃ (s : State) (a : Nat), (0x30400 ≤ a) ∧ (a < 0x40000)) ∧
    (∃ (s : State) (o : Fin 67108864), ((s.role 0).session = none) ∧ ((s.role 1).session = none) ∧ ((s.role 2).session = none)) :=
  ⟨⟨State.reset, 0, by decide +kernel⟩,
   ⟨(State.reset.setMbox 0 { state := .running }), 0, by decide +kernel⟩,
   ⟨({ State.reset with power.stage := 4 }.setMbox 0 { state := .posted }), 0, [], by and_intros <;> decide +kernel⟩,
   ⟨{ State.reset with fw.stateA := .restarting }, 0, [], by decide +kernel⟩,
   ⟨(State.reset.setMbox 0 { state := .respReady }), 0, by decide +kernel⟩,
   ⟨State.reset, 0, by decide +kernel⟩,
   ⟨State.reset, 0, 0, false, by decide +kernel⟩,
   ⟨State.reset, 0, 0, 0, false, Or.inl (by decide)⟩,
   ⟨State.reset, 0, (1), false, by decide +kernel⟩,
   ⟨State.reset, 0, by decide +kernel⟩,
   ⟨State.reset, (0x30400), by and_intros <;> decide +kernel⟩,
   ⟨State.reset, 0, by and_intros <;> decide +kernel⟩⟩

theorem test_witness_DmaRows :
    (∃ (s : State) (c : Fin 64), (s.ch c).func ≠ 0 ∧ ((s.ch c).enable = false)) ∧
    (∃ (s : State) (c : Fin 64), (s.ch c).func ≠ 0 ∧ ((s.ch c).enable = true)) ∧
    (∃ (s : State) (c : Fin 64), (s.ch c).func ≠ 0) ∧
    (∃ (s : State) (c : Fin 64), (s.ch c).func ≠ 0 ∧ ((s.ch c).state = .stopped)) ∧
    (∃ (s : State) (c : Fin 64) (n : BitVec 16), (s.ch c).func ≠ 0) ∧
    (∃ (s : State) (c : Fin 64) (b : Bool), (s.ch c).func ≠ 0) ∧
    (∃ (s : State) (c : Fin 64) (n : BitVec 16) (b : Bool), ((s.ch c).func = 0)) ∧
    (∃ (s : State) (f : Fin 5) (m : DmaMsg) (l : List (Nat × DmaMsg)) (c : Nat), (takeStaged f s.host.staged = some (m, l)) ∧
      (nextChannel s f = some c) ∧ (m.buf.isSome = true) ∧ (queueBytes (s.ch c) + m.len ≤ dmaLimit s c)) ∧
    (∃ (s : State) (f : Fin 5) (m : DmaMsg) (l : List (Nat × DmaMsg)) (c : Nat), (takeStaged f s.host.staged = some (m, l)) ∧
      (nextChannel s f = some c) ∧ (m.buf.isSome = true) ∧ (dmaLimit s c < queueBytes (s.ch c) + m.len)) ∧
    (∃ (s : State) (f : Fin 5) (m : DmaMsg) (l : List (Nat × DmaMsg)) (c : Nat), (takeStaged f s.host.staged = some (m, l)) ∧
      (nextChannel s f = some c) ∧ (m.buf = none)) ∧
    (∃ (s : State) (c : Fin 64) (w : List Word) (i : List Word), (mayTake c (s.ch c) = true) ∧ ((s.ch c).rereads = none) ∧
      (((w.getD 0 0).toNat).testBit 31 = true)) ∧
    (∃ (s : State) (c : Fin 64) (w : List Word) (i : List Word), (descFails w = false)) ∧
    (∃ (s : State) (c : Fin 64) (w : List Word) (i : List Word), (mayTake c (s.ch c) = true) ∧ ((s.ch c).rereads = none) ∧
      (((w.getD 0 0).toNat).testBit 31 = false)) ∧
    (∃ (s : State) (c : Fin 64) (w : List Word) (i : List Word) (n : Nat), (mayTake c (s.ch c) = true) ∧ ((s.ch c).rereads = some n) ∧
      (((w.getD 0 0).toNat).testBit 31 = true)) ∧
    (∃ (s : State) (c : Fin 64) (w : List Word) (i : List Word), (mayTake c (s.ch c) = true) ∧ ((s.ch c).rereads = some 2) ∧
      (((w.getD 0 0).toNat).testBit 31 = false)) :=
  ⟨⟨(State.reset.setCh 0 { func := 1 }), 0, by and_intros <;> decide +kernel⟩,
   ⟨(State.reset.setCh 0 { func := 1, enable := true }), 0, by and_intros <;> decide +kernel⟩,
   ⟨(State.reset.setCh 0 { func := 1 }), 0, by decide +kernel⟩,
   ⟨(State.reset.setCh 0 { func := 1, state := .stopped }), 0, by and_intros <;> decide +kernel⟩,
   ⟨(State.reset.setCh 0 { func := 1 }), 0, 0, by decide +kernel⟩,
   ⟨(State.reset.setCh 0 { func := 1 }), 0, false, by decide +kernel⟩,
   ⟨State.reset, 0, 0, false, by decide +kernel⟩,
   ⟨{ (State.reset.setCh 0 { func := 1, enable := true }) with host.staged := [(1, { len := 64, meta_ := 0, payload := .frame { id := 1, len := 64 }, buf := some ⟨0, 1, false⟩ })] }, (1), ({ len := 64, meta_ := 0, payload := .frame { id := 1, len := 64 }, buf := some ⟨0, 1, false⟩ }), [], 0, by and_intros <;> decide +kernel⟩,
   ⟨{ (State.reset.setCh 0 { func := 1, enable := true, queue := [{ len := 10 ^ 9, meta_ := 0, payload := .frame { id := 1, len := 64 }, buf := some ⟨0, 1, false⟩ }] }) with host.staged := [(1, { len := 64, meta_ := 0, payload := .frame { id := 1, len := 64 }, buf := some ⟨0, 1, false⟩ })] }, (1), ({ len := 64, meta_ := 0, payload := .frame { id := 1, len := 64 }, buf := some ⟨0, 1, false⟩ }), [], 0, by and_intros <;> decide +kernel⟩,
   ⟨{ (State.reset.setCh 0 { func := 1, enable := true }) with host.staged := [(1, { len := 64, meta_ := 0, payload := .frame { id := 1, len := 64 } })] }, (1), ({ len := 64, meta_ := 0, payload := .frame { id := 1, len := 64 } }), [], 0, by and_intros <;> decide +kernel⟩,
   ⟨(State.reset.setCh 32 { func := 1, enable := true, state := .idle, tail := 3 }), (32), ([0x80000000]), [], by and_intros <;> decide +kernel⟩,
   ⟨State.reset, 0, ([1, 0, 0, 0, 0, 0, 0, 0]), [], by decide +kernel⟩,
   ⟨(State.reset.setCh 32 { func := 1, enable := true, state := .idle, tail := 3 }), (32), ([0]), [], by and_intros <;> decide +kernel⟩,
   ⟨(State.reset.setCh 32 { func := 1, enable := true, state := .idle, tail := 3, rereads := some 1 }), (32), ([0x80000000]), [], (1),
    by and_intros <;> decide +kernel⟩,
   ⟨(State.reset.setCh 32 { func := 1, enable := true, state := .idle, tail := 3, rereads := some 2 }), (32), ([0]), [], by and_intros <;> decide +kernel⟩⟩

theorem test_witness_DmaBursts :
    (∃ (s : State) (c : Fin 64) (l : List Byte) (r : DescRun), (32 ≤ c.val) ∧ ((s.ch c).run = some r) ∧ (chRunning (s.ch c) = true) ∧
      (mayBurst (s.ch c) = true) ∧ ((s.ch c).burstEnded = false)) ∧
    (∃ (s : State) (c : Fin 64) (l : List Byte) (r : DescRun) (m : DmaMsg) (q : List DmaMsg), (c.val < 32) ∧ ((s.ch c).run = some r) ∧
      (chRunning (s.ch c) = true) ∧ (mayBurst (s.ch c) = true) ∧ ((s.ch c).burstEnded = false) ∧ ((s.ch c).queue = m :: q)) ∧
    (∃ (r : DescRun) (n : Nat), (r.elem = 0) ∧ (n ≠ 0)) ∧
    (∃ (r : DescRun) (n : Nat), (n ≠ 0) ∧ (r.elem ≠ 0) ∧ (n ≤ r.elem - r.moved % r.elem)) ∧
    (∃ (s : State) (c : Fin 64), ((s.ch c).oper.fallback % 2 = 1) ∧ (chRunning (s.ch c) = true) ∧ (holdsWork s c = true)) ∧
    (∃ (s : State) (c : Fin 64) (r : DescRun) (m : DmaMsg) (q : List DmaMsg), (c.val < 32) ∧ ((s.ch c).run = some r) ∧ (chRunning (s.ch c) = true) ∧
      ((s.ch c).burstEnded = true) ∧ ((s.ch c).queue = m :: q) ∧ ((s.ch c).msgMoved < m.len) ∧ ((s.ch c).msgDescs < 63)) ∧
    (∃ (s : State) (c : Fin 64), (s.ch c).uncovered ≠ 0) ∧
    (∃ (s : State) (c : Fin 64) (b : Bool), (chRunning (s.ch c) = true) ∧ ((s.ch c).run = none)) ∧
    (∃ (s : State) (mb : Fin 16) (c : Cmd) (n : Nat) (f : Nat), (Starts s mb 0x1001 c) ∧ (c.role = 0) ∧ (n < 32) ∧ (1 ≤ f) ∧ (f ≤ 4) ∧
      ((s.ch n).state = .disabled)) ∧
    (∃ (s : State) (mb : Fin 16) (c : Cmd) (n : Nat), (Starts s mb 0x1001 c) ∧ (c.role = 1)) ∧
    (∃ (s : State) (mb : Fin 16) (c : Cmd) (n : Nat), (Starts s mb 0x1002 c) ∧ (c.role = 0) ∧ (n < 64) ∧ (s.ch n).func ≠ 0 ∧ ((s.ch n).func ≤ 4)) ∧
    (∃ (s : State) (mb : Fin 16) (c : Cmd), (Starts s mb 0x1003 c)) :=
  ⟨⟨(State.reset.setCh 32 { func := 1, enable := true, state := .active, req := true, run := some ({ index := 0, length := 4096, irq := false, sop := true, eop := true, meta_ := 0 }) }), (32), [], ({ index := 0, length := 4096, irq := false, sop := true, eop := true, meta_ := 0 }), by and_intros <;> decide +kernel⟩,
   ⟨(State.reset.setCh 31 { func := 1, enable := true, state := .active, req := true, run := some ({ index := 0, length := 4096, irq := false, sop := true, eop := true, meta_ := 0 }), queue := [{ len := 64, meta_ := 0, payload := .frame { id := 1, len := 64 } }] }), (31), [], ({ index := 0, length := 4096, irq := false, sop := true, eop := true, meta_ := 0 }), ({ len := 64, meta_ := 0, payload := .frame { id := 1, len := 64 } }), [], by and_intros <;> decide +kernel⟩,
   ⟨({ index := 0, length := 4096, irq := false, sop := true, eop := true, meta_ := 0 }), (1), by and_intros <;> decide +kernel⟩,
   ⟨({ index := 0, length := 4096, irq := false, sop := true, eop := true, meta_ := 0, elem := 4 }), (4), by and_intros <;> decide +kernel⟩,
   ⟨(State.reset.setCh 0 { func := 1, enable := true, state := .idle, oper := { fallback := 1 }, queue := [{ len := 64, meta_ := 0, payload := .frame { id := 1, len := 64 } }] }), 0, by and_intros <;> decide +kernel⟩,
   ⟨(State.reset.setCh 31 { func := 1, enable := true, state := .active, burstEnded := true, run := some ({ index := 0, length := 4096, irq := false, sop := true, eop := true, meta_ := 0 }), queue := [{ len := 64, meta_ := 0, payload := .frame { id := 1, len := 64 } }], msgDescs := 62, msgMoved := 63 }), (31), ({ index := 0, length := 4096, irq := false, sop := true, eop := true, meta_ := 0 }), ({ len := 64, meta_ := 0, payload := .frame { id := 1, len := 64 } }), [], by and_intros <;> decide +kernel⟩,
   ⟨(State.reset.setCh 0 { uncovered := 1 }), 0, by decide +kernel⟩,
   ⟨(State.reset.setCh 0 { func := 1, enable := true, state := .idle }), 0, false, by and_intros <;> decide +kernel⟩,
   ⟨(hosted State.reset (cmdOf 0x1001)), 0, (cmdOf 0x1001), (31), (4), ⟨rfl, rfl, by and_intros <;> decide +kernel⟩, by and_intros <;> decide +kernel⟩,
   ⟨(hosted State.reset (cmdOf 0x1001 [] 0 1)), 0, (cmdOf 0x1001 [] 0 1), 0, ⟨rfl, rfl, by and_intros <;> decide +kernel⟩, by decide +kernel⟩,
   ⟨(hosted (State.reset.setCh 63 { func := 4 }) (cmdOf 0x1002)), 0, (cmdOf 0x1002), (63), ⟨rfl, rfl, by and_intros <;> decide +kernel⟩,
    by and_intros <;> decide +kernel⟩,
   ⟨(hosted State.reset (cmdOf 0x1003)), 0, (cmdOf 0x1003), ⟨rfl, rfl, by and_intros <;> decide +kernel⟩⟩⟩

theorem test_witness_ParamCommands :
    (∃ (s : State) (mb : Fin 16) (c : Cmd), (Starts s mb 0x0101 c)) ∧
    (∃ (s : State) (mb : Fin 16) (c : Cmd) (l : List ParEntry), (Starts s mb 0x0102 c) ∧ (entriesOfBody c = some l) ∧
      (let r := runEntries (readEntry (begun s mb c) true) (begun s mb c) 0 l
    (r.2.2.1 = none))) ∧
    (∃ (s : State) (u : State) (e : ParEntry) (p : Param), (entryParam e = .ok p) ∧ (p.info.sinceRead = false)) ∧
    (∃ (s : State) (mb : Fin 16) (c : Cmd) (e : ParEntry) (p : Param), (Starts s mb 0x0103 c) ∧ (entriesOfBody c = some [e]) ∧
      (c.flags.testBit 0 = false) ∧ (entryRefusal (begun s mb c) c.role e = .ok p) ∧
      (constraintFault ((begun s mb c).writePar p e.inst e.value) p e.inst = none)) ∧
    (∃ (s : State) (mb : Fin 16) (c : Cmd) (l : List ParEntry) (x : Status) (i : Nat), (Starts s mb 0x0103 c) ∧ (entriesOfBody c = some l) ∧
      (c.flags.testBit 0 = true) ∧
      ((l.map (jointStatus (begun s mb c) ((begun s mb c).writeAll c.role l) c.role)).zipIdx.find? (fun x => x.1 != .ok) = some (x, i))) ∧
    (∃ (s : State) (mb : Fin 16) (c : Cmd) (k : Nat) (i : Nat) (p : Param), (Starts s mb 0x0104 c) ∧ (Param.ofKey k = some p) ∧ (p.info.ilo ≤ i) ∧
      (i ≤ p.info.ihi)) ∧
    (∃ (s : State) (mb : Fin 16) (c : Cmd) (k : Nat) (i : Nat) (p : Param), (Starts s mb 0x0104 c) ∧ (Param.ofKey k = some p) ∧
      (i < p.info.ilo ∨ p.info.ihi < i)) ∧
    (∃ (s : State) (mb : Fin 16) (c : Cmd) (k : Nat) (i : Nat), (Starts s mb 0x0104 c) ∧ (Param.ofKey k = none)) ∧
    (∃ (s : State) (mb : Fin 16) (c : Cmd) (l : List ParEntry), (Starts s mb 0x1311 c) ∧ (entriesOfBody c = some l) ∧ (c.flags.testBit 0 = false) ∧
      ((∀ e ∈ l, ∃ p, entryParam e = .ok p))) :=
  ⟨⟨(hosted State.reset (cmdOf 0x0101)), 0, (cmdOf 0x0101), ⟨rfl, rfl, by and_intros <;> decide +kernel⟩⟩,
   ⟨(hosted State.reset (cmdOf 0x0102 (bodyOf [0x02000100, 0, 80, 0, 0, 0]))), 0, (cmdOf 0x0102 (bodyOf [0x02000100, 0, 80, 0, 0, 0])), ([⟨0x020001, 0,
    0, 0, 80⟩]), ⟨rfl, rfl, by and_intros <;> decide +kernel⟩, by and_intros <;> decide +kernel⟩,
   ⟨State.reset, State.reset, (⟨0x020001, 0, 0, 0, 80⟩), (.PACE_BAND_LOW), rfl, by decide +kernel⟩,
   ⟨(hosted State.reset (cmdOf 0x0103 (bodyOf [0x02000100, 0, 280, 0, 0, 0]) 0 1)), 0, (cmdOf 0x0103 (bodyOf [0x02000100, 0, 280, 0, 0, 0]) 0 1),
    (⟨0x020001, 0, 0, 0, 280⟩), (.PACE_BAND_LOW), ⟨rfl, rfl, by and_intros <;> decide +kernel⟩, by decide +kernel, by decide +kernel, rfl,
    by decide +kernel⟩,
   ⟨(hosted State.reset (cmdOf 0x0103 (bodyOf [0xFFFFFF00, 0, 80, 0, 0, 0]) 1)), 0, (cmdOf 0x0103 (bodyOf [0xFFFFFF00, 0, 80, 0, 0, 0]) 1),
    ([⟨0xFFFFFF, 0, 0, 0, 80⟩]), (.noObject), (0), ⟨rfl, rfl, by and_intros <;> decide +kernel⟩, by and_intros <;> decide +kernel⟩,
   ⟨(hosted State.reset (cmdOf 0x0104)), 0, (cmdOf 0x0104), (0x020001), (0), (.PACE_BAND_LOW), ⟨rfl, rfl, by and_intros <;> decide +kernel⟩,
    by and_intros <;> decide +kernel⟩,
   ⟨(hosted State.reset (cmdOf 0x0104)), 0, (cmdOf 0x0104), (0x020001), (1000), (.PACE_BAND_LOW), ⟨rfl, rfl, by and_intros <;> decide +kernel⟩,
    by and_intros <;> decide +kernel⟩,
   ⟨(hosted State.reset (cmdOf 0x0104)), 0, (cmdOf 0x0104), (0xFFFFFF), 0, ⟨rfl, rfl, by and_intros <;> decide +kernel⟩, by decide +kernel⟩,
   ⟨(hosted State.reset (cmdOf 0x1311 (bodyOf [0x02000100, 0, 80, 0, 0, 0]))), 0, (cmdOf 0x1311 (bodyOf [0x02000100, 0, 80, 0, 0, 0])), ([⟨0x020001, 0,
    0, 0, 80⟩]), ⟨rfl, rfl, by and_intros <;> decide +kernel⟩, by decide +kernel, by decide +kernel, (fun e he => ⟨.PACE_BAND_LOW,
    by simp only [List.mem_singleton] at he; subst he; rfl⟩)⟩⟩

theorem test_witness_FirmwareRows :
    (∃ (s : State) (mb : Fin 16) (c : Cmd), let d := (c.body.drop 8).take (bodyWord c 1)
    (Starts s mb 0x0110 c) ∧ (s.fw.progress = .none) ∧ (bodyWord c 1 ≠ 0) ∧ (bodyWord c 1 ≤ 4000) ∧ (c.body.length = 8 + bodyWord c 1) ∧
      (bodyWord c 0 = 0)) ∧
    (∃ (s : State) (mb : Fin 16) (c : Cmd) (x : ImageCheck), (Starts s mb 0x0111 c) ∧ (s.fw.progress = .none) ∧ (s.power.dev ≠ .hibernate) ∧
      (s.power.dev ≠ .hibernateExit) ∧ (pairState s (!s.fw.pairB) = .standby) ∧ (imageValid s x = true) ∧ (x.stateFormat = s.fw.header.stateFormat)) ∧
    (∃ (s : State) (mb : Fin 16) (c : Cmd) (x : ImageCheck), (Starts s mb 0x0111 c) ∧ (s.fw.progress = .none) ∧ (s.power.dev ≠ .hibernate) ∧
      (s.power.dev ≠ .hibernateExit) ∧ (pairState s (!s.fw.pairB) = .standby) ∧ (imageValid s x = false)) ∧
    (∃ (s : State), (s.fw.progress = .rebuilding)) ∧
    (∃ (s : State), (s.fw.progress = .loading)) ∧
    (∃ (s : State) (mb : Fin 16) (c : Cmd), (Starts s mb 0x0112 c)) ∧
    (∃ (s : State) (mb : Fin 16) (c : Cmd), (Starts s mb 0x0113 c)) :=
  ⟨⟨(hosted State.reset (cmdOf 0x0110 (bodyOf [0, 4, 0x5A]))), 0, (cmdOf 0x0110 (bodyOf [0, 4, 0x5A])), ⟨rfl, rfl, by and_intros <;> decide +kernel⟩, by and_intros <;> decide +kernel⟩,
   ⟨(hosted { State.reset with fw.stateB := .standby } (cmdOf 0x0111)), 0, (cmdOf 0x0111),
    ({ signature := true, payload := true, major := 1, minor := 0, build := 0, security := 0, stateFormat := 0 }), ⟨rfl, rfl, by and_intros <;> decide +kernel⟩, by and_intros <;> decide +kernel⟩,
   ⟨(hosted { State.reset with fw.stateB := .standby } (cmdOf 0x0111)), 0, (cmdOf 0x0111),
    ({ signature := true, payload := false, major := 1, minor := 0, build := 0, security := 0, stateFormat := 0 }), ⟨rfl, rfl, by and_intros <;> decide +kernel⟩, by and_intros <;> decide +kernel⟩,
   ⟨{ State.reset with fw.progress := .rebuilding }, by decide +kernel⟩,
   ⟨{ State.reset with fw.progress := .loading }, by decide +kernel⟩,
   ⟨(hosted State.reset (cmdOf 0x0112)), 0, (cmdOf 0x0112), ⟨rfl, rfl, by and_intros <;> decide +kernel⟩⟩,
   ⟨(hosted State.reset (cmdOf 0x0113)), 0, (cmdOf 0x0113), ⟨rfl, rfl, by and_intros <;> decide +kernel⟩⟩⟩

theorem test_witness_SessionRows :
    (∃ (s : State) (mb : Fin 16) (c : Cmd), (Starts s mb 0x1101 c) ∧ (openRefusal s (bodyWord c 0) = none)) ∧
    (∃ (s : State) (mb : Fin 16) (c : Cmd) (x : Status), (Starts s mb 0x1101 c) ∧ (openRefusal s (bodyWord c 0) = some x)) ∧
    (∃ (s : State) (mb : Fin 16) (c : Cmd) (r : Nat) (k : Nat) (q : Challenge), (Starts s mb 0x1102 c) ∧ (findChallenge s (bodyWord c 0) = some (r,
      q)) ∧ ((r = 2 → c.maker = true)) ∧ (s.up - q.opened ≤ second) ∧ (credential s r = some k)) ∧
    (∃ (s : State) (mb : Fin 16) (c : Cmd) (r : Nat) (q : Challenge), (Starts s mb 0x1102 c) ∧ (findChallenge s (bodyWord c 0) = some (r, q)) ∧
      ((r = 2 → c.maker = true)) ∧ (second < s.up - q.opened)) ∧
    (∃ (s : State) (mb : Fin 16) (c : Cmd) (v : Session), (Starts s mb 0x1103 c) ∧ ((s.role c.role).session = some v) ∧ (v.id = c.session)) ∧
    (∃ (s : State), (s.roles.makerEn = true)) ∧
    (∃ (s : State) (mb : Fin 16) (c : Cmd) (w : Nat), (Starts s mb 0x1110 c) ∧ (s.roles.enrolled = true)) ∧
    (∃ (s : State) (mb : Fin 16) (c : Cmd) (w : Nat) (k : Nat), (Starts s mb 0x1110 c) ∧ (s.roles.enrolled = false) ∧ (c.key = some k)) ∧
    (∃ (s : State) (mb : Fin 16) (c : Cmd) (w : Nat) (k : Nat), (Starts s mb 0x1111 c) ∧ (c.key = some k)) :=
  ⟨⟨(hosted State.reset (cmdOf 0x1101 (bodyOf [3]))), 0, (cmdOf 0x1101 (bodyOf [3])), ⟨rfl, rfl, by and_intros <;> decide +kernel⟩,
    by decide +kernel⟩,
   ⟨(hosted State.reset (cmdOf 0x1101 (bodyOf [4]))), 0, (cmdOf 0x1101 (bodyOf [4])), (.badArg), ⟨rfl, rfl, by and_intros <;> decide +kernel⟩,
    by decide +kernel⟩,
   ⟨(hosted { State.reset with roles.roles := [(3, { challenge := some ⟨5, 0, 0, 0⟩ })] } (cmdOf 0x1102 (bodyOf [5]))), 0, (cmdOf 0x1102 (bodyOf [5])),
    (3), (Config.enrolSecret), (⟨5, 0, 0, 0⟩), ⟨rfl, rfl, by and_intros <;> decide +kernel⟩, by decide +kernel, by decide +kernel,
    by decide +kernel, rfl⟩,
   ⟨(hosted { State.reset with roles.roles := [(3, { challenge := some ⟨5, 0, 0, 0⟩ })], time.up := (second + 1) * 2 ^ 32 } (cmdOf 0x1102 (bodyOf [5]))), 0, (cmdOf 0x1102 (bodyOf [5])), (3), (⟨5, 0, 0, 0⟩), ⟨rfl, rfl, by and_intros <;> decide +kernel⟩, by and_intros <;> decide +kernel⟩,
   ⟨(hosted { State.reset with roles.roles := [(0, { session := some { id := 0 } })] } (cmdOf 0x1103)), 0, (cmdOf 0x1103), ({ id := 0 }), ⟨rfl, rfl,
    by and_intros <;> decide +kernel⟩, by and_intros <;> decide +kernel⟩,
   ⟨{ State.reset with roles.makerEn := true }, by decide +kernel⟩,
   ⟨(hosted { State.reset with roles.enrolled := true } (cmdOf 0x1110)), 0, (cmdOf 0x1110), 0, ⟨rfl, rfl, by and_intros <;> decide +kernel⟩,
    by decide +kernel⟩,
   ⟨(hosted State.reset (cmdOf 0x1110 [] 0 0 (some 7))), 0, (cmdOf 0x1110 [] 0 0 (some 7)), 0, (7), ⟨rfl, rfl, by and_intros <;> decide +kernel⟩,
    by and_intros <;> decide +kernel⟩,
   ⟨(hosted State.reset (cmdOf 0x1111 [] 0 0 (some 7))), 0, (cmdOf 0x1111 [] 0 0 (some 7)), 0, (7), ⟨rfl, rfl, by and_intros <;> decide +kernel⟩,
    by decide +kernel⟩⟩

theorem test_witness_AuditRows :
    (∃ (s : State), (s.roles.audit.excess = 0)) ∧
    (∃ (s : State), (s.roles.audit.excess ≠ 0)) ∧
    (∃ (s : State), (unpersisted s.roles.audit ≠ 0)) ∧
    (∃ (s : State), (s.roles.audit.failing = true)) ∧
    (∃ (s : State) (mb : Fin 16) (c : Cmd) (b : Nat) (n : Nat), (Starts s mb 0x1120 c) ∧ (n ≠ 0) ∧ (n ≤ 200) ∧
      ((s.roles.audit.ring.find? (fun e => e.1 == b)).isSome = true)) ∧
    (∃ (s : State) (mb : Fin 16) (c : Cmd) (b : Nat) (n : Nat), (Starts s mb 0x1120 c) ∧ (n ≠ 0) ∧ (n ≤ 200) ∧
      (s.roles.audit.ring.find? (fun e => e.1 == b) = none)) ∧
    (∃ (s : State) (mb : Fin 16) (c : Cmd) (k : Nat) (i : Nat), (Starts s mb 0x1130 c) ∧ (i < calInstances k)) ∧
    (∃ (s : State) (mb : Fin 16) (c : Cmd), let n := bodyWord c 1
    let l := overlayEntries n (c.body.drop 8)
    (Starts s mb 0x1131 c) ∧ (n ≠ 0) ∧ (n ≤ 240) ∧ (c.body.length = 24 + 16 * n) ∧ (storedVersion s < bodyWord c 0) ∧
      (overlayModes n (c.body.drop 8) = true) ∧ (l.all calEntryValid = true)) :=
  ⟨⟨State.reset, by decide +kernel⟩,
   ⟨{ State.reset with roles.audit.excess := 3 }, by decide +kernel⟩,
   ⟨{ State.reset with roles.audit.next := 1, roles.audit.ring := [(0, ⟨0, 0, 0, 7, 0, false, 0, 0⟩, 0)] }, by decide +kernel⟩,
   ⟨{ State.reset with roles.audit.failing := true }, by decide +kernel⟩,
   ⟨(hosted { State.reset with roles.audit.next := 1, roles.audit.ring := [(0, ⟨0, 0, 0, 7, 0, false, 0, 0⟩, 0)] } (cmdOf 0x1120)), 0, (cmdOf 0x1120),
    0, (200), ⟨rfl, rfl, by and_intros <;> decide +kernel⟩, by and_intros <;> decide +kernel⟩,
   ⟨(hosted State.reset (cmdOf 0x1120)), 0, (cmdOf 0x1120), 0, (200), ⟨rfl, rfl, by and_intros <;> decide +kernel⟩, by and_intros <;> decide +kernel⟩,
   ⟨(hosted State.reset (cmdOf 0x1130)), 0, (cmdOf 0x1130), (6), (3327), ⟨rfl, rfl, by and_intros <;> decide +kernel⟩, by decide +kernel⟩,
   ⟨(hosted State.reset (cmdOf 0x1131 (bodyOf [1, 1, 1, 1, 0, 0, 0, 0, 0, 0]))), 0, (cmdOf 0x1131 (bodyOf [1, 1, 1, 1, 0, 0, 0, 0, 0, 0])), ⟨rfl, rfl,
    by and_intros <;> decide +kernel⟩, by and_intros <;> decide +kernel⟩⟩

theorem test_witness_FaultRows :
    (∃ (s : State) (f : FaultReport) (l : List FaultReport), (s.reports = f :: l)) ∧
    (∃ (s : State) (f : FaultReport), (addrLevel f.unit = 2) ∧ (heldAbove s f.unit = false) ∧ (behindFence s f.unit = true)) ∧
    (∃ (s : State) (f : FaultReport), (addrLevel f.unit = 1) ∧ (heldAbove s f.unit = true)) ∧
    (∃ (s : State) (f : FaultReport) (x : FaultEntry), let a := regionAddr (addrRegion f.unit)
    (addrLevel f.unit = 2) ∧ (heldAbove s f.unit = false) ∧ (behindFence s f.unit = false) ∧ ((s.handler a).slot = some x) ∧ (x.unit ≠ f.unit) ∧
      (x.spare = none) ∧ (∀ e ∈ (s.handler a).queue, e.unit ≠ f.unit) ∧ ((s.handler a).queue.length < 4)) ∧
    (∃ (s : State) (b : Fin 3328), ((s.unit (instAddr b)).slow = false) ∧ (fenced s (instAddr b) = false) ∧
      (cellField (b / 256) (addrBlock (roleOf s (instAddr b))) = true) ∧ ((s.unit (instAddr b)).holds = none)) ∧
    (∃ (s : State) (u : Word), (behindFence s u.toNat = true)) ∧
    (∃ (s : State) (r : Fin 13) (e : FaultEntry) (n : Nat), ((s.handler (regionAddr r)).slot = some e) ∧ (e.spare = some n)) ∧
    (∃ (s : State) (e : FaultEntry), ((s.handler 0).slot = some e)) ∧
    (∃ (s : State) (a : Word) (e : FaultEntry), (a ≠ 0) ∧ (addrLevel a.toNat = 2) ∧ ((s.handler a.toNat).slot = some e)) ∧
    (∃ (s : State) (a : Word) (e : FaultEntry), (a ≠ 0) ∧ (addrLevel a.toNat = 3) ∧ ((s.handler a.toNat).slot = some e)) :=
  ⟨⟨{ State.reset with reports := [⟨cellAddr 0 4 1, 5⟩] }, (⟨cellAddr 0 4 1, 5⟩), [], by decide +kernel⟩,
   ⟨(State.reset.setUnit (blockAddr 0 4) { state := some .iced }), (⟨blockAddr 0 4, 5⟩), by and_intros <;> decide +kernel⟩,
   ⟨(State.reset.setHandler (regionAddr 0) { slot := some { unit := blockAddr 0 4, cause := 5, since := 0 } }), (⟨cellAddr 0 4 1, 5⟩),
    by and_intros <;> decide +kernel⟩,
   ⟨(State.reset.setHandler (regionAddr 0) { slot := some { unit := blockAddr 0 5, cause := 5, since := 0 } }), (⟨blockAddr 0 4, 5⟩),
    ({ unit := blockAddr 0 5, cause := 5, since := 0 }), by and_intros <;> decide +kernel⟩,
   ⟨State.reset, (2052), by and_intros <;> decide +kernel⟩,
   ⟨(State.reset.setUnit (blockAddr 0 4) { state := some .iced }), (BitVec.ofNat 32 (blockAddr 0 4)), by decide +kernel⟩,
   ⟨(State.reset.setHandler (regionAddr 0) { slot := some { unit := blockAddr 0 5, cause := 5, since := 0, spare := some 64 } }), 0,
    ({ unit := blockAddr 0 5, cause := 5, since := 0, spare := some 64 }), (64), by and_intros <;> decide +kernel⟩,
   ⟨(State.reset.setHandler 0 { slot := some { unit := regionAddr 3, cause := 5, since := 0 } }), ({ unit := regionAddr 3, cause := 5, since := 0 }),
    by decide +kernel⟩,
   ⟨(State.reset.setHandler (blockAddr 0 4) { slot := some { unit := cellAddr 0 4 1, cause := 5, since := 0 } }), (BitVec.ofNat 32 (blockAddr 0 4)),
    ({ unit := cellAddr 0 4 1, cause := 5, since := 0 }), by and_intros <;> decide +kernel⟩,
   ⟨(State.reset.setHandler (regionAddr 0) { slot := some { unit := blockAddr 0 5, cause := 5, since := 0 } }), (BitVec.ofNat 32 (regionAddr 0)),
    ({ unit := blockAddr 0 5, cause := 5, since := 0 }), by and_intros <;> decide +kernel⟩⟩

theorem test_witness_RepairRows :
    (∃ (s : State) (b : Fin 3328) (k : BitVec 16) (e : FaultEntry), ((s.handler (instAddr b)).slot = some e) ∧ (fenced s e.unit = true) ∧
      (e.cause ≠ 6) ∧ (cellField (b.val / 256) (b.val % 256) = true)) ∧
    (∃ (s : State) (u : Word), ((s.unit u.toNat).swapped = true)) ∧
    (∃ (s : State) (u : Word), ((s.unit u.toNat).swapped = false)) ∧
    (∃ (s : State) (u : Word), (addrLevel u.toNat = 2) ∧ ((s.unit u.toNat).swapped = false) ∧ (unitState s u.toNat = .spare)) ∧
    (∃ (s : State), (s.getN .MAINT_LEN ≠ 0) ∧ (s.pon.tod.state ≠ .free) ∧ (s.fault.window = false) ∧ (s.getN .SUSPECT_SWAP = 0)) ∧
    (∃ (s : State), (s.getN .MAINT_LEN = 0)) ∧
    (∃ (s : State) (u : Word), ((s.unit u.toNat).testDue = true) ∧ ((s.unit u.toNat).state = some .iced)) ∧
    (∃ (s : State) (u : Word), ((s.unit u.toNat).testDue = true) ∧ ((s.unit u.toNat).state = some .iced) ∧ ((s.unit u.toNat).testPoints = 0)) ∧
    (∃ (s : State) (u : Word), ((s.unit u.toNat).testDue = true) ∧ ((s.unit u.toNat).state = some .iced) ∧ ((s.unit u.toNat).testPoints = 2) ∧
      (s.up - (s.unit u.toNat).firstTest ≤ s.getN .READMIT_DAYS * 86400 * second)) ∧
    (∃ (s : State) (b : Bool), (pairState s b = .standby)) ∧
    (∃ (s : State) (b : Bool), (pairState s b = .active)) ∧
    (∃ (s : State) (b : Bool), (pairTesting s b = true)) ∧
    (∃ (s : State) (b : Bool), (pairTesting s b = true)) ∧
    (∃ (s : State), (s.fw.progress ≠ .rebuilding) ∧ (s.fw.hold = true) ∧ (pairState s s.fw.pairB = .active)) :=
  ⟨⟨((State.reset.setHandler (instAddr 2052) { slot := some ⟨blockAddr 8 4, 1, 0, false, 0, false, none⟩ }).setUnit (blockAddr 8 4) { state := some .iced }), (2052), 0, (⟨blockAddr 8 4, 1, 0, false, 0, false, none⟩), by and_intros <;> decide +kernel⟩,
   ⟨(State.reset.setUnit 0 { swapped := true }), 0, by decide +kernel⟩,
   ⟨State.reset, 0, by decide +kernel⟩,
   ⟨(State.reset.setUnit (blockAddr 0 64) { state := some .spare }), (BitVec.ofNat 32 (blockAddr 0 64)), by and_intros <;> decide +kernel⟩,
   ⟨({ State.reset with pon.tod.state := .locked }.setPar .SUSPECT_SWAP 0 0), by and_intros <;> decide +kernel⟩,
   ⟨(State.reset.setPar .MAINT_LEN 0 0), by decide +kernel⟩,
   ⟨(State.reset.setUnit 0 { state := some .iced, testDue := true }), 0, by and_intros <;> decide +kernel⟩,
   ⟨(State.reset.setUnit 0 { state := some .iced, testDue := true }), 0, by and_intros <;> decide +kernel⟩,
   ⟨{ (State.reset.setUnit 0 { state := some .iced, testDue := true, testPoints := 2 }) with time.up := 7 * 86400 * second * 2 ^ 32 }, 0,
    by and_intros <;> decide +kernel⟩,
   ⟨{ State.reset with fw.stateB := .standby }, (true), by decide +kernel⟩,
   ⟨State.reset, false, by decide +kernel⟩,
   ⟨{ State.reset with fw.testA := true }, false, by decide +kernel⟩,
   ⟨{ State.reset with fw.testA := true }, false, by decide +kernel⟩,
   ⟨{ State.reset with fw.hold := true }, by and_intros <;> decide +kernel⟩⟩

theorem test_witness_FaultCommands :
    (∃ (s : State) (mb : Fin 16) (c : Cmd), (Starts s mb 0x1201 c)) ∧
    (∃ (s : State) (mb : Fin 16) (c : Cmd) (u : Word), (Starts s mb 0x1202 c) ∧ (unitExists u.toNat = true) ∧ (addrLevel u.toNat ≠ 3)) ∧
    (∃ (s : State) (mb : Fin 16) (c : Cmd) (b : Bool), (Starts s mb 0x1203 c)) ∧
    (∃ (s : State) (mb : Fin 16) (c : Cmd) (b : Bool) (u : Word), (Starts s mb 0x1203 c) ∧ (unitExists u.toNat = true)) ∧
    (∃ (s : State) (mb : Fin 16) (c : Cmd) (u : Word), (Starts s mb 0x1204 c) ∧ (unitExists u.toNat = true) ∧ (addrLevel u.toNat < 3) ∧
      (fenced s u.toNat = true)) ∧
    (∃ (s : State) (mb : Fin 16) (c : Cmd) (n : Nat), (Starts s mb 0x1205 c)) ∧
    (∃ (s : State) (mb : Fin 16) (c : Cmd) (u : Word), (Starts s mb 0x1206 c) ∧ (unitExists u.toNat = true) ∧ (addrLevel u.toNat < 3) ∧
      (unitState s u.toNat = .iced)) ∧
    (∃ (s : State) (mb : Fin 16) (c : Cmd), (Starts s mb 0x1207 c) ∧ (pairState s (!s.fw.pairB) = .standby)) ∧
    (∃ (s : State) (mb : Fin 16) (c : Cmd) (u : Word) (n : Nat), (Starts s mb 0x1410 c) ∧ (unitExists u.toNat = true)) :=
  ⟨⟨(hosted State.reset (cmdOf 0x1201)), 0, (cmdOf 0x1201), ⟨rfl, rfl, by and_intros <;> decide +kernel⟩⟩,
   ⟨(hosted State.reset (cmdOf 0x1202)), 0, (cmdOf 0x1202), (BitVec.ofNat 32 (blockAddr 0 4)), ⟨rfl, rfl, by and_intros <;> decide +kernel⟩,
    by and_intros <;> decide +kernel⟩,
   ⟨(hosted State.reset (cmdOf 0x1203)), 0, (cmdOf 0x1203), false, ⟨rfl, rfl, by and_intros <;> decide +kernel⟩⟩,
   ⟨(hosted State.reset (cmdOf 0x1203)), 0, (cmdOf 0x1203), false, (BitVec.ofNat 32 (blockAddr 0 4)), ⟨rfl, rfl, by and_intros <;> decide +kernel⟩,
    by decide +kernel⟩,
   ⟨(hosted (State.reset.setUnit (blockAddr 0 4) { state := some .iced }) (cmdOf 0x1204)), 0, (cmdOf 0x1204), (BitVec.ofNat 32 (blockAddr 0 4)), ⟨rfl,
    rfl, by and_intros <;> decide +kernel⟩, by and_intros <;> decide +kernel⟩,
   ⟨(hosted State.reset (cmdOf 0x1205)), 0, (cmdOf 0x1205), 0, ⟨rfl, rfl, by and_intros <;> decide +kernel⟩⟩,
   ⟨(hosted (State.reset.setUnit (blockAddr 0 4) { state := some .iced }) (cmdOf 0x1206)), 0, (cmdOf 0x1206), (BitVec.ofNat 32 (blockAddr 0 4)), ⟨rfl,
    rfl, by and_intros <;> decide +kernel⟩, by and_intros <;> decide +kernel⟩,
   ⟨(hosted { State.reset with fw.stateB := .standby } (cmdOf 0x1207)), 0, (cmdOf 0x1207), ⟨rfl, rfl, by and_intros <;> decide +kernel⟩,
    by decide +kernel⟩,
   ⟨(hosted State.reset (cmdOf 0x1410)), 0, (cmdOf 0x1410), (BitVec.ofNat 32 (blockAddr 0 4)), 0, ⟨rfl, rfl, by and_intros <;> decide +kernel⟩,
    by decide +kernel⟩⟩

theorem test_witness_EventRows :
    (∃ (s : State) (n : Fin 1624) (r : EvRec) (l : List EvRec), (takeFirst n s.ev.transit = some (r, l)) ∧
      (s.ev.burst.get n < s.getN .EVENT_SOURCE_BURST) ∧ (s.ev.maskKind.get r.kind.code = false) ∧ (s.ev.maskSource.get n = false)) ∧
    (∃ (s : State) (n : Fin 1624) (r : EvRec) (l : List EvRec), (takeFirst n s.ev.transit = some (r, l)) ∧
      (s.getN .EVENT_SOURCE_BURST ≤ s.ev.burst.get n) ∧ (r.severity ≤ 1)) ∧
    (∃ (s : State) (n : Fin 1624) (r : EvRec) (l : List EvRec), (takeFirst n s.ev.transit = some (r, l)) ∧ (1 < r.severity) ∧
      (s.ev.maskKind.get r.kind.code = true)) ∧
    (∃ (s : State) (r : EvRec), (toRing s r.kind = false) ∧ (s.ev.loss = none) ∧ (s.ev.store.length < 256)) ∧
    (∃ (s : State) (e : EvRec × Option Nat), (256 ≤ s.ev.store.length) ∧ (dropMinor s.ev.store = none)) ∧
    (∃ (s : State), (s.ev.batch ≠ [])) ∧
    (∃ (s : State), (s.ev.batch = [])) ∧
    (∃ (s : State) (v : Fin 64), ((s.ev.vectors.get v).holdoff = true) ∧ ((s.ev.vectors.get v).due = true) ∧ ((s.host.msix.get v).masked = false) ∧
      (s.getN .EVENT_IRQ_HOLDOFF ≠ 0)) ∧
    (∃ (s : State) (v : Fin 64), ((s.ev.vectors.get v).due = false)) ∧
    (∃ (s : State) (r : TelRec) (l : List TelRec), (s.ev.telStaged = r :: l) ∧ (openChannels s 4 false = []) ∧ (telemetryBytes s / 32 ≠ 0)) ∧
    (∃ (s : State), (s.ev.telOpen ≠ [])) :=
  ⟨⟨{ State.reset with ev.transit := [⟨7, .KEY_SWITCHED, 0, 12, false, 0, 0, 0⟩] }, (7), (⟨7, .KEY_SWITCHED, 0, 12, false, 0, 0, 0⟩), [],
    by and_intros <;> decide +kernel⟩,
   ⟨{ State.reset with ev.transit := [⟨7, .KEY_SWITCHED, 1, 12, false, 0, 0, 0⟩], ev.burst := [(7, 64)] }, (7), (⟨7, .KEY_SWITCHED, 1, 12, false, 0, 0,
    0⟩), [], by and_intros <;> decide +kernel⟩,
   ⟨{ State.reset with ev.transit := [⟨7, .KEY_SWITCHED, 2, 12, false, 0, 0, 0⟩], ev.maskKind := [(26, true)] }, (7), (⟨7, .KEY_SWITCHED, 2, 12, false,
    0, 0, 0⟩), [], by and_intros <;> decide +kernel⟩,
   ⟨State.reset, (⟨7, .KEY_SWITCHED, 0, 12, false, 0, 0, 0⟩), by and_intros <;> decide +kernel⟩,
   ⟨{ State.reset with ev.store := List.replicate 256 (⟨7, .KEY_SWITCHED, 2, 12, false, 0, 0, 0⟩, none) }, ((⟨7, .KEY_SWITCHED, 2, 12, false, 0, 0, 0⟩,
    none)), by and_intros <;> decide +kernel⟩,
   ⟨{ State.reset with ev.batch := [(⟨7, .KEY_SWITCHED, 0, 12, false, 0, 0, 0⟩, none)] }, by decide +kernel⟩,
   ⟨State.reset, by decide +kernel⟩,
   ⟨{ State.reset with ev.vectors := [(48, ⟨true, true⟩)], host.msix := [(48, { masked := false })] }, (48), by and_intros <;> decide +kernel⟩,
   ⟨State.reset, 0, by decide +kernel⟩,
   ⟨{ State.reset with ev.telStaged := [⟨1, 0, 0, []⟩], dramBytes := 2 ^ 31 }, (⟨1, 0, 0, []⟩), [], by and_intros <;> decide +kernel⟩,
   ⟨{ State.reset with ev.telOpen := [⟨1, 0, 0, []⟩] }, by decide +kernel⟩⟩

theorem test_witness_EventCommands :
    (∃ (s : State) (mb : Fin 16) (c : Cmd) (b : Bool) (k : Nat) (n : Nat), (Starts s mb 0x1301 c) ∧ (1 ≤ k) ∧ (k ≤ 142) ∧ (n < 1624) ∧
      (s.ev.batch = [])) ∧
    (∃ (s : State) (mb : Fin 16) (c : Cmd) (b : Bool) (l : List Nat), (Starts s mb 0x1301 c)) ∧
    (∃ (s : State) (mb : Fin 16) (c : Cmd) (k : Nat) (v : Nat) (b : Bool), (Starts s mb 0x1302 c) ∧ (1 ≤ k) ∧ (k ≤ 142) ∧ (48 ≤ v) ∧ (v ≤ 63)) ∧
    (∃ (s : State) (mb : Fin 16) (c : Cmd) (n : Nat), (Starts s mb 0x1303 c) ∧ (n ≤ 200)) ∧
    (∃ (s : State) (mb : Fin 16) (c : Cmd) (n : Nat), (Starts s mb 0x1303 c) ∧ (200 < n)) ∧
    (∃ (s : State) (mb : Fin 16) (c : Cmd) (m : Nat) (p : Nat), (Starts s mb 0x1310 c) ∧ (m &&& 0x1E = m) ∧ (10 ≤ p) ∧ (p ≤ 60000)) :=
  ⟨⟨(hosted State.reset (cmdOf 0x1301)), 0, (cmdOf 0x1301), false, (142), (1623), ⟨rfl, rfl, by and_intros <;> decide +kernel⟩, by and_intros <;> decide +kernel⟩,
   ⟨(hosted State.reset (cmdOf 0x1301)), 0, (cmdOf 0x1301), false, [], ⟨rfl, rfl, by and_intros <;> decide +kernel⟩⟩,
   ⟨(hosted State.reset (cmdOf 0x1302)), 0, (cmdOf 0x1302), (142), (63), false, ⟨rfl, rfl, by and_intros <;> decide +kernel⟩, by and_intros <;> decide +kernel⟩,
   ⟨(hosted State.reset (cmdOf 0x1303)), 0, (cmdOf 0x1303), (200), ⟨rfl, rfl, by and_intros <;> decide +kernel⟩, by decide +kernel⟩,
   ⟨(hosted State.reset (cmdOf 0x1303)), 0, (cmdOf 0x1303), (201), ⟨rfl, rfl, by and_intros <;> decide +kernel⟩, by decide +kernel⟩,
   ⟨(hosted State.reset (cmdOf 0x1310)), 0, (cmdOf 0x1310), (0x1E), (60000), ⟨rfl, rfl, by and_intros <;> decide +kernel⟩, by and_intros <;> decide +kernel⟩⟩

theorem test_witness_PowerRows :
    (∃ (s : State), (s.power.halted = false) ∧ (s.power.dev = .bringup) ∧ (s.power.stage = 3)) ∧
    (∃ (s : State) (a : ImageCheck) (b : ImageCheck), (s.power.halted = false) ∧ (s.power.dev = .bringup) ∧ (s.power.stage = 4) ∧
      (s.fw.bootImage = false) ∧ (imageValid s a = true)) ∧
    (∃ (s : State) (a : ImageCheck) (b : ImageCheck), (s.power.halted = false) ∧ (s.power.dev = .bringup) ∧ (s.power.stage = 4) ∧
      (imageValid s a = false) ∧ (imageValid s b = false)) ∧
    (∃ (s : State) (n : Nat), (s.power.halted = false) ∧ (s.power.dev = .bringup) ∧ (s.power.stage = 9)) ∧
    (∃ (s : State) (c : Fin 64), (s.getN .DARK_AUTO c = 1) ∧ ((s.chan c).enabled = true) ∧ (s.power.dark.get c = false) ∧ (lightNeeded s c = false)) ∧
    (∃ (s : State) (c : Fin 64), (s.power.dark.get c = true) ∧ (termsOf s c (fun v => v.state == .operation) ≠ [])) ∧
    (∃ (s : State) (d : Fin 8), (s.power.dev = .standby)) ∧
    (∃ (s : State) (d : Fin 8), (s.power.dev ≠ .standby)) ∧
    (∃ (s : State) (mb : Fin 16) (c : Cmd), (Starts s mb 0x0210 c) ∧ (bodyWord c 0 = 0x02FFFFFF) ∧ (s.power.dev = .active) ∧ (tiedUp s = false)) ∧
    (∃ (s : State) (mb : Fin 16) (c : Cmd), (Starts s mb 0x0210 c) ∧ (bodyWord c 0 = 0x02FFFFFF) ∧ (s.power.dev = .active) ∧ (tiedUp s = true)) ∧
    (∃ (s : State) (mb : Fin 16) (c : Cmd), (Starts s mb 0x0211 c)) ∧
    (∃ (s : State) (x : Int), (s.power.dev ≠ .off) ∧ ((∀ e ∈ s.power.tripRun, e.2 < 2))) ∧
    (∃ (s : State) (l : List Int), (s.power.dev = .off)) :=
  ⟨⟨State.reset, by and_intros <;> decide +kernel⟩,
   ⟨{ State.reset with power.stage := 4 }, (⟨true, true, 1, 0, 0, 0, 0⟩), default, by and_intros <;> decide +kernel⟩,
   ⟨{ State.reset with power.stage := 4 }, (⟨true, false, 1, 0, 0, 0, 0⟩), (⟨false, true, 1, 0, 0, 0, 0⟩), by and_intros <;> decide +kernel⟩,
   ⟨{ State.reset with power.stage := 9 }, 0, by and_intros <;> decide +kernel⟩,
   ⟨((State.reset.setPar .DARK_AUTO 0 1).setChan 0 { enabled := true }), 0, by and_intros <;> decide +kernel⟩,
   ⟨({ State.reset with power.dark := [(0, true)] }.setTerm 0 { state := .operation }), 0, by and_intros <;> decide +kernel⟩,
   ⟨{ State.reset with power.dev := .standby }, 0, by decide +kernel⟩,
   ⟨State.reset, 0, by decide +kernel⟩,
   ⟨(hosted { State.reset with power.dev := .active } (cmdOf 0x0210 (bodyOf [0x02FFFFFF]))), 0, (cmdOf 0x0210 (bodyOf [0x02FFFFFF])), ⟨rfl, rfl,
    by and_intros <;> decide +kernel⟩, by and_intros <;> decide +kernel⟩,
   ⟨(hosted ({ State.reset with power.dev := .active }.setToken 0 { held := true }) (cmdOf 0x0210 (bodyOf [0x02FFFFFF]))), 0,
    (cmdOf 0x0210 (bodyOf [0x02FFFFFF])), ⟨rfl, rfl, by and_intros <;> decide +kernel⟩, by and_intros <;> decide +kernel⟩,
   ⟨(hosted State.reset (cmdOf 0x0211)), 0, (cmdOf 0x0211), ⟨rfl, rfl, by and_intros <;> decide +kernel⟩⟩,
   ⟨State.reset, 0, by decide +kernel, (by intro e h; cases h)⟩,
   ⟨{ State.reset with power.dev := .off }, [], by decide +kernel⟩⟩

theorem test_witness_LaneTestRows :
    (∃ (s : State) (mb : Fin 16) (c : Cmd), let w := bodyWord c 0
    let k := bodyWord c 1
    (Starts s mb 0x1401 c) ∧ (laneRefusal s w = none) ∧ (bits k 29 27 ≤ 4) ∧ (bits k 25 0 = 0) ∧ (bits w 31 30 < 2) ∧
      (comboOk (bits w 31 30) (bits w 7 0) (k.testBit 31) (k.testBit 30) (s.lane (bits w 31 30) (bits w 7 0)).loop = true)) ∧
    (∃ (s : State) (mb : Fin 16) (c : Cmd) (x : Status), (Starts s mb 0x1401 c) ∧ (laneRefusal s (bodyWord c 0) = some x)) ∧
    (∃ (s : State) (mb : Fin 16) (c : Cmd) (n : Nat) (e : Nat), let l := s.lane (bits (bodyWord c 0) 31 30) (bits (bodyWord c 0) 7 0)
    (Starts s mb 0x1402 c) ∧ (laneRefusal s (bodyWord c 0) = none) ∧ (l.locked = true) ∧ (c.flags.testBit 0 = false)) ∧
    (∃ (s : State) (mb : Fin 16) (c : Cmd), let l := s.lane (bits (bodyWord c 0) 31 30) (bits (bodyWord c 0) 7 0)
    (Starts s mb 0x1403 c) ∧ (laneRefusal s (bodyWord c 0) = none) ∧ (l.gen = true) ∧ (l.injLeft = 0) ∧ (1 ≤ bits (bodyWord c 1) 31 24) ∧
      (bits (bodyWord c 1) 31 24 ≤ 64) ∧ (bits (bodyWord c 1) 23 0 ≠ 0) ∧ (bodyWord c 2 ≠ 0) ∧ (bodyWord c 2 ≤ 1000000)) ∧
    (∃ (s : State) (k : Fin 3) (i : Fin 128), ((s.lane k i).gen = true) ∧ ((s.lane k i).injNext = none) ∧ (s.lane k i).injLeft ≠ 0) ∧
    (∃ (s : State) (mb : Fin 16) (c : Cmd), let w := bodyWord c 0
    let i := bits w 7 0
    (Starts s mb 0x1404 c) ∧ (bits w 31 30 = 1) ∧ (bodyWord c 1 ≤ 3) ∧ (bodyWord c 1 ≠ 2) ∧ (laneRefusal s w = none) ∧
      (comboOk 1 i (s.lane 1 i).gen (s.lane 1 i).chk (bodyWord c 1) = true)) ∧
    (∃ (s : State) (k : Fin 3) (i : Fin 128), ((s.lane k i).chk = true)) ∧
    (∃ (s : State) (k : Fin 3) (i : Fin 128) (n : Nat) (e : Nat), ((s.lane k i).locked = true)) :=
  ⟨⟨(hosted State.reset (cmdOf 0x1401 (bodyOf [0, 0xC0000000]))), 0, (cmdOf 0x1401 (bodyOf [0, 0xC0000000])), ⟨rfl, rfl, by and_intros <;> decide +kernel⟩, by and_intros <;> decide +kernel⟩,
   ⟨(hosted State.reset (cmdOf 0x1401 (bodyOf [128]))), 0, (cmdOf 0x1401 (bodyOf [128])), (.badArg), ⟨rfl, rfl, by and_intros <;> decide +kernel⟩,
    by decide +kernel⟩,
   ⟨(hosted (State.reset.setLane 0 0 { chk := true, locked := true }) (cmdOf 0x1402 (bodyOf [0]))), 0, (cmdOf 0x1402 (bodyOf [0])), 0, 0, ⟨rfl, rfl,
    by and_intros <;> decide +kernel⟩, by and_intros <;> decide +kernel⟩,
   ⟨(hosted (State.reset.setLane 0 0 { gen := true }) (cmdOf 0x1403 (bodyOf [0, 64 * 2 ^ 24 + 1, 1000000]))), 0, (cmdOf 0x1403 (bodyOf [0,
    64 * 2 ^ 24 + 1, 1000000])), ⟨rfl, rfl, by and_intros <;> decide +kernel⟩, by and_intros <;> decide +kernel⟩,
   ⟨(State.reset.setLane 0 0 { gen := true, injLeft := 1 }), 0, 0, by and_intros <;> decide +kernel⟩,
   ⟨(hosted State.reset (cmdOf 0x1404 (bodyOf [2 ^ 30 + 31, 3]))), 0, (cmdOf 0x1404 (bodyOf [2 ^ 30 + 31, 3])), ⟨rfl, rfl, by and_intros <;> decide +kernel⟩, by and_intros <;> decide +kernel⟩,
   ⟨(State.reset.setLane 0 0 { chk := true }), 0, 0, by decide +kernel⟩,
   ⟨(State.reset.setLane 0 0 { locked := true }), 0, 0, 0, 0, by decide +kernel⟩⟩

theorem test_witness_TapRows :
    (∃ (s : State), (s.power.resetN = false)) ∧
    (∃ (s : State), (s.power.resetN = true)) :=
  ⟨⟨{ State.reset with power.resetN := false }, by decide +kernel⟩,
   ⟨State.reset, by decide +kernel⟩⟩

theorem test_witness_RuleWriteChecks :
    (∃ (s : State) (mb : Fin 16) (c : Cmd) (i : Nat) (e : Nat) (l : List RuleEntry), (Starts s mb 0x0801 c) ∧
      ((l = [] ∨ 32 < l.length ∨ 8192 < i + l.length ∨ l.any ruleBad = true))) ∧
    (∃ (s : State) (mb : Fin 16) (c : Cmd) (i : Nat) (e : Nat) (d : Nat) (l : List RuleEntry), (Starts s mb 0x0801 c) ∧ (l ≠ []) ∧ (l.length ≤ 32) ∧
      (i + l.length ≤ 8192) ∧ (l.any ruleBad = false) ∧ (s.fwd.rules.draining = some d)) ∧
    (∃ (s : State) (mb : Fin 16) (c : Cmd) (i : Nat) (e : Nat) (l : List RuleEntry), (Starts s mb 0x0801 c) ∧ (l ≠ []) ∧ (l.length ≤ 32) ∧
      (i + l.length ≤ 8192) ∧ (l.any ruleBad = false) ∧ (s.fwd.rules.draining = none) ∧ (e ≠ (s.fwd.rules.epoch + 1) % 16)) ∧
    (∃ (s : State) (mb : Fin 16) (c : Cmd) (i : Nat) (l : List RuleEntry), (Starts s mb 0x0801 c) ∧ (l ≠ []) ∧ (l.length ≤ 32) ∧
      (i + l.length ≤ 8192) ∧ (l.any ruleBad = false) ∧ (s.fwd.rules.draining = none) ∧ (s.fwd.rules.active ≤ 1)) ∧
    (∃ (s : State) (mb : Fin 16) (c : Cmd), (Starts s mb 0x0804 c) ∧ (s.fwd.rules.draining = none)) :=
  ⟨⟨(hosted State.reset (cmdOf 0x0801)), 0, (cmdOf 0x0801), (0), 0, [], ⟨rfl, rfl, by and_intros <;> decide +kernel⟩, Or.inl rfl⟩,
   ⟨(hosted { State.reset with fwd.rules.draining := some 0 } (cmdOf 0x0801)), 0, (cmdOf 0x0801), (8191), 0, 0, ([⟨0, 3 * 2 ^ 382, [2 ^ 29, 0, 0, 0],
    2 ^ 31, 0⟩]), ⟨rfl, rfl, by and_intros <;> decide +kernel⟩, by and_intros <;> decide +kernel⟩,
   ⟨(hosted State.reset (cmdOf 0x0801)), 0, (cmdOf 0x0801), (8191), 0, ([⟨0, 3 * 2 ^ 382, [2 ^ 29, 0, 0, 0], 2 ^ 31, 0⟩]), ⟨rfl, rfl,
    by and_intros <;> decide +kernel⟩, by and_intros <;> decide +kernel⟩,
   ⟨(hosted State.reset (cmdOf 0x0801)), 0, (cmdOf 0x0801), (8160), (List.replicate 32 ⟨0, 3 * 2 ^ 382, [2 ^ 29, 0, 0, 0], 2 ^ 31, 0⟩), ⟨rfl, rfl,
    by and_intros <;> decide +kernel⟩, by and_intros <;> decide +kernel⟩,
   ⟨(hosted State.reset (cmdOf 0x0804)), 0, (cmdOf 0x0804), ⟨rfl, rfl, by and_intros <;> decide +kernel⟩, by decide +kernel⟩⟩

theorem test_witness_EventStore :
    (∃ (s : State) (r : EvRec), (toRing s r.kind = false) ∧ (s.ev.loss = none) ∧ (s.ev.store.length < 256)) ∧
    (∃ (s : State) (e : EvRec × Option Nat) (x : EvRec × Option Nat) (a : List (EvRec × Option Nat)) (b : List (EvRec × Option Nat)),
      (256 ≤ s.ev.store.length) ∧ (s.ev.store = a ++ x :: b) ∧ ((∀ y ∈ a, 1 < y.1.severity)) ∧ (x.1.severity ≤ 1)) ∧
    (∃ (s : State) (e : EvRec × Option Nat), (256 ≤ s.ev.store.length) ∧ ((∀ y ∈ s.ev.store, 1 < y.1.severity))) ∧
    (∃ (s : State) (e : EvRec × Option Nat), (256 ≤ s.ev.store.length) ∧ (s.ev.loss = none)) ∧
    (∃ (s : State) (mb : Fin 16) (c : Cmd) (n : Nat), (Starts s mb 0x1303 c) ∧ (n ≤ 200)) :=
  ⟨⟨State.reset, (⟨7, .KEY_SWITCHED, 0, 12, false, 0, 0, 0⟩), by and_intros <;> decide +kernel⟩,
   ⟨{ State.reset with ev.store := (⟨7, .KEY_SWITCHED, 2, 12, false, 0, 0, 0⟩, none) :: List.replicate 255 (⟨7, .KEY_SWITCHED, 1, 12, false, 0, 0, 0⟩, none) }, ((⟨7, .KEY_SWITCHED, 0, 12, false, 0, 0, 0⟩, none)), ((⟨7, .KEY_SWITCHED, 1, 12, false, 0, 0, 0⟩, none)), ([(⟨7, .KEY_SWITCHED, 2, 12, false, 0, 0, 0⟩, none)]), (List.replicate 254 (⟨7, .KEY_SWITCHED, 1, 12, false, 0, 0, 0⟩, none)), by and_intros <;> decide +kernel⟩,
   ⟨{ State.reset with ev.store := List.replicate 256 (⟨7, .KEY_SWITCHED, 2, 12, false, 0, 0, 0⟩, none) }, ((⟨7, .KEY_SWITCHED, 2, 12, false, 0, 0, 0⟩,
    none)), by and_intros <;> decide +kernel⟩,
   ⟨{ State.reset with ev.store := List.replicate 256 (⟨7, .KEY_SWITCHED, 2, 12, false, 0, 0, 0⟩, none) }, ((⟨7, .KEY_SWITCHED, 2, 12, false, 0, 0, 0⟩,
    none)), by and_intros <;> decide +kernel⟩,
   ⟨(hosted State.reset (cmdOf 0x1303)), 0, (cmdOf 0x1303), (200), ⟨rfl, rfl, by and_intros <;> decide +kernel⟩, by decide +kernel⟩⟩

theorem test_witness_HostCommandRules :
    (∃ (i : Instr) (s : State) (mb : Fin 16) (code : Nat), (i.command = some (mb, code)) ∧ ((∀ c,
      (s.mbox mb).cmd = some c → c.code = code → startable s c = false))) ∧
    (∃ (i : Instr) (s : State) (mb : Fin 16) (code : Nat) (c : Cmd), (i.command = some (mb, code)) ∧ (code ∉ rightsFirst) ∧
      ((s.mbox mb).cmd = some c) ∧ (c.code = code) ∧ (startable s c = true) ∧ (c.flags &&& cmdFlags code ≠ c.flags)) ∧
    (∃ (s : State) (n : Fin 16) (c : Cmd) (st : Status) (d : Nat) (b : List Int), ((s.mbox n).cmd = some c) ∧ (s.mbox n).state ≠ .reset ∧
      ((audited c && auditCritical c) = false)) ∧
    (∃ (s : State) (n : Nat) (k : Nat) (st : Status) (d : Nat) (b : List Int), (n ≠ k)) :=
  ⟨⟨(.identRead 0), State.reset, (0), (0x0101), by decide +kernel, (by decide +kernel)⟩,
   ⟨(.identRead 0), (hosted State.reset (cmdOf 0x0101 [] 1)), (0), (0x0101), (cmdOf 0x0101 [] 1), by and_intros <;> decide +kernel⟩,
   ⟨(hosted State.reset (cmdOf 0x0101 [] 1)), 0, (cmdOf 0x0101 [] 1), (.ok), 0, [], by and_intros <;> decide +kernel⟩,
   ⟨State.reset, 0, (1), (.ok), 0, [], by decide +kernel⟩⟩

theorem test_witness_EntryLists :
    (∃ (α : Type) (f : State → α → State × Status × List Int) (s : State) (es : List α), ((∀ x ∈ entryStatuses f s es, applied x = true))) ∧
    (∃ (α : Type) (f : State → α → State × Status × List Int) (s : State) (es : List α) (i : Nat) (x : Status),
      ((entryStatuses f s es)[i]? = some x) ∧ (applied x = false) ∧ ((∀ j y, j < i → (entryStatuses f s es)[j]? = some y → applied y = true))) ∧
    (∃ (s : State) (mb : Fin 16) (c : Cmd) (l : List (Word × Nat)), (Starts s mb 0x1206 c)) ∧
    (∃ (s : State) (mb : Fin 16) (c : Cmd) (l : List RouteEntry), (Starts s mb 0x1302 c) ∧ (l ≠ []) ∧ (l.length ≤ 142)) ∧
    (∃ (s : State) (mb : Fin 16) (c : Cmd) (l : List Nat), (Starts s mb 0x0903 c) ∧ (count32 l.length = true) ∧ (s.fwd.serial = [])) :=
  ⟨⟨(Nat), (fun s _ => (s, .ok, [])), State.reset, ([5]), by decide +kernel⟩,
   ⟨(Nat), (fun s _ => (s, .busy, [])), State.reset, ([5]), (0), (.busy), by decide +kernel, by decide +kernel,
    fun j y h => absurd h (Nat.not_lt_zero j)⟩,
   ⟨(hosted State.reset (cmdOf 0x1206)), 0, (cmdOf 0x1206), [], ⟨rfl, rfl, by and_intros <;> decide +kernel⟩⟩,
   ⟨(hosted State.reset (cmdOf 0x1302)), 0, (cmdOf 0x1302), (List.replicate 142 ⟨1, false, none⟩), ⟨rfl, rfl, by and_intros <;> decide +kernel⟩,
    by and_intros <;> decide +kernel⟩,
   ⟨(hosted State.reset (cmdOf 0x0903)), 0, (cmdOf 0x0903), ([5]), ⟨rfl, rfl, by and_intros <;> decide +kernel⟩, by and_intros <;> decide +kernel⟩⟩

theorem test_witness_StepRules :
    ∃ (s : State), (s.pending = []) :=
  ⟨State.reset, by decide +kernel⟩

theorem test_witness_FusesStay :
    ∃ (m : Nat) (e : Bool) (s : State) (t : State), (Fused m e s) ∧ (step s = .next t) :=
  ⟨(0), (false), State.reset, (match step State.reset with | .next t => t | _ => State.reset), ⟨Nat.zero_le _, fun h => nomatch h⟩, rfl⟩

theorem test_witness_StoreStaysBounded :
    ∃ (s : State) (t : State), (StoreBounded s) ∧ (step s = .next t) :=
  ⟨State.reset, (match step State.reset with | .next t => t | _ => State.reset), (by and_intros <;> decide +kernel), rfl⟩

theorem test_witness_CommandFrames :
    ∃ (i : Instr) (s : State) (t : State) (k : Nat), (writesSlots i = false) ∧ (exec i s = .next t) ∧ (k < sessionSlot 0) :=
  ⟨(.tapReset), State.reset, ({ State.reset with tap.ir := 2 }), 0, by decide +kernel, rfl, by decide +kernel⟩

/-- The frames' premise, that a row gives a next state, is met by a row of each group. -/
theorem test_witness_frames : (∃ s t, exec .frameStart s = .next t) ∧ (∃ s t, exec (.bufferAlloc 0 64 none) s = .next t) ∧
    (∃ s t, exec .protSelfFence s = .next t) ∧ ∃ s t, exec (.identRead 0) s = .next t :=
  ⟨⟨State.reset, _, rfl⟩, ⟨State.reset, _, rfl⟩, ⟨State.reset, _, rfl⟩, ⟨State.reset, _, rfl⟩⟩

end

end Sys2Proof.Tests
end

section
/-! PROOFS. RULE_WRITE and RULESET_SWAP (R236 to R238, R245). -/
namespace Sys2Proof.Machine

/-! ### Writing rules into a rule set -/

theorem putRule_rules_get_self (r r' : RuleSets) (k k' : Nat) (e : RuleEntry) :
    (putRule r k e).rules.get k = (putRule r' k' e).rules.get k' := by
  simp [putRule]

theorem putRule_rules_get_ne (r : RuleSets) {k j : Nat} (e : RuleEntry) (h : k ≠ j) : (putRule r k e).rules.get j = r.rules.get j := by
  simp [putRule, Tab.get_set_ne _ _ h]

/-- Rules written from index `k` on leave every index outside their range. -/
theorem putRules_rules_get_outside (l : List RuleEntry) (r : RuleSets) {k j : Nat} (h : j < k ∨ k + l.length ≤ j) :
    (putRules r k l).rules.get j = r.rules.get j := by
  induction l generalizing r k with
  | nil => rfl
  | cons e l ih =>
    rw [List.length_cons] at h
    calc (putRules (putRule r k e) (k + 1) l).rules.get j
      _ = (putRule r k e).rules.get j := ih _ (by omega)
      _ = r.rules.get j := putRule_rules_get_ne r e (by omega)

/-- Entry `n` of rules written from index `k` on stands at index `k + n`, as it would alone at any index `k'` of any rule set. -/
theorem putRules_rules_get (l : List RuleEntry) (r r' : RuleSets) (k k' : Nat) {n : Nat} {e : RuleEntry} (h : l[n]? = some e) :
    (putRules r k l).rules.get (k + n) = (putRule r' k' e).rules.get k' := by
  induction l generalizing r k n with
  | nil => simp at h
  | cons x l ih =>
    cases n with
    | zero =>
      obtain rfl : x = e := by simpa using h
      exact (putRules_rules_get_outside l _ (by omega)).trans (putRule_rules_get_self r r' k k' x)
    | succ n =>
      have := ih (putRule r k x) (k + 1) (n := n) (by simpa using h)
      rwa [show k + 1 + n = k + (n + 1) by omega] at this

/-- A write into one bank leaves the other bank: index `j` of bank `a` is outside the range that starts at `i` in bank `1 - a`. -/
theorem bank_index_outside {a i j n : Nat} (ha : a ≤ 1) (hr : i + n ≤ 8192) (hj : j < 8192) :
    a * 8192 + j < (1 - a) * 8192 + i ∨ (1 - a) * 8192 + i + n ≤ a * 8192 + j := by
  omega

/-! ### The checks of RULE_WRITE, in the order of R238 -/

/-- Check 1 fails: the number of rules or their index range (R245), or the contents of a rule (R233). -/
def ruleWriteBad (i : Nat) (l : List RuleEntry) : Bool :=
  l.isEmpty || 32 < l.length || 8192 < i + l.length || l.any ruleBad

theorem ruleWriteBad_iff (i : Nat) (l : List RuleEntry) :
    ruleWriteBad i l = true ↔ l = [] ∨ 32 < l.length ∨ 8192 < i + l.length ∨ l.any ruleBad = true := by
  simp [ruleWriteBad, or_assoc]

theorem ruleWriteBad_eq_false {i : Nat} {l : List RuleEntry} (hne : l ≠ []) (hlen : l.length ≤ 32) (hrange : i + l.length ≤ 8192)
    (hgood : l.any ruleBad = false) : ruleWriteBad i l = false := by
  rw [Bool.eq_false_iff, ne_eq, ruleWriteBad_iff, hgood]
  simp [hne, hlen, hrange]

/-- What RULE_WRITE does once it has started: its three checks in order, then the whole write. -/
def ruleWriteBody (i e : Nat) (l : List RuleEntry) (s : State) : State × Reply :=
  if ruleWriteBad i l then fail s .badArg
  else if s.fwd.rules.draining.isSome then fail s .busy
  else if e != (s.fwd.rules.epoch + 1) % 16 then fail s .staleEpoch
  else
    let t := s.setRules (putRules s.fwd.rules (staging s * 8192 + i) l)
    okay t ((List.range l.length).map (fun k => ruleWords t (staging s * 8192 + i + k))).flatten

theorem exec_ruleWrite (mb : Fin 16) (i e : Nat) (l : List RuleEntry) (s : State) :
    exec (.ruleWrite mb i e l) s = .next (s.command mb 0x0801 fun _ s => ruleWriteBody i e l s) := rfl

section
variable {s : State} {mb : Fin 16} {c : Cmd} (h : Starts s mb 0x0801 c) {i e : Nat} {l : List RuleEntry}
include h

theorem exec_ruleWrite_starts {t : State} {st : Status} {b : List Int} (hb : ruleWriteBody i e l (begun s mb c) = (t, .done st 0 b)) :
    exec (.ruleWrite mb i e l) s = .next (t.respond mb st 0 b) :=
  (exec_ruleWrite mb i e l s).trans (next_done h hb)

theorem exec_ruleWrite_badArg (hb : ruleWriteBad i l = true) :
    exec (.ruleWrite mb i e l) s = .next ((begun s mb c).respond mb .badArg 0 []) :=
  exec_ruleWrite_starts h (by simp [ruleWriteBody, hb, fail])

theorem exec_ruleWrite_busy {d : Nat} (hb : ruleWriteBad i l = false) (hd : s.fwd.rules.draining = some d) :
    exec (.ruleWrite mb i e l) s = .next ((begun s mb c).respond mb .busy 0 []) :=
  exec_ruleWrite_starts h (by simp [ruleWriteBody, hb, hd, fail])

theorem exec_ruleWrite_staleEpoch (hb : ruleWriteBad i l = false) (hd : s.fwd.rules.draining = none)
    (he : e ≠ (s.fwd.rules.epoch + 1) % 16) : exec (.ruleWrite mb i e l) s = .next ((begun s mb c).respond mb .staleEpoch 0 []) :=
  exec_ruleWrite_starts h (by simp [ruleWriteBody, hb, hd, he, fail])

/-- A RULE_WRITE that passes its checks writes all its rules into the staging bank. -/
theorem exec_ruleWrite_ok (hb : ruleWriteBad i l = false) (hd : s.fwd.rules.draining = none) :
    ∃ b, Answers (.ruleWrite mb i ((s.fwd.rules.epoch + 1) % 16) l) s mb
      ((begun s mb c).setRules (putRules s.fwd.rules (staging s * 8192 + i) l)) b :=
  ⟨_, exec_ruleWrite_starts h (by simp [ruleWriteBody, hb, hd, okay, staging]; rfl)⟩

end

/-! ### RULESET_SWAP -/

/-- With no set draining, RULESET_SWAP makes the other bank active under the next epoch, and moves no rule. -/
theorem exec_rulesetSwap_ok {s : State} {mb : Fin 16} {c : Cmd} (h : Starts s mb 0x0804 c) (hd : s.fwd.rules.draining = none) :
    ∃ t, Answers (.rulesetSwap mb) s mb t [] ∧ t.fwd.rules =
      { s.fwd.rules with active := 1 - s.fwd.rules.active, epoch := (s.fwd.rules.epoch + 1) % 16, draining := some s.fwd.rules.epoch } :=
  ⟨_, next_done h (if_neg (by simp [hd])), rfl⟩

/-- Settles O49: the body of RULE_WRITE taken check by check, and a write into the staging bank that cannot reach the active one. -/
theorem ruleWriteChecks : Obligations.RuleWriteChecks := by
  unfold Obligations.RuleWriteChecks
  refine ⟨?badArg, ?busy, ?stale, ?ok, ?swap⟩
  case badArg =>
    intro s mb c i e l h hbad
    exact exec_ruleWrite_badArg h ((ruleWriteBad_iff i l).2 hbad)
  case busy =>
    intro s mb c i e d l h hne hlen hrange hgood hd
    exact exec_ruleWrite_busy h (ruleWriteBad_eq_false hne hlen hrange hgood) hd
  case stale =>
    intro s mb c i e l h hne hlen hrange hgood hd he
    exact exec_ruleWrite_staleEpoch h (ruleWriteBad_eq_false hne hlen hrange hgood) hd he
  case ok =>
    intro s mb c i l h hne hlen hrange hgood hd ha
    obtain ⟨b, hok⟩ := exec_ruleWrite_ok h (ruleWriteBad_eq_false hne hlen hrange hgood) hd
    exact ⟨_, b, hok, fun _ _ hk => putRules_rules_get l _ _ _ 0 hk,
      fun _ hj => putRules_rules_get_outside l _ (bank_index_outside ha hrange hj)⟩
  case swap =>
    intro s mb c h hd
    obtain ⟨t, hok, hr⟩ := exec_rulesetSwap_ok h hd
    exact ⟨t, hok, by rw [hr], by rw [hr], by rw [hr]⟩

end Sys2Proof.Machine
end

section
/-! PROOFS. The event store (R517). -/
namespace Sys2Proof.Machine

/-! ### The record that makes room -/

/-- The oldest Info or Minor record, `x`, is the one taken out. -/
theorem dropMinor_append {a : List (EvRec × Option Nat)} {x : EvRec × Option Nat} (b : List (EvRec × Option Nat))
    (ha : ∀ y ∈ a, 1 < y.1.severity) (hx : x.1.severity ≤ 1) : dropMinor (a ++ x :: b) = some (a ++ b) := by
  induction a with
  | nil => simp [dropMinor, hx]
  | cons y a ih =>
    obtain ⟨hy, ha⟩ := List.forall_mem_cons.1 ha
    simp [dropMinor, Nat.not_le.2 hy, ih ha]

/-- With Major and Critical records alone there is none to take out. -/
theorem dropMinor_eq_none {l : List (EvRec × Option Nat)} (h : ∀ y ∈ l, 1 < y.1.severity) : dropMinor l = none := by
  induction l with
  | nil => rfl
  | cons y l ih =>
    obtain ⟨hy, hl⟩ := List.forall_mem_cons.1 h
    simp [dropMinor, Nat.not_le.2 hy, ih hl]

/-! ### A record that has become visible -/

/-- A visible record touches the state of the vectors, the pending bits and what has left the device only. -/
theorem visible_frame (s : State) (e : EvRec × Option Nat) :
    ∃ v p o, s.visible e = { s with ev.vectors := v, host.pba := p, outbox := o } := by
  unfold State.visible
  split
  · exact ⟨s.ev.vectors, s.host.pba, s.outbox, rfl⟩
  · rename_i v _
    dsimp only
    split
    · obtain ⟨p, o, h⟩ := msix_frame s v
      rw [h]
      exact ⟨_, p, o, rfl⟩
    · exact ⟨_, s.host.pba, s.outbox, rfl⟩

@[simp] theorem visible_store (s : State) (e : EvRec × Option Nat) : (s.visible e).ev.store = s.ev.store := by
  obtain ⟨_, _, _, h⟩ := visible_frame s e
  rw [h]

@[simp] theorem visible_seq (s : State) (e : EvRec × Option Nat) : (s.visible e).ev.seq = s.ev.seq := by
  obtain ⟨_, _, _, h⟩ := visible_frame s e
  rw [h]

@[simp] theorem visible_loss (s : State) (e : EvRec × Option Nat) : (s.visible e).ev.loss = s.ev.loss := by
  obtain ⟨_, _, _, h⟩ := visible_frame s e
  rw [h]

@[simp] theorem visible_ro (s : State) (e : EvRec × Option Nat) (p : Param) (i : Nat) : (s.visible e).ro p i = s.ro p i := by
  obtain ⟨_, _, _, h⟩ := visible_frame s e
  rw [h]
  rfl

/-! ### A record lost at the store (R517, R519) -/

/-- One record more counted in EVENT_LOST [15:0] and lost by cause 3. -/
def State.loseAtStore (s : State) : State := (s.bumpF .EVENT_LOST 0 15 0).lose 3 1

@[simp] theorem loseAtStore_store (s : State) : s.loseAtStore.ev.store = s.ev.store := rfl

@[simp] theorem loseAtStore_seq (s : State) : s.loseAtStore.ev.seq = s.ev.seq := rfl

@[simp] theorem loseAtStore_ro (s : State) :
    s.loseAtStore.ro .EVENT_LOST 0 = (addField (s.ro .EVENT_LOST 0).toNat 15 0 1 : Nat) :=
  setRo_ro_self s .EVENT_LOST 0 _

/-- The first loss waits with its cause, its count and its time. -/
theorem loseAtStore_loss {s : State} (h : s.ev.loss = none) : s.loseAtStore.ev.loss = some (3, 1, s.now) := by
  simp [State.loseAtStore, State.lose, State.bumpF, h]

/-! ### A record at the store -/

theorem storePut_room {s : State} (e : EvRec × Option Nat) (h : s.ev.store.length < 256) :
    s.storePut e = ({ s with ev.store := s.ev.store ++ [e] }).visible e :=
  if_pos h

theorem storePut_room_store {s : State} (e : EvRec × Option Nat) (h : s.ev.store.length < 256) :
    (s.storePut e).ev.store = s.ev.store ++ [e] := by
  rw [storePut_room e h, visible_store]

theorem storePut_replace {s : State} {l : List (EvRec × Option Nat)} (e : EvRec × Option Nat) (h : 256 ≤ s.ev.store.length)
    (hd : dropMinor s.ev.store = some l) : s.storePut e = ({ s.loseAtStore with ev.store := l ++ [e] }).visible e := by
  rw [← loseAtStore_store, State.loseAtStore] at hd
  simp [State.storePut, State.loseAtStore, Nat.not_lt.2 h, hd]

theorem storePut_drop {s : State} (e : EvRec × Option Nat) (h : 256 ≤ s.ev.store.length) (hd : dropMinor s.ev.store = none) :
    s.storePut e = s.loseAtStore := by
  rw [← loseAtStore_store, State.loseAtStore] at hd
  simp [State.storePut, State.loseAtStore, Nat.not_lt.2 h, hd]

/-- At a full store a record is lost, whether the one replaced or the new one. -/
theorem storePut_full {s : State} (e : EvRec × Option Nat) (h : 256 ≤ s.ev.store.length) :
    s.storePut e = s.loseAtStore ∨ ∃ l, s.storePut e = ({ s.loseAtStore with ev.store := l }).visible e := by
  cases hd : dropMinor s.ev.store with
  | none => exact .inl (storePut_drop e h hd)
  | some l => exact .inr ⟨_, storePut_replace e h hd⟩

theorem storePut_full_ro {s : State} (e : EvRec × Option Nat) (h : 256 ≤ s.ev.store.length) (p : Param) (i : Nat) :
    (s.storePut e).ro p i = s.loseAtStore.ro p i := by
  obtain hs | ⟨l, hs⟩ := storePut_full e h
  · rw [hs]
  · rw [hs, visible_ro]
    rfl

theorem storePut_full_loss {s : State} (e : EvRec × Option Nat) (h : 256 ≤ s.ev.store.length) :
    (s.storePut e).ev.loss = s.loseAtStore.ev.loss := by
  obtain hs | ⟨l, hs⟩ := storePut_full e h
  · rw [hs]
  · rw [hs, visible_loss]

@[simp] theorem storePut_seq (s : State) (e : EvRec × Option Nat) : (s.storePut e).ev.seq = s.ev.seq := by
  obtain hroom | hfull := Nat.lt_or_ge s.ev.store.length 256
  · rw [storePut_room e hroom, visible_seq]
  · obtain hs | ⟨l, hs⟩ := storePut_full e hfull
    · rw [hs, loseAtStore_seq]
    · rw [hs, visible_seq, loseAtStore_seq]

/-! ### A record on the store's route -/

/-- With no loss waiting, a record on the store's route takes the next SEQ and goes to the store (R512, R515). -/
theorem deliver_toStore {s : State} {r : EvRec} (hr : toRing s r.kind = false) (hl : s.ev.loss = none) :
    s.deliver r = ({ s with ev.seq := (s.ev.seq + 1) % 65536 }).storePut
      ({ r with seq := s.ev.seq }, routeVector s { r with seq := s.ev.seq }) := by
  have hp : s.placeLoss false = s := by simp [State.placeLoss, hl]
  simp [State.deliver, hr, hp]

/-! ### EVENT_READ -/

theorem exec_eventRead_ok {s : State} {mb : Fin 16} {c : Cmd} {n : Nat} (h : Starts s mb 0x1303 c) (hn : n ≤ 200) :
    Answers (.eventRead mb n) s mb { begun s mb c with ev.store := s.ev.store.drop n }
      (((s.ev.store.take n).map (fun e => (e.1.words.map (fun w => (w.toNat : Int))))).flatten) :=
  next_done h (if_neg (Nat.not_lt.2 hn))

/-- Settles O50: a record at the store finds room, replaces the oldest Info or Minor record, or is dropped, and at a full store one is lost in
either case. -/
theorem eventStore : Obligations.EventStore := by
  unfold Obligations.EventStore
  refine ⟨?deliver, ?replace, ?drop, ?lost, ?read⟩
  case deliver =>
    intro s r hr hl hroom
    rw [deliver_toStore hr hl]
    exact ⟨_, storePut_room_store _ hroom, storePut_seq _ _⟩
  case replace =>
    intro s e x a b hfull hs ha hx
    rw [storePut_replace e hfull (hs ▸ dropMinor_append b ha hx), visible_store]
  case drop =>
    intro s e hfull hmajor
    rw [storePut_drop e hfull (dropMinor_eq_none hmajor), loseAtStore_store]
  case lost =>
    intro s e hfull hl
    exact ⟨(storePut_full_ro e hfull _ _).trans (loseAtStore_ro s), (storePut_full_loss e hfull).trans (loseAtStore_loss hl)⟩
  case read =>
    intro s mb c n h hn
    exact exec_eventRead_ok h hn

end Sys2Proof.Machine
end

section
/-! PROOFS. Boundary scan (R560). -/
namespace Sys2Proof.Machine

/-! ### What the balls do -/

theorem ballsDriven_iff (s : State) : ballsDriven s = true ↔ drivesBy s.tap.ir = true ∧ s.power.resetN = false := by
  simp [ballsDriven]

theorem ballsFloat_iff (s : State) : ballsFloat s = true ↔ s.tap.ir = 4 ∧ s.power.resetN = false := by
  simp [ballsFloat]

/-- The balls are left to the device when the selected instruction does not reach them, or RESET_N is high. -/
theorem balls_undisturbed {s : State} (h : drivesBy s.tap.ir = false ∧ s.tap.ir ≠ 4 ∨ s.power.resetN = true) :
    ballsDriven s = false ∧ ballsFloat s = false := by
  rw [← Bool.not_eq_true, ← Bool.not_eq_true, ballsDriven_iff, ballsFloat_iff]
  obtain ⟨hdrive, hfloat⟩ | hhigh := h
  · simp [hdrive, hfloat]
  · simp [hhigh]

/-! ### An instruction that reaches the balls -/

theorem reachBalls_of_resetN_low {s : State} (h : s.power.resetN = false) (op : Nat) : s.reachBalls op = { s with tap.ir := op } := by
  simp [State.reachBalls, State.selectTap, h]

/-- While RESET_N is high, what BYPASS does, but for the opcode that stays selected. -/
theorem reachBalls_of_resetN_high {s : State} (h : s.power.resetN = true) (op : Nat) :
    s.reachBalls op = { (s.selectTap 0xFF).bypassed with tap.ir := op } := by
  rw [State.reachBalls, if_pos h]
  rfl

theorem exec_extest (s : State) : exec .extest s = .next (s.reachBalls 0) := rfl
theorem exec_clamp (s : State) : exec .clamp s = .next (s.reachBalls 3) := rfl
theorem exec_highz (s : State) : exec .highz s = .next (s.reachBalls 4) := rfl
theorem exec_extestPulse (s : State) : exec .extestPulse s = .next (s.reachBalls 5) := rfl
theorem exec_extestTrain (s : State) : exec .extestTrain s = .next (s.reachBalls 6) := rfl
theorem exec_bypass (s : State) : exec .bypass s = .next (s.selectTap 0xFF).bypassed := rfl

theorem exec_samplePreload (b p : Nat) (s : State) :
    exec (.samplePreload b p) s = .next (({ s with tap := ⟨1, p⟩ }).emit (.tdo b)) := rfl

theorem exec_eq_reachBalls {i : Instr} (h : i ∈ [Instr.extest, .clamp, .highz, .extestPulse, .extestTrain]) (s : State) :
    ∃ op, exec i s = .next (s.reachBalls op) := by
  simp only [List.mem_cons, List.not_mem_nil, or_false] at h
  obtain rfl | rfl | rfl | rfl | rfl := h
  · exact ⟨0, exec_extest s⟩
  · exact ⟨3, exec_clamp s⟩
  · exact ⟨4, exec_highz s⟩
  · exact ⟨5, exec_extestPulse s⟩
  · exact ⟨6, exec_extestTrain s⟩

/-- Settles O48: each of the five is its opcode put through `reachBalls`, and SAMPLE/PRELOAD selects an opcode that reaches no ball. -/
theorem tapRows : Obligations.TapRows := by
  unfold Obligations.TapRows
  refine ⟨?low, ?high, ?sample⟩
  case low =>
    intro s h
    simp only [exec_extest, exec_clamp, exec_highz, exec_extestPulse, exec_extestTrain, reachBalls_of_resetN_low h, ballsDriven_iff,
      ballsFloat_iff, h]
    decide
  case high =>
    intro s h i hi
    obtain ⟨op, hop⟩ := exec_eq_reachBalls hi s
    rw [reachBalls_of_resetN_high h] at hop
    exact ⟨_, op, exec_bypass s, hop, balls_undisturbed (.inr h)⟩
  case sample =>
    intro s b p
    exact ⟨_, exec_samplePreload b p s, balls_undisturbed (.inl ⟨rfl, by simp⟩)⟩

end Sys2Proof.Machine
end

section
/-! PROOFS. Frames: that a function changes at most the parts of the state that a frame names. -/
namespace Sys2Proof.Machine
-- One theorem after the other: side by side, their threads outgrow the memory of the check.
set_option Elab.async false

/-- The key slots but those of sessions are the same in `s` and `t`. -/
def KeysKept (s t : State) : Prop := ∀ k, k < sessionSlot 0 → t.slot k = s.slot k

/-- `t` differs from `s` at most in the parts that `f` takes from it; and where `keys` does not say otherwise, no key slot differs but those of
sessions. -/
def Only (f : State → State → State) (s t : State) (keys : Bool := false) : Prop := t = f s t ∧ (keys = false → KeysKept s t)

/-- `Only`, of the state `π` in a result. -/
def OnlyIn {α : Type} (π : α → State) (f : State → State → State) (s : State) (r : α) (keys : Bool := false) : Prop := Only f s (π r) keys

/-- `Only`, of the next state that a meaning answers. -/
structure OnlyNext (f : State → State → State) (s : State) (r : Res) (keys : Bool := false) : Prop where
  only : ∀ t, r = .next t → Only f s t keys

namespace KeysKept

theorem of_slots {s t : State} (h : t.cipher.slots = s.cipher.slots) : KeysKept s t := fun k _ => by
  unfold State.slot
  rw [h]

theorem trans {s u v : State} (h : KeysKept s u) (k : KeysKept u v) : KeysKept s v := fun i hi => (k i hi).trans (h i hi)

end KeysKept

namespace Only
variable {f g : State → State → State} {s t u v : State} {k m : Bool}

theorem base (h : t = f s t := by rfl) (q : k = false → t.cipher.slots = s.cipher.slots := by intro h; cases h <;> rfl) :
    Only f s t k :=
  ⟨h, fun hk => .of_slots (q hk)⟩

/-- A further change, within the parts of `f`. -/
theorem step (h : Only f s u k) (j : Only g u v m) (w : ∀ a b c, f a (g (f a b) c) = g (f a b) c := by intros; rfl)
    (l : m = true → k = true := by intro h; cases h <;> rfl) : Only f s v k := by
  obtain ⟨hu, hk⟩ := h
  obtain ⟨jv, jk⟩ := j
  refine ⟨?_, fun e => (hk e).trans (jk ?_)⟩
  · rw [hu] at jv
    rw [jv, w]
  · rw [Bool.eq_false_iff] at e ⊢
    exact fun hm => e (l hm)

theorem upd (h : Only f s u k) (j : v = f u v := by rfl) (w : ∀ a b c, f a (f (f a b) c) = f (f a b) c := by intros; rfl)
    (q : k = false → v.cipher.slots = u.cipher.slots := by intro h; cases h <;> rfl) : Only f s v k :=
  h.step (.base j q) w id

/-- Less is said of more parts. -/
theorem mono (h : Only g s t k) (w : ∀ a b, f a (g a b) = g a b := by intros; rfl) : Only f s t k := by
  obtain ⟨ht, hk⟩ := h
  refine ⟨?_, hk⟩
  rw [ht, w]

theorem ite {c : Prop} [Decidable c] (h : Only f s u k) (j : Only f s v k) : Only f s (if c then u else v) k := by
  split <;> assumption

theorem foldl {α : Type} {F : State → α → State} {l : List α} (h : Only f s u k) (j : ∀ u x, Only f u (F u x) k)
    (w : ∀ a b c, f a (f (f a b) c) = f (f a b) c := by intros; rfl) : Only f s (l.foldl F u) k :=
  foldl_keep (Only f s · k) F (fun _ _ hb => hb.step (j _ _) w id) l u h

theorem foldl_fst {α β : Type} {F : State × β → α → State × β} {l : List α} {p : State × β} (h : Only f s p.1 k)
    (j : ∀ r x, Only f r.1 (F r x).1 k) (w : ∀ a b c, f a (f (f a b) c) = f (f a b) c := by intros; rfl) : Only f s (l.foldl F p).1 k :=
  foldl_keep (fun r => Only f s r.1 k) F (fun _ _ hb => hb.step (j _ _) w id) l p h

theorem foldl_snd {α β : Type} {F : β × State → α → β × State} {l : List α} {p : β × State} (h : Only f s p.2 k)
    (j : ∀ r x, Only f r.2 (F r x).2 k) (w : ∀ a b c, f a (f (f a b) c) = f (f a b) c := by intros; rfl) : Only f s (l.foldl F p).2 k :=
  foldl_keep (fun r => Only f s r.2 k) F (fun _ _ hb => hb.step (j _ _) w id) l p h

/-- By way of a state in between. -/
theorem via (u : State) (h : Only f s u k) (j : Only f s u k → Only f s t k) : Only f s t k := j h

theorem elim {α : Type} {o : Option α} {F : α → State} (h : Only f s u k) (j : ∀ x, Only f s (F x) k) : Only f s (o.elim u F) k := by
  cases o with
  | none => exact h
  | some x => exact j x

theorem fst {α : Type} {p : State × α} {x : α} (h : p = (u, x)) (j : Only f s p.1 k) : Only f s u k := by rwa [h] at j
theorem snd {α : Type} {p : α × State} {x : α} (h : p = (x, u)) (j : Only f s p.2 k) : Only f s u k := by rwa [h] at j
theorem snd2 {α β : Type} {p : α × β × State} {x : α} {y : β} (h : p = (x, y, u)) (j : Only f s p.2.2 k) : Only f s u k := by rwa [h] at j

end Only

namespace OnlyIn
variable {α : Type} {π : α → State} {f : State → State → State} {s u : State} {a b : α} {k : Bool}

theorem of (h : Only f s (π a) k) : OnlyIn π f s a k := h

theorem fst {β : Type} {y : β} (h : Only f s u k) : OnlyIn Prod.fst f s (u, y) k := h
theorem snd {β : Type} {y : β} (h : Only f s u k) : OnlyIn Prod.snd f s (y, u) k := h
theorem snd2 {β γ : Type} {y : β} {z : γ} (h : Only f s u k) : OnlyIn (fun r => r.2.2) f s (y, z, u) k := h
theorem okay {b : List Int} (h : Only f s u k) : OnlyIn Prod.fst f s (okay u b) k := h
theorem fail {st : Status} (h : Only f s u k) : OnlyIn Prod.fst f s (fail u st) k := h

theorem ite {c : Prop} [Decidable c] (h : OnlyIn π f s a k) (j : OnlyIn π f s b k) : OnlyIn π f s (if c then a else b) k := by
  split <;> assumption

theorem via (u : State) (h : Only f s u k) (j : Only f s u k → OnlyIn π f s a k) : OnlyIn π f s a k := j h

end OnlyIn

namespace OnlyNext
variable {f g : State → State → State} {s t u : State} {a b : Res} {k : Bool}

theorem next (h : Only f s t k) : OnlyNext f s (.next t) k := by
  constructor
  rintro _ ⟨rfl⟩
  exact h

theorem ite {c : Prop} [Decidable c] (h : OnlyNext f s a k) (j : OnlyNext f s b k) : OnlyNext f s (if c then a else b) k := by
  split <;> assumption

theorem via (u : State) (h : Only f s u k) (j : Only f s u k → OnlyNext f s a k) : OnlyNext f s a k := j h

theorem mono (h : OnlyNext g s a k) (w : ∀ a b, f a (g a b) = g a b := by intros; rfl) : OnlyNext f s a k :=
  ⟨fun t ht => (h.only t ht).mono w⟩

end OnlyNext

/-! ### Responses and the start of a host command -/

theorem respond_only (s : State) (n : Nat) (st : Status) (detail : Nat) (body : List Int) : Only answered s (s.respond n st detail body) := by
  obtain ⟨m, k, a, p, o, h, hk⟩ := respond_frame s n st detail body
  rw [h]
  exact ⟨rfl, fun _ => hk⟩

theorem respondAll_only (s : State) (w : WaitFor) (st : Status) (detail : Nat) (body : List Int) :
    Only answered s (s.respondAll w st detail body) := by
  obtain ⟨m, k, a, p, o, h, hk⟩ := respondAll_frame s w st detail body
  rw [h]
  exact ⟨rfl, fun _ => hk⟩

theorem await_only (s : State) (n : Nat) (w : WaitFor) (k : Bool) : Only (fun s t => { s with mb := t.mb }) s (s.await n w k) := by
  unfold State.await
  split <;> exact .base

theorem park_only (s : State) (n : Nat) (w : WaitFor) : Only (fun s t => { s with mb := t.mb }) s (s.park n w) := by
  unfold State.park
  split <;> exact .base

section
variable {f : State → State → State} {s : State} {k : Bool}

/-- A command changes what its body changes, and what its answer does. -/
theorem commandWith_only {n code : Nat} {pre : Cmd → State → Option Status} {body : Cmd → State → State × Reply}
    (j : ∀ c u, OnlyIn Prod.fst f u (body c u) k) (w : ∀ a b c, f a (f (f a b) c) = f (f a b) c := by intros; rfl)
    (hs : ∀ a, f a a = a := by intros; rfl)
    (ha : ∀ a b c, f a (answered (f a b) c) = answered (f a b) c := by intros; rfl) : Only f s (s.commandWith n code pre body) k := by
  have h0 : Only f s s k := .base (hs s).symm fun _ => rfl
  have hans : ∀ {u v : State}, Only f s u k → Only answered u v → Only f s v k := fun hu hv => hu.step hv ha nofun
  unfold State.commandWith
  split
  · exact h0
  · refine .ite ?_ h0
    extract_lets _ v
    refine .via v (hans h0 .base) fun hv => ?_
    split
    · exact hans hv (respond_only ..)
    · refine .ite ?_ (hans hv (respond_only ..))
      split
      · rename_i u _ _ _ h
        exact hans (.fst h (.step hv (j _ _) w)) (respond_only ..)
      · rename_i u _ _ h
        exact hans (.fst h (.step hv (j _ _) w)) (.step .base (await_only ..))
      · rename_i u _ h
        exact hans (.fst h (.step hv (j _ _) w)) (.step .base (park_only ..))

theorem hostCmd_only {n : Fin 16} {code : Nat} {body : Cmd → State → State × Reply}
    (j : ∀ c u, OnlyIn Prod.fst f u (body c u) k) (w : ∀ a b c, f a (f (f a b) c) = f (f a b) c := by intros; rfl)
    (hs : ∀ a, f a a = a := by intros; rfl)
    (ha : ∀ a b c, f a (answered (f a b) c) = answered (f a b) c := by intros; rfl) : OnlyNext f s (hostCmd s n code body) k :=
  .next (commandWith_only j w hs ha)

theorem onTerm_only {t : Nat} {F : State → State × Reply} (j : OnlyIn Prod.fst f s (F s) k) (hs : f s s = s := by rfl) :
    OnlyIn Prod.fst f s (onTerm s t F) k :=
  have h0 : Only f s s k := .base hs.symm fun _ => rfl
  .ite (.fail h0) (.ite (.fail h0) (.ite (.fst h0) j))

theorem whenFree_only {t : Nat} {F : State → State × Reply} (j : OnlyIn Prod.fst f s (F s) k) (hs : f s s = s := by rfl) :
    OnlyIn Prod.fst f s (whenFree s t F) k :=
  .ite (.fst (.base hs.symm fun _ => rfl)) j

theorem runEntries_only {α : Type} {F : State → α → State × Status × List Int} (j : ∀ u x, OnlyIn Prod.fst f u (F u x) k)
    (w : ∀ a b c, f a (f (f a b) c) = f (f a b) c) (es : List α) (u : State) (i : Nat) (h : Only f s u k) :
    Only f s (runEntries F u i es).1 k := by
  induction es generalizing u i with
  | nil => exact h
  | cons e es ih => exact ih _ _ (h.step (j u e) w id)

/-- A command that carries entries changes what its entries do. -/
theorem entriesCmd_only {α : Type} {F : State → α → State × Status × List Int} {es : List α} (j : ∀ u x, OnlyIn Prod.fst f u (F u x) k)
    (w : ∀ a b c, f a (f (f a b) c) = f (f a b) c := by intros; rfl) (hs : f s s = s := by rfl) :
    OnlyIn Prod.fst f s (entriesCmd F s es) k :=
  runEntries_only j w es s 0 (.base hs.symm fun _ => rfl)

end

end Sys2Proof.Machine
end

section
/-! PROOFS. Frames of the model's functions and rows: `f_only` says which parts `f` may change. -/
namespace Sys2Proof.Machine
-- One theorem after the other: side by side, their threads outgrow the memory of the check.
set_option Elab.async false

/-! ### Machine/Ops -/

theorem emit_only (s : State) (o : Out) : Only (fun s t => { s with outbox := t.outbox }) s (s.emit o) := .base

theorem draw_only (s : State) : OnlyIn Prod.snd (fun s t => { s with free := t.free }) s (s.draw) := by
  unfold State.draw
  exact .snd .base

theorem setPar_only (s : State) (p : Param) (i : Nat) (v : Int) : Only (fun s t => { s with par.vals := t.par.vals }) s (s.setPar p i v) := .base

theorem enforce_only (s : State) (p : Param) (i : Nat) : Only (fun s t => { s with par.inForce := t.par.inForce }) s (s.enforce p i) := .base

theorem setRo_only (s : State) (p : Param) (i : Nat) (v : Int) : Only (fun s t => { s with par.ro := t.par.ro }) s (s.setRo p i v) := .base

theorem bumpF_only (s : State) (p : Param) (i hi lo n : Nat) : Only (fun s t => { s with par.ro := t.par.ro }) s (s.bumpF p i hi lo n) := by
  unfold State.bumpF
  exact .step .base (setRo_only ..)

theorem bump_only (s : State) (p : Param) (i n : Nat) : Only (fun s t => { s with par.ro := t.par.ro }) s (s.bump p i n) := by
  unfold State.bump
  exact .step .base (bumpF_only ..)

theorem raiseAs_only (s : State) (k : EvKind) (clear : Bool) (source region data : Nat) :
    Only (fun s t => { s with ev.transit := t.ev.transit }) s (s.raiseAs k clear source region data) := .base

theorem raise_only (s : State) (k : EvKind) (source region data : Nat) :
    Only (fun s t => { s with ev.transit := t.ev.transit }) s (s.raise k source region data) := by
  unfold State.raise
  exact .step .base (raiseAs_only ..)

theorem raiseEvery_only (s : State) (period : Nat) (k : EvKind) (inst source region : Nat) (data : Nat → Nat) :
    Only (fun s t => { s with ev.transit := t.ev.transit, ev.rate := t.ev.rate }) s (s.raiseEvery period k inst source region data) := by
  unfold State.raiseEvery
  extract_lets _ r _ _ _ v1
  clear_value r
  refine .via v1 .base fun hv1 => ?_
  exact .ite (.step hv1 (raise_only ..)) hv1

theorem raiseSec_only (s : State) (k : EvKind) (inst source region : Nat) (data : Nat → Nat) :
    Only (fun s t => { s with ev.transit := t.ev.transit, ev.rate := t.ev.rate }) s (s.raiseSec k inst source region data) := by
  unfold State.raiseSec
  exact .step .base (raiseEvery_only ..)

theorem msix_only (s : State) (v : Nat) : Only (fun s t => { s with host.pba := t.host.pba, outbox := t.outbox }) s (s.msix v) := by
  unfold State.msix
  exact .ite .base (.step .base (emit_only ..))

theorem auditAdd_only (s : State) (r : AuditRec) : Only (fun s t => { s with roles.audit := t.roles.audit }) s (s.auditAdd r) := by
  unfold State.auditAdd
  extract_lets _ _ _ _ _ _
  exact .base

theorem auditRefusal_only (s : State) (r : AuditRec) : Only (fun s t => { s with roles.audit := t.roles.audit }) s (s.auditRefusal r) := by
  unfold State.auditRefusal
  refine .ite ?_ .base
  extract_lets v _ _
  refine .via v (.step .base (auditAdd_only ..)) fun hv => ?_
  clear_value v
  exact hv.upd

theorem setMbox_only (s : State) (n : Nat) (m : Mailbox) : Only (fun s t => { s with mb := t.mb }) s (s.setMbox n m) := .base

theorem dropKey_only (s : State) (r : Nat) : Only (fun s t => { s with cipher.slots := t.cipher.slots }) s (s.dropKey r) := by
  obtain ⟨k, h, hk⟩ := dropKey_frame s r
  rw [h]
  exact ⟨rfl, fun _ i hi => hk i (by unfold sessionSlot at *; omega)⟩

theorem post_only (s : State) (n : Nat) (c : Cmd) (st : Status) (detail : Nat) (body : List Int) : Only (fun s t => { s with
        mb := t.mb, host.pba := t.host.pba, cipher.slots := t.cipher.slots, outbox := t.outbox }) s (s.post n c st detail body) := by
  unfold State.post
  extract_lets _ _ _ v
  refine .via v (.step (.step .base (setMbox_only ..)) (dropKey_only ..)) fun hv => ?_
  exact .ite (.step (.step .base (setMbox_only ..)) (dropKey_only ..)) (.ite (.step hv (msix_only ..)) hv)

/-! ### Machine/Units -/

theorem setUnit_only (s : State) (u : Nat) (v : UnitRec) : Only (fun s t => { s with units := t.units }) s (s.setUnit u v) := .base

theorem report_only (s : State) (u cause : Nat) : Only (fun s t => { s with reports := t.reports }) s (s.report u cause) := .base

/-! ### Machine/Pon -/

theorem setChan_only (s : State) (c : Nat) (v : ChanState) : Only (fun s t => { s with chans := t.chans }) s (s.setChan c v) := .base

theorem setTerm_only (s : State) (t : Nat) (v : Terminal) : Only (fun s t => { s with terms := t.terms }) s (s.setTerm t v) := .base

theorem setLn_only (s : State) (i : Nat) (v : LaneState) : Only (fun s t => { s with lanes.lanes := t.lanes.lanes }) s (s.setLn i v) := .base

theorem setOptic_only (s : State) (t : Nat) (v : TreeOptics) : Only (fun s t => { s with lanes.optics := t.lanes.optics }) s (s.setOptic t v) := .base

theorem setBm_only (s : State) (t : Nat) (v : BmEntry) : Only (fun s t => { s with lanes.bmem := t.lanes.bmem }) s (s.setBm t v) := .base

theorem setAlloc_only (s : State) (n : Nat) (v : Alloc) : Only (fun s t => { s with dba.allocs := t.dba.allocs }) s (s.setAlloc n v) := .base

theorem setGem_only (s : State) (g : Nat) (v : GemEntry) : Only (fun s t => { s with pon.gems := t.pon.gems }) s (s.setGem g v) := .base

theorem setPair_only (s : State) (p : Nat) (v : KeyPair) : Only (fun s t => { s with cipher.pairs := t.cipher.pairs }) s (s.setPair p v) := .base

theorem setLine_only (s : State) (t : Nat) (l : LineState) : Only (fun s t => { s with pon.line := t.pon.line }) s (s.setLine t l) := .base

theorem setSlot_only (s : State) (k : Nat) (v : KeySlot) : Only (fun s t => { s with cipher.slots := t.cipher.slots }) s (s.setSlot k v) true := .base

theorem setToken_only (s : State) (t : Nat) (v : Token) : Only (fun s t => { s with prot.tokens := t.prot.tokens }) s (s.setToken t v) := .base

theorem setStream_only (s : State) (t : Nat) (v : Sys2Proof.Stream) :
    Only (fun s t => { s with prot.streams := t.prot.streams }) s (s.setStream t v) := .base

theorem takeCounter_only (s : State) (g t : Nat) : Only (fun s t => { s with prot.txCounters := t.prot.txCounters }) s (s.takeCounter g t) := by
  unfold State.takeCounter
  extract_lets _ _
  exact .base

theorem sendCarrier_only (s : State) (t : Nat) (o : Out) :
    Only (fun s t => { s with prot.txCounters := t.prot.txCounters, outbox := t.outbox }) s (s.sendCarrier t o) := by
  unfold State.sendCarrier
  split
  · exact .base
  · exact .step (.step .base (takeCounter_only ..)) (emit_only ..)

theorem mirror_only (s : State) (stream index : Nat) (b : MirrorBody) : Only (fun s t => { s with
        prot.streams := t.prot.streams, prot.txCounters := t.prot.txCounters, outbox := t.outbox }) s (s.mirror stream index b) := by
  unfold State.mirror
  refine .ite ?_ .base
  extract_lets _ _ v
  refine .via v (.step .base (setStream_only ..)) fun hv => ?_
  exact .step hv (sendCarrier_only ..)

theorem mirrorTerm_only (s : State) (t : Nat) :
    Only (fun s t => { s with prot.streams := t.prot.streams, prot.txCounters := t.prot.txCounters, outbox := t.outbox }) s (s.mirrorTerm t) := by
  unfold State.mirrorTerm
  exact .step .base (mirror_only ..)

theorem putTerm_only (s : State) (t : Nat) (v : Terminal) : Only (fun s t => { s with
        terms := t.terms, prot.streams := t.prot.streams, prot.txCounters := t.prot.txCounters, outbox := t.outbox }) s (s.putTerm t v) := by
  unfold State.putTerm
  extract_lets _ v
  refine .via v (.step .base (setTerm_only ..)) fun hv => ?_
  exact .ite hv (.step hv (mirrorTerm_only ..))

theorem putAlloc_only (s : State) (n : Nat) (v : Alloc) : Only (fun s t => { s with
        dba.allocs := t.dba.allocs, prot.streams := t.prot.streams, prot.txCounters := t.prot.txCounters, outbox := t.outbox })
        s (s.putAlloc n v) := by
  unfold State.putAlloc
  exact .step (.step .base (setAlloc_only ..)) (mirror_only ..)

theorem putGem_only (s : State) (g : Nat) (v : GemEntry) : Only (fun s t => { s with
        pon.gems := t.pon.gems, prot.streams := t.prot.streams, prot.txCounters := t.prot.txCounters, outbox := t.outbox }) s (s.putGem g v) := by
  unfold State.putGem
  exact .step (.step .base (setGem_only ..)) (mirror_only ..)

theorem endTimeline_only (s : State) : Only (fun s t => { s with pon.tl := t.pon.tl }) s (s.endTimeline) := by
  unfold State.endTimeline
  exact .ite .base .base

theorem cancelEnable_only (s : State) (c : Nat) :
    Only (fun s t => { answered s t with chans := t.chans, pon.tl := t.pon.tl }) s (s.cancelEnable c) := by
  unfold State.cancelEnable
  extract_lets _
  exact .ite (.step (.step (.step .base (setChan_only ..)) (respondAll_only ..)) (endTimeline_only ..)) .base

theorem queuePloam_only (s : State) (c : Nat) (urgent : Bool) (m : PloamMsg) :
    Only (fun s t => { s with ev.transit := t.ev.transit, chans := t.chans }) s (s.queuePloam c urgent m) := by
  unfold State.queuePloam
  extract_lets _ _ _
  exact .ite .base (.ite (.step (.step .base (setChan_only ..)) (raise_only ..)) (.ite (.step .base (setChan_only ..)) (.step .base (setChan_only
    ..))))

theorem ploamFirst_only (s : State) (c : Nat) (m : PloamMsg) : Only (fun s t => { s with chans := t.chans }) s (s.ploamFirst c m) := by
  unfold State.ploamFirst
  exact .ite (.step .base (setChan_only ..)) .base

theorem filterPloam_only (s : State) (c : Nat) (keep : PloamMsg → Bool) : Only (fun s t => { s with chans := t.chans }) s (s.filterPloam c keep) := by
  unfold State.filterPloam
  extract_lets _
  exact .step .base (setChan_only ..)

theorem returnTaken_only (s : State) (c : Nat) : Only (fun s t => { s with chans := t.chans }) s (s.returnTaken c) := by
  unfold State.returnTaken
  extract_lets _
  exact .step .base (setChan_only ..)

theorem switchKey_only (s : State) (p index sfc : Nat) :
    Only (fun s t => { s with ev.transit := t.ev.transit, cipher.pairs := t.cipher.pairs }) s (s.switchKey p index sfc) := by
  unfold State.switchKey
  extract_lets _ _
  exact .step (.step .base (setPair_only ..)) (raise_only ..)

theorem commitSwitch_only (s : State) (p index : Nat) :
    Only (fun s t => { s with ev.transit := t.ev.transit, chans := t.chans, cipher.pairs := t.cipher.pairs }) s (s.commitSwitch p index) := by
  unfold State.commitSwitch
  extract_lets _ _
  exact .ite (.step (.step .base (setPair_only ..)) (queuePloam_only ..)) (.step .base (switchKey_only ..))

theorem abandonSwitch_only (s : State) (p : Nat) :
    Only (fun s t => { s with chans := t.chans, cipher.pairs := t.cipher.pairs }) s (s.abandonSwitch p) := by
  unfold State.abandonSwitch
  extract_lets _ v
  refine .via v (.step .base (setPair_only ..)) fun hv => ?_
  exact .step hv (filterPloam_only ..)

/-! ### Machine/Fwd -/

theorem setDq_only (s : State) (q : Nat) (v : Queue) : Only (fun s t => { s with fwd.downQ := t.fwd.downQ }) s (s.setDq q v) := .base

theorem setUq_only (s : State) (q : Nat) (v : Queue) : Only (fun s t => { s with fwd.upQ := t.fwd.upQ }) s (s.setUq q v) := .base

theorem setPool_only (s : State) (p : Nat) (v : Pool) : Only (fun s t => { s with fwd.pools := t.fwd.pools }) s (s.setPool p v) := .base

theorem setMac_only (s : State) (m : Nat) (v : MacState) : Only (fun s t => { s with fwd.macs := t.fwd.macs }) s (s.setMac m v) := .base

theorem setTable_only (s : State) (t : Nat) (v : TableState) : Only (fun s t => { s with fwd.tables := t.fwd.tables }) s (s.setTable t v) := .base

theorem setQueue_only (s : State) (w : Nat) (v : Queue) :
    Only (fun s t => { s with fwd.downQ := t.fwd.downQ, fwd.upQ := t.fwd.upQ }) s (s.setQueue w v) := by
  unfold State.setQueue
  exact .ite (.step .base (setDq_only ..)) (.step .base (setUq_only ..))

theorem bufOp_only (s : State) (o : BufOp) : Only (fun s t => { s with fwd.ops := t.fwd.ops }) s (s.bufOp o) := .base

theorem freeFrame_only (s : State) (cls : Nat) (f : Frame) : Only (fun s t => { s with fwd.ops := t.fwd.ops }) s (s.freeFrame cls f) := by
  unfold State.freeFrame
  split
  · exact .base
  · exact .step .base (bufOp_only ..)

theorem emptyQueue_only (s : State) (w : Nat) :
    Only (fun s t => { s with fwd.ops := t.fwd.ops, fwd.downQ := t.fwd.downQ, fwd.upQ := t.fwd.upQ }) s (s.emptyQueue w) := by
  unfold State.emptyQueue
  extract_lets _ v v1 _ _
  refine .via v (.foldl .base fun _ _ => .step .base (freeFrame_only ..)) fun hv => ?_
  refine .via v1 (.foldl hv fun _ _ => .step .base (freeFrame_only ..)) fun hv1 => ?_
  exact .step hv1 (setQueue_only ..)

theorem unwatch_only (s : State) (w : Nat) : Only (fun s t => { s with fwd.watch := t.fwd.watch }) s (s.unwatch w) := by
  unfold State.unwatch
  exact .foldl .base fun _ _ => .base

theorem drainTest_only (s : State) (w : Nat) : Only answered s (s.drainTest w) := by
  unfold State.drainTest
  exact .ite (.step .base (respondAll_only ..)) .base

theorem dropGem_only (s : State) (g : Nat) : Only (fun s t => { answered s t with
        pon.gems := t.pon.gems, fwd.ops := t.fwd.ops, fwd.downQ := t.fwd.downQ, fwd.upQ := t.fwd.upQ, fwd.watch := t.fwd.watch })
        s (s.dropGem g) := by
  unfold State.dropGem
  refine .foldl .base fun u x => ?_
  extract_lets _ v _ v1 _
  refine .via v (.step .base (emptyQueue_only ..)) fun hv => ?_
  refine .via v1 (.step (.step hv (setDq_only ..)) (unwatch_only ..)) fun hv1 => ?_
  exact .step (.step hv1 (setGem_only ..)) (drainTest_only ..)

theorem queueSer_only (s : State) (m : SerMsg) : Only (fun s t => { s with
        par.ro := t.par.ro, ev.transit := t.ev.transit, ev.rate := t.ev.rate, fwd.serial := t.fwd.serial }) s (s.queueSer m) := by
  unfold State.queueSer
  exact .ite (.step (.step .base (bumpF_only ..)) (raiseSec_only ..)) .base

theorem flushGem_only (s : State) (g : Nat) : Only (fun s t => { s with
        par.ro := t.par.ro, ev.transit := t.ev.transit, ev.rate := t.ev.rate, fwd.serial := t.fwd.serial }) s (s.flushGem g) := by
  unfold State.flushGem
  exact .step .base (queueSer_only ..)

/-! ### Machine/Framer -/

theorem setFramer_only (s : State) (c : Nat) (f : Framer) : Only (fun s t => { s with chans := t.chans }) s (s.setFramer c f) := by
  unfold State.setFramer
  exact .step .base (setChan_only ..)

theorem loseSdus_only (s : State) (l : List DsSdu) : Only (fun s t => { s with pon.gems := t.pon.gems, fwd.ops := t.fwd.ops }) s (s.loseSdus l) := by
  unfold State.loseSdus
  exact .foldl .base fun _ _ => .step (.step .base (freeFrame_only ..)) (setGem_only ..)

theorem dropSdus_only (s : State) (c : Nat) (gone : DsSdu → Bool) :
    Only (fun s t => { s with chans := t.chans, pon.gems := t.pon.gems, fwd.ops := t.fwd.ops }) s (s.dropSdus c gone) := by
  unfold State.dropSdus
  extract_lets _
  exact .step (.step .base (setFramer_only ..)) (loseSdus_only ..)

theorem idleFill_only (s : State) (c n : Nat) : Only (fun s t => { s with chans := t.chans, outbox := t.outbox }) s (s.idleFill c n) := by
  unfold State.idleFill
  refine .ite .base ?_
  extract_lets _ _
  exact .step (.step .base (setChan_only ..)) (emit_only ..)

/-! ### Machine/KeyStore -/

theorem fetchKeys_only (s : State) (t : Nat) : Only (fun s t => { s with pon.line := t.pon.line }) s (s.fetchKeys t) := by
  unfold State.fetchKeys
  extract_lets f _
  exact .step .base (setLine_only ..)

theorem mirrorKey_only (s : State) (k material : Nat) (msk : Bool) : Only (fun s t => { s with
        prot.streams := t.prot.streams, prot.txCounters := t.prot.txCounters, outbox := t.outbox }) s (s.mirrorKey k material msk) := by
  unfold State.mirrorKey
  split
  · exact .base
  · extract_lets _ _
    exact .step .base (mirror_only ..)

theorem setGen_only (s : State) (i : Nat) (g : Generator) : Only (fun s t => { s with cipher.generators := t.cipher.generators }) s (s.setGen i g) :=
  .base

theorem takeBits_only (s : State) (i n : Nat) :
    OnlyIn Prod.snd (fun s t => { s with cipher.generators := t.cipher.generators }) s (s.takeBits i n) := by
  unfold State.takeBits
  extract_lets _
  exact .snd (.step .base (setGen_only ..))

theorem splitKey_only (s : State) (v : KeyVal) :
    OnlyIn Prod.snd (fun s t => { s with cipher.generators := t.cipher.generators }) s (s.splitKey v) := by
  unfold State.splitKey
  split
  · rename_i _ _ v h
    refine .via v (.snd h (.step .base (takeBits_only ..))) fun hv1 => ?_
    exact .snd hv1

theorem loadKey_only (s : State) (k : Nat) (v : KeyVal) :
    Only (fun s t => { s with cipher.slots := t.cipher.slots, cipher.generators := t.cipher.generators }) s (s.loadKey k v) true := by
  unfold State.loadKey
  split
  · rename_i _ _ v h
    refine .via v (.snd h (.step .base (splitKey_only ..))) fun hv1 => ?_
    extract_lets _
    exact .step hv1 (setSlot_only ..)

theorem commitKey_only (s : State) (k : Nat) (v : KeyVal) : Only (fun s t => { s with
        cipher.slots := t.cipher.slots, cipher.generators := t.cipher.generators, prot.streams := t.prot.streams,
        prot.txCounters := t.prot.txCounters, prot.wrap15 := t.prot.wrap15, outbox := t.outbox }) s (s.commitKey k v) true := by
  unfold State.commitKey
  extract_lets v _ v1
  refine .via v (.step .base (loadKey_only ..)) fun hv => ?_
  clear_value v
  refine .via v1 (.ite hv.upd hv) fun hv1 => ?_
  exact .step hv1 (mirrorKey_only ..)

theorem loadMsk_only (s : State) (k msk : Nat) : Only (fun s t => { s with
        cipher.slots := t.cipher.slots, cipher.generators := t.cipher.generators, prot.streams := t.prot.streams,
        prot.txCounters := t.prot.txCounters, outbox := t.outbox }) s (s.loadMsk k msk) true := by
  unfold State.loadMsk
  extract_lets _ f
  unfold f
  split
  · rename_i _ _ v1 h
    refine .via v1 (.snd h ?_) fun hv2 => ?_
    · refine .step ?_ (splitKey_only ..)
      split
      · rename_i _ _ v3 h
        refine .via v3 (.snd h (.step .base (splitKey_only ..))) fun hv4 => ?_
        exact .step (.step hv4 (setSlot_only ..)) (mirrorKey_only ..)
    exact .step (.step hv2 (setSlot_only ..)) (mirrorKey_only ..)

theorem zeroSlot_only (s : State) (k : Nat) : Only (fun s t => { s with cipher.slots := t.cipher.slots }) s (s.zeroSlot k) true := by
  unfold State.zeroSlot
  exact .step .base (setSlot_only ..)

theorem answerCommit_only (s : State) (k : Nat) : Only answered s (s.answerCommit k) true := by
  unfold State.answerCommit
  extract_lets _ _
  exact .step (.step .base (setSlot_only ..)) (respondAll_only ..)

theorem commitForced_only (s : State) : Only (fun s t => { answered s t with
        cipher.pairs := t.cipher.pairs, cipher.generators := t.cipher.generators, prot.streams := t.prot.streams,
        prot.txCounters := t.prot.txCounters, prot.wrap15 := t.prot.wrap15 }) s (s.commitForced) true := by
  unfold State.commitForced
  refine .foldl .base fun u x => ?_
  split
  · exact .base
  · extract_lets _ v
    refine .via v (.step .base (setPair_only ..)) fun hv => ?_
    exact .step (.step hv (commitKey_only ..)) (answerCommit_only ..)

theorem cipherLate_only (s : State) (region : Nat) :
    Only (fun s t => { s with par.ro := t.par.ro, ev.transit := t.ev.transit, ev.rate := t.ev.rate }) s (s.cipherLate region) := by
  unfold State.cipherLate
  exact .step (.step .base (bump_only ..)) (raiseSec_only ..)

/-! ### Machine/Capacity -/

theorem reportRole_only (s : State) (r b : Nat) (cell : Option Nat) (cause : Nat) :
    Only (fun s t => { s with reports := t.reports }) s (s.reportRole r b cell cause) := by
  unfold State.reportRole
  extract_lets _
  exact .step .base (report_only ..)

theorem reportCapacity_only (s : State) (r : Nat) :
    Only (fun s t => { s with pace.capSeq := t.pace.capSeq, pace.capSent := t.pace.capSent }) s (s.reportCapacity r) := by
  unfold State.reportCapacity
  extract_lets _ _
  exact .base

theorem testCapacity_only (s : State) (r : Nat) :
    Only (fun s t => { s with pace.capSeq := t.pace.capSeq, pace.capSent := t.pace.capSent }) s (s.testCapacity r) := by
  unfold State.testCapacity
  exact .ite .base (.step .base (reportCapacity_only ..))

/-! ### Machine/Observe -/

theorem setRogue_only (s : State) (c : Nat) (r : Rogue) : Only (fun s t => { s with chans := t.chans }) s (s.setRogue c r) := by
  unfold State.setRogue
  exact .step .base (setChan_only ..)

theorem openRogue_only (s : State) (c : Nat) : Only (fun s t => { s with ev.transit := t.ev.transit, chans := t.chans }) s (s.openRogue c) := by
  unfold State.openRogue
  extract_lets _
  exact .step (.step .base (setRogue_only ..)) (raise_only ..)

theorem rogueObserve_only (s : State) (c kind : Nat) (term : Option Nat) (since : Nat) :
    Only (fun s t => { s with ev.transit := t.ev.transit, chans := t.chans }) s (s.rogueObserve c kind term since) := by
  unfold State.rogueObserve
  extract_lets _ _ _ _ v
  refine .via v (.step .base (setRogue_only ..)) fun hv => ?_
  exact .ite (.step hv (openRogue_only ..)) hv

/-! ### Machine/ProtHook -/

theorem blocked_only (s : State) (t cause : Nat) : Only (fun s t => { s with ev.transit := t.ev.transit }) s (s.blocked t cause) := by
  unfold State.blocked
  exact .step .base (raise_only ..)

theorem startSwitch_only (s : State) (t cause : Nat) :
    Only (fun s t => { s with ev.transit := t.ev.transit, prot.tokens := t.prot.tokens }) s (s.startSwitch t cause) := by
  unfold State.startSwitch
  exact .ite .base (.ite (.step .base (setToken_only ..)) (.step .base (blocked_only ..)))

theorem protFault_only (s : State) (t _cause : Nat) :
    Only (fun s t => { s with ev.transit := t.ev.transit, prot.tokens := t.prot.tokens }) s (s.protFault t _cause) := by
  unfold State.protFault
  exact .ite (.step .base (startSwitch_only ..)) .base

/-! ### Machine/Lanes -/

theorem brst_only (s : State) (tree : Nat) : Only (fun s t => { s with outbox := t.outbox }) s (s.brst tree) := by
  unfold State.brst
  exact .step .base (emit_only ..)

theorem execBrstPulse_only (tree : Fin 32) (s : State) :
    OnlyNext (fun s t => { s with lanes.lanes := t.lanes.lanes, outbox := t.outbox }) s (execBrstPulse tree s) := by
  unfold execBrstPulse
  refine .next ?_
  extract_lets _ _ v
  refine .via v (.step .base (setLn_only ..)) fun hv => ?_
  exact .ite (.ite (.step hv (brst_only ..)) hv) .base

theorem writeBm_only (s : State) (t : Nat) (e : BmEntry) : Only (fun s t => { s with lanes.bmem := t.lanes.bmem }) s (s.writeBm t e) := by
  unfold State.writeBm
  exact .step .base (setBm_only ..)

theorem seedBm_only (s : State) (t : Nat) : Only (fun s t => { s with lanes.bmem := t.lanes.bmem }) s (s.seedBm t) := by
  unfold State.seedBm
  exact .step .base (writeBm_only ..)

theorem clearBm_only (s : State) (t : Nat) : Only (fun s t => { s with lanes.bmem := t.lanes.bmem }) s (s.clearBm t) := by
  unfold State.clearBm
  exact .step .base (writeBm_only ..)

theorem execBmemRead_only (mb : Fin 16) (term : Nat) (s : State) : OnlyNext answered s (execBmemRead mb term s) := by
  unfold execBmemRead
  refine hostCmd_only fun c u => ?_
  exact .ite (.fail .base) (.ite (.fail .base) (.okay .base))

theorem execBmemReset_only (mb : Fin 16) (term : Nat) (s : State) :
    OnlyNext (fun s t => { answered s t with lanes.bmem := t.lanes.bmem }) s (execBmemReset mb term s) := by
  unfold execBmemReset
  refine hostCmd_only fun c u => ?_
  refine .ite (.fail .base) (.ite (.fail .base) ?_)
  extract_lets v
  refine .via v (.step .base (seedBm_only ..)) fun hv => ?_
  exact .okay hv

theorem execBurstPreload_only (c : Fin 64) (late : Bool) (s : State) : OnlyNext (fun s t => { s with
        ev.transit := t.ev.transit, lanes.lanes := t.lanes.lanes, pon.line := t.pon.line }) s (execBurstPreload c late s) := by
  unfold execBurstPreload
  refine .next ?_
  extract_lets _ l
  clear_value l
  split
  · refine .ite .base ?_
    extract_lets v1 v2
    refine .via v1 (.step .base (setLn_only ..)) fun hv1 => ?_
    refine .via v2 ?_ fun hv2 => ?_
    · unfold v2
      split
      · exact .step hv1 (fetchKeys_only ..)
      · exact hv1
    exact .ite (.step hv2 (raise_only ..)) hv2
  · exact .base

theorem execBankSwap_only (c : Fin 64) (s : State) : OnlyNext (fun s t => { s with lanes.lanes := t.lanes.lanes }) s (execBankSwap c s) := by
  unfold execBankSwap
  refine .next ?_
  extract_lets _ l
  clear_value l
  split
  · extract_lets _
    exact .step .base (setLn_only ..)
  · exact .ite (.step .base (setLn_only ..)) .base
  · exact .base

theorem qualify_only (s : State) (t tree c : Nat) :
    Only (fun s t => { s with ev.transit := t.ev.transit, lanes.bmem := t.lanes.bmem }) s (s.qualify t tree c) := by
  unfold State.qualify
  extract_lets _
  exact .ite (.step (.step .base (writeBm_only ..)) (raise_only ..)) .base

theorem demoteTest_only (s : State) (t tree c : Nat) :
    Only (fun s t => { s with ev.transit := t.ev.transit, lanes.bmem := t.lanes.bmem }) s (s.demoteTest t tree c) := by
  unfold State.demoteTest
  extract_lets _
  exact .ite .base (.ite (.step (.step .base (writeBm_only ..)) (raiseAs_only ..)) (.step .base (writeBm_only ..)))

theorem missCounters_only (s : State) (t : Nat) :
    Only (fun s t => { s with ev.transit := t.ev.transit, lanes.bmem := t.lanes.bmem }) s (s.missCounters t) := by
  unfold State.missCounters
  extract_lets _
  exact .ite .base (.step (.step .base (writeBm_only ..)) (demoteTest_only ..))

theorem carryFinal_only (s : State) (i t : Nat) (f : LaneSettings) :
    Only (fun s t => { s with lanes.lanes := t.lanes.lanes }) s (s.carryFinal i t f) := by
  unfold State.carryFinal
  extract_lets _
  exact .ite (.step .base (setLn_only ..)) .base

theorem writeState_only (s : State) (t : Nat) (x : BurstRx) (f : LaneSettings) :
    Only (fun s t => { s with lanes.bmem := t.lanes.bmem }) s (s.writeState t x f) := by
  unfold State.writeState
  exact .step .base (writeBm_only ..)

theorem writeBack'_only (s : State) (t : Nat) (x : BurstRx) (f : LaneSettings) :
    Only (fun s t => { s with ev.transit := t.ev.transit, lanes.bmem := t.lanes.bmem }) s (s.writeBack' t x f) := by
  unfold State.writeBack'
  extract_lets _ _
  exact .step (.step .base (writeBm_only ..)) (qualify_only ..)

theorem sleepLane_only (s : State) (i : Nat) : Only (fun s t => { s with lanes.lanes := t.lanes.lanes }) s (s.sleepLane i) := by
  unfold State.sleepLane
  extract_lets _
  exact .ite .base (.step .base (setLn_only ..))

theorem execLaneSleepStart_only (c : Fin 64) (s : State) :
    OnlyNext (fun s t => { s with lanes.lanes := t.lanes.lanes }) s (execLaneSleepStart c s) := by
  unfold execLaneSleepStart
  refine .next ?_
  extract_lets _
  exact .ite (.step .base (sleepLane_only ..)) .base

theorem wakeLane_only (s : State) (i : Nat) : Only (fun s t => { s with lanes.lanes := t.lanes.lanes }) s (s.wakeLane i) := by
  unfold State.wakeLane
  extract_lets _
  exact .ite (.step .base (setLn_only ..)) .base

theorem postAsleep_only (s : State) (i : Nat) : Only (fun s t => { s with par.ro := t.par.ro, lanes.lanes := t.lanes.lanes }) s (s.postAsleep i) := by
  unfold State.postAsleep
  extract_lets _ _
  exact .step (.step .base (setLn_only ..)) (bump_only ..)

theorem execLaneWakeStart_only (c : Fin 64) (s : State) :
    OnlyNext (fun s t => { s with lanes.lanes := t.lanes.lanes }) s (execLaneWakeStart c s) := by
  unfold execLaneWakeStart
  exact .next (.step .base (wakeLane_only ..))

theorem execSleepLight_only (c : Fin 64) (offset : Nat) (last : Option (Fin 8192)) (since : Nat) (s : State) :
    OnlyNext (fun s t => { s with ev.transit := t.ev.transit, chans := t.chans }) s (execSleepLight c offset last since s) := by
  unfold execSleepLight
  exact .next (.ite (.step (.step .base (raise_only ..)) (rogueObserve_only ..)) .base)

theorem execDarkWakeRunStart_only (c : Fin 64) (s : State) :
    OnlyNext (fun s t => { s with lanes.lanes := t.lanes.lanes, lanes.wakeRun := t.lanes.wakeRun }) s (execDarkWakeRunStart c s) := by
  unfold execDarkWakeRunStart
  exact .next (.ite (.step .base (wakeLane_only ..)) .base)

theorem execDarkWakeRunEnd_only (c : Fin 64) (s : State) :
    OnlyNext (fun s t => { s with lanes.lanes := t.lanes.lanes, lanes.wakeRun := t.lanes.wakeRun }) s (execDarkWakeRunEnd c s) := by
  unfold execDarkWakeRunEnd
  refine .next ?_
  extract_lets _ v
  refine .via v .base fun hv => ?_
  exact .ite (.step (.step hv (sleepLane_only ..)) (sleepLane_only ..)) hv

theorem driveLane_only (s : State) (c : Nat) :
    Only (fun s t => { s with par.inForce := t.par.inForce, lanes.lanes := t.lanes.lanes, outbox := t.outbox }) s (s.driveLane c) := by
  unfold State.driveLane
  extract_lets _ v _ _
  refine .via v (.step (.step (.step .base (enforce_only ..)) (enforce_only ..)) (enforce_only ..)) fun hv => ?_
  exact .ite hv (.step (.step hv (setLn_only ..)) (emit_only ..))

theorem execDriverSegmentFault_only (c : Fin 64) (segment : Fin 40) (s : State) :
    OnlyNext (fun s t => { s with reports := t.reports, lanes.lanes := t.lanes.lanes }) s (execDriverSegmentFault c segment s) := by
  unfold execDriverSegmentFault
  refine .next ?_
  extract_lets _ _
  exact .ite .base (.step (.step .base (setLn_only ..)) (reportRole_only ..))

theorem failLane_only (s : State) (i : Nat) : Only (fun s t => { answered s t with
        ev.transit := t.ev.transit, lanes.lanes := t.lanes.lanes, chans := t.chans, pon.tl := t.pon.tl, prot.tokens := t.prot.tokens })
        s (s.failLane i) := by
  unfold State.failLane
  extract_lets _ _ v v1
  refine .via v (.step .base (setLn_only ..)) fun hv => ?_
  refine .via v1 (.step hv (cancelEnable_only ..)) fun hv1 => ?_
  exact .step (.step hv1 (raise_only ..)) (protFault_only ..)

def loseUnitParts : State → State → State :=
  fun s t => { answered s t with
      ev.transit := t.ev.transit, pace.capSeq := t.pace.capSeq, pace.capSent := t.pace.capSent, lanes.lanes := t.lanes.lanes, chans := t.chans,
      pon.tl := t.pon.tl, prot.tokens := t.prot.tokens }

theorem loseUnit_only (s : State) (i unit : Nat) : Only loseUnitParts s (s.loseUnit i unit) := by
  unfold State.loseUnit
  extract_lets _ _ v good1
  clear_value good1
  refine .via v (.step .base (setLn_only ..)) fun hv => ?_
  refine .ite (.ite (.step hv (raise_only ..)) (.step hv (failLane_only ..))) ?_
  split
  · extract_lets v2
    refine .via v2 (.step hv (raise_only ..)) fun hv2 => ?_
    exact .step hv2 (reportCapacity_only ..)
  · exact .step hv (failLane_only ..)

theorem execLaneSegmentSwap_only (c : Fin 64) (s : State) : OnlyNext (fun s t => { answered s t with
        par.inForce := t.par.inForce, ev.transit := t.ev.transit, pace.capSeq := t.pace.capSeq, pace.capSent := t.pace.capSent,
        lanes.lanes := t.lanes.lanes, chans := t.chans, pon.tl := t.pon.tl, prot.tokens := t.prot.tokens }) s (execLaneSegmentSwap c s) := by
  unfold execLaneSegmentSwap
  refine .next ?_
  extract_lets _ l
  clear_value l
  split
  · exact .base
  · extract_lets v1 _ v2 v3
    refine .via v1 (.step .base (setLn_only ..)) fun hv1 => ?_
    refine .via v2 (.step hv1 (setLn_only ..)) fun hv2 => ?_
    refine .via v3 (.ite (.step hv2 (raise_only ..)) (.step hv1 (loseUnit_only ..))) fun hv3 => ?_
    exact .step hv3 (driveLane_only ..)

theorem execSliceShadowPeriod_only (c : Fin 64) (differ total : Nat) (eyeLow : Bool) (s : State) :
    OnlyNext (fun s t => { s with reports := t.reports, lanes.lanes := t.lanes.lanes }) s (execSliceShadowPeriod c differ total eyeLow s) := by
  unfold execSliceShadowPeriod
  refine .next ?_
  extract_lets _ _ _ _ v
  refine .via v (.step .base (setLn_only ..)) fun hv => ?_
  exact .ite (.step hv (reportRole_only ..)) hv

theorem execLaneSliceSwap_only (c : Fin 64) (s : State) : OnlyNext loseUnitParts s (execLaneSliceSwap c s) := by
  unfold execLaneSliceSwap
  refine .next ?_
  extract_lets _ l
  clear_value l
  split
  · exact .base
  · extract_lets v1 _ v2
    refine .via v1 (.step .base (setLn_only ..)) fun hv1 => ?_
    refine .via v2 (.step hv1 (setLn_only ..)) fun hv2 => ?_
    exact .ite (.step hv2 (raise_only ..)) (.step hv1 (loseUnit_only ..))

/-! ### Machine/Modules -/

theorem execTreeLosPin_only (tree : Fin 32) (level : Bool) (s : State) :
    OnlyNext (fun s t => { s with lanes.optics := t.lanes.optics }) s (execTreeLosPin tree level s) := by
  unfold execTreeLosPin
  refine .next ?_
  extract_lets _ _
  exact .ite (.step .base (setOptic_only ..)) (.step .base (setOptic_only ..))

theorem openLosWindow_only (s : State) (t : Nat) :
    Only (fun s t => { s with par.inForce := t.par.inForce, lanes.optics := t.lanes.optics }) s (s.openLosWindow t) := by
  unfold State.openLosWindow
  extract_lets _ _
  exact .step (.step (.step .base (setOptic_only ..)) (enforce_only ..)) (enforce_only ..)

theorem execLosWindowExpiry_only (tree : Fin 32) (s : State) : OnlyNext (fun s t => { s with
        par.inForce := t.par.inForce, ev.transit := t.ev.transit, lanes.optics := t.lanes.optics, prot.tokens := t.prot.tokens })
        s (execLosWindowExpiry tree s) := by
  unfold execLosWindowExpiry
  refine .next ?_
  extract_lets _ _ _
  split
  · extract_lets v
    refine .via v (.step (.step .base (setOptic_only ..)) (openLosWindow_only ..)) fun hv => ?_
    exact .ite .base (.ite (.step (.step hv (raise_only ..)) (protFault_only ..)) (.ite (.step hv (raiseAs_only ..)) hv))

theorem setMaster_only (s : State) (m : Nat) (v : Master) : Only (fun s t => { s with lanes.masters := t.lanes.masters }) s (s.setMaster m v) := .base

theorem startTxn_only (s : State) (k : Nat) : Only (fun s t => { s with lanes.masters := t.lanes.masters, outbox := t.outbox }) s (s.startTxn k) := by
  unfold State.startTxn
  extract_lets m
  clear_value m
  refine .ite .base ?_
  split
  · exact .base
  · extract_lets _ _ v1
    refine .via v1 (.step .base (setMaster_only ..)) fun hv1 => ?_
    exact .ite hv1 (.step hv1 (emit_only ..))

theorem execMmsSelSetupExpiry_only (master : Fin 4) (s : State) :
    OnlyNext (fun s t => { s with lanes.masters := t.lanes.masters, outbox := t.outbox }) s (execMmsSelSetupExpiry master s) := by
  unfold execMmsSelSetupExpiry
  refine .next ?_
  extract_lets m
  clear_value m
  split
  · exact .ite (.step (.step .base (setMaster_only ..)) (emit_only ..)) .base
  · exact .base

theorem queueTxn_only (s : State) (x : ModTxn) :
    Only (fun s t => { s with lanes.masters := t.lanes.masters, outbox := t.outbox }) s (s.queueTxn x) := by
  unfold State.queueTxn
  extract_lets _ _ _
  exact .step (.step .base (setMaster_only ..)) (startTxn_only ..)

theorem nextRound_only (s : State) (tree : Nat) : Only (fun s t => { s with lanes.optics := t.lanes.optics }) s (s.nextRound tree) := by
  unfold State.nextRound
  extract_lets _
  exact .ite (.step .base (setOptic_only ..)) .base

theorem endRssi_only (s : State) (tree term : Nat) (value : Option Nat) :
    Only (fun s t => { answered s t with lanes.optics := t.lanes.optics, lanes.bmem := t.lanes.bmem }) s (s.endRssi tree term value) := by
  unfold State.endRssi
  extract_lets _ v _ v1
  refine .via v (.step .base (setOptic_only ..)) fun hv => ?_
  refine .via v1 ?_ fun hv1 => ?_
  · unfold v1
    split
    · extract_lets v2
      refine .via v2 (.step hv (writeBm_only ..)) fun hv2 => ?_
      exact .step hv2 (respondAll_only ..)
    · exact .step hv (respondAll_only ..)
  exact .step hv1 (nextRound_only ..)

theorem dropRssi_only (s : State) (t : Nat) : Only (fun s t => { answered s t with lanes.optics := t.lanes.optics }) s (s.dropRssi t) := by
  unfold State.dropRssi
  extract_lets _ _ v
  refine .via v (.ite (.step (.step .base (setOptic_only ..)) (respondAll_only ..)) .base) fun hv => ?_
  exact .step hv (nextRound_only ..)

theorem endPage_only (s : State) (tree number : Nat) (data : List Byte) :
    Only (fun s t => { s with lanes.optics := t.lanes.optics, outbox := t.outbox }) s (s.endPage tree number data) := by
  unfold State.endPage
  extract_lets _ v
  refine .via v (.step .base (setOptic_only ..)) fun hv => ?_
  exact .ite (.step hv (emit_only ..)) hv

theorem execModuleTransactionDone_only (master : Fin 4) (data : List Byte) (s : State) : OnlyNext (fun s t => { answered s t with
        lanes.optics := t.lanes.optics, lanes.masters := t.lanes.masters, lanes.bmem := t.lanes.bmem })
        s (execModuleTransactionDone master data s) := by
  unfold execModuleTransactionDone
  refine .next ?_
  extract_lets m v1
  clear_value m
  refine .via v1 (.step .base (setMaster_only ..)) fun hv1 => ?_
  split
  · exact .base
  · refine .ite .base ?_
    extract_lets v2
    refine .via v2 ?_ fun hv2 => ?_
    · unfold v2
      split
      · exact hv1
      · exact .step hv1 (respondAll_only ..)
      · exact .step hv1 (respondAll_only ..)
      · exact .step hv1 (endRssi_only ..)
      · exact .step hv1 (endPage_only ..)
    exact .step hv2 (startTxn_only ..)

theorem failTxn_only (s : State) (x : ModTxn) :
    Only (fun s t => { answered s t with lanes.optics := t.lanes.optics, lanes.bmem := t.lanes.bmem }) s (s.failTxn x) := by
  unfold State.failTxn
  split
  · exact .base
  · exact .step .base (respondAll_only ..)
  · exact .step .base (respondAll_only ..)
  · exact .step .base (endRssi_only ..)
  · exact .step .base (endPage_only ..)

theorem busFaultOf_only (s : State) (m t : Nat) :
    Only (fun s t => { s with ev.transit := t.ev.transit, lanes.optics := t.lanes.optics }) s (s.busFaultOf m t) := by
  unfold State.busFaultOf
  extract_lets v _
  refine .via v (.step .base (raise_only ..)) fun hv => ?_
  exact .step hv (setOptic_only ..)

theorem execMmsBusStuck_only (master : Fin 4) (s : State) : OnlyNext (fun s t => { answered s t with
        ev.transit := t.ev.transit, lanes.optics := t.lanes.optics, lanes.masters := t.lanes.masters, lanes.bmem := t.lanes.bmem })
        s (execMmsBusStuck master s) := by
  unfold execMmsBusStuck
  refine .next ?_
  extract_lets m
  clear_value m
  split
  · exact .ite (.step (.step (.step .base (setMaster_only ..)) (busFaultOf_only ..)) (startTxn_only ..)) (.step (.step .base (setMaster_only ..))
    (emit_only ..))
  · extract_lets _
    exact .ite (.step (.step (.step (.step .base (busFaultOf_only ..)) (setMaster_only ..)) (failTxn_only ..)) (startTxn_only ..)) (.step (.step
      (.step .base (setMaster_only ..)) (emit_only ..)) (emit_only ..))

theorem execMmsSelectHoldoffExpiry_only (tree : Fin 32) (s : State) : OnlyNext (fun s t => { s with
        lanes.optics := t.lanes.optics, lanes.masters := t.lanes.masters, outbox := t.outbox }) s (execMmsSelectHoldoffExpiry tree s) := by
  unfold execMmsSelectHoldoffExpiry
  exact .next (.step (.step .base (setOptic_only ..)) (startTxn_only ..))

theorem execModuleManageStart_only (tree : Fin 32) (revision : Byte) (s : State) : OnlyNext (fun s t => { s with
        ev.transit := t.ev.transit, lanes.optics := t.lanes.optics, lanes.masters := t.lanes.masters, outbox := t.outbox })
        s (execModuleManageStart tree revision s) := by
  unfold execModuleManageStart
  refine .next ?_
  extract_lets _
  exact .ite (.step (.step (.step (.step .base (setOptic_only ..)) (queueTxn_only ..)) (queueTxn_only ..)) (queueTxn_only ..)) (.step (.step .base
    (setOptic_only ..)) (raise_only ..))

theorem applyLaneControls_only (s : State) (t : Nat) : Only (fun s t => { s with outbox := t.outbox }) s (s.applyLaneControls t) := by
  unfold State.applyLaneControls
  exact .ite (.step .base (emit_only ..)) .base

theorem execModuleReady_only (tree : Fin 32) (s : State) :
    OnlyNext (fun s t => { s with lanes.optics := t.lanes.optics, outbox := t.outbox }) s (execModuleReady tree s) := by
  unfold execModuleReady
  refine .next ?_
  extract_lets _
  exact .ite (.step (.step .base (setOptic_only ..)) (applyLaneControls_only ..)) .base

theorem seedTree_only (s : State) (t : Nat) : Only (fun s t => { s with lanes.bmem := t.lanes.bmem }) s (s.seedTree t) := by
  unfold State.seedTree
  exact .foldl .base fun _ _ => .ite (.step .base (seedBm_only ..)) .base

theorem moduleAlarms_only (s : State) (t : Nat) (flags : List (Byte × Byte)) :
    Only (fun s t => { s with ev.transit := t.ev.transit }) s (s.moduleAlarms t flags) := by
  unfold State.moduleAlarms
  exact .foldl .base fun _ _ => .ite .base (.step .base (raise_only ..))

theorem execModulePoll_only (tree : Fin 32) (flags : Option (List (Byte × Byte))) (s : State) : OnlyNext (fun s t => { s with
        ev.transit := t.ev.transit, lanes.optics := t.lanes.optics, lanes.masters := t.lanes.masters, lanes.bmem := t.lanes.bmem,
        prot.tokens := t.prot.tokens, outbox := t.outbox }) s (execModulePoll tree flags s) := by
  unfold execModulePoll
  refine .next ?_
  extract_lets _ _ v _ _ v1 v2 v3
  refine .via v (.step .base (queueTxn_only ..)) fun hv => ?_
  refine .via v1 (.step hv (setOptic_only ..)) fun hv1 => ?_
  refine .via v2 (.step hv (setOptic_only ..)) fun hv2 => ?_
  refine .via v3 (.ite (.step (.step hv2 (seedTree_only ..)) (raiseAs_only ..)) hv2) fun hv3 => ?_
  split
  · exact .ite (.step (.step hv1 (raise_only ..)) (protFault_only ..)) hv1
  · exact .ite (.step hv3 (moduleAlarms_only ..)) hv3

theorem execModuleRead_only (mb : Fin 16) (tree page bank offset count : Nat) (s : State) : OnlyNext (fun s t => { answered s t with
        lanes.masters := t.lanes.masters, lanes.nextTxn := t.lanes.nextTxn }) s (execModuleRead mb tree page bank offset count s) := by
  unfold execModuleRead
  refine hostCmd_only fun c u => ?_
  refine .ite (.fail .base) (.ite (.fail .base) ?_)
  extract_lets _ _
  exact .fst (.step .base (queueTxn_only ..))

theorem execModuleWrite_only (mb : Fin 16) (tree page bank offset : Nat) (data : List Byte) (s : State) : OnlyNext (fun s t => { answered s t with
        lanes.masters := t.lanes.masters, lanes.nextTxn := t.lanes.nextTxn }) s (execModuleWrite mb tree page bank offset data s) := by
  unfold execModuleWrite
  refine hostCmd_only fun c u => ?_
  refine .ite (.fail .base) (.ite (.fail .base) (.ite (.fail .base) ?_))
  extract_lets _ _
  exact .fst (.step .base (queueTxn_only ..))

theorem execRssiMeasure_only (mb : Fin 16) (term : Nat) (s : State) :
    OnlyNext (fun s t => { answered s t with lanes.optics := t.lanes.optics }) s (execRssiMeasure mb term s) := by
  unfold execRssiMeasure
  refine hostCmd_only fun c u => ?_
  refine .ite (.fail .base) ?_
  extract_lets _ _
  exact .ite (.fail .base) (.ite (.fail .base) (.fst (.step .base (setOptic_only ..))))

theorem execRssiRoundStart_only (tree : Fin 32) (s : State) :
    OnlyNext (fun s t => { s with lanes.optics := t.lanes.optics }) s (execRssiRoundStart tree s) := by
  unfold execRssiRoundStart
  exact .next (.step (.step .base (setOptic_only ..)) (nextRound_only ..))

theorem execRssiWindow_only (term : Fin 8192) (payloadNs : Nat) (s : State) :
    OnlyNext (fun s t => { s with lanes.optics := t.lanes.optics, outbox := t.outbox }) s (execRssiWindow term payloadNs s) := by
  unfold execRssiWindow
  refine .next ?_
  extract_lets _ _ _ _
  exact .ite (.step (.step .base (setOptic_only ..)) (emit_only ..)) .base

theorem execRssiSettleExpiry_only (tree : Fin 32) (s : State) : OnlyNext (fun s t => { answered s t with
        lanes.optics := t.lanes.optics, lanes.masters := t.lanes.masters, lanes.bmem := t.lanes.bmem }) s (execRssiSettleExpiry tree s) := by
  unfold execRssiSettleExpiry
  refine .next ?_
  extract_lets o
  clear_value o
  split
  · refine .ite ?_ .base
    extract_lets v1
    refine .via v1 (.step .base (setOptic_only ..)) fun hv1 => ?_
    exact .ite (.step hv1 (endRssi_only ..)) (.step hv1 (queueTxn_only ..))
  · exact .base

/-! ### Machine/Terms -/

theorem clearDemands_only (s : State) (t : Nat) : Only (fun s t => { s with dba.allocs := t.dba.allocs }) s (s.clearDemands t) := by
  unfold State.clearDemands
  exact .foldl .base fun _ _ => .step .base (setAlloc_only ..)

theorem releaseAlloc_only (s : State) (keep n : Nat) : Only (fun s t => { s with
        dba.allocs := t.dba.allocs, prot.streams := t.prot.streams, prot.txCounters := t.prot.txCounters, outbox := t.outbox })
        s (s.releaseAlloc keep n) := by
  unfold State.releaseAlloc
  extract_lets _ _
  exact .ite (.step .base (putAlloc_only ..)) (.step .base (putAlloc_only ..))

theorem dropReasm_only (s : State) (g : Nat) : Only (fun s t => { s with par.ro := t.par.ro, pon.reasm := t.pon.reasm }) s (s.dropReasm g) := by
  unfold State.dropReasm
  split
  · exact .base
  · refine .ite .base ?_
    extract_lets _ _
    exact .step .base (bumpF_only ..)

theorem resetLine_only (s : State) (t : Nat) : Only (fun s t => { s with par.ro := t.par.ro, pon.line := t.pon.line }) s (s.resetLine t) := by
  unfold State.resetLine
  extract_lets _ _ _ _
  exact .step .base (setRo_only ..)

def unbindGemParts : State → State → State :=
  fun s t => { answered s t with
      par.ro := t.par.ro, ev.transit := t.ev.transit, ev.rate := t.ev.rate, chans := t.chans, pon.gems := t.pon.gems, pon.reasm := t.pon.reasm,
      prot.streams := t.prot.streams, prot.txCounters := t.prot.txCounters, fwd.serial := t.fwd.serial, fwd.ops := t.fwd.ops,
      fwd.downQ := t.fwd.downQ, fwd.upQ := t.fwd.upQ, fwd.watch := t.fwd.watch }

theorem unbindGem_only (s : State) (g : Nat) (keep : Bool) : Only unbindGemParts s (s.unbindGem g keep) := by
  unfold State.unbindGem
  extract_lets _ v v1 _ v2 _
  refine .via v (.step (.step (.step .base (dropSdus_only ..)) (dropGem_only ..)) (dropReasm_only ..)) fun hv => ?_
  refine .via v1 (.step hv (flushGem_only ..)) fun hv1 => ?_
  clear_value v v1
  refine .via v2 hv1.upd fun hv2 => ?_
  exact .step hv2 (putGem_only ..)

theorem releaseTerm_only (s : State) (t : Nat) : Only (fun s t => { answered s t with
        par.ro := t.par.ro, ev.transit := t.ev.transit, ev.rate := t.ev.rate, lanes.bmem := t.lanes.bmem, chans := t.chans, pon.gems := t.pon.gems,
        pon.line := t.pon.line, pon.reasm := t.pon.reasm, dba.allocs := t.dba.allocs, cipher.pairs := t.cipher.pairs, prot.streams := t.prot.streams,
        prot.txCounters := t.prot.txCounters, fwd.serial := t.fwd.serial, fwd.ops := t.fwd.ops, fwd.downQ := t.fwd.downQ, fwd.upQ := t.fwd.upQ,
        fwd.watch := t.fwd.watch }) s (s.releaseTerm t) := by
  unfold State.releaseTerm
  extract_lets _ v v1 v2 v3
  refine .via v (.foldl .base fun _ _ => .step .base (releaseAlloc_only ..)) fun hv => ?_
  refine .via v1 (.foldl hv fun _ _ => .step .base (unbindGem_only ..)) fun hv1 => ?_
  refine .via v2 (.step hv1 (resetLine_only ..)) fun hv2 => ?_
  refine .via v3 (.step hv2 (abandonSwitch_only ..)) fun hv3 => ?_
  exact .step hv3 (clearBm_only ..)

theorem dropPloam_only (s : State) (t : Nat) : Only (fun s t => { s with chans := t.chans }) s (s.dropPloam t) := by
  unfold State.dropPloam
  exact .step .base (filterPloam_only ..)

theorem dropWindows_only (s : State) (t : Nat) : Only (fun s t => { s with chans := t.chans }) s (s.dropWindows t) := by
  unfold State.dropWindows
  extract_lets _ _ _
  exact .step .base (setChan_only ..)

theorem endAwake_only (s : State) (c : Nat) :
    Only (fun s t => { s with lanes.lanes := t.lanes.lanes, lanes.keepAwake := t.lanes.keepAwake }) s (s.endAwake c) := by
  unfold State.endAwake
  refine .ite ?_ .base
  extract_lets _ v
  refine .via v .base fun hv => ?_
  exact .ite (.step (.step hv (sleepLane_only ..)) (sleepLane_only ..)) hv

theorem forgetRogue_only (s : State) (c t : Nat) : Only (fun s t => { s with chans := t.chans }) s (s.forgetRogue c t) := by
  unfold State.forgetRogue
  extract_lets _
  exact .step .base (setRogue_only ..)

theorem freeTerm_only (s : State) (t : Nat) : Only (fun s t => { s with
        terms := t.terms, chans := t.chans, prot.streams := t.prot.streams, prot.txCounters := t.prot.txCounters, outbox := t.outbox })
        s (s.freeTerm t) := by
  unfold State.freeTerm
  extract_lets _
  exact .step (.step (.step .base (putTerm_only ..)) (setTerm_only ..)) (forgetRogue_only ..)

def finishDeactParts : State → State → State :=
  fun s t => { answered s t with
      par.ro := t.par.ro, ev.transit := t.ev.transit, ev.rate := t.ev.rate, lanes.lanes := t.lanes.lanes, lanes.optics := t.lanes.optics,
      lanes.bmem := t.lanes.bmem, lanes.keepAwake := t.lanes.keepAwake, terms := t.terms, chans := t.chans, pon.gems := t.pon.gems,
      pon.line := t.pon.line, pon.reasm := t.pon.reasm, dba.allocs := t.dba.allocs, cipher.pairs := t.cipher.pairs, prot.streams := t.prot.streams,
      prot.txCounters := t.prot.txCounters, fwd.serial := t.fwd.serial, fwd.ops := t.fwd.ops, fwd.downQ := t.fwd.downQ, fwd.upQ := t.fwd.upQ,
      fwd.watch := t.fwd.watch }

theorem finishDeact_only (s : State) (t : Nat) : Only finishDeactParts s (s.finishDeact t) := by
  unfold State.finishDeact
  extract_lets v _ _ v1 _ v2 _ v3 v4 v5
  clear_value v
  refine .via v1 (.step .base (releaseTerm_only ..)) fun hv1 => ?_
  refine .via v2 ?_ fun hv2 => ?_
  · unfold v2
    split
    · exact .step hv1 (setChan_only ..)
    · exact hv1
  refine .via v3 (.step (.step hv2 (putTerm_only ..)) (dropRssi_only ..)) fun hv3 => ?_
  refine .via v4 (.ite (.step hv3 (raise_only ..)) hv3) fun hv4 => ?_
  refine .via v5 (.ite (.step hv4 (freeTerm_only ..)) hv4) fun hv5 => ?_
  exact .step (.step hv5 (endAwake_only ..)) (respondAll_only ..)

theorem deactivate_only (s : State) (t reason : Nat) : Only finishDeactParts s (s.deactivate t reason) := by
  unfold State.deactivate
  extract_lets _ v v1
  refine .via v (.step (.step (.step .base (dropPloam_only ..)) (dropWindows_only ..)) (abandonSwitch_only ..)) fun hv => ?_
  refine .via v1 (.step hv (setTerm_only ..)) fun hv1 => ?_
  exact .ite .base (.ite (.step hv1 (queuePloam_only ..)) (.step hv1 (finishDeact_only ..)))

theorem disableTerm_only (s : State) (t : Nat) : Only finishDeactParts s (s.disableTerm t) := by
  unfold State.disableTerm
  extract_lets v v1 v2 _ v3 _ v4 _
  clear_value v
  refine .via v1 (.step (.step .base (dropPloam_only ..)) (dropWindows_only ..)) fun hv1 => ?_
  refine .via v2 (.step hv1 (releaseTerm_only ..)) fun hv2 => ?_
  refine .via v3 ?_ fun hv3 => ?_
  · unfold v3
    split
    · exact .step hv2 (setChan_only ..)
    · exact hv2
  refine .via v4 (.step (.step hv3 (putTerm_only ..)) (dropRssi_only ..)) fun hv4 => ?_
  exact .step (.step hv4 (setRogue_only ..)) (endAwake_only ..)

theorem askWindow_only (s : State) (c : Nat) (r : WinReq) : Only (fun s t => { s with chans := t.chans }) s (s.askWindow c r) := by
  unfold State.askWindow
  exact .step .base (setChan_only ..)

theorem askRanging_only (s : State) (t firstFrame : Nat) : Only (fun s t => { s with chans := t.chans }) s (s.askRanging t firstFrame) := by
  unfold State.askRanging
  extract_lets _ _ _
  exact .step .base (askWindow_only ..)

theorem rerange_only (s : State) (t : Nat) : Only (fun s t => { answered s t with
        lanes.optics := t.lanes.optics, terms := t.terms, chans := t.chans, prot.streams := t.prot.streams, prot.txCounters := t.prot.txCounters })
        s (s.rerange t) := by
  unfold State.rerange
  extract_lets _ v v1
  refine .via v (.step .base (filterPloam_only ..)) fun hv => ?_
  refine .via v1 (.step hv (putTerm_only ..)) fun hv1 => ?_
  exact .step (.step hv1 (dropRssi_only ..)) (askRanging_only ..)

theorem execTermCreate_only (mb : Fin 16) (term c serial onu alloc gem : Nat) (s : State) : OnlyNext (fun s t => { answered s t with
        terms := t.terms, prot.streams := t.prot.streams, prot.txCounters := t.prot.txCounters })
        s (execTermCreate mb term c serial onu alloc gem s) := by
  unfold execTermCreate
  refine hostCmd_only fun c u => ?_
  refine .ite (.fail .base) (.ite (.fail .base) (.ite (.fail .base) ?_))
  extract_lets _
  exact .okay (.step .base (putTerm_only ..))

theorem execTermDelete_only (mb : Fin 16) (term : Nat) (s : State) : OnlyNext finishDeactParts s (execTermDelete mb term s) := by
  unfold execTermDelete
  refine hostCmd_only fun c u => ?_
  refine onTerm_only ?_
  refine .ite (.fail .base) (.ite ?_ (.okay (.step (.step (.step .base (dropPloam_only ..)) (releaseTerm_only ..)) (freeTerm_only ..))))
  extract_lets _ v
  refine .via v (.step (.step .base (setTerm_only ..)) (deactivate_only ..)) fun hv => ?_
  exact .ite (.okay hv) (.fst hv)

theorem execTermDeactivate_only (mb : Fin 16) (term : Nat) (s : State) : OnlyNext finishDeactParts s (execTermDeactivate mb term s) := by
  unfold execTermDeactivate
  refine hostCmd_only fun c u => ?_
  refine onTerm_only ?_
  refine .ite ?_ (.okay .base)
  extract_lets v
  refine .via v (.step .base (deactivate_only ..)) fun hv => ?_
  exact .ite (.fst hv) (.okay hv)

theorem execTermDisable_only (mb : Fin 16) (term : Nat) (s : State) : OnlyNext finishDeactParts s (execTermDisable mb term s) := by
  unfold execTermDisable
  refine hostCmd_only fun c u => ?_
  refine onTerm_only ?_
  refine .ite (.okay .base) ?_
  extract_lets _ v
  refine .via v (.step (.step .base (disableTerm_only ..)) (queuePloam_only ..)) fun hv => ?_
  exact .ite (.fst hv) (.okay hv)

def execTermEnableParts : State → State → State :=
  fun s t => { answered s t with
      ev.transit := t.ev.transit, terms := t.terms, chans := t.chans, prot.streams := t.prot.streams, prot.txCounters := t.prot.txCounters }

theorem execTermEnable_only (mb : Fin 16) (term : Nat) (s : State) : OnlyNext execTermEnableParts s (execTermEnable mb term s) := by
  unfold execTermEnable
  refine hostCmd_only fun c u => ?_
  refine onTerm_only ?_
  refine .ite (.okay .base) ?_
  extract_lets _ _ v _ v1
  refine .via v (.step (.step .base (putTerm_only ..)) (queuePloam_only ..)) fun hv => ?_
  refine .via v1 (.step hv (setRogue_only ..)) fun hv1 => ?_
  exact .ite (.fst hv1) (.okay hv1)

theorem execTermRead_only (mb : Fin 16) (term : Nat) (s : State) : OnlyNext answered s (execTermRead mb term s) := by
  unfold execTermRead
  refine hostCmd_only fun c u => ?_
  exact .ite (.fail .base) (.ite (.fail .base) (.okay .base))

theorem execCommandStepWaitTimeout_only (mb : Fin 16) (s : State) : OnlyNext answered s (execCommandStepWaitTimeout mb s) := by
  unfold execCommandStepWaitTimeout
  refine .next ?_
  split
  · split
    · exact .ite .base (.step .base (respond_only ..))
    · exact .base
  · exact .base

theorem execGemUnmap_only (mb : Fin 16) (gem : Nat) (s : State) : OnlyNext unbindGemParts s (execGemUnmap mb gem s) := by
  unfold execGemUnmap
  refine hostCmd_only fun c u => ?_
  refine .ite (.fail .base) (.ite (.fail .base) (.ite (.fail .base) (.ite (.fst .base) ?_)))
  extract_lets v
  refine .via v (.step .base (unbindGem_only ..)) fun hv => ?_
  exact .okay hv

theorem execSnListRead_only (mb : Fin 16) (c : Nat) (s : State) :
    OnlyNext (fun s t => { answered s t with chans := t.chans }) s (execSnListRead mb c s) := by
  unfold execSnListRead
  refine hostCmd_only fun c u => ?_
  refine .ite (.fail .base) ?_
  extract_lets _ _
  exact .okay (.step .base (setChan_only ..))

/-! ### Machine/Commit -/

theorem overcommit_only (s : State) (c cause : Nat) : Only (fun s t => { s with ev.transit := t.ev.transit }) s (s.overcommit c cause) := by
  unfold State.overcommit
  exact .step .base (raise_only ..)

theorem checkCommitted_only (s before : State) (c : Nat) : Only (fun s t => { s with ev.transit := t.ev.transit }) s (s.checkCommitted before c) := by
  unfold State.checkCommitted
  exact .ite (.step .base (overcommit_only ..)) .base

/-! ### Machine/Hunt -/

theorem huntCounts_only (s : State) (c : Nat) (o : HuntOut) :
    Only (fun s t => { s with par.ro := t.par.ro, ev.transit := t.ev.transit, ev.rate := t.ev.rate }) s (s.huntCounts c o) := by
  unfold State.huntCounts
  extract_lets v v1
  refine .via v (.step .base (bumpF_only ..)) fun hv => ?_
  refine .via v1 (.step hv (bump_only ..)) fun hv1 => ?_
  exact .foldl hv1 fun _ _ => .step .base (raiseSec_only ..)

/-! ### Machine/Activation -/

theorem askDiscovery_only (s : State) (c : Nat) : Only (fun s t => { s with chans := t.chans }) s (s.askDiscovery c) := by
  unfold State.askDiscovery
  split
  · exact .base
  · extract_lets _ v
    refine .via v (.step .base (setChan_only ..)) fun hv => ?_
    exact .step hv (askWindow_only ..)

theorem askReadmission_only (s : State) (c : Nat) : Only (fun s t => { s with chans := t.chans }) s (s.askReadmission c) := by
  unfold State.askReadmission
  split
  · exact .base
  · exact .step .base (askWindow_only ..)

def countReadmissionParts : State → State → State :=
  fun s t => { answered s t with
      par.ro := t.par.ro, ev.transit := t.ev.transit, ev.rate := t.ev.rate, lanes.bmem := t.lanes.bmem, terms := t.terms, chans := t.chans,
      pon.gems := t.pon.gems, pon.line := t.pon.line, pon.reasm := t.pon.reasm, dba.allocs := t.dba.allocs, cipher.pairs := t.cipher.pairs,
      prot.streams := t.prot.streams, prot.txCounters := t.prot.txCounters, fwd.serial := t.fwd.serial, fwd.ops := t.fwd.ops,
      fwd.downQ := t.fwd.downQ, fwd.upQ := t.fwd.upQ, fwd.watch := t.fwd.watch }

theorem countReadmission_only (s : State) (t : Nat) : Only countReadmissionParts s (s.countReadmission t) := by
  unfold State.countReadmission
  extract_lets v _ v1 _
  clear_value v
  refine .via v1 ?_ fun hv1 => ?_
  · unfold v1
    split
    · exact .step .base (setChan_only ..)
    · exact .base
  split
  · exact .step .base (setTerm_only ..)
  · exact .step (.step hv1 (releaseTerm_only ..)) (putTerm_only ..)
  · exact .base

theorem discoveryDue_only (s : State) (c : Nat) : Only countReadmissionParts s (s.discoveryDue c) := by
  unfold State.discoveryDue
  extract_lets v _ v1
  refine .via v (.ite (.step .base (askDiscovery_only ..)) .base) fun hv => ?_
  refine .via v1 (.foldl hv fun _ _ => .step .base (countReadmission_only ..)) fun hv1 => ?_
  exact .ite hv (.step hv1 (askReadmission_only ..))

theorem execDiscoveryWindowDue_only (tree : Fin 32) (s : State) : OnlyNext countReadmissionParts s (execDiscoveryWindowDue tree s) := by
  unfold execDiscoveryWindowDue
  exact .next (.step (.step .base (discoveryDue_only ..)) (discoveryDue_only ..))

theorem broadcastProfiles_only (s : State) (c : Nat) :
    Only (fun s t => { s with ev.transit := t.ev.transit, chans := t.chans }) s (s.broadcastProfiles c) := by
  unfold State.broadcastProfiles
  exact .foldl .base fun _ _ => .step .base (queuePloam_only ..)

theorem execProfileBroadcast_only (c : Fin 64) (s : State) :
    OnlyNext (fun s t => { s with ev.transit := t.ev.transit, chans := t.chans }) s (execProfileBroadcast c s) := by
  unfold execProfileBroadcast
  exact .next (.ite (.step .base (broadcastProfiles_only ..)) .base)

theorem changeRate_only (s : State) (t rate : Nat) : Only (fun s t => { s with
        par.ro := t.par.ro, lanes.bmem := t.lanes.bmem, terms := t.terms, pon.line := t.pon.line, prot.streams := t.prot.streams,
        prot.txCounters := t.prot.txCounters, outbox := t.outbox }) s (s.changeRate t rate) := by
  unfold State.changeRate
  extract_lets _ _ _ _ v v1 _
  refine .via v (.step .base (writeBm_only ..)) fun hv => ?_
  refine .via v1 (.step hv (resetLine_only ..)) fun hv1 => ?_
  exact .ite .base (.step (.step hv1 (setTerm_only ..)) (mirrorTerm_only ..))

theorem execTermRerange_only (mb : Fin 16) (term : Nat) (rate : Option Nat) (s : State) :
    OnlyNext finishDeactParts s (execTermRerange mb term rate s) := by
  unfold execTermRerange
  refine hostCmd_only fun c u => ?_
  refine onTerm_only ?_
  extract_lets _ v _ v1
  refine .via v (.step .base (setTerm_only ..)) fun hv => ?_
  refine .via v1 (.ite (.step hv (rerange_only ..)) hv) fun hv1 => ?_
  split
  · exact .okay hv1
  · refine .ite (.fail hv) ?_
    extract_lets v2 v3 v4
    refine .via v2 (.step hv (setTerm_only ..)) fun hv2 => ?_
    refine .via v3 (.step (.step (.step hv2 (changeRate_only ..)) (checkCommitted_only ..)) (deactivate_only ..)) fun hv3 => ?_
    refine .via v4 (.step hv2 (changeRate_only ..)) fun hv4 => ?_
    exact .ite (.ite (.fst hv3) (.okay hv3)) (.okay hv4)

theorem bindCreation_only (s : State) (t onu : Nat) : Only (fun s t => { s with
        pon.gems := t.pon.gems, dba.allocs := t.dba.allocs, prot.streams := t.prot.streams, prot.txCounters := t.prot.txCounters, outbox := t.outbox })
        s (s.bindCreation t onu) := by
  unfold State.bindCreation
  extract_lets _ _ v
  refine .via v (.step .base (putAlloc_only ..)) fun hv => ?_
  exact .step hv (putGem_only ..)

theorem setDarkDue_only (s : State) (v : Tab (Option (Bool × Nat))) :
    Only (fun s t => { s with power.darkDue := t.power.darkDue }) s { s with power.darkDue := v } :=
  .base

theorem setKeepAwake_only (s : State) (v : Tab Bool) :
    Only (fun s t => { s with lanes.keepAwake := t.lanes.keepAwake }) s { s with lanes.keepAwake := v } :=
  .base

theorem acquire_only (s : State) (t onu rate answer : Nat) : Only (fun s t => { s with
        par.ro := t.par.ro, ev.transit := t.ev.transit, power.darkDue := t.power.darkDue, lanes.lanes := t.lanes.lanes, lanes.bmem := t.lanes.bmem,
        lanes.keepAwake := t.lanes.keepAwake, terms := t.terms, chans := t.chans, pon.gems := t.pon.gems, pon.line := t.pon.line,
        dba.allocs := t.dba.allocs, prot.streams := t.prot.streams, prot.txCounters := t.prot.txCounters, outbox := t.outbox })
        s (s.acquire t onu rate answer) := by
  unfold State.acquire
  refine .ite (.step (.step (.step (.step (.step (.step (.step (.step (.step (.step (.step (.step (.step .base
    (changeRate_only ..)) (writeBm_only ..)) (putTerm_only ..)) (resetLine_only ..)) (bindCreation_only ..)) (checkCommitted_only ..))
      (queuePloam_only ..)) (raise_only ..)) (setDarkDue_only ..))
    (setKeepAwake_only ..)) (wakeLane_only ..)) (wakeLane_only ..)) (raise_only ..)) ?_
  exact .step (.step (.step (.step (.step (.step (.step (.step (.step .base (changeRate_only ..)) (writeBm_only ..)) (putTerm_only ..))
    (resetLine_only ..)) (bindCreation_only ..)) (checkCommitted_only ..)) (queuePloam_only ..)) (raise_only ..)) (setDarkDue_only ..)

theorem unknownSerial_only (s : State) (c serial : Nat) :
    Only (fun s t => { s with ev.transit := t.ev.transit, chans := t.chans }) s (s.unknownSerial c serial) := by
  unfold State.unknownSerial
  extract_lets _ _ v _ _
  refine .via v (.step .base (setChan_only ..)) fun hv => ?_
  exact .ite hv (.step (.step hv (setChan_only ..)) (raise_only ..))

theorem answerReadmission_only (s : State) (t : Nat) :
    Only (fun s t => { s with ev.transit := t.ev.transit, chans := t.chans }) s (s.answerReadmission t) := by
  unfold State.answerReadmission
  extract_lets v
  clear_value v
  split
  · exact .ite (.step .base (queuePloam_only ..)) .base
  · exact .base

def answerOfParts : State → State → State :=
  fun s t => { answered s t with
      par.ro := t.par.ro, ev.transit := t.ev.transit, ev.rate := t.ev.rate, power.darkDue := t.power.darkDue, lanes.lanes := t.lanes.lanes,
      lanes.optics := t.lanes.optics, lanes.bmem := t.lanes.bmem, lanes.keepAwake := t.lanes.keepAwake, terms := t.terms, chans := t.chans,
      pon.gems := t.pon.gems, pon.line := t.pon.line, pon.reasm := t.pon.reasm, dba.allocs := t.dba.allocs, cipher.pairs := t.cipher.pairs,
      prot.streams := t.prot.streams, prot.txCounters := t.prot.txCounters, fwd.serial := t.fwd.serial, fwd.ops := t.fwd.ops,
      fwd.downQ := t.fwd.downQ, fwd.upQ := t.fwd.upQ, fwd.watch := t.fwd.watch }

theorem answerOf_only (s : State) (c serial rate answer : Nat) : Only answerOfParts s (s.answerOf c serial rate answer) := by
  unfold State.answerOf
  split
  · exact .ite (.step .base (unknownSerial_only ..)) (.step .base (setChan_only ..))
  · extract_lets v
    clear_value v
    refine .ite (.step .base (raise_only ..)) (.ite .base ?_)
    split
    · refine .ite .base ?_
      split
      · exact .base
      · exact .step .base (acquire_only ..)
    · exact .ite (.step .base (deactivate_only ..)) .base
    · exact .step .base (deactivate_only ..)
    · exact .base

theorem execSnAnswer_only (c : Fin 64) (cands : List Candidate) (serial mic answer : Nat) (s : State) :
    OnlyNext answerOfParts s (execSnAnswer c cands serial mic answer s) := by
  unfold execSnAnswer
  refine .next ?_
  extract_lets c
  clear_value c
  split
  · exact .base
  · extract_lets _ v1
    refine .via v1 (.step .base (huntCounts_only ..)) fun hv1 => ?_
    exact .ite (.step hv1 (bump_only ..)) (.ite hv1 (.ite (.elim hv1 fun _ => .ite (.step hv1 (answerReadmission_only ..)) hv1) (.step hv1
      (answerOf_only ..))))

theorem execRegistrationBurst_only (term : Fin 8192) (cands : List Candidate) (m64 : Nat) (regId : List Byte) (resp : Option Nat) (mic : Nat) (s :
    State) :
    OnlyNext finishDeactParts s (execRegistrationBurst term cands m64 regId resp mic s) := by
  unfold execRegistrationBurst
  refine .next ?_
  extract_lets t _ c1
  clear_value t c1
  split
  · exact .base
  · extract_lets _ v2 v3 _ v4 _ _ _ _ _ v5 v6
    refine .via v2 (.step .base (huntCounts_only ..)) fun hv2 => ?_
    refine .via v3 (.step hv2 (setTerm_only ..)) fun hv3 => ?_
    refine .via v4 (.step hv3 (raise_only ..)) fun hv4 => ?_
    refine .via v5 (.step hv3 (writeBm_only ..)) fun hv5 => ?_
    refine .via v6 (.step (.step hv5 (setTerm_only ..)) (mirrorTerm_only ..)) fun hv6 => ?_
    exact .ite hv2 (.ite (.step (.step hv4 (setTerm_only ..)) (deactivate_only ..)) (.step hv6 (queuePloam_only ..)))

theorem execRangingWindowMiss_only (term : Fin 8192) (late : Bool) (s : State) : OnlyNext finishDeactParts s (execRangingWindowMiss term late s) := by
  unfold execRangingWindowMiss
  refine .next ?_
  extract_lets _ _ _ _ v
  refine .via v (.step .base (setTerm_only ..)) fun hv => ?_
  exact .ite .base (.ite .base (.ite (.step (.step hv (raise_only ..)) (deactivate_only ..)) hv))

theorem execRangeRetryExpiry_only (term : Fin 8192) (s : State) :
    OnlyNext (fun s t => { s with chans := t.chans }) s (execRangeRetryExpiry term s) := by
  unfold execRangeRetryExpiry
  refine .next ?_
  extract_lets _
  exact .ite (.step .base (askRanging_only ..)) .base

def interferenceParts : State → State → State :=
  fun s t => { answered s t with
      ev.transit := t.ev.transit, lanes.optics := t.lanes.optics, terms := t.terms, chans := t.chans, prot.streams := t.prot.streams,
      prot.txCounters := t.prot.txCounters }

theorem interference_only (s : State) (t : Nat) (d : Int) : Only interferenceParts s (s.interference t d) := by
  unfold State.interference
  extract_lets _
  exact .step (.step .base (raise_only ..)) (rerange_only ..)

theorem startUpdate_only (s : State) (t : Nat) (phase d : Int) :
    Only (fun s t => { s with ev.transit := t.ev.transit, terms := t.terms, chans := t.chans }) s (s.startUpdate t phase d) := by
  unfold State.startUpdate
  extract_lets _ _ v
  refine .via v (.step .base (setTerm_only ..)) fun hv => ?_
  exact .step hv (queuePloam_only ..)

theorem endUpdate_only (s : State) (t : Nat) (u : DriftUpdate) (phase : Int) : Only (fun s t => { s with
        ev.transit := t.ev.transit, lanes.bmem := t.lanes.bmem, terms := t.terms, prot.streams := t.prot.streams,
        prot.txCounters := t.prot.txCounters, outbox := t.outbox }) s (s.endUpdate t u phase) := by
  unfold State.endUpdate
  extract_lets _ _ v v1
  refine .via v (.step .base (writeBm_only ..)) fun hv => ?_
  refine .via v1 (.step (.step hv (setTerm_only ..)) (mirrorTerm_only ..)) fun hv1 => ?_
  exact .step hv1 (raise_only ..)

theorem driftTest_only (s : State) (t : Nat) (phase : Int) (clean : Bool) : Only (fun s t => { answered s t with
        ev.transit := t.ev.transit, lanes.optics := t.lanes.optics, lanes.bmem := t.lanes.bmem, terms := t.terms, chans := t.chans,
        prot.streams := t.prot.streams, prot.txCounters := t.prot.txCounters }) s (s.driftTest t phase clean) := by
  unfold State.driftTest
  extract_lets v _ _
  clear_value v
  refine .ite .base (.ite (.step .base (interference_only ..)) ?_)
  split
  · exact .ite (.step .base (endUpdate_only ..)) .base
  · exact .ite .base (.ite (.ite (.step .base (startUpdate_only ..)) (.step .base (setTerm_only ..))) (.step .base (setTerm_only ..)))

theorem execBurstWriteBack_only (term : Fin 8192) (final : LaneSettings) (s : State) : OnlyNext (fun s t => { answered s t with
        ev.transit := t.ev.transit, lanes.lanes := t.lanes.lanes, lanes.optics := t.lanes.optics, lanes.bmem := t.lanes.bmem, terms := t.terms,
        chans := t.chans, prot.streams := t.prot.streams, prot.txCounters := t.prot.txCounters }) s (execBurstWriteBack term final s) := by
  unfold execBurstWriteBack
  refine .next ?_
  extract_lets _ _ _ x _ v1
  clear_value x
  refine .via v1 (.step .base (carryFinal_only ..)) fun hv1 => ?_
  split
  · exact hv1
  · exact .ite hv1 (.ite (.step hv1 (writeState_only ..)) (.step (.step hv1 (writeBack'_only ..)) (driftTest_only ..)))

theorem execDriftSettleExpiry_only (term : Fin 8192) (s : State) : OnlyNext interferenceParts s (execDriftSettleExpiry term s) := by
  unfold execDriftSettleExpiry
  refine .next ?_
  extract_lets _ v
  clear_value v
  split
  · exact .base
  · exact .ite .base (.ite (.step .base (rerange_only ..)) (.step (.step .base (setTerm_only ..)) (queuePloam_only ..)))

def declareLobParts : State → State → State :=
  fun s t => { answered s t with
      par.ro := t.par.ro, ev.transit := t.ev.transit, lanes.optics := t.lanes.optics, terms := t.terms, chans := t.chans, pon.reasm := t.pon.reasm,
      dba.allocs := t.dba.allocs, prot.streams := t.prot.streams, prot.txCounters := t.prot.txCounters }

theorem declareLob_only (s : State) (t : Nat) : Only declareLobParts s (s.declareLob t) := by
  unfold State.declareLob
  extract_lets v _ _ v1 v2 v3 v4
  clear_value v
  refine .via v1 (.step .base (filterPloam_only ..)) fun hv1 => ?_
  refine .via v2 (.step (.step hv1 (putTerm_only ..)) (dropRssi_only ..)) fun hv2 => ?_
  refine .via v3 (.step hv2 (clearDemands_only ..)) fun hv3 => ?_
  refine .via v4 (.foldl hv3 fun _ _ => .step .base (dropReasm_only ..)) fun hv4 => ?_
  exact .step hv4 (raise_only ..)

theorem missBurst_only (s : State) (t : Nat) (counted : Bool) : Only declareLobParts s (s.missBurst t counted) := by
  unfold State.missBurst
  extract_lets _
  exact .ite .base (.ite (.step .base (declareLob_only ..)) (.step .base (setTerm_only ..)))

theorem burstSeen_only (s : State) (t : Nat) (phase : Int) : Only interferenceParts s (s.burstSeen t phase) := by
  unfold State.burstSeen
  extract_lets _ _ v v1 _
  refine .via v (.step .base (setTerm_only ..)) fun hv => ?_
  refine .via v1 (.step hv (raiseAs_only ..)) fun hv1 => ?_
  exact .ite hv (.ite (.step hv1 (interference_only ..)) (.step hv1 (putTerm_only ..)))

theorem execLobDeactExpiry_only (term : Fin 8192) (s : State) : OnlyNext finishDeactParts s (execLobDeactExpiry term s) := by
  unfold execLobDeactExpiry
  exact .next (.ite (.step .base (deactivate_only ..)) .base)

theorem execOnuIdHoldExpiry_only (c : Fin 64) (onu : Fin 1023) (s : State) :
    OnlyNext (fun s t => { s with chans := t.chans }) s (execOnuIdHoldExpiry c onu s) := by
  unfold execOnuIdHoldExpiry
  exact .next (.step .base (setChan_only ..))

theorem rangingTimeSent_only (s : State) (t : Nat) (eqd : Int) : Only (fun s t => { s with
        ev.transit := t.ev.transit, lanes.lanes := t.lanes.lanes, lanes.keepAwake := t.lanes.keepAwake, terms := t.terms,
        prot.streams := t.prot.streams, prot.txCounters := t.prot.txCounters, outbox := t.outbox }) s (s.rangingTimeSent t eqd) := by
  unfold State.rangingTimeSent
  extract_lets v _ v1
  clear_value v
  refine .via v1 (.step (.step .base (putTerm_only ..)) (checkCommitted_only ..)) fun hv1 => ?_
  split
  · exact .step (.step hv1 (raise_only ..)) (endAwake_only ..)
  · exact .ite (.step .base (putTerm_only ..)) (.ite (.step .base (putTerm_only ..)) .base)

theorem ploamSent_only (s : State) (c sfc : Nat) (m : PloamMsg) : Only finishDeactParts s (s.ploamSent c sfc m) := by
  unfold State.ploamSent
  split
  · extract_lets _
    exact .ite (.step .base (askRanging_only ..)) (.ite (.step .base (ploamFirst_only ..)) .base)
  · exact .step .base (rangingTimeSent_only ..)
  · exact .ite (.step .base (ploamFirst_only ..)) (.step .base (finishDeact_only ..))
  · extract_lets v v1 _
    clear_value v
    refine .via v1 (.ite (.step .base (ploamFirst_only ..)) .base) fun hv1 => ?_
    split
    · exact .step hv1 (setChan_only ..)
    · exact hv1
  · extract_lets _ _ v2 v3
    refine .via v2 (.step .base (setPair_only ..)) fun hv2 => ?_
    refine .via v3 ?_ fun hv3 => ?_
    · unfold v3
      split
      · refine .ite .base ?_
        split
        · exact .step hv2 (mirrorKey_only ..)
        · exact hv2
      · exact .base
    exact .ite (.step hv3 (ploamFirst_only ..)) hv3
  · exact .step .base (respondAll_only ..)
  · exact .step .base (setTerm_only ..)
  · exact .step .base (setTerm_only ..)
  · exact .base

/-! ### Machine/CipherField -/

theorem setCipher_only (s : State) (r : Nat) (v : CipherRegion) :
    Only (fun s t => { s with cipher.regions := t.cipher.regions }) s (s.setCipher r v) := .base

theorem sendCell_only (s : State) (r : Nat) (c : Nat × Nat) (key : Option KeyShares) :
    OnlyIn Prod.snd (fun s t => { s with cipher.generators := t.cipher.generators }) s (s.sendCell r c key) := by
  unfold State.sendCell
  split
  · rename_i _ _ v h
    refine .via v (.snd h (.step .base (takeBits_only ..))) fun hv1 => ?_
    split
    · rename_i _ _ v2 h
      refine .via v2 (.snd h (.step hv1 (takeBits_only ..))) fun hv3 => ?_
      exact .snd hv3

theorem startPair_only (s : State) (r : Nat) (j : CipherJob) (index : Nat) (p : (Nat × Nat) × Nat × Nat) (attempts : List ((CellWork × Nat) ×
    CellWork × Nat)) :
    Only (fun s t => { s with
        cipher.generators := t.cipher.generators, cipher.regions := t.cipher.regions }) s (s.startPair r j index p attempts) := by
  unfold State.startPair
  split
  · rename_i _ _ v h
    refine .via v (.snd h (.step .base (sendCell_only ..))) fun hv1 => ?_
    split
    · rename_i _ _ v2 h
      refine .via v2 (.snd h (.step hv1 (sendCell_only ..))) fun hv3 => ?_
      extract_lets _
      exact .step hv3 (setCipher_only ..)

theorem dispatch_only (n : Nat) (s : State) (n1 : Nat) :
    Only (fun s t => { s with cipher.generators := t.cipher.generators, cipher.regions := t.cipher.regions }) s (State.dispatch n s n1) := by
  induction n generalizing s n1 with
  | zero => exact .base
  | succ n ih =>
    rw [State.dispatch]
    refine .ite .base ?_
    split
    · split
      · exact .step (.step (.step .base (setCipher_only ..)) (startPair_only ..)) (ih ..)
      · exact .base
    · split
      · exact .base
      · split
        · exact .base
        · exact .step (.step (.step .base (setCipher_only ..)) (startPair_only ..)) (ih ..)

theorem dispatchAll_only (s : State) (r : Nat) :
    Only (fun s t => { s with cipher.generators := t.cipher.generators, cipher.regions := t.cipher.regions }) s (s.dispatchAll r) := by
  unfold State.dispatchAll
  exact .step .base (dispatch_only ..)

theorem deliverBlock_only (s : State) (r : Nat) (w : PairWork) :
    Only (fun s t => { s with cipher.regions := t.cipher.regions }) s (s.deliverBlock r w) := by
  unfold State.deliverBlock
  extract_lets _ v
  clear_value v
  split
  · exact .step .base (setCipher_only ..)
  · extract_lets _
    exact .step .base (setCipher_only ..)

theorem settlePairs_only (s : State) (r : Nat) : Only (fun s t => { s with cipher.regions := t.cipher.regions }) s (s.settlePairs r) := by
  unfold State.settlePairs
  exact .foldl .base fun _ _ => .step .base (deliverBlock_only ..)

theorem addJob_only (s : State) (r cls : Nat) (key : Option KeyShares) (blocks : Nat) (mailbox : Option Nat) : OnlyIn Prod.snd (fun s t => { s with
        cipher.generators := t.cipher.generators, cipher.regions := t.cipher.regions }) s (s.addJob r cls key blocks mailbox) := by
  unfold State.addJob
  extract_lets v _ v1
  refine .via v (.step .base (settlePairs_only ..)) fun hv => ?_
  refine .via v1 (.step hv (setCipher_only ..)) fun hv1 => ?_
  exact .snd (.step hv1 (dispatchAll_only ..))

theorem discardJob_only (s : State) (r id : Nat) : Only (fun s t => { s with cipher.regions := t.cipher.regions }) s (s.discardJob r id) := by
  unfold State.discardJob
  exact .step .base (setCipher_only ..)

theorem receiveWork_only (s : State) (r : Nat) (key : Option KeyShares) (blocks : Nat) : OnlyIn Prod.snd (fun s t => { s with
        cipher.generators := t.cipher.generators, cipher.regions := t.cipher.regions }) s (s.receiveWork r key blocks) := by
  unfold State.receiveWork
  split
  · rename_i _ _ v h
    refine .via v (.snd h (.step .base (addJob_only ..))) fun hv1 => ?_
    exact .ite (.snd hv1) (.snd (.step hv1 (discardJob_only ..)))

theorem transmitWork_only (s : State) (r : Nat) (key : Option KeyShares) (blocks : Nat) : OnlyIn Prod.snd (fun s t => { s with
        cipher.generators := t.cipher.generators, cipher.regions := t.cipher.regions }) s (s.transmitWork r key blocks) := by
  unfold State.transmitWork
  split
  · rename_i _ _ v h
    refine .via v (.snd h (.step .base (addJob_only ..))) fun hv1 => ?_
    exact .ite (.snd hv1) (.snd (.step hv1 (discardJob_only ..)))

/-! ### Machine/Keys -/

theorem oddCell_only (s : State) (region cell : Nat) : Only (fun s t => { s with
        reports := t.reports, cipher.regions := t.cipher.regions, cipher.barred := t.cipher.barred, cipher.odd := t.cipher.odd })
        s (s.oddCell region cell) := by
  unfold State.oddCell
  extract_lets _ _ _ v _
  refine .via v .base fun hv => ?_
  clear_value v
  exact .ite (.step hv.upd (report_only ..)) hv

theorem mismatch_only (s : State) (region : Nat) :
    Only (fun s t => { s with par.ro := t.par.ro, ev.transit := t.ev.transit, ev.rate := t.ev.rate }) s (s.mismatch region) := by
  unfold State.mismatch
  exact .step (.step .base (bump_only ..)) (raiseSec_only ..)

theorem failWork_only (s : State) (r : Nat) (w : PairWork) (kind : Nat) :
    Only (fun s t => { answered s t with ev.transit := t.ev.transit, cipher.regions := t.cipher.regions }) s (s.failWork r w kind) := by
  unfold State.failWork
  extract_lets _ j _ v1
  clear_value j
  refine .via v1 (.step (.step .base (setCipher_only ..)) (raise_only ..)) fun hv1 => ?_
  split
  · exact hv1
  · split
    · exact .ite (.step hv1 (respond_only ..)) hv1
    · exact hv1

def pairResultParts : State → State → State :=
  fun s t => { answered s t with
      par.ro := t.par.ro, ev.transit := t.ev.transit, ev.rate := t.ev.rate, reports := t.reports, cipher.generators := t.cipher.generators,
      cipher.regions := t.cipher.regions, cipher.barred := t.cipher.barred, cipher.odd := t.cipher.odd }

theorem pairResult_only (s : State) (r : Nat) (w : PairWork) (outA outB : Nat) : Only pairResultParts s (s.pairResult r w outA outB) := by
  unfold State.pairResult
  refine .ite ?_ ?_
  · extract_lets v
    refine .via v (.foldl .base fun _ _ => .step .base (oddCell_only ..)) fun hv => ?_
    exact .step (.step hv (deliverBlock_only ..)) (dispatchAll_only ..)
  · extract_lets v1 _ v2 _ _
    refine .via v1 (.step .base (mismatch_only ..)) fun hv1 => ?_
    refine .via v2 (.step hv1 (setCipher_only ..)) fun hv2 => ?_
    exact .ite (.step (.step hv2 (setCipher_only ..)) (dispatchAll_only ..)) (.step (.step hv2 (failWork_only ..)) (dispatchAll_only ..))

theorem execCipherPairResult_only (region : Fin 13) (op outA outB : Nat) (job : Option (Fin 16)) (s : State) :
    OnlyNext pairResultParts s (execCipherPairResult region op outA outB job s) := by
  unfold execCipherPairResult
  refine .next ?_
  extract_lets r
  clear_value r
  split
  · exact .step .base (pairResult_only ..)
  · split
    · rename_i _ _ v1 h
      refine .via v1 (.snd h (.step .base (addJob_only ..))) fun hv2 => ?_
      split
      · exact .step hv2 (pairResult_only ..)
      · exact hv2
  · exact .base

theorem execRngReseed_only (block : Fin 3328) (late : Bool) (s : State) : OnlyNext (fun s t => { s with
        ev.transit := t.ev.transit, cipher.generators := t.cipher.generators, free := t.free }) s (execRngReseed block late s) := by
  unfold execRngReseed
  refine .next ?_
  extract_lets _ _
  refine .ite (.step (.step .base (setGen_only ..)) (raise_only ..)) ?_
  split
  · rename_i _ _ v h
    refine .via v (.snd h (.step .base (draw_only ..))) fun hv1 => ?_
    exact .step hv1 (setGen_only ..)

theorem execEntropyFail_only (test : BitVec 8) (s : State) :
    OnlyNext (fun s t => { s with ev.transit := t.ev.transit, cipher.entropyBad := t.cipher.entropyBad }) s (execEntropyFail test s) := by
  unfold execEntropyFail
  exact .next (.step .base (raise_only ..))

theorem execEntropyRecovered_only (s : State) :
    OnlyNext (fun s t => { s with cipher.entropyBad := t.cipher.entropyBad }) s (execEntropyRecovered s) := by
  unfold execEntropyRecovered
  exact .next .base

theorem execGeneratorStop_only (block : Fin 3328) (s : State) : OnlyNext (fun s t => { s with
        pace.capSeq := t.pace.capSeq, pace.capSent := t.pace.capSent, cipher.generators := t.cipher.generators }) s (execGeneratorStop block s) := by
  unfold execGeneratorStop
  refine .next (.ite ?_ .base)
  extract_lets _ _ v
  refine .via v (.step .base (setGen_only ..)) fun hv => ?_
  exact .step hv (reportCapacity_only ..)

theorem raiseKey_only (s : State) (k : EvKind) (slot : Nat) : Only (fun s t => { s with ev.transit := t.ev.transit }) s (s.raiseKey k slot) := by
  unfold State.raiseKey
  refine .ite ?_ (.ite (.step .base (raise_only ..)) (.step .base (raise_only ..)))
  extract_lets _
  exact .step .base (raise_only ..)

theorem placeKey_only (s : State) (k : Nat) (v : KeyVal) (commit force : Bool) (extra : List Int) : OnlyIn Prod.fst (fun s t => { s with
        ev.transit := t.ev.transit, chans := t.chans, cipher.slots := t.cipher.slots, cipher.pairs := t.cipher.pairs,
        cipher.generators := t.cipher.generators, prot.streams := t.prot.streams, prot.txCounters := t.prot.txCounters,
        prot.keySlot := t.prot.keySlot, prot.keyCommit := t.prot.keyCommit, prot.keySince := t.prot.keySince, prot.wrap15 := t.prot.wrap15,
        outbox := t.outbox }) s (placeKey s k v commit force extra) true := by
  unfold placeKey
  extract_lets _ f _ _ v1 v2 _
  refine .via v1 (.step .base (commitKey_only ..)) fun hv1 => ?_
  refine .via v2 (.step .base (setSlot_only ..)) fun hv2 => ?_
  refine .ite (.ite (.fail .base) (.ite (.ite (.fail .base) (.ite (.fst (.step (.step .base (setSlot_only ..)) (setPair_only ..))) ?_)) (.ite (.fail
    .base) ?_))) (.ite ?_ ?_)
  · unfold f
    exact .okay (.step .base (commitKey_only ..))
  · unfold f
    exact .okay (.ite (.step hv1 (commitSwitch_only ..)) hv1)
  · split
    · exact .fst .base
    · clear_value v1 v2
      exact .fst hv2.upd
  · unfold f
    exact .okay (.step .base (commitKey_only ..))

theorem execKeyWrite_only (mb : Fin 16) (s : State) : OnlyNext (fun s t => { answered s t with
        ev.transit := t.ev.transit, chans := t.chans, cipher.pairs := t.cipher.pairs, cipher.generators := t.cipher.generators,
        prot.streams := t.prot.streams, prot.txCounters := t.prot.txCounters, prot.keySlot := t.prot.keySlot, prot.keyCommit := t.prot.keyCommit,
        prot.keySince := t.prot.keySince, prot.wrap15 := t.prot.wrap15 }) s (execKeyWrite mb s) true := by
  unfold execKeyWrite
  refine .next (commandWith_only fun c u => ?_)
  extract_lets _ _ _ kek _ blob1
  clear_value kek blob1
  refine .ite (.fail .base) (whenFree_only ?_)
  split
  · exact .fail .base
  · split
    · exact .fail (.step .base (raiseKey_only ..))
    · refine .ite ?_ (.of (.step .base (placeKey_only ..)))
      extract_lets v2
      refine .via v2 (.step .base (loadMsk_only ..)) fun hv2 => ?_
      exact .okay hv2

theorem execKeyGenerate_only (mb : Fin 16) (s : State) : OnlyNext (fun s t => { answered s t with
        ev.transit := t.ev.transit, chans := t.chans, cipher.pairs := t.cipher.pairs, cipher.generators := t.cipher.generators,
        prot.streams := t.prot.streams, prot.txCounters := t.prot.txCounters, prot.keySlot := t.prot.keySlot, prot.keyCommit := t.prot.keyCommit,
        prot.keySince := t.prot.keySince, prot.wrap15 := t.prot.wrap15, free := t.free }) s (execKeyGenerate mb s) true := by
  unfold execKeyGenerate
  refine .next (commandWith_only fun c u => ?_)
  extract_lets _ _ _ kek
  clear_value kek
  refine .ite (.fail .base) (.ite (.fail .base) (whenFree_only ?_))
  split
  · exact .fail .base
  · split
    · rename_i _ _ v1 h
      refine .via v1 (.snd h (.step .base (draw_only ..))) fun hv2 => ?_
      extract_lets _
      exact .of (.step hv2 (placeKey_only ..))

theorem execKeyErase_only (mb : Fin 16) (slot : Nat) (s : State) :
    OnlyNext (fun s t => { answered s t with chans := t.chans, cipher.pairs := t.cipher.pairs }) s (execKeyErase mb slot s) true := by
  unfold execKeyErase
  refine .next (commandWith_only fun c u => ?_)
  refine .ite (.fail .base) (.ite (.fst .base) ?_)
  extract_lets _ v _ v1
  refine .via v (.step .base (setSlot_only ..)) fun hv => ?_
  refine .via v1 (.ite (.step hv (abandonSwitch_only ..)) hv) fun hv1 => ?_
  exact .fst hv1

theorem execKeyGenerationDrained_only (slot : Fin 18640) (s : State) : OnlyNext (fun s t => { answered s t with
        prot.streams := t.prot.streams, prot.txCounters := t.prot.txCounters }) s (execKeyGenerationDrained slot s) true := by
  unfold execKeyGenerationDrained
  refine .next ?_
  extract_lets _ _ v
  refine .via v (.step (.step .base (zeroSlot_only ..)) (mirror_only ..)) fun hv => ?_
  exact .ite (.step hv (respondAll_only ..)) (.ite (.step .base (setSlot_only ..)) .base)

theorem execKeyStatus_only (mb : Fin 16) (slots : List (Nat × Nat)) (s : State) : OnlyNext answered s (execKeyStatus mb slots s) := by
  unfold execKeyStatus
  refine hostCmd_only fun c u => ?_
  exact .ite (.fail .base) (.okay .base)

theorem startExchange_only (s : State) (t : Nat) :
    Only (fun s t => { s with ev.transit := t.ev.transit, terms := t.terms, chans := t.chans }) s (s.startExchange t) := by
  unfold State.startExchange
  extract_lets _ _
  exact .step (.step .base (setTerm_only ..)) (queuePloam_only ..)

theorem execKeyExchangeStart_only (term : Fin 8192) (s : State) :
    OnlyNext (fun s t => { s with ev.transit := t.ev.transit, terms := t.terms, chans := t.chans }) s (execKeyExchangeStart term s) := by
  unfold execKeyExchangeStart
  exact .next (.ite (.step .base (startExchange_only ..)) .base)

theorem execKeyExchTimeout_only (term : Fin 8192) (s : State) :
    OnlyNext (fun s t => { s with ev.transit := t.ev.transit, terms := t.terms, chans := t.chans }) s (execKeyExchTimeout term s) := by
  unfold execKeyExchTimeout
  refine .next ?_
  extract_lets _ v
  clear_value v
  split
  · exact .base
  · exact .ite (.step (.step .base (setTerm_only ..)) (queuePloam_only ..)) (.step (.step .base (setTerm_only ..)) (raise_only ..))

theorem keyAnswer_only (s : State) (t blob : Nat) : Only (fun s t => { s with
        ev.transit := t.ev.transit, terms := t.terms, chans := t.chans, cipher.slots := t.cipher.slots, cipher.pairs := t.cipher.pairs,
        cipher.generators := t.cipher.generators, prot.streams := t.prot.streams, prot.txCounters := t.prot.txCounters, prot.wrap15 := t.prot.wrap15,
        outbox := t.outbox }) s (s.keyAnswer t blob) true := by
  unfold State.keyAnswer
  extract_lets v _ v1
  clear_value v
  refine .via v1 (.step .base (setTerm_only ..)) fun hv1 => ?_
  split
  · exact .base
  · exact .step (.step hv1 (commitKey_only ..)) (commitSwitch_only ..)

theorem execTermRekey_only (mb : Fin 16) (term : Nat) (s : State) :
    OnlyNext (fun s t => { answered s t with ev.transit := t.ev.transit, terms := t.terms, chans := t.chans }) s (execTermRekey mb term s) := by
  unfold execTermRekey
  refine hostCmd_only fun c u => ?_
  refine onTerm_only ?_
  exact .ite (.okay (.step .base (startExchange_only ..))) (.fail .base)

theorem execBcastKeyExport_only (mb : Fin 16) (slot term : Nat) (s : State) : OnlyNext answered s (execBcastKeyExport mb slot term s) := by
  unfold execBcastKeyExport
  refine hostCmd_only fun c u => ?_
  refine .ite (.fail .base) (.ite (.fail .base) ?_)
  split
  · exact .fail .base
  · exact .okay .base

theorem execCmacJob_only (mb : Fin 16) (slot tagLen : Nat) (data : List Byte) (tag : Nat) (s : State) :
    OnlyNext (fun s t => { answered s t with cipher.authFails := t.cipher.authFails }) s (execCmacJob mb slot tagLen data tag s) := by
  unfold execCmacJob
  refine hostCmd_only fun c u => ?_
  refine .ite (.fail .base) ?_
  split
  · exact .fail .base
  · extract_lets _ _
    exact .ite (.ite (.okay .base) (.fail .base)) (.okay .base)

/-! ### Machine/Rogue -/

theorem execRogueObservation_only (c : Fin 64) (window : Bool) (last : Option (Fin 8192)) (since : Nat) (s : State) :
    OnlyNext (fun s t => { s with ev.transit := t.ev.transit, chans := t.chans }) s (execRogueObservation c window last since s) := by
  unfold execRogueObservation
  exact .next (.step .base (rogueObserve_only ..))

theorem endRogue_only (s : State) (c : Nat) (unresolved unregistered : Bool) (suspects : List Suspect) :
    Only (fun s t => { s with ev.transit := t.ev.transit, chans := t.chans }) s (s.endRogue c unresolved unregistered suspects) := by
  unfold State.endRogue
  extract_lets _ v
  refine .via v (.step .base (setRogue_only ..)) fun hv => ?_
  exact .ite (.step hv (raise_only ..)) hv

theorem askProbes_only (s : State) (c firstFrame : Nat) : Only (fun s t => { s with chans := t.chans }) s (s.askProbes c firstFrame) := by
  unfold State.askProbes
  extract_lets _ v _
  refine .via v (.foldl .base fun _ _ => .step .base (askWindow_only ..)) fun hv => ?_
  exact .step hv (setRogue_only ..)

theorem execRogueCorrelationEnd_only (c : Fin 64) (s : State) :
    OnlyNext (fun s t => { s with ev.transit := t.ev.transit, chans := t.chans }) s (execRogueCorrelationEnd c s) := by
  unfold execRogueCorrelationEnd
  refine .next ?_
  extract_lets _ r v1
  clear_value r
  refine .via v1 (.step .base (setRogue_only ..)) fun hv1 => ?_
  refine .ite .base ?_
  split
  · exact .step (.step .base (endRogue_only ..)) (raise_only ..)
  · exact .step hv1 (askProbes_only ..)

theorem rogueDisable_only (s : State) (c t : Nat) : Only interferenceParts s (s.rogueDisable c t) := by
  unfold State.rogueDisable
  extract_lets _ v v1 _
  refine .via v (.step (.step .base (putTerm_only ..)) (dropRssi_only ..)) fun hv => ?_
  refine .via v1 (.step hv (queuePloam_only ..)) fun hv1 => ?_
  exact .ite .base (.step hv1 (setRogue_only ..))

def rogueReadmitParts : State → State → State :=
  fun s t => { s with
      ev.transit := t.ev.transit, terms := t.terms, chans := t.chans, prot.streams := t.prot.streams, prot.txCounters := t.prot.txCounters,
      outbox := t.outbox }

theorem rogueReadmit_only (s : State) (c t : Nat) : Only rogueReadmitParts s (s.rogueReadmit c t) := by
  unfold State.rogueReadmit
  extract_lets _ v v1 _
  refine .via v (.step .base (putTerm_only ..)) fun hv => ?_
  refine .via v1 (.step hv (queuePloam_only ..)) fun hv1 => ?_
  exact .ite .base (.step hv1 (setRogue_only ..))

theorem readmitAll_only (s : State) (c : Nat) (ts : List Nat) : Only rogueReadmitParts s (s.readmitAll c ts) := by
  unfold State.readmitAll
  exact .ite .base (.step (.foldl .base fun _ _ => .step .base (rogueReadmit_only ..)) (askReadmission_only ..))

theorem bisectNext_only (s : State) (c : Nat) (cand clear : List Nat) : Only rogueReadmitParts s (s.bisectNext c cand clear) := by
  unfold State.bisectNext
  extract_lets _ _ v
  refine .via v (.step .base (setRogue_only ..)) fun hv => ?_
  split
  · exact .step (.step .base (readmitAll_only ..)) (endRogue_only ..)
  · extract_lets v1
    refine .via v1 (.step .base (setRogue_only ..)) fun hv1 => ?_
    exact .step (.step hv1 (readmitAll_only ..)) (askProbes_only ..)
  · exact .step (.step hv (readmitAll_only ..)) (askProbes_only ..)

theorem startBisection_only (s : State) (c : Nat) : Only interferenceParts s (s.startBisection c) := by
  unfold State.startBisection
  extract_lets _ _ v
  refine .via v (.step .base (setRogue_only ..)) fun hv => ?_
  exact .step (.foldl hv fun _ _ => .step .base (rogueDisable_only ..)) (askProbes_only ..)

theorem execRogueProbeResult_only (c : Fin 64) (light : Bool) (s : State) : OnlyNext interferenceParts s (execRogueProbeResult c light s) := by
  unfold execRogueProbeResult
  refine .next ?_
  extract_lets _ _ _ _ v
  refine .via v (.step .base (setRogue_only ..)) fun hv => ?_
  exact .ite .base (.ite hv (.ite (.step hv (endRogue_only ..)) (.ite (.step hv (startBisection_only ..)) (.step (.step hv (endRogue_only ..))
    (raise_only ..)))))

theorem execRogueBisectionStep_only (c : Fin 64) (s : State) : OnlyNext interferenceParts s (execRogueBisectionStep c s) := by
  unfold execRogueBisectionStep
  refine .next ?_
  extract_lets _ r _
  clear_value r
  refine .ite .base ?_
  split
  · exact .base
  · exact .ite (.step .base (bisectNext_only ..)) (.step (.step .base (readmitAll_only ..)) (endRogue_only ..))
  · extract_lets _ _
    exact .ite (.step .base (bisectNext_only ..)) (.step (.foldl .base fun _ _ => .step .base (rogueDisable_only ..)) (bisectNext_only ..))
  · refine .ite ?_ (.step (.step .base (readmitAll_only ..)) (endRogue_only ..))
    extract_lets v1 v2
    refine .via v1 (.step .base (raise_only ..)) fun hv1 => ?_
    refine .via v2 (.ite hv1 (.step hv1 (readmitAll_only ..))) fun hv2 => ?_
    exact .step hv2 (endRogue_only ..)

theorem execReadmissionAnswer_only (term : Fin 8192) (s : State) :
    OnlyNext (fun s t => { s with ev.transit := t.ev.transit, chans := t.chans }) s (execReadmissionAnswer term s) := by
  unfold execReadmissionAnswer
  exact .next (.step .base (answerReadmission_only ..))

theorem execRogueHoldoffExpiry_only (c : Fin 64) (s : State) : OnlyNext (fun s t => { s with chans := t.chans }) s (execRogueHoldoffExpiry c s) := by
  unfold execRogueHoldoffExpiry
  exact .next (.step .base (setRogue_only ..))

theorem execRogueStart_only (mb : Fin 16) (c : Nat) (s : State) :
    OnlyNext (fun s t => { answered s t with ev.transit := t.ev.transit, chans := t.chans }) s (execRogueStart mb c s) := by
  unfold execRogueStart
  refine hostCmd_only fun c u => ?_
  exact .ite (.fail .base) (.ite (.fail .base) (.ite (.fail .base) (.okay (.step .base (openRogue_only ..)))))

theorem execRogueStatus_only (mb : Fin 16) (c : Nat) (s : State) : OnlyNext answered s (execRogueStatus mb c s) := by
  unfold execRogueStatus
  refine hostCmd_only fun c u => ?_
  refine .ite (.fail .base) ?_
  extract_lets _
  exact .okay .base

theorem execRogueStop_only (mb : Fin 16) (c : Nat) (s : State) : OnlyNext execTermEnableParts s (execRogueStop mb c s) := by
  unfold execRogueStop
  refine hostCmd_only fun c u => ?_
  refine .ite (.fail .base) (.ite (.okay .base) ?_)
  extract_lets _ v _ _ v1
  refine .via v (.step .base (readmitAll_only ..)) fun hv => ?_
  refine .via v1 (.step hv (setChan_only ..)) fun hv1 => ?_
  exact .okay (.step hv1 (endRogue_only ..))

/-! ### Machine/CipherCap -/

theorem execGemMap_only (mb : Fin 16) (gem : Nat) (entry : GemEntry) (s : State) : OnlyNext (fun s t => { answered s t with
        pon.gems := t.pon.gems, prot.streams := t.prot.streams, prot.txCounters := t.prot.txCounters }) s (execGemMap mb gem entry s) := by
  unfold execGemMap
  refine hostCmd_only fun c u => ?_
  extract_lets e
  clear_value e
  refine .ite (.fail .base) ?_
  split
  · exact .fail .base
  · exact .ite (.fst .base) (.ite (.fail .base) (.ite (.fail .base) (.okay (.step .base (putGem_only ..)))))

theorem execCipherStatus_only (mb : Fin 16) (s : State) : OnlyNext answered s (execCipherStatus mb s) := by
  unfold execCipherStatus
  refine hostCmd_only fun c u => ?_
  exact .okay .base

/-! ### Machine/Events -/

theorem setCh_only (s : State) (c : Nat) (d : DmaCh) : Only (fun s t => { s with host.channels := t.host.channels }) s (s.setCh c d) := .base

theorem stage_only (s : State) (func : Nat) (m : DmaMsg) : Only (fun s t => { s with host.staged := t.host.staged }) s (s.stage func m) := .base

theorem lose_only (s : State) (cause n : Nat) :
    Only (fun s t => { s with ev.loss := t.ev.loss, ev.lostSinceBatch := t.ev.lostSinceBatch }) s (s.lose cause n) := by
  unfold State.lose
  extract_lets _ _
  exact .base

theorem visible_only (s : State) (e : EvRec × Option Nat) :
    Only (fun s t => { s with host.pba := t.host.pba, ev.vectors := t.ev.vectors, outbox := t.outbox }) s (s.visible e) := by
  unfold State.visible
  split
  · exact .base
  · refine .ite ?_ .base
    extract_lets v _
    refine .via v (.step .base (msix_only ..)) fun hv => ?_
    clear_value v
    exact hv.upd

theorem closeBatch_only (s : State) :
    Only (fun s t => { s with host.staged := t.host.staged, ev.batch := t.ev.batch, ev.lostSinceBatch := t.ev.lostSinceBatch }) s (s.closeBatch) := by
  unfold State.closeBatch
  refine .ite .base ?_
  extract_lets _ _ v _
  refine .via v (.step .base (stage_only ..)) fun hv => ?_
  clear_value v
  exact hv.upd

theorem storePut_only (s : State) (e : EvRec × Option Nat) : Only (fun s t => { s with
        par.ro := t.par.ro, host.pba := t.host.pba, ev.store := t.ev.store, ev.vectors := t.ev.vectors, ev.loss := t.ev.loss,
        ev.lostSinceBatch := t.ev.lostSinceBatch, outbox := t.outbox }) s (s.storePut e) := by
  unfold State.storePut
  refine .ite ?_ ?_
  · extract_lets _ v
    refine .via v .base fun hv => ?_
    exact .step hv (visible_only ..)
  · extract_lets v1 _
    refine .via v1 (.step (.step .base (bumpF_only ..)) (lose_only ..)) fun hv1 => ?_
    split
    · extract_lets v2
      clear_value v1
      refine .via v2 hv1.upd fun hv2 => ?_
      exact .step hv2 (visible_only ..)
    · exact hv1

theorem placeLoss_only (s : State) (toRing : Bool) : Only (fun s t => { s with
        host.pba := t.host.pba, host.staged := t.host.staged, ev.seq := t.ev.seq, ev.batch := t.ev.batch, ev.batchMax := t.ev.batchMax,
        ev.store := t.ev.store, ev.vectors := t.ev.vectors, ev.loss := t.ev.loss, ev.lostSinceBatch := t.ev.lostSinceBatch, outbox := t.outbox })
        s (s.placeLoss toRing) := by
  unfold State.placeLoss
  split
  · exact .base
  · extract_lets _ _ _ v v1
    refine .via v .base fun hv => ?_
    refine .via v1 .base fun hv1 => ?_
    exact .ite (.ite (.ite (.step hv (closeBatch_only ..)) hv) .base) (.ite (.step hv1 (visible_only ..)) .base)

theorem deliver_only (s : State) (r : EvRec) : Only (fun s t => { s with
        par.ro := t.par.ro, host.pba := t.host.pba, host.staged := t.host.staged, ev.seq := t.ev.seq, ev.batch := t.ev.batch,
        ev.batchMax := t.ev.batchMax, ev.store := t.ev.store, ev.vectors := t.ev.vectors, ev.loss := t.ev.loss,
        ev.lostSinceBatch := t.ev.lostSinceBatch, outbox := t.outbox }) s (s.deliver r) := by
  unfold State.deliver
  extract_lets _ v _ _ _ v1 _ _ v2
  refine .via v (.step .base (placeLoss_only ..)) fun hv => ?_
  clear_value v
  refine .via v1 hv.upd fun hv1 => ?_
  clear_value v1
  refine .via v2 hv1.upd fun hv2 => ?_
  exact .ite (.ite (.step hv2 (closeBatch_only ..)) hv2) (.step hv1 (storePut_only ..))

theorem execEventArrival_only (source : Fin 1624) (s : State) : OnlyNext (fun s t => { s with
        par.ro := t.par.ro, host.pba := t.host.pba, host.staged := t.host.staged, ev.transit := t.ev.transit, ev.seq := t.ev.seq,
        ev.burst := t.ev.burst, ev.batch := t.ev.batch, ev.batchMax := t.ev.batchMax, ev.store := t.ev.store, ev.vectors := t.ev.vectors,
        ev.loss := t.ev.loss, ev.lostSinceBatch := t.ev.lostSinceBatch, outbox := t.outbox }) s (execEventArrival source s) := by
  unfold execEventArrival
  refine .next ?_
  split
  · exact .base
  · extract_lets _ _ v
    refine .via v .base fun hv => ?_
    exact .ite (.step (.step hv (bump_only ..)) (lose_only ..)) (.ite (.step hv (bump_only ..)) (.step hv (deliver_only ..)))

theorem execEventShedPeriod_only (s : State) : OnlyNext (fun s t => { s with ev.burst := t.ev.burst }) s (execEventShedPeriod s) := by
  unfold execEventShedPeriod
  exact .next .base

theorem execEventBatchTimeout_only (s : State) : OnlyNext (fun s t => { s with
        host.staged := t.host.staged, ev.batch := t.ev.batch, ev.lostSinceBatch := t.ev.lostSinceBatch }) s (execEventBatchTimeout s) := by
  unfold execEventBatchTimeout
  exact .next (.step .base (closeBatch_only ..))

theorem execEventIrqHoldoffExpiry_only (vector : Fin 64) (s : State) : OnlyNext (fun s t => { s with
        host.pba := t.host.pba, ev.vectors := t.ev.vectors, outbox := t.outbox }) s (execEventIrqHoldoffExpiry vector s) := by
  unfold execEventIrqHoldoffExpiry
  refine .next ?_
  extract_lets _ v _ _
  refine .via v (.step .base (msix_only ..)) fun hv => ?_
  clear_value v
  exact .ite hv.upd .base

theorem execEventMaskSet_only (mb : Fin 16) (mask : Bool) (kinds sources : List Nat) (s : State) : OnlyNext (fun s t => { answered s t with
        host.staged := t.host.staged, ev.maskKind := t.ev.maskKind, ev.maskSource := t.ev.maskSource, ev.batch := t.ev.batch,
        ev.lostSinceBatch := t.ev.lostSinceBatch }) s (execEventMaskSet mb mask kinds sources s) := by
  unfold execEventMaskSet
  refine hostCmd_only fun c u => ?_
  refine .ite ?_ (.fail .base)
  extract_lets v _
  refine .via v (.step .base (closeBatch_only ..)) fun hv => ?_
  clear_value v
  exact .okay hv.upd

theorem setRoute_only (s : State) (e : RouteEntry) : OnlyIn Prod.fst (fun s t => { s with ev.routes := t.ev.routes }) s (setRoute s e) := by
  unfold setRoute
  extract_lets _ _
  exact .ite (.fst .base) (.fst .base)

theorem execEventRouteSet_only (mb : Fin 16) (routes : List RouteEntry) (s : State) : OnlyNext (fun s t => { answered s t with
        host.staged := t.host.staged, ev.routes := t.ev.routes, ev.batch := t.ev.batch, ev.lostSinceBatch := t.ev.lostSinceBatch })
      s (execEventRouteSet mb routes s) := by
  unfold execEventRouteSet
  refine hostCmd_only fun c u => .ite (.fail .base) ?_
  exact runEntries_only (fun _ _ => .step .base (setRoute_only ..)) (by intros; rfl) routes _ 0 (.step .base (closeBatch_only ..))

theorem execEventRead_only (mb : Fin 16) (count : Nat) (s : State) :
    OnlyNext (fun s t => { answered s t with ev.store := t.ev.store }) s (execEventRead mb count s) := by
  unfold execEventRead
  refine hostCmd_only fun c u => ?_
  refine .ite (.fail .base) ?_
  extract_lets _ _
  exact .okay .base

theorem produce_only (s : State) (type inst : Nat) (payload : List Nat) :
    Only (fun s t => { s with ev.telStaged := t.ev.telStaged }) s (s.produce type inst payload) := by
  unfold State.produce
  exact .ite .base .base

theorem flushTelemetry_only (s : State) :
    Only (fun s t => { s with host.staged := t.host.staged, ev.telOpen := t.ev.telOpen }) s (s.flushTelemetry) := by
  unfold State.flushTelemetry
  refine .ite .base ?_
  extract_lets v _
  refine .via v (.step .base (stage_only ..)) fun hv => ?_
  clear_value v
  exact hv.upd

theorem execTelemetryRecord_only (s : State) : OnlyNext (fun s t => { s with
        par.ro := t.par.ro, host.staged := t.host.staged, ev.loss := t.ev.loss, ev.lostSinceBatch := t.ev.lostSinceBatch, ev.telRing := t.ev.telRing,
        ev.telHead := t.ev.telHead, ev.telStaged := t.ev.telStaged, ev.telOpen := t.ev.telOpen, ev.telUnexported := t.ev.telUnexported })
        s (execTelemetryRecord s) := by
  unfold execTelemetryRecord
  refine .next ?_
  split
  · exact .base
  · extract_lets _ v _ _ _ v1 _ v2
    refine .via v .base fun hv => ?_
    refine .via v1 hv.upd fun hv1 => ?_
    refine .via v2 hv1.upd fun hv2 => ?_
    exact .ite (.step (.step hv (bump_only ..)) (lose_only ..)) (.ite (.ite (.step hv2 (flushTelemetry_only ..)) hv2) hv1.upd)

theorem execTelemetryFlushExpiry_only (s : State) :
    OnlyNext (fun s t => { s with host.staged := t.host.staged, ev.telOpen := t.ev.telOpen }) s (execTelemetryFlushExpiry s) := by
  unfold execTelemetryFlushExpiry
  exact .next (.step .base (flushTelemetry_only ..))

theorem execTelemetrySet_only (mb : Fin 16) (mask period : Nat) (s : State) :
    OnlyNext (fun s t => { answered s t with par.vals := t.par.vals, ev.telMask := t.ev.telMask }) s (execTelemetrySet mb mask period s) := by
  unfold execTelemetrySet
  refine hostCmd_only fun c u => ?_
  refine .ite ?_ (.fail .base)
  extract_lets v _
  refine .via v (.step .base (setPar_only ..)) fun hv => ?_
  clear_value v
  exact .okay hv.upd

/-! ### Machine/Parse -/

def startBlockParts : State → State → State :=
  fun s t => { answered s t with
      par.ro := t.par.ro, host.channels := t.host.channels, host.staged := t.host.staged, host.omciLost := t.host.omciLost,
      ev.transit := t.ev.transit, ev.rate := t.ev.rate, ev.loss := t.ev.loss, ev.lostSinceBatch := t.ev.lostSinceBatch,
      ev.telUnexported := t.ev.telUnexported, pace.capSeq := t.pace.capSeq, pace.capSent := t.pace.capSent, units := t.units,
      fault.handlers := t.fault.handlers, fault.log := t.fault.log, lanes.lanes := t.lanes.lanes, chans := t.chans, pon.tl := t.pon.tl,
      pon.gems := t.pon.gems, pon.reasm := t.pon.reasm, prot.tokens := t.prot.tokens, prot.streams := t.prot.streams, prot.lanes := t.prot.lanes,
      prot.groups := t.prot.groups, prot.carrier := t.prot.carrier, prot.queues := t.prot.queues, prot.pairLost := t.prot.pairLost,
      prot.silent := t.prot.silent, fwd.rules := t.fwd.rules, fwd.toParse := t.fwd.toParse, fwd.recirc := t.fwd.recirc, fwd.wants := t.fwd.wants,
      fwd.ops := t.fwd.ops, fwd.jobs := t.fwd.jobs, fwd.bufs := t.fwd.bufs, fwd.pools := t.fwd.pools, fwd.poolMsgs := t.fwd.poolMsgs,
      fwd.downQ := t.fwd.downQ, fwd.upQ := t.fwd.upQ, fwd.macs := t.fwd.macs }

/-! ### Machine/Faults -/

theorem setHandler_only (s : State) (h : Nat) (v : Handler) : Only (fun s t => { s with fault.handlers := t.fault.handlers }) s (s.setHandler h v) :=
  .base

/-! ### Machine/Tethers -/

theorem postReady_only (s : State) (t cause : Nat) :
    Only (fun s t => { s with ev.transit := t.ev.transit, prot.streams := t.prot.streams }) s (s.postReady t cause) := by
  unfold State.postReady
  extract_lets _ _ v
  refine .via v (.step .base (setStream_only ..)) fun hv => ?_
  exact .ite .base (.ite (.step hv (raiseAs_only ..)) (.step hv (raise_only ..)))

theorem postAllReady_only (s : State) (cause : Nat) :
    Only (fun s t => { s with ev.transit := t.ev.transit, prot.streams := t.prot.streams }) s (s.postAllReady cause) := by
  unfold State.postAllReady
  exact .foldl .base fun _ _ => .step .base (postReady_only ..)

theorem judgeGroup_only (s : State) (e : Nat × List Nat) :
    Only (fun s t => { s with ev.transit := t.ev.transit, prot.groups := t.prot.groups }) s (s.judgeGroup e) := by
  unfold State.judgeGroup
  extract_lets _ _ _ _ v
  refine .via v .base fun hv => ?_
  exact .ite (.step hv (raise_only ..)) hv

theorem losePair_only (s : State) :
    Only (fun s t => { s with ev.transit := t.ev.transit, prot.streams := t.prot.streams, prot.pairLost := t.prot.pairLost }) s (s.losePair) := by
  unfold State.losePair
  refine .ite .base ?_
  extract_lets _ v
  refine .via v .base fun hv => ?_
  exact .step (.step hv (raise_only ..)) (postAllReady_only ..)

theorem lastGroupLost_only (s : State) : Only (fun s t => { s with
        ev.transit := t.ev.transit, prot.tokens := t.prot.tokens, prot.streams := t.prot.streams, prot.pairLost := t.prot.pairLost })
        s (s.lastGroupLost) := by
  unfold State.lastGroupLost
  extract_lets v
  refine .via v (.foldl .base fun _ _ => .step .base (setToken_only ..)) fun hv => ?_
  exact .ite (.step hv (losePair_only ..)) hv

theorem judgeGroups_only (s : State) : Only (fun s t => { s with
        ev.transit := t.ev.transit, prot.tokens := t.prot.tokens, prot.streams := t.prot.streams, prot.groups := t.prot.groups,
        prot.carrier := t.prot.carrier, prot.pairLost := t.prot.pairLost, prot.silent := t.prot.silent }) s (s.judgeGroups) := by
  unfold State.judgeGroups
  extract_lets _ _ _ v v1 _ v2 _
  refine .via v .base fun hv => ?_
  refine .via v1 (.foldl hv fun _ _ => .step .base (judgeGroup_only ..)) fun hv1 => ?_
  clear_value v v1
  refine .via v2 hv1.upd fun hv2 => ?_
  clear_value v2
  exact .ite (.step hv2 (lastGroupLost_only ..)) (.ite (.step hv2.upd (postAllReady_only ..)) hv2)

theorem setTlane_only (s : State) (i : Nat) (v : TetherLane) : Only (fun s t => { s with prot.lanes := t.prot.lanes }) s (s.setTlane i v) := .base

theorem dropLanes_only (s : State) (p : Nat) : Only (fun s t => { s with prot.lanes := t.prot.lanes }) s (s.dropLanes p) := by
  unfold State.dropLanes
  exact .foldl .base fun _ _ => .step .base (setTlane_only ..)

/-! ### Machine/UplinkRows -/

theorem linkDown_only (s : State) (m cause : Nat) :
    Only (fun s t => { s with ev.transit := t.ev.transit, fwd.macs := t.fwd.macs }) s (s.linkDown m cause) := by
  unfold State.linkDown
  extract_lets _
  exact .ite (.step (.step .base (setMac_only ..)) (raise_only ..)) .base

/-! ### Machine/Faults -/

theorem logRepair_only (s : State) (u action role cause : Nat) :
    Only (fun s t => { s with fault.log := t.fault.log }) s (s.logRepair u action role cause) := by
  unfold State.logRepair
  extract_lets _ _
  exact .base

theorem emptyFramer_only (s : State) (c : Nat) :
    Only (fun s t => { s with chans := t.chans, pon.gems := t.pon.gems, fwd.ops := t.fwd.ops }) s (s.emptyFramer c) := by
  unfold State.emptyFramer
  extract_lets v _
  refine .via v (.step .base (dropSdus_only ..)) fun hv => ?_
  exact .step hv (setChan_only ..)

theorem emptyReasm_only (s : State) (t : Nat) : Only (fun s t => { s with par.ro := t.par.ro, pon.reasm := t.pon.reasm }) s (s.emptyReasm t) := by
  unfold State.emptyReasm
  exact .foldl .base fun _ _ => .step .base (dropReasm_only ..)

/-! ### Machine/Classify -/

theorem setRules_only (s : State) (r : RuleSets) : Only (fun s t => { s with fwd.rules := t.fwd.rules }) s (s.setRules r) := .base

theorem flight_only (s : State) (region epoch : Nat) (d : Int) :
    Only (fun s t => { s with fwd.rules := t.fwd.rules }) s (s.flight region epoch d) := by
  unfold State.flight
  extract_lets _ _
  exact .step .base (setRules_only ..)

theorem landed_only (s : State) (k : Pkt) : Only (fun s t => { s with fwd.rules := t.fwd.rules }) s (s.landed k) := by
  unfold State.landed
  exact .step .base (flight_only ..)

/-! ### Machine/Faults -/

theorem emptyRecirc_only (s : State) (k : Nat) :
    Only (fun s t => { s with fwd.rules := t.fwd.rules, fwd.recirc := t.fwd.recirc, fwd.ops := t.fwd.ops }) s (s.emptyRecirc k) := by
  unfold State.emptyRecirc
  extract_lets _ v _
  refine .via v (.foldl .base fun _ _ => .step (.step .base (landed_only ..)) (freeFrame_only ..)) fun hv => ?_
  clear_value v
  exact hv.upd

theorem landWants_only (s : State) : Only (fun s t => { s with fwd.rules := t.fwd.rules }) s (s.landWants) := by
  unfold State.landWants
  refine .foldl .base fun u x => ?_
  split
  · exact .step .base (landed_only ..)
  · exact .base

theorem emptyParse_only (s : State) (k : Nat) : Only (fun s t => { s with
        fwd.rules := t.fwd.rules, fwd.toParse := t.fwd.toParse, fwd.recirc := t.fwd.recirc, fwd.ops := t.fwd.ops }) s (s.emptyParse k) := by
  unfold State.emptyParse
  extract_lets v _
  refine .via v (.step .base (emptyRecirc_only ..)) fun hv => ?_
  clear_value v
  exact hv.upd

/-! ### Machine/HostDma -/

theorem testReq_only (s : State) (c : Nat) : Only (fun s t => { s with host.channels := t.host.channels }) s (s.testReq c) := by
  unfold State.testReq
  extract_lets _ _
  exact .step .base (setCh_only ..)

theorem freeMsg_only (s : State) (m : DmaMsg) : Only (fun s t => { s with fwd.ops := t.fwd.ops }) s (s.freeMsg m) := by
  unfold State.freeMsg
  split
  · exact .step .base (bufOp_only ..)
  · exact .base

theorem freeMsgs_only (s : State) (l : List DmaMsg) : Only (fun s t => { s with fwd.ops := t.fwd.ops }) s (s.freeMsgs l) := by
  unfold State.freeMsgs
  exact .foldl .base fun _ _ => .step .base (freeMsg_only ..)

theorem dropMessage_only (s : State) (c : Nat) :
    Only (fun s t => { s with host.channels := t.host.channels, fwd.ops := t.fwd.ops }) s (s.dropMessage c) := by
  unfold State.dropMessage
  extract_lets _ v _ _
  refine .via v (.step .base (freeMsgs_only ..)) fun hv => ?_
  exact .step (.step hv (setCh_only ..)) (testReq_only ..)

theorem queueDrop_only (s : State) (c : Nat) (m : DmaMsg) : Only (fun s t => { s with
        par.ro := t.par.ro, host.omciLost := t.host.omciLost, ev.transit := t.ev.transit, ev.rate := t.ev.rate, ev.loss := t.ev.loss,
        ev.lostSinceBatch := t.ev.lostSinceBatch, ev.telUnexported := t.ev.telUnexported, fwd.ops := t.fwd.ops }) s (s.queueDrop c m) := by
  unfold State.queueDrop
  extract_lets v _ _
  refine .via v (.step (.step .base (bump_only ..)) (freeMsg_only ..)) fun hv => ?_
  split
  · exact .step (.step hv (bumpF_only ..)) (lose_only ..)
  · extract_lets v1
    clear_value v
    refine .via v1 hv.upd fun hv1 => ?_
    exact .step hv1 (raiseSec_only ..)
  · extract_lets v2
    clear_value v
    refine .via v2 hv.upd fun hv2 => ?_
    exact .step hv2 (raiseSec_only ..)
  · exact .step hv (raiseSec_only ..)

/-! ### Machine/Faults -/

theorem dropHostBuffers_only (s : State) : Only (fun s t => { s with
        par.ro := t.par.ro, host.channels := t.host.channels, host.staged := t.host.staged, host.omciLost := t.host.omciLost,
        ev.transit := t.ev.transit, ev.rate := t.ev.rate, ev.loss := t.ev.loss, ev.lostSinceBatch := t.ev.lostSinceBatch,
        ev.telUnexported := t.ev.telUnexported, fwd.ops := t.fwd.ops }) s (s.dropHostBuffers) := by
  unfold State.dropHostBuffers
  extract_lets f _ v1
  refine .via v1 .base fun hv1 => ?_
  refine .foldl hv1 fun u x => ?_
  extract_lets _ _ _ v2 v3 _
  refine .via v2 (.step (.step .base (setCh_only ..)) (dropMessage_only ..)) fun hv2 => ?_
  refine .via v3 (.foldl hv2 fun _ _ => .step .base (queueDrop_only ..)) fun hv3 => ?_
  exact .step (.step hv3 (setCh_only ..)) (testReq_only ..)

theorem discardRegion_only (s : State) (r : Nat) : Only (fun s t => { s with
        par.ro := t.par.ro, host.channels := t.host.channels, host.staged := t.host.staged, host.omciLost := t.host.omciLost,
        ev.transit := t.ev.transit, ev.rate := t.ev.rate, ev.loss := t.ev.loss, ev.lostSinceBatch := t.ev.lostSinceBatch,
        ev.telUnexported := t.ev.telUnexported, chans := t.chans, pon.gems := t.pon.gems, pon.reasm := t.pon.reasm, prot.queues := t.prot.queues,
        fwd.rules := t.fwd.rules, fwd.toParse := t.fwd.toParse, fwd.recirc := t.fwd.recirc, fwd.wants := t.fwd.wants, fwd.ops := t.fwd.ops,
        fwd.jobs := t.fwd.jobs, fwd.bufs := t.fwd.bufs, fwd.pools := t.fwd.pools, fwd.poolMsgs := t.fwd.poolMsgs, fwd.downQ := t.fwd.downQ,
        fwd.upQ := t.fwd.upQ }) s (s.discardRegion r) := by
  unfold State.discardRegion
  refine .ite ?_ (.ite (.step .base (emptyParse_only ..)) (.ite ?_ .base))
  · extract_lets v
    refine .via v (.foldl .base fun _ _ => .step .base (emptyFramer_only ..)) fun hv => ?_
    exact .foldl hv fun _ _ => .step .base (emptyReasm_only ..)
  · extract_lets v1 v2 _ _
    refine .via v1 (.step (.step (.foldl .base fun _ _ => .step .base (emptyQueue_only ..)) (emptyRecirc_only ..)) (emptyRecirc_only ..)) fun hv1 =>
      ?_
    refine .via v2 (.step (.step hv1 (landWants_only ..)) (dropHostBuffers_only ..)) fun hv2 => ?_
    clear_value v1 v2
    exact hv2.upd

theorem failOnce_only (s : State) (i : Nat) : Only (fun s t => { answered s t with
        ev.transit := t.ev.transit, lanes.lanes := t.lanes.lanes, chans := t.chans, pon.tl := t.pon.tl, prot.tokens := t.prot.tokens })
        s (s.failOnce i) := by
  unfold State.failOnce
  exact .ite .base (.step .base (failLane_only ..))

theorem iceRegion_only (s : State) (r cause : Nat) : Only (fun s t => { answered s t with
        par.ro := t.par.ro, host.channels := t.host.channels, host.staged := t.host.staged, host.omciLost := t.host.omciLost,
        ev.transit := t.ev.transit, ev.rate := t.ev.rate, ev.loss := t.ev.loss, ev.lostSinceBatch := t.ev.lostSinceBatch,
        ev.telUnexported := t.ev.telUnexported, units := t.units, fault.log := t.fault.log, lanes.lanes := t.lanes.lanes, chans := t.chans,
        pon.tl := t.pon.tl, pon.gems := t.pon.gems, pon.reasm := t.pon.reasm, prot.tokens := t.prot.tokens, prot.streams := t.prot.streams,
        prot.lanes := t.prot.lanes, prot.groups := t.prot.groups, prot.carrier := t.prot.carrier, prot.queues := t.prot.queues,
        prot.pairLost := t.prot.pairLost, prot.silent := t.prot.silent, fwd.rules := t.fwd.rules, fwd.toParse := t.fwd.toParse,
        fwd.recirc := t.fwd.recirc, fwd.wants := t.fwd.wants, fwd.ops := t.fwd.ops, fwd.jobs := t.fwd.jobs, fwd.bufs := t.fwd.bufs,
        fwd.pools := t.fwd.pools, fwd.poolMsgs := t.fwd.poolMsgs, fwd.downQ := t.fwd.downQ, fwd.upQ := t.fwd.upQ, fwd.macs := t.fwd.macs })
        s (s.iceRegion r cause) := by
  unfold State.iceRegion
  extract_lets _ _ v v1
  refine .via v (.step .base (setUnit_only ..)) fun hv => ?_
  refine .via v1 (.step (.step hv (logRepair_only ..)) (raise_only ..)) fun hv1 => ?_
  exact .ite .base (.ite (.foldl hv1 fun _ _ => .step .base (failOnce_only ..)) (.ite (.foldl hv1 fun _ _ => .step .base (linkDown_only ..)) (.ite
    (.foldl (.step hv1 (discardRegion_only ..)) fun _ _ => .step .base (failOnce_only ..)) (.ite (.step (.step (.step hv1 (dropLanes_only ..))
    (dropLanes_only ..)) (judgeGroups_only ..)) hv1))))

theorem raiseUnit_only (s : State) (k : EvKind) (u slot : Nat) :
    Only (fun s t => { s with ev.transit := t.ev.transit }) s (s.raiseUnit k u slot) := by
  unfold State.raiseUnit
  exact .step .base (raise_only ..)

theorem condemn_only (s : State) (u cause : Nat) :
    Only (fun s t => { s with ev.transit := t.ev.transit, units := t.units, fault.log := t.fault.log }) s (s.condemn u cause) := by
  unfold State.condemn
  extract_lets _ v
  refine .via v (.step .base (setUnit_only ..)) fun hv => ?_
  exact .step (.step hv (logRepair_only ..)) (raiseUnit_only ..)

theorem ice_only (s : State) (u cause : Nat) :
    Only (fun s t => { s with ev.transit := t.ev.transit, units := t.units, fault.log := t.fault.log }) s (s.ice u cause) := by
  unfold State.ice
  extract_lets _ _ v v1 v2
  refine .via v (.step .base (setUnit_only ..)) fun hv => ?_
  refine .via v1 (.step hv (logRepair_only ..)) fun hv1 => ?_
  refine .via v2 (.ite (.step hv1 (raiseUnit_only ..)) hv1) fun hv2 => ?_
  exact .ite (.step hv2 (condemn_only ..)) hv2

theorem dropFrames_only (s : State) (w : Nat) (p : Nat → Bool) :
    Only (fun s t => { s with fwd.ops := t.fwd.ops, fwd.downQ := t.fwd.downQ, fwd.upQ := t.fwd.upQ }) s (s.dropFrames w p) := by
  unfold State.dropFrames
  extract_lets _ f _ v1 _
  refine .via v1 (.foldl .base fun _ _ => .step .base (freeFrame_only ..)) fun hv1 => ?_
  exact .ite .base (.step hv1 (setQueue_only ..))

theorem discardBlock_only (s : State) (r b : Nat) : Only (fun s t => { s with
        par.ro := t.par.ro, chans := t.chans, pon.gems := t.pon.gems, pon.reasm := t.pon.reasm, fwd.rules := t.fwd.rules,
        fwd.toParse := t.fwd.toParse, fwd.recirc := t.fwd.recirc, fwd.ops := t.fwd.ops, fwd.downQ := t.fwd.downQ, fwd.upQ := t.fwd.upQ })
        s (s.discardBlock r b) := by
  unfold State.discardBlock
  refine .ite ?_ (.ite ?_ (.ite (.step .base (emptyParse_only ..)) (.ite (.foldl .base fun _ _ => .step .base (dropFrames_only ..)) .base)))
  · extract_lets _
    exact .step (.step .base (emptyFramer_only ..)) (emptyFramer_only ..)
  · extract_lets _
    exact .step (.step .base (emptyReasm_only ..)) (emptyReasm_only ..)

theorem takeOut_only (s : State) (u cause : Nat) (swap : Bool) : Only (fun s t => { s with
        par.ro := t.par.ro, ev.transit := t.ev.transit, units := t.units, fault.log := t.fault.log, chans := t.chans, pon.gems := t.pon.gems,
        pon.reasm := t.pon.reasm, fwd.rules := t.fwd.rules, fwd.toParse := t.fwd.toParse, fwd.recirc := t.fwd.recirc, fwd.ops := t.fwd.ops,
        fwd.downQ := t.fwd.downQ, fwd.upQ := t.fwd.upQ }) s (s.takeOut u cause swap) := by
  unfold State.takeOut
  extract_lets _ v _ v1 _ v2 _
  refine .via v (.step .base (discardBlock_only ..)) fun hv => ?_
  refine .via v1 (.ite (.step (.step hv (setUnit_only ..)) (logRepair_only ..)) (.ite hv (.step hv (ice_only ..)))) fun hv1 => ?_
  refine .via v2 (.step hv1 (setUnit_only ..)) fun hv2 => ?_
  exact .step hv2 (setUnit_only ..)

theorem assign_only (s : State) (r n role : Nat) :
    Only (fun s t => { s with ev.transit := t.ev.transit, units := t.units }) s (s.assign r n role) := by
  unfold State.assign
  extract_lets _ _ v
  refine .via v (.step .base (setUnit_only ..)) fun hv => ?_
  exact .ite (.step hv (raise_only ..)) hv

def loseRoleParts : State → State → State :=
  fun s t => { answered s t with
      par.ro := t.par.ro, host.channels := t.host.channels, host.staged := t.host.staged, host.omciLost := t.host.omciLost,
      ev.transit := t.ev.transit, ev.rate := t.ev.rate, ev.loss := t.ev.loss, ev.lostSinceBatch := t.ev.lostSinceBatch,
      ev.telUnexported := t.ev.telUnexported, pace.capSeq := t.pace.capSeq, pace.capSent := t.pace.capSent, units := t.units,
      fault.log := t.fault.log, lanes.lanes := t.lanes.lanes, chans := t.chans, pon.tl := t.pon.tl, pon.gems := t.pon.gems, pon.reasm := t.pon.reasm,
      prot.tokens := t.prot.tokens, prot.streams := t.prot.streams, prot.lanes := t.prot.lanes, prot.groups := t.prot.groups,
      prot.carrier := t.prot.carrier, prot.queues := t.prot.queues, prot.pairLost := t.prot.pairLost, prot.silent := t.prot.silent,
      fwd.rules := t.fwd.rules, fwd.toParse := t.fwd.toParse, fwd.recirc := t.fwd.recirc, fwd.wants := t.fwd.wants, fwd.ops := t.fwd.ops,
      fwd.jobs := t.fwd.jobs, fwd.bufs := t.fwd.bufs, fwd.pools := t.fwd.pools, fwd.poolMsgs := t.fwd.poolMsgs, fwd.downQ := t.fwd.downQ,
      fwd.upQ := t.fwd.upQ, fwd.macs := t.fwd.macs }

theorem loseRole_only (s : State) (u role cause : Nat) : Only loseRoleParts s (s.loseRole u role cause) := by
  unfold State.loseRole
  extract_lets r _ _ v1 _
  clear_value r
  refine .via v1 (.step .base (setUnit_only ..)) fun hv1 => ?_
  split <;> exact .ite (.step (.step hv1 (reportCapacity_only ..)) (raiseUnit_only ..)) (.ite (.foldl hv1 fun _ _ => .step .base (failOnce_only ..))
    (.step hv1 (iceRegion_only ..)))

theorem replaceBlock_only (s : State) (u cause : Nat) (swap : Bool) : OnlyIn Prod.snd loseRoleParts s (s.replaceBlock u cause swap) := by
  unfold State.replaceBlock
  extract_lets role v1
  clear_value role
  refine .via v1 (.step .base (takeOut_only ..)) fun hv1 => ?_
  split
  · exact .snd (.step hv1 (assign_only ..))
  · exact .snd (.step hv1 (loseRole_only ..))

theorem startRestart_only (s : State) (e : FaultEntry) : Only startBlockParts s (s.startRestart e) := by
  unfold State.startRestart
  extract_lets _ v v1 v2 _
  refine .via v (.step .base (raise_only ..)) fun hv => ?_
  refine .via v1 (.step hv (discardRegion_only ..)) fun hv1 => ?_
  refine .via v2 (.ite (.step hv1 (replaceBlock_only ..)) hv1) fun hv2 => ?_
  exact .ite hv2 (.step hv2 (setHandler_only ..))

theorem nextRegion_only (n : Nat) (s : State) : Only startBlockParts s (State.nextRegion n s) := by
  induction n generalizing s with
  | zero => exact .base
  | succ n ih =>
    rw [State.nextRegion]
    split
    · exact .base
    · extract_lets _ v
      refine .via v (.step .base (setHandler_only ..)) fun hv => ?_
      exact .ite (.step (.step hv (iceRegion_only ..)) (ih ..)) (.step hv (startRestart_only ..))

theorem freeChip_only (s : State) : Only startBlockParts s (s.freeChip) := by
  unfold State.freeChip
  extract_lets _ v
  refine .via v (.step .base (setHandler_only ..)) fun hv => ?_
  exact .step hv (nextRegion_only ..)

theorem ghost_only (s : State) (u : Nat) :
    Only (fun s t => { s with par.ro := t.par.ro, ev.transit := t.ev.transit, ev.rate := t.ev.rate }) s (s.ghost u) := by
  unfold State.ghost
  exact .step (.step .base (bump_only ..)) (raiseSec_only ..)

theorem reportRegion_only (s : State) (e : FaultEntry) : Only startBlockParts s (s.reportRegion e) := by
  unfold State.reportRegion
  extract_lets _
  exact .ite (.step .base (ghost_only ..)) (.ite (.step (.step .base (iceRegion_only ..)) (freeChip_only ..)) (.ite (.step .base (setHandler_only
    ..)) (.ite (.step .base (startRestart_only ..)) (.ite (.step .base (setHandler_only ..)) (.step .base (iceRegion_only ..))))))

theorem subsume_only (s : State) (h n : Nat) : Only (fun s t => { s with fault.handlers := t.fault.handlers }) s (s.subsume h n) := by
  unfold State.subsume
  exact .step .base (setHandler_only ..)

theorem startBlock_only (s : State) (e : FaultEntry) : Only startBlockParts s (s.startBlock e) := by
  unfold State.startBlock
  extract_lets _
  split
  · rename_i _ _ v h
    refine .via v (.snd h (.step .base (replaceBlock_only ..))) fun hv1 => ?_
    split
    · exact .step hv1 (setHandler_only ..)
    · exact hv1

theorem clearInside_only (s : State) (e : Nat) : Only (fun s t => { s with fault.handlers := t.fault.handlers }) s (s.clearInside e) := by
  unfold State.clearInside
  refine .foldl .base fun u x => ?_
  extract_lets _ _ f
  exact .step (.step .base (setHandler_only ..)) (subsume_only ..)

theorem escalated_only (s : State) (u : Nat) :
    Only (fun s t => { s with ev.transit := t.ev.transit, fault.handlers := t.fault.handlers }) s (s.escalated u) := by
  unfold State.escalated
  exact .step (.step .base (clearInside_only ..)) (raiseUnit_only ..)

theorem escalateBlock_only (s : State) (e : FaultEntry) : Only startBlockParts s (s.escalateBlock e) := by
  unfold State.escalateBlock
  extract_lets _ v _
  refine .via v (.step .base (escalated_only ..)) fun hv => ?_
  exact .ite (.step hv (startBlock_only ..)) (.step hv (reportRegion_only ..))

theorem nextBlock_only (n : Nat) (s : State) (n1 : Nat) : Only startBlockParts s (State.nextBlock n s n1) := by
  induction n generalizing s n1 with
  | zero => exact .base
  | succ n ih =>
    rw [State.nextBlock]
    refine .ite .base ?_
    split
    · exact .base
    · extract_lets v
      refine .via v (.step .base (setHandler_only ..)) fun hv => ?_
      exact .step (.ite (.step hv (escalateBlock_only ..)) (.step hv (startBlock_only ..))) (ih ..)

theorem reportBlock_only (s : State) (e : FaultEntry) : Only startBlockParts s (s.reportBlock e) := by
  unfold State.reportBlock
  extract_lets _ _
  exact .ite (.step .base (subsume_only ..)) (.ite (.step .base (ghost_only ..)) (.ite (.step .base (escalateBlock_only ..)) (.ite (.step .base
    (setHandler_only ..)) (.ite (.step (.step .base (startBlock_only ..)) (nextBlock_only ..)) (.ite (.step .base (setHandler_only ..)) (.step .base
    (escalateBlock_only ..)))))))

theorem escalateCell_only (s : State) (e : FaultEntry) : Only startBlockParts s (s.escalateCell e) := by
  unfold State.escalateCell
  extract_lets _ v
  refine .via v (.step .base (escalated_only ..)) fun hv => ?_
  exact .step hv (reportBlock_only ..)

theorem startCell_only (s : State) (e : FaultEntry) : Only startBlockParts s (s.startCell e) := by
  unfold State.startCell
  extract_lets _ _ _ _
  exact .ite (.step .base (escalateCell_only ..)) (.step .base (setHandler_only ..))

theorem nextCell_only (n : Nat) (s : State) (n1 : Nat) : Only startBlockParts s (State.nextCell n s n1) := by
  induction n generalizing s n1 with
  | zero => exact .base
  | succ n ih =>
    rw [State.nextCell]
    refine .ite .base ?_
    split
    · exact .base
    · extract_lets v
      refine .via v (.step .base (setHandler_only ..)) fun hv => ?_
      exact .step (.ite (.step hv (escalateCell_only ..)) (.step hv (startCell_only ..))) (ih ..)

theorem reportCell_only (s : State) (e : FaultEntry) : Only startBlockParts s (s.reportCell e) := by
  unfold State.reportCell
  extract_lets _ _
  exact .ite (.step .base (subsume_only ..)) (.ite (.step .base (ghost_only ..)) (.ite (.step (.step .base (setHandler_only ..)) (escalateCell_only
    ..)) (.ite (.step .base (setHandler_only ..)) (.ite (.step (.step .base (startCell_only ..)) (nextCell_only ..)) (.ite (.step .base
    (setHandler_only ..)) (.step .base (escalateCell_only ..)))))))

/-! ### Machine/Parse -/

theorem take_only (s : State) (f : FaultReport) : Only startBlockParts s (s.take f) := by
  unfold State.take
  extract_lets _
  exact .ite (.step .base (reportCell_only ..)) (.ite (.step .base (reportBlock_only ..)) (.ite (.step .base (reportRegion_only ..)) .base))

/-! ### Machine/Pace -/

theorem setBlockPace_only (s : State) (inst : Nat) (b : BlockPace) :
    Only (fun s t => { s with pace.blocks := t.pace.blocks }) s (s.setBlockPace inst b) := .base

/-! ### Machine/Parse -/

theorem judge_only (m : Nat) (s : State) (inst : Nat) : Only (fun s t => { s with
        par.ro := t.par.ro, ev.transit := t.ev.transit, pace.blocks := t.pace.blocks, pace.capSeq := t.pace.capSeq, pace.capSent := t.pace.capSent,
        reports := t.reports }) s (State.judge m s inst) := by
  unfold State.judge
  extract_lets b _
  clear_value b
  split
  · exact .base
  · extract_lets _ _ v1 _ _ v2 _ _ _ v3 v4
    refine .via v1 (.ite (.step (.step .base (raise_only ..)) (report_only ..)) .base) fun hv1 => ?_
    refine .via v2 (.step (.step hv1 (setRo_only ..)) (setRo_only ..)) fun hv2 => ?_
    refine .via v3 (.ite (.step hv2 (raise_only ..)) hv2) fun hv3 => ?_
    refine .via v4 (.step hv3 (setBlockPace_only ..)) fun hv4 => ?_
    exact .ite (.step hv4 (testCapacity_only ..)) hv4

/-! ### Machine/Tables -/

def repairSlotParts : State → State → State :=
  fun s t => { s with
      par.ro := t.par.ro, ev.transit := t.ev.transit, ev.rate := t.ev.rate, reports := t.reports, fault.parity := t.fault.parity,
      fwd.tables := t.fwd.tables }

theorem repairSlot_only (s : State) (t b i : Nat) : Only repairSlotParts s (s.repairSlot t b i) := by
  unfold State.repairSlot
  extract_lets v v1 v2 _ _ _ v3 v4
  clear_value v
  refine .via v1 ?_ fun hv1 => ?_
  · unfold v1
    split
    · exact .base
    · exact .step .base (setTable_only ..)
  refine .via v2 (.step hv1 (bump_only ..)) fun hv2 => ?_
  clear_value v1 v2
  refine .via v3 hv2.upd fun hv3 => ?_
  refine .via v4 (.ite (.step hv3 (reportRole_only ..)) hv3) fun hv4 => ?_
  exact .step hv4 (raiseSec_only ..)

theorem rebuildBank_only (s : State) (t : Nat) (bank : Option Nat) :
    Only (fun s t => { s with fwd.tables := t.fwd.tables }) s (s.rebuildBank t bank) := by
  unfold State.rebuildBank
  extract_lets _ _
  exact .step .base (setTable_only ..)

theorem lookup_only (s : State) (t k : Nat) (parity : Parity) : OnlyIn Prod.snd repairSlotParts s (s.lookup t k parity) := by
  unfold State.lookup
  extract_lets _ v v1
  clear_value v1
  refine .via v ?_ fun hv => ?_
  · unfold v
    split
    · exact .ite (.step .base (repairSlot_only ..)) .base
    · exact .base
  split
  · exact .snd hv
  · split
    · exact .snd hv
    · exact .snd (.step hv (setTable_only ..))

theorem evicted_only (s : State) (t b : Nat) (e : Ent) : Only (fun s t => { s with
        par.ro := t.par.ro, ev.transit := t.ev.transit, ev.rate := t.ev.rate, fwd.tables := t.fwd.tables }) s (s.evicted t b e) := by
  unfold State.evicted
  extract_lets _ _ _ _ v key1 _ v2 _
  clear_value key1
  refine .via v (.step (.step .base (setTable_only ..)) (bump_only ..)) fun hv => ?_
  refine .via v2 (.step hv (raiseEvery_only ..)) fun hv2 => ?_
  exact .ite (.step hv2 (setTable_only ..)) hv2

theorem insertEntry_only (s : State) (t k : Nat) (isStatic hit : Bool) (val : EntVal) : OnlyIn Prod.fst (fun s t => { s with
        par.ro := t.par.ro, ev.transit := t.ev.transit, ev.rate := t.ev.rate, fwd.tables := t.fwd.tables, free := t.free })
        s (s.insertEntry t k isStatic hit val) := by
  unfold State.insertEntry
  extract_lets v b1 e2 l3 p4
  clear_value v b1 e2 l3
  split
  · exact .fst (.step .base (setTable_only ..))
  · split
    · exact .fst (.step .base (setTable_only ..))
    · split
      · rename_i _ _ v5 h
        refine .via v5 (.snd h ?_) fun hv6 => ?_
        · split
          · exact .base
          · exact .step .base (draw_only ..)
        split
        · extract_lets v7
          refine .via v7 (.step hv6 (bump_only ..)) fun hv7 => ?_
          exact .fst (.step hv7 (raiseSec_only ..))
        · extract_lets v8
          refine .via v8 (.step hv6 (evicted_only ..)) fun hv8 => ?_
          exact .fst (.step hv8 (setTable_only ..))

theorem deleteAt_only (s : State) (t : Nat) (p : Place) : Only (fun s t => { s with fwd.tables := t.fwd.tables }) s (s.deleteAt t p) := by
  unfold State.deleteAt
  extract_lets _
  exact .step .base (setTable_only ..)

theorem writeAt_only (s : State) (t : Nat) (p : Place) (e : Ent) : Only (fun s t => { s with fwd.tables := t.fwd.tables }) s (s.writeAt t p e) := by
  unfold State.writeAt
  extract_lets _
  exact .step .base (setTable_only ..)

/-! ### Machine/Meters -/

theorem police_only (s : State) (n len : Nat) : OnlyIn Prod.snd (fun s t => { s with fwd.policers := t.fwd.policers }) s (s.police n len) := by
  unfold State.police
  extract_lets _ _ _ _ _
  exact .snd .base

theorem mark_only (s : State) (n : Nat) (f : Frame) (p : Parsed) :
    OnlyIn (fun r => r.2.2) (fun s t => { s with fwd.markers := t.fwd.markers }) s (s.mark n f p) := by
  unfold State.mark
  extract_lets _ _ _ _ _ _ _
  exact .snd2 .base

theorem meter_only (s : State) (m : Meter) (f : Frame) (p : Parsed) :
    OnlyIn Prod.snd (fun s t => { s with fwd.policers := t.fwd.policers, fwd.markers := t.fwd.markers }) s (s.meter m f p) := by
  unfold State.meter
  split
  · exact .snd .base
  · extract_lets p
    exact .snd (.step .base (police_only ..))
  · extract_lets p1
    exact .snd (.step .base (mark_only ..))

theorem execPolicerSet_only (mb : Fin 16) (policer cir cbs : Nat) (s : State) :
    OnlyNext (fun s t => { answered s t with fwd.policers := t.fwd.policers }) s (execPolicerSet mb policer cir cbs s) := by
  unfold execPolicerSet
  refine hostCmd_only fun c u => ?_
  refine .ite (.fail .base) ?_
  extract_lets _ _ _ v
  refine .via v .base fun hv => ?_
  exact .okay hv

theorem execMarkerSet_only (mb : Fin 16) (marker mode : Nat) (aware : Bool) (redAction : Nat) (markDei : Bool) (cir cbs pir pbs : Nat) (s : State) :
    OnlyNext (fun s t => { answered s t with
        fwd.markers := t.fwd.markers }) s (execMarkerSet mb marker mode aware redAction markDei cir cbs pir pbs s) := by
  unfold execMarkerSet
  refine hostCmd_only fun c u => ?_
  refine .ite (.fail .base) ?_
  extract_lets _ _ _ _ v
  refine .via v .base fun hv => ?_
  exact .okay hv

theorem execMeterRead_only (mb : Fin 16) (marker : Bool) (index : Nat) (s : State) : OnlyNext answered s (execMeterRead mb marker index s) := by
  unfold execMeterRead
  refine hostCmd_only fun c u => ?_
  exact .ite (.fail .base) (.okay .base)

/-! ### Machine/Uplinks -/

theorem stat_only (s : State) (m k n : Nat) : Only (fun s t => { s with fwd.macs := t.fwd.macs }) s (s.stat m k n) := by
  unfold State.stat
  exact .step .base (setMac_only ..)

theorem sendPause_only (s : State) (m : Nat) : Only (fun s t => { s with fwd.macs := t.fwd.macs, outbox := t.outbox }) s (s.sendPause m) := by
  unfold State.sendPause
  extract_lets _ _ _ v _ _ _ v1 v2
  refine .via v (.step .base (setMac_only ..)) fun hv => ?_
  refine .via v1 (.step hv (setMac_only ..)) fun hv1 => ?_
  refine .via v2 (.foldl hv1 fun _ _ => .step .base (stat_only ..)) fun hv2 => ?_
  exact .ite hv (.step hv2 (emit_only ..))

theorem pauseWork_only (s : State) (m : Nat) (all : Bool) :
    Only (fun s t => { s with fwd.macs := t.fwd.macs, outbox := t.outbox }) s (s.pauseWork m all) := by
  unfold State.pauseWork
  extract_lets _ v
  refine .via v (.step .base (setMac_only ..)) fun hv => ?_
  exact .ite .base (.ite (.step hv (sendPause_only ..)) hv)

theorem setSa_only (s : State) (n : Nat) (v : Option Sa) : Only (fun s t => { s with fwd.sas := t.fwd.sas }) s (s.setSa n v) := .base

theorem countSpec_only (s : State) (m : Nat) (hit : Bool) : Only (fun s t => { s with par.ro := t.par.ro }) s (s.countSpec m hit) := by
  unfold State.countSpec
  exact .ite (.step .base (bumpF_only ..)) (.step .base (bumpF_only ..))

theorem takePn_only (s : State) (m n : Nat) (v : Sa) :
    OnlyIn Prod.snd (fun s t => { s with par.ro := t.par.ro, ev.transit := t.ev.transit, fwd.sas := t.fwd.sas }) s (s.takePn m n v) := by
  unfold State.takePn
  refine .ite (.snd (.step .base (bump_only ..))) (.ite (.snd (.step .base (setSa_only ..))) ?_)
  extract_lets _ _ _ _ v v1
  refine .via v (.step .base (setSa_only ..)) fun hv => ?_
  refine .via v1 (.ite (.step hv (raise_only ..)) hv) fun hv1 => ?_
  exact .snd (.ite (.step hv1 (raise_only ..)) hv1)

theorem protect_only (s : State) (m : Nat) :
    OnlyIn Prod.snd (fun s t => { s with par.ro := t.par.ro, ev.transit := t.ev.transit, fwd.sas := t.fwd.sas }) s (s.protect m) := by
  unfold State.protect
  refine .ite (.snd .base) ?_
  split
  · exact .snd (.step .base (bump_only ..))
  · split
    · refine .ite ?_ (.snd (.step .base (bump_only ..)))
      extract_lets p
      exact .snd (.step .base (takePn_only ..))
    · exact .snd (.step .base (bump_only ..))

/-! ### Machine/Pace -/

theorem execPaceSample_only (inst : Fin 3328) (count : Nat) (stalled late : Bool) (s : State) :
    OnlyNext (fun s t => { s with pace.blocks := t.pace.blocks, pace.late := t.pace.late }) s (execPaceSample inst count stalled late s) := by
  unfold execPaceSample
  exact .next (.ite .base (.step .base (setBlockPace_only ..)))

theorem sendTarget_only (s : State) (mv : Nat) : Only (fun s t => { s with
        par.ro := t.par.ro, pace.target := t.pace.target, pace.settle := t.pace.settle, pace.attempts := t.pace.attempts, outbox := t.outbox })
        s (s.sendTarget mv) := by
  unfold State.sendTarget
  refine .ite .base ?_
  extract_lets _ _ v
  refine .via v .base fun hv => ?_
  exact .step (.step hv (setRo_only ..)) (emit_only ..)

theorem countWindows_only (s : State) (p : Nat) : Only (fun s t => { s with
        pace.aboveRun := t.pace.aboveRun, pace.inBandRun := t.pace.inBandRun, pace.sinceUp := t.pace.sinceUp }) s (s.countWindows p) := by
  unfold State.countWindows
  extract_lets _ _ _
  exact .base

theorem testLock_only (s : State) : Only (fun s t => { s with ev.transit := t.ev.transit, pace.locked := t.pace.locked }) s (s.testLock) := by
  unfold State.testLock
  exact .ite (.step .base (raise_only ..)) .base

theorem evalLoop_only (s : State) (i p : Nat) (loads : List Nat) : Only (fun s t => { s with
        par.ro := t.par.ro, ev.transit := t.ev.transit, pace.target := t.pace.target, pace.sinceUp := t.pace.sinceUp, pace.settle := t.pace.settle,
        pace.attempts := t.pace.attempts, outbox := t.outbox }) s (s.evalLoop i p loads) := by
  unfold State.evalLoop
  extract_lets v _ _ v1 _ _
  refine .via v (.ite (.step .base (raise_only ..)) .base) fun hv => ?_
  clear_value v
  refine .via v1 hv.upd fun hv1 => ?_
  refine .ite (.step hv (sendTarget_only ..)) ?_
  split
  · clear_value v1
    exact .ite (.step hv.upd (sendTarget_only ..)) (.step hv (sendTarget_only ..))
  · exact hv
  · clear_value v1
    exact hv.upd
  · clear_value v1
    exact .ite (.step hv1.upd (sendTarget_only ..)) (.step hv1 (sendTarget_only ..))

theorem testLimit_only (s : State) (p : Nat) : Only (fun s t => { s with ev.transit := t.ev.transit, ev.rate := t.ev.rate }) s (s.testLimit p) := by
  unfold State.testLimit
  exact .ite (.step .base (raiseEvery_only ..)) .base

theorem runRegulator_only (s : State) : Only (fun s t => { answered s t with pace.regulator := t.pace.regulator }) s (s.runRegulator) := by
  unfold State.runRegulator
  exact .foldl .base fun _ _ => .step (.step .base (emit_only ..)) (respondAll_only ..)

theorem setLoad_only (s : State) (r v : Nat) : Only (fun s t => { s with par.ro := t.par.ro, pace.loads := t.pace.loads }) s (s.setLoad r v) := by
  unfold State.setLoad
  exact .step .base (setRo_only ..)

theorem enforceLoop_only (s : State) : Only (fun s t => { s with par.inForce := t.par.inForce }) s (s.enforceLoop) := by
  unfold State.enforceLoop
  exact .foldl .base fun _ _ => .step .base (enforce_only ..)

theorem execPaceWindowClose_only (loads : List Nat) (s : State) : OnlyNext (fun s t => { answered s t with
        par.inForce := t.par.inForce, par.ro := t.par.ro, ev.transit := t.ev.transit, ev.rate := t.ev.rate, ev.telStaged := t.ev.telStaged,
        pace.blocks := t.pace.blocks, pace.loads := t.pace.loads, pace.target := t.pace.target, pace.control := t.pace.control,
        pace.aboveRun := t.pace.aboveRun, pace.inBandRun := t.pace.inBandRun, pace.sinceUp := t.pace.sinceUp, pace.locked := t.pace.locked,
        pace.settle := t.pace.settle, pace.attempts := t.pace.attempts, pace.regulator := t.pace.regulator, pace.capSeq := t.pace.capSeq,
        pace.capSent := t.pace.capSent, reports := t.reports }) s (execPaceWindowClose loads s) := by
  unfold execPaceWindowClose
  refine .next ?_
  extract_lets _ _ _ v cp1 v2 v3 v4 _
  clear_value cp1
  refine .via v (.foldl .base fun _ _ => .step .base (judge_only ..)) fun hv => ?_
  refine .via v2 ?_ fun hv2 => ?_
  · unfold v2
    split
    · exact hv
    · extract_lets v5 _ v6 v7
      refine .via v5 (.step (.step (.step hv (setRo_only ..)) (countWindows_only ..)) (testLock_only ..)) fun hv5 => ?_
      clear_value v v5
      refine .via v6 hv5.upd fun hv6 => ?_
      refine .via v7 (.ite hv6 (.step hv6 (evalLoop_only ..))) fun hv7 => ?_
      exact .step hv7 (testLimit_only ..)
  refine .via v3 (.foldl hv2 fun _ _ => .step .base (setLoad_only ..)) fun hv3 => ?_
  refine .via v4 (.step (.step hv3 (runRegulator_only ..)) (enforceLoop_only ..)) fun hv4 => ?_
  split
  · exact hv4
  · exact .step hv4 (produce_only ..)

theorem execAvsSettleExpiry_only (s : State) : OnlyNext (fun s t => { s with pace.settle := t.pace.settle }) s (execAvsSettleExpiry s) := by
  unfold execAvsSettleExpiry
  exact .next (.ite .base .base)

theorem busFault_only (s : State) : Only (fun s t => { s with ev.transit := t.ev.transit }) s (s.busFault) := by
  unfold State.busFault
  exact .step .base (raise_only ..)

theorem execAvsbusTransactionDone_only (ok pmbusOk : Bool) (s : State) : OnlyNext (fun s t => { s with
        ev.transit := t.ev.transit, pace.attempts := t.pace.attempts, pace.avsFailed := t.pace.avsFailed, pace.pmFailed := t.pace.pmFailed,
        outbox := t.outbox }) s (execAvsbusTransactionDone ok pmbusOk s) := by
  unfold execAvsbusTransactionDone
  refine .next (.ite .base (.ite .base (.ite (.step .base (emit_only ..)) ?_)))
  extract_lets _ v
  refine .via v .base fun hv => ?_
  exact .step (.step hv (emit_only ..)) (busFault_only ..)

theorem execAvsbusRetry_only (ok : Bool) (s : State) : OnlyNext (fun s t => { s with
        pace.attempts := t.pace.attempts, pace.avsFailed := t.pace.avsFailed, outbox := t.outbox }) s (execAvsbusRetry ok s) := by
  unfold execAvsbusRetry
  refine .next (.ite .base ?_)
  extract_lets v _
  refine .via v (.step .base (emit_only ..)) fun hv => ?_
  clear_value v
  exact .ite hv.upd hv

theorem execPmbusStatusPoll_only (answer : Option RegStatus) (s : State) : OnlyNext (fun s t => { s with
        par.ro := t.par.ro, ev.transit := t.ev.transit, pace.pmFailed := t.pace.pmFailed, pace.current := t.pace.current,
        pace.temperature := t.pace.temperature, pace.status := t.pace.status, outbox := t.outbox }) s (execPmbusStatusPoll answer s) := by
  unfold execPmbusStatusPoll
  refine .next ?_
  split
  · exact .ite .base (.step .base (busFault_only ..))
  · extract_lets v _ _ v1
    refine .via v (.step (.step .base (setRo_only ..)) (setRo_only ..)) fun hv => ?_
    clear_value v
    refine .via v1 hv.upd fun hv1 => ?_
    exact .ite (.step hv1 (emit_only ..)) hv1

theorem execRegulatorPassthrough_only (mb : Fin 16) (cmd data : Nat) (answer : List Nat) (s : State) : OnlyNext (fun s t => { answered s t with
        pace.regulator := t.pace.regulator, pace.nextTxn := t.pace.nextTxn }) s (execRegulatorPassthrough mb cmd data answer s) := by
  unfold execRegulatorPassthrough
  refine hostCmd_only fun c u => ?_
  refine .ite (.fail .base) (.ite (.fail .base) (.ite (.okay (.step .base (emit_only ..))) ?_))
  extract_lets _ _
  exact .fst .base

theorem bridgeFault_only (s : State) (type inst : Nat) : Only (fun s t => { s with reports := t.reports }) s (s.bridgeFault type inst) := by
  unfold State.bridgeFault
  split <;> exact .ite (.step .base (reportRole_only ..)) .base

theorem execBridgeOverrun_only (type : Fin 3) (inst : Fin 128) (s : State) : OnlyNext (fun s t => { s with
        ev.transit := t.ev.transit, pace.overruns := t.pace.overruns, pace.spoiled := t.pace.spoiled, reports := t.reports })
        s (execBridgeOverrun type inst s) := by
  unfold execBridgeOverrun
  refine .next ?_
  extract_lets _ _ _ v _
  refine .via v .base fun hv => ?_
  exact .step (.step hv (raise_only ..)) (bridgeFault_only ..)

theorem underrun_only (s : State) (type inst : Nat) : Only (fun s t => { s with outbox := t.outbox }) s (s.underrun type inst) := by
  unfold State.underrun
  split
  · exact .step .base (emit_only ..)
  · refine .foldl .base fun u x => ?_
    split
    · exact .base
    · exact .step .base (emit_only ..)
  · exact .step .base (emit_only ..)

theorem execBridgeUnderrun_only (type : Fin 3) (inst : Fin 128) (s : State) : OnlyNext (fun s t => { s with
        ev.transit := t.ev.transit, pace.underruns := t.pace.underruns, reports := t.reports, outbox := t.outbox })
        s (execBridgeUnderrun type inst s) := by
  unfold execBridgeUnderrun
  refine .next ?_
  extract_lets _ _ _ v _
  refine .via v (.step .base (underrun_only ..)) fun hv => ?_
  exact .step (.step hv (raise_only ..)) (bridgeFault_only ..)

theorem takeSpoiled_only (s : State) (type inst : Nat) :
    OnlyIn Prod.snd (fun s t => { s with pace.spoiled := t.pace.spoiled }) s (s.takeSpoiled type inst) := by
  unfold State.takeSpoiled
  exact .snd .base

theorem execCapacityReport_only (consumer : Consumer) (region : Fin 13) (seq : BitVec 16) (s : State) :
    OnlyNext (fun s t => { s with pace.held := t.pace.held }) s (execCapacityReport consumer region seq s) := by
  unfold execCapacityReport
  refine .next ?_
  extract_lets _ _ _
  split
  · exact .base
  · exact .ite .base .base

/-! ### Machine/Upstream -/

theorem opticBurst_only (s : State) (tree : Nat) (found : Bool) :
    Only (fun s t => { s with lanes.optics := t.lanes.optics }) s (s.opticBurst tree found) := by
  unfold State.opticBurst
  extract_lets _
  exact .step .base (setOptic_only ..)

def endCommissionParts : State → State → State :=
  fun s t => { answered s t with
      par.vals := t.par.vals, ev.transit := t.ev.transit, prot.streams := t.prot.streams, prot.txCounters := t.prot.txCounters,
      prot.commission := t.prot.commission }

theorem endCommission_only (s : State) (tree : Nat) (k : Commission) : Only endCommissionParts s (s.endCommission tree k) := by
  unfold State.endCommission
  extract_lets _ v _ v1 f2 v3 v4
  refine .via v .base fun hv => ?_
  refine .via v1 (.step hv (setPar_only ..)) fun hv1 => ?_
  refine .via v3 (.step (.step hv1 (mirror_only ..)) (mirror_only ..)) fun hv3 => ?_
  refine .via v4 (.ite (.step hv3 (blocked_only ..)) hv3) fun hv4 => ?_
  exact .ite (.step hv (respondAll_only ..)) (.step hv4 (respondAll_only ..))

theorem commissionBurst_only (s : State) (t : Nat) (feeder : Option Int) : Only endCommissionParts s (s.commissionBurst t feeder) := by
  unfold State.commissionBurst
  extract_lets tree _
  clear_value tree
  split
  · refine .ite ?_ .base
    extract_lets _
    exact .ite (.step .base (endCommission_only ..)) .base
  · exact .base

theorem beginRx_only (s : State) (t : Nat) (k : Candidate) (phase : Int) :
    Only (fun s t => { s with pon.line := t.pon.line, cipher.regions := t.cipher.regions }) s (s.beginRx t k phase) := by
  unfold State.beginRx
  extract_lets _ _ _ v
  refine .via v (.foldl .base fun _ _ => .step .base (discardJob_only ..)) fun hv => ?_
  exact .step hv (setLine_only ..)

theorem execUpstreamBurst_only (term : Fin 8192) (burst : UsBurst) (s : State) : OnlyNext (fun s t => { answered s t with
        par.vals := t.par.vals, par.ro := t.par.ro, ev.transit := t.ev.transit, ev.rate := t.ev.rate, lanes.optics := t.lanes.optics,
        terms := t.terms, chans := t.chans, pon.line := t.pon.line, cipher.regions := t.cipher.regions, prot.streams := t.prot.streams,
        prot.txCounters := t.prot.txCounters, prot.commission := t.prot.commission }) s (execUpstreamBurst term burst s) := by
  unfold execUpstreamBurst
  refine .next ?_
  extract_lets _ _ _ o v1 _
  clear_value o
  refine .via v1 (.step (.step .base (huntCounts_only ..)) (opticBurst_only ..)) fun hv1 => ?_
  split
  · exact .base
  · refine .ite (.step hv1 (setChan_only ..)) ?_
    extract_lets v2 v3 _ v4 v5
    refine .via v2 (.step hv1 (beginRx_only ..)) fun hv2 => ?_
    refine .via v3 (.step hv2 (bump_only ..)) fun hv3 => ?_
    refine .via v4 (.ite (.step hv3 (setTerm_only ..)) hv3) fun hv4 => ?_
    refine .via v5 (.ite hv4 (.step hv4 (burstSeen_only ..))) fun hv5 => ?_
    exact .step hv5 (commissionBurst_only ..)

theorem dropKeystream_only (s : State) (t frame : Nat) :
    Only (fun s t => { s with pon.line := t.pon.line, cipher.regions := t.cipher.regions }) s (s.dropKeystream t frame) := by
  unfold State.dropKeystream
  extract_lets _ _ v
  refine .via v (.foldl .base fun _ _ => .step .base (discardJob_only ..)) fun hv => ?_
  exact .step hv (setLine_only ..)

theorem execDelimiterMiss_only (term : Fin 8192) (cands : List Candidate) (s : State) : OnlyNext (fun s t => { answered s t with
        par.ro := t.par.ro, ev.transit := t.ev.transit, ev.rate := t.ev.rate, lanes.optics := t.lanes.optics, lanes.bmem := t.lanes.bmem,
        terms := t.terms, chans := t.chans, pon.line := t.pon.line, pon.reasm := t.pon.reasm, dba.allocs := t.dba.allocs,
        cipher.regions := t.cipher.regions, prot.streams := t.prot.streams, prot.txCounters := t.prot.txCounters })
        s (execDelimiterMiss term cands s) := by
  unfold execDelimiterMiss
  refine .next ?_
  extract_lets _ _ _ _ _ v _ v1
  refine .via v (.step (.step (.step .base (huntCounts_only ..)) (bumpF_only ..)) (opticBurst_only ..)) fun hv => ?_
  refine .via v1 (.step (.step hv (setLine_only ..)) (dropKeystream_only ..)) fun hv1 => ?_
  exact .ite .base (.ite hv1 (.step (.step hv1 (missCounters_only ..)) (missBurst_only ..)))

theorem execFecCodeword_only (term : Fin 8192) (info : Nat) (errs : List Byte) (iterations : Nat) (s : State) : OnlyNext (fun s t => { s with
        par.ro := t.par.ro, pace.spoiled := t.pace.spoiled, pon.line := t.pon.line }) s (execFecCodeword term info errs iterations s) := by
  unfold execFecCodeword
  refine .next ?_
  extract_lets t _ c1 _ _
  clear_value t c1
  split
  · exact .base
  · refine .ite .base ?_
    split
    · rename_i _ _ v2 h
      refine .via v2 (.snd h (.step .base (takeSpoiled_only ..))) fun hv3 => ?_
      extract_lets _ _ v4 _ _ _
      refine .via v4 (.ite (.step hv3 (bump_only ..)) (.step hv3 (bump_only ..))) fun hv4 => ?_
      exact .step hv4 (setLine_only ..)

theorem execBerWindowClose_only (term : Fin 8192) (fail : Bool) (s : State) :
    OnlyNext (fun s t => { s with par.ro := t.par.ro, ev.transit := t.ev.transit, pon.line := t.pon.line }) s (execBerWindowClose term fail s) := by
  unfold execBerWindowClose
  refine .next ?_
  extract_lets _ _ _ w _ _ _ _ _ _
  clear_value w
  split
  · exact .base
  · refine .ite .base ?_
    extract_lets _ _ v1 v2 v3
    refine .via v1 (.step .base (setLine_only ..)) fun hv1 => ?_
    refine .via v2 (.step hv1 (setRo_only ..)) fun hv2 => ?_
    refine .via v3 (.step hv2 (setRo_only ..)) fun hv3 => ?_
    exact .ite hv3 (.ite (.step hv3 (raise_only ..)) (.step hv3 (raiseAs_only ..)))

theorem execPloamuMessage_only (term : Fin 8192) (message : List Nat) (mic : Nat) (answer : Option Nat) (s : State) : OnlyNext (fun s t => { s with
        ev.transit := t.ev.transit, ev.rate := t.ev.rate, terms := t.terms, chans := t.chans, pon.line := t.pon.line, cipher.slots := t.cipher.slots,
        cipher.pairs := t.cipher.pairs, cipher.generators := t.cipher.generators, prot.streams := t.prot.streams,
        prot.txCounters := t.prot.txCounters, prot.wrap15 := t.prot.wrap15, outbox := t.outbox })
        s (execPloamuMessage term message mic answer s) true := by
  unfold execPloamuMessage
  refine .next ?_
  extract_lets t _ _ _ _ v1
  clear_value t
  refine .via v1 (.step (.step .base (setTerm_only ..)) (setChan_only ..)) fun hv1 => ?_
  split
  · exact .base
  · refine .ite .base (.ite (.step .base (setLine_only ..)) (.ite (.step (.step .base (setLine_only ..)) (raiseSec_only ..)) ?_))
    split
    · exact hv1
    · exact .step hv1 (keyAnswer_only ..)

theorem execBurstReport_only (term : Fin 8192) (alloc : Fin 32768) (at_ : Nat) (crc : Bool) (occupancy : Nat) (s : State) :
    OnlyNext (fun s t => { s with par.ro := t.par.ro, dba.transit := t.dba.transit }) s (execBurstReport term alloc at_ crc occupancy s) := by
  unfold execBurstReport
  refine .next ?_
  extract_lets _ _ _
  split
  · exact .base
  · exact .ite (.step .base (bumpF_only ..)) (.ite (.step .base (bumpF_only ..)) .base)

theorem setReasm_only (s : State) (g : Nat) (v : Option Reasm) : Only (fun s t => { s with pon.reasm := t.pon.reasm }) s (s.setReasm g v) := .base

theorem dropFragment_only (s : State) (g : Nat) (last : Bool) :
    Only (fun s t => { s with par.ro := t.par.ro, pon.reasm := t.pon.reasm }) s (s.dropFragment g last) := by
  unfold State.dropFragment
  extract_lets v
  refine .via v (.step .base (dropReasm_only ..)) fun hv => ?_
  exact .ite (.step hv (setReasm_only ..)) hv

theorem release_only (s : State) (g : Nat) (f : Frame) :
    Only (fun s t => { s with host.staged := t.host.staged, host.omciBad := t.host.omciBad, pon.released := t.pon.released }) s (s.release g f) := by
  unfold State.release
  extract_lets _ _ _ v _
  refine .via v (.ite .base .base) fun hv => ?_
  exact .ite (.step hv (stage_only ..)) .base

theorem fragment_only (s : State) (g : Nat) (x : UsGem) (bytes : List Byte) : Only (fun s t => { s with
        par.ro := t.par.ro, host.staged := t.host.staged, host.omciBad := t.host.omciBad, ev.transit := t.ev.transit, ev.rate := t.ev.rate,
        pon.reasm := t.pon.reasm, pon.released := t.pon.released }) s (s.fragment g x bytes) := by
  unfold State.fragment
  extract_lets _ _ _ _ _
  split
  · exact .ite (.ite (.step .base (setReasm_only ..)) .base) (.ite (.step .base (dropFragment_only ..)) (.ite (.step (.step .base (setReasm_only ..))
    (release_only ..)) (.step .base (setReasm_only ..))))
  · exact .ite (.step .base (release_only ..)) (.ite (.step (.step (.step .base (setReasm_only ..)) (bumpF_only ..)) (raiseSec_only ..)) (.ite (.step
    (.step .base (setReasm_only ..)) (bumpF_only ..)) (.step .base (setReasm_only ..))))

theorem keystreamOf_only (s : State) (t c : Nat) (x : BurstRx) (key len : Nat) : OnlyIn (fun r => r.2.2) (fun s t => { s with
        cipher.generators := t.cipher.generators, cipher.regions := t.cipher.regions }) s (s.keystreamOf t c x key len) := by
  unfold State.keystreamOf
  extract_lets r v1 cur2
  clear_value r cur2
  refine .via v1 (.step .base (settlePairs_only ..)) fun hv1 => ?_
  split
  · exact .ite (.snd2 hv1) (.ite (.snd2 hv1) (.snd2 hv1))
  · split
    · rename_i _ _ v3 h
      refine .via v3 (.snd h (.step .base (receiveWork_only ..))) fun hv4 => ?_
      exact .snd2 hv4

theorem acceptGem_only (s : State) (c g : Nat) (x : BurstRx) (gem : UsGem) : Only (fun s t => { s with
        par.ro := t.par.ro, host.staged := t.host.staged, host.omciBad := t.host.omciBad, ev.transit := t.ev.transit, ev.rate := t.ev.rate,
        pon.reasm := t.pon.reasm, pon.released := t.pon.released, cipher.generators := t.cipher.generators, cipher.regions := t.cipher.regions })
        s (s.acceptGem c g x gem) := by
  unfold State.acceptGem
  extract_lets _ bytes
  clear_value bytes
  refine .ite (.step .base (fragment_only ..)) ?_
  split
  · rename_i _ _ _ v1 h
    refine .via v1 (.snd2 h (.step .base (keystreamOf_only ..))) fun hv2 => ?_
    exact .step hv2 (fragment_only ..)
  · rename_i _ v3 h
    refine .via v3 (.snd2 h (.step .base (keystreamOf_only ..))) fun hv4 => ?_
    exact .step hv4 (dropFragment_only ..)
  · rename_i _ v5 h
    refine .via v5 (.snd2 h (.step .base (keystreamOf_only ..))) fun hv6 => ?_
    exact .step (.step hv6 (cipherLate_only ..)) (dropFragment_only ..)

theorem execXgemFrame_only (term : Fin 8192) (gem : UsGem) (s : State) : OnlyNext (fun s t => { s with
        par.ro := t.par.ro, host.staged := t.host.staged, host.omciBad := t.host.omciBad, ev.transit := t.ev.transit, ev.rate := t.ev.rate,
        pon.line := t.pon.line, pon.reasm := t.pon.reasm, pon.released := t.pon.released, cipher.generators := t.cipher.generators,
        cipher.regions := t.cipher.regions }) s (execXgemFrame term gem s) := by
  unfold execXgemFrame
  refine .next ?_
  extract_lets t c1 _ f2 v3
  clear_value t c1
  refine .via v3 (.step .base (bumpF_only ..)) fun hv3 => ?_
  split
  · exact .base
  · refine .ite .base (.ite (.step (.step .base (setLine_only ..)) (bumpF_only ..)) (.ite .base ?_))
    extract_lets _
    split
    · exact .ite (.step .base (bumpF_only ..)) (.step (.step .base (bumpF_only ..)) (raiseSec_only ..))
    · extract_lets _
      exact .ite (.ite (.step hv3 (dropFragment_only ..)) hv3) (.ite (.step (.step .base (bumpF_only ..)) (raiseSec_only ..)) (.ite (.step (.step
        .base (bumpF_only ..)) (dropFragment_only ..)) (.step .base (acceptGem_only ..))))

theorem execReasmTimeoutExpiry_only (s : State) :
    OnlyNext (fun s t => { s with par.ro := t.par.ro, pon.reasm := t.pon.reasm }) s (execReasmTimeoutExpiry s) := by
  unfold execReasmTimeoutExpiry
  exact .next (.foldl .base fun _ _ => .step .base (dropReasm_only ..))

/-! ### Machine/Classify -/

theorem askBuffer_only (s : State) (j : Job) (p : Parsed) : Only (fun s t => { s with fwd.wants := t.fwd.wants }) s (s.askBuffer j p) := by
  unfold State.askBuffer
  extract_lets _ _ _ _
  exact .base

theorem punt_only (s : State) (reason port gem : Nat) (f : Frame) :
    Only (fun s t => { s with host.staged := t.host.staged, fwd.ops := t.fwd.ops }) s (s.punt reason port gem f) := by
  unfold State.punt
  exact .step (.step .base (stage_only ..)) (freeFrame_only ..)

theorem dropPkt_only (s : State) (f : Frame) : Only (fun s t => { s with fwd.ops := t.fwd.ops }) s (s.dropPkt f) := by
  unfold State.dropPkt
  exact .step .base (freeFrame_only ..)

theorem hitRule_only (s : State) (region bank i : Nat) : Only (fun s t => { s with fwd.rules := t.fwd.rules }) s (s.hitRule region bank i) := by
  unfold State.hitRule
  extract_lets _ _
  exact .step .base (setRules_only ..)

theorem forward_only (s : State) (k : Pkt) (p : Parsed) (dest : Dest) (level : Option Nat) (m : Meter) : Only (fun s t => { s with
        fwd.wants := t.fwd.wants, fwd.ops := t.fwd.ops, fwd.jobs := t.fwd.jobs, fwd.policers := t.fwd.policers, fwd.markers := t.fwd.markers })
        s (s.forward k p dest level m) := by
  unfold State.forward
  split
  · rename_i _ _ v h
    refine .via v (.snd h (.step .base (meter_only ..))) fun hv1 => ?_
    split
    · exact .step hv1 (dropPkt_only ..)
    · extract_lets _ _
      exact .ite hv1.upd (.step hv1 (askBuffer_only ..))

theorem downMiss_only (s : State) (k : Pkt) : Only (fun s t => { s with host.staged := t.host.staged, fwd.ops := t.fwd.ops }) s (s.downMiss k) := by
  unfold State.downMiss
  exact .ite (.step .base (punt_only ..)) (.step .base (dropPkt_only ..))

theorem bridgeMiss_only (s : State) (mac : Nat) (f : Frame) :
    Only (fun s t => { s with host.staged := t.host.staged, fwd.ops := t.fwd.ops }) s (s.bridgeMiss mac f) := by
  unfold State.bridgeMiss
  exact .ite (.step .base (punt_only ..)) (.step .base (dropPkt_only ..))

theorem downLookup_only (s : State) (k : Pkt) (p : Parsed) (profile : Nat) (level : Option Nat) (own : Meter) (parity : Parity) :
    Only (fun s t => { s with
        par.ro := t.par.ro, host.staged := t.host.staged, ev.transit := t.ev.transit, ev.rate := t.ev.rate, reports := t.reports,
        fault.parity := t.fault.parity, fwd.tables := t.fwd.tables, fwd.wants := t.fwd.wants, fwd.ops := t.fwd.ops, fwd.jobs := t.fwd.jobs,
        fwd.policers := t.fwd.policers, fwd.markers := t.fwd.markers }) s (s.downLookup k p profile level own parity) := by
  unfold State.downLookup
  extract_lets key
  clear_value key
  split
  · rename_i _ _ v1 h
    refine .via v1 (.snd h (.step .base (lookup_only ..))) fun hv2 => ?_
    split
    · exact .step hv2 (downMiss_only ..)
    · split
      · exact .step hv2 (downMiss_only ..)
      · extract_lets _
        split
        · exact .step hv2 (forward_only ..)
        · exact .step hv2 (dropPkt_only ..)
        · exact .step hv2 (punt_only ..)
        · exact .step hv2 (downMiss_only ..)
        · split
          · rename_i _ _ v3 h
            refine .via v3 (.snd h (.step hv2 (lookup_only ..))) fun hv4 => ?_
            split
            · split
              · exact .step hv4 (forward_only ..)
              · exact .step hv4 (bridgeMiss_only ..)
            · exact .step hv4 (bridgeMiss_only ..)
        · exact .step (.step hv2 (bump_only ..)) (dropPkt_only ..)

def classifyParts : State → State → State :=
  fun s t => { s with
      par.ro := t.par.ro, host.staged := t.host.staged, ev.transit := t.ev.transit, ev.rate := t.ev.rate, reports := t.reports,
      fault.parity := t.fault.parity, fwd.rules := t.fwd.rules, fwd.tables := t.fwd.tables, fwd.wants := t.fwd.wants, fwd.ops := t.fwd.ops,
      fwd.jobs := t.fwd.jobs, fwd.policers := t.fwd.policers, fwd.markers := t.fwd.markers }

theorem classify_only (s : State) (k : Pkt) (p : Parsed) (parity : Parity) : Only classifyParts s (s.classify k p parity) := by
  unfold State.classify
  extract_lets _ bank f1 v2
  clear_value bank
  refine .via v2 (.step .base (landed_only ..)) fun hv2 => ?_
  split
  · split
    · exact .step hv2 (downLookup_only ..)
    · exact .step hv2 (dropPkt_only ..)
    · exact .step hv2 (punt_only ..)
  · extract_lets v3 _
    refine .via v3 (.step .base (hitRule_only ..)) fun hv3 => ?_
    split
    · exact .step (.step hv3 (landed_only ..)) (downLookup_only ..)
    · exact .step (.step hv3 (landed_only ..)) (forward_only ..)
    · exact .step (.step hv3 (landed_only ..)) (dropPkt_only ..)
    · exact .step (.step hv3 (landed_only ..)) (punt_only ..)
    · clear_value v2 v3
      refine .ite (.step (.step (.step hv3 (landed_only ..)) (punt_only ..)) (raise_only ..)) (.ite (.ite (.step (.step hv3 (landed_only ..))
        (punt_only ..)) ?_) hv3.upd)
      split
      · exact .step (.step hv3 (landed_only ..)) (punt_only ..)
      · exact hv3.upd

theorem countParse_only (s : State) (port : Nat) (p : Parsed) : Only (fun s t => { s with par.ro := t.par.ro }) s (s.countParse port p) := by
  unfold State.countParse
  exact .ite (.step .base (bumpF_only ..)) (.ite (.step .base (bump_only ..)) .base)

theorem pass_only (s : State) (k : Pkt) (parity : Parity) : Only classifyParts s (s.pass k parity) := by
  unfold State.pass
  extract_lets p v1
  clear_value p
  refine .via v1 (.step .base (countParse_only ..)) fun hv1 => ?_
  split
  · exact .step hv1 (classify_only ..)
  · exact .step (.step hv1 (landed_only ..)) (dropPkt_only ..)
  · exact .step (.step hv1 (landed_only ..)) (punt_only ..)

theorem execParsePass_only (region : Fin 2) (parity : Parity) (s : State) : OnlyNext (fun s t => { s with
        par.ro := t.par.ro, host.staged := t.host.staged, ev.transit := t.ev.transit, ev.rate := t.ev.rate, reports := t.reports,
        fault.parity := t.fault.parity, fwd.rules := t.fwd.rules, fwd.toParse := t.fwd.toParse, fwd.tables := t.fwd.tables, fwd.wants := t.fwd.wants,
        fwd.ops := t.fwd.ops, fwd.jobs := t.fwd.jobs, fwd.policers := t.fwd.policers, fwd.markers := t.fwd.markers })
        s (execParsePass region parity s) := by
  unfold execParsePass
  refine .next ?_
  split
  · exact .base
  · extract_lets _ v _
    refine .via v .base fun hv => ?_
    exact .step (.step hv (flight_only ..)) (pass_only ..)

theorem execRecircPass_only (region : Fin 2) (parity : Parity) (s : State) : OnlyNext (fun s t => { s with
        par.ro := t.par.ro, host.staged := t.host.staged, ev.transit := t.ev.transit, ev.rate := t.ev.rate, reports := t.reports,
        fault.parity := t.fault.parity, fwd.rules := t.fwd.rules, fwd.recirc := t.fwd.recirc, fwd.tables := t.fwd.tables, fwd.wants := t.fwd.wants,
        fwd.ops := t.fwd.ops, fwd.jobs := t.fwd.jobs, fwd.policers := t.fwd.policers, fwd.markers := t.fwd.markers })
        s (execRecircPass region parity s) := by
  unfold execRecircPass
  refine .next ?_
  split
  · exact .base
  · refine .ite .base ?_
    extract_lets _ v
    refine .via v .base fun hv => ?_
    exact .step (.step hv (bumpF_only ..)) (pass_only ..)

theorem execRulesetDrained_only (s : State) :
    OnlyNext (fun s t => { s with ev.transit := t.ev.transit, fwd.rules := t.fwd.rules }) s (execRulesetDrained s) := by
  unfold execRulesetDrained
  refine .next ?_
  split
  · exact .ite (.step (.step .base (setRules_only ..)) (raise_only ..)) .base
  · exact .base

theorem execSwapWaitExpiry_only (mb : Fin 16) (s : State) : OnlyNext answered s (execSwapWaitExpiry mb s) := by
  unfold execSwapWaitExpiry
  refine .next ?_
  split
  · exact .ite (.step .base (respond_only ..)) .base
  · exact .base

theorem execRuleWrite_only (mb : Fin 16) (start expect : Nat) (rules : List RuleEntry) (s : State) :
    OnlyNext (fun s t => { answered s t with fwd.rules := t.fwd.rules }) s (execRuleWrite mb start expect rules s) := by
  unfold execRuleWrite
  refine hostCmd_only fun c u => ?_
  extract_lets _ _ v
  refine .via v (.step .base (setRules_only ..)) fun hv => ?_
  exact .ite (.fail .base) (.ite (.fail .base) (.ite (.fail .base) (.okay hv)))

theorem execRuleRead_only (mb : Fin 16) (set start count : Nat) (s : State) : OnlyNext answered s (execRuleRead mb set start count s) := by
  unfold execRuleRead
  refine hostCmd_only fun c u => ?_
  extract_lets _ _
  exact .ite (.fail .base) (.ite (.fail .base) (.okay .base))

theorem execRulesetCopy_only (mb : Fin 16) (s : State) :
    OnlyNext (fun s t => { answered s t with fwd.rules := t.fwd.rules }) s (execRulesetCopy mb s) := by
  unfold execRulesetCopy
  refine hostCmd_only fun c u => ?_
  extract_lets _ _ _
  exact .ite (.fail .base) (.okay (.step .base (setRules_only ..)))

theorem execRulesetSwap_only (mb : Fin 16) (s : State) :
    OnlyNext (fun s t => { answered s t with ev.transit := t.ev.transit, fwd.rules := t.fwd.rules }) s (execRulesetSwap mb s) := by
  unfold execRulesetSwap
  refine hostCmd_only fun c u => ?_
  extract_lets _ _ v
  refine .via v (.step .base (setRules_only ..)) fun hv => ?_
  exact .ite (.fst .base) (.okay (.step hv (raise_only ..)))

theorem execRulesetStatus_only (mb : Fin 16) (s : State) : OnlyNext answered s (execRulesetStatus mb s) := by
  unfold execRulesetStatus
  refine hostCmd_only fun c u => ?_
  extract_lets _ _
  exact .okay .base

theorem binding_only (s : State) (g : Nat) (p : Parsed) (parity : Parity) : OnlyIn Prod.snd repairSlotParts s (s.binding g p parity) := by
  unfold State.binding
  refine .ite (.snd .base) ?_
  extract_lets _ p
  exact .snd (.step .base (lookup_only ..))

theorem emitLearn_only (s : State) (block fid addr g : Nat) : Only (fun s t => { s with
        par.ro := t.par.ro, ev.transit := t.ev.transit, ev.rate := t.ev.rate, fwd.serial := t.fwd.serial, fwd.heard := t.fwd.heard })
        s (s.emitLearn block fid addr g) := by
  unfold State.emitLearn
  extract_lets _ _ _ _ v
  refine .via v .base fun hv => ?_
  exact .ite .base (.step hv (queueSer_only ..))

theorem upLookup_only (s : State) (u : UsSdu) (p : Parsed) (parity : Parity) : Only (fun s t => { s with
        par.ro := t.par.ro, host.staged := t.host.staged, ev.transit := t.ev.transit, ev.rate := t.ev.rate, reports := t.reports,
        fault.parity := t.fault.parity, fwd.tables := t.fwd.tables, fwd.wants := t.fwd.wants, fwd.ops := t.fwd.ops, fwd.policers := t.fwd.policers,
        fwd.markers := t.fwd.markers }) s (s.upLookup u p parity) := by
  unfold State.upLookup
  extract_lets _ key f1
  clear_value key
  split
  · rename_i _ _ v2 h
    refine .via v2 (.snd h (.step .base (lookup_only ..))) fun hv3 => ?_
    split
    · exact .ite (.step hv3 (punt_only ..)) hv3
    · split
      · exact .ite (.step hv3 (punt_only ..)) hv3
      · split
        · extract_lets m4
          clear_value m4
          split
          · rename_i _ _ v5 h
            refine .via v5 (.snd h (.step hv3 (meter_only ..))) fun hv6 => ?_
            split
            · exact hv6
            · exact .step hv6 (askBuffer_only ..)
        · exact hv3
        · exact .step hv3 (punt_only ..)
        · exact .ite (.step hv3 (punt_only ..)) hv3
        · exact .step hv3 (bump_only ..)

theorem spoofed_only (s : State) (c g check : Nat) (f : Frame) : Only (fun s t => { s with
        par.ro := t.par.ro, host.staged := t.host.staged, ev.transit := t.ev.transit, ev.rate := t.ev.rate, fwd.ops := t.fwd.ops })
        s (s.spoofed c g check f) := by
  unfold State.spoofed
  extract_lets v
  refine .via v (.step (.step .base (bump_only ..)) (raiseSec_only ..)) fun hv => ?_
  exact .ite (.step hv (punt_only ..)) hv

theorem execUpstreamSduParse_only (region : Fin 8) (second : Bool) (parity : Parity) (s : State) : OnlyNext (fun s t => { s with
        par.ro := t.par.ro, host.staged := t.host.staged, ev.transit := t.ev.transit, ev.rate := t.ev.rate, reports := t.reports,
        fault.parity := t.fault.parity, pon.released := t.pon.released, fwd.tables := t.fwd.tables, fwd.serial := t.fwd.serial,
        fwd.heard := t.fwd.heard, fwd.wants := t.fwd.wants, fwd.ops := t.fwd.ops, fwd.policers := t.fwd.policers, fwd.markers := t.fwd.markers })
        s (execUpstreamSduParse region second parity s) := by
  unfold execUpstreamSduParse
  refine .next ?_
  split
  · exact .base
  · extract_lets _ v g1 c2 p3 v4 fid5
    clear_value g1 c2 p3 fid5
    refine .via v .base fun hv => ?_
    refine .via v4 (.step hv (countParse_only ..)) fun hv4 => ?_
    split
    · exact hv4
    · exact .step hv4 (punt_only ..)
    · split
      · rename_i _ _ v6 h
        refine .via v6 (.snd h (.step hv4 (lookup_only ..))) fun hv7 => ?_
        split
        · rename_i _ _ v8 h
          refine .via v8 (.snd h (.step hv7 (binding_only ..))) fun hv9 => ?_
          split
          · exact .step hv9 (spoofed_only ..)
          · extract_lets _ v10
            refine .via v10 (.ite (.step hv9 (emitLearn_only ..)) hv9) fun hv10 => ?_
            exact .step hv10 (upLookup_only ..)

/-! ### Machine/Gates -/

theorem setGate_only (s : State) (i : Nat) (v : GateState) : Only (fun s t => { s with fwd.gates := t.fwd.gates }) s (s.setGate i v) := .base

theorem glacierTest_only (s : State) (w : Nat) : Only (fun s t => { s with fwd.downQ := t.fwd.downQ, fwd.upQ := t.fwd.upQ }) s (s.glacierTest w) := by
  unfold State.glacierTest
  extract_lets _ _
  exact .ite (.ite (.step .base (setQueue_only ..)) .base) (.ite (.step .base (setQueue_only ..)) (.ite (.step .base (setQueue_only ..)) .base))

theorem popHead_only (s : State) (w : Nat) : Only (fun s t => { s with fwd.downQ := t.fwd.downQ, fwd.upQ := t.fwd.upQ }) s (s.popHead w) := by
  unfold State.popHead
  extract_lets _
  exact .step (.step .base (setQueue_only ..)) (glacierTest_only ..)

theorem neverFits_only (i w window n : Nat) (s : State) : Only (fun s t => { answered s t with
        par.ro := t.par.ro, ev.transit := t.ev.transit, ev.rate := t.ev.rate, fwd.ops := t.fwd.ops, fwd.downQ := t.fwd.downQ, fwd.upQ := t.fwd.upQ })
        s (State.neverFits i w window n s) := by
  induction n generalizing s with
  | zero => exact .base
  | succ n ih =>
    rw [State.neverFits]
    split
    · exact .base
    · refine .ite .base ?_
      extract_lets _ v v1 v2
      refine .via v (.step .base (setQueue_only ..)) fun hv => ?_
      refine .via v1 (.step (.step hv (popHead_only ..)) (freeFrame_only ..)) fun hv1 => ?_
      refine .via v2 (.step (.step hv1 (bump_only ..)) (raiseSec_only ..)) fun hv2 => ?_
      exact .step (.step hv2 (drainTest_only ..)) (ih ..)

def openGatesParts : State → State → State :=
  fun s t => { answered s t with
      par.ro := t.par.ro, ev.transit := t.ev.transit, ev.rate := t.ev.rate, fwd.ops := t.fwd.ops, fwd.downQ := t.fwd.downQ, fwd.upQ := t.fwd.upQ,
      fwd.gates := t.fwd.gates }

theorem openGates_only (s : State) (i : Nat) : Only openGatesParts s (s.openGates i) := by
  unfold State.openGates
  extract_lets g
  clear_value g
  split
  · exact .ite .base (.step .base (setGate_only ..))
  · extract_lets e1 v2
    clear_value e1
    refine .via v2 (.step .base (setGate_only ..)) fun hv2 => ?_
    refine .ite .base (.foldl hv2 fun u x => ?_)
    extract_lets q3
    clear_value q3
    refine .ite ?_ .base
    split
    · exact .base
    · exact .step .base (neverFits_only ..)

theorem holdHeads_only (s : State) (i : Nat) :
    Only (fun s t => { s with par.ro := t.par.ro, fwd.downQ := t.fwd.downQ, fwd.upQ := t.fwd.upQ }) s (s.holdHeads i) := by
  unfold State.holdHeads
  refine .foldl .base fun u x => ?_
  extract_lets q
  clear_value q
  split
  · exact .base
  · exact .ite (.step (.step .base (setQueue_only ..)) (bump_only ..)) .base

theorem execGateIntervalStart_only (inst : Fin 96) (s : State) : OnlyNext openGatesParts s (execGateIntervalStart inst s) := by
  unfold execGateIntervalStart
  refine .next ?_
  extract_lets _
  exact .ite (.step (.step .base (setGate_only ..)) (openGates_only ..)) (.step .base (openGates_only ..))

theorem execGateListSwitch_only (inst : Fin 96) (s : State) : OnlyNext openGatesParts s (execGateListSwitch inst s) := by
  unfold execGateListSwitch
  refine .next ?_
  extract_lets g
  clear_value g
  split
  · exact .base
  · refine .ite ?_ .base
    extract_lets v1
    refine .via v1 (.step .base (setGate_only ..)) fun hv1 => ?_
    exact .step (.step hv1 (openGates_only ..)) (raise_only ..)

theorem execGateListSet_only (mb : Fin 16) (inst cycle configTime : Nat) (entries : List Nat) (s : State) :
    OnlyNext (fun s t => { answered s t with fwd.gates := t.fwd.gates }) s (execGateListSet mb inst cycle configTime entries s) := by
  unfold execGateListSet
  refine hostCmd_only fun c u => ?_
  extract_lets _ _ v
  refine .via v (.step .base (setGate_only ..)) fun hv => ?_
  exact .ite (.fail .base) (.ite (.fail .base) (.ite (.fail .base) (.okay hv)))

theorem execGateListClear_only (mb : Fin 16) (inst : Nat) (s : State) :
    OnlyNext (fun s t => { answered s t with fwd.gates := t.fwd.gates }) s (execGateListClear mb inst s) := by
  unfold execGateListClear
  refine hostCmd_only fun c u => ?_
  refine .ite (.fail .base) (.ite (.fail .base) ?_)
  extract_lets _ v
  refine .via v (.step .base (setGate_only ..)) fun hv => ?_
  exact .okay hv

theorem execGateStatus_only (mb : Fin 16) (inst : Nat) (s : State) : OnlyNext answered s (execGateStatus mb inst s) := by
  unfold execGateStatus
  refine hostCmd_only fun c u => ?_
  exact .ite (.fail .base) (.okay .base)

/-! ### Machine/Queues -/

theorem countDrop_only (s : State) (w : Nat) (x : Admission) : Only (fun s t => { s with
        par.ro := t.par.ro, ev.transit := t.ev.transit, ev.rate := t.ev.rate, fwd.downQ := t.fwd.downQ, fwd.upQ := t.fwd.upQ })
        s (s.countDrop w x) := by
  unfold State.countDrop
  extract_lets _ _ _
  split
  · exact .base
  · exact .step .base (setQueue_only ..)
  · exact .step (.step .base (setQueue_only ..)) (bumpF_only ..)
  · exact .step (.step .base (setQueue_only ..)) (bumpF_only ..)
  · exact .step (.step (.step .base (setQueue_only ..)) (bumpF_only ..)) (raiseSec_only ..)

theorem join_only (s : State) (w : Nat) (f : Frame) : Only (fun s t => { s with fwd.downQ := t.fwd.downQ, fwd.upQ := t.fwd.upQ }) s (s.join w f) := by
  unfold State.join
  extract_lets _ _ _ _
  exact .step .base (setQueue_only ..)

theorem admitTo_only (s : State) (w : Nat) (j : Job) : Only (fun s t => { s with
        par.ro := t.par.ro, ev.transit := t.ev.transit, ev.rate := t.ev.rate, fwd.ops := t.fwd.ops, fwd.downQ := t.fwd.downQ, fwd.upQ := t.fwd.upQ })
        s (s.admitTo w j) := by
  unfold State.admitTo
  extract_lets _ v
  refine .via v ?_ fun hv => ?_
  · unfold v
    split
    · exact .ite .base (.step .base (bufOp_only ..))
    · exact .base
  exact .ite (.step hv (join_only ..)) (.step (.step .base (countDrop_only ..)) (freeFrame_only ..))

theorem tetherAdd_only (s : State) (k w : Nat) (j : Job) :
    Only (fun s t => { s with par.ro := t.par.ro, prot.queues := t.prot.queues, fwd.ops := t.fwd.ops }) s (s.tetherAdd k w j) := by
  unfold State.tetherAdd
  extract_lets _ v _
  refine .via v ?_ fun hv => ?_
  · unfold v
    split
    · exact .step .base (bufOp_only ..)
    · exact .base
  clear_value v
  exact .ite (.step (.step .base (bump_only ..)) (freeFrame_only ..)) hv.upd

theorem place_only (s : State) (j : Job) : Only (fun s t => { s with
        par.ro := t.par.ro, host.staged := t.host.staged, ev.transit := t.ev.transit, ev.rate := t.ev.rate, prot.queues := t.prot.queues,
        fwd.ops := t.fwd.ops, fwd.downQ := t.fwd.downQ, fwd.upQ := t.fwd.upQ }) s (s.place j) := by
  unfold State.place
  split
  · extract_lets v _
    refine .via v (.ite (.step .base (bump_only ..)) .base) fun hv => ?_
    split
    · exact .ite (.step (.step hv (stage_only ..)) (freeFrame_only ..)) (.step hv (freeFrame_only ..))
    · split
      · exact .step hv (tetherAdd_only ..)
      · exact .step hv (admitTo_only ..)

theorem execEnqueue_only (s : State) : OnlyNext (fun s t => { s with
        par.ro := t.par.ro, host.staged := t.host.staged, ev.transit := t.ev.transit, ev.rate := t.ev.rate, prot.queues := t.prot.queues,
        fwd.ops := t.fwd.ops, fwd.jobs := t.fwd.jobs, fwd.downQ := t.fwd.downQ, fwd.upQ := t.fwd.upQ }) s (execEnqueue s) := by
  unfold execEnqueue
  refine .next ?_
  split
  · exact .base
  · exact .step .base (place_only ..)

theorem setChanNode_only (s : State) (c : Nat) (v : SchedNode) :
    Only (fun s t => { s with fwd.chanNodes := t.fwd.chanNodes }) s (s.setChanNode c v) := .base

theorem setMacNode_only (s : State) (m : Nat) (v : SchedNode) : Only (fun s t => { s with fwd.macNodes := t.fwd.macNodes }) s (s.setMacNode m v) :=
  .base

theorem setTermNode_only (s : State) (t : Nat) (v : SchedNode) :
    Only (fun s t => { s with fwd.termNodes := t.fwd.termNodes }) s (s.setTermNode t v) := .base

def settleShapersParts : State → State → State :=
  fun s t => { s with
      fwd.downQ := t.fwd.downQ, fwd.upQ := t.fwd.upQ, fwd.termNodes := t.fwd.termNodes, fwd.chanNodes := t.fwd.chanNodes,
      fwd.macNodes := t.fwd.macNodes }

theorem settleShapers_only (s : State) (i : Nat) : Only settleShapersParts s (s.settleShapers i) := by
  unfold State.settleShapers
  extract_lets v _ _ v1
  refine .via v ?_ fun hv => ?_
  · refine .foldl .base fun u x => ?_
    extract_lets _
    exact .ite (.step .base (setQueue_only ..)) .base
  refine .via v1 (.ite (.step hv (setChanNode_only ..)) hv) fun hv1 => ?_
  refine .ite (.ite (.step hv (setMacNode_only ..)) hv) (.foldl hv1 fun u x => ?_)
  extract_lets _
  exact .step .base (setTermNode_only ..)

theorem setMember_only (s : State) (k : Nat) (d : Drr) : Only (fun s t => { s with fwd.members := t.fwd.members }) s (s.setMember k d) := .base

theorem setOuter_only (s : State) (k v : Nat) : Only (fun s t => { s with fwd.outer := t.fwd.outer }) s (s.setOuter k v) := .base

theorem setInner_only (s : State) (k v : Nat) : Only (fun s t => { s with fwd.inner := t.fwd.inner }) s (s.setInner k v) := .base

theorem openQueue_only (s : State) (w : Nat) : Only (fun s t => { s with fwd.downQ := t.fwd.downQ, fwd.upQ := t.fwd.upQ }) s (s.openQueue w) := by
  unfold State.openQueue
  extract_lets _
  exact .ite .base (.step .base (setQueue_only ..))

theorem serveLevel_only (cands : List Cand) (c lv n : Nat) (s : State) : OnlyIn Prod.snd (fun s t => { s with
        fwd.downQ := t.fwd.downQ, fwd.upQ := t.fwd.upQ, fwd.members := t.fwd.members, fwd.outer := t.fwd.outer, fwd.inner := t.fwd.inner })
        s (State.serveLevel cands c lv n s) := by
  induction n generalizing s with
  | zero => exact .base
  | succ n ih =>
    rw [State.serveLevel]
    refine .ite ?_ ?_
    · extract_lets _ v
      refine .via v (.ite (.step .base (setMember_only ..)) .base) fun hv => ?_
      exact .of (.step (.step hv (setOuter_only ..)) (ih ..))
    · extract_lets _ v1 _ w2 f3 _ v4 v5 _ _
      clear_value w2
      refine .via v1 (.ite .base (.step .base (setMember_only ..))) fun hv1 => ?_
      refine .via v4 (.step (.step hv1 (openQueue_only ..)) (setInner_only ..)) fun hv4 => ?_
      refine .via v5 (.step hv4 (setOuter_only ..)) fun hv5 => ?_
      split
      · exact .snd hv1
      · refine .ite ?_ ?_
        · extract_lets v6
          refine .via v6 (.ite (.step hv1 (setQueue_only ..)) hv1) fun hv6 => ?_
          exact .of (.step (.step hv6 (setInner_only ..)) (ih ..))
        · extract_lets _ v7 v8
          refine .via v7 (.ite (.step (.step hv5 (setQueue_only ..)) (setInner_only ..)) hv5) fun hv7 => ?_
          refine .via v8 (.ite (.step (.step hv7 (setMember_only ..)) (setOuter_only ..)) hv7) fun hv8 => ?_
          exact .ite (.snd (.step (.step hv5 (setQueue_only ..)) (setMember_only ..))) (.of (.step hv8 (ih ..)))

theorem serveHead_only (s : State) (w : Nat) (n : Int) :
    Only (fun s t => { answered s t with fwd.downQ := t.fwd.downQ, fwd.upQ := t.fwd.upQ }) s (s.serveHead w n) := by
  unfold State.serveHead
  extract_lets _ _ _
  exact .step (.step (.step .base (setQueue_only ..)) (popHead_only ..)) (drainTest_only ..)

theorem giveFramer_only (s : State) (c w : Nat) (express : Bool) : Only (fun s t => { answered s t with
        chans := t.chans, fwd.downQ := t.fwd.downQ, fwd.upQ := t.fwd.upQ, fwd.termNodes := t.fwd.termNodes, fwd.chanNodes := t.fwd.chanNodes })
        s (s.giveFramer c w express) := by
  unfold State.giveFramer
  extract_lets q
  clear_value q
  split
  · extract_lets _ _ v1 _ v2 _ v3 _ _ _
    refine .via v1 (.step .base (serveHead_only ..)) fun hv1 => ?_
    refine .via v2 (.ite hv1 (.step hv1 (setTermNode_only ..))) fun hv2 => ?_
    refine .via v3 (.step hv2 (setChanNode_only ..)) fun hv3 => ?_
    exact .step hv3 (setFramer_only ..)
  · exact .base

theorem decided_only (s : State) (c : Nat) : Only (fun s t => { s with fwd.schedNext := t.fwd.schedNext }) s (s.decided c) := by
  unfold State.decided
  exact .ite .base .base

theorem scheduleTree_only (s : State) (c : Nat) : Only (fun s t => { answered s t with
        chans := t.chans, fwd.downQ := t.fwd.downQ, fwd.upQ := t.fwd.upQ, fwd.termNodes := t.fwd.termNodes, fwd.chanNodes := t.fwd.chanNodes,
        fwd.members := t.fwd.members, fwd.outer := t.fwd.outer, fwd.inner := t.fwd.inner, fwd.schedNext := t.fwd.schedNext })
        s (s.scheduleTree c) := by
  unfold State.scheduleTree
  refine .ite .base ?_
  extract_lets v
  refine .via v (.step .base (decided_only ..)) fun hv => ?_
  split
  · exact hv
  · extract_lets cands1
    clear_value cands1
    split
    · rename_i _ _ v2 h
      refine .via v2 (.snd h (.step hv (serveLevel_only ..))) fun hv3 => ?_
      split
      · exact hv3
      · exact .step hv3 (giveFramer_only ..)

theorem serveClass_only (cands : List Cand) (key n : Nat) (s : State) :
    OnlyIn Prod.snd (fun s t => { s with fwd.downQ := t.fwd.downQ, fwd.upQ := t.fwd.upQ, fwd.innerUp := t.fwd.innerUp }) s
      (State.serveClass cands key n s) := by
  induction n generalizing s with
  | zero => exact .base
  | succ n ih =>
    unfold State.serveClass
    extract_lets qs w at_ q0 v1 q
    split
    · exact .snd .base
    · refine .ite ?_ ?_
      · extract_lets v
        refine .via v (.ite (.step .base (setQueue_only ..)) .base) fun hv => ?_
        clear_value v
        exact .of (.step hv.upd (ih ..))
      · extract_lets len
        refine .via (s.openQueue w) (.step .base (openQueue_only ..)) fun hv => ?_
        refine .via v1 hv.upd fun hv1 => ?_
        clear_value v1
        refine .ite (.snd (.step hv1 (setQueue_only ..))) ?_
        refine .via (v1.setQueue w { q with open_ := false }) (.step hv1 (setQueue_only ..)) fun hv2 => ?_
        exact .of (.step hv2.upd (ih ..))

theorem sendUplink_only (s : State) (m w : Nat) : Only (fun s t => { answered s t with
        par.ro := t.par.ro, ev.transit := t.ev.transit, fwd.ops := t.fwd.ops, fwd.downQ := t.fwd.downQ, fwd.upQ := t.fwd.upQ,
        fwd.macNodes := t.fwd.macNodes, fwd.macs := t.fwd.macs, fwd.sas := t.fwd.sas }) s (s.sendUplink m w) := by
  unfold State.sendUplink
  split
  · exact .base
  · extract_lets _ v _ v1 v2 _
    refine .via v (.step .base (serveHead_only ..)) fun hv => ?_
    refine .via v1 (.step hv (setMacNode_only ..)) fun hv1 => ?_
    refine .via v2 (.step hv1 (freeFrame_only ..)) fun hv2 => ?_
    refine .ite (.step hv2 (stat_only ..)) ?_
    split
    · rename_i _ _ v3 h
      refine .via v3 (.snd h (.step hv2 (protect_only ..))) fun hv4 => ?_
      split
      · exact hv4
      · extract_lets _ v5 v6 _ v7
        refine .via v5 (.ite (.step hv4 (countSpec_only ..)) hv4) fun hv5 => ?_
        refine .via v6 (.step (.step hv5 (stat_only ..)) (stat_only ..)) fun hv6 => ?_
        refine .via v7 (.step hv6 (setMac_only ..)) fun hv7 => ?_
        exact .step hv7 (emit_only ..)

theorem encryptHead_only (s : State) (m w : Nat) :
    OnlyIn Prod.snd (fun s t => { s with cipher.generators := t.cipher.generators, cipher.regions := t.cipher.regions }) s (s.encryptHead m w) := by
  unfold State.encryptHead
  split
  · extract_lets _
    exact .ite (.snd .base) (.of (.step .base (transmitWork_only ..)))
  · exact .snd .base

theorem scheduleMac_only (s : State) (m : Nat) : Only (fun s t => { answered s t with
        par.ro := t.par.ro, ev.transit := t.ev.transit, cipher.generators := t.cipher.generators, cipher.regions := t.cipher.regions,
        fwd.ops := t.fwd.ops, fwd.downQ := t.fwd.downQ, fwd.upQ := t.fwd.upQ, fwd.macNodes := t.fwd.macNodes, fwd.innerUp := t.fwd.innerUp,
        fwd.macs := t.fwd.macs, fwd.sas := t.fwd.sas }) s (s.scheduleMac m) := by
  unfold State.scheduleMac
  refine .ite .base ?_
  extract_lets v v1
  refine .via v (.ite (.step .base (sendPause_only ..)) .base) fun hv => ?_
  refine .via v1 hv fun hv1 => ?_
  split
  · exact hv1
  · extract_lets cands2
    clear_value cands2
    split
    · rename_i _ _ v3 h
      refine .via v3 (.snd h (.step hv1 (serveClass_only ..))) fun hv4 => ?_
      split
      · exact hv4
      · split
        · rename_i _ v5 h
          refine .via v5 (.snd h (.step hv4 (encryptHead_only ..))) fun hv6 => ?_
          exact .step hv6 (sendUplink_only ..)
        · rename_i _ v7 h
          refine .via v7 (.snd h (.step hv4 (encryptHead_only ..))) fun hv8 => ?_
          exact hv

theorem setShaper_only (s : State) (r : ShaperRef) (k : Shaper) : Only settleShapersParts s (s.setShaper r k) := by
  unfold State.setShaper
  split
  · exact .step .base (setQueue_only ..)
  · exact .step .base (setTermNode_only ..)
  · exact .step .base (setChanNode_only ..)
  · exact .step .base (setMacNode_only ..)

theorem execShaperConforms_only (shaper : ShaperRef) (s : State) : OnlyNext settleShapersParts s (execShaperConforms shaper s) := by
  unfold execShaperConforms
  refine .next ?_
  extract_lets _ _
  exact .ite .base (.step .base (setShaper_only ..))

/-! ### Machine/QueueCmds -/

theorem sampleHist_only (s : State) (w : Nat) : Only (fun s t => { s with fwd.hists := t.fwd.hists }) s (s.sampleHist w) := by
  unfold State.sampleHist
  extract_lets _ _ f _ _
  exact .base

theorem execQueueSample_only (queue : Fin 81920) (s : State) :
    OnlyNext (fun s t => { s with fwd.hists := t.fwd.hists }) s (execQueueSample queue s) := by
  unfold execQueueSample
  exact .next (.ite .base (.step .base (sampleHist_only ..)))

theorem execWatchSample_only (slot : Fin 256) (s : State) : OnlyNext (fun s t => { s with
        ev.transit := t.ev.transit, ev.rate := t.ev.rate, ev.telStaged := t.ev.telStaged, fwd.hists := t.fwd.hists }) s (execWatchSample slot s) := by
  unfold execWatchSample
  refine .next ?_
  split
  · exact .base
  · extract_lets _ _ v _
    refine .via v (.step (.step .base (sampleHist_only ..)) (produce_only ..)) fun hv => ?_
    exact .ite (.step hv (raiseSec_only ..)) hv

theorem execWatchSet_only (mb : Fin 16) (slot : Nat) (queue : Option Nat) (delayLimit : Nat) (s : State) :
    OnlyNext (fun s t => { answered s t with fwd.watch := t.fwd.watch }) s (execWatchSet mb slot queue delayLimit s) := by
  unfold execWatchSet
  refine hostCmd_only fun c u => ?_
  refine .ite (.fail .base) ?_
  split
  · exact .okay .base
  · exact .ite (.okay .base) (.okay .base)

theorem execHistRead_only (mb : Fin 16) (start count : Nat) (s : State) :
    OnlyNext (fun s t => { answered s t with fwd.hists := t.fwd.hists }) s (execHistRead mb start count s) := by
  unfold execHistRead
  refine hostCmd_only fun c u => ?_
  refine .ite (.fail .base) ?_
  extract_lets _ f _
  exact .okay (.ite (.foldl .base fun _ _ => .base) .base)

theorem execQueueDrained_only (queue : Fin 81920) (s : State) : OnlyNext answered s (execQueueDrained queue s) := by
  unfold execQueueDrained
  exact .next (.step .base (drainTest_only ..))

theorem execQueueDrainTimeout_only (queue : Fin 81920) (s : State) : OnlyNext answered s (execQueueDrainTimeout queue s) := by
  unfold execQueueDrainTimeout
  exact .next (.step .base (respondAll_only ..))

theorem disableQueue_only (s : State) (w : Nat) :
    Only (fun s t => { s with fwd.downQ := t.fwd.downQ, fwd.upQ := t.fwd.upQ, fwd.watch := t.fwd.watch }) s (s.disableQueue w) := by
  unfold State.disableQueue
  exact .step (.step .base (setQueue_only ..)) (unwatch_only ..)

theorem execQueueDisable_only (mb : Fin 16) (queue : Nat) (s : State) : OnlyNext (fun s t => { answered s t with
        fwd.ops := t.fwd.ops, fwd.downQ := t.fwd.downQ, fwd.upQ := t.fwd.upQ, fwd.watch := t.fwd.watch }) s (execQueueDisable mb queue s) := by
  unfold execQueueDisable
  refine hostCmd_only fun c u => ?_
  refine .ite (.fail .base) ?_
  extract_lets v
  refine .via v (.step .base (disableQueue_only ..)) fun hv => ?_
  exact .ite (.okay (.step hv (emptyQueue_only ..))) (.ite (.okay hv) (.fst hv))

theorem execQueueConfig_only (mb : Fin 16) (queue : Nat) (arg : QueueArg) (s : State) : OnlyNext (fun s t => { answered s t with
        fwd.downQ := t.fwd.downQ, fwd.upQ := t.fwd.upQ, fwd.watch := t.fwd.watch }) s (execQueueConfig mb queue arg s) := by
  unfold execQueueConfig
  refine hostCmd_only fun c u => ?_
  refine .ite (.fail .base) ?_
  extract_lets o q1 moved2 v3 _ v4
  clear_value o q1 moved2
  refine .via v3 (.step .base (setQueue_only ..)) fun hv3 => ?_
  refine .via v4 (.ite (.step hv3 (unwatch_only ..)) hv3) fun hv4 => ?_
  split
  · exact .fail .base
  · exact .ite (.fail .base) (.okay hv4)

theorem execQueueRead_only (mb : Fin 16) (queue : Nat) (s : State) : OnlyNext answered s (execQueueRead mb queue s) := by
  unfold execQueueRead
  refine hostCmd_only fun c u => ?_
  exact .ite (.fail .base) (.okay .base)

theorem execSchedNodeSet_only (mb : Fin 16) (node : ShaperRef) (quantum cir cbs : Option Nat) (s : State) : OnlyNext (fun s t => { answered s t with
        fwd.downQ := t.fwd.downQ, fwd.upQ := t.fwd.upQ, fwd.termNodes := t.fwd.termNodes, fwd.chanNodes := t.fwd.chanNodes,
        fwd.macNodes := t.fwd.macNodes }) s (execSchedNodeSet mb node quantum cir cbs s) := by
  unfold execSchedNodeSet
  refine hostCmd_only fun c u => ?_
  extract_lets f v1
  refine .via v1 (.step .base (setShaper_only ..)) fun hv1 => ?_
  split
  · exact .fail .base
  · refine .ite (.fail .base) (.ite (.fail .base) ?_)
    extract_lets _ v2
    refine .via v2 (.step .base (setTermNode_only ..)) fun hv2 => ?_
    exact .okay hv2
  · exact .ite (.fail .base) (.okay hv1)
  · exact .ite (.fail .base) (.ite (.fail .base) (.okay hv1))

/-! ### Machine/Buffers -/

theorem setBuf_only (s : State) (id : Nat) (v : BufWord) : Only (fun s t => { s with fwd.bufs := t.fwd.bufs }) s (s.setBuf id v) := .base

theorem poolMsg_only (s : State) (p kind : Nat) (dest : List Nat) :
    Only (fun s t => { s with fwd.poolMsgs := t.fwd.poolMsgs }) s (s.poolMsg p kind dest) := .base

theorem poolTest_only (s : State) (p : Nat) (v : Pool) :
    Only (fun s t => { s with ev.transit := t.ev.transit, fwd.pools := t.fwd.pools, fwd.poolMsgs := t.fwd.poolMsgs }) s (s.poolTest p v) := by
  unfold State.poolTest
  extract_lets _ _ _ v v1 v2
  refine .via v (.step .base (setPool_only ..)) fun hv => ?_
  refine .via v1 (.ite hv (.ite (.step hv (raise_only ..)) (.step hv (raiseAs_only ..)))) fun hv1 => ?_
  refine .via v2 (.ite hv1 (.ite (.step (.step hv1 (poolMsg_only ..)) (raise_only ..)) (.step (.step hv1 (poolMsg_only ..)) (raiseAs_only ..)))) fun
    hv2 => ?_
  exact .ite hv2 (.ite (.step (.step hv2 (poolMsg_only ..)) (raise_only ..)) (.step (.step hv2 (poolMsg_only ..)) (raiseAs_only ..)))

theorem allocBuf_only (s : State) (cls len : Nat) (exempt ct : Bool) : OnlyIn Prod.snd (fun s t => { s with
        par.ro := t.par.ro, ev.transit := t.ev.transit, fwd.bufs := t.fwd.bufs, fwd.pools := t.fwd.pools, fwd.poolMsgs := t.fwd.poolMsgs })
        s (s.allocBuf cls len exempt ct) := by
  unfold State.allocBuf
  split
  · exact .snd (.step .base (bump_only ..))
  · extract_lets _ _ _ _ id _
    clear_value id
    refine .ite (.snd (.step .base (bumpF_only ..))) ?_
    split
    · exact .snd (.ite (.step .base (bumpF_only ..)) .base)
    · extract_lets _ v1
      refine .via v1 (.step .base (setBuf_only ..)) fun hv1 => ?_
      exact .snd (.step hv1 (poolTest_only ..))

theorem writeTo_only (s : State) (f : Frame) (b : BufRef) (size : Nat) :
    OnlyIn Prod.snd (fun s t => { s with par.ro := t.par.ro }) s (s.writeTo f b size) := by
  unfold State.writeTo
  exact .ite (.snd .base) (.snd (.step .base (bump_only ..)))

theorem recircDrop_only (s : State) (k : Pkt) : Only (fun s t => { s with
        par.ro := t.par.ro, ev.transit := t.ev.transit, ev.rate := t.ev.rate, fwd.rules := t.fwd.rules }) s (s.recircDrop k) := by
  unfold State.recircDrop
  extract_lets _
  exact .step (.step (.step .base (landed_only ..)) (bumpF_only ..)) (raiseSec_only ..)

theorem recirculate_only (s : State) (k : Pkt) (copies : Nat) (b : BufRef) : Only (fun s t => { s with
        par.ro := t.par.ro, ev.transit := t.ev.transit, ev.rate := t.ev.rate, fwd.rules := t.fwd.rules, fwd.recirc := t.fwd.recirc,
        fwd.ops := t.fwd.ops }) s (s.recirculate k copies b) := by
  unfold State.recirculate
  extract_lets _ _ _ f _ v1 _ v2
  refine .via v1 .base fun hv1 => ?_
  clear_value v1
  refine .via v2 hv1.upd fun hv2 => ?_
  exact .ite (.step (.step .base (recircDrop_only ..)) (bufOp_only ..)) (.step hv2 (flight_only ..))

theorem returnFrame_only (s : State) (w : Nat) (b : BufRef) :
    Only (fun s t => { s with fwd.ops := t.fwd.ops, fwd.downQ := t.fwd.downQ, fwd.upQ := t.fwd.upQ }) s (s.returnFrame w b) := by
  unfold State.returnFrame
  extract_lets q v1
  clear_value q
  refine .via v1 (.step .base (setQueue_only ..)) fun hv1 => ?_
  split
  · exact .step hv1 (bufOp_only ..)
  · extract_lets _ _ _
    exact .step (.step (.step hv1 (setQueue_only ..)) (bufOp_only ..)) (glacierTest_only ..)

theorem grantWant_only (s : State) (x : Want) (b : BufRef) (size : Nat) : Only (fun s t => { s with
        par.ro := t.par.ro, ev.transit := t.ev.transit, ev.rate := t.ev.rate, fwd.rules := t.fwd.rules, fwd.recirc := t.fwd.recirc,
        fwd.ops := t.fwd.ops, fwd.jobs := t.fwd.jobs, fwd.downQ := t.fwd.downQ, fwd.upQ := t.fwd.upQ }) s (s.grantWant x b size) := by
  unfold State.grantWant
  split
  · split
    · rename_i _ _ v h
      refine .via v (.snd h (.step .base (writeTo_only ..))) fun hv1 => ?_
      exact hv1.upd
  · exact .step .base (recirculate_only ..)
  · exact .step .base (returnFrame_only ..)

theorem refuseWant_only (s : State) (x : Want) : Only (fun s t => { s with
        par.ro := t.par.ro, ev.transit := t.ev.transit, ev.rate := t.ev.rate, fwd.rules := t.fwd.rules, fwd.wants := t.fwd.wants })
        s (s.refuseWant x) := by
  unfold State.refuseWant
  split
  · exact .base
  · exact .step .base (recircDrop_only ..)
  · exact .base

theorem rejectOp_only (s : State) (id cls gen kind : Nat) : Only (fun s t => { s with
        par.ro := t.par.ro, ev.transit := t.ev.transit, ev.rate := t.ev.rate, fwd.faultLog := t.fwd.faultLog, fwd.faultOverrun := t.fwd.faultOverrun })
        s (s.rejectOp id cls gen kind) := by
  unfold State.rejectOp
  extract_lets _ _ _ v v1 _
  refine .via v .base fun hv => ?_
  refine .via v1 (.step hv (bumpF_only ..)) fun hv1 => ?_
  split <;> exact .step hv1 (raiseSec_only ..)

theorem opArrived_only (s : State) (o : BufOp) : Only (fun s t => { s with fwd.ops := t.fwd.ops }) s (s.opArrived o) := .base

theorem dropCopy_only (s : State) (id : Nat) : Only (fun s t => { s with
        par.ro := t.par.ro, ev.transit := t.ev.transit, ev.rate := t.ev.rate, fwd.rules := t.fwd.rules, fwd.recirc := t.fwd.recirc })
        s (s.dropCopy id) := by
  unfold State.dropCopy
  refine .foldl .base fun u x => ?_
  extract_lets q _
  clear_value q
  split
  · exact .base
  · exact .step .base (recircDrop_only ..)

theorem execBufferTake_only (cls : Fin 16) (id : Fin 262144) (gen : Fin 64) (s : State) : OnlyNext (fun s t => { s with
        par.ro := t.par.ro, ev.transit := t.ev.transit, ev.rate := t.ev.rate, fwd.rules := t.fwd.rules, fwd.recirc := t.fwd.recirc,
        fwd.ops := t.fwd.ops, fwd.bufs := t.fwd.bufs, fwd.faultLog := t.fwd.faultLog, fwd.faultOverrun := t.fwd.faultOverrun })
        s (execBufferTake cls id gen s) := by
  unfold execBufferTake
  refine .next ?_
  extract_lets v v1
  clear_value v1
  refine .via v (.step .base (opArrived_only ..)) fun hv => ?_
  split
  · extract_lets v2
    refine .via v2 (.step hv (rejectOp_only ..)) fun hv2 => ?_
    exact .ite (.step hv2 (dropCopy_only ..)) hv2
  · exact .step hv (setBuf_only ..)

theorem execBufferHandover_only (src dst : Fin 16) (last : Bool) (id : Fin 262144) (gen : Fin 64) (s : State) : OnlyNext (fun s t => { s with
        par.ro := t.par.ro, ev.transit := t.ev.transit, ev.rate := t.ev.rate, fwd.ops := t.fwd.ops, fwd.bufs := t.fwd.bufs,
        fwd.faultLog := t.fwd.faultLog, fwd.faultOverrun := t.fwd.faultOverrun }) s (execBufferHandover src dst last id gen s) := by
  unfold execBufferHandover
  refine .next ?_
  extract_lets v v1 _
  clear_value v1
  refine .via v (.step .base (opArrived_only ..)) fun hv => ?_
  split
  · exact .step hv (rejectOp_only ..)
  · exact .step hv (setBuf_only ..)

theorem execBufferFree_only (cls : Fin 16) (last : Bool) (id : Fin 262144) (gen : Fin 64) (s : State) : OnlyNext (fun s t => { s with
        par.ro := t.par.ro, ev.transit := t.ev.transit, ev.rate := t.ev.rate, fwd.ops := t.fwd.ops, fwd.bufs := t.fwd.bufs, fwd.pools := t.fwd.pools,
        fwd.faultLog := t.fwd.faultLog, fwd.faultOverrun := t.fwd.faultOverrun, fwd.poolMsgs := t.fwd.poolMsgs })
        s (execBufferFree cls last id gen s) := by
  unfold execBufferFree
  refine .next ?_
  extract_lets v v1 _ v2
  clear_value v1
  refine .via v (.step .base (opArrived_only ..)) fun hv => ?_
  refine .via v2 (.step hv (setBuf_only ..)) fun hv2 => ?_
  split
  · exact .step hv (rejectOp_only ..)
  · exact .ite (.step hv2 (poolTest_only ..)) (.step hv (setBuf_only ..))

def execFreezeMessageParts : State → State → State :=
  fun s t => { s with
      dba.frozen := t.dba.frozen, fwd.poolMsgs := t.fwd.poolMsgs, fwd.moverFrozen := t.fwd.moverFrozen, fwd.macs := t.fwd.macs, outbox := t.outbox }

theorem execFreezeMessage_only (pool : Fin 4) (consumer : PoolConsumer) (s : State) :
    OnlyNext execFreezeMessageParts s (execFreezeMessage pool consumer s) := by
  unfold execFreezeMessage
  refine .next ?_
  split
  · exact .base
  · extract_lets _ v _ _
    refine .via v .base fun hv => ?_
    split
    · clear_value v
      exact hv.upd
    · clear_value v
      exact hv.upd
    · refine .foldl hv fun u x => ?_
      extract_lets _ _
      exact .step (.step .base (setMac_only ..)) (pauseWork_only ..)

theorem execThawMessage_only (pool : Fin 4) (consumer : PoolConsumer) (s : State) :
    OnlyNext execFreezeMessageParts s (execThawMessage pool consumer s) := by
  unfold execThawMessage
  refine .next ?_
  split
  · exact .base
  · extract_lets _ v _ _
    refine .via v .base fun hv => ?_
    split
    · clear_value v
      exact hv.upd
    · clear_value v
      exact hv.upd
    · refine .foldl hv fun u x => ?_
      extract_lets _
      exact .ite (.step (.step .base (setMac_only ..)) (pauseWork_only ..)) .base

theorem execCriticalMessage_only (pool : Fin 4) (s : State) :
    OnlyNext (fun s t => { s with fwd.poolMsgs := t.fwd.poolMsgs, fwd.moverCritical := t.fwd.moverCritical }) s (execCriticalMessage pool s) := by
  unfold execCriticalMessage
  refine .next ?_
  split
  · exact .base
  · extract_lets _ v _ _
    refine .via v .base fun hv => ?_
    clear_value v
    exact hv.upd

theorem execPoolStatus_only (mb : Fin 16) (s : State) : OnlyNext answered s (execPoolStatus mb s) := by
  unfold execPoolStatus
  refine hostCmd_only fun c u => ?_
  exact .okay .base

theorem execBufFaultLogRead_only (mb : Fin 16) (count : Nat) (s : State) :
    OnlyNext (fun s t => { answered s t with fwd.faultLog := t.fwd.faultLog }) s (execBufFaultLogRead mb count s) := by
  unfold execBufFaultLogRead
  refine hostCmd_only fun c u => ?_
  refine .ite (.fail .base) ?_
  extract_lets _ _
  exact .okay .base

/-! ### Machine/Glacier -/

theorem spillTo_only (s : State) (w : Nat) (q : Queue) (x : QFrame) :
    Only (fun s t => { s with fwd.ops := t.fwd.ops, fwd.downQ := t.fwd.downQ, fwd.upQ := t.fwd.upQ }) s (s.spillTo w q x) := by
  unfold State.spillTo
  extract_lets v
  refine .via v (.step .base (setQueue_only ..)) fun hv => ?_
  split
  · exact hv
  · exact .step hv (bufOp_only ..)

theorem execGlacierSpill_only (queue : Fin 81920) (s : State) : OnlyNext (fun s t => { s with
        par.ro := t.par.ro, ev.transit := t.ev.transit, ev.rate := t.ev.rate, fwd.ops := t.fwd.ops, fwd.downQ := t.fwd.downQ, fwd.upQ := t.fwd.upQ })
        s (execGlacierSpill queue s) := by
  unfold execGlacierSpill
  refine .next ?_
  extract_lets w q1 _ v2
  clear_value w q1
  refine .via v2 (.step .base (setQueue_only ..)) fun hv2 => ?_
  split
  · exact .base
  · exact .ite (.step (.step .base (spillTo_only ..)) (glacierTest_only ..)) .base
  · refine .ite (.step .base (spillTo_only ..)) ?_
    split
    · exact .base
    · exact .step (.step (.step hv2 (freeFrame_only ..)) (bumpF_only ..)) (raiseSec_only ..)

theorem execGlacierSpillAck_only (queue : Fin 81920) (s : State) :
    OnlyNext (fun s t => { s with fwd.ops := t.fwd.ops, fwd.downQ := t.fwd.downQ, fwd.upQ := t.fwd.upQ }) s (execGlacierSpillAck queue s) := by
  unfold execGlacierSpillAck
  refine .next ?_
  extract_lets _ r
  clear_value r
  split
  · exact .base
  · exact .step (.step .base (setQueue_only ..)) (freeFrame_only ..)

theorem execGlacierReturn_only (queue : Fin 81920) (error : Bool) (s : State) : OnlyNext (fun s t => { answered s t with
        par.ro := t.par.ro, fwd.wants := t.fwd.wants, fwd.downQ := t.fwd.downQ, fwd.upQ := t.fwd.upQ }) s (execGlacierReturn queue error s) := by
  unfold execGlacierReturn
  refine .next ?_
  extract_lets _ v q1 _ v2 _
  clear_value q1
  refine .via v (.step .base (glacierTest_only ..)) fun hv => ?_
  refine .via v2 (.step hv (setQueue_only ..)) fun hv2 => ?_
  split
  · exact hv
  · clear_value v v2
    refine .ite hv (.ite ?_ hv2.upd)
    extract_lets _ _
    exact .step (.step (.step (.step hv (setQueue_only ..)) (bumpF_only ..)) (glacierTest_only ..)) (drainTest_only ..)

theorem execGlacierStatus_only (mb : Fin 16) (rateIn rateOut : Nat) (s : State) : OnlyNext answered s (execGlacierStatus mb rateIn rateOut s) := by
  unfold execGlacierStatus
  refine hostCmd_only fun c u => ?_
  extract_lets f _
  exact .okay .base

theorem setDramCh_only (s : State) (d : Nat) (v : DramCh) : Only (fun s t => { s with fwd.dram := t.fwd.dram }) s (s.setDramCh d v) := .base

theorem countLate_only (s : State) (d : Nat) : Only (fun s t => { s with par.ro := t.par.ro, fwd.dram := t.fwd.dram }) s (s.countLate d) := by
  unfold State.countLate
  refine .foldl .base fun u x => ?_
  extract_lets _ _ _ f
  exact .ite .base (.step (.step .base (setDramCh_only ..)) (bump_only ..))

theorem retrainIn_only (s : State) (d : Nat) : Only (fun s t => { s with fwd.dram := t.fwd.dram }) s (s.retrainIn d) := by
  unfold State.retrainIn
  extract_lets _
  exact .ite (.step .base (setDramCh_only ..)) .base

theorem execDramRequest_only (channel : Fin 8) (arrived : List DramArg) (ecc : Fin 3) (s : State) : OnlyNext (fun s t => { s with
        par.ro := t.par.ro, ev.transit := t.ev.transit, power.selfRefresh := t.power.selfRefresh, fwd.dram := t.fwd.dram })
        s (execDramRequest channel arrived ecc s) := by
  unfold execDramRequest
  refine .next ?_
  extract_lets _ _ v v1
  clear_value v1
  refine .via v (.step (.step .base (setDramCh_only ..)) (countLate_only ..)) fun hv => ?_
  split
  · exact hv
  · split
    · exact hv
    · extract_lets _ v2 _ v3 _
      refine .via v2 (.step (.step hv (setDramCh_only ..)) (retrainIn_only ..)) fun hv2 => ?_
      clear_value v v2
      refine .via v3 hv2.upd fun hv3 => ?_
      exact .ite hv3 (.ite (.step (.step hv3 (setDramCh_only ..)) (bump_only ..)) (.step (.step hv3 (setDramCh_only ..)) (raise_only ..)))

theorem execDramRefresh_only (channel : Fin 8) (s : State) :
    OnlyNext (fun s t => { s with fwd.dram := t.fwd.dram }) s (execDramRefresh channel s) := by
  unfold execDramRefresh
  refine .next ?_
  extract_lets _
  exact .ite (.step .base (setDramCh_only ..)) (.step .base (setDramCh_only ..))

theorem execDramRetrainCheck_only (channel : Fin 8) (s : State) :
    OnlyNext (fun s t => { s with fwd.dram := t.fwd.dram }) s (execDramRetrainCheck channel s) := by
  unfold execDramRetrainCheck
  exact .next (.step (.step .base (setDramCh_only ..)) (retrainIn_only ..))

theorem execDramRetrainForced_only (channel : Fin 8) (s : State) :
    OnlyNext (fun s t => { s with ev.transit := t.ev.transit, fwd.dram := t.fwd.dram }) s (execDramRetrainForced channel s) := by
  unfold execDramRetrainForced
  refine .next ?_
  extract_lets _
  exact .ite (.step (.step .base (setDramCh_only ..)) (raise_only ..)) .base

theorem execDramStatus_only (mb : Fin 16) (s : State) : OnlyNext answered s (execDramStatus mb s) := by
  unfold execDramStatus
  refine hostCmd_only fun c u => ?_
  extract_lets _
  exact .okay .base

/-! ### Machine/Inject -/

theorem acceptOmci_only (s : State) (t : Nat) (data : List Byte) : OnlyIn Prod.fst (fun s t => { s with
        par.ro := t.par.ro, ev.transit := t.ev.transit, chans := t.chans, fwd.ops := t.fwd.ops, fwd.bufs := t.fwd.bufs, fwd.pools := t.fwd.pools,
        fwd.poolMsgs := t.fwd.poolMsgs, free := t.free }) s (s.acceptOmci t data) := by
  unfold State.acceptOmci
  extract_lets _
  refine .ite (.fst .base) ?_
  split
  · rename_i _ _ _ v h
    refine .via v (.snd h (.step .base (allocBuf_only ..))) fun hv1 => ?_
    split
    · rename_i _ _ v2 h
      refine .via v2 (.snd h (.step hv1 (draw_only ..))) fun hv3 => ?_
      extract_lets _ _ _ _ v4
      refine .via v4 (.step hv3 (setFramer_only ..)) fun hv4 => ?_
      exact .fst (.step hv4 (bufOp_only ..))
  · rename_i _ _ v5 _ h
    refine .via v5 (.snd h (.step .base (allocBuf_only ..))) fun hv6 => ?_
    exact .fst hv6

theorem acceptFrame_only (s : State) (meta_ : Nat) (data : List Byte) : OnlyIn Prod.fst (fun s t => { s with
        par.ro := t.par.ro, ev.transit := t.ev.transit, ev.rate := t.ev.rate, prot.queues := t.prot.queues, fwd.ops := t.fwd.ops,
        fwd.bufs := t.fwd.bufs, fwd.pools := t.fwd.pools, fwd.poolMsgs := t.fwd.poolMsgs, fwd.downQ := t.fwd.downQ, fwd.upQ := t.fwd.upQ,
        free := t.free }) s (s.acceptFrame meta_ data) := by
  unfold State.acceptFrame
  extract_lets w
  clear_value w
  refine .ite (.fst .base) ?_
  split
  · rename_i _ _ _ v1 h
    refine .via v1 (.snd h (.step .base (allocBuf_only ..))) fun hv2 => ?_
    split
    · rename_i _ _ v3 h
      refine .via v3 (.snd h (.step hv2 (draw_only ..))) fun hv4 => ?_
      extract_lets _ j5
      clear_value j5
      split
      · exact .fst (.step hv4 (tetherAdd_only ..))
      · exact .fst (.step hv4 (admitTo_only ..))
  · rename_i _ _ v6 _ h
    refine .via v6 (.snd h (.step .base (allocBuf_only ..))) fun hv7 => ?_
    exact .fst hv7

theorem acceptFromHost_only (s : State) (func meta_ : Nat) (data : List Byte) : OnlyIn Prod.fst (fun s t => { s with
        par.ro := t.par.ro, ev.transit := t.ev.transit, ev.rate := t.ev.rate, chans := t.chans, prot.queues := t.prot.queues, fwd.ops := t.fwd.ops,
        fwd.bufs := t.fwd.bufs, fwd.pools := t.fwd.pools, fwd.poolMsgs := t.fwd.poolMsgs, fwd.downQ := t.fwd.downQ, fwd.upQ := t.fwd.upQ,
        free := t.free }) s (acceptFromHost s func meta_ data) := by
  unfold acceptFromHost
  exact .ite (.of (.step .base (acceptOmci_only ..))) (.ite (.of (.step .base (acceptFrame_only ..))) (.fst .base))

/-! ### Machine/HostDma -/

theorem handOver_only (s : State) (c : Nat) : Only (fun s t => { s with host.channels := t.host.channels }) s (s.handOver c) := by
  unfold State.handOver
  extract_lets _
  exact .ite (.ite (.step (.step .base (setCh_only ..)) (testReq_only ..)) (.step .base (setCh_only ..))) .base

theorem requestCommit_only (s : State) (c : Nat) (late : Bool) :
    Only (fun s t => { s with host.channels := t.host.channels }) s (s.requestCommit c late) := by
  unfold State.requestCommit
  extract_lets _ v
  refine .via v (.step .base (setCh_only ..)) fun hv => ?_
  exact .ite (.step hv (handOver_only ..)) hv

theorem execShadowCommit_only (c : Fin 64) (late : Bool) (s : State) :
    OnlyNext (fun s t => { s with host.channels := t.host.channels }) s (execShadowCommit c late s) := by
  unfold execShadowCommit
  exact .next (.ite .base (.step .base (requestCommit_only ..)))

theorem chInterrupt_only (s : State) (c : Nat) :
    Only (fun s t => { s with host.pba := t.host.pba, host.channels := t.host.channels, outbox := t.outbox }) s (s.chInterrupt c) := by
  unfold State.chInterrupt
  extract_lets _ v
  refine .via v (.step .base (setCh_only ..)) fun hv => ?_
  exact .ite (.step hv (msix_only ..)) hv

theorem delivered_only (s : State) (p : Payload) : Only (fun s t => { s with
        host.pba := t.host.pba, ev.vectors := t.ev.vectors, ev.telUnexported := t.ev.telUnexported, outbox := t.outbox }) s (s.delivered p) := by
  unfold State.delivered
  split
  · exact .foldl .base fun _ _ => .step .base (visible_only ..)
  · exact .base
  · exact .base

theorem bufferMsg_only (s : State) : Only (fun s t => { s with
        par.ro := t.par.ro, host.staged := t.host.staged, host.omciLost := t.host.omciLost, ev.transit := t.ev.transit, ev.rate := t.ev.rate,
        ev.loss := t.ev.loss, ev.lostSinceBatch := t.ev.lostSinceBatch, ev.telUnexported := t.ev.telUnexported, fwd.ops := t.fwd.ops,
        fwd.bufs := t.fwd.bufs, fwd.pools := t.fwd.pools, fwd.poolMsgs := t.fwd.poolMsgs }) s (s.bufferMsg) := by
  unfold State.bufferMsg
  split
  · exact .base
  · split
    · exact .base
    · extract_lets p v1 _ v2
      refine .via v1 (.step .base (allocBuf_only ..)) fun hv1 => ?_
      clear_value v1
      refine .via v2 hv1.upd fun hv2 => ?_
      split
      · clear_value v2
        exact hv1.upd
      · exact hv1
      · split
        · exact .step hv2 (queueDrop_only ..)
        · exact hv2

theorem execBufferAlloc_only (cls : Fin 16) (length : Nat) (mb : Option (Fin 16)) (s : State) : OnlyNext (fun s t => { answered s t with
        par.ro := t.par.ro, host.staged := t.host.staged, host.omciLost := t.host.omciLost, ev.transit := t.ev.transit, ev.rate := t.ev.rate,
        ev.loss := t.ev.loss, ev.lostSinceBatch := t.ev.lostSinceBatch, ev.telUnexported := t.ev.telUnexported, fwd.rules := t.fwd.rules,
        fwd.recirc := t.fwd.recirc, fwd.wants := t.fwd.wants, fwd.ops := t.fwd.ops, fwd.jobs := t.fwd.jobs, fwd.bufs := t.fwd.bufs,
        fwd.pools := t.fwd.pools, fwd.poolMsgs := t.fwd.poolMsgs, fwd.downQ := t.fwd.downQ, fwd.upQ := t.fwd.upQ })
        s (execBufferAlloc cls length mb s) := by
  unfold execBufferAlloc
  refine .next (.ite (.step .base (bufferMsg_only ..)) (.ite ?_ ?_))
  · split
    · rename_i _ _ v h
      refine .via v (.snd h (.step .base (allocBuf_only ..))) fun hv1 => ?_
      split
      · exact hv1
      · split
        · exact .ite (.step hv1 (respond_only ..)) hv1
        · exact hv1
      · exact hv1
  · split
    · exact .base
    · extract_lets _ v2
      refine .via v2 .base fun hv2 => ?_
      split
      · rename_i _ _ v3 h
        refine .via v3 (.snd h (.step hv2 (allocBuf_only ..))) fun hv4 => ?_
        split
        · exact .step hv4 (grantWant_only ..)
        · exact .step hv4 (refuseWant_only ..)

theorem execDmaMessageEnqueue_only (func : Fin 5) (s : State) : OnlyNext (fun s t => { s with
        par.ro := t.par.ro, host.pba := t.host.pba, host.channels := t.host.channels, host.lastOf := t.host.lastOf, host.staged := t.host.staged,
        host.omciLost := t.host.omciLost, ev.transit := t.ev.transit, ev.store := t.ev.store, ev.vectors := t.ev.vectors, ev.rate := t.ev.rate,
        ev.loss := t.ev.loss, ev.lostSinceBatch := t.ev.lostSinceBatch, ev.telUnexported := t.ev.telUnexported, fwd.ops := t.fwd.ops,
        outbox := t.outbox }) s (execDmaMessageEnqueue func s) := by
  unfold execDmaMessageEnqueue
  refine .next ?_
  split
  · exact .base
  · split
    · extract_lets _ v _
      refine .via v (.step .base (freeMsg_only ..)) fun hv => ?_
      split
      · exact .foldl hv fun _ _ => .step .base (storePut_only ..)
      · clear_value v
        exact hv.upd
      · exact hv
    · refine .ite .base ?_
      extract_lets _ v1 _
      refine .via v1 .base fun hv1 => ?_
      exact .ite (.step hv1 (queueDrop_only ..)) (.step (.step hv1 (setCh_only ..)) (testReq_only ..))

theorem writeBack_only (s : State) (c index meta_ dstat done : Nat) (sop eop : Bool) :
    Only (fun s t => { s with host.channels := t.host.channels, outbox := t.outbox }) s (s.writeBack c index meta_ dstat done sop eop) := by
  unfold State.writeBack
  extract_lets _ v
  refine .via v (.step (.step .base (emit_only ..)) (emit_only ..)) fun hv => ?_
  exact .step hv (setCh_only ..)

theorem chError_only (s : State) (c index : Nat) : Only (fun s t => { s with host.channels := t.host.channels }) s (s.chError c index) := by
  unfold State.chError
  extract_lets _
  exact .step .base (setCh_only ..)

theorem takeDesc_only (s : State) (c : Nat) (w index : List Word) : Only (fun s t => { s with
        host.channels := t.host.channels, ev.transit := t.ev.transit, fwd.ops := t.fwd.ops, outbox := t.outbox }) s (s.takeDesc c w index) := by
  unfold State.takeDesc
  extract_lets _ v v1 v2 v3 _ _
  refine .via v (.step .base (setCh_only ..)) fun hv => ?_
  refine .via v1 (.ite (.step hv (dropMessage_only ..)) hv) fun hv1 => ?_
  refine .via v2 (.step hv1 (writeBack_only ..)) fun hv2 => ?_
  refine .via v3 (.step hv2 (chError_only ..)) fun hv3 => ?_
  exact .ite (.step hv3 (raise_only ..)) (.step .base (setCh_only ..))

theorem execDmaDescriptorTake_only (c : Fin 64) (desc index : List Word) (s : State) : OnlyNext (fun s t => { s with
        host.channels := t.host.channels, ev.transit := t.ev.transit, fwd.ops := t.fwd.ops, outbox := t.outbox })
        s (execDmaDescriptorTake c desc index s) := by
  unfold execDmaDescriptorTake
  refine .next ?_
  extract_lets _
  exact .ite (.ite (.step .base (takeDesc_only ..)) (.step .base (setCh_only ..))) .base

theorem execDmaOwnReread_only (c : Fin 64) (desc index : List Word) (s : State) : OnlyNext (fun s t => { s with
        host.channels := t.host.channels, ev.transit := t.ev.transit, fwd.ops := t.fwd.ops, outbox := t.outbox })
        s (execDmaOwnReread c desc index s) := by
  unfold execDmaOwnReread
  refine .next ?_
  extract_lets d v1
  clear_value d
  refine .via v1 (.step (.step .base (setCh_only ..)) (chError_only ..)) fun hv1 => ?_
  split
  · exact .base
  · exact .ite .base (.ite (.step .base (takeDesc_only ..)) (.ite (.step .base (setCh_only ..)) (.step hv1 (raise_only ..))))

theorem execDmaBurst_only (c : Fin 64) (data : List Byte) (s : State) :
    OnlyNext (fun s t => { s with host.channels := t.host.channels, outbox := t.outbox }) s (execDmaBurst c data s) := by
  unfold execDmaBurst
  refine .next ?_
  extract_lets d
  clear_value d
  split
  · exact .base
  · refine .ite .base (.ite ?_ ?_)
    · split
      · exact .base
      · extract_lets _ v1 v2
        refine .via v1 (.step .base (emit_only ..)) fun hv1 => ?_
        refine .via v2 (.step hv1 (setCh_only ..)) fun hv2 => ?_
        exact .step hv2 (testReq_only ..)
    · extract_lets _ _ v3 v4
      refine .via v3 (.step .base (emit_only ..)) fun hv3 => ?_
      refine .via v4 (.step hv3 (setCh_only ..)) fun hv4 => ?_
      exact .step hv4 (testReq_only ..)

theorem chainFrom_only (s : State) (c : Nat) : Only (fun s t => { s with host.channels := t.host.channels }) s (s.chainFrom c) := by
  unfold State.chainFrom
  exact .foldl .base fun _ _ => .ite (.step .base (setCh_only ..)) .base

theorem afterCompletion_only (s : State) (c : Nat) (irq : Bool) :
    Only (fun s t => { s with host.pba := t.host.pba, host.channels := t.host.channels, outbox := t.outbox }) s (s.afterCompletion c irq) := by
  unfold State.afterCompletion
  extract_lets _ _ v v1 v2 _ _ v3
  refine .via v (.step .base (setCh_only ..)) fun hv => ?_
  refine .via v1 (.ite (.step hv (chInterrupt_only ..)) hv) fun hv1 => ?_
  refine .via v2 (.step hv1 (chainFrom_only ..)) fun hv2 => ?_
  refine .via v3 (.step hv2 (setCh_only ..)) fun hv3 => ?_
  exact .step hv3 (handOver_only ..)

def completeDescParts : State → State → State :=
  fun s t => { s with
      par.ro := t.par.ro, host.pba := t.host.pba, host.channels := t.host.channels, ev.transit := t.ev.transit, ev.vectors := t.ev.vectors,
      ev.rate := t.ev.rate, ev.telUnexported := t.ev.telUnexported, chans := t.chans, prot.queues := t.prot.queues, fwd.ops := t.fwd.ops,
      fwd.bufs := t.fwd.bufs, fwd.pools := t.fwd.pools, fwd.poolMsgs := t.fwd.poolMsgs, fwd.downQ := t.fwd.downQ, fwd.upQ := t.fwd.upQ,
      outbox := t.outbox, free := t.free }

theorem completeDesc_only (s : State) (c : Nat) : Only completeDescParts s (s.completeDesc c) := by
  unfold State.completeDesc
  extract_lets d
  clear_value d
  split
  · exact .base
  · refine .ite .base (.ite ?_ ?_)
    · split
      · exact .base
      · extract_lets _ _ v1 _ v2 v3
        refine .via v1 (.step .base (writeBack_only ..)) fun hv1 => ?_
        refine .via v2 (.step (.step hv1 (setCh_only ..)) (freeMsg_only ..)) fun hv2 => ?_
        refine .via v3 (.ite (.step hv1 (dropMessage_only ..)) (.ite (.step (.step hv2 (delivered_only ..)) (testReq_only ..)) (.step hv1 (setCh_only
          ..)))) fun hv3 => ?_
        exact .step hv3 (afterCompletion_only ..)
    · extract_lets whole4
      clear_value whole4
      split
      · rename_i _ v5 _ h
        refine .via v5 (.fst h ?_) fun hv6 => ?_
        · split
          · exact .base
          · exact .step .base (acceptFromHost_only ..)
        refine .ite hv6 ?_
        extract_lets v7 _ v8
        refine .via v7 (.step hv6 (writeBack_only ..)) fun hv7 => ?_
        refine .via v8 (.ite (.step (.step hv7 (setCh_only ..)) (testReq_only ..)) hv7) fun hv8 => ?_
        exact .step hv8 (afterCompletion_only ..)

theorem execDmaDescriptorComplete_only (c : Fin 64) (s : State) : OnlyNext completeDescParts s (execDmaDescriptorComplete c s) := by
  unfold execDmaDescriptorComplete
  exact .next (.ite (.step .base (completeDesc_only ..)) .base)

theorem execDmaTriggerTimer_only (c : Fin 64) (s : State) :
    OnlyNext (fun s t => { s with host.channels := t.host.channels }) s (execDmaTriggerTimer c s) := by
  unfold execDmaTriggerTimer
  refine .next ?_
  extract_lets _
  exact .ite (.step .base (setCh_only ..)) .base

theorem execDmaCoalesceTimeout_only (c : Fin 64) (s : State) :
    OnlyNext (fun s t => { s with host.pba := t.host.pba, host.channels := t.host.channels, outbox := t.outbox }) s (execDmaCoalesceTimeout c s) := by
  unfold execDmaCoalesceTimeout
  exact .next (.ite .base (.step .base (chInterrupt_only ..)))

theorem execDmaBusError_only (c : Fin 64) (canWrite : Bool) (s : State) : OnlyNext (fun s t => { s with
        par.ro := t.par.ro, host.channels := t.host.channels, ev.transit := t.ev.transit, fwd.ops := t.fwd.ops, outbox := t.outbox })
        s (execDmaBusError c canWrite s) := by
  unfold execDmaBusError
  refine .next ?_
  extract_lets d v1 v2 _ v3 v4
  clear_value d
  refine .via v1 (.step .base (dropMessage_only ..)) fun hv1 => ?_
  refine .via v2 ?_ fun hv2 => ?_
  · unfold v2
    split
    · exact .ite (.step hv1 (writeBack_only ..)) hv1
    · exact hv1
  refine .via v3 (.step (.step hv2 (setCh_only ..)) (chError_only ..)) fun hv3 => ?_
  refine .via v4 (.step hv3 (bumpF_only ..)) fun hv4 => ?_
  exact .ite .base (.step hv4 (raise_only ..))

theorem enableCh_only (s : State) (c : Nat) : Only (fun s t => { s with host.channels := t.host.channels }) s (s.enableCh c) := by
  unfold State.enableCh
  extract_lets _
  exact .ite .base (.step (.step .base (setCh_only ..)) (handOver_only ..))

theorem execChEnableSet_only (c : Fin 64) (s : State) :
    OnlyNext (fun s t => { s with host.channels := t.host.channels }) s (execChEnableSet c s) := by
  unfold execChEnableSet
  exact .next (.step .base (enableCh_only ..))

theorem disableCh_only (s : State) (c : Nat) : Only (fun s t => { s with host.channels := t.host.channels }) s (s.disableCh c) := by
  unfold State.disableCh
  extract_lets _
  exact .ite .base (.step (.step (.step .base (setCh_only ..)) (testReq_only ..)) (handOver_only ..))

theorem execChEnableClear_only (c : Fin 64) (s : State) :
    OnlyNext (fun s t => { s with host.channels := t.host.channels }) s (execChEnableClear c s) := by
  unfold execChEnableClear
  exact .next (.step .base (disableCh_only ..))

theorem abortDesc_only (s : State) (c : Nat) : Only completeDescParts s (s.abortDesc c) := by
  unfold State.abortDesc
  extract_lets v d1
  clear_value d1
  refine .via v (.ite (.step .base (completeDesc_only ..)) .base) fun hv => ?_
  split
  · exact .step hv (setCh_only ..)
  · extract_lets _ v2 _
    refine .via v2 (.step hv (writeBack_only ..)) fun hv2 => ?_
    exact .step hv2 (setCh_only ..)

theorem abortCh_only (s : State) (c : Nat) : Only completeDescParts s (s.abortCh c) := by
  unfold State.abortCh
  extract_lets _ v _ v1
  refine .via v (.step (.step .base (abortDesc_only ..)) (dropMessage_only ..)) fun hv => ?_
  refine .via v1 (.step hv (setCh_only ..)) fun hv1 => ?_
  exact .ite (.step (.step hv1 (chInterrupt_only ..)) (handOver_only ..)) .base

theorem execChAbort_only (c : Fin 64) (s : State) : OnlyNext completeDescParts s (execChAbort c s) := by
  unfold execChAbort
  exact .next (.ite .base (.step .base (abortCh_only ..)))

theorem resumeCh_only (s : State) (c : Nat) : Only (fun s t => { s with host.channels := t.host.channels }) s (s.resumeCh c) := by
  unfold State.resumeCh
  extract_lets _
  exact .ite (.step .base (setCh_only ..)) .base

theorem execChResume_only (c : Fin 64) (s : State) : OnlyNext (fun s t => { s with host.channels := t.host.channels }) s (execChResume c s) := by
  unfold execChResume
  exact .next (.step .base (resumeCh_only ..))

theorem writeTail_only (s : State) (c tail : Nat) : Only (fun s t => { s with host.channels := t.host.channels }) s (s.writeTail c tail) := by
  unfold State.writeTail
  extract_lets _
  exact .ite .base (.step .base (setCh_only ..))

theorem execRingTailWrite_only (c : Fin 64) (tail : BitVec 16) (s : State) :
    OnlyNext (fun s t => { s with host.channels := t.host.channels }) s (execRingTailWrite c tail s) := by
  unfold execRingTailWrite
  exact .next (.step .base (writeTail_only ..))

theorem execDmaChannelOpen_only (mb : Fin 16) (chan func : Nat) (s : State) :
    OnlyNext (fun s t => { answered s t with host.channels := t.host.channels }) s (execDmaChannelOpen mb chan func s) := by
  unfold execDmaChannelOpen
  refine .next (commandWith_only fun c u => ?_)
  refine .ite (.fail .base) ?_
  extract_lets _ _ _ v
  refine .via v (.step .base (setCh_only ..)) fun hv => ?_
  exact .ite (.fail .base) (.okay (.step hv (testReq_only ..)))

theorem execDmaChannelClose_only (mb : Fin 16) (chan : Nat) (s : State) : OnlyNext (fun s t => { answered s t with
        par.ro := t.par.ro, host.channels := t.host.channels, ev.transit := t.ev.transit, ev.vectors := t.ev.vectors, ev.rate := t.ev.rate,
        ev.telUnexported := t.ev.telUnexported, chans := t.chans, prot.queues := t.prot.queues, fwd.ops := t.fwd.ops, fwd.bufs := t.fwd.bufs,
        fwd.pools := t.fwd.pools, fwd.poolMsgs := t.fwd.poolMsgs, fwd.downQ := t.fwd.downQ, fwd.upQ := t.fwd.upQ, free := t.free })
        s (execDmaChannelClose mb chan s) := by
  unfold execDmaChannelClose
  refine .next (commandWith_only fun c u => ?_)
  refine .ite (.fail .base) (.ite (.okay .base) ?_)
  extract_lets v _
  refine .via v (.step .base (abortCh_only ..)) fun hv => ?_
  exact .okay (.step hv (setCh_only ..))

theorem execDmaStatus_only (mb : Fin 16) (s : State) : OnlyNext answered s (execDmaStatus mb s) := by
  unfold execDmaStatus
  refine hostCmd_only fun c u => ?_
  exact .okay .base

/-! ### Machine/DeviceTime -/

theorem setTime_only (s : State) (ns : Nat) : Only (fun s t => { s with time.dev := t.time.dev }) s (s.setTime ns) := by
  unfold State.setTime
  exact .base

theorem withTod_only (s : State) (v : TodData) : Only (fun s t => { s with pon.tod := t.pon.tod }) s { s with pon.tod := v } := .base

theorem correct_only (s : State) (stamp sec : Nat) : Only (fun s t => { s with
        time.dev := t.time.dev, par.ro := t.par.ro, ev.transit := t.ev.transit, pon.tod := t.pon.tod }) s (s.correct stamp sec) := by
  unfold State.correct
  refine .ite (.step (.step (.step .base (setRo_only ..)) (withTod_only ..)) (withTod_only ..)) ?_
  exact .step (.step (.step (.step (.step .base (setRo_only ..)) (withTod_only ..)) (setTime_only ..)) (withTod_only ..)) (raise_only ..)

theorem setTod_only (s : State) (t : TodState) : Only (fun s t => { s with par.ro := t.par.ro, pon.tod := t.pon.tod }) s (s.setTod t) := by
  unfold State.setTod
  exact .step .base (setRo_only ..)

theorem goodEdge_only (s : State) (e : Int) (sec : Nat) :
    Only (fun s t => { s with par.ro := t.par.ro, ev.transit := t.ev.transit, pon.tod := t.pon.tod }) s (s.goodEdge e sec) := by
  unfold State.goodEdge
  extract_lets _ _ _ v v1 _ _
  refine .via v .base fun hv => ?_
  refine .via v1 (.step hv (setTod_only ..)) fun hv1 => ?_
  clear_value v v1
  exact .ite (.ite (.step hv1 (raiseAs_only ..)) (.step hv1.upd (raise_only ..))) hv

theorem takeEdge_only (s : State) (stamp sec : Nat) : Only (fun s t => { s with
        time.dev := t.time.dev, par.ro := t.par.ro, ev.transit := t.ev.transit, pon.tod := t.pon.tod }) s (s.takeEdge stamp sec) := by
  unfold State.takeEdge
  extract_lets _
  exact .step (.step .base (correct_only ..)) (goodEdge_only ..)

theorem unnamedEdge_only (s : State) (stamp : Nat) : Only (fun s t => { s with pon.tod := t.pon.tod }) s (s.unnamedEdge stamp) := .base

theorem startAcquiring_only (s : State) (stamp sec : Nat) : Only (fun s t => { s with
        time.dev := t.time.dev, par.ro := t.par.ro, ev.transit := t.ev.transit, pon.tod := t.pon.tod }) s (s.startAcquiring stamp sec) := by
  unfold State.startAcquiring
  extract_lets _ _ v
  refine .via v .base fun hv => ?_
  exact .step (.step (.step hv (correct_only ..)) (setTod_only ..)) (goodEdge_only ..)

theorem judgeEdge_only (s : State) (stamp : Nat) : Only (fun s t => { s with
        time.dev := t.time.dev, par.ro := t.par.ro, ev.transit := t.ev.transit, pon.tod := t.pon.tod }) s (s.judgeEdge stamp) := by
  unfold State.judgeEdge
  extract_lets t _ sec1 _ _ v2 run3 _ _
  clear_value t sec1 run3
  refine .via v2 .base fun hv2 => ?_
  refine .ite .base (.ite ?_ ?_)
  · split
    · exact .step .base (takeEdge_only ..)
    · exact .step .base (unnamedEdge_only ..)
  · split
    · exact .step hv2 (takeEdge_only ..)
    · clear_value v2
      exact hv2.upd

theorem execPpsEdge_only (time : Nat) (rising : Bool) (s : State) : OnlyNext (fun s t => { s with
        time.dev := t.time.dev, par.ro := t.par.ro, ev.transit := t.ev.transit, pon.tod := t.pon.tod }) s (execPpsEdge time rising s) := by
  unfold execPpsEdge
  refine .next (.ite .base ?_)
  extract_lets _ _ _ v t1 _ _
  clear_value t1
  refine .via v .base fun hv => ?_
  refine .ite (.step hv (judgeEdge_only ..)) ?_
  split
  · exact .step hv (startAcquiring_only ..)
  · clear_value v
    exact hv.upd

theorem execPpsEdgeMissing_only (s : State) :
    OnlyNext (fun s t => { s with par.ro := t.par.ro, ev.transit := t.ev.transit, pon.tod := t.pon.tod }) s (execPpsEdgeMissing s) := by
  unfold execPpsEdgeMissing
  refine .next ?_
  extract_lets _ _ _ v _ _ v1
  refine .via v .base fun hv => ?_
  clear_value v
  refine .via v1 hv.upd fun hv1 => ?_
  exact .ite (.step (.step hv1 (setTod_only ..)) (raise_only ..)) hv

theorem todError_only (s : State) (reason : Nat) :
    Only (fun s t => { s with ev.transit := t.ev.transit, pon.tod := t.pon.tod }) s (s.todError reason) := by
  unfold State.todError
  exact .step .base (raise_only ..)

theorem execTodMessage_only (bytes : List Byte) (s : State) :
    OnlyNext (fun s t => { s with par.ro := t.par.ro, ev.transit := t.ev.transit, pon.tod := t.pon.tod }) s (execTodMessage bytes s) := by
  unfold execTodMessage
  refine .next (.ite .base (.ite (.step .base (todError_only ..)) ?_))
  extract_lets t _ _ f1 _ v2 _ _ _ _
  clear_value t
  refine .via v2 (.step .base (setRo_only ..)) fun hv2 => ?_
  clear_value v2
  exact .ite (.step .base (todError_only ..)) (.ite (.step .base (todError_only ..)) (.ite (.step .base (todError_only ..)) (.ite (.ite hv2.upd
    (.step .base (todError_only ..))) (.step .base (setRo_only ..)))))

/-! ### Machine/LaneTest -/

theorem setLane_only (s : State) (type inst : Nat) (v : LaneTest) : Only (fun s t => { s with laneTest := t.laneTest }) s (s.setLane type inst v) :=
  .base

/-! ### Machine/Dba -/

theorem execAllocContract_only (mb : Fin 16) (alloc rf ra rna rm w lat preann : Nat) (s : State) : OnlyNext (fun s t => { answered s t with
        dba.allocs := t.dba.allocs, prot.streams := t.prot.streams, prot.txCounters := t.prot.txCounters })
        s (execAllocContract mb alloc rf ra rna rm w lat preann s) := by
  unfold execAllocContract
  refine hostCmd_only fun c u => ?_
  extract_lets _ _ v
  refine .via v (.step .base (setAlloc_only ..)) fun hv => ?_
  exact .ite (.fail .base) (.ite (.fail .base) (.okay (.ite (.step hv (mirror_only ..)) hv)))

theorem execAllocContractRead_only (mb : Fin 16) (alloc : Nat) (s : State) : OnlyNext answered s (execAllocContractRead mb alloc s) := by
  unfold execAllocContractRead
  refine hostCmd_only fun c u => ?_
  exact .ite (.fail .base) (.okay .base)

theorem execAllocMap_only (mb : Fin 16) (alloc c allocId term : Nat) (s : State) : OnlyNext (fun s t => { answered s t with
        ev.transit := t.ev.transit, dba.allocs := t.dba.allocs, prot.streams := t.prot.streams, prot.txCounters := t.prot.txCounters })
        s (execAllocMap mb alloc c allocId term s) := by
  unfold execAllocMap
  refine hostCmd_only fun c u => ?_
  refine .ite (.fail .base) (onTerm_only ?_)
  refine .ite (.fail .base) (.ite (.fail .base) (.ite (.fail .base) ?_))
  extract_lets _ _ v
  refine .via v (.step (.step .base (putAlloc_only ..)) (mirror_only ..)) fun hv => ?_
  exact .okay (.step hv (checkCommitted_only ..))

theorem execAllocUnmap_only (mb : Fin 16) (alloc : Nat) (s : State) : OnlyNext (fun s t => { answered s t with
        dba.allocs := t.dba.allocs, prot.streams := t.prot.streams, prot.txCounters := t.prot.txCounters }) s (execAllocUnmap mb alloc s) := by
  unfold execAllocUnmap
  refine hostCmd_only fun c u => ?_
  extract_lets _ _ _ _ _
  exact .ite (.fail .base) (.ite (.fail .base) (.ite (.fail .base) (.ite (.fst .base) (.okay (.step (.step .base (putAlloc_only ..)) (setAlloc_only
    ..))))))

theorem execLedgerReset_only (mb : Fin 16) (alloc : Nat) (s : State) :
    OnlyNext (fun s t => { answered s t with dba.allocs := t.dba.allocs }) s (execLedgerReset mb alloc s) := by
  unfold execLedgerReset
  refine hostCmd_only fun c u => ?_
  refine .ite (.fail .base) ?_
  extract_lets _ _
  exact .okay (.step .base (setAlloc_only ..))

theorem execDbaStatusRead_only (mb : Fin 16) (c : Nat) (s : State) : OnlyNext answered s (execDbaStatusRead mb c s) := by
  unfold execDbaStatusRead
  refine hostCmd_only fun c u => ?_
  refine .ite (.fail .base) ?_
  extract_lets _
  exact .okay .base

theorem preannEntry_only (s : State) (e : Nat × Nat × Nat × Nat) :
    OnlyIn Prod.fst (fun s t => { s with dba.preanns := t.dba.preanns }) s (preannEntry s e) := by
  unfold preannEntry
  split
  · extract_lets _ _ _ _ _ _ f _ _
    refine .ite ?_ (.ite ?_ (.ite ?_ ?_))
    · unfold f
      exact .fst .base
    · unfold f
      exact .fst .base
    · unfold f
      exact .fst .base
    · unfold f
      exact .fst .base

theorem execDbaPreannounce_only (mb : Fin 16) (s : State) :
    OnlyNext (fun s t => { answered s t with dba.preanns := t.dba.preanns }) s (execDbaPreannounce mb s) := by
  unfold execDbaPreannounce
  refine hostCmd_only fun c u => ?_
  extract_lets _
  refine .ite (.fail .base) (entriesCmd_only fun u x => ?_)
  exact .of (.step .base (preannEntry_only ..))

theorem execDbaPreannCancel_only (mb : Fin 16) (alloc : Nat) (frame : Option Nat) (s : State) :
    OnlyNext (fun s t => { answered s t with dba.preanns := t.dba.preanns }) s (execDbaPreannCancel mb alloc frame s) := by
  unfold execDbaPreannCancel
  refine hostCmd_only fun c u => ?_
  refine .ite (.fail .base) ?_
  extract_lets f _
  exact .okay .base

theorem execReportArrival_only (s : State) :
    OnlyNext (fun s t => { s with dba.allocs := t.dba.allocs, dba.transit := t.dba.transit }) s (execReportArrival s) := by
  unfold execReportArrival
  refine .next ?_
  split
  · exact .base
  · extract_lets _ v _
    refine .via v .base fun hv => ?_
    exact .ite (.step hv (setAlloc_only ..)) hv

theorem latchContracts_only (s : State) : Only (fun s t => { s with dba.allocs := t.dba.allocs }) s (s.latchContracts) := by
  unfold State.latchContracts
  exact .foldl .base fun _ _ => .step .base (setAlloc_only ..)

theorem latchCapacity_only (s : State) (c : Nat) :
    Only (fun s t => { s with par.ro := t.par.ro, ev.transit := t.ev.transit, dba.capacity := t.dba.capacity }) s (s.latchCapacity c) := by
  unfold State.latchCapacity
  extract_lets _ _ _ _ _ _ v v1
  refine .via v .base fun hv => ?_
  refine .via v1 (.step hv (setRo_only ..)) fun hv1 => ?_
  exact .ite hv1 (.step hv1 (raise_only ..))

theorem latchCut_only (s : State) (c : Nat) :
    Only (fun s t => { s with par.ro := t.par.ro, ev.transit := t.ev.transit, chans := t.chans }) s (s.latchCut c) := by
  unfold State.latchCut
  extract_lets ps was1 _ _ v2 _ v3
  clear_value ps was1
  refine .via v2 (.step .base (setChan_only ..)) fun hv2 => ?_
  refine .via v3 (.step hv2 (setRo_only ..)) fun hv3 => ?_
  split
  · exact .step hv3 (raise_only ..)
  · exact .step hv3 (raiseAs_only ..)
  · exact hv3

theorem latchReport_only (s : State) (c g n : Nat) :
    Only (fun s t => { s with par.ro := t.par.ro, dba.allocs := t.dba.allocs }) s (s.latchReport c g n) := by
  unfold State.latchReport
  extract_lets a rest1
  clear_value a rest1
  split
  · extract_lets v2
    refine .via v2 (.step .base (setAlloc_only ..)) fun hv2 => ?_
    exact .ite (.step hv2 (bump_only ..)) hv2

theorem bookOne_only (s : State) (t : Int) (p : Nat × WinReq) : Only (fun s t => { s with
        terms := t.terms, chans := t.chans, prot.streams := t.prot.streams, prot.txCounters := t.prot.txCounters, outbox := t.outbox })
        s (s.bookOne t p) := by
  unfold State.bookOne
  extract_lets _ _ _ v
  refine .via v (.step .base (setChan_only ..)) fun hv => ?_
  split
  · exact .ite (.step hv (putTerm_only ..)) hv
  · exact hv

theorem book_only (s : State) (g : Nat) (parts : List (Nat × WinReq)) : Only (fun s t => { s with
        terms := t.terms, chans := t.chans, prot.streams := t.prot.streams, prot.txCounters := t.prot.txCounters, outbox := t.outbox })
        s (s.book g parts) := by
  unfold State.book
  extract_lets _ _ _
  exact .foldl .base fun _ _ => .step .base (bookOne_only ..)

theorem bookDiscovery_only (n : Nat) (s : State) (n1 n2 : Nat) : Only (fun s t => { s with
        terms := t.terms, chans := t.chans, prot.streams := t.prot.streams, prot.txCounters := t.prot.txCounters, outbox := t.outbox })
        s (State.bookDiscovery n s n1 n2) := by
  induction n generalizing s n1 n2 with
  | zero => exact .base
  | succ n ih =>
    rw [State.bookDiscovery]
    exact .ite .base (.step (.step .base (book_only ..)) (ih ..))

theorem bookTree_only (s : State) (g tree : Nat) : Only (fun s t => { s with
        terms := t.terms, chans := t.chans, prot.streams := t.prot.streams, prot.txCounters := t.prot.txCounters, outbox := t.outbox })
        s (s.bookTree g tree) := by
  unfold State.bookTree
  extract_lets f v1 _ v2 f3
  refine .via v1 ?_ fun hv1 => ?_
  · unfold v1
    unfold f
    extract_lets _ f4 _ _ f5 _
    exact .step (.step .base (setChan_only ..)) (setChan_only ..)
  refine .via v2 (.step hv1 (bookDiscovery_only ..)) fun hv2 => ?_
  exact .foldl (.foldl hv2 fun _ _ => .step .base (book_only ..)) fun _ _ => .step .base (book_only ..)

theorem takePreanns_only (s : State) (g : Nat) :
    Only (fun s t => { s with ev.transit := t.ev.transit, dba.preannDrops := t.dba.preannDrops }) s (s.takePreanns g) := by
  unfold State.takePreanns
  refine .foldl .base fun u x => ?_
  extract_lets _ _
  exact .ite .base (.step .base (raise_only ..))

theorem latencyMiss_only (s : State) (n cause : Nat) :
    Only (fun s t => { s with par.ro := t.par.ro, ev.transit := t.ev.transit, ev.rate := t.ev.rate }) s (s.latencyMiss n cause) := by
  unfold State.latencyMiss
  extract_lets _
  exact .ite .base (.step (.step .base (bump_only ..)) (raiseSec_only ..))

theorem settleAlloc_only (s : State) (r : Run) (out : RunOut) (n : Nat) : Only (fun s t => { s with
        par.ro := t.par.ro, ev.transit := t.ev.transit, ev.rate := t.ev.rate, dba.allocs := t.dba.allocs }) s (s.settleAlloc r out n) := by
  unfold State.settleAlloc
  extract_lets a g1 _
  clear_value a g1
  split
  · extract_lets _ v2 v3
    refine .via v2 (.step .base (setAlloc_only ..)) fun hv2 => ?_
    refine .via v3 (.ite (.step hv2 (bump_only ..)) hv2) fun hv3 => ?_
    exact .foldl hv3 fun _ _ => .step .base (latencyMiss_only ..)

theorem runChannel_only (s : State) (g c : Nat) : Only (fun s t => { s with
        par.ro := t.par.ro, ev.transit := t.ev.transit, ev.rate := t.ev.rate, terms := t.terms, chans := t.chans, dba.allocs := t.dba.allocs,
        dba.capacity := t.dba.capacity }) s (s.runChannel g c) := by
  unfold State.runChannel
  extract_lets v v1 v2 v3 _ _ _ out4 v5 v6 _ _
  clear_value out4
  refine .via v (.step .base (latchCapacity_only ..)) fun hv => ?_
  refine .via v1 (.step hv (latchCut_only ..)) fun hv1 => ?_
  refine .via v2 (.foldl hv1 fun _ _ => .step .base (latchReport_only ..)) fun hv2 => ?_
  refine .via v3 (.foldl hv2 fun _ _ => .step .base (setTerm_only ..)) fun hv3 => ?_
  refine .via v5 ?_ fun hv5 => ?_
  · unfold v5
    split
    · exact .step hv3 (overcommit_only ..)
    · exact hv3
  refine .via v6 (.foldl hv5 fun _ _ => .step .base (settleAlloc_only ..)) fun hv6 => ?_
  exact .ite (.step hv3 (setChan_only ..)) (.step hv6 (setChan_only ..))

theorem execReportCutoff_only (s : State) : OnlyNext (fun s t => { s with
        par.ro := t.par.ro, ev.transit := t.ev.transit, ev.rate := t.ev.rate, terms := t.terms, chans := t.chans, dba.allocs := t.dba.allocs,
        dba.preanns := t.dba.preanns, dba.latchedFrozen := t.dba.latchedFrozen, dba.capacity := t.dba.capacity, dba.lastRun := t.dba.lastRun,
        dba.preannDrops := t.dba.preannDrops, prot.streams := t.prot.streams, prot.txCounters := t.prot.txCounters, outbox := t.outbox })
        s (execReportCutoff s) := by
  unfold execReportCutoff
  refine .next ?_
  split
  · exact .base
  · extract_lets v _ v1 _ v2 v3 v4 _
    refine .via v (.step .base (latchContracts_only ..)) fun hv => ?_
    clear_value v
    refine .via v1 hv.upd fun hv1 => ?_
    refine .via v2 (.step hv1 (takePreanns_only ..)) fun hv2 => ?_
    refine .via v3 (.foldl hv2 fun _ _ => .ite (.step .base (bookTree_only ..)) .base) fun hv3 => ?_
    refine .via v4 (.foldl hv3 fun _ _ => .step .base (runChannel_only ..)) fun hv4 => ?_
    clear_value v1 v2 v3 v4
    exact hv4.upd

/-! ### Machine/Maps -/

theorem leaveOut_only (s : State) (c : Nat) (p : TermGrant × Burst) :
    Only (fun s t => { s with par.ro := t.par.ro, ev.transit := t.ev.transit }) s (s.leaveOut c p) := by
  unfold State.leaveOut
  extract_lets v _
  refine .via v (.foldl .base fun _ _ => .step .base (bump_only ..)) fun hv => ?_
  exact .ite (.step hv (overcommit_only ..)) hv

theorem noteTimes_only (s : State) (k : EvKind) (inst n : Nat) : Only (fun s t => { s with ev.rate := t.ev.rate }) s (s.noteTimes k inst n) := by
  unfold State.noteTimes
  extract_lets _ _ _ _
  exact .base

theorem trimmed_only (s : State) (c n : Nat) :
    Only (fun s t => { s with par.ro := t.par.ro, ev.transit := t.ev.transit, ev.rate := t.ev.rate }) s (s.trimmed c n) := by
  unfold State.trimmed
  refine .ite .base ?_
  extract_lets v
  refine .via v (.step (.step .base (bump_only ..)) (noteTimes_only ..)) fun hv => ?_
  exact .step hv (raiseSec_only ..)

theorem execSolverOutputPosted_only (c : Fin 64) (s : State) : OnlyNext (fun s t => { s with
        par.ro := t.par.ro, ev.transit := t.ev.transit, ev.rate := t.ev.rate, chans := t.chans }) s (execSolverOutputPosted c s) := by
  unfold execSolverOutputPosted
  refine .next ?_
  extract_lets _ v _ v1
  clear_value v
  refine .via v1 (.step .base (setChan_only ..)) fun hv1 => ?_
  split
  · exact .base
  · refine .ite hv1 ?_
    extract_lets _ _ _ _ _ v2 v3 v4 _ _
    refine .via v2 (.foldl hv1 fun _ _ => .step .base (leaveOut_only ..)) fun hv2 => ?_
    refine .via v3 (.foldl hv2 fun _ _ => .step .base (latencyMiss_only ..)) fun hv3 => ?_
    refine .via v4 (.step hv3 (trimmed_only ..)) fun hv4 => ?_
    exact .step hv4 (setChan_only ..)

theorem keystreamFor_only (s : State) (c : Nat) (m : GrantMap) (t : Nat) : Only (fun s t => { s with
        pon.line := t.pon.line, cipher.generators := t.cipher.generators, cipher.regions := t.cipher.regions }) s (s.keystreamFor c m t) := by
  unfold State.keystreamFor
  extract_lets _ v parts1
  clear_value v parts1
  split
  · exact .base
  · refine .ite .base ?_
    split
    · rename_i _ _ v2 h
      refine .via v2 (.snd h (.step .base (addJob_only ..))) fun hv3 => ?_
      exact .step hv3 (setLine_only ..)

theorem keystreams_only (s : State) (c : Nat) (m : GrantMap) : Only (fun s t => { s with
        pon.line := t.pon.line, cipher.generators := t.cipher.generators, cipher.regions := t.cipher.regions }) s (s.keystreams c m) := by
  unfold State.keystreams
  exact .foldl .base fun _ _ => .step .base (keystreamFor_only ..)

theorem execMapDelivery_only (c : Fin 64) (errors : List (Nat × Byte)) (s : State) : OnlyNext (fun s t => { s with
        par.ro := t.par.ro, chans := t.chans, pon.line := t.pon.line, cipher.generators := t.cipher.generators, cipher.regions := t.cipher.regions })
        s (execMapDelivery c errors s) := by
  unfold execMapDelivery
  refine .next ?_
  extract_lets _ v v1 _
  clear_value v
  refine .via v1 (.step .base (setRo_only ..)) fun hv1 => ?_
  split
  · exact .base
  · extract_lets v2 _ _
    refine .via v2 (.step hv1 (setChan_only ..)) fun hv2 => ?_
    exact .ite hv2 (.step (.step hv2 (setChan_only ..)) (keystreams_only ..))

theorem chargeAlloc_only (s : State) (c g : Nat) (m : GrantMap) (entitled : List (Nat × Int)) (n : Nat) : Only (fun s t => { s with
        par.ro := t.par.ro, ev.transit := t.ev.transit, dba.allocs := t.dba.allocs, dba.clamps := t.dba.clamps, prot.streams := t.prot.streams,
        prot.txCounters := t.prot.txCounters, outbox := t.outbox }) s (s.chargeAlloc c g m entitled n) := by
  unfold State.chargeAlloc
  extract_lets _ _ _ _ _ _ v v1 _ v2 _
  refine .via v (.step .base (setAlloc_only ..)) fun hv => ?_
  refine .via v1 (.ite hv (.step hv (bump_only ..))) fun hv1 => ?_
  clear_value v v1
  refine .via v2 (.ite hv1 (.step hv1.upd (raise_only ..))) fun hv2 => ?_
  exact .ite (.step (.step hv2 (setAlloc_only ..)) (mirror_only ..)) hv2

theorem chooseMap_only (s : State) (c g : Nat) :
    Only (fun s t => { s with par.ro := t.par.ro, ev.transit := t.ev.transit, chans := t.chans }) s (s.chooseMap c g) := by
  unfold State.chooseMap
  extract_lets m _ f1 cause2
  clear_value m cause2
  split
  · exact .step .base (setChan_only ..)
  · exact .step (.step (.step .base (setChan_only ..)) (bumpF_only ..)) (raise_only ..)
  · exact .step (.step (.step .base (setChan_only ..)) (bumpF_only ..)) (raise_only ..)

theorem takePloam_only (s : State) (c : Nat) : Only (fun s t => { s with chans := t.chans }) s (s.takePloam c) := by
  unfold State.takePloam
  extract_lets v _ _ _ _ _
  refine .via v (.step .base (returnTaken_only ..)) fun hv => ?_
  exact .step hv (setChan_only ..)

def deadlineOfParts : State → State → State :=
  fun s t => { s with
      par.ro := t.par.ro, ev.transit := t.ev.transit, chans := t.chans, dba.allocs := t.dba.allocs, dba.clamps := t.dba.clamps,
      prot.streams := t.prot.streams, prot.txCounters := t.prot.txCounters, outbox := t.outbox }

theorem deadlineOf_only (s : State) (g c : Nat) : Only deadlineOfParts s (s.deadlineOf g c) := by
  unfold State.deadlineOf
  refine .ite ?_ ?_
  · extract_lets _ _
    exact .step .base (setChan_only ..)
  · extract_lets _ v _ v1 _ _ v2
    refine .via v (.step .base (chooseMap_only ..)) fun hv => ?_
    refine .via v1 (.foldl hv fun _ _ => .step .base (chargeAlloc_only ..)) fun hv1 => ?_
    refine .via v2 (.step hv1 (setChan_only ..)) fun hv2 => ?_
    exact .step hv2 (takePloam_only ..)

theorem execFramingDeadline_only (s : State) : OnlyNext deadlineOfParts s (execFramingDeadline s) := by
  unfold execFramingDeadline
  refine .next ?_
  split
  · exact .base
  · exact .foldl .base fun _ _ => .step .base (deadlineOf_only ..)

theorem execGmRead_only (mb : Fin 16) (c : Nat) (s : State) : OnlyNext answered s (execGmRead mb c s) := by
  unfold execGmRead
  refine hostCmd_only fun c u => ?_
  exact .ite (.fail .base) (.okay .base)

theorem execGmCalendarRead_only (mb : Fin 16) (c : Nat) (s : State) : OnlyNext answered s (execGmCalendarRead mb c s) := by
  unfold execGmCalendarRead
  refine hostCmd_only fun c u => ?_
  exact .ite (.fail .base) (.okay .base)

/-! ### Machine/Framing -/

theorem mirrorChannel_only (s : State) (c : Nat) :
    Only (fun s t => { s with prot.streams := t.prot.streams, prot.txCounters := t.prot.txCounters, outbox := t.outbox }) s (s.mirrorChannel c) := by
  unfold State.mirrorChannel
  exact .step .base (mirror_only ..)

def stopChannelParts : State → State → State :=
  fun s t => { answered s t with
      par.ro := t.par.ro, ev.transit := t.ev.transit, ev.rate := t.ev.rate, power.dark := t.power.dark, power.darkDue := t.power.darkDue,
      lanes.lanes := t.lanes.lanes, lanes.optics := t.lanes.optics, lanes.bmem := t.lanes.bmem, lanes.wakeRun := t.lanes.wakeRun,
      lanes.keepAwake := t.lanes.keepAwake, terms := t.terms, chans := t.chans, pon.tl := t.pon.tl, pon.gems := t.pon.gems, pon.line := t.pon.line,
      pon.reasm := t.pon.reasm, dba.allocs := t.dba.allocs, cipher.pairs := t.cipher.pairs, prot.streams := t.prot.streams,
      prot.txCounters := t.prot.txCounters, fwd.serial := t.fwd.serial, fwd.ops := t.fwd.ops, fwd.downQ := t.fwd.downQ, fwd.upQ := t.fwd.upQ,
      fwd.watch := t.fwd.watch }

theorem stopChannel_only (s : State) (c : Nat) : Only stopChannelParts s (s.stopChannel c) := by
  unfold State.stopChannel
  extract_lets v v1 v2 _ v3 _ _ v4 v5 v6 v7 v8
  refine .via v (.step .base (cancelEnable_only ..)) fun hv => ?_
  refine .via v1 (.step hv (dropSdus_only ..)) fun hv1 => ?_
  refine .via v2 (.step hv1 (setChan_only ..)) fun hv2 => ?_
  refine .via v3 (.step hv2 (setLn_only ..)) fun hv3 => ?_
  clear_value v v1 v2 v3
  refine .via v4 hv3.upd fun hv4 => ?_
  refine .via v5 (.foldl hv4 fun _ _ => .step (.step .base (setTerm_only ..)) (finishDeact_only ..)) fun hv5 => ?_
  refine .via v6 (.foldl hv5 fun _ _ => .step .base (respondAll_only ..)) fun hv6 => ?_
  refine .via v7 (.step hv6 (abandonSwitch_only ..)) fun hv7 => ?_
  refine .via v8 (.step (.step hv7 (mirrorChannel_only ..)) (applyLaneControls_only ..)) fun hv8 => ?_
  exact .step (.step hv8 (sleepLane_only ..)) (sleepLane_only ..)

theorem execChannelStop_only (c : Fin 64) (s : State) : OnlyNext stopChannelParts s (execChannelStop c s) := by
  unfold execChannelStop
  refine .next ?_
  split
  · exact .base
  · exact .base
  · exact .step (.step (.step .base (stopChannel_only ..)) (respondAll_only ..)) (endTimeline_only ..)

theorem firstStart_only (s : State) : OnlyIn Prod.snd (fun s t => { s with pon.tl := t.pon.tl }) s (s.firstStart) := by
  unfold State.firstStart
  split
  · exact .snd .base
  · extract_lets _ _ _ _
    exact .snd .base

theorem enforceChannel_only (s : State) (c : Nat) : Only (fun s t => { s with par.inForce := t.par.inForce }) s (s.enforceChannel c) := by
  unfold State.enforceChannel
  exact .step (.step (.step (.step .base (enforce_only ..)) (enforce_only ..)) (enforce_only ..)) (enforce_only ..)

theorem execChannelEnable_only (mb : Fin 16) (c : Nat) (s : State) : OnlyNext (fun s t => { answered s t with
        par.inForce := t.par.inForce, par.ro := t.par.ro, ev.transit := t.ev.transit, chans := t.chans, pon.tl := t.pon.tl })
        s (execChannelEnable mb c s) := by
  unfold execChannelEnable
  refine hostCmd_only fun c u => ?_
  refine .ite (.fail .base) (.ite (.okay .base) (.ite (.fail .base) (.ite (.fail .base) (.ite (.fail .base) ?_))))
  extract_lets v v1
  refine .via v (.step .base (enforceChannel_only ..)) fun hv => ?_
  refine .via v1 (.step hv (setRo_only ..)) fun hv1 => ?_
  split
  · rename_i _ _ v2 h
    refine .via v2 (.snd h (.step hv1 (firstStart_only ..))) fun hv3 => ?_
    extract_lets _ v4 v5
    refine .via v4 (.step hv3 (setChan_only ..)) fun hv4 => ?_
    refine .via v5 (.foldl hv4 fun _ _ => .step .base (queuePloam_only ..)) fun hv5 => ?_
    exact .fst hv5

theorem execChannelDisable_only (mb : Fin 16) (c : Nat) (s : State) :
    OnlyNext (fun s t => { answered s t with ev.transit := t.ev.transit, chans := t.chans }) s (execChannelDisable mb c s) := by
  unfold execChannelDisable
  refine hostCmd_only fun c u => ?_
  extract_lets _ v
  refine .via v (.step (.step .base (setChan_only ..)) (queuePloam_only ..)) fun hv => ?_
  exact .ite (.fail .base) (.ite (.okay .base) (.ite (.fst hv) (.ite (.fail .base) (.fst (.step .base (setChan_only ..))))))

theorem execTimeRead_only (mb : Fin 16) (s : State) : OnlyNext answered s (execTimeRead mb s) := by
  unfold execTimeRead
  refine hostCmd_only fun c u => ?_
  exact .okay .base

theorem stopAll_only (s : State) : Only stopChannelParts s (s.stopAll) := by
  unfold State.stopAll
  exact .step (.foldl .base fun _ _ => .step (.step .base (stopChannel_only ..)) (respondAll_only ..)) (endTimeline_only ..)

theorem setRef_only (s : State) (second present : Bool) :
    Only (fun s t => { s with clk.ref0 := t.clk.ref0, clk.ref1 := t.clk.ref1 }) s (s.setRef second present) := by
  unfold State.setRef
  exact .ite .base .base

theorem execPonRefLoss_only (ref : Fin 2) (s : State) : OnlyNext (fun s t => { answered s t with
        clk.ref0 := t.clk.ref0, clk.ref1 := t.clk.ref1, clk.selected := t.clk.selected, par.ro := t.par.ro, ev.transit := t.ev.transit,
        ev.rate := t.ev.rate, power.dark := t.power.dark, power.darkDue := t.power.darkDue, lanes.lanes := t.lanes.lanes,
        lanes.optics := t.lanes.optics, lanes.bmem := t.lanes.bmem, lanes.wakeRun := t.lanes.wakeRun, lanes.keepAwake := t.lanes.keepAwake,
        terms := t.terms, chans := t.chans, pon.tl := t.pon.tl, pon.gems := t.pon.gems, pon.line := t.pon.line, pon.reasm := t.pon.reasm,
        dba.allocs := t.dba.allocs, cipher.pairs := t.cipher.pairs, prot.streams := t.prot.streams, prot.txCounters := t.prot.txCounters,
        fwd.serial := t.fwd.serial, fwd.ops := t.fwd.ops, fwd.downQ := t.fwd.downQ, fwd.upQ := t.fwd.upQ, fwd.watch := t.fwd.watch })
        s (execPonRefLoss ref s) := by
  unfold execPonRefLoss
  refine .next ?_
  extract_lets _ _ _ v _
  refine .via v (.step .base (setRef_only ..)) fun hv => ?_
  clear_value v
  exact .ite .base (.ite hv (.ite (.step hv.upd (raise_only ..)) (.step (.step hv (stopAll_only ..)) (raise_only ..))))

theorem execEthRefLoss_only (s : State) : OnlyNext (fun s t => { s with clk.eth := t.clk.eth, ev.transit := t.ev.transit }) s (execEthRefLoss s) := by
  unfold execEthRefLoss
  refine .next (.ite .base ?_)
  extract_lets _ v
  refine .via v .base fun hv => ?_
  exact .ite (.step hv (raise_only ..)) hv

theorem execRefReturn_only (ref : Fin 3) (s : State) : OnlyNext (fun s t => { s with
        clk := t.clk, ev.transit := t.ev.transit, power.calDeferred := t.power.calDeferred, power.ponCalibrated := t.power.ponCalibrated })
        s (execRefReturn ref s) := by
  unfold execRefReturn
  refine .next (.ite .base ?_)
  extract_lets _ _ v _ _ _ v1
  refine .via v (.step .base (setRef_only ..)) fun hv => ?_
  clear_value v
  refine .via v1 hv.upd fun hv1 => ?_
  exact .ite hv (.ite (.step hv1 (raise_only ..)) hv1)

theorem alignTest_only (s : State) (g : Nat) :
    Only (fun s t => { s with par.ro := t.par.ro, ev.transit := t.ev.transit, pon.tl := t.pon.tl }) s (s.alignTest g) := by
  unfold State.alignTest
  extract_lets _ _ _ _ _ v
  refine .via v (.step .base (setRo_only ..)) fun hv => ?_
  exact .ite (.step hv (raise_only ..)) hv

theorem startChannel_only (s : State) (g c : Nat) : Only (fun s t => { answered s t with
        par.inForce := t.par.inForce, lanes.lanes := t.lanes.lanes, lanes.optics := t.lanes.optics, chans := t.chans, prot.streams := t.prot.streams,
        prot.txCounters := t.prot.txCounters }) s (s.startChannel g c) := by
  unfold State.startChannel
  extract_lets _ _ v v1 v2
  refine .via v (.step .base (setChan_only ..)) fun hv => ?_
  refine .via v1 (.step (.step (.step hv (wakeLane_only ..)) (wakeLane_only ..)) (mirrorChannel_only ..)) fun hv1 => ?_
  refine .via v2 (.ite (.step hv1 (brst_only ..)) hv1) fun hv2 => ?_
  exact .ite (.ite (.step hv2 (applyLaneControls_only ..)) (.step hv2 (openLosWindow_only ..))) (.ite (.step (.step .base (setChan_only ..))
    (respondAll_only ..)) .base)

theorem darkStart_only (s : State) (c : Nat) : Only (fun s t => { s with
        ev.transit := t.ev.transit, power.dark := t.power.dark, power.darkDue := t.power.darkDue, lanes.lanes := t.lanes.lanes,
        lanes.wakeRun := t.lanes.wakeRun, lanes.keepAwake := t.lanes.keepAwake }) s (s.darkStart c) := by
  unfold State.darkStart
  extract_lets _ due _ v1 _ _
  clear_value due
  refine .via v1 .base fun hv1 => ?_
  split
  · exact hv1
  · refine .ite hv1 ?_
    extract_lets v2 v3
    clear_value v1
    refine .via v2 hv1.upd fun hv2 => ?_
    refine .via v3 (.ite (.step (.step hv2 (sleepLane_only ..)) (sleepLane_only ..)) (.step (.step hv2 (wakeLane_only ..)) (wakeLane_only ..))) fun
      hv3 => ?_
    exact .step hv3 (raise_only ..)

theorem retryHeld_only (s : State) (c : Nat) : Only (fun s t => { s with chans := t.chans }) s (s.retryHeld c) := by
  unfold State.retryHeld
  extract_lets _ _ _ _
  exact .step .base (setChan_only ..)

theorem switchKeys_only (s : State) (g : Nat) :
    Only (fun s t => { s with ev.transit := t.ev.transit, cipher.pairs := t.cipher.pairs }) s (s.switchKeys g) := by
  unfold State.switchKeys
  refine .foldl .base fun u x => ?_
  split
  · exact .base
  · exact .ite (.step .base (switchKey_only ..)) (.step .base (setPair_only ..))

theorem grantTelemetry_only (s : State) (c : Nat) : Only (fun s t => { s with ev.telStaged := t.ev.telStaged }) s (s.grantTelemetry c) := by
  unfold State.grantTelemetry
  extract_lets _ _
  exact .step .base (produce_only ..)

theorem sendFrame_only (s : State) (g c : Nat) : Only (fun s t => { answered s t with
        par.ro := t.par.ro, ev.transit := t.ev.transit, ev.rate := t.ev.rate, ev.telStaged := t.ev.telStaged, lanes.lanes := t.lanes.lanes,
        lanes.optics := t.lanes.optics, lanes.bmem := t.lanes.bmem, lanes.keepAwake := t.lanes.keepAwake, terms := t.terms, chans := t.chans,
        pon.gems := t.pon.gems, pon.line := t.pon.line, pon.reasm := t.pon.reasm, dba.allocs := t.dba.allocs, cipher.pairs := t.cipher.pairs,
        prot.streams := t.prot.streams, prot.txCounters := t.prot.txCounters, fwd.serial := t.fwd.serial, fwd.ops := t.fwd.ops,
        fwd.downQ := t.fwd.downQ, fwd.upQ := t.fwd.upQ, fwd.watch := t.fwd.watch }) s (s.sendFrame g c) := by
  unfold State.sendFrame
  extract_lets _ _ v _ _ _ _ _ v1 _ v2 v3 v4 v5
  refine .via v (.ite (.step .base (returnTaken_only ..)) .base) fun hv => ?_
  refine .via v1 (.step hv (setChan_only ..)) fun hv1 => ?_
  refine .via v2 (.step hv1 (setLn_only ..)) fun hv2 => ?_
  refine .via v3 (.step hv2 (emit_only ..)) fun hv3 => ?_
  refine .via v4 (.step (.step hv3 (setRo_only ..)) (setRo_only ..)) fun hv4 => ?_
  refine .via v5 (.foldl hv4 fun _ _ => .step .base (ploamSent_only ..)) fun hv5 => ?_
  exact .step hv5 (grantTelemetry_only ..)

theorem postChannel_only (s : State) (c : Nat) : Only (fun s t => { s with par.ro := t.par.ro }) s (s.postChannel c) := by
  unfold State.postChannel
  extract_lets f _ _ v1
  refine .via v1 (.step .base (setRo_only ..)) fun hv1 => ?_
  exact .step hv1 (setRo_only ..)

theorem frameOf_only (s : State) (g c : Nat) : Only (fun s t => { answered s t with
        par.inForce := t.par.inForce, par.ro := t.par.ro, ev.transit := t.ev.transit, ev.rate := t.ev.rate, ev.telStaged := t.ev.telStaged,
        power.dark := t.power.dark, power.darkDue := t.power.darkDue, lanes.lanes := t.lanes.lanes, lanes.optics := t.lanes.optics,
        lanes.bmem := t.lanes.bmem, lanes.wakeRun := t.lanes.wakeRun, lanes.keepAwake := t.lanes.keepAwake, terms := t.terms, chans := t.chans,
        pon.gems := t.pon.gems, pon.line := t.pon.line, pon.reasm := t.pon.reasm, dba.allocs := t.dba.allocs, cipher.pairs := t.cipher.pairs,
        prot.streams := t.prot.streams, prot.txCounters := t.prot.txCounters, fwd.serial := t.fwd.serial, fwd.ops := t.fwd.ops,
        fwd.downQ := t.fwd.downQ, fwd.upQ := t.fwd.upQ, fwd.watch := t.fwd.watch }) s (s.frameOf g c) := by
  unfold State.frameOf
  extract_lets v _ v1 v2 v3 v4 _ _ _ v5
  refine .via v (.step (.step .base (startChannel_only ..)) (darkStart_only ..)) fun hv => ?_
  refine .via v1 (.step hv (setChan_only ..)) fun hv1 => ?_
  refine .via v2 (.step hv1 (retryHeld_only ..)) fun hv2 => ?_
  refine .via v3 (.ite (.step hv2 (setRo_only ..)) hv2) fun hv3 => ?_
  refine .via v4 (.step (.step hv3 (enforce_only ..)) (enforce_only ..)) fun hv4 => ?_
  refine .via v5 (.ite (.step (.step hv4 (sendFrame_only ..)) (driveLane_only ..)) (.step (.step hv4 (returnTaken_only ..)) (setChan_only ..))) fun
    hv5 => ?_
  exact .ite (.step (.step (.step hv5 (postChannel_only ..)) (postAsleep_only ..)) (postAsleep_only ..)) hv1

theorem firstFrames_only (s : State) : Only (fun s t => { s with prot.tokens := t.prot.tokens }) s (s.firstFrames) := by
  unfold State.firstFrames
  exact .foldl .base fun _ _ => .step .base (setToken_only ..)

theorem releasePulses_only (s : State) : Only (fun s t => { s with lanes.optics := t.lanes.optics }) s (s.releasePulses) := by
  unfold State.releasePulses
  exact .foldl .base fun _ _ => .step .base (setOptic_only ..)

theorem execFrameStart_only (s : State) : OnlyNext (fun s t => { answered s t with
        par.inForce := t.par.inForce, par.ro := t.par.ro, ev.transit := t.ev.transit, ev.rate := t.ev.rate, ev.telStaged := t.ev.telStaged,
        power.dark := t.power.dark, power.darkDue := t.power.darkDue, lanes.lanes := t.lanes.lanes, lanes.optics := t.lanes.optics,
        lanes.bmem := t.lanes.bmem, lanes.wakeRun := t.lanes.wakeRun, lanes.keepAwake := t.lanes.keepAwake, terms := t.terms, chans := t.chans,
        pon.tl := t.pon.tl, pon.gems := t.pon.gems, pon.line := t.pon.line, pon.reasm := t.pon.reasm, dba.allocs := t.dba.allocs,
        cipher.pairs := t.cipher.pairs, cipher.generators := t.cipher.generators, prot.tokens := t.prot.tokens, prot.streams := t.prot.streams,
        prot.txCounters := t.prot.txCounters, prot.wrap15 := t.prot.wrap15, fwd.serial := t.fwd.serial, fwd.ops := t.fwd.ops,
        fwd.downQ := t.fwd.downQ, fwd.upQ := t.fwd.upQ, fwd.watch := t.fwd.watch }) s (execFrameStart s) true := by
  unfold execFrameStart
  refine .next ?_
  split
  · exact .base
  · extract_lets _ _ v v1 v2
    refine .via v .base fun hv => ?_
    refine .via v1 (.step (.step (.step (.step hv (alignTest_only ..)) (setRo_only ..)) (firstFrames_only ..)) (releasePulses_only ..)) fun hv1 => ?_
    refine .via v2 (.step (.step hv1 (switchKeys_only ..)) (commitForced_only ..)) fun hv2 => ?_
    exact .foldl hv2 fun _ _ => .step .base (frameOf_only ..)

theorem sendXgem_only (s : State) (c : Nat) (x : DsSdu) (index : Nat) (key : Option KeyShares) (at_ len : Nat) (last : Bool) :
    Only (fun s t => { s with chans := t.chans, fwd.ops := t.fwd.ops, outbox := t.outbox }) s (s.sendXgem c x index key at_ len last) := by
  unfold State.sendXgem
  extract_lets _ _ _ f _
  refine .ite ?_ (.ite ?_ (.step (.step .base (setChan_only ..)) (idleFill_only ..)))
  · unfold f
    extract_lets v1
    refine .via v1 (.step (.step .base (setChan_only ..)) (emit_only ..)) fun hv1 => ?_
    exact .ite (.step hv1 (freeFrame_only ..)) hv1
  · unfold f
    extract_lets v2
    refine .via v2 (.step (.step .base (setChan_only ..)) (emit_only ..)) fun hv2 => ?_
    exact .ite (.step hv2 (freeFrame_only ..)) hv2

theorem dropKeyless_only (s : State) (c : Nat) (f : Frame) :
    Only (fun s t => { s with par.ro := t.par.ro, fwd.ops := t.fwd.ops }) s (s.dropKeyless c f) := by
  unfold State.dropKeyless
  exact .step (.step .base (bump_only ..)) (freeFrame_only ..)

theorem encrypt_only (s : State) (c : Nat) (key : Option KeyShares) (len : Nat) :
    OnlyIn Prod.snd (fun s t => { s with cipher.generators := t.cipher.generators, cipher.regions := t.cipher.regions }) s (s.encrypt c key len) := by
  unfold State.encrypt
  exact .ite (.snd .base) (.of (.step .base (transmitWork_only ..)))

def nextXgemParts : State → State → State :=
  fun s t => { s with
      par.ro := t.par.ro, chans := t.chans, cipher.generators := t.cipher.generators, cipher.regions := t.cipher.regions, fwd.ops := t.fwd.ops,
      outbox := t.outbox }

theorem nextXgem_only (n : Nat) (s : State) (n1 : Nat) : Only nextXgemParts s (State.nextXgem n s n1) := by
  induction n generalizing s n1 with
  | zero => exact .base
  | succ n ih =>
    rw [State.nextXgem]
    split
    · split
      · refine .ite ?_ (.step (.step (.step .base (setFramer_only ..)) (dropKeyless_only ..)) (ih ..))
        split
        · rename_i _ v h
          refine .via v (.snd h (.step .base (encrypt_only ..))) fun hv1 => ?_
          exact .step (.step hv1 (setChan_only ..)) (sendXgem_only ..)
        · rename_i _ v2 h
          refine .via v2 (.snd h (.step .base (encrypt_only ..))) fun hv3 => ?_
          exact .step hv3 (idleFill_only ..)
    · split
      · refine .ite ?_ (.step (.step (.step .base (setChan_only ..)) (dropKeyless_only ..)) (ih ..))
        split
        · rename_i _ v4 h
          refine .via v4 (.snd h (.step .base (encrypt_only ..))) fun hv5 => ?_
          extract_lets _ v6 v7
          refine .via v6 (.step hv5 (setChan_only ..)) fun hv6 => ?_
          refine .via v7 (.step hv6 (setRo_only ..)) fun hv7 => ?_
          exact .step hv7 (sendXgem_only ..)
        · rename_i _ v8 h
          refine .via v8 (.snd h (.step .base (encrypt_only ..))) fun hv9 => ?_
          exact .step hv9 (idleFill_only ..)
    · extract_lets k10
      clear_value k10
      split
      · exact .step .base (idleFill_only ..)
      · split
        · refine .ite ?_ (.step (.step (.step .base (setFramer_only ..)) (dropKeyless_only ..)) (ih ..))
          extract_lets len11 _ _
          clear_value len11
          split
          · rename_i _ v12 h
            refine .via v12 (.snd h (.step .base (encrypt_only ..))) fun hv13 => ?_
            exact .step (.step hv13 (setFramer_only ..)) (sendXgem_only ..)
          · rename_i _ v14 h
            refine .via v14 (.snd h (.step .base (encrypt_only ..))) fun hv15 => ?_
            exact .step hv15 (idleFill_only ..)

theorem execFragmentBoundary_only (c : Fin 64) (rekeyIdleNs : Nat) (s : State) : OnlyNext nextXgemParts s (execFragmentBoundary c rekeyIdleNs s) := by
  unfold execFragmentBoundary
  refine .next ?_
  extract_lets v _
  refine .via v (.ite .base (.step (.step .base (bump_only ..)) (idleFill_only ..))) fun hv => ?_
  exact .ite hv (.ite (.step hv (idleFill_only ..)) (.step hv (nextXgem_only ..)))

/-! ### Machine/Tethers -/

def restartPortParts : State → State → State :=
  fun s t => { s with
      ev.transit := t.ev.transit, prot.tokens := t.prot.tokens, prot.streams := t.prot.streams, prot.lanes := t.prot.lanes,
      prot.groups := t.prot.groups, prot.carrier := t.prot.carrier, prot.pairLost := t.prot.pairLost, prot.silent := t.prot.silent }

theorem restartPort_only (s : State) (p : Nat) : Only restartPortParts s (s.restartPort p) := by
  unfold State.restartPort
  exact .step (.step .base (dropLanes_only ..)) (judgeGroups_only ..)

/-! ### Machine/Takes -/

theorem setDevPower_only (s : State) (p : DevPower) (code cause : Nat) :
    Only (fun s t => { s with ev.transit := t.ev.transit, power.dev := t.power.dev }) s (s.setDevPower p code cause) := by
  unfold State.setDevPower
  exact .step .base (raise_only ..)

theorem wakeTrees_only (s : State) : Only (fun s t => { s with lanes.lanes := t.lanes.lanes }) s (s.wakeTrees) := by
  unfold State.wakeTrees
  exact .foldl .base fun _ _ => .step (.step .base (wakeLane_only ..)) (wakeLane_only ..)

theorem leaveStandby_only (s : State) (cause : Nat) : Only (fun s t => { s with
        ev.transit := t.ev.transit, power.dev := t.power.dev, power.selfRefresh := t.power.selfRefresh, lanes.lanes := t.lanes.lanes })
        s (s.leaveStandby cause) := by
  unfold State.leaveStandby
  refine .ite (.step ?_ (setDevPower_only ..)) .base
  extract_lets v _
  refine .via v (.step .base (wakeTrees_only ..)) fun hv => ?_
  clear_value v
  exact hv.upd

theorem reannounce_only (s : State) (g p : Nat) :
    Only (fun s t => { s with ev.transit := t.ev.transit, chans := t.chans, cipher.pairs := t.cipher.pairs }) s (s.reannounce g p) := by
  unfold State.reannounce
  split
  · exact .base
  · exact .ite .base (.step .base (commitSwitch_only ..))

theorem dropActivation_only (s : State) (t : Nat) : Only countReadmissionParts s (s.dropActivation t) := by
  unfold State.dropActivation
  extract_lets v _ v1 v2 _
  clear_value v
  refine .via v1 ?_ fun hv1 => ?_
  · unfold v1
    split
    · exact .step .base (setChan_only ..)
    · exact .base
  refine .via v2 (.step hv1 (releaseTerm_only ..)) fun hv2 => ?_
  exact .step hv2 (putTerm_only ..)

theorem askPopup_only (s : State) (t : Nat) :
    Only (fun s t => { s with ev.transit := t.ev.transit, terms := t.terms, chans := t.chans }) s (s.askPopup t) := by
  unfold State.askPopup
  extract_lets _
  exact .ite (.step (.step .base (setTerm_only ..)) (queuePloam_only ..)) .base

def takeTokenParts : State → State → State :=
  fun s t => { answered s t with
      par.inForce := t.par.inForce, par.ro := t.par.ro, ev.transit := t.ev.transit, ev.rate := t.ev.rate, power.dev := t.power.dev,
      power.selfRefresh := t.power.selfRefresh, lanes.lanes := t.lanes.lanes, lanes.bmem := t.lanes.bmem, terms := t.terms, chans := t.chans,
      pon.gems := t.pon.gems, pon.line := t.pon.line, pon.reasm := t.pon.reasm, dba.allocs := t.dba.allocs, cipher.pairs := t.cipher.pairs,
      prot.tokens := t.prot.tokens, prot.streams := t.prot.streams, prot.txCounters := t.prot.txCounters, fwd.serial := t.fwd.serial,
      fwd.ops := t.fwd.ops, fwd.downQ := t.fwd.downQ, fwd.upQ := t.fwd.upQ, fwd.watch := t.fwd.watch }

theorem takeToken_only (s : State) (t epoch cause : Nat) : Only takeTokenParts s (s.takeToken t epoch cause) := by
  unfold State.takeToken
  extract_lets _ v v1 v2 _ v3 v4 v5 _ _ v6 v7
  refine .via v (.step .base (setToken_only ..)) fun hv => ?_
  refine .via v1 (.step hv (setStream_only ..)) fun hv1 => ?_
  refine .via v2 (.step hv1 (enforce_only ..)) fun hv2 => ?_
  refine .via v3 (.foldl hv2 fun _ _ => .step .base (seedBm_only ..)) fun hv3 => ?_
  refine .via v4 (.foldl hv3 fun _ _ => .step .base (dropActivation_only ..)) fun hv4 => ?_
  refine .via v5 (.foldl hv4 fun _ _ => .step .base (askPopup_only ..)) fun hv5 => ?_
  refine .via v6 (.foldl hv5 fun _ _ => .step .base (reannounce_only ..)) fun hv6 => ?_
  refine .via v7 (.step hv6 (leaveStandby_only ..)) fun hv7 => ?_
  exact .step (.step hv7 (raise_only ..)) (postReady_only ..)

theorem haltChannel_only (s : State) (c : Nat) : Only (fun s t => { s with chans := t.chans }) s (s.haltChannel c) := by
  unfold State.haltChannel
  extract_lets _ _
  exact .step .base (setChan_only ..)

theorem haltTerm_only (s : State) (t : Nat) : Only (fun s t => { answered s t with terms := t.terms }) s (s.haltTerm t) := by
  unfold State.haltTerm
  extract_lets _ v
  refine .via v (.step .base (setTerm_only ..)) fun hv => ?_
  exact .step (.step hv (respondAll_only ..)) (respondAll_only ..)

theorem giveToken_only (s : State) (t : Nat) : Only (fun s t => { answered s t with
        terms := t.terms, chans := t.chans, prot.tokens := t.prot.tokens, prot.streams := t.prot.streams }) s (s.giveToken t) := by
  unfold State.giveToken
  extract_lets _ _ v v1 v2
  refine .via v (.step .base (setToken_only ..)) fun hv => ?_
  refine .via v1 (.step hv (setStream_only ..)) fun hv1 => ?_
  refine .via v2 (.step (.step hv1 (haltChannel_only ..)) (haltChannel_only ..)) fun hv2 => ?_
  exact .foldl hv2 fun _ _ => .step .base (haltTerm_only ..)

def enterHeldParts : State → State → State :=
  fun s t => { answered s t with
      ev.transit := t.ev.transit, terms := t.terms, chans := t.chans, prot.heldState := t.prot.heldState, prot.tokens := t.prot.tokens,
      prot.streams := t.prot.streams }

theorem enterHeld_only (s : State) : Only enterHeldParts s (s.enterHeld) := by
  unfold State.enterHeld
  extract_lets v _
  refine .via v (.foldl .base fun _ _ => .step .base (giveToken_only ..)) fun hv => ?_
  clear_value v
  exact .step hv.upd (postAllReady_only ..)

/-! ### Machine/Mirrors -/

theorem bulk_only (s : State) (t : Nat) :
    Only (fun s t => { s with prot.streams := t.prot.streams, prot.txCounters := t.prot.txCounters, outbox := t.outbox }) s (s.bulk t) := by
  unfold State.bulk
  extract_lets _ v v1
  refine .via v (.step .base (mirror_only ..)) fun hv => ?_
  refine .via v1 (.foldl hv fun _ _ => .step .base (mirror_only ..)) fun hv1 => ?_
  exact .step hv1 (mirror_only ..)

theorem applyTerminal_only (s : State) (t : Nat) (v : Terminal) (ref : Int) :
    Only (fun s t => { s with lanes.bmem := t.lanes.bmem, terms := t.terms }) s (s.applyTerminal t v ref) := by
  unfold State.applyTerminal
  extract_lets v _
  refine .via v (.step .base (setTerm_only ..)) fun hv => ?_
  exact .step hv (writeBm_only ..)

theorem applyAlloc_only (s : State) (n : Nat) (x : Alloc) :
    Only (fun s t => { s with terms := t.terms, dba.allocs := t.dba.allocs }) s (s.applyAlloc n x) := by
  unfold State.applyAlloc
  extract_lets _ v _
  refine .via v (.step .base (setAlloc_only ..)) fun hv => ?_
  exact .ite (.step hv (setTerm_only ..)) hv

theorem applyGem_only (s : State) (g : Nat) (e : GemEntry) :
    Only (fun s t => { s with terms := t.terms, pon.gems := t.pon.gems }) s (s.applyGem g e) := by
  unfold State.applyGem
  extract_lets v _
  refine .via v (.step .base (setGem_only ..)) fun hv => ?_
  exact .ite (.step hv (setTerm_only ..)) hv

theorem applyKey_only (s : State) (k : Nat) (w : Bool) (word0 word1 sfc blob : Nat) (msk : Bool) : Only (fun s t => { s with
        ev.transit := t.ev.transit, cipher.slots := t.cipher.slots, cipher.pairs := t.cipher.pairs, cipher.generators := t.cipher.generators })
        s (s.applyKey k w word0 word1 sfc blob msk) true := by
  unfold State.applyKey
  split
  · exact .base
  · split
    · exact .step .base (raise_only ..)
    · refine .ite .base (.ite ?_ ?_)
      · split
        · rename_i _ _ v h
          refine .via v (.snd h (.step .base (splitKey_only ..))) fun hv1 => ?_
          exact .step hv1 (setSlot_only ..)
      · extract_lets _ v2 _ _
        refine .via v2 (.step .base (loadKey_only ..)) fun hv2 => ?_
        exact .step hv2 (setPair_only ..)

theorem applyChannel_only (s : State) (c : Nat) (enabled : Bool) (teqd : Nat) (delta : Int) : Only (fun s t => { s with
        par.vals := t.par.vals, par.inForce := t.par.inForce, chans := t.chans, pon.tl := t.pon.tl }) s (s.applyChannel c enabled teqd delta) := by
  unfold State.applyChannel
  extract_lets v
  refine .via v (.step (.step (.step .base (setPar_only ..)) (setPar_only ..)) (enforce_only ..)) fun hv => ?_
  refine .ite ?_ (.ite (.step (.step hv (setChan_only ..)) (endTimeline_only ..)) hv)
  split
  · rename_i _ _ v1 h
    refine .via v1 (.snd h (.step (.step hv (enforceChannel_only ..)) (firstStart_only ..))) fun hv2 => ?_
    exact .step hv2 (setChan_only ..)

def applyBodyParts : State → State → State :=
  fun s t => { s with
      par.vals := t.par.vals, par.inForce := t.par.inForce, ev.transit := t.ev.transit, lanes.bmem := t.lanes.bmem, terms := t.terms,
      chans := t.chans, pon.tl := t.pon.tl, pon.gems := t.pon.gems, dba.allocs := t.dba.allocs, cipher.slots := t.cipher.slots,
      cipher.pairs := t.cipher.pairs, cipher.generators := t.cipher.generators, prot.streams := t.prot.streams }

theorem applyBody_only (s : State) (r : MirrorRec) : Only applyBodyParts s (s.applyBody r) true := by
  unfold State.applyBody
  split
  · exact .step .base (applyTerminal_only ..)
  · exact .step .base (applyAlloc_only ..)
  · exact .step .base (applyGem_only ..)
  · exact .step .base (setAlloc_only ..)
  · exact .step .base (setAlloc_only ..)
  · exact .step .base (applyKey_only ..)
  · exact .ite (.step .base (zeroSlot_only ..)) .base
  · exact .step .base (applyChannel_only ..)
  · exact .step .base (setStream_only ..)
  · exact .step .base (setStream_only ..)
  · extract_lets _
    exact .ite (.step .base (setStream_only ..)) .base

theorem applyRecord_only (s : State) (r : MirrorRec) : Only applyBodyParts s (s.applyRecord r) true := by
  unfold State.applyRecord
  extract_lets _ _ v _ v1 v2
  refine .via v (.step .base (setStream_only ..)) fun hv => ?_
  refine .via v1 (.step hv (setStream_only ..)) fun hv1 => ?_
  refine .via v2 (.ite (.step hv (applyBody_only ..)) (.step hv1 (raise_only ..))) fun hv2 => ?_
  exact .ite (.step hv2 (postReady_only ..)) hv2

theorem execMirrorRecordRx_only (s : State) : OnlyNext (fun s t => { s with
        par.vals := t.par.vals, par.inForce := t.par.inForce, ev.transit := t.ev.transit, lanes.bmem := t.lanes.bmem, terms := t.terms,
        chans := t.chans, pon.tl := t.pon.tl, pon.gems := t.pon.gems, dba.allocs := t.dba.allocs, cipher.slots := t.cipher.slots,
        cipher.pairs := t.cipher.pairs, cipher.generators := t.cipher.generators, prot.streams := t.prot.streams, prot.mirrorIn := t.prot.mirrorIn })
        s (execMirrorRecordRx s) true := by
  unfold execMirrorRecordRx
  refine .next ?_
  split
  · exact .base
  · extract_lets _ v
    refine .via v .base fun hv => ?_
    exact .ite hv (.step hv (applyRecord_only ..))

theorem execCheckpointEmit_only (s : State) : OnlyNext (fun s t => { s with
        prot.streams := t.prot.streams, prot.txCounters := t.prot.txCounters, outbox := t.outbox }) s (execCheckpointEmit s) := by
  unfold execCheckpointEmit
  exact .next (.foldl .base fun _ _ => .step .base (mirror_only ..))

theorem execCheckpointAbsent_only (stream : Fin 33) (s : State) :
    OnlyNext (fun s t => { s with ev.transit := t.ev.transit, prot.streams := t.prot.streams }) s (execCheckpointAbsent stream s) := by
  unfold execCheckpointAbsent
  refine .next ?_
  extract_lets _ _ v
  refine .via v (.step .base (setStream_only ..)) fun hv => ?_
  exact .ite (.step hv (postReady_only ..)) hv

/-! ### Machine/TetherRows -/

theorem lof_only (s : State) (i : Nat) : Only (fun s t => { s with ev.transit := t.ev.transit }) s (s.lof i) := by
  unfold State.lof
  exact .step .base (raise_only ..)

theorem setSmp_only (s : State) (k : Nat) (v : SmpPort) : Only (fun s t => { s with prot.smp := t.prot.smp }) s (s.setSmp k v) := .base

theorem smpOverrun_only (s : State) (k dir : Nat) : Only (fun s t => { s with ev.transit := t.ev.transit }) s (s.smpOverrun k dir) := by
  unfold State.smpOverrun
  exact .step .base (raise_only ..)

theorem mgmtIn_only (s : State) (k : Nat) (b : Byte) :
    Only (fun s t => { s with ev.transit := t.ev.transit, prot.smp := t.prot.smp }) s (s.mgmtIn k b) := by
  unfold State.mgmtIn
  extract_lets _
  exact .ite (.step (.step .base (setSmp_only ..)) (smpOverrun_only ..)) (.step .base (setSmp_only ..))

theorem mgmtFrame_only (s : State) (k : Nat) : Only (fun s t => { s with prot.smp := t.prot.smp, outbox := t.outbox }) s (s.mgmtFrame k) := by
  unfold State.mgmtFrame
  extract_lets v v1 v2
  refine .via v1 ?_ fun hv1 => ?_
  · unfold v1
    split
    · exact .base
    · exact .step (.step .base (setSmp_only ..)) (emit_only ..)
  refine .ite (.step hv1 (setSmp_only ..)) ?_
  split
  · exact hv1
  · exact .step (.step hv1 (setSmp_only ..)) (emit_only ..)

theorem overhead_only (s : State) (p : Nat) :
    Only (fun s t => { s with ev.transit := t.ev.transit, prot.smp := t.prot.smp, outbox := t.outbox }) s (s.overhead p) := by
  unfold State.overhead
  refine .ite .base ?_
  extract_lets v
  refine .via v ?_ fun hv => ?_
  · unfold v
    split
    · exact .base
    · extract_lets v1
      refine .via v1 (.ite (.step .base (mgmtIn_only ..)) .base) fun hv1 => ?_
      exact .ite (.step hv1 (mgmtIn_only ..)) hv1
  exact .step (.step hv (mgmtFrame_only ..)) (mgmtFrame_only ..)

theorem dropPayloads_only (s : State) (p : Nat) : Only (fun s t => { s with prot.lanes := t.prot.lanes }) s (s.dropPayloads p) := by
  unfold State.dropPayloads
  exact .foldl .base fun _ _ => .step .base (setTlane_only ..)

theorem execTetherLaneFrame_only (lane : Fin 34) (bits : BitVec 2048) (skew : Nat) (s : State) : OnlyNext (fun s t => { s with
        ev.transit := t.ev.transit, prot.tokens := t.prot.tokens, prot.streams := t.prot.streams, prot.lanes := t.prot.lanes,
        prot.groups := t.prot.groups, prot.carrier := t.prot.carrier, prot.smp := t.prot.smp, prot.pairLost := t.prot.pairLost,
        prot.silent := t.prot.silent, outbox := t.outbox }) s (execTetherLaneFrame lane bits skew s) := by
  unfold execTetherLaneFrame
  refine .next ?_
  extract_lets _ _ v _ v1 v2 v3
  refine .via v (.ite .base (.step .base (emit_only ..))) fun hv => ?_
  refine .via v1 (.step hv (setTlane_only ..)) fun hv1 => ?_
  refine .via v2 (.ite (.step hv1 (lof_only ..)) hv1) fun hv2 => ?_
  refine .via v3 (.ite hv (.ite (.step hv2 (judgeGroups_only ..)) hv2)) fun hv3 => ?_
  exact .ite .base (.ite (.step (.step hv3 (overhead_only ..)) (dropPayloads_only ..)) hv3)

theorem execTetherClockLoss_only (port : Fin 2) (s : State) : OnlyNext restartPortParts s (execTetherClockLoss port s) := by
  unfold execTetherClockLoss
  refine .next ?_
  extract_lets _ _ v
  refine .via v (.step .base (dropLanes_only ..)) fun hv => ?_
  exact .step (.foldl hv fun _ _ => .step .base (lof_only ..)) (judgeGroups_only ..)

theorem execTetherIdleExpiry_only (port : Fin 2) (received : Bool) (s : State) : OnlyNext (fun s t => { s with
        ev.transit := t.ev.transit, prot.tokens := t.prot.tokens, prot.streams := t.prot.streams, prot.lanes := t.prot.lanes,
        prot.groups := t.prot.groups, prot.carrier := t.prot.carrier, prot.sleeping := t.prot.sleeping, prot.pairLost := t.prot.pairLost,
        prot.silent := t.prot.silent }) s (execTetherIdleExpiry port received s) := by
  unfold execTetherIdleExpiry
  refine .next ?_
  extract_lets _ _ _ v
  refine .via v .base fun hv => ?_
  exact .ite (.ite (.step (.step hv (dropLanes_only ..)) (judgeGroups_only ..)) hv) .base

theorem execTetherWake_only (port : Fin 2) (received : Bool) (s : State) :
    OnlyNext (fun s t => { s with prot.sleeping := t.prot.sleeping }) s (execTetherWake port received s) := by
  unfold execTetherWake
  exact .next .base

theorem execSmpByteIn_only (smp : Fin 4) (byte : Byte) (s : State) :
    OnlyNext (fun s t => { s with ev.transit := t.ev.transit, prot.smp := t.prot.smp }) s (execSmpByteIn smp byte s) := by
  unfold execSmpByteIn
  refine .next ?_
  extract_lets _
  exact .ite .base (.ite (.step (.step .base (setSmp_only ..)) (smpOverrun_only ..)) (.step .base (setSmp_only ..)))

theorem sendTether_only (s : State) (g q : Nat) : Only (fun s t => { s with
        prot.txCounters := t.prot.txCounters, prot.queues := t.prot.queues, fwd.ops := t.fwd.ops, outbox := t.outbox }) s (s.sendTether g q) := by
  unfold State.sendTether
  split
  · exact .base
  · extract_lets _ _ _ v v1 _
    refine .via v .base fun hv => ?_
    refine .via v1 (.step hv (freeFrame_only ..)) fun hv1 => ?_
    exact .step (.step hv1 (takeCounter_only ..)) (emit_only ..)

def serveTetherParts : State → State → State :=
  fun s t => { s with
      cipher.generators := t.cipher.generators, cipher.regions := t.cipher.regions, prot.txCounters := t.prot.txCounters,
      prot.queues := t.prot.queues, prot.drr := t.prot.drr, prot.turn := t.prot.turn, fwd.ops := t.fwd.ops, outbox := t.outbox }

theorem serveTether_only (l : List Nat) (g n : Nat) (s : State) : Only serveTetherParts s (State.serveTether l g n s) := by
  induction n generalizing s with
  | zero => exact .base
  | succ n ih =>
    rw [State.serveTether]
    split
    · exact .step .base (ih ..)
    · extract_lets _
      refine .ite ?_ (.step .base (ih ..))
      split
      · rename_i _ v h
        refine .via v (.snd h (.step .base (transmitWork_only ..))) fun hv1 => ?_
        exact .step hv1.upd (sendTether_only ..)
      · rename_i _ v2 h
        refine .via v2 (.snd h (.step .base (transmitWork_only ..))) fun hv3 => ?_
        exact .base

theorem scheduleTether_only (s : State) (g : Nat) : Only serveTetherParts s (s.scheduleTether g) := by
  unfold State.scheduleTether
  extract_lets _
  exact .ite .base (.step .base (serveTether_only ..))

theorem execSchedHandover_only (inst : Fin 104) (s : State) : OnlyNext (fun s t => { answered s t with
        par.ro := t.par.ro, ev.transit := t.ev.transit, ev.rate := t.ev.rate, chans := t.chans, cipher.generators := t.cipher.generators,
        cipher.regions := t.cipher.regions, prot.txCounters := t.prot.txCounters, prot.queues := t.prot.queues, prot.drr := t.prot.drr,
        prot.turn := t.prot.turn, fwd.ops := t.fwd.ops, fwd.downQ := t.fwd.downQ, fwd.upQ := t.fwd.upQ, fwd.termNodes := t.fwd.termNodes,
        fwd.chanNodes := t.fwd.chanNodes, fwd.macNodes := t.fwd.macNodes, fwd.members := t.fwd.members, fwd.outer := t.fwd.outer,
        fwd.inner := t.fwd.inner, fwd.innerUp := t.fwd.innerUp, fwd.schedNext := t.fwd.schedNext, fwd.gates := t.fwd.gates, fwd.macs := t.fwd.macs,
        fwd.sas := t.fwd.sas }) s (execSchedHandover inst s) := by
  unfold execSchedHandover
  refine .next (.ite (.step .base (scheduleTether_only ..)) ?_)
  extract_lets v
  refine .via v (.step (.step (.step .base (settleShapers_only ..)) (openGates_only ..)) (holdHeads_only ..)) fun hv => ?_
  exact .ite (.step hv (scheduleMac_only ..)) (.step hv (scheduleTree_only ..))

theorem tetherAuthFail_only (s : State) (p t : Nat) :
    Only (fun s t => { s with par.ro := t.par.ro, ev.transit := t.ev.transit, ev.rate := t.ev.rate }) s (s.tetherAuthFail p t) := by
  unfold State.tetherAuthFail
  exact .step (.step .base (bump_only ..)) (raiseSec_only ..)

theorem takeGroup_only (s : State) (g : Nat) : OnlyIn Prod.snd (fun s t => { s with pace.spoiled := t.pace.spoiled }) s (s.takeGroup g) := by
  unfold State.takeGroup
  refine .of ?_
  refine .foldl_snd .base fun r x => ?_
  split
  · rename_i _ _ v h
    refine .via v (.snd h (.step .base (takeSpoiled_only ..))) fun hv1 => ?_
    exact hv1

theorem tetherPayload_only (s : State) (x : TetherPayload) : Only (fun s t => { s with
        par.ro := t.par.ro, ev.transit := t.ev.transit, ev.rate := t.ev.rate, prot.mirrorIn := t.prot.mirrorIn, fwd.serial := t.fwd.serial,
        fwd.wants := t.fwd.wants }) s (s.tetherPayload x) := by
  unfold State.tetherPayload
  split
  · exact .base
  · extract_lets _ _ _ _
    exact .base
  · exact .base
  · exact .foldl .base fun _ _ => .step .base (queueSer_only ..)

theorem execTetherFrameRx_only (port : Fin 2) (group : Fin 4) (skipped : Nat) (rx : TetherRx) (s : State) : OnlyNext (fun s t => { s with
        par.ro := t.par.ro, ev.transit := t.ev.transit, ev.rate := t.ev.rate, pace.spoiled := t.pace.spoiled,
        cipher.generators := t.cipher.generators, cipher.regions := t.cipher.regions, prot.rxCounters := t.prot.rxCounters,
        prot.skipped := t.prot.skipped, prot.mirrorIn := t.prot.mirrorIn, fwd.serial := t.fwd.serial, fwd.wants := t.fwd.wants })
        s (execTetherFrameRx port group skipped rx s) := by
  unfold execTetherFrameRx
  refine .next ?_
  extract_lets _ g _ v1 _ _ _ key2 last3 _
  clear_value g key2 last3
  refine .via v1 (.ite .base .base) fun hv1 => ?_
  refine .ite .base (.ite hv1 ?_)
  split
  · rename_i _ _ v4 h
    refine .via v4 (.snd h (.step hv1 (takeGroup_only ..))) fun hv5 => ?_
    split
    · rename_i _ _ v6 h
      refine .via v6 (.snd h (.step hv5 (receiveWork_only ..))) fun hv7 => ?_
      clear_value v1
      exact .ite (.step hv7 (tetherAuthFail_only ..)) (.ite (.step hv7 (cipherLate_only ..)) (.step hv7.upd (tetherPayload_only ..)))

/-! ### Machine/Pairs -/

theorem resetCounters_only (s : State) (k : Nat) : Only (fun s t => { s with
        prot.txCounters := t.prot.txCounters, prot.rxCounters := t.prot.rxCounters, prot.lastAccepted := t.prot.lastAccepted })
        s (s.resetCounters k) := by
  unfold State.resetCounters
  extract_lets _ _
  exact .base

theorem commitTether_only (s : State) (k : Nat) : Only (fun s t => { answered s t with
        cipher.generators := t.cipher.generators, prot.streams := t.prot.streams, prot.txCounters := t.prot.txCounters,
        prot.rxCounters := t.prot.rxCounters, prot.lastAccepted := t.prot.lastAccepted, prot.keySlot := t.prot.keySlot,
        prot.keyCommit := t.prot.keyCommit, prot.wrap15 := t.prot.wrap15 }) s (s.commitTether k) true := by
  unfold State.commitTether
  extract_lets _ v
  refine .via v .base fun hv => ?_
  split
  · exact hv
  · exact .step (.step (.step hv (commitKey_only ..)) (resetCounters_only ..)) (answerCommit_only ..)

theorem execTetherKeyTimeout_only (s : State) :
    OnlyNext (fun s t => { answered s t with ev.transit := t.ev.transit, prot.keySlot := t.prot.keySlot }) s (execTetherKeyTimeout s) true := by
  unfold execTetherKeyTimeout
  refine .next ?_
  split
  · exact .base
  · refine .ite .base ?_
    extract_lets _ v _ v1
    refine .via v (.step .base (setSlot_only ..)) fun hv => ?_
    clear_value v
    refine .via v1 hv.upd fun hv1 => ?_
    exact .step (.step hv1 (raise_only ..)) (respondAll_only ..)

theorem execMultiframeStart_only (s : State) : OnlyNext (fun s t => { answered s t with
        cipher.generators := t.cipher.generators, prot.streams := t.prot.streams, prot.txCounters := t.prot.txCounters,
        prot.rxCounters := t.prot.rxCounters, prot.msgCount := t.prot.msgCount, prot.lastAccepted := t.prot.lastAccepted,
        prot.keySlot := t.prot.keySlot, prot.keyCommit := t.prot.keyCommit, prot.wrap15 := t.prot.wrap15 }) s (execMultiframeStart s) true := by
  unfold execMultiframeStart
  refine .next ?_
  extract_lets _ v v1
  refine .via v .base fun hv => ?_
  refine .via v1 ?_ fun hv1 => ?_
  · refine .ite ?_ hv
    split
    · exact .step hv (commitTether_only ..)
    · exact hv
  exact .ite (.step hv1 (emit_only ..)) hv1

theorem measureDelay_only (s : State) (m : PairMsg) (round : Nat) :
    Only (fun s t => { s with prot.delay := t.prot.delay }) s (s.measureDelay m round) := .base

theorem measureOffset_only (s : State) (m : PairMsg) (at_ : Nat) : Only (fun s t => { s with
        ev.transit := t.ev.transit, prot.offset := t.prot.offset, prot.mismatch := t.prot.mismatch, prot.mismatchAt := t.prot.mismatchAt })
        s (s.measureOffset m at_) := by
  unfold State.measureOffset
  extract_lets _ _ _ _ v _ v1
  refine .via v .base fun hv => ?_
  clear_value v
  refine .via v1 hv.upd fun hv1 => ?_
  clear_value v1
  exact .ite (.ite hv1 (.step hv1 (raise_only ..))) (.ite hv.upd hv)

theorem matchKeys_only (s : State) (m : PairMsg) : Only (fun s t => { s with prot.keyCommit := t.prot.keyCommit }) s (s.matchKeys m) := by
  unfold State.matchKeys
  split
  · exact .base
  · exact .ite (.ite .base .base) .base

theorem switchTest_only (s : State) : Only answered s (s.switchTest) := by
  unfold State.switchTest
  exact .ite .base (.step .base (respondAll_only ..))

theorem pairTree_only (s : State) (prev : Option PairMsg) (m : PairMsg) (t : Nat) : Only takeTokenParts s (s.pairTree prev m t) := by
  unfold State.pairTree
  extract_lets _ v _ v1 _ v2 v3 _ _ v4 _ v5
  refine .via v (.ite (.step .base (setToken_only ..)) .base) fun hv => ?_
  refine .via v1 (.step hv (giveToken_only ..)) fun hv1 => ?_
  refine .via v2 (.ite (.step hv1 (setToken_only ..)) hv) fun hv2 => ?_
  refine .via v3 (.step hv2 (takeToken_only ..)) fun hv3 => ?_
  refine .via v4 (.ite (.step hv3 (setToken_only ..)) (.ite (.step hv2 (setToken_only ..)) hv2)) fun hv4 => ?_
  refine .via v5 (.ite (.step hv4 (setToken_only ..)) hv4) fun hv5 => ?_
  exact .ite (.step hv5 (bulk_only ..)) hv5

theorem silenceTest_only (s : State) (m : PairMsg) : Only (fun s t => { answered s t with
        ev.transit := t.ev.transit, terms := t.terms, chans := t.chans, prot.heldState := t.prot.heldState, prot.tokens := t.prot.tokens,
        prot.streams := t.prot.streams, prot.wasSilent := t.prot.wasSilent }) s (s.silenceTest m) := by
  unfold State.silenceTest
  refine .ite .base ?_
  extract_lets _ v
  refine .via v .base fun hv => ?_
  exact .ite (.step (.step hv (enterHeld_only ..)) (raise_only ..)) hv

theorem conflictTest_only (s : State) (m : PairMsg) (t : Nat) : Only enterHeldParts s (s.conflictTest m t) := by
  unfold State.conflictTest
  extract_lets _ _
  exact .ite (.step (.step .base (enterHeld_only ..)) (raise_only ..)) .base

theorem execPairMessageRx_only (port : Fin 2) (tagGood : Bool) (msg : PairMsg) (held round timeline : Nat) (s : State) :
    OnlyNext (fun s t => { answered s t with
        par.inForce := t.par.inForce, par.ro := t.par.ro, ev.transit := t.ev.transit, ev.rate := t.ev.rate, power.dev := t.power.dev,
        power.selfRefresh := t.power.selfRefresh, lanes.lanes := t.lanes.lanes, lanes.bmem := t.lanes.bmem, terms := t.terms, chans := t.chans,
        pon.gems := t.pon.gems, pon.line := t.pon.line, pon.reasm := t.pon.reasm, dba.allocs := t.dba.allocs, cipher.pairs := t.cipher.pairs,
        prot.heldState := t.prot.heldState, prot.tokens := t.prot.tokens, prot.streams := t.prot.streams, prot.txCounters := t.prot.txCounters,
        prot.lastAccepted := t.prot.lastAccepted, prot.peer := t.prot.peer, prot.peerAt := t.prot.peerAt, prot.peerStart := t.prot.peerStart,
        prot.delay := t.prot.delay, prot.offset := t.prot.offset, prot.mismatch := t.prot.mismatch, prot.mismatchAt := t.prot.mismatchAt,
        prot.wasSilent := t.prot.wasSilent, prot.keyCommit := t.prot.keyCommit, fwd.serial := t.fwd.serial, fwd.ops := t.fwd.ops,
        fwd.downQ := t.fwd.downQ, fwd.upQ := t.fwd.upQ, fwd.watch := t.fwd.watch }) s (execPairMessageRx port tagGood msg held round timeline s) := by
  unfold execPairMessageRx
  refine .next (.ite (.step .base (tetherAuthFail_only ..)) (.ite .base ?_))
  extract_lets _ _ v v1 v2 v3 v4
  refine .via v .base fun hv => ?_
  refine .via v1 (.step (.step hv (measureDelay_only ..)) (measureOffset_only ..)) fun hv1 => ?_
  refine .via v2 (.step (.step hv1 (matchKeys_only ..)) (silenceTest_only ..)) fun hv2 => ?_
  refine .via v3 (.foldl hv2 fun _ _ => .step .base (conflictTest_only ..)) fun hv3 => ?_
  refine .via v4 (.foldl hv3 fun _ _ => .step .base (pairTree_only ..)) fun hv4 => ?_
  exact .ite (.step hv1 (matchKeys_only ..)) (.step (.step hv4 (postAllReady_only ..)) (switchTest_only ..))

theorem execSwitchTakenTimeout_only (tree : Fin 32) (s : State) :
    OnlyNext (fun s t => { answered s t with ev.transit := t.ev.transit, prot.tokens := t.prot.tokens }) s (execSwitchTakenTimeout tree s) := by
  unfold execSwitchTakenTimeout
  refine .next ?_
  extract_lets _
  exact .ite (.step (.step (.step .base (setToken_only ..)) (blocked_only ..)) (respondAll_only ..)) .base

theorem execHeartbeatRefresh_only (s : State) :
    OnlyNext (fun s t => { s with prot.hbRefreshed := t.prot.hbRefreshed, prot.fenced := t.prot.fenced }) s (execHeartbeatRefresh s) := by
  unfold execHeartbeatRefresh
  exact .next (.ite .base .base)

theorem execHeartbeatToggle_only (s : State) :
    OnlyNext (fun s t => { s with prot.hbLevel := t.prot.hbLevel, outbox := t.outbox }) s (execHeartbeatToggle s) := by
  unfold execHeartbeatToggle
  exact .next (.ite (.step .base (emit_only ..)) .base)

theorem execProtSelfFence_only (s : State) : OnlyNext (fun s t => { s with
        ev.transit := t.ev.transit, prot.tokens := t.prot.tokens, prot.fenced := t.prot.fenced }) s (execProtSelfFence s) := by
  unfold execProtSelfFence
  refine .next (.ite .base ?_)
  extract_lets _ v
  refine .via v (.foldl .base fun _ _ => .step .base (setToken_only ..)) fun hv => ?_
  exact .step hv (raise_only ..)

theorem execPairHbInEdge_only (s : State) : OnlyNext (fun s t => { s with
        ev.transit := t.ev.transit, prot.streams := t.prot.streams, prot.hbEdgeAt := t.prot.hbEdgeAt, prot.pairLost := t.prot.pairLost,
        prot.silent := t.prot.silent }) s (execPairHbInEdge s) := by
  unfold execPairHbInEdge
  refine .next (.ite .base ?_)
  extract_lets _ v
  refine .via v .base fun hv => ?_
  exact .ite hv (.step hv (losePair_only ..))

theorem takeSilent_only (s : State) (t : Nat) : Only takeTokenParts s (s.takeSilent t) := by
  unfold State.takeSilent
  extract_lets _
  exact .ite .base (.ite (.step .base (takeToken_only ..)) (.step .base (blocked_only ..)))

theorem followEpoch_only (s : State) (t : Nat) : Only (fun s t => { s with prot.tokens := t.prot.tokens }) s (s.followEpoch t) := by
  unfold State.followEpoch
  split
  · extract_lets _ _
    exact .ite (.step .base (setToken_only ..)) .base
  · exact .base

theorem execPeerSilent_only (s : State) : OnlyNext (fun s t => { answered s t with
        par.inForce := t.par.inForce, par.ro := t.par.ro, ev.transit := t.ev.transit, ev.rate := t.ev.rate, power.dev := t.power.dev,
        power.selfRefresh := t.power.selfRefresh, lanes.lanes := t.lanes.lanes, lanes.bmem := t.lanes.bmem, terms := t.terms, chans := t.chans,
        pon.gems := t.pon.gems, pon.line := t.pon.line, pon.reasm := t.pon.reasm, dba.allocs := t.dba.allocs, cipher.pairs := t.cipher.pairs,
        prot.tokens := t.prot.tokens, prot.streams := t.prot.streams, prot.txCounters := t.prot.txCounters, prot.silent := t.prot.silent,
        prot.wasSilent := t.prot.wasSilent, fwd.serial := t.fwd.serial, fwd.ops := t.fwd.ops, fwd.downQ := t.fwd.downQ, fwd.upQ := t.fwd.upQ,
        fwd.watch := t.fwd.watch }) s (execPeerSilent s) := by
  unfold execPeerSilent
  refine .next (.ite .base ?_)
  extract_lets _ v
  refine .via v .base fun hv => ?_
  exact .ite (.foldl hv fun _ _ => .step (.step .base (followEpoch_only ..)) (takeSilent_only ..)) hv

theorem execTetherStatus_only (mb : Fin 16) (s : State) : OnlyNext answered s (execTetherStatus mb s) := by
  unfold execTetherStatus
  refine hostCmd_only fun c u => ?_
  exact .okay .base

theorem execTetherRestart_only (mb : Fin 16) (port : Nat) (s : State) : OnlyNext (fun s t => { answered s t with
        par.inForce := t.par.inForce, ev.transit := t.ev.transit, prot.tokens := t.prot.tokens, prot.streams := t.prot.streams,
        prot.lanes := t.prot.lanes, prot.groups := t.prot.groups, prot.carrier := t.prot.carrier, prot.pairLost := t.prot.pairLost,
        prot.silent := t.prot.silent }) s (execTetherRestart mb port s) := by
  unfold execTetherRestart
  refine hostCmd_only fun c u => ?_
  refine .ite (.fail .base) (.ite (.fail .base) ?_)
  extract_lets v v1
  refine .via v (.step (.step (.step .base (enforce_only ..)) (enforce_only ..)) (enforce_only ..)) fun hv => ?_
  refine .via v1 (.foldl hv fun _ _ => .step .base (enforce_only ..)) fun hv1 => ?_
  exact .okay (.step hv1 (restartPort_only ..))

theorem execProtPair_only (mb : Fin 16) (memberB paired : Bool) (s : State) : OnlyNext (fun s t => { answered s t with
        ev.transit := t.ev.transit, prot.paired := t.prot.paired, prot.memberB := t.prot.memberB, prot.streams := t.prot.streams })
        s (execProtPair mb memberB paired s) := by
  unfold execProtPair
  refine hostCmd_only fun c u => ?_
  exact .okay (.step .base (postAllReady_only ..))

theorem execProtCommission_only (mb : Fin 16) (tree : Nat) (s : State) :
    OnlyNext (fun s t => { answered s t with prot.commission := t.prot.commission }) s (execProtCommission mb tree s) := by
  unfold execProtCommission
  refine hostCmd_only fun c u => ?_
  refine .ite (.fail .base) (.ite (.fail .base) (.ite (.fail .base) ?_))
  extract_lets _ _ v
  refine .via v .base fun hv => ?_
  exact .fst (.foldl hv fun _ _ => .step .base (emit_only ..))

theorem execCommissionTimeout_only (tree : Fin 32) (s : State) : OnlyNext endCommissionParts s (execCommissionTimeout tree s) := by
  unfold execCommissionTimeout
  refine .next ?_
  split
  · exact .base
  · exact .step .base (endCommission_only ..)

theorem execProtSwitch_only (mb : Fin 16) (named : List Nat) (s : State) :
    OnlyNext (fun s t => { answered s t with ev.transit := t.ev.transit, prot.tokens := t.prot.tokens }) s (execProtSwitch mb named s) := by
  unfold execProtSwitch
  refine hostCmd_only fun c u => ?_
  exact .ite (.fail .base) (.ite (.fail .base) (.ite (.fail (.foldl .base fun _ _ => .step .base (blocked_only ..))) (.fst (.foldl .base fun _ _ =>
    .step .base (startSwitch_only ..)))))

theorem claimTree_only (s : State) (t : Nat) : OnlyIn Prod.fst takeTokenParts s (claimTree s t) := by
  unfold claimTree
  extract_lets _ v
  refine .via v (.step .base (followEpoch_only ..)) fun hv => ?_
  refine .ite (.fst .base) (.ite (.fst .base) (.ite (.fst .base) (.ite (.fst .base) ?_)))
  split
  · exact .fst .base
  · exact .ite (.fst (.step .base (setToken_only ..))) (.fst (.step hv (takeToken_only ..)))

theorem execProtClaim_only (mb : Fin 16) (named : List Nat) (s : State) : OnlyNext takeTokenParts s (execProtClaim mb named s) := by
  unfold execProtClaim
  refine hostCmd_only fun c u => ?_
  refine .ite (.fail .base) (entriesCmd_only fun u x => ?_)
  exact .of (.step .base (claimTree_only ..))

theorem execProtReadmit_only (mb : Fin 16) (s : State) : OnlyNext (fun s t => { answered s t with
        ev.transit := t.ev.transit, prot.heldState := t.prot.heldState, prot.streams := t.prot.streams }) s (execProtReadmit mb s) := by
  unfold execProtReadmit
  refine hostCmd_only fun c u => ?_
  exact .okay (.step .base (postAllReady_only ..))

theorem execProtStatus_only (mb : Fin 16) (s : State) : OnlyNext answered s (execProtStatus mb s) := by
  unfold execProtStatus
  refine hostCmd_only fun c u => ?_
  extract_lets f f1
  exact .okay .base

theorem resyncTree_only (s : State) (t : Nat) : OnlyIn Prod.fst (fun s t => { s with prot.streams := t.prot.streams }) s (resyncTree s t) := by
  unfold resyncTree
  exact .ite (.fst .base) (.ite (.fst .base) (.fst (.step .base (setStream_only ..))))

theorem execMirrorResync_only (mb : Fin 16) (named : List Nat) (s : State) :
    OnlyNext (fun s t => { answered s t with prot.streams := t.prot.streams }) s (execMirrorResync mb named s) := by
  unfold execMirrorResync
  refine hostCmd_only fun c u => ?_
  refine .ite (.fail .base) (entriesCmd_only fun u x => ?_)
  exact .of (.step .base (resyncTree_only ..))

/-! ### Machine/UplinkRows -/

theorem countVerdict_only (s : State) (m reason : Nat) (sa : Option Nat) : Only (fun s t => { s with
        ev.transit := t.ev.transit, ev.rate := t.ev.rate, fwd.macs := t.fwd.macs, fwd.sas := t.fwd.sas }) s (s.countVerdict m reason sa) := by
  unfold State.countVerdict
  extract_lets _ v
  refine .via v ?_ fun hv => ?_
  · unfold v
    split
    · exact .step .base (setSa_only ..)
    · exact .step .base (setMac_only ..)
  exact .step hv (raiseSec_only ..)

theorem acceptPn_only (s : State) (n pn : Nat) : Only (fun s t => { s with fwd.sas := t.fwd.sas }) s (s.acceptPn n pn) := by
  unfold State.acceptPn
  split
  · exact .base
  · exact .step .base (setSa_only ..)

theorem toLane_only (s : State) (m : Nat) (f : Frame) : Only (fun s t => { s with fwd.toParse := t.fwd.toParse }) s (s.toLane m f) := by
  unfold State.toLane
  extract_lets _ _
  exact .base

theorem verify_only (s : State) (m : Nat) (f : Frame) (tag : Option SecTag) : Only (fun s t => { s with
        par.ro := t.par.ro, ev.transit := t.ev.transit, ev.rate := t.ev.rate, cipher.cutThrough := t.cipher.cutThrough, fwd.toParse := t.fwd.toParse,
        fwd.macs := t.fwd.macs, fwd.sas := t.fwd.sas }) s (s.verify m f tag) := by
  unfold State.verify
  extract_lets _
  split
  · exact .step .base (toLane_only ..)
  · split
    · extract_lets v _
      refine .via v ?_ fun hv => ?_
      · unfold v
        split
        · exact .step .base (countSpec_only ..)
        · exact .base
      split
      · extract_lets v1
        refine .via v1 (.ite hv (.step hv (countVerdict_only ..))) fun hv1 => ?_
        exact .ite (.step hv1 (toLane_only ..)) hv1
      · split
        · clear_value v
          exact .ite (.step hv.upd (toLane_only ..)) (.step (.step hv (acceptPn_only ..)) (toLane_only ..))
        · exact .step hv (toLane_only ..)

theorem secWork_only (s : State) (m : Nat) (tag : Option SecTag) :
    OnlyIn Prod.snd (fun s t => { s with cipher.generators := t.cipher.generators, cipher.regions := t.cipher.regions }) s (s.secWork m tag) := by
  unfold State.secWork
  split
  · exact .snd .base
  · split
    · exact .snd .base
    · extract_lets _
      exact .ite (.snd .base) (.of (.step .base (receiveWork_only ..)))

theorem takeMac_only (s : State) (m : Nat) : OnlyIn Prod.snd (fun s t => { s with pace.spoiled := t.pace.spoiled }) s (s.takeMac m) := by
  unfold State.takeMac
  refine .of ?_
  refine .foldl_snd .base fun r x => ?_
  split
  · rename_i _ _ v h
    refine .via v (.snd h (.step .base (takeSpoiled_only ..))) fun hv1 => ?_
    exact hv1

theorem execUplinkFrameRx_only (mac : Fin 32) (frame : Frame) (pcsError fcsBad : Bool) (tag : Option SecTag) (s : State) :
    OnlyNext (fun s t => { s with
        par.ro := t.par.ro, ev.transit := t.ev.transit, ev.rate := t.ev.rate, pace.spoiled := t.pace.spoiled,
        cipher.generators := t.cipher.generators, cipher.regions := t.cipher.regions, cipher.cutThrough := t.cipher.cutThrough,
        fwd.toParse := t.fwd.toParse, fwd.macs := t.fwd.macs, fwd.sas := t.fwd.sas }) s (execUplinkFrameRx mac frame pcsError fcsBad tag s) := by
  unfold execUplinkFrameRx
  refine .next ?_
  extract_lets m
  clear_value m
  refine .ite .base ?_
  split
  · rename_i _ _ v1 h
    refine .via v1 (.snd h (.step .base (takeMac_only ..))) fun hv2 => ?_
    extract_lets _ v3 v4
    refine .via v3 (.step hv2 (setMac_only ..)) fun hv3 => ?_
    refine .via v4 (.step (.step hv3 (stat_only ..)) (stat_only ..)) fun hv4 => ?_
    refine .ite (.step hv3 (stat_only ..)) (.ite (.step hv3 (stat_only ..)) (.ite (.step hv3 (stat_only ..)) (.ite (.step hv3 (stat_only ..)) (.ite
      (.step hv4 (toLane_only ..)) (.ite (.step hv4 (verify_only ..)) ?_)))))
    split
    · rename_i _ v5 h
      refine .via v5 (.snd h (.step hv4 (secWork_only ..))) fun hv6 => ?_
      exact .step hv6 (verify_only ..)
    · rename_i _ v7 h
      refine .via v7 (.snd h (.step hv4 (secWork_only ..))) fun hv8 => ?_
      exact .step hv8 (cipherLate_only ..)

theorem dropFromQueue_only (s : State) (w id : Nat) :
    Only (fun s t => { answered s t with fwd.ops := t.fwd.ops, fwd.downQ := t.fwd.downQ, fwd.upQ := t.fwd.upQ }) s (s.dropFromQueue w id) := by
  unfold State.dropFromQueue
  extract_lets _ f _ f1 v2
  refine .via v2 (.step .base (setQueue_only ..)) fun hv2 => ?_
  exact .ite .base (.step (.step (.foldl hv2 fun _ _ => .step .base (freeFrame_only ..)) (glacierTest_only ..)) (drainTest_only ..))

theorem spoilFramer_only (s : State) (c id : Nat) :
    Only (fun s t => { s with chans := t.chans, fwd.ops := t.fwd.ops, outbox := t.outbox }) s (s.spoilFramer c id) := by
  unfold State.spoilFramer
  extract_lets _ _ f v1
  refine .via v1 (.foldl (.step .base (setFramer_only ..)) fun _ _ => .step .base (freeFrame_only ..)) fun hv1 => ?_
  exact .ite (.step hv1 (emit_only ..)) hv1

theorem spoilFrame_only (s : State) (id : Nat) : Only (fun s t => { answered s t with
        chans := t.chans, fwd.rules := t.fwd.rules, fwd.toParse := t.fwd.toParse, fwd.recirc := t.fwd.recirc, fwd.wants := t.fwd.wants,
        fwd.ops := t.fwd.ops, fwd.jobs := t.fwd.jobs, fwd.downQ := t.fwd.downQ, fwd.upQ := t.fwd.upQ }) s (s.spoilFrame id) := by
  unfold State.spoilFrame
  refine .ite (.step .base (emit_only ..)) ?_
  extract_lets f f1 _ _ _ _ _ v2 v3 v4 v5 v6
  refine .via v2 .base fun hv2 => ?_
  refine .via v3 (.foldl hv2 fun _ _ => .step (.step .base (landed_only ..)) (freeFrame_only ..)) fun hv3 => ?_
  refine .via v4 (.foldl hv3 fun _ _ => .step .base (freeFrame_only ..)) fun hv4 => ?_
  refine .via v5 (.foldl hv4 fun _ _ => .step .base (dropFromQueue_only ..)) fun hv5 => ?_
  refine .via v6 (.foldl hv5 fun _ _ => .step .base (dropFromQueue_only ..)) fun hv6 => ?_
  exact .foldl hv6 fun _ _ => .step .base (spoilFramer_only ..)

theorem execMacsecVerdict_only (id : Nat) (good : Bool) (s : State) : OnlyNext (fun s t => { answered s t with
        par.ro := t.par.ro, ev.transit := t.ev.transit, ev.rate := t.ev.rate, chans := t.chans, cipher.cutThrough := t.cipher.cutThrough,
        fwd.rules := t.fwd.rules, fwd.toParse := t.fwd.toParse, fwd.recirc := t.fwd.recirc, fwd.wants := t.fwd.wants, fwd.ops := t.fwd.ops,
        fwd.jobs := t.fwd.jobs, fwd.downQ := t.fwd.downQ, fwd.upQ := t.fwd.upQ, fwd.macs := t.fwd.macs, fwd.sas := t.fwd.sas })
        s (execMacsecVerdict id good s) := by
  unfold execMacsecVerdict
  refine .next ?_
  split
  · exact .base
  · extract_lets _ _ _ v v1
    refine .via v .base fun hv => ?_
    refine .via v1 (.step (.step hv (countVerdict_only ..)) (spoilFrame_only ..)) fun hv1 => ?_
    exact .ite (.step hv (acceptPn_only ..)) (.step (.step hv1 (bump_only ..)) (raiseSec_only ..))

theorem execUplinkLinkUp_only (mac : Fin 32) (s : State) :
    OnlyNext (fun s t => { s with ev.transit := t.ev.transit, fwd.macs := t.fwd.macs, outbox := t.outbox }) s (execUplinkLinkUp mac s) := by
  unfold execUplinkLinkUp
  refine .next ?_
  extract_lets _ _ v v1
  refine .via v (.step .base (setMac_only ..)) fun hv => ?_
  refine .via v1 (.step hv (raiseAs_only ..)) fun hv1 => ?_
  exact .ite .base (.ite hv1 (.step hv1 (pauseWork_only ..)))

theorem execUplinkAlignmentLoss_only (mac : Fin 32) (s : State) :
    OnlyNext (fun s t => { s with ev.transit := t.ev.transit, fwd.macs := t.fwd.macs }) s (execUplinkAlignmentLoss mac s) := by
  unfold execUplinkAlignmentLoss
  exact .next (.step (.step .base (setMac_only ..)) (linkDown_only ..))

theorem execUplinkFaultSequence_only (mac : Fin 32) (s : State) :
    OnlyNext (fun s t => { s with ev.transit := t.ev.transit, fwd.macs := t.fwd.macs }) s (execUplinkFaultSequence mac s) := by
  unfold execUplinkFaultSequence
  refine .next ?_
  extract_lets _ v
  refine .via v (.step .base (setMac_only ..)) fun hv => ?_
  exact .ite hv (.ite (.step hv (linkDown_only ..)) hv)

theorem execUplinkTrainingFail_only (mac : Fin 32) (noAbility : Bool) (s : State) :
    OnlyNext (fun s t => { s with ev.transit := t.ev.transit, fwd.macs := t.fwd.macs }) s (execUplinkTrainingFail mac noAbility s) := by
  unfold execUplinkTrainingFail
  refine .next ?_
  extract_lets v _
  refine .via v (.ite (.step .base (stat_only ..)) .base) fun hv => ?_
  exact .step (.step hv (setMac_only ..)) (linkDown_only ..)

theorem uplinkEnabled_only (s : State) (m : Nat) :
    Only (fun s t => { s with ev.transit := t.ev.transit, fwd.macs := t.fwd.macs }) s (s.uplinkEnabled m) := by
  unfold State.uplinkEnabled
  refine .ite ?_ .base
  extract_lets v _
  refine .via v (.step .base (linkDown_only ..)) fun hv => ?_
  exact .step hv (setMac_only ..)

theorem pauseClass_only (s : State) (m c quanta : Nat) : Only (fun s t => { s with fwd.macs := t.fwd.macs }) s (s.pauseClass m c quanta) := by
  unfold State.pauseClass
  extract_lets _ _
  exact .step (.step .base (setMac_only ..)) (stat_only ..)

theorem execPauseFrameRx_only (mac : Fin 32) (pfc : Bool) (quanta : Nat) (classes : List (Fin 8 × Nat)) (s : State) :
    OnlyNext (fun s t => { s with fwd.macs := t.fwd.macs }) s (execPauseFrameRx mac pfc quanta classes s) := by
  unfold execPauseFrameRx
  refine .next (.ite .base ?_)
  split
  · exact .foldl .base fun _ _ => .step .base (pauseClass_only ..)
  · exact .foldl .base fun _ _ => .step .base (pauseClass_only ..)
  · exact .step .base (stat_only ..)

theorem execPauseQuantaExpiry_only (mac : Fin 32) (cls : Fin 8) (s : State) :
    OnlyNext (fun s t => { s with fwd.macs := t.fwd.macs }) s (execPauseQuantaExpiry mac cls s) := by
  unfold execPauseQuantaExpiry
  exact .next (.step .base (setMac_only ..))

theorem execPfcRefresh_only (mac : Fin 32) (s : State) :
    OnlyNext (fun s t => { s with fwd.macs := t.fwd.macs, outbox := t.outbox }) s (execPfcRefresh mac s) := by
  unfold execPfcRefresh
  exact .next (.ite .base (.step .base (pauseWork_only ..)))

theorem execUplinkStatus_only (mb : Fin 16) (start count : Nat) (s : State) : OnlyNext answered s (execUplinkStatus mb start count s) := by
  unfold execUplinkStatus
  refine hostCmd_only fun c u => ?_
  exact .ite (.fail .base) (.okay .base)

theorem execUplinkStats_only (mb : Fin 16) (mac : Nat) (pcs : List Nat) (s : State) :
    OnlyNext (fun s t => { answered s t with fwd.macs := t.fwd.macs }) s (execUplinkStats mb mac pcs s) := by
  unfold execUplinkStats
  refine hostCmd_only fun c u => ?_
  exact .ite (.fail .base) (.okay (.step .base (setMac_only ..)))

theorem execUplinkRestart_only (mb : Fin 16) (port : Nat) (s : State) : OnlyNext (fun s t => { answered s t with
        par.inForce := t.par.inForce, ev.transit := t.ev.transit, fwd.ops := t.fwd.ops, fwd.downQ := t.fwd.downQ, fwd.upQ := t.fwd.upQ,
        fwd.watch := t.fwd.watch, fwd.macs := t.fwd.macs }) s (execUplinkRestart mb port s) := by
  unfold execUplinkRestart
  refine hostCmd_only fun c u => ?_
  refine .ite (.fail .base) ?_
  extract_lets _ v v1 v2
  refine .via v ?_ fun hv => ?_
  · refine .foldl .base fun u x => ?_
    extract_lets v3 _
    refine .via v3 (.step .base (linkDown_only ..)) fun hv3 => ?_
    exact .step hv3 (setMac_only ..)
  refine .via v1 (.step (.step (.step hv (enforce_only ..)) (enforce_only ..)) (enforce_only ..)) fun hv1 => ?_
  refine .via v2 (.foldl hv1 fun _ _ => .step .base (enforce_only ..)) fun hv2 => ?_
  exact .okay (.foldl hv2 fun _ _ => .foldl .base fun _ _ => .step (.step (.step .base (disableQueue_only ..)) (emptyQueue_only ..)) (drainTest_only
    ..))

theorem execMacsecScSet_only (mb : Fin 16) (mac sci : Nat) (delete : Bool) (s : State) :
    OnlyNext (fun s t => { answered s t with fwd.macs := t.fwd.macs, fwd.sas := t.fwd.sas }) s (execMacsecScSet mb mac sci delete s) := by
  unfold execMacsecScSet
  refine hostCmd_only fun c u => ?_
  refine .ite (.fail .base) (.ite (.fail .base) ?_)
  extract_lets _ v v1 v2
  refine .via v (.step .base (setMac_only ..)) fun hv => ?_
  refine .via v1 (.foldl hv fun _ _ => .step .base (setSa_only ..)) fun hv1 => ?_
  refine .via v2 (.step .base (setMac_only ..)) fun hv2 => ?_
  exact .ite (.ite (.fail .base) (.okay hv1)) (.ite (.fail .base) (.ite (.fail .base) (.okay hv2)))

theorem execMacsecSaSet_only (mb : Fin 16) (sa mac : Nat) (sci : Option Nat) (an : Nat) (xpn : Bool) (pn : Nat) (enable : Bool) (s : State) :
    OnlyNext (fun s t => { answered s t with
        fwd.macs := t.fwd.macs, fwd.sas := t.fwd.sas }) s (execMacsecSaSet mb sa mac sci an xpn pn enable s) := by
  unfold execMacsecSaSet
  refine hostCmd_only fun c u => ?_
  refine .ite (.fail .base) (.ite (.fail .base) (.ite (.fail .base) (.ite (.fail .base) ?_)))
  extract_lets _ v _ v1
  refine .via v (.ite (.step .base (setSa_only ..)) (.step .base (setSa_only ..))) fun hv => ?_
  refine .via v1 (.ite hv (.ite (.step hv (setMac_only ..)) (.ite (.step hv (setMac_only ..)) hv))) fun hv1 => ?_
  exact .okay hv1

theorem execMacsecSaRead_only (mb : Fin 16) (sa : Nat) (s : State) :
    OnlyNext (fun s t => { answered s t with fwd.sas := t.fwd.sas }) s (execMacsecSaRead mb sa s) := by
  unfold execMacsecSaRead
  refine hostCmd_only fun c u => ?_
  refine .ite (.fail .base) ?_
  split
  · exact .fail .base
  · exact .okay (.step .base (setSa_only ..))

/-! ### Machine/FaultRows -/

theorem execFaultReport_only (s : State) : OnlyNext (fun s t => { answered s t with
        par.ro := t.par.ro, host.channels := t.host.channels, host.staged := t.host.staged, host.omciLost := t.host.omciLost,
        ev.transit := t.ev.transit, ev.rate := t.ev.rate, ev.loss := t.ev.loss, ev.lostSinceBatch := t.ev.lostSinceBatch,
        ev.telUnexported := t.ev.telUnexported, pace.capSeq := t.pace.capSeq, pace.capSent := t.pace.capSent, units := t.units, reports := t.reports,
        fault.handlers := t.fault.handlers, fault.log := t.fault.log, lanes.lanes := t.lanes.lanes, chans := t.chans, pon.tl := t.pon.tl,
        pon.gems := t.pon.gems, pon.reasm := t.pon.reasm, prot.tokens := t.prot.tokens, prot.streams := t.prot.streams, prot.lanes := t.prot.lanes,
        prot.groups := t.prot.groups, prot.carrier := t.prot.carrier, prot.queues := t.prot.queues, prot.pairLost := t.prot.pairLost,
        prot.silent := t.prot.silent, fwd.rules := t.fwd.rules, fwd.toParse := t.fwd.toParse, fwd.recirc := t.fwd.recirc, fwd.wants := t.fwd.wants,
        fwd.ops := t.fwd.ops, fwd.jobs := t.fwd.jobs, fwd.bufs := t.fwd.bufs, fwd.pools := t.fwd.pools, fwd.poolMsgs := t.fwd.poolMsgs,
        fwd.downQ := t.fwd.downQ, fwd.upQ := t.fwd.upQ, fwd.macs := t.fwd.macs }) s (execFaultReport s) := by
  unfold execFaultReport
  refine .next ?_
  split
  · exact .base
  · exact .step .base (take_only ..)

theorem execHandshakeStall_only (block : Fin 3328) (cell : BitVec 16) (s : State) :
    OnlyNext (fun s t => { s with reports := t.reports }) s (execHandshakeStall block cell s) := by
  unfold execHandshakeStall
  exact .next (.step .base (report_only ..))

theorem execSramUe_only (block : Fin 3328) (cell : BitVec 16) (s : State) :
    OnlyNext (fun s t => { s with ev.transit := t.ev.transit, reports := t.reports }) s (execSramUe block cell s) := by
  unfold execSramUe
  refine .next ?_
  extract_lets _
  exact .step (.step .base (raiseUnit_only ..)) (report_only ..)

theorem swapSuspect_only (s : State) (u : Nat) : Only startBlockParts s (s.swapSuspect u) := by
  unfold State.swapSuspect
  extract_lets _ _
  exact .ite (.ite (.step .base (reportCell_only ..)) .base) (.ite (.step .base (reportBlock_only ..)) .base)

theorem corrected_only (s : State) (u : Nat) : Only startBlockParts s (s.corrected u) := by
  unfold State.corrected
  extract_lets v _ _ v1 _ v2
  refine .via v (.step .base (bump_only ..)) fun hv => ?_
  refine .via v1 (.step hv (setUnit_only ..)) fun hv1 => ?_
  refine .via v2 (.step (.step hv1 (setUnit_only ..)) (raiseUnit_only ..)) fun hv2 => ?_
  exact .ite (.ite (.step hv2 (swapSuspect_only ..)) hv2) hv1

theorem execSramCorrection_only (block : Fin 3328) (cell : BitVec 16) (s : State) : OnlyNext startBlockParts s (execSramCorrection block cell s) := by
  unfold execSramCorrection
  exact .next (.step .base (corrected_only ..))

theorem execScrubRead_only (block : Fin 3328) (cell : BitVec 16) (wrong : Bool) (s : State) :
    OnlyNext startBlockParts s (execScrubRead block cell wrong s) := by
  unfold execScrubRead
  exact .next (.ite (.step .base (corrected_only ..)) .base)

theorem execUnitSlow_only (block : Fin 3328) (s : State) :
    OnlyNext (fun s t => { s with ev.transit := t.ev.transit, units := t.units, reports := t.reports }) s (execUnitSlow block s) := by
  unfold execUnitSlow
  refine .next ?_
  extract_lets _ _ v
  refine .via v (.step (.step .base (setUnit_only ..)) (raiseUnit_only ..)) fun hv => ?_
  exact .ite .base (.ite hv (.step hv (report_only ..)))

theorem execUnitGhost_only (unit : Word) (s : State) :
    OnlyNext (fun s t => { s with par.ro := t.par.ro, ev.transit := t.ev.transit, ev.rate := t.ev.rate }) s (execUnitGhost unit s) := by
  unfold execUnitGhost
  exact .next (.ite (.step .base (ghost_only ..)) .base)

theorem takeOutCell_only (s : State) (e : FaultEntry) :
    Only (fun s t => { s with ev.transit := t.ev.transit, units := t.units, fault.log := t.fault.log }) s (s.takeOutCell e) := by
  unfold State.takeOutCell
  exact .ite .base (.ite (.step (.step .base (setUnit_only ..)) (logRepair_only ..)) (.step .base (ice_only ..)))

theorem execCellRepairDone_only (block : Fin 3328) (spare : BitVec 16) (s : State) : OnlyNext (fun s t => { answered s t with
        par.ro := t.par.ro, host.channels := t.host.channels, host.staged := t.host.staged, host.omciLost := t.host.omciLost,
        ev.transit := t.ev.transit, ev.rate := t.ev.rate, ev.loss := t.ev.loss, ev.lostSinceBatch := t.ev.lostSinceBatch,
        ev.telUnexported := t.ev.telUnexported, pace.blocks := t.pace.blocks, pace.capSeq := t.pace.capSeq, pace.capSent := t.pace.capSent,
        units := t.units, fault.handlers := t.fault.handlers, fault.spareUsed := t.fault.spareUsed, fault.log := t.fault.log,
        lanes.lanes := t.lanes.lanes, chans := t.chans, pon.tl := t.pon.tl, pon.gems := t.pon.gems, pon.reasm := t.pon.reasm,
        cipher.barred := t.cipher.barred, prot.tokens := t.prot.tokens, prot.streams := t.prot.streams, prot.lanes := t.prot.lanes,
        prot.groups := t.prot.groups, prot.carrier := t.prot.carrier, prot.queues := t.prot.queues, prot.pairLost := t.prot.pairLost,
        prot.silent := t.prot.silent, fwd.rules := t.fwd.rules, fwd.toParse := t.fwd.toParse, fwd.recirc := t.fwd.recirc, fwd.wants := t.fwd.wants,
        fwd.ops := t.fwd.ops, fwd.jobs := t.fwd.jobs, fwd.bufs := t.fwd.bufs, fwd.pools := t.fwd.pools, fwd.poolMsgs := t.fwd.poolMsgs,
        fwd.downQ := t.fwd.downQ, fwd.upQ := t.fwd.upQ, fwd.macs := t.fwd.macs }) s (execCellRepairDone block spare s) := by
  unfold execCellRepairDone
  refine .next ?_
  extract_lets a _ _
  clear_value a
  split
  · exact .base
  · extract_lets v1 _ v2 _ v3 v4 _ v5 _ v6 _
    refine .via v1 (.step .base (takeOutCell_only ..)) fun hv1 => ?_
    clear_value v1
    refine .via v2 (.ite hv1 hv1.upd) fun hv2 => ?_
    refine .via v3 (.step hv2 (setUnit_only ..)) fun hv3 => ?_
    refine .via v4 (.ite (.step hv1 (reportCapacity_only ..)) (.step (.step hv3 (logRepair_only ..)) (raiseUnit_only ..))) fun hv4 => ?_
    clear_value v2 v3 v4
    refine .via v5 hv4.upd fun hv5 => ?_
    refine .via v6 (.ite (.step hv5 (setBlockPace_only ..)) hv5) fun hv6 => ?_
    exact .step (.step hv6 (setHandler_only ..)) (nextCell_only ..)

theorem holdLow_only (s : State) (t : Nat) : Only (fun s t => { s with lanes.optics := t.lanes.optics }) s (s.holdLow t) := by
  unfold State.holdLow
  exact .step .base (setOptic_only ..)

theorem rebuildRole_only (s : State) (role : Nat) : Only (fun s t => { s with fwd.tables := t.fwd.tables }) s (s.rebuildRole role) := by
  unfold State.rebuildRole
  extract_lets _
  exact .ite .base (.ite (.step .base (rebuildBank_only ..)) (.ite (.step .base (rebuildBank_only ..)) .base))

def resumeParts : State → State → State :=
  fun s t => { s with
      ev.transit := t.ev.transit, pace.capSeq := t.pace.capSeq, pace.capSent := t.pace.capSent, units := t.units, fault.log := t.fault.log,
      lanes.optics := t.lanes.optics, fwd.tables := t.fwd.tables }

theorem resume_only (s : State) (sp cause : Nat) : Only resumeParts s (s.resume sp cause) := by
  unfold State.resume
  split
  · exact .base
  · extract_lets _ v v1 v2
    refine .via v (.step .base (setUnit_only ..)) fun hv => ?_
    refine .via v1 (.ite (.step hv (holdLow_only ..)) hv) fun hv1 => ?_
    refine .via v2 (.step hv1 (rebuildRole_only ..)) fun hv2 => ?_
    exact .step (.step (.step hv2 (logRepair_only ..)) (raiseUnit_only ..)) (testCapacity_only ..)

theorem execBlockReplacementDone_only (region : Fin 13) (s : State) : OnlyNext (fun s t => { answered s t with
        par.ro := t.par.ro, host.channels := t.host.channels, host.staged := t.host.staged, host.omciLost := t.host.omciLost,
        ev.transit := t.ev.transit, ev.rate := t.ev.rate, ev.loss := t.ev.loss, ev.lostSinceBatch := t.ev.lostSinceBatch,
        ev.telUnexported := t.ev.telUnexported, pace.capSeq := t.pace.capSeq, pace.capSent := t.pace.capSent, units := t.units,
        fault.handlers := t.fault.handlers, fault.log := t.fault.log, lanes.lanes := t.lanes.lanes, lanes.optics := t.lanes.optics, chans := t.chans,
        pon.tl := t.pon.tl, pon.gems := t.pon.gems, pon.reasm := t.pon.reasm, prot.tokens := t.prot.tokens, prot.streams := t.prot.streams,
        prot.lanes := t.prot.lanes, prot.groups := t.prot.groups, prot.carrier := t.prot.carrier, prot.queues := t.prot.queues,
        prot.pairLost := t.prot.pairLost, prot.silent := t.prot.silent, fwd.rules := t.fwd.rules, fwd.toParse := t.fwd.toParse,
        fwd.recirc := t.fwd.recirc, fwd.tables := t.fwd.tables, fwd.wants := t.fwd.wants, fwd.ops := t.fwd.ops, fwd.jobs := t.fwd.jobs,
        fwd.bufs := t.fwd.bufs, fwd.pools := t.fwd.pools, fwd.poolMsgs := t.fwd.poolMsgs, fwd.downQ := t.fwd.downQ, fwd.upQ := t.fwd.upQ,
        fwd.macs := t.fwd.macs }) s (execBlockReplacementDone region s) := by
  unfold execBlockReplacementDone
  refine .next ?_
  extract_lets a
  clear_value a
  split
  · exact .base
  · extract_lets v1 _
    refine .via v1 ?_ fun hv1 => ?_
    · unfold v1
      split
      · exact .step .base (resume_only ..)
      · exact .base
    exact .step (.step hv1 (setHandler_only ..)) (nextBlock_only ..)

theorem resyncAll_only (s : State) : Only (fun s t => { s with ev.transit := t.ev.transit, prot.streams := t.prot.streams }) s (s.resyncAll) := by
  unfold State.resyncAll
  exact .foldl .base fun _ _ => .ite .base (.step (.step .base (setStream_only ..)) (postReady_only ..))

theorem reloadLedgers_only (s : State) : Only (fun s t => { s with dba.allocs := t.dba.allocs }) s (s.reloadLedgers) := by
  unfold State.reloadLedgers
  exact .foldl .base fun _ _ => .step .base (setAlloc_only ..)

theorem execRegionRestartDone_only (good : Bool) (s : State) : OnlyNext (fun s t => { answered s t with
        par.ro := t.par.ro, host.channels := t.host.channels, host.staged := t.host.staged, host.omciLost := t.host.omciLost,
        ev.transit := t.ev.transit, ev.rate := t.ev.rate, ev.loss := t.ev.loss, ev.lostSinceBatch := t.ev.lostSinceBatch,
        ev.telUnexported := t.ev.telUnexported, pace.capSeq := t.pace.capSeq, pace.capSent := t.pace.capSent, units := t.units,
        fault.handlers := t.fault.handlers, fault.log := t.fault.log, lanes.lanes := t.lanes.lanes, lanes.optics := t.lanes.optics, chans := t.chans,
        pon.tl := t.pon.tl, pon.gems := t.pon.gems, pon.reasm := t.pon.reasm, dba.allocs := t.dba.allocs, prot.tokens := t.prot.tokens,
        prot.streams := t.prot.streams, prot.lanes := t.prot.lanes, prot.groups := t.prot.groups, prot.carrier := t.prot.carrier,
        prot.queues := t.prot.queues, prot.pairLost := t.prot.pairLost, prot.silent := t.prot.silent, fwd.rules := t.fwd.rules,
        fwd.toParse := t.fwd.toParse, fwd.recirc := t.fwd.recirc, fwd.tables := t.fwd.tables, fwd.wants := t.fwd.wants, fwd.ops := t.fwd.ops,
        fwd.jobs := t.fwd.jobs, fwd.bufs := t.fwd.bufs, fwd.pools := t.fwd.pools, fwd.poolMsgs := t.fwd.poolMsgs, fwd.downQ := t.fwd.downQ,
        fwd.upQ := t.fwd.upQ, fwd.macs := t.fwd.macs }) s (execRegionRestartDone good s) := by
  unfold execRegionRestartDone
  refine .next ?_
  split
  · exact .base
  · extract_lets _ _ v v1 v2 v3
    refine .via v (.foldl .base fun _ _ => .step .base (resume_only ..)) fun hv => ?_
    refine .via v1 (.ite (.step hv (resyncAll_only ..)) hv) fun hv1 => ?_
    refine .via v2 (.ite (.step (.step (.step hv1 (rebuildBank_only ..)) (rebuildBank_only ..)) (reloadLedgers_only ..)) hv1) fun hv2 => ?_
    refine .via v3 (.ite (.foldl hv2 fun _ _ => .step .base (holdLow_only ..)) hv2) fun hv3 => ?_
    exact .ite (.step (.step .base (iceRegion_only ..)) (freeChip_only ..)) (.step hv3 (freeChip_only ..))

theorem execRecoveryTimeout_only (handler : Word) (s : State) : OnlyNext startBlockParts s (execRecoveryTimeout handler s) := by
  unfold execRecoveryTimeout
  refine .next ?_
  extract_lets a
  clear_value a
  split
  · exact .base
  · exact .ite (.step (.step .base (iceRegion_only ..)) (freeChip_only ..)) (.ite (.step .base (escalateCell_only ..)) (.step .base
    (escalateBlock_only ..)))

theorem addSpareCell_only (s : State) (u : Nat) : Only (fun s t => { s with fault.spareUsed := t.fault.spareUsed }) s (s.addSpareCell u) := by
  unfold State.addSpareCell
  extract_lets _ _
  exact .ite .base .base

theorem execSpareSelfTest_only (unit : Word) (pass : Bool) (s : State) : OnlyNext (fun s t => { s with
        ev.transit := t.ev.transit, units := t.units, fault.spareUsed := t.fault.spareUsed, fault.log := t.fault.log })
        s (execSpareSelfTest unit pass s) := by
  unfold execSpareSelfTest
  refine .next ?_
  extract_lets _ _ v v1 _ _
  refine .via v (.step .base (setUnit_only ..)) fun hv => ?_
  refine .via v1 (.step (.step .base (raiseUnit_only ..)) (condemn_only ..)) fun hv1 => ?_
  clear_value v v1
  exact .ite (.ite (.step hv (addSpareCell_only ..)) (.step (.step hv (raiseUnit_only ..)) (condemn_only ..))) (.ite .base (.ite hv1.upd hv1))

theorem execMaintenanceWindowStart_only (s : State) : OnlyNext (fun s t => { answered s t with
        par.ro := t.par.ro, host.channels := t.host.channels, host.staged := t.host.staged, host.omciLost := t.host.omciLost,
        ev.transit := t.ev.transit, ev.rate := t.ev.rate, ev.loss := t.ev.loss, ev.lostSinceBatch := t.ev.lostSinceBatch,
        ev.telUnexported := t.ev.telUnexported, pace.capSeq := t.pace.capSeq, pace.capSent := t.pace.capSent, units := t.units,
        fault.handlers := t.fault.handlers, fault.log := t.fault.log, fault.window := t.fault.window, lanes.lanes := t.lanes.lanes, chans := t.chans,
        pon.tl := t.pon.tl, pon.gems := t.pon.gems, pon.reasm := t.pon.reasm, prot.tokens := t.prot.tokens, prot.streams := t.prot.streams,
        prot.lanes := t.prot.lanes, prot.groups := t.prot.groups, prot.carrier := t.prot.carrier, prot.queues := t.prot.queues,
        prot.pairLost := t.prot.pairLost, prot.silent := t.prot.silent, fwd.rules := t.fwd.rules, fwd.toParse := t.fwd.toParse,
        fwd.recirc := t.fwd.recirc, fwd.wants := t.fwd.wants, fwd.ops := t.fwd.ops, fwd.jobs := t.fwd.jobs, fwd.bufs := t.fwd.bufs,
        fwd.pools := t.fwd.pools, fwd.poolMsgs := t.fwd.poolMsgs, fwd.downQ := t.fwd.downQ, fwd.upQ := t.fwd.upQ, fwd.macs := t.fwd.macs })
        s (execMaintenanceWindowStart s) := by
  unfold execMaintenanceWindowStart
  refine .next (.ite .base ?_)
  extract_lets _ v _ v1
  refine .via v .base fun hv => ?_
  refine .via v1 (.ite (.foldl hv fun _ _ => .step .base (swapSuspect_only ..)) hv) fun hv1 => ?_
  exact .foldl hv1 fun _ _ => .step .base (setUnit_only ..)

theorem execMaintenanceWindowEnd_only (s : State) :
    OnlyNext (fun s t => { s with units := t.units, fault.window := t.fault.window }) s (execMaintenanceWindowEnd s) := by
  unfold execMaintenanceWindowEnd
  refine .next ?_
  extract_lets _ v
  refine .via v .base fun hv => ?_
  exact .foldl hv fun _ _ => .step .base (setUnit_only ..)

theorem toSpare_only (s : State) (u action : Nat) :
    Only (fun s t => { s with units := t.units, fault.spareUsed := t.fault.spareUsed, fault.log := t.fault.log }) s (s.toSpare u action) := by
  unfold State.toSpare
  extract_lets _ v v1
  refine .via v (.step .base (addSpareCell_only ..)) fun hv => ?_
  refine .via v1 (.step hv (setUnit_only ..)) fun hv1 => ?_
  exact .step hv1 (logRepair_only ..)

theorem readmit_only (s : State) (u : Nat) : Only (fun s t => { s with
        ev.transit := t.ev.transit, units := t.units, fault.spareUsed := t.fault.spareUsed, fault.log := t.fault.log }) s (s.readmit u) := by
  unfold State.readmit
  exact .step (.step .base (toSpare_only ..)) (raiseUnit_only ..)

theorem auditReadmit_only (s : State) (st : Status) : Only (fun s t => { s with roles.audit := t.roles.audit }) s (s.auditReadmit st) := by
  unfold State.auditReadmit
  exact .step .base (auditAdd_only ..)

theorem execReadmissionTestDone_only (unit : Word) (pass : Bool) (s : State) : OnlyNext (fun s t => { s with
        roles.audit := t.roles.audit, ev.transit := t.ev.transit, units := t.units, fault.spareUsed := t.fault.spareUsed, fault.log := t.fault.log })
        s (execReadmissionTestDone unit pass s) := by
  unfold execReadmissionTestDone
  refine .next ?_
  extract_lets _ _ _ _ _ v
  refine .via v (.step .base (setUnit_only ..)) fun hv => ?_
  exact .ite .base (.ite (.step (.step .base (condemn_only ..)) (auditReadmit_only ..)) (.ite hv (.step (.step hv (readmit_only ..))
    (auditReadmit_only ..))))

/-! ### Machine/Mailboxes -/

theorem ring_only (s : State) (n : Nat) : Only (fun s t => { s with par.ro := t.par.ro, mb := t.mb }) s (s.ring n) := by
  unfold State.ring
  extract_lets _
  exact .ite (.step .base (setMbox_only ..)) (.step (.step .base (setMbox_only ..)) (bumpF_only ..))

theorem execMbDoorbell_only (n : Fin 16) (s : State) : OnlyNext (fun s t => { s with par.ro := t.par.ro, mb := t.mb }) s (execMbDoorbell n s) := by
  unfold execMbDoorbell
  exact .next (.step .base (ring_only ..))

theorem clearResp_only (s : State) (n : Nat) : Only (fun s t => { s with mb := t.mb }) s (s.clearResp n) := by
  unfold State.clearResp
  extract_lets _
  exact .ite (.step .base (setMbox_only ..)) .base

theorem execRespReadyClear_only (n : Fin 16) (s : State) : OnlyNext (fun s t => { s with mb := t.mb }) s (execRespReadyClear n s) := by
  unfold execRespReadyClear
  exact .next (.step .base (clearResp_only ..))

theorem setRole_only (s : State) (r : Nat) (v : RoleState) : Only (fun s t => { s with roles.roles := t.roles.roles }) s (s.setRole r v) := .base

/-- A session's slot is not among those that `KeysKept` speaks of. -/
theorem setSlot_session_only (s : State) {k : Nat} (v : KeySlot) (h : sessionSlot 0 ≤ k) :
    Only (fun s t => { s with cipher.slots := t.cipher.slots }) s (s.setSlot k v) :=
  ⟨rfl, fun _ _ hi => slot_setSlot_ne s v (by omega)⟩

theorem sessionSlot_le (r : Nat) : sessionSlot 0 ≤ sessionSlot r := by
  unfold sessionSlot
  omega

theorem endSession_only (s : State) (r : Nat) :
    Only (fun s t => { s with roles.roles := t.roles.roles, cipher.slots := t.cipher.slots }) s (s.endSession r) := by
  unfold State.endSession
  exact .step (.step (.step .base (setRole_only ..)) (setSlot_session_only _ _ (sessionSlot_le r))) (dropKey_only ..)

theorem closeSession_only (s : State) (r : Nat) :
    Only (fun s t => { s with roles.roles := t.roles.roles, roles.audit := t.roles.audit, cipher.slots := t.cipher.slots }) s (s.closeSession r) := by
  unfold State.closeSession
  split
  · exact .base
  · extract_lets v
    refine .via v (.step .base (endSession_only ..)) fun hv => ?_
    exact .step hv (auditAdd_only ..)

theorem acceptRequest_only (s : State) (n : Nat) (objs : List Obj) : Only (fun s t => { answered s t with
        par.ro := t.par.ro, accepted := t.accepted, roles.roles := t.roles.roles, ev.transit := t.ev.transit, ev.rate := t.ev.rate })
        s (s.acceptRequest n objs) := by
  unfold State.acceptRequest
  extract_lets _ _ _ _ _ v _ _ _ _ _ _ v1 v2 v3 v4
  clear_value v
  refine .via v1 .base fun hv1 => ?_
  refine .via v2 (.step hv1 (setMbox_only ..)) fun hv2 => ?_
  refine .via v3 ?_ fun hv3 => ?_
  · unfold v3
    split
    · exact .ite (.step hv2 (setRole_only ..)) hv2
    · exact hv2
  refine .via v4 (.step hv3 (bumpF_only ..)) fun hv4 => ?_
  split
  · exact hv3
  · extract_lets v5 v6
    refine .via v5 (.ite (.step (.step hv4 (bump_only ..)) (raiseSec_only ..)) hv4) fun hv5 => ?_
    refine .via v6 (.ite (.step hv5 (auditRefusal_only ..)) hv5) fun hv6 => ?_
    exact .step hv6 (post_only ..)

theorem execMailboxAccept_only (n : Fin 16) (objs : List Obj) (s : State) : OnlyNext (fun s t => { answered s t with
        par.ro := t.par.ro, accepted := t.accepted, roles.roles := t.roles.roles, ev.transit := t.ev.transit, ev.rate := t.ev.rate })
        s (execMailboxAccept n objs s) := by
  unfold execMailboxAccept
  refine .next ?_
  extract_lets _
  exact .ite (.step .base (acceptRequest_only ..)) .base

theorem resumeCommands_only (s : State) : Only (fun s t => { s with mb := t.mb }) s (s.resumeCommands) := by
  unfold State.resumeCommands
  exact .foldl .base fun _ _ => .step .base (setMbox_only ..)

theorem badAccess_only (s : State) : Only (fun s t => { s with par.ro := t.par.ro }) s (s.badAccess) := by
  unfold State.badAccess
  exact .step .base (bumpF_only ..)

theorem writeChReg_only (s : State) (c off v : Nat) (late : Bool) : Only completeDescParts s (s.writeChReg c off v late) := by
  unfold State.writeChReg
  extract_lets _ _ v v1 v2 v3
  refine .via v (.step .base (setCh_only ..)) fun hv => ?_
  refine .via v1 (.ite (.step hv (enableCh_only ..)) (.step hv (disableCh_only ..))) fun hv1 => ?_
  refine .via v2 (.ite (.step hv1 (abortCh_only ..)) hv1) fun hv2 => ?_
  refine .via v3 (.step .base (setCh_only ..)) fun hv3 => ?_
  refine .ite (.step .base (setCh_only ..)) (.ite .base ?_)
  split
  · exact .ite (.step hv2 (resumeCh_only ..)) hv2
  · exact .ite (.step .base (setCh_only ..)) .base
  · exact .ite (.step .base (setCh_only ..)) .base
  · exact .ite (.step .base (setCh_only ..)) .base
  · exact .step .base (writeTail_only ..)
  · exact .ite (.step .base (requestCommit_only ..)) .base
  · exact .ite (.ite (.step hv3 (requestCommit_only ..)) hv3) .base

theorem writeMsix_only (s : State) (vec off v : Nat) :
    Only (fun s t => { s with host.msix := t.host.msix, host.pba := t.host.pba, outbox := t.outbox }) s (s.writeMsix vec off v) := by
  unfold State.writeMsix
  extract_lets _ _ _ v _
  refine .via v .base fun hv => ?_
  clear_value v
  exact .ite (.step hv.upd (emit_only ..)) hv

theorem writeMbReg_only (s : State) (n off v : Nat) : Only (fun s t => { s with par.ro := t.par.ro, mb := t.mb }) s (s.writeMbReg n off v) := by
  unfold State.writeMbReg
  split
  · exact .ite (.step .base (ring_only ..)) .base
  · extract_lets v _
    refine .via v (.ite (.step .base (clearResp_only ..)) .base) fun hv => ?_
    exact .ite (.step hv (setMbox_only ..)) hv
  · exact .step .base (setMbox_only ..)
  · exact .base

def writeBar0Parts : State → State → State :=
  fun s t => { s with
      par.ro := t.par.ro, mb := t.mb, host.bar2Base := t.host.bar2Base, host.msix := t.host.msix, host.pba := t.host.pba,
      host.channels := t.host.channels, ev.transit := t.ev.transit, ev.vectors := t.ev.vectors, ev.rate := t.ev.rate,
      ev.telUnexported := t.ev.telUnexported, chans := t.chans, prot.queues := t.prot.queues, fwd.ops := t.fwd.ops, fwd.bufs := t.fwd.bufs,
      fwd.pools := t.fwd.pools, fwd.poolMsgs := t.fwd.poolMsgs, fwd.downQ := t.fwd.downQ, fwd.upQ := t.fwd.upQ, outbox := t.outbox, free := t.free }

theorem writeBar0_only (s : State) (n v : Nat) (late : Bool) : Only writeBar0Parts s (s.writeBar0 n v late) := by
  unfold State.writeBar0
  refine .ite .base (.ite ?_ (.ite (.step .base (writeMbReg_only ..)) (.ite (.step .base (writeChReg_only ..)) (.ite (.step .base (writeMsix_only
    ..)) .base))))
  extract_lets _ _ _
  exact .ite (.step .base (setMbox_only ..)) .base

theorem execRegisterWrite_only (addr size : Nat) (value : Word) (late : Bool) (s : State) :
    OnlyNext writeBar0Parts s (execRegisterWrite addr size value late s) := by
  unfold execRegisterWrite
  exact .next (.ite (.step .base (writeBar0_only ..)) (.step .base (badAccess_only ..)))

theorem execBar2Access_only (write : Bool) (off : Fin 67108864) (s : State) :
    OnlyNext (fun s t => { s with par.ro := t.par.ro, outbox := t.outbox }) s (execBar2Access write off s) := by
  unfold execBar2Access
  refine .next (.ite (.step .base (badAccess_only ..)) ?_)
  extract_lets _ _
  exact .step .base (emit_only ..)

theorem execFunctionLevelReset_only (s : State) : OnlyNext (fun s t => { s with
        mb := t.mb, roles.roles := t.roles.roles, roles.audit := t.roles.audit, host.flrCount := t.host.flrCount, host.channels := t.host.channels,
        ev.transit := t.ev.transit, cipher.slots := t.cipher.slots }) s (execFunctionLevelReset s) := by
  unfold execFunctionLevelReset
  refine .next ?_
  extract_lets v v1 v2 _ v3
  refine .via v (.foldl .base fun _ _ => .step .base (setCh_only ..)) fun hv => ?_
  refine .via v1 (.foldl hv fun _ _ => .step .base (setMbox_only ..)) fun hv1 => ?_
  refine .via v2 (.foldl hv1 fun _ _ => .step .base (closeSession_only ..)) fun hv2 => ?_
  clear_value v v1 v2
  refine .via v3 hv2.upd fun hv3 => ?_
  exact .step hv3 (raise_only ..)

theorem execPciePerst_only (low : Bool) (s : State) : OnlyNext (fun s t => { s with
        host.timeHiLatch := t.host.timeHiLatch, host.bar2Base := t.host.bar2Base, host.width := t.host.width, host.speed := t.host.speed,
        host.perst := t.host.perst, host.msix := t.host.msix, host.pba := t.host.pba }) s (execPciePerst low s) := by
  unfold execPciePerst
  exact .next (.ite .base .base)

/-! ### Machine/ControlPairs -/

theorem setPairState_only (s : State) (b : Bool) (v : PairState) :
    Only (fun s t => { s with fw.stateA := t.fw.stateA, fw.stateB := t.fw.stateB }) s (s.setPairState b v) := by
  unfold State.setPairState
  exact .ite .base .base

theorem setTesting_only (s : State) (b v : Bool) :
    Only (fun s t => { s with fw.testA := t.fw.testA, fw.testB := t.fw.testB }) s (s.setTesting b v) := by
  unfold State.setTesting
  exact .ite .base .base

theorem execSignalCommand_only (region : Fin 13) (standby : Bool) (s : State) :
    OnlyNext (fun s t => { s with fw.discarded := t.fw.discarded, fw.accepted := t.fw.accepted }) s (execSignalCommand region standby s) := by
  unfold execSignalCommand
  refine .next ?_
  extract_lets _ _
  exact .ite .base .base

def condemnPairParts : State → State → State :=
  fun s t => { s with
      fw.stateA := t.fw.stateA, fw.stateB := t.fw.stateB, fw.testA := t.fw.testA, fw.testB := t.fw.testB, ev.transit := t.ev.transit,
      fault.log := t.fault.log }

theorem condemnPair_only (s : State) (b : Bool) (cause : Nat) : Only condemnPairParts s (s.condemnPair b cause) := by
  unfold State.condemnPair
  extract_lets v
  refine .via v (.step (.step .base (setPairState_only ..)) (setTesting_only ..)) fun hv => ?_
  exact .step (.step hv (logRepair_only ..)) (raise_only ..)

theorem failPair_only (s : State) (b : Bool) : Only (fun s t => { s with
        fw.stateA := t.fw.stateA, fw.stateB := t.fw.stateB, fw.testA := t.fw.testA, fw.testB := t.fw.testB, ev.transit := t.ev.transit,
        fault.log := t.fault.log, fault.lockFailA := t.fault.lockFailA, fault.lockFailB := t.fault.lockFailB }) s (s.failPair b) := by
  unfold State.failPair
  extract_lets _ _ v
  refine .via v (.ite .base .base) fun hv => ?_
  exact .ite (.step hv (condemnPair_only ..)) (.step (.step hv (setPairState_only ..)) (setTesting_only ..))

theorem flipPair_only (s : State) :
    Only (fun s t => { s with fw.pairB := t.fw.pairB, fw.stateA := t.fw.stateA, fw.stateB := t.fw.stateB, fw.hold := t.fw.hold }) s (s.flipPair) := by
  unfold State.flipPair
  extract_lets _ _
  exact .step .base (setPairState_only ..)

theorem loseActive_only (s : State) : Only (fun s t => { s with
        fw.pairB := t.fw.pairB, fw.stateA := t.fw.stateA, fw.stateB := t.fw.stateB, fw.hold := t.fw.hold, ev.transit := t.ev.transit })
        s (s.loseActive) := by
  unfold State.loseActive
  refine .ite ?_ .base
  extract_lets v
  refine .via v (.step .base (flipPair_only ..)) fun hv => ?_
  exact .step hv (raise_only ..)

theorem execLockstepMismatch_only (pair : Bool) (s : State) : OnlyNext (fun s t => { s with
        fw.pairB := t.fw.pairB, fw.stateA := t.fw.stateA, fw.stateB := t.fw.stateB, fw.hold := t.fw.hold, fw.testA := t.fw.testA,
        fw.testB := t.fw.testB, ev.transit := t.ev.transit, fault.log := t.fault.log, fault.lockFailA := t.fault.lockFailA,
        fault.lockFailB := t.fault.lockFailB }) s (execLockstepMismatch pair s) := by
  unfold execLockstepMismatch
  refine .next ?_
  extract_lets _
  exact .ite .base (.ite (.step (.step .base (failPair_only ..)) (loseActive_only ..)) (.step .base (failPair_only ..)))

theorem execControlPairSelfTestDone_only (pair pass : Bool) (s : State) : OnlyNext condemnPairParts s (execControlPairSelfTestDone pair pass s) := by
  unfold execControlPairSelfTestDone
  exact .next (.ite .base (.ite (.step (.step .base (setTesting_only ..)) (setPairState_only ..)) (.step .base (condemnPair_only ..))))

def updatedParts : State → State → State :=
  fun s t => { answered s t with
      fw.pairB := t.fw.pairB, fw.stateA := t.fw.stateA, fw.stateB := t.fw.stateB, fw.running := t.fw.running, fw.header := t.fw.header,
      fw.newHeader := t.fw.newHeader, fw.progress := t.fw.progress, fw.standbyOnRunning := t.fw.standbyOnRunning,
      fw.erasedSectors := t.fw.erasedSectors, fw.hold := t.fw.hold, ev.transit := t.ev.transit }

theorem updated_only (s : State) : Only updatedParts s (s.updated) := by
  unfold State.updated
  extract_lets _ _ _ _ v v1 v2 _ v3 v4
  refine .via v .base fun hv => ?_
  refine .via v1 (.ite (.step hv (setPairState_only ..)) hv) fun hv1 => ?_
  refine .via v2 (.step hv1 (flipPair_only ..)) fun hv2 => ?_
  clear_value v v1 v2
  refine .via v3 hv2.upd fun hv3 => ?_
  refine .via v4 (.step (.step hv3 (resumeCommands_only ..)) (raise_only ..)) fun hv4 => ?_
  exact .step hv4 (respondAll_only ..)

theorem resumeOn_only (s : State) : Only (fun s t => { answered s t with fw.hold := t.fw.hold }) s (s.resumeOn) := by
  unfold State.resumeOn
  extract_lets _ v
  refine .via v .base fun hv => ?_
  exact .step (.step hv (resumeCommands_only ..)) (respondAll_only ..)

theorem execControlPairTakeover_only (s : State) : OnlyNext updatedParts s (execControlPairTakeover s) := by
  unfold execControlPairTakeover
  exact .next (.ite (.step .base (updated_only ..)) (.ite .base (.ite (.step .base (resumeOn_only ..)) (.ite (.step (.step .base (setPairState_only
    ..)) (resumeOn_only ..)) (.ite (.step (.step .base (flipPair_only ..)) (resumeOn_only ..)) .base)))))

theorem execControlPairSwitch_only (mb : Fin 16) (s : State) : OnlyNext (fun s t => { answered s t with
        fw.pairB := t.fw.pairB, fw.stateA := t.fw.stateA, fw.stateB := t.fw.stateB, fw.hold := t.fw.hold }) s (execControlPairSwitch mb s) := by
  unfold execControlPairSwitch
  refine hostCmd_only fun c u => ?_
  exact .ite (.fst (.step (.step .base (setPairState_only ..)) (flipPair_only ..))) (.fail .base)

/-! ### Machine/Roles -/

theorem execSessionOpen_only (mb : Fin 16) (s : State) :
    OnlyNext (fun s t => { answered s t with roles.roles := t.roles.roles, free := t.free }) s (execSessionOpen mb s) := by
  unfold execSessionOpen
  refine hostCmd_only fun c u => ?_
  extract_lets r
  clear_value r
  split
  · exact .fail .base
  · split
    · rename_i _ _ v1 h
      refine .via v1 (.snd h (.step .base (draw_only ..))) fun hv2 => ?_
      split
      · rename_i _ _ v3 h
        refine .via v3 (.snd h (.step hv2 (draw_only ..))) fun hv4 => ?_
        extract_lets _ _
        exact .okay (.step hv4 (setRole_only ..))

theorem failAnswer_only (s : State) (r : Nat) :
    Only (fun s t => { s with roles.roles := t.roles.roles, ev.transit := t.ev.transit }) s (s.failAnswer r) := by
  unfold State.failAnswer
  extract_lets _ _
  exact .ite (.step (.step .base (setRole_only ..)) (raise_only ..)) (.step .base (setRole_only ..))

theorem loadKey_session_only (s : State) (r : Nat) (v : KeyVal) :
    Only (fun s t => { s with cipher.slots := t.cipher.slots, cipher.generators := t.cipher.generators }) s (s.loadKey (sessionSlot r) v) := by
  unfold State.loadKey
  split
  rename_i _ _ u h
  refine .via u (.snd h (.step .base (splitKey_only ..))) fun hu => ?_
  exact .step hu (setSlot_session_only _ _ (sessionSlot_le r))

theorem execSessionAuth_only (mb : Fin 16) (s : State) :
    OnlyNext (fun s t => { answered s t with
        roles.roles := t.roles.roles, ev.transit := t.ev.transit, cipher.generators := t.cipher.generators }) s (execSessionAuth mb s) := by
  unfold execSessionAuth
  refine hostCmd_only fun c u => ?_
  split
  · exact .fail .base
  · extract_lets _ v
    refine .via v (.step .base (setRole_only ..)) fun hv => ?_
    refine .ite (.fail hv) (.ite (.fail hv) ?_)
    split
    · exact .fail hv
    · refine .ite ?_ (.fail (.step hv (failAnswer_only ..)))
      exact .okay (.step (.step (.step hv (closeSession_only ..)) (loadKey_session_only ..)) (setRole_only ..))

theorem execSessionClose_only (mb : Fin 16) (s : State) :
    OnlyNext (fun s t => { answered s t with roles.roles := t.roles.roles }) s (execSessionClose mb s) := by
  unfold execSessionClose
  refine hostCmd_only fun c u => ?_
  split
  · exact .okay (.ite (.step .base (endSession_only ..)) .base)
  · exact .okay .base

theorem execSessionIdleExpiry_only (role : Fin 4) (s : State) : OnlyNext (fun s t => { s with
        roles.roles := t.roles.roles, roles.audit := t.roles.audit, cipher.slots := t.cipher.slots }) s (execSessionIdleExpiry role s) := by
  unfold execSessionIdleExpiry
  exact .next (.step .base (closeSession_only ..))

theorem execAuthLockoutExpiry_only (role : Fin 4) (s : State) :
    OnlyNext (fun s t => { s with roles.roles := t.roles.roles }) s (execAuthLockoutExpiry role s) := by
  unfold execAuthLockoutExpiry
  exact .next (.step .base (setRole_only ..))

theorem execMakerEnChange_only (level : Bool) (s : State) : OnlyNext (fun s t => { s with
        roles.roles := t.roles.roles, roles.makerEn := t.roles.makerEn, roles.audit := t.roles.audit, ev.transit := t.ev.transit,
        cipher.slots := t.cipher.slots }) s (execMakerEnChange level s) := by
  unfold execMakerEnChange
  refine .next (.ite .base ?_)
  extract_lets _ v v1
  refine .via v .base fun hv => ?_
  refine .via v1 (.ite hv (.step hv (closeSession_only ..))) fun hv1 => ?_
  exact .step hv1 (raise_only ..)

theorem storeCredential_only {s : State} {c : Cmd} {r wrapped : Nat} {v : State} (h : storeCredential s c r wrapped = some v) :
    Only (fun s t => { s with roles.roles := t.roles.roles }) s v := by
  unfold storeCredential at h
  split at h
  · cases h
  · obtain rfl := Option.some.inj h
    exact .step .base (setRole_only ..)

theorem execCredEnrol_only (mb : Fin 16) (wrapped : Nat) (s : State) : OnlyNext (fun s t => { answered s t with
        roles.roles := t.roles.roles, roles.enrolled := t.roles.enrolled, ev.transit := t.ev.transit }) s (execCredEnrol mb wrapped s) := by
  unfold execCredEnrol
  refine hostCmd_only fun c u => ?_
  refine .ite (.fail .base) ?_
  split
  · exact .fail .base
  · rename_i _ v h
    refine .via v (.step .base (storeCredential_only h)) fun hv1 => ?_
    extract_lets _ v2
    refine .via v2 hv1.upd fun hv2 => ?_
    exact .okay (.step (.step hv2 (closeSession_only ..)) (raise_only ..))

theorem execCredSet_only (mb : Fin 16) (wrapped : Nat) (s : State) :
    OnlyNext (fun s t => { answered s t with roles.roles := t.roles.roles, ev.transit := t.ev.transit }) s (execCredSet mb wrapped s) := by
  unfold execCredSet
  refine hostCmd_only fun c u => ?_
  split
  · exact .fail .base
  · rename_i _ v h
    refine .via v (.step .base (storeCredential_only h)) fun hv1 => ?_
    exact .okay (.step (.step hv1 (closeSession_only ..)) (raise_only ..))

theorem execAuditSummary_only (s : State) : OnlyNext (fun s t => { s with roles.audit := t.roles.audit }) s (execAuditSummary s) := by
  unfold execAuditSummary
  refine .next ?_
  extract_lets _ v _ _
  refine .via v (.ite .base (.step .base (auditAdd_only ..))) fun hv => ?_
  clear_value v
  exact hv.upd

theorem releaseHeld_only (s : State) :
    Only (fun s t => { s with mb := t.mb, host.pba := t.host.pba, cipher.slots := t.cipher.slots, outbox := t.outbox }) s (s.releaseHeld) := by
  unfold State.releaseHeld
  refine .foldl .base fun u x => ?_
  split
  · split
    · exact .step .base (post_only ..)
    · exact .base
  · exact .base

theorem persist_only (s : State) (ok : Bool) : Only (fun s t => { answered s t with ev.transit := t.ev.transit }) s (s.persist ok) := by
  unfold State.persist
  extract_lets _ _ _ _ v _ v1
  refine .via v .base fun hv => ?_
  refine .via v1 .base fun hv1 => ?_
  exact .ite (.step hv (releaseHeld_only ..)) (.step hv1 (raise_only ..))

theorem execAuditPersist_only (ok : Bool) (s : State) :
    OnlyNext (fun s t => { answered s t with ev.transit := t.ev.transit }) s (execAuditPersist ok s) := by
  unfold execAuditPersist
  exact .next (.ite .base (.step .base (persist_only ..)))

theorem execAuditPersistRetry_only (ok : Bool) (s : State) :
    OnlyNext (fun s t => { answered s t with ev.transit := t.ev.transit }) s (execAuditPersistRetry ok s) := by
  unfold execAuditPersistRetry
  exact .next (.ite (.step .base (persist_only ..)) .base)

theorem execAuditRead_only (mb : Fin 16) (start count : Nat) (s : State) : OnlyNext answered s (execAuditRead mb start count s) := by
  unfold execAuditRead
  refine hostCmd_only fun c u => ?_
  extract_lets a _ _
  clear_value a
  refine .ite (.fail .base) ?_
  split
  · exact .fail .base
  · exact .okay .base

theorem execCalRead_only (mb : Fin 16) (item inst : Nat) (s : State) : OnlyNext answered s (execCalRead mb item inst s) := by
  unfold execCalRead
  refine hostCmd_only fun c u => ?_
  refine .ite ?_ (.fail .base)
  extract_lets _
  exact .okay .base

theorem reportClamps_only (s : State) (o : Overlay) : Only (fun s t => { s with ev.transit := t.ev.transit }) s (s.reportClamps o) := by
  unfold State.reportClamps
  exact .foldl .base fun _ _ => .ite (.step .base (raise_only ..)) .base

theorem execCalOverlayWrite_only (mb : Fin 16) (s : State) : OnlyNext (fun s t => { answered s t with
        roles.overlayA := t.roles.overlayA, roles.overlayB := t.roles.overlayB, roles.overlay := t.roles.overlay, ev.transit := t.ev.transit })
        s (execCalOverlayWrite mb s) := by
  unfold execCalOverlayWrite
  refine hostCmd_only fun c u => ?_
  extract_lets _ _ _ _ _ _ _ v _ v1
  refine .via v (.ite .base .base) fun hv => ?_
  clear_value v
  refine .via v1 hv.upd fun hv1 => ?_
  exact .ite (.fail .base) (.ite (.fail .base) (.ite (.fail .base) (.ite (.okay (.step hv1 (reportClamps_only ..))) (.fail .base))))

/-! ### Machine/Bringup -/

def blankParts : State → State → State :=
  fun s t => { s with
      time.dev := t.time.dev, clk.selected := t.clk.selected, par.vals := t.par.vals, par.inForce := t.par.inForce, par.ro := t.par.ro, mb := t.mb,
      accepted := t.accepted, roles.roles := t.roles.roles, roles.audit := t.roles.audit, roles.overlay := t.roles.overlay, fw.pairB := t.fw.pairB,
      fw.stateA := t.fw.stateA, fw.stateB := t.fw.stateB, fw.booted := t.fw.booted, fw.running := t.fw.running, fw.header := t.fw.header,
      fw.newHeader := t.fw.newHeader, fw.progress := t.fw.progress, fw.standbyOnRunning := t.fw.standbyOnRunning,
      fw.erasedSectors := t.fw.erasedSectors, fw.hold := t.fw.hold, fw.testA := t.fw.testA, fw.testB := t.fw.testB, fw.discarded := t.fw.discarded,
      fw.accepted := t.fw.accepted, host.timeHiLatch := t.host.timeHiLatch, host.bar2Base := t.host.bar2Base, host.flrCount := t.host.flrCount,
      host.width := t.host.width, host.speed := t.host.speed, host.msix := t.host.msix, host.pba := t.host.pba, host.channels := t.host.channels,
      host.lastOf := t.host.lastOf, host.staged := t.host.staged, host.omciLost := t.host.omciLost, host.omciBad := t.host.omciBad, ev := t.ev,
      power := t.power, dramBytes := t.dramBytes, pace := t.pace, units := t.units, reports := t.reports, fault.handlers := t.fault.handlers,
      fault.spareUsed := t.fault.spareUsed, fault.readmitOff := t.fault.readmitOff, fault.window := t.fault.window,
      fault.lockFailA := t.fault.lockFailA, fault.lockFailB := t.fault.lockFailB, fault.parity := t.fault.parity, lanes := t.lanes, terms := t.terms,
      chans := t.chans, pon := t.pon, dba := t.dba, cipher := t.cipher, prot := t.prot, fwd := t.fwd, laneTest := t.laneTest }

theorem blank_only (s : State) : Only blankParts s (s.blank) true := .base

theorem stopped_only (s : State) (resetN pwrGood thermTripN : Bool) : Only blankParts s (s.stopped resetN pwrGood thermTripN) true := by
  unfold State.stopped
  extract_lets v
  refine .via v (.step .base (blank_only ..)) fun hv => ?_
  clear_value v
  exact hv.upd

theorem execResetAssert_only (pwrGood : Bool) (s : State) : OnlyNext blankParts s (execResetAssert pwrGood s) true := by
  unfold execResetAssert
  exact .next (.ite (.step .base (stopped_only ..)) (.step .base (stopped_only ..)))

theorem execResetRelease_only (s : State) : OnlyNext blankParts s (execResetRelease s) true := by
  unfold execResetRelease
  refine .next ?_
  extract_lets v
  refine .via v (.step .base (blank_only ..)) fun hv => ?_
  clear_value v
  exact hv.upd

theorem mapSpare_only (s : State) (sp role : Nat) : Only (fun s t => { s with units := t.units }) s (s.mapSpare sp role) := by
  unfold State.mapSpare
  extract_lets _ v _
  refine .via v (.step .base (setUnit_only ..)) fun hv => ?_
  exact .step hv (setUnit_only ..)

theorem mapOut_only (s : State) (u : Nat) (st : UnitState) (icings cause : Nat) :
    Only (fun s t => { s with units := t.units }) s (s.mapOut u st icings cause) := by
  unfold State.mapOut
  extract_lets v v1
  clear_value v
  refine .via v1 ?_ fun hv1 => ?_
  · unfold v1
    split
    · exact .step .base (setUnit_only ..)
    · exact .base
  exact .step hv1 (setUnit_only ..)

theorem mapFactory_only (s : State) (e : Nat × Nat) : Only (fun s t => { s with units := t.units }) s (s.mapFactory e) := by
  unfold State.mapFactory
  extract_lets v
  refine .via v (.step .base (mapOut_only ..)) fun hv => ?_
  exact .ite hv (.step hv (mapSpare_only ..))

theorem barRole_only (s : State) (r : RepairRec) : Only (fun s t => { s with units := t.units }) s (s.barRole r) := by
  unfold State.barRole
  extract_lets _ _
  exact .ite .base (.step .base (setUnit_only ..))

theorem mapRecord_only (s : State) (r : RepairRec) :
    Only (fun s t => { s with units := t.units, fault.spareUsed := t.fault.spareUsed }) s (s.mapRecord r) := by
  unfold State.mapRecord
  split
  · refine .ite (.step .base (mapSpare_only ..)) ?_
    extract_lets _ _
    exact .base
  · exact .step (.step .base (barRole_only ..)) (mapOut_only ..)
  · extract_lets _ _ v
    refine .via v (.ite .base .base) fun hv => ?_
    exact .step hv (mapOut_only ..)
  · exact .step (.step .base (addSpareCell_only ..)) (mapOut_only ..)
  · exact .step (.step (.step .base (addSpareCell_only ..)) (barRole_only ..)) (mapOut_only ..)

theorem fillRole_only (s : State) (role : Nat) : Only resumeParts s (s.fillRole role) := by
  unfold State.fillRole
  extract_lets r
  clear_value r
  split
  · exact .step (.step .base (assign_only ..)) (resume_only ..)
  · exact .base

theorem buildMap_only (s : State) : Only (fun s t => { s with
        ev.transit := t.ev.transit, pace.capSeq := t.pace.capSeq, pace.capSent := t.pace.capSent, units := t.units,
        fault.spareUsed := t.fault.spareUsed, fault.log := t.fault.log, lanes.optics := t.lanes.optics, fwd.tables := t.fwd.tables })
        s (s.buildMap) := by
  unfold State.buildMap
  extract_lets _ v v1 v2
  refine .via v .base fun hv => ?_
  refine .via v1 (.foldl hv fun _ _ => .step .base (mapFactory_only ..)) fun hv1 => ?_
  refine .via v2 (.foldl hv1 fun _ _ => .step .base (mapRecord_only ..)) fun hv2 => ?_
  exact .foldl hv2 fun _ _ => .step .base (fillRole_only ..)

theorem updateMap_only (s : State) : Only resumeParts s (s.updateMap) := by
  unfold State.updateMap
  exact .foldl .base fun _ _ => .step .base (fillRole_only ..)

theorem nextStage_only (s : State) : Only (fun s t => { s with
        power.stage := t.power.stage, power.stepStart := t.power.stepStart, power.stageTime := t.power.stageTime }) s (s.nextStage) := by
  unfold State.nextStage
  extract_lets _ _
  exact .base

theorem halt_only (s : State) : Only (fun s t => { s with power.halted := t.power.halted }) s (s.halt) := .base

theorem bootImage_only (s : State) (x b : ImageCheck) : Only (fun s t => { s with
        fw.booted := t.fw.booted, fw.running := t.fw.running, fw.header := t.fw.header, fw.newHeader := t.fw.newHeader,
        power.imageFallback := t.power.imageFallback }) s (s.bootImage x b) := by
  unfold State.bootImage
  extract_lets _ _ _ _
  exact .ite .base .base

theorem bootPair_only (s : State) (b pass : Bool) : Only condemnPairParts s (s.bootPair b pass) := by
  unfold State.bootPair
  exact .ite (.step .base (setPairState_only ..)) (.ite .base (.step .base (condemnPair_only ..)))

theorem bootTest_only (s : State) (pairA pairB : Bool) (failed : List Word) : Only (fun s t => { s with
        fw.pairB := t.fw.pairB, fw.stateA := t.fw.stateA, fw.stateB := t.fw.stateB, fw.testA := t.fw.testA, fw.testB := t.fw.testB,
        ev.transit := t.ev.transit, units := t.units, fault.log := t.fault.log }) s (s.bootTest pairA pairB failed) := by
  unfold State.bootTest
  extract_lets v _ v1
  refine .via v (.step (.step .base (bootPair_only ..)) (bootPair_only ..)) fun hv => ?_
  clear_value v
  refine .via v1 (.ite hv.upd hv) fun hv1 => ?_
  exact .foldl hv1 fun _ _ => .ite .base (.step .base (condemn_only ..))

theorem firstTarget_only (s : State) : Only (fun s t => { s with
        par.ro := t.par.ro, pace.target := t.pace.target, pace.settle := t.pace.settle, pace.attempts := t.pace.attempts, outbox := t.outbox })
        s (s.firstTarget) := by
  unfold State.firstTarget
  extract_lets _ _
  exact .step .base (sendTarget_only ..)

theorem bootAvs_only (s : State) (locked : Bool) :
    Only (fun s t => { s with ev.transit := t.ev.transit, pace.locked := t.pace.locked }) s (s.bootAvs locked) := by
  unfold State.bootAvs
  exact .ite (.step .base (raise_only ..)) (.ite .base (.step .base (raise_only ..)))

theorem bootLanes_only (s : State) :
    Only (fun s t => { s with power.calDeferred := t.power.calDeferred, power.ponCalibrated := t.power.ponCalibrated }) s (s.bootLanes) := by
  unfold State.bootLanes
  extract_lets _ _
  exact .base

theorem bootDram_only (s : State) (bytes : Nat) :
    Only (fun s t => { s with power.selfRefresh := t.power.selfRefresh, dramBytes := t.dramBytes, fwd.dram := t.fwd.dram }) s (s.bootDram bytes) := by
  unfold State.bootDram
  extract_lets v _
  refine .via v (.foldl .base fun _ _ => .step .base (setDramCh_only ..)) fun hv => ?_
  clear_value v
  exact hv.upd

theorem bootOverlay_only (s : State) (copies : Nat) (goodA goodB : Bool) :
    Only (fun s t => { s with roles.overlay := t.roles.overlay, ev.transit := t.ev.transit }) s (s.bootOverlay copies goodA goodB) := by
  unfold State.bootOverlay
  extract_lets a b1 o2 _ v3
  clear_value a b1 o2
  refine .via v3 .base fun hv3 => ?_
  split
  · exact .step hv3 (reportClamps_only ..)
  · exact .step hv3 (raise_only ..)

theorem bootAudit_only (s : State) : Only (fun s t => { s with roles.audit := t.roles.audit }) s (s.bootAudit) := by
  unfold State.bootAudit
  extract_lets a _ _ v1
  clear_value a
  refine .via v1 .base fun hv1 => ?_
  exact .step hv1 (auditAdd_only ..)

theorem loseUnfilled_only (s : State) : Only loseRoleParts s (s.loseUnfilled) := by
  unfold State.loseUnfilled
  exact .foldl .base fun _ _ => .step .base (loseRole_only ..)

theorem bootReady_only (s : State) (copies : Nat) (goodA goodB : Bool) : Only (fun s t => { answered s t with
        par.vals := t.par.vals, par.inForce := t.par.inForce, par.ro := t.par.ro, roles.overlay := t.roles.overlay, fw.stateA := t.fw.stateA,
        fw.stateB := t.fw.stateB, fw.standbyOnRunning := t.fw.standbyOnRunning, host.channels := t.host.channels, host.staged := t.host.staged,
        host.omciLost := t.host.omciLost, ev.transit := t.ev.transit, ev.vectors := t.ev.vectors, ev.rate := t.ev.rate, ev.loss := t.ev.loss,
        ev.lostSinceBatch := t.ev.lostSinceBatch, ev.telUnexported := t.ev.telUnexported, power.dev := t.power.dev, power.ready := t.power.ready,
        pace.capSeq := t.pace.capSeq, pace.capSent := t.pace.capSent, units := t.units, fault.log := t.fault.log, lanes.lanes := t.lanes.lanes,
        chans := t.chans, pon.tl := t.pon.tl, pon.gems := t.pon.gems, pon.reasm := t.pon.reasm, prot.tokens := t.prot.tokens,
        prot.streams := t.prot.streams, prot.lanes := t.prot.lanes, prot.groups := t.prot.groups, prot.carrier := t.prot.carrier,
        prot.queues := t.prot.queues, prot.pairLost := t.prot.pairLost, prot.silent := t.prot.silent, fwd.rules := t.fwd.rules,
        fwd.toParse := t.fwd.toParse, fwd.recirc := t.fwd.recirc, fwd.wants := t.fwd.wants, fwd.ops := t.fwd.ops, fwd.jobs := t.fwd.jobs,
        fwd.bufs := t.fwd.bufs, fwd.pools := t.fwd.pools, fwd.poolMsgs := t.fwd.poolMsgs, fwd.downQ := t.fwd.downQ, fwd.upQ := t.fwd.upQ,
        fwd.macs := t.fwd.macs }) s (s.bootReady copies goodA goodB) := by
  unfold State.bootReady
  extract_lets _ v v1 _ _ v2 v3 v4 v5 v6
  refine .via v .base fun hv => ?_
  refine .via v1 (.step (.step hv (bootOverlay_only ..)) (bootAudit_only ..)) fun hv1 => ?_
  clear_value v v1
  refine .via v2 hv1.upd fun hv2 => ?_
  refine .via v3 (.ite hv2 (.step hv2 (setPairState_only ..))) fun hv3 => ?_
  refine .via v4 (.foldl hv3 fun _ _ => .step .base (sleepLane_only ..)) fun hv4 => ?_
  refine .via v5 (.foldl hv4 fun _ _ => .step .base (visible_only ..)) fun hv5 => ?_
  refine .via v6 (.step hv5 (loseUnfilled_only ..)) fun hv6 => ?_
  exact .ite (.step hv6 (raise_only ..)) hv6

theorem exitReady_only (s : State) : Only (fun s t => { answered s t with
        par.ro := t.par.ro, host.channels := t.host.channels, host.staged := t.host.staged, host.omciLost := t.host.omciLost,
        ev.transit := t.ev.transit, ev.rate := t.ev.rate, ev.loss := t.ev.loss, ev.lostSinceBatch := t.ev.lostSinceBatch,
        ev.telUnexported := t.ev.telUnexported, power.dev := t.power.dev, pace.capSeq := t.pace.capSeq, pace.capSent := t.pace.capSent,
        units := t.units, fault.log := t.fault.log, lanes.lanes := t.lanes.lanes, chans := t.chans, pon.tl := t.pon.tl, pon.gems := t.pon.gems,
        pon.reasm := t.pon.reasm, cipher.saved := t.cipher.saved, prot.tokens := t.prot.tokens, prot.streams := t.prot.streams,
        prot.lanes := t.prot.lanes, prot.groups := t.prot.groups, prot.carrier := t.prot.carrier, prot.queues := t.prot.queues,
        prot.pairLost := t.prot.pairLost, prot.silent := t.prot.silent, fwd.rules := t.fwd.rules, fwd.toParse := t.fwd.toParse,
        fwd.recirc := t.fwd.recirc, fwd.wants := t.fwd.wants, fwd.ops := t.fwd.ops, fwd.jobs := t.fwd.jobs, fwd.bufs := t.fwd.bufs,
        fwd.pools := t.fwd.pools, fwd.poolMsgs := t.fwd.poolMsgs, fwd.downQ := t.fwd.downQ, fwd.upQ := t.fwd.upQ, fwd.macs := t.fwd.macs })
        s (s.exitReady) true := by
  unfold State.exitReady
  extract_lets _ v v1
  refine .via v .base fun hv => ?_
  refine .via v1 (.step (.step hv (setDevPower_only ..)) (loseUnfilled_only ..)) fun hv1 => ?_
  exact .step hv1 (respondAll_only ..)

theorem execBringupStepDone_only (result : BootStep) (s : State) : OnlyNext (fun s t => { answered s t with
        par.vals := t.par.vals, par.inForce := t.par.inForce, par.ro := t.par.ro, roles.overlay := t.roles.overlay, fw.pairB := t.fw.pairB,
        fw.stateA := t.fw.stateA, fw.stateB := t.fw.stateB, fw.booted := t.fw.booted, fw.running := t.fw.running, fw.header := t.fw.header,
        fw.newHeader := t.fw.newHeader, fw.standbyOnRunning := t.fw.standbyOnRunning, fw.testA := t.fw.testA, fw.testB := t.fw.testB,
        host.channels := t.host.channels, host.staged := t.host.staged, host.omciLost := t.host.omciLost, ev.transit := t.ev.transit,
        ev.vectors := t.ev.vectors, ev.rate := t.ev.rate, ev.loss := t.ev.loss, ev.lostSinceBatch := t.ev.lostSinceBatch,
        ev.telUnexported := t.ev.telUnexported, power.dev := t.power.dev, power.stage := t.power.stage, power.ready := t.power.ready,
        power.halted := t.power.halted, power.stepStart := t.power.stepStart, power.stageTime := t.power.stageTime,
        power.calDeferred := t.power.calDeferred, power.ponCalibrated := t.power.ponCalibrated, power.selfRefresh := t.power.selfRefresh,
        power.imageFallback := t.power.imageFallback, dramBytes := t.dramBytes, pace.target := t.pace.target, pace.locked := t.pace.locked,
        pace.settle := t.pace.settle, pace.attempts := t.pace.attempts, pace.capSeq := t.pace.capSeq, pace.capSent := t.pace.capSent,
        units := t.units, fault.spareUsed := t.fault.spareUsed, fault.factory := t.fault.factory, fault.log := t.fault.log,
        lanes.lanes := t.lanes.lanes, lanes.optics := t.lanes.optics, chans := t.chans, pon.tl := t.pon.tl, pon.gems := t.pon.gems,
        pon.reasm := t.pon.reasm, cipher.saved := t.cipher.saved, prot.tokens := t.prot.tokens, prot.streams := t.prot.streams,
        prot.lanes := t.prot.lanes, prot.groups := t.prot.groups, prot.carrier := t.prot.carrier, prot.queues := t.prot.queues,
        prot.pairLost := t.prot.pairLost, prot.silent := t.prot.silent, fwd.rules := t.fwd.rules, fwd.toParse := t.fwd.toParse,
        fwd.recirc := t.fwd.recirc, fwd.tables := t.fwd.tables, fwd.wants := t.fwd.wants, fwd.ops := t.fwd.ops, fwd.jobs := t.fwd.jobs,
        fwd.bufs := t.fwd.bufs, fwd.pools := t.fwd.pools, fwd.poolMsgs := t.fwd.poolMsgs, fwd.dram := t.fwd.dram, fwd.downQ := t.fwd.downQ,
        fwd.upQ := t.fwd.upQ, fwd.macs := t.fwd.macs }) s (execBringupStepDone result s) true := by
  unfold execBringupStepDone
  refine .next ?_
  extract_lets _ _ v _ v1
  refine .via v (.step .base (nextStage_only ..)) fun hv => ?_
  clear_value v
  refine .via v1 hv.upd fun hv1 => ?_
  refine .ite .base ?_
  split
  · exact .step .base (nextStage_only ..)
  · exact .ite (.step (.step .base (bootImage_only ..)) (nextStage_only ..)) (.step .base (halt_only ..))
  · exact .ite (.step (.foldl .base fun _ _ => .step (.step .base (mapOut_only ..)) (condemn_only ..)) (nextStage_only ..)) (.ite (.step (.step .base
    (bootTest_only ..)) (nextStage_only ..)) (.step .base (halt_only ..)))
  · exact .ite (.step (.step (.step .base (updateMap_only ..)) (nextStage_only ..)) (firstTarget_only ..)) (.step (.step (.step .base (buildMap_only
    ..)) (nextStage_only ..)) (firstTarget_only ..))
  · exact .step (.step .base (bootAvs_only ..)) (nextStage_only ..)
  · exact .step (.step .base (bootLanes_only ..)) (nextStage_only ..)
  · exact .ite (.step .base (halt_only ..)) (.step (.step .base (bootDram_only ..)) (nextStage_only ..))
  · exact .ite (.step hv1 (exitReady_only ..)) (.step hv1 (bootReady_only ..))
  · exact .base

/-! ### Machine/Power -/

theorem execDarkIdleExpiry_only (c : Fin 64) (s : State) :
    OnlyNext (fun s t => { s with power.darkDue := t.power.darkDue }) s (execDarkIdleExpiry c s) := by
  unfold execDarkIdleExpiry
  exact .next (.ite .base .base)

theorem execDarkChannelExit_only (c : Fin 64) (s : State) :
    OnlyNext (fun s t => { s with power.darkDue := t.power.darkDue }) s (execDarkChannelExit c s) := by
  unfold execDarkChannelExit
  exact .next (.ite .base .base)

theorem execDramSrIdleExpiry_only (d : Fin 8) (s : State) :
    OnlyNext (fun s t => { s with power.selfRefresh := t.power.selfRefresh }) s (execDramSrIdleExpiry d s) := by
  unfold execDramSrIdleExpiry
  exact .next (.ite .base .base)

theorem loseEighths_only (s : State) : Only (fun s t => { s with
        ev.telRing := t.ev.telRing, ev.telHead := t.ev.telHead, ev.telStaged := t.ev.telStaged, ev.telOpen := t.ev.telOpen,
        ev.telUnexported := t.ev.telUnexported }) s (s.loseEighths) := .base

theorem enterStandby_only (s : State) : Only (fun s t => { s with
        ev.transit := t.ev.transit, ev.telRing := t.ev.telRing, ev.telHead := t.ev.telHead, ev.telStaged := t.ev.telStaged,
        ev.telOpen := t.ev.telOpen, ev.telUnexported := t.ev.telUnexported, power.dev := t.power.dev, lanes.lanes := t.lanes.lanes })
        s (s.enterStandby) := by
  unfold State.enterStandby
  extract_lets v
  refine .via v (.foldl .base fun _ _ => .step .base (sleepLane_only ..)) fun hv => ?_
  exact .step (.step hv (loseEighths_only ..)) (setDevPower_only ..)

theorem enterHibernate_only (s : State) : Only (fun s t => { s with
        par.ro := t.par.ro, host.channels := t.host.channels, host.staged := t.host.staged, host.omciLost := t.host.omciLost,
        ev.transit := t.ev.transit, ev.rate := t.ev.rate, ev.loss := t.ev.loss, ev.lostSinceBatch := t.ev.lostSinceBatch, ev.telRing := t.ev.telRing,
        ev.telHead := t.ev.telHead, ev.telStaged := t.ev.telStaged, ev.telOpen := t.ev.telOpen, ev.telUnexported := t.ev.telUnexported,
        power.dev := t.power.dev, power.selfRefresh := t.power.selfRefresh, chans := t.chans, pon.gems := t.pon.gems, pon.reasm := t.pon.reasm,
        cipher.slots := t.cipher.slots, cipher.saved := t.cipher.saved, prot.tokens := t.prot.tokens, prot.streams := t.prot.streams,
        prot.lanes := t.prot.lanes, prot.groups := t.prot.groups, prot.carrier := t.prot.carrier, prot.queues := t.prot.queues,
        prot.pairLost := t.prot.pairLost, prot.silent := t.prot.silent, fwd.rules := t.fwd.rules, fwd.toParse := t.fwd.toParse,
        fwd.recirc := t.fwd.recirc, fwd.wants := t.fwd.wants, fwd.ops := t.fwd.ops, fwd.jobs := t.fwd.jobs, fwd.bufs := t.fwd.bufs,
        fwd.pools := t.fwd.pools, fwd.poolMsgs := t.fwd.poolMsgs, fwd.downQ := t.fwd.downQ, fwd.upQ := t.fwd.upQ }) s (s.enterHibernate) true := by
  unfold State.enterHibernate
  extract_lets _ v v1 v2 v3 _ v4
  refine .via v .base fun hv => ?_
  refine .via v1 (.foldl hv fun _ _ => .step .base (discardRegion_only ..)) fun hv1 => ?_
  refine .via v2 (.step (.step hv1 (restartPort_only ..)) (restartPort_only ..)) fun hv2 => ?_
  refine .via v3 (.step hv2 (loseEighths_only ..)) fun hv3 => ?_
  clear_value v v1 v2 v3
  refine .via v4 hv3.upd fun hv4 => ?_
  exact .step hv4 (setDevPower_only ..)

theorem startExit_only (s : State) :
    Only (fun s t => { s with power.dev := t.power.dev, power.stage := t.power.stage, power.stepStart := t.power.stepStart }) s (s.startExit) := .base

theorem setDevice_only (s : State) (code : Nat) : OnlyIn Prod.fst (fun s t => { s with
        par.ro := t.par.ro, host.channels := t.host.channels, host.staged := t.host.staged, host.omciLost := t.host.omciLost,
        ev.transit := t.ev.transit, ev.rate := t.ev.rate, ev.loss := t.ev.loss, ev.lostSinceBatch := t.ev.lostSinceBatch, ev.telRing := t.ev.telRing,
        ev.telHead := t.ev.telHead, ev.telStaged := t.ev.telStaged, ev.telOpen := t.ev.telOpen, ev.telUnexported := t.ev.telUnexported,
        power.dev := t.power.dev, power.stage := t.power.stage, power.stepStart := t.power.stepStart, power.selfRefresh := t.power.selfRefresh,
        lanes.lanes := t.lanes.lanes, chans := t.chans, pon.gems := t.pon.gems, pon.reasm := t.pon.reasm, cipher.slots := t.cipher.slots,
        cipher.saved := t.cipher.saved, prot.tokens := t.prot.tokens, prot.streams := t.prot.streams, prot.lanes := t.prot.lanes,
        prot.groups := t.prot.groups, prot.carrier := t.prot.carrier, prot.queues := t.prot.queues, prot.pairLost := t.prot.pairLost,
        prot.silent := t.prot.silent, fwd.rules := t.fwd.rules, fwd.toParse := t.fwd.toParse, fwd.recirc := t.fwd.recirc, fwd.wants := t.fwd.wants,
        fwd.ops := t.fwd.ops, fwd.jobs := t.fwd.jobs, fwd.bufs := t.fwd.bufs, fwd.pools := t.fwd.pools, fwd.poolMsgs := t.fwd.poolMsgs,
        fwd.downQ := t.fwd.downQ, fwd.upQ := t.fwd.upQ }) s (setDevice s code) true := by
  unfold setDevice
  exact .ite (.ite (.fst (.step .base (startExit_only ..))) (.okay (.step .base (leaveStandby_only ..)))) (.ite (.ite (.okay .base) (.ite (.fail
    .base) (.okay (.step .base (enterStandby_only ..))))) (.ite (.ite (.okay .base) (.ite (.fail .base) (.okay (.step .base (enterHibernate_only
    ..))))) (.fail .base)))

theorem setChannel_only (s : State) (code c : Nat) :
    OnlyIn Prod.fst (fun s t => { s with power.darkDue := t.power.darkDue }) s (setChannel s code c) := by
  unfold setChannel
  exact .ite (.fail .base) (.ite (.fail .base) (.ite (.okay .base) (.okay .base)))

theorem execPowerStateSet_only (mb : Fin 16) (s : State) : OnlyNext (fun s t => { answered s t with
        par.ro := t.par.ro, host.channels := t.host.channels, host.staged := t.host.staged, host.omciLost := t.host.omciLost,
        ev.transit := t.ev.transit, ev.rate := t.ev.rate, ev.loss := t.ev.loss, ev.lostSinceBatch := t.ev.lostSinceBatch, ev.telRing := t.ev.telRing,
        ev.telHead := t.ev.telHead, ev.telStaged := t.ev.telStaged, ev.telOpen := t.ev.telOpen, ev.telUnexported := t.ev.telUnexported,
        power.dev := t.power.dev, power.stage := t.power.stage, power.stepStart := t.power.stepStart, power.darkDue := t.power.darkDue,
        power.selfRefresh := t.power.selfRefresh, lanes.lanes := t.lanes.lanes, chans := t.chans, pon.gems := t.pon.gems, pon.reasm := t.pon.reasm,
        cipher.saved := t.cipher.saved, prot.tokens := t.prot.tokens, prot.streams := t.prot.streams, prot.lanes := t.prot.lanes,
        prot.groups := t.prot.groups, prot.carrier := t.prot.carrier, prot.queues := t.prot.queues, prot.pairLost := t.prot.pairLost,
        prot.silent := t.prot.silent, fwd.rules := t.fwd.rules, fwd.toParse := t.fwd.toParse, fwd.recirc := t.fwd.recirc, fwd.wants := t.fwd.wants,
        fwd.ops := t.fwd.ops, fwd.jobs := t.fwd.jobs, fwd.bufs := t.fwd.bufs, fwd.pools := t.fwd.pools, fwd.poolMsgs := t.fwd.poolMsgs,
        fwd.downQ := t.fwd.downQ, fwd.upQ := t.fwd.upQ }) s (execPowerStateSet mb s) true := by
  unfold execPowerStateSet
  refine hostCmd_only fun c u => ?_
  extract_lets _
  exact .ite (.fail .base) (.ite (.of (.step .base (setDevice_only ..))) (.of (.step .base (setChannel_only ..))))

theorem execPowerStatus_only (mb : Fin 16) (s : State) : OnlyNext answered s (execPowerStatus mb s) := by
  unfold execPowerStatus
  refine hostCmd_only fun c u => ?_
  exact .okay .base

theorem sense_only (s : State) (n : Nat) (raw : Int) : Only (fun s t => { s with
        par.ro := t.par.ro, ev.transit := t.ev.transit, ev.rate := t.ev.rate, power.alarmed := t.power.alarmed, power.tripRun := t.power.tripRun })
        s (s.sense n raw) := by
  unfold State.sense
  extract_lets _ _ v _ v1 _ v2
  refine .via v (.step .base (setRo_only ..)) fun hv => ?_
  clear_value v
  refine .via v1 hv.upd fun hv1 => ?_
  clear_value v1
  refine .via v2 hv1.upd fun hv2 => ?_
  clear_value v2
  exact .ite (.step hv2 (raiseSec_only ..)) (.ite hv1.upd hv1)

theorem senseAll_only (s : State) (n : Nat) (l : List Int) : Only (fun s t => { s with
        par.ro := t.par.ro, ev.transit := t.ev.transit, ev.rate := t.ev.rate, power.alarmed := t.power.alarmed, power.tripRun := t.power.tripRun })
        s (s.senseAll n l) := by
  induction l generalizing s n with
  | nil => exact .base
  | cons x l ih =>
    rw [State.senseAll]
    exact .step (.ite (.step .base (sense_only ..)) .base) (ih ..)

theorem execTempSample_only (temps : List Int) (s : State) : OnlyNext blankParts s (execTempSample temps s) true := by
  unfold execTempSample
  refine .next (.ite .base ?_)
  extract_lets v
  refine .via v (.step .base (senseAll_only ..)) fun hv => ?_
  exact .ite (.step hv (stopped_only ..)) hv

/-! ### Machine/Firmware -/

theorem execIdentRead_only (mb : Fin 16) (s : State) : OnlyNext answered s (execIdentRead mb s) := by
  unfold execIdentRead
  refine hostCmd_only fun c u => ?_
  exact .okay .base

theorem setOther_only (s : State) (t : Tab (Option Byte)) :
    Only (fun s t => { s with fw.imageA := t.fw.imageA, fw.imageB := t.fw.imageB }) s (s.setOther t) := by
  unfold State.setOther
  exact .ite .base .base

theorem program_only (s : State) (off : Nat) (data : List Byte) : Only (fun s t => { s with
        fw.newHeader := t.fw.newHeader, fw.imageA := t.fw.imageA, fw.imageB := t.fw.imageB, fw.erasedSectors := t.fw.erasedSectors })
        s (s.program off data) := by
  unfold State.program
  extract_lets _ _ _ _ v _ v1
  refine .via v .base fun hv => ?_
  clear_value v
  refine .via v1 (.ite hv.upd hv) fun hv1 => ?_
  exact .step hv1 (setOther_only ..)

theorem execFwImageWrite_only (mb : Fin 16) (s : State) : OnlyNext (fun s t => { answered s t with
        fw.newHeader := t.fw.newHeader, fw.imageA := t.fw.imageA, fw.imageB := t.fw.imageB, fw.erasedSectors := t.fw.erasedSectors })
        s (execFwImageWrite mb s) := by
  unfold execFwImageWrite
  refine hostCmd_only fun c u => ?_
  extract_lets _ _ _
  exact .ite (.fail .base) (.ite (.fail .base) (.ite (.fail .base) (.okay (.step .base (program_only ..)))))

theorem execFwActivate_only (mb : Fin 16) (check : ImageCheck) (s : State) : OnlyNext (fun s t => { answered s t with
        fw.stateA := t.fw.stateA, fw.stateB := t.fw.stateB, fw.newHeader := t.fw.newHeader, fw.progress := t.fw.progress,
        fw.standbyOnRunning := t.fw.standbyOnRunning }) s (execFwActivate mb check s) := by
  unfold execFwActivate
  refine hostCmd_only fun c u => ?_
  refine .ite (.fail .base) (.ite (.fail .base) (.ite (.fail .base) (.ite (.fail .base) ?_)))
  extract_lets _ v
  refine .via v .base fun hv => ?_
  exact .fst (.step hv (setPairState_only ..))

theorem updateFail_only (s : State) (step : Nat) : Only (fun s t => { s with ev.transit := t.ev.transit }) s (s.updateFail step) := by
  unfold State.updateFail
  exact .step .base (raise_only ..)

theorem execFwRebuildTimeout_only (s : State) : OnlyNext (fun s t => { answered s t with
        fw.stateA := t.fw.stateA, fw.stateB := t.fw.stateB, fw.progress := t.fw.progress, fw.standbyOnRunning := t.fw.standbyOnRunning,
        ev.transit := t.ev.transit }) s (execFwRebuildTimeout s) := by
  unfold execFwRebuildTimeout
  refine .next (.ite ?_ .base)
  extract_lets _ v
  refine .via v .base fun hv => ?_
  exact .step (.step (.step hv (setPairState_only ..)) (updateFail_only ..)) (respondAll_only ..)

theorem execFwStandbyLoadDone_only (ok : Bool) (s : State) : OnlyNext (fun s t => { s with
        fw.stateA := t.fw.stateA, fw.stateB := t.fw.stateB, fw.progress := t.fw.progress, fw.standbyOnRunning := t.fw.standbyOnRunning,
        fw.testA := t.fw.testA, fw.testB := t.fw.testB, ev.transit := t.ev.transit, fault.log := t.fault.log, fault.lockFailA := t.fault.lockFailA,
        fault.lockFailB := t.fault.lockFailB }) s (execFwStandbyLoadDone ok s) := by
  unfold execFwStandbyLoadDone
  refine .next (.ite ?_ .base)
  extract_lets _ v
  refine .via v .base fun hv => ?_
  exact .ite (.step hv (setPairState_only ..)) (.step (.step hv (updateFail_only ..)) (failPair_only ..))

theorem execFwCommit_only (mb : Fin 16) (s : State) : OnlyNext (fun s t => { answered s t with
        fw.bootImage := t.fw.bootImage, fw.bootCount := t.fw.bootCount, fw.securityMin := t.fw.securityMin }) s (execFwCommit mb s) := by
  unfold execFwCommit
  refine hostCmd_only fun c u => ?_
  exact .okay .base

theorem execFwStatus_only (mb : Fin 16) (s : State) : OnlyNext answered s (execFwStatus mb s) := by
  unfold execFwStatus
  refine hostCmd_only fun c u => ?_
  extract_lets _ _
  exact .okay .base

/-! ### Machine/BarRead -/

theorem bar0Read_aligned (s : State) {a : Nat} (h : a % 4 = 0) : s.bar0Read a 4 = (s.bar0ReadEffect a).emit (.readData (bar0Value s a)) :=
  if_pos (by simp [h])

theorem bar0ReadEffect_doneCount (s : State) (c : Fin 64) :
    s.bar0ReadEffect (0x4001C + c.val * 0x100) = s.setCh c { s.ch c with doneCount := 0 } := by
  unfold State.bar0ReadEffect
  have hc : (0x4001C + c.val * 0x100 - 0x40000) / 0x100 = c.val := by omega
  rw [if_neg (by omega), if_neg (by omega), if_neg (by simp; omega), if_pos (by simp; omega), hc]

theorem bar0ReadEffect_completed (s : State) (n : Fin 16) :
    s.bar0ReadEffect (0x3000C + n.val * 0x40) = s.setMbox n { s.mbox n with completed := 0 } := by
  unfold State.bar0ReadEffect
  have hn : (0x3000C + n.val * 0x40 - 0x30000) / 0x40 = n.val := by omega
  rw [if_neg (by omega), if_neg (by omega), if_pos (by simp; omega), hn]

theorem execDeviceTimeLoRead_only (s : State) :
    OnlyNext (fun s t => { s with host.timeHiLatch := t.host.timeHiLatch, outbox := t.outbox }) s (execDeviceTimeLoRead s) := by
  unfold execDeviceTimeLoRead
  rw [bar0Read_aligned s (by decide)]
  exact .next (.step (u := { s with host.timeHiLatch := s.now / 2 ^ 32 }) .base (emit_only ..))

theorem execHostFlrCountRead_only (s : State) :
    OnlyNext (fun s t => { s with host.flrCount := t.host.flrCount, outbox := t.outbox }) s (execHostFlrCountRead s) := by
  unfold execHostFlrCountRead
  rw [bar0Read_aligned s (by decide)]
  exact .next (.step (u := { s with host.flrCount := 0 }) .base (emit_only ..))

theorem execDoneCountRead_only (c : Fin 64) (s : State) :
    OnlyNext (fun s t => { s with host.channels := t.host.channels, outbox := t.outbox }) s (execDoneCountRead c s) := by
  unfold execDoneCountRead
  rw [bar0Read_aligned s (by omega), bar0ReadEffect_doneCount]
  exact .next (.step (.step .base (setCh_only ..)) (emit_only ..))

theorem execMbCountRead_only (n : Fin 16) (s : State) : OnlyNext (fun s t => { s with mb := t.mb, outbox := t.outbox }) s (execMbCountRead n s) := by
  unfold execMbCountRead
  rw [bar0Read_aligned s (by omega), bar0ReadEffect_completed]
  exact .next (.step (.step .base (setMbox_only ..)) (emit_only ..))

/-! ### Machine/FaultCmds -/

theorem execFaultStatus_only (mb : Fin 16) (s : State) : OnlyNext answered s (execFaultStatus mb s) := by
  unfold execFaultStatus
  refine hostCmd_only fun c u => ?_
  exact .okay .base

theorem execUnitStatus_only (mb : Fin 16) (unit : Word) (s : State) : OnlyNext answered s (execUnitStatus mb unit s) := by
  unfold execUnitStatus
  refine hostCmd_only fun c u => ?_
  extract_lets _
  exact .ite (.fail .base) (.ite (.okay .base) (.okay .base))

theorem execReadmitPolicy_only (mb : Fin 16) (allow : Bool) (units : List Word) (s : State) :
    OnlyNext (fun s t => { answered s t with units := t.units, fault.readmitOff := t.fault.readmitOff }) s (execReadmitPolicy mb allow units s) := by
  unfold execReadmitPolicy
  refine hostCmd_only fun c u => ?_
  exact .ite (.okay .base) (.ite (.fail .base) (.okay (.foldl .base fun _ _ => .step .base (setUnit_only ..))))

theorem execReadmitOverride_only (mb : Fin 16) (unit : Word) (pass : Bool) (s : State) : OnlyNext (fun s t => { answered s t with
        fw.stateA := t.fw.stateA, fw.stateB := t.fw.stateB, ev.transit := t.ev.transit, units := t.units, fault.spareUsed := t.fault.spareUsed,
        fault.log := t.fault.log }) s (execReadmitOverride mb unit pass s) := by
  unfold execReadmitOverride
  refine hostCmd_only fun c u => ?_
  extract_lets _
  exact .ite (.fail .base) (.ite (.ite (.fail .base) (.ite (.fail .base) (.okay (.step (.step (.step .base (setPairState_only ..)) (logRepair_only
    ..)) (raiseUnit_only ..))))) (.ite (.fail .base) (.ite (.okay (.step .base (readmit_only ..))) (.fail (.ite .base (.step .base (condemn_only
    ..)))))))

theorem execRepairMapRead_only (mb : Fin 16) (start : Nat) (s : State) : OnlyNext answered s (execRepairMapRead mb start s) := by
  unfold execRepairMapRead
  refine hostCmd_only fun c u => ?_
  exact .okay .base

theorem condemnByMaker_only (s : State) (u : Nat) : Only (fun s t => { answered s t with
        par.ro := t.par.ro, fw.pairB := t.fw.pairB, fw.stateA := t.fw.stateA, fw.stateB := t.fw.stateB, fw.hold := t.fw.hold, fw.testA := t.fw.testA,
        fw.testB := t.fw.testB, host.channels := t.host.channels, host.staged := t.host.staged, host.omciLost := t.host.omciLost,
        ev.transit := t.ev.transit, ev.rate := t.ev.rate, ev.loss := t.ev.loss, ev.lostSinceBatch := t.ev.lostSinceBatch,
        ev.telUnexported := t.ev.telUnexported, pace.capSeq := t.pace.capSeq, pace.capSent := t.pace.capSent, units := t.units,
        fault.handlers := t.fault.handlers, fault.log := t.fault.log, lanes.lanes := t.lanes.lanes, chans := t.chans, pon.tl := t.pon.tl,
        pon.gems := t.pon.gems, pon.reasm := t.pon.reasm, prot.tokens := t.prot.tokens, prot.streams := t.prot.streams, prot.lanes := t.prot.lanes,
        prot.groups := t.prot.groups, prot.carrier := t.prot.carrier, prot.queues := t.prot.queues, prot.pairLost := t.prot.pairLost,
        prot.silent := t.prot.silent, fwd.rules := t.fwd.rules, fwd.toParse := t.fwd.toParse, fwd.recirc := t.fwd.recirc, fwd.wants := t.fwd.wants,
        fwd.ops := t.fwd.ops, fwd.jobs := t.fwd.jobs, fwd.bufs := t.fwd.bufs, fwd.pools := t.fwd.pools, fwd.poolMsgs := t.fwd.poolMsgs,
        fwd.downQ := t.fwd.downQ, fwd.upQ := t.fwd.upQ, fwd.macs := t.fwd.macs }) s (s.condemnByMaker u) := by
  unfold State.condemnByMaker
  extract_lets _ _ _ v _ v1 _
  refine .via v (.step .base (condemnPair_only ..)) fun hv => ?_
  refine .via v1 (.ite .base (.ite (.step .base (reportCell_only ..)) (.ite (.step .base (reportBlock_only ..)) (.step .base (iceRegion_only ..)))))
    fun hv1 => ?_
  exact .ite (.ite (.step hv (loseActive_only ..)) hv) (.step (.step hv1 (setUnit_only ..)) (logRepair_only ..))

def repairWriteParts : State → State → State :=
  fun s t => { answered s t with
      par.ro := t.par.ro, fw.pairB := t.fw.pairB, fw.stateA := t.fw.stateA, fw.stateB := t.fw.stateB, fw.hold := t.fw.hold, fw.testA := t.fw.testA,
      fw.testB := t.fw.testB, host.channels := t.host.channels, host.staged := t.host.staged, host.omciLost := t.host.omciLost,
      ev.transit := t.ev.transit, ev.rate := t.ev.rate, ev.loss := t.ev.loss, ev.lostSinceBatch := t.ev.lostSinceBatch,
      ev.telUnexported := t.ev.telUnexported, pace.capSeq := t.pace.capSeq, pace.capSent := t.pace.capSent, units := t.units,
      fault.handlers := t.fault.handlers, fault.spareUsed := t.fault.spareUsed, fault.log := t.fault.log, lanes.lanes := t.lanes.lanes,
      chans := t.chans, pon.tl := t.pon.tl, pon.gems := t.pon.gems, pon.reasm := t.pon.reasm, prot.tokens := t.prot.tokens,
      prot.streams := t.prot.streams, prot.lanes := t.prot.lanes, prot.groups := t.prot.groups, prot.carrier := t.prot.carrier,
      prot.queues := t.prot.queues, prot.pairLost := t.prot.pairLost, prot.silent := t.prot.silent, fwd.rules := t.fwd.rules,
      fwd.toParse := t.fwd.toParse, fwd.recirc := t.fwd.recirc, fwd.wants := t.fwd.wants, fwd.ops := t.fwd.ops, fwd.jobs := t.fwd.jobs,
      fwd.bufs := t.fwd.bufs, fwd.pools := t.fwd.pools, fwd.poolMsgs := t.fwd.poolMsgs, fwd.downQ := t.fwd.downQ, fwd.upQ := t.fwd.upQ,
      fwd.macs := t.fwd.macs }

theorem repairWrite_only (s : State) (e : Word × Nat) : OnlyIn Prod.fst repairWriteParts s (repairWrite s e) := by
  unfold repairWrite
  extract_lets _
  exact .ite (.fst .base) (.ite (.fst (.step .base (condemnByMaker_only ..))) (.ite (.ite (.fst (.step .base (toSpare_only ..))) (.fst .base)) (.fst
    .base)))

theorem execRepairMapWrite_only (mb : Fin 16) (records : List (Word × Nat)) (s : State) :
    OnlyNext repairWriteParts s (execRepairMapWrite mb records s) := by
  unfold execRepairMapWrite
  refine hostCmd_only fun c u => ?_
  refine entriesCmd_only fun u x => ?_
  exact .of (.step .base (repairWrite_only ..))

theorem execSelfTest_only (mb : Fin 16) (unit : Word) (result : Nat) (s : State) : OnlyNext answered s (execSelfTest mb unit result s) := by
  unfold execSelfTest
  refine hostCmd_only fun c u => ?_
  exact .ite (.okay .base) (.fail .base)

/-! ### Machine/Owners -/

theorem tetherTestStart_only (s : State) (inst : Nat) : Only restartPortParts s (s.tetherTestStart inst) := by
  unfold State.tetherTestStart
  exact .ite .base (.step .base (restartPort_only ..))

/-! ### Machine/LaneTestCmds -/

theorem enterTest_only (s : State) (type inst : Nat) : Only restartPortParts s (s.enterTest type inst) := by
  unfold State.enterTest
  exact .ite (.step .base (tetherTestStart_only ..)) .base

def execLanePrbsSetParts : State → State → State :=
  fun s t => { answered s t with
      ev.transit := t.ev.transit, prot.tokens := t.prot.tokens, prot.streams := t.prot.streams, prot.lanes := t.prot.lanes,
      prot.groups := t.prot.groups, prot.carrier := t.prot.carrier, prot.pairLost := t.prot.pairLost, prot.silent := t.prot.silent,
      laneTest := t.laneTest }

theorem execLanePrbsSet_only (mb : Fin 16) (s : State) : OnlyNext execLanePrbsSetParts s (execLanePrbsSet mb s) := by
  unfold execLanePrbsSet
  refine hostCmd_only fun c u => ?_
  extract_lets w _ _ _ _ v1
  clear_value w
  refine .via v1 (.step .base (enterTest_only ..)) fun hv1 => ?_
  split
  · exact .fail .base
  · exact .ite (.fail .base) (.okay (.step hv1 (setLane_only ..)))

theorem execLanePrbsRead_only (mb : Fin 16) (compared errors : Nat) (s : State) :
    OnlyNext (fun s t => { answered s t with laneTest := t.laneTest }) s (execLanePrbsRead mb compared errors s) := by
  unfold execLanePrbsRead
  refine hostCmd_only fun c u => ?_
  extract_lets w _ _ _ _ _
  clear_value w
  split
  · exact .fail .base
  · exact .okay (.step .base (setLane_only ..))

theorem execLaneErrInject_only (mb : Fin 16) (s : State) :
    OnlyNext (fun s t => { answered s t with laneTest := t.laneTest }) s (execLaneErrInject mb s) := by
  unfold execLaneErrInject
  refine hostCmd_only fun c u => ?_
  extract_lets w _ _ _ _ _ _
  clear_value w
  split
  · exact .fail .base
  · exact .ite (.fail .base) (.ite (.fail .base) (.okay (.step .base (setLane_only ..))))

theorem execErrorInjection_only (type : Fin 3) (inst : Fin 128) (s : State) :
    OnlyNext (fun s t => { s with laneTest := t.laneTest, outbox := t.outbox }) s (execErrorInjection type inst s) := by
  unfold execErrorInjection
  refine .next ?_
  extract_lets l _
  clear_value l
  exact .ite (.step (.step .base (setLane_only ..)) (emit_only ..)) .base

theorem execLaneLoopSet_only (mb : Fin 16) (s : State) : OnlyNext execLanePrbsSetParts s (execLaneLoopSet mb s) := by
  unfold execLaneLoopSet
  refine hostCmd_only fun c u => ?_
  extract_lets _ _ _ _ _ _ refusal v1
  clear_value refusal
  refine .via v1 (.ite .base (.step .base (enterTest_only ..))) fun hv1 => ?_
  split
  · exact .fail .base
  · exact .ite (.okay (.foldl hv1 fun _ _ => .step .base (setLane_only ..))) (.fail .base)

theorem execPrbsLock_only (type : Fin 3) (inst : Fin 128) (s : State) :
    OnlyNext (fun s t => { s with laneTest := t.laneTest }) s (execPrbsLock type inst s) := by
  unfold execPrbsLock
  refine .next ?_
  extract_lets _
  exact .ite (.step .base (setLane_only ..)) .base

theorem execPrbsLockLoss_only (type : Fin 3) (inst : Fin 128) (compared errors : Nat) (s : State) :
    OnlyNext (fun s t => { s with laneTest := t.laneTest }) s (execPrbsLockLoss type inst compared errors s) := by
  unfold execPrbsLockLoss
  refine .next ?_
  extract_lets _
  exact .ite (.step .base (setLane_only ..)) .base

theorem selectTap_only (s : State) (op : Nat) : Only (fun s t => { s with tap.ir := t.tap.ir }) s (s.selectTap op) := .base

theorem bypassed_only (s : State) : Only (fun s t => { s with outbox := t.outbox }) s (s.bypassed) := by
  unfold State.bypassed
  exact .step .base (emit_only ..)

theorem reachBalls_only (s : State) (op : Nat) : Only (fun s t => { s with tap.ir := t.tap.ir, outbox := t.outbox }) s (s.reachBalls op) := by
  unfold State.reachBalls
  exact .ite (.step (.step .base (selectTap_only ..)) (bypassed_only ..)) (.step .base (selectTap_only ..))

theorem execTapReset_only (s : State) : OnlyNext (fun s t => { s with tap.ir := t.tap.ir }) s (execTapReset s) := by
  unfold execTapReset
  exact .next (.step .base (selectTap_only ..))

theorem execExtest_only (s : State) : OnlyNext (fun s t => { s with tap.ir := t.tap.ir, outbox := t.outbox }) s (execExtest s) := by
  unfold execExtest
  exact .next (.step .base (reachBalls_only ..))

theorem execSamplePreload_only (balls preload : Nat) (s : State) :
    OnlyNext (fun s t => { s with tap := t.tap, outbox := t.outbox }) s (execSamplePreload balls preload s) := by
  unfold execSamplePreload
  exact .next (.step .base (emit_only ..))

theorem execIdcode_only (s : State) : OnlyNext (fun s t => { s with tap.ir := t.tap.ir, outbox := t.outbox }) s (execIdcode s) := by
  unfold execIdcode
  exact .next (.step (.step .base (selectTap_only ..)) (emit_only ..))

theorem execClamp_only (s : State) : OnlyNext (fun s t => { s with tap.ir := t.tap.ir, outbox := t.outbox }) s (execClamp s) := by
  unfold execClamp
  exact .next (.step .base (reachBalls_only ..))

theorem execHighz_only (s : State) : OnlyNext (fun s t => { s with tap.ir := t.tap.ir, outbox := t.outbox }) s (execHighz s) := by
  unfold execHighz
  exact .next (.step .base (reachBalls_only ..))

theorem execExtestPulse_only (s : State) : OnlyNext (fun s t => { s with tap.ir := t.tap.ir, outbox := t.outbox }) s (execExtestPulse s) := by
  unfold execExtestPulse
  exact .next (.step .base (reachBalls_only ..))

theorem execExtestTrain_only (s : State) : OnlyNext (fun s t => { s with tap.ir := t.tap.ir, outbox := t.outbox }) s (execExtestTrain s) := by
  unfold execExtestTrain
  exact .next (.step .base (reachBalls_only ..))

theorem execBypass_only (s : State) : OnlyNext (fun s t => { s with tap.ir := t.tap.ir, outbox := t.outbox }) s (execBypass s) := by
  unfold execBypass
  exact .next (.step (.step .base (selectTap_only ..)) (bypassed_only ..))

/-! ### Machine/Learning -/

theorem raiseFreeze_only (s : State) (clear : Bool) (port fid : Nat) :
    Only (fun s t => { s with ev.transit := t.ev.transit }) s (s.raiseFreeze clear port fid) := by
  unfold State.raiseFreeze
  exact .step .base (raiseAs_only ..)

theorem endFreeze_only (s : State) (p : Place) :
    Only (fun s t => { s with ev.transit := t.ev.transit, fwd.tables := t.fwd.tables }) s (s.endFreeze p) := by
  unfold State.endFreeze
  split
  · split
    · exact .ite (.step (.step .base (writeAt_only ..)) (raiseFreeze_only ..)) .base
    · exact .base
  · exact .base

theorem move_only (s : State) (p : Place) (m : SerMsg) :
    Only (fun s t => { s with par.ro := t.par.ro, ev.transit := t.ev.transit, fwd.tables := t.fwd.tables }) s (s.move p m) := by
  unfold State.move
  extract_lets v v1 _ _
  clear_value v1
  refine .via v (.step .base (endFreeze_only ..)) fun hv => ?_
  split
  · split
    · exact .ite (.step hv (bump_only ..)) (.ite (.step hv (writeAt_only ..)) (.ite (.step hv (writeAt_only ..)) (.ite (.step (.step hv (writeAt_only
      ..)) (raiseFreeze_only ..)) (.step hv (writeAt_only ..)))))
    · exact hv
  · exact hv

theorem applyLearn_only (s : State) (m : SerMsg) (parity : Parity) : Only (fun s t => { s with
        par.ro := t.par.ro, ev.transit := t.ev.transit, ev.rate := t.ev.rate, reports := t.reports, fault.parity := t.fault.parity,
        fwd.tables := t.fwd.tables, free := t.free }) s (s.applyLearn m parity) := by
  unfold State.applyLearn
  extract_lets k v1 v2
  clear_value k v2
  refine .via v1 ?_ fun hv1 => ?_
  · unfold v1
    split
    · exact .ite (.step .base (repairSlot_only ..)) .base
    · exact .base
  split
  · exact .ite (.step hv1 (bumpF_only ..)) (.step hv1 (insertEntry_only ..))
  · split
    · exact hv1
    · exact .ite (.step hv1 (writeAt_only ..)) (.ite (.step hv1 (bump_only ..)) (.step hv1 (move_only ..)))

theorem toPeer_only (s : State) (m : SerMsg) :
    Only (fun s t => { s with prot.txCounters := t.prot.txCounters, outbox := t.outbox }) s (s.toPeer m) := by
  unfold State.toPeer
  exact .ite .base (.step .base (sendCarrier_only ..))

theorem addEntry_only (t key flags : Nat) (v : EntVal) (s : State) : OnlyIn Prod.fst (fun s t => { s with
        par.ro := t.par.ro, ev.transit := t.ev.transit, ev.rate := t.ev.rate, fwd.tables := t.fwd.tables, free := t.free })
        s (addEntry t key flags v s) := by
  unfold addEntry
  extract_lets _ p
  split
  · exact .fst (.step .base (insertEntry_only ..))
  · refine .ite (.fst .base) ?_
    extract_lets v1
    refine .via v1 (.step .base (writeAt_only ..)) fun hv1 => ?_
    exact .fst hv1

theorem deleteKey_only (t : Nat) (s : State) (key : Nat) :
    OnlyIn Prod.fst (fun s t => { s with fwd.tables := t.fwd.tables }) s (deleteKey t s key) := by
  unfold deleteKey
  split
  · exact .fst .base
  · exact .fst (.step .base (deleteAt_only ..))

theorem unfreeze_only (s : State) (fid addr : Nat) :
    OnlyIn Prod.fst (fun s t => { s with ev.transit := t.ev.transit, fwd.tables := t.fwd.tables }) s (s.unfreeze fid addr) := by
  unfold State.unfreeze
  split
  · exact .fail .base
  · split
    · split
      · extract_lets v
        refine .via v (.step .base (writeAt_only ..)) fun hv => ?_
        exact .okay (.ite (.step hv (raiseFreeze_only ..)) hv)
      · exact .fail .base
    · exact .fail .base

theorem tableOp_only (s : State) (x : TableOp) : OnlyIn Prod.fst (fun s t => { s with
        par.ro := t.par.ro, ev.transit := t.ev.transit, ev.rate := t.ev.rate, fwd.tables := t.fwd.tables, free := t.free }) s (s.tableOp x) := by
  unfold State.tableOp
  split
  · refine entriesCmd_only fun u x => ?_
    exact .ite (.of (.step .base (addEntry_only ..))) (.fst .base)
  · refine entriesCmd_only fun u x => ?_
    exact .of (.step .base (deleteKey_only ..))
  · refine entriesCmd_only fun u x => ?_
    exact .ite (.of (.step .base (addEntry_only ..))) (.fst .base)
  · refine entriesCmd_only fun u x => ?_
    exact .of (.step .base (deleteKey_only ..))
  · exact .of (.step .base (unfreeze_only ..))

theorem joinSerial_only (s : State) (mb : Fin 16) (o : TableOp) : OnlyIn Prod.fst (fun s t => { s with
        par.ro := t.par.ro, ev.transit := t.ev.transit, ev.rate := t.ev.rate, fwd.tables := t.fwd.tables, fwd.serial := t.fwd.serial, free := t.free })
        s (s.joinSerial mb o) := by
  unfold State.joinSerial
  exact .ite (.of (.step .base (tableOp_only ..))) (.fst .base)

def hostTurnsParts : State → State → State :=
  fun s t => { answered s t with
      par.ro := t.par.ro, ev.transit := t.ev.transit, ev.rate := t.ev.rate, fwd.tables := t.fwd.tables, fwd.serial := t.fwd.serial, free := t.free }

theorem hostTurns_only (l : List SerMsg) (s : State) : Only hostTurnsParts s (State.hostTurns l s) := by
  induction l generalizing s with
  | nil => exact .base
  | cons x l ih =>
    rw [State.hostTurns]
    split
    · exact .base
    · extract_lets p
      refine .step ?_ (ih ..)
      split
      · exact .step (.step .base (tableOp_only ..)) (respondAll_only ..)
      · exact .step .base (tableOp_only ..)

theorem execLearnMessageApply_only (parity : Parity) (s : State) : OnlyNext (fun s t => { answered s t with
        par.ro := t.par.ro, ev.transit := t.ev.transit, ev.rate := t.ev.rate, reports := t.reports, fault.parity := t.fault.parity,
        prot.txCounters := t.prot.txCounters, fwd.tables := t.fwd.tables, fwd.serial := t.fwd.serial, free := t.free })
        s (execLearnMessageApply parity s) := by
  unfold execLearnMessageApply
  refine .next ?_
  split
  · exact .base
  · exact .ite (.step (.step (.step .base (applyLearn_only ..)) (toPeer_only ..)) (hostTurns_only ..)) .base

theorem applyFlush_only (s : State) (m : SerMsg) : Only (fun s t => { s with fwd.tables := t.fwd.tables }) s (s.applyFlush m) := by
  unfold State.applyFlush
  exact .foldl .base fun _ _ => .step .base (deleteAt_only ..)

theorem execMacFlushApply_only (s : State) : OnlyNext (fun s t => { answered s t with
        par.ro := t.par.ro, ev.transit := t.ev.transit, ev.rate := t.ev.rate, prot.txCounters := t.prot.txCounters, fwd.tables := t.fwd.tables,
        fwd.serial := t.fwd.serial, free := t.free }) s (execMacFlushApply s) := by
  unfold execMacFlushApply
  refine .next ?_
  split
  · exact .base
  · exact .ite (.step (.step (.step .base (applyFlush_only ..)) (toPeer_only ..)) (hostTurns_only ..)) .base

theorem startPass_only (s : State) (t : Nat) : Only (fun s t => { s with fwd.tables := t.fwd.tables }) s (s.startPass t) := by
  unfold State.startPass
  extract_lets _
  exact .step .base (setTable_only ..)

theorem execAgingPassStart_only (table : Fin 2) (s : State) :
    OnlyNext (fun s t => { s with fwd.tables := t.fwd.tables }) s (execAgingPassStart table s) := by
  unfold execAgingPassStart
  exact .next (.ite (.step .base (setTable_only ..)) (.step .base (startPass_only ..)))

theorem scanEntry_only (s : State) (t : Nat) (p : Place) :
    Only (fun s t => { s with par.ro := t.par.ro, ev.transit := t.ev.transit, fwd.tables := t.fwd.tables }) s (s.scanEntry t p) := by
  unfold State.scanEntry
  extract_lets v
  refine .via v (.ite (.step .base (endFreeze_only ..)) .base) fun hv => ?_
  split
  · exact hv
  · exact .ite hv (.ite (.step hv (writeAt_only ..)) (.ite hv (.step (.step hv (deleteAt_only ..)) (bump_only ..))))

theorem execAgingScan_only (table : Fin 2) (ovf : Bool) (index : Nat) (s : State) : OnlyNext (fun s t => { s with
        par.ro := t.par.ro, ev.transit := t.ev.transit, fwd.tables := t.fwd.tables }) s (execAgingScan table ovf index s) := by
  unfold execAgingScan
  exact .next (.ite (.step .base (scanEntry_only ..)) .base)

theorem sweepEntry_only (s : State) (p : Place) :
    Only (fun s t => { s with ev.transit := t.ev.transit, fwd.tables := t.fwd.tables }) s (s.sweepEntry p) := by
  unfold State.sweepEntry
  extract_lets v
  refine .via v (.step .base (endFreeze_only ..)) fun hv => ?_
  split
  · split
    · exact .ite (.step hv (writeAt_only ..)) hv
    · exact hv
  · exact hv

theorem execMoveWindowSweep_only (s : State) :
    OnlyNext (fun s t => { s with ev.transit := t.ev.transit, fwd.tables := t.fwd.tables }) s (execMoveWindowSweep s) := by
  unfold execMoveWindowSweep
  exact .next (.foldl .base fun _ _ => .step .base (sweepEntry_only ..))

theorem execFlowProfileSet_only (mb : Fin 16) (profile : Nat) (extracts : List Nat) (s : State) :
    OnlyNext (fun s t => { answered s t with fwd.profiles := t.fwd.profiles }) s (execFlowProfileSet mb profile extracts s) := by
  unfold execFlowProfileSet
  refine hostCmd_only fun c u => ?_
  exact .ite (.fail .base) (.okay .base)

theorem execFlowAdd_only (mb : Fin 16) (entries : List FlowArg) (s : State) : OnlyNext hostTurnsParts s (execFlowAdd mb entries s) := by
  unfold execFlowAdd
  refine hostCmd_only fun c u => ?_
  exact .ite (.fail .base) (.of (.step .base (joinSerial_only ..)))

theorem execFlowDelete_only (mb : Fin 16) (keys : List Nat) (s : State) : OnlyNext hostTurnsParts s (execFlowDelete mb keys s) := by
  unfold execFlowDelete
  refine hostCmd_only fun c u => ?_
  exact .ite (.of (.step .base (joinSerial_only ..))) (.fail .base)

theorem readKey_only (t : Nat) (s : State) (key : Nat) : OnlyIn Prod.fst (fun s _ => s) s (readKey t s key) := by
  unfold readKey
  split <;> exact .fst .base

theorem readTable_only (t : Nat) (keys : List Nat) (buckets : Option (Nat × Nat)) (s : State) :
    OnlyIn Prod.fst (fun s _ => s) s (readTable t keys buckets s) := by
  unfold readTable
  split
  · exact .ite (.fail .base) (.okay .base)
  · refine .ite (entriesCmd_only fun u x => ?_) (.fail .base)
    exact .of (.step .base (readKey_only ..))

theorem execFlowRead_only (mb : Fin 16) (keys : List Nat) (buckets : Option (Nat × Nat)) (s : State) :
    OnlyNext answered s (execFlowRead mb keys buckets s) := by
  unfold execFlowRead
  refine hostCmd_only fun c u => ?_
  exact .of (.step .base (readTable_only ..))

theorem execMacAdd_only (mb : Fin 16) (entries : List MacArg) (s : State) : OnlyNext hostTurnsParts s (execMacAdd mb entries s) := by
  unfold execMacAdd
  refine hostCmd_only fun c u => ?_
  exact .ite (.fail .base) (.of (.step .base (joinSerial_only ..)))

theorem execMacDelete_only (mb : Fin 16) (entries : List MacArg) (s : State) : OnlyNext hostTurnsParts s (execMacDelete mb entries s) := by
  unfold execMacDelete
  refine hostCmd_only fun c u => ?_
  exact .ite (.of (.step .base (joinSerial_only ..))) (.fail .base)

theorem execMacRead_only (mb : Fin 16) (entries : List MacArg) (buckets : Option (Nat × Nat)) (s : State) :
    OnlyNext answered s (execMacRead mb entries buckets s) := by
  unfold execMacRead
  refine hostCmd_only fun c u => ?_
  exact .of (.step .base (readTable_only ..))

theorem execMacFlush_only (mb : Fin 16) (byFid : Bool) (index : Nat) (s : State) : OnlyNext (fun s t => { answered s t with
        par.ro := t.par.ro, ev.transit := t.ev.transit, ev.rate := t.ev.rate, fwd.serial := t.fwd.serial }) s (execMacFlush mb byFid index s) := by
  unfold execMacFlush
  refine hostCmd_only fun c u => ?_
  exact .ite (.fail .base) (.okay (.step .base (queueSer_only ..)))

theorem execMacUnfreeze_only (mb : Fin 16) (fid addr : Nat) (s : State) : OnlyNext hostTurnsParts s (execMacUnfreeze mb fid addr s) := by
  unfold execMacUnfreeze
  refine hostCmd_only fun c u => ?_
  exact .ite (.fail .base) (.of (.step .base (joinSerial_only ..)))

theorem execEvictLogRead_only (mb : Fin 16) (table count : Nat) (s : State) :
    OnlyNext (fun s t => { answered s t with fwd.tables := t.fwd.tables }) s (execEvictLogRead mb table count s) := by
  unfold execEvictLogRead
  refine hostCmd_only fun c u => ?_
  refine .ite (.fail .base) ?_
  extract_lets _
  exact .okay (.step .base (setTable_only ..))

theorem execTableStatus_only (mb : Fin 16) (s : State) : OnlyNext answered s (execTableStatus mb s) := by
  unfold execTableStatus
  refine hostCmd_only fun c u => ?_
  extract_lets _ _
  exact .okay .base

/-! ### Machine/ParamHooks -/

theorem clearRo_only (s : State) (p : Param) (i : Nat) :
    Only (fun s t => { s with par.ro := t.par.ro, fault.handlers := t.fault.handlers }) s (s.clearRo p i) := by
  unfold State.clearRo
  refine .ite .base ?_
  split
  · exact .step .base (setHandler_only ..)
  · exact .step .base (setRo_only ..)

def appliedParts : State → State → State :=
  fun s t => { s with
      par.ro := t.par.ro, ev.transit := t.ev.transit, pace.target := t.pace.target, pace.settle := t.pace.settle, pace.attempts := t.pace.attempts,
      fwd.tables := t.fwd.tables, fwd.macs := t.fwd.macs, outbox := t.outbox }

theorem applied_only (s : State) (p : Param) (i : Nat) : Only appliedParts s (s.applied p i) := by
  unfold State.applied
  split
  · exact .step .base (uplinkEnabled_only ..)
  · exact .ite (.step .base (startPass_only ..)) .base
  · exact .ite (.step .base (sendTarget_only ..)) .base
  · exact .ite (.step .base (sendTarget_only ..)) .base
  · exact .base

theorem writePar_only (s : State) (p : Param) (i : Nat) (v : Int) :
    Only (fun s t => { s with par.vals := t.par.vals, par.flash := t.par.flash }) s (s.writePar p i v) := by
  unfold State.writePar
  extract_lets v _
  refine .via v (.step .base (setPar_only ..)) fun hv => ?_
  clear_value v
  exact .ite hv.upd hv

/-! ### Machine/ParamCmd -/

theorem readEntry_only (was : State) (clear : Bool) (s : State) (e : ParEntry) :
    OnlyIn Prod.fst (fun s t => { s with par.ro := t.par.ro, fault.handlers := t.fault.handlers }) s (readEntry was clear s e) := by
  unfold readEntry
  split
  · exact .fst .base
  · exact .fst (.ite (.step .base (clearRo_only ..)) .base)

theorem execParamRead_only (mb : Fin 16) (s : State) :
    OnlyNext (fun s t => { answered s t with par.ro := t.par.ro, fault.handlers := t.fault.handlers }) s (execParamRead mb s) := by
  unfold execParamRead
  refine hostCmd_only fun c u => ?_
  split
  · exact .fail .base
  · refine entriesCmd_only fun u x => ?_
    exact .of (.step .base (readEntry_only ..))

theorem execCounterSnapshot_only (mb : Fin 16) (s : State) :
    OnlyNext (fun s t => { answered s t with par.ro := t.par.ro, fault.handlers := t.fault.handlers }) s (execCounterSnapshot mb s) := by
  unfold execCounterSnapshot
  refine hostCmd_only fun c u => ?_
  split
  · exact .fail .base
  · refine entriesCmd_only fun u x => ?_
    exact .of (.step .base (readEntry_only ..))

theorem execParamDescribe_only (mb : Fin 16) (key inst : Nat) (s : State) : OnlyNext answered s (execParamDescribe mb key inst s) := by
  unfold execParamDescribe
  refine hostCmd_only fun c u => ?_
  split
  · exact .fail .base
  · extract_lets _
    exact .ite (.fail .base) (.okay .base)

def writeAtomicParts : State → State → State :=
  fun s t => { s with
      par.vals := t.par.vals, par.flash := t.par.flash, par.ro := t.par.ro, ev.transit := t.ev.transit, pace.target := t.pace.target,
      pace.settle := t.pace.settle, pace.attempts := t.pace.attempts, fwd.tables := t.fwd.tables, fwd.macs := t.fwd.macs, outbox := t.outbox }

theorem writeEntry_only (role : Nat) (s : State) (e : ParEntry) : OnlyIn Prod.fst writeAtomicParts s (writeEntry role s e) := by
  unfold writeEntry
  split
  · exact .fst .base
  · extract_lets v
    refine .via v (.step .base (writePar_only ..)) fun hv => ?_
    split
    · exact .fst .base
    · exact .fst (.step hv (applied_only ..))

theorem writeAll_only (s : State) (role : Nat) (es : List ParEntry) :
    Only (fun s t => { s with par.vals := t.par.vals, par.flash := t.par.flash }) s (s.writeAll role es) := by
  unfold State.writeAll
  refine .foldl .base fun u x => ?_
  split
  · exact .base
  · exact .step .base (writePar_only ..)

theorem applyAll_only (s : State) (es : List ParEntry) : Only appliedParts s (s.applyAll es) := by
  unfold State.applyAll
  refine .foldl .base fun u x => ?_
  split
  · exact .base
  · exact .step .base (applied_only ..)

theorem writeAtomic_only (s : State) (role : Nat) (es : List ParEntry) : OnlyIn Prod.fst writeAtomicParts s (writeAtomic s role es) := by
  unfold writeAtomic
  extract_lets v sts1 _
  clear_value sts1
  refine .via v (.step .base (writeAll_only ..)) fun hv => ?_
  split
  · exact .fst .base
  · exact .fst (.step hv (applyAll_only ..))

theorem execParamWrite_only (mb : Fin 16) (s : State) : OnlyNext (fun s t => { answered s t with
        par.vals := t.par.vals, par.flash := t.par.flash, par.ro := t.par.ro, ev.transit := t.ev.transit, pace.target := t.pace.target,
        pace.settle := t.pace.settle, pace.attempts := t.pace.attempts, fwd.tables := t.fwd.tables, fwd.macs := t.fwd.macs })
        s (execParamWrite mb s) := by
  unfold execParamWrite
  refine hostCmd_only fun c u => ?_
  split
  · exact .fail .base
  · refine .ite (.of (.step .base (writeAtomic_only ..))) (entriesCmd_only fun u x => ?_)
    exact .of (.step .base (writeEntry_only ..))

theorem lineRecord_only (s : State) (t : Nat) : Only (fun s t => { s with ev.telStaged := t.ev.telStaged }) s (s.lineRecord t) := by
  unfold State.lineRecord
  exact .step .base (produce_only ..)

theorem execTelemetryPeriodExpiry_only (s : State) :
    OnlyNext (fun s t => { s with ev.telStaged := t.ev.telStaged }) s (execTelemetryPeriodExpiry s) := by
  unfold execTelemetryPeriodExpiry
  exact .next (.foldl .base fun _ _ => .step .base (lineRecord_only ..))

end Sys2Proof.Machine
end

section
/-! PROOFS. What each row may change, and what no row does. -/
namespace Sys2Proof.Machine
-- One theorem after the other: side by side, their threads outgrow the memory of the check.
set_option Elab.async false

theorem changesOnly {i : Instr} {f g : State → State → State} {k : Bool} (h : ∀ s, OnlyNext g s (exec i s) k)
    (w : ∀ a b, f a (g a b) = g a b := by intros; rfl) : ChangesOnly i f := fun s t ht => (((h s).mono w).only t ht).1

theorem rows {P : Instr → Prop} {i : Instr} {l : List Instr} (h : P i) (hl : ∀ j ∈ l, P j) : ∀ j ∈ i :: l, P j :=
  List.forall_mem_cons.2 ⟨h, hl⟩

/-- What a row leaves as it was, whatever it is: the fuses but those it burns, and the event store but where it is the store's own row. -/
def rowParts : Instr → State → State → State
  | .fwCommit .. | .credEnrol .. => fun s t => { t with ev.store := s.ev.store, ev.seq := s.ev.seq }
  | .eventArrival .. | .eventRead .. | .dmaMessageEnqueue .. | .resetAssert .. | .resetRelease | .tempSample .. => fun s t =>
    { t with fw.securityMin := s.fw.securityMin, roles.enrolled := s.roles.enrolled }
  | _ => fun s t =>
    { t with fw.securityMin := s.fw.securityMin, roles.enrolled := s.roles.enrolled, ev.store := s.ev.store, ev.seq := s.ev.seq }

theorem exec_only (i : Instr) (s : State) : OnlyNext (rowParts i) s (exec i s) (writesSlots i) :=
  match i with
  | .signalCommand .. => .mono (execSignalCommand_only ..)
  | .capacityReport .. => .mono (execCapacityReport_only ..)
  | .freezeMessage .. => .mono (execFreezeMessage_only ..)
  | .thawMessage .. => .mono (execThawMessage_only ..)
  | .criticalMessage .. => .mono (execCriticalMessage_only ..)
  | .paceWindowClose .. => .mono (execPaceWindowClose_only ..)
  | .paceSample .. => .mono (execPaceSample_only ..)
  | .avsSettleExpiry .. => .mono (execAvsSettleExpiry_only ..)
  | .avsbusTransactionDone .. => .mono (execAvsbusTransactionDone_only ..)
  | .avsbusRetry .. => .mono (execAvsbusRetry_only ..)
  | .pmbusStatusPoll .. => .mono (execPmbusStatusPoll_only ..)
  | .regulatorPassthrough .. => .mono (execRegulatorPassthrough_only ..)
  | .bridgeOverrun .. => .mono (execBridgeOverrun_only ..)
  | .bridgeUnderrun .. => .mono (execBridgeUnderrun_only ..)
  | .brstPulse .. => .mono (execBrstPulse_only ..)
  | .rssiRoundStart .. => .mono (execRssiRoundStart_only ..)
  | .rssiWindow .. => .mono (execRssiWindow_only ..)
  | .rssiSettleExpiry .. => .mono (execRssiSettleExpiry_only ..)
  | .treeLosPin .. => .mono (execTreeLosPin_only ..)
  | .losWindowExpiry .. => .mono (execLosWindowExpiry_only ..)
  | .mmsSelSetupExpiry .. => .mono (execMmsSelSetupExpiry_only ..)
  | .moduleTransactionDone .. => .mono (execModuleTransactionDone_only ..)
  | .mmsBusStuck .. => .mono (execMmsBusStuck_only ..)
  | .mmsSelectHoldoffExpiry .. => .mono (execMmsSelectHoldoffExpiry_only ..)
  | .moduleManageStart .. => .mono (execModuleManageStart_only ..)
  | .moduleReady .. => .mono (execModuleReady_only ..)
  | .modulePoll .. => .mono (execModulePoll_only ..)
  | .moduleRead .. => .mono (execModuleRead_only ..)
  | .moduleWrite .. => .mono (execModuleWrite_only ..)
  | .rssiMeasure .. => .mono (execRssiMeasure_only ..)
  | .bmemRead .. => .mono (execBmemRead_only ..)
  | .bmemReset .. => .mono (execBmemReset_only ..)
  | .burstPreload .. => .mono (execBurstPreload_only ..)
  | .bankSwap .. => .mono (execBankSwap_only ..)
  | .burstWriteBack .. => .mono (execBurstWriteBack_only ..)
  | .laneSleepStart .. => .mono (execLaneSleepStart_only ..)
  | .laneWakeStart .. => .mono (execLaneWakeStart_only ..)
  | .sleepLight .. => .mono (execSleepLight_only ..)
  | .darkWakeRunStart .. => .mono (execDarkWakeRunStart_only ..)
  | .darkWakeRunEnd .. => .mono (execDarkWakeRunEnd_only ..)
  | .driverSegmentFault .. => .mono (execDriverSegmentFault_only ..)
  | .laneSegmentSwap .. => .mono (execLaneSegmentSwap_only ..)
  | .sliceShadowPeriod .. => .mono (execSliceShadowPeriod_only ..)
  | .laneSliceSwap .. => .mono (execLaneSliceSwap_only ..)
  | .frameStart .. => .mono (execFrameStart_only ..)
  | .ponRefLoss .. => .mono (execPonRefLoss_only ..)
  | .ethRefLoss .. => .mono (execEthRefLoss_only ..)
  | .refReturn .. => .mono (execRefReturn_only ..)
  | .fragmentBoundary .. => .mono (execFragmentBoundary_only ..)
  | .ppsEdge .. => .mono (execPpsEdge_only ..)
  | .ppsEdgeMissing .. => .mono (execPpsEdgeMissing_only ..)
  | .todMessage .. => .mono (execTodMessage_only ..)
  | .channelEnable .. => .mono (execChannelEnable_only ..)
  | .channelDisable .. => .mono (execChannelDisable_only ..)
  | .channelStop .. => .mono (execChannelStop_only ..)
  | .timeRead .. => .mono (execTimeRead_only ..)
  | .discoveryWindowDue .. => .mono (execDiscoveryWindowDue_only ..)
  | .profileBroadcast .. => .mono (execProfileBroadcast_only ..)
  | .snAnswer .. => .mono (execSnAnswer_only ..)
  | .registrationBurst .. => .mono (execRegistrationBurst_only ..)
  | .rangingWindowMiss .. => .mono (execRangingWindowMiss_only ..)
  | .rangeRetryExpiry .. => .mono (execRangeRetryExpiry_only ..)
  | .driftSettleExpiry .. => .mono (execDriftSettleExpiry_only ..)
  | .lobDeactExpiry .. => .mono (execLobDeactExpiry_only ..)
  | .onuIdHoldExpiry .. => .mono (execOnuIdHoldExpiry_only ..)
  | .rogueObservation .. => .mono (execRogueObservation_only ..)
  | .rogueCorrelationEnd .. => .mono (execRogueCorrelationEnd_only ..)
  | .rogueProbeResult .. => .mono (execRogueProbeResult_only ..)
  | .rogueBisectionStep .. => .mono (execRogueBisectionStep_only ..)
  | .readmissionAnswer .. => .mono (execReadmissionAnswer_only ..)
  | .rogueHoldoffExpiry .. => .mono (execRogueHoldoffExpiry_only ..)
  | .termCreate .. => .mono (execTermCreate_only ..)
  | .termDelete .. => .mono (execTermDelete_only ..)
  | .termDeactivate .. => .mono (execTermDeactivate_only ..)
  | .termDisable .. => .mono (execTermDisable_only ..)
  | .termEnable .. => .mono (execTermEnable_only ..)
  | .termRead .. => .mono (execTermRead_only ..)
  | .termRerange .. => .mono (execTermRerange_only ..)
  | .allocMap .. => .mono (execAllocMap_only ..)
  | .allocUnmap .. => .mono (execAllocUnmap_only ..)
  | .gemMap .. => .mono (execGemMap_only ..)
  | .gemUnmap .. => .mono (execGemUnmap_only ..)
  | .snListRead .. => .mono (execSnListRead_only ..)
  | .rogueStart .. => .mono (execRogueStart_only ..)
  | .rogueStatus .. => .mono (execRogueStatus_only ..)
  | .rogueStop .. => .mono (execRogueStop_only ..)
  | .commandStepWaitTimeout .. => .mono (execCommandStepWaitTimeout_only ..)
  | .upstreamBurst .. => .mono (execUpstreamBurst_only ..)
  | .delimiterMiss .. => .mono (execDelimiterMiss_only ..)
  | .fecCodeword .. => .mono (execFecCodeword_only ..)
  | .ploamuMessage .. => .mono (execPloamuMessage_only ..)
  | .burstReport .. => .mono (execBurstReport_only ..)
  | .reportArrival .. => .mono (execReportArrival_only ..)
  | .xgemFrame .. => .mono (execXgemFrame_only ..)
  | .reasmTimeoutExpiry .. => .mono (execReasmTimeoutExpiry_only ..)
  | .berWindowClose .. => .mono (execBerWindowClose_only ..)
  | .reportCutoff .. => .mono (execReportCutoff_only ..)
  | .allocContract .. => .mono (execAllocContract_only ..)
  | .allocContractRead .. => .mono (execAllocContractRead_only ..)
  | .dbaPreannounce .. => .mono (execDbaPreannounce_only ..)
  | .dbaPreannCancel .. => .mono (execDbaPreannCancel_only ..)
  | .ledgerReset .. => .mono (execLedgerReset_only ..)
  | .dbaStatusRead .. => .mono (execDbaStatusRead_only ..)
  | .solverOutputPosted .. => .mono (execSolverOutputPosted_only ..)
  | .mapDelivery .. => .mono (execMapDelivery_only ..)
  | .framingDeadline .. => .mono (execFramingDeadline_only ..)
  | .gmRead .. => .mono (execGmRead_only ..)
  | .gmCalendarRead .. => .mono (execGmCalendarRead_only ..)
  | .uplinkFrameRx .. => .mono (execUplinkFrameRx_only ..)
  | .parsePass .. => .mono (execParsePass_only ..)
  | .recircPass .. => .mono (execRecircPass_only ..)
  | .upstreamSduParse .. => .mono (execUpstreamSduParse_only ..)
  | .rulesetDrained .. => .mono (execRulesetDrained_only ..)
  | .swapWaitExpiry .. => .mono (execSwapWaitExpiry_only ..)
  | .ruleWrite .. => .mono (execRuleWrite_only ..)
  | .ruleRead .. => .mono (execRuleRead_only ..)
  | .rulesetCopy .. => .mono (execRulesetCopy_only ..)
  | .rulesetSwap .. => .mono (execRulesetSwap_only ..)
  | .rulesetStatus .. => .mono (execRulesetStatus_only ..)
  | .learnMessageApply .. => .mono (execLearnMessageApply_only ..)
  | .macFlushApply .. => .mono (execMacFlushApply_only ..)
  | .agingPassStart .. => .mono (execAgingPassStart_only ..)
  | .agingScan .. => .mono (execAgingScan_only ..)
  | .moveWindowSweep .. => .mono (execMoveWindowSweep_only ..)
  | .flowProfileSet .. => .mono (execFlowProfileSet_only ..)
  | .flowAdd .. => .mono (execFlowAdd_only ..)
  | .flowDelete .. => .mono (execFlowDelete_only ..)
  | .flowRead .. => .mono (execFlowRead_only ..)
  | .macAdd .. => .mono (execMacAdd_only ..)
  | .macDelete .. => .mono (execMacDelete_only ..)
  | .macRead .. => .mono (execMacRead_only ..)
  | .macFlush .. => .mono (execMacFlush_only ..)
  | .macUnfreeze .. => .mono (execMacUnfreeze_only ..)
  | .evictLogRead .. => .mono (execEvictLogRead_only ..)
  | .tableStatus .. => .mono (execTableStatus_only ..)
  | .enqueue .. => .mono (execEnqueue_only ..)
  | .schedHandover .. => .mono (execSchedHandover_only ..)
  | .gateIntervalStart .. => .mono (execGateIntervalStart_only ..)
  | .gateListSwitch .. => .mono (execGateListSwitch_only ..)
  | .queueSample .. => .mono (execQueueSample_only ..)
  | .watchSample .. => .mono (execWatchSample_only ..)
  | .queueDrained .. => .mono (execQueueDrained_only ..)
  | .queueDrainTimeout .. => .mono (execQueueDrainTimeout_only ..)
  | .queueConfig .. => .mono (execQueueConfig_only ..)
  | .queueRead .. => .mono (execQueueRead_only ..)
  | .queueDisable .. => .mono (execQueueDisable_only ..)
  | .schedNodeSet .. => .mono (execSchedNodeSet_only ..)
  | .policerSet .. => .mono (execPolicerSet_only ..)
  | .markerSet .. => .mono (execMarkerSet_only ..)
  | .meterRead .. => .mono (execMeterRead_only ..)
  | .gateListSet .. => .mono (execGateListSet_only ..)
  | .gateListClear .. => .mono (execGateListClear_only ..)
  | .gateStatus .. => .mono (execGateStatus_only ..)
  | .watchSet .. => .mono (execWatchSet_only ..)
  | .histRead .. => .mono (execHistRead_only ..)
  | .bufferAlloc .. => .mono (execBufferAlloc_only ..)
  | .bufferTake .. => .mono (execBufferTake_only ..)
  | .bufferHandover .. => .mono (execBufferHandover_only ..)
  | .bufferFree .. => .mono (execBufferFree_only ..)
  | .glacierSpill .. => .mono (execGlacierSpill_only ..)
  | .glacierSpillAck .. => .mono (execGlacierSpillAck_only ..)
  | .glacierReturn .. => .mono (execGlacierReturn_only ..)
  | .dramRequest c a e => .mono (execDramRequest_only c a e s)
  | .dramRefresh .. => .mono (execDramRefresh_only ..)
  | .dramRetrainCheck .. => .mono (execDramRetrainCheck_only ..)
  | .dramRetrainForced .. => .mono (execDramRetrainForced_only ..)
  | .poolStatus .. => .mono (execPoolStatus_only ..)
  | .bufFaultLogRead .. => .mono (execBufFaultLogRead_only ..)
  | .glacierStatus .. => .mono (execGlacierStatus_only ..)
  | .dramStatus .. => .mono (execDramStatus_only ..)
  | .cipherPairResult .. => .mono (execCipherPairResult_only ..)
  | .rngReseed .. => .mono (execRngReseed_only ..)
  | .entropyFail .. => .mono (execEntropyFail_only ..)
  | .generatorStop .. => .mono (execGeneratorStop_only ..)
  | .keyGenerationDrained .. => .mono (execKeyGenerationDrained_only ..)
  | .keyExchangeStart .. => .mono (execKeyExchangeStart_only ..)
  | .keyExchTimeout .. => .mono (execKeyExchTimeout_only ..)
  | .macsecVerdict .. => .mono (execMacsecVerdict_only ..)
  | .keyWrite .. => .mono (execKeyWrite_only ..)
  | .keyErase .. => .mono (execKeyErase_only ..)
  | .keyStatus .. => .mono (execKeyStatus_only ..)
  | .keyGenerate .. => .mono (execKeyGenerate_only ..)
  | .termRekey .. => .mono (execTermRekey_only ..)
  | .bcastKeyExport .. => .mono (execBcastKeyExport_only ..)
  | .cmacJob .. => .mono (execCmacJob_only ..)
  | .cipherStatus .. => .mono (execCipherStatus_only ..)
  | .uplinkLinkUp .. => .mono (execUplinkLinkUp_only ..)
  | .uplinkAlignmentLoss .. => .mono (execUplinkAlignmentLoss_only ..)
  | .uplinkFaultSequence .. => .mono (execUplinkFaultSequence_only ..)
  | .uplinkTrainingFail .. => .mono (execUplinkTrainingFail_only ..)
  | .pauseFrameRx .. => .mono (execPauseFrameRx_only ..)
  | .pauseQuantaExpiry .. => .mono (execPauseQuantaExpiry_only ..)
  | .pfcRefresh .. => .mono (execPfcRefresh_only ..)
  | .uplinkStatus .. => .mono (execUplinkStatus_only ..)
  | .uplinkStats .. => .mono (execUplinkStats_only ..)
  | .uplinkRestart .. => .mono (execUplinkRestart_only ..)
  | .macsecScSet .. => .mono (execMacsecScSet_only ..)
  | .macsecSaSet .. => .mono (execMacsecSaSet_only ..)
  | .macsecSaRead .. => .mono (execMacsecSaRead_only ..)
  | .tetherLaneFrame .. => .mono (execTetherLaneFrame_only ..)
  | .tetherFrameRx .. => .mono (execTetherFrameRx_only ..)
  | .multiframeStart .. => .mono (execMultiframeStart_only ..)
  | .pairMessageRx .. => .mono (execPairMessageRx_only ..)
  | .tetherKeyTimeout .. => .mono (execTetherKeyTimeout_only ..)
  | .smpByteIn .. => .mono (execSmpByteIn_only ..)
  | .tetherIdleExpiry .. => .mono (execTetherIdleExpiry_only ..)
  | .tetherWake .. => .mono (execTetherWake_only ..)
  | .mirrorRecordRx .. => .mono (execMirrorRecordRx_only ..)
  | .checkpointEmit .. => .mono (execCheckpointEmit_only ..)
  | .checkpointAbsent .. => .mono (execCheckpointAbsent_only ..)
  | .heartbeatToggle .. => .mono (execHeartbeatToggle_only ..)
  | .heartbeatRefresh .. => .mono (execHeartbeatRefresh_only ..)
  | .protSelfFence .. => .mono (execProtSelfFence_only ..)
  | .pairHbInEdge .. => .mono (execPairHbInEdge_only ..)
  | .peerSilent .. => .mono (execPeerSilent_only ..)
  | .switchTakenTimeout .. => .mono (execSwitchTakenTimeout_only ..)
  | .tetherStatus .. => .mono (execTetherStatus_only ..)
  | .tetherRestart .. => .mono (execTetherRestart_only ..)
  | .protPair .. => .mono (execProtPair_only ..)
  | .protCommission .. => .mono (execProtCommission_only ..)
  | .protSwitch .. => .mono (execProtSwitch_only ..)
  | .protClaim .. => .mono (execProtClaim_only ..)
  | .protReadmit .. => .mono (execProtReadmit_only ..)
  | .protStatus .. => .mono (execProtStatus_only ..)
  | .mirrorResync .. => .mono (execMirrorResync_only ..)
  | .functionLevelReset .. => .mono (execFunctionLevelReset_only ..)
  | .pciePerst .. => .mono (execPciePerst_only ..)
  | .registerWrite .. => .mono (execRegisterWrite_only ..)
  | .deviceTimeLoRead .. => .mono (execDeviceTimeLoRead_only ..)
  | .hostFlrCountRead .. => .mono (execHostFlrCountRead_only ..)
  | .doneCountRead .. => .mono (execDoneCountRead_only ..)
  | .mbCountRead .. => .mono (execMbCountRead_only ..)
  | .bar2Access .. => .mono (execBar2Access_only ..)
  | .chEnableSet .. => .mono (execChEnableSet_only ..)
  | .chEnableClear .. => .mono (execChEnableClear_only ..)
  | .chAbort .. => .mono (execChAbort_only ..)
  | .chResume .. => .mono (execChResume_only ..)
  | .ringTailWrite .. => .mono (execRingTailWrite_only ..)
  | .shadowCommit .. => .mono (execShadowCommit_only ..)
  | .dmaMessageEnqueue .. => .mono (execDmaMessageEnqueue_only ..)
  | .dmaDescriptorTake .. => .mono (execDmaDescriptorTake_only ..)
  | .dmaOwnReread .. => .mono (execDmaOwnReread_only ..)
  | .dmaBurst .. => .mono (execDmaBurst_only ..)
  | .dmaTriggerTimer .. => .mono (execDmaTriggerTimer_only ..)
  | .dmaDescriptorComplete .. => .mono (execDmaDescriptorComplete_only ..)
  | .dmaCoalesceTimeout .. => .mono (execDmaCoalesceTimeout_only ..)
  | .dmaBusError .. => .mono (execDmaBusError_only ..)
  | .dmaChannelOpen .. => .mono (execDmaChannelOpen_only ..)
  | .dmaChannelClose .. => .mono (execDmaChannelClose_only ..)
  | .dmaStatus .. => .mono (execDmaStatus_only ..)
  | .mbDoorbell .. => .mono (execMbDoorbell_only ..)
  | .mailboxAccept .. => .mono (execMailboxAccept_only ..)
  | .respReadyClear .. => .mono (execRespReadyClear_only ..)
  | .controlPairTakeover .. => .mono (execControlPairTakeover_only ..)
  | .identRead .. => .mono (execIdentRead_only ..)
  | .paramRead .. => .mono (execParamRead_only ..)
  | .paramWrite .. => .mono (execParamWrite_only ..)
  | .paramDescribe .. => .mono (execParamDescribe_only ..)
  | .fwImageWrite .. => .mono (execFwImageWrite_only ..)
  | .fwActivate .. => .mono (execFwActivate_only ..)
  | .fwRebuildTimeout .. => .mono (execFwRebuildTimeout_only ..)
  | .fwStandbyLoadDone .. => .mono (execFwStandbyLoadDone_only ..)
  | .fwCommit .. => .mono (execFwCommit_only ..)
  | .fwStatus .. => .mono (execFwStatus_only ..)
  | .sessionOpen .. => .mono (execSessionOpen_only ..)
  | .sessionAuth .. => .mono (execSessionAuth_only ..)
  | .sessionClose .. => .mono (execSessionClose_only ..)
  | .sessionIdleExpiry .. => .mono (execSessionIdleExpiry_only ..)
  | .authLockoutExpiry .. => .mono (execAuthLockoutExpiry_only ..)
  | .makerEnChange .. => .mono (execMakerEnChange_only ..)
  | .credEnrol .. => .mono (execCredEnrol_only ..)
  | .credSet .. => .mono (execCredSet_only ..)
  | .auditSummary .. => .mono (execAuditSummary_only ..)
  | .auditPersist .. => .mono (execAuditPersist_only ..)
  | .auditPersistRetry .. => .mono (execAuditPersistRetry_only ..)
  | .auditRead .. => .mono (execAuditRead_only ..)
  | .calRead .. => .mono (execCalRead_only ..)
  | .calOverlayWrite .. => .mono (execCalOverlayWrite_only ..)
  | .faultReport .. => .mono (execFaultReport_only ..)
  | .handshakeStall .. => .mono (execHandshakeStall_only ..)
  | .sramUe .. => .mono (execSramUe_only ..)
  | .sramCorrection .. => .mono (execSramCorrection_only ..)
  | .scrubRead .. => .mono (execScrubRead_only ..)
  | .cellRepairDone .. => .mono (execCellRepairDone_only ..)
  | .blockReplacementDone .. => .mono (execBlockReplacementDone_only ..)
  | .regionRestartDone .. => .mono (execRegionRestartDone_only ..)
  | .recoveryTimeout .. => .mono (execRecoveryTimeout_only ..)
  | .lockstepMismatch .. => .mono (execLockstepMismatch_only ..)
  | .controlPairSelfTestDone .. => .mono (execControlPairSelfTestDone_only ..)
  | .unitSlow .. => .mono (execUnitSlow_only ..)
  | .unitGhost .. => .mono (execUnitGhost_only ..)
  | .spareSelfTest .. => .mono (execSpareSelfTest_only ..)
  | .maintenanceWindowStart .. => .mono (execMaintenanceWindowStart_only ..)
  | .readmissionTestDone .. => .mono (execReadmissionTestDone_only ..)
  | .faultStatus .. => .mono (execFaultStatus_only ..)
  | .unitStatus .. => .mono (execUnitStatus_only ..)
  | .readmitPolicy .. => .mono (execReadmitPolicy_only ..)
  | .readmitOverride .. => .mono (execReadmitOverride_only ..)
  | .repairMapRead .. => .mono (execRepairMapRead_only ..)
  | .repairMapWrite .. => .mono (execRepairMapWrite_only ..)
  | .controlPairSwitch .. => .mono (execControlPairSwitch_only ..)
  | .eventArrival .. => .mono (execEventArrival_only ..)
  | .eventShedPeriod .. => .mono (execEventShedPeriod_only ..)
  | .eventBatchTimeout .. => .mono (execEventBatchTimeout_only ..)
  | .eventIrqHoldoffExpiry .. => .mono (execEventIrqHoldoffExpiry_only ..)
  | .telemetryRecord .. => .mono (execTelemetryRecord_only ..)
  | .telemetryPeriodExpiry .. => .mono (execTelemetryPeriodExpiry_only ..)
  | .telemetryFlushExpiry .. => .mono (execTelemetryFlushExpiry_only ..)
  | .eventMaskSet .. => .mono (execEventMaskSet_only ..)
  | .eventRouteSet .. => .mono (execEventRouteSet_only ..)
  | .eventRead .. => .mono (execEventRead_only ..)
  | .telemetrySet .. => .mono (execTelemetrySet_only ..)
  | .counterSnapshot .. => .mono (execCounterSnapshot_only ..)
  | .resetAssert .. => .mono (execResetAssert_only ..)
  | .resetRelease .. => .mono (execResetRelease_only ..)
  | .bringupStepDone .. => .mono (execBringupStepDone_only ..)
  | .darkIdleExpiry .. => .mono (execDarkIdleExpiry_only ..)
  | .darkChannelExit .. => .mono (execDarkChannelExit_only ..)
  | .dramSrIdleExpiry .. => .mono (execDramSrIdleExpiry_only ..)
  | .powerStateSet .. => .mono (execPowerStateSet_only ..)
  | .powerStatus .. => .mono (execPowerStatus_only ..)
  | .tempSample .. => .mono (execTempSample_only ..)
  | .lanePrbsSet .. => .mono (execLanePrbsSet_only ..)
  | .lanePrbsRead .. => .mono (execLanePrbsRead_only ..)
  | .laneErrInject .. => .mono (execLaneErrInject_only ..)
  | .errorInjection .. => .mono (execErrorInjection_only ..)
  | .laneLoopSet .. => .mono (execLaneLoopSet_only ..)
  | .selfTest .. => .mono (execSelfTest_only ..)
  | .tapReset .. => .mono (execTapReset_only ..)
  | .extest .. => .mono (execExtest_only ..)
  | .samplePreload .. => .mono (execSamplePreload_only ..)
  | .idcode .. => .mono (execIdcode_only ..)
  | .clamp .. => .mono (execClamp_only ..)
  | .highz .. => .mono (execHighz_only ..)
  | .extestPulse .. => .mono (execExtestPulse_only ..)
  | .extestTrain .. => .mono (execExtestTrain_only ..)
  | .bypass .. => .mono (execBypass_only ..)
  | .shaperConforms .. => .mono (execShaperConforms_only ..)
  | .entropyRecovered .. => .mono (execEntropyRecovered_only ..)
  | .tetherClockLoss .. => .mono (execTetherClockLoss_only ..)
  | .maintenanceWindowEnd .. => .mono (execMaintenanceWindowEnd_only ..)
  | .commissionTimeout .. => .mono (execCommissionTimeout_only ..)
  | .prbsLock .. => .mono (execPrbsLock_only ..)
  | .prbsLockLoss .. => .mono (execPrbsLockLoss_only ..)

/-- Settles O57, each row by the lemma that says what it may change. -/
theorem ponFrames : Obligations.PonFrames := by
  unfold Obligations.PonFrames
  exact ⟨
    fun _ _ => changesOnly fun _ => execSignalCommand_only ..,
    fun _ _ _ => changesOnly fun _ => execCapacityReport_only ..,
    fun _ _ => rows (changesOnly fun _ => execFreezeMessage_only ..) <| rows (changesOnly fun _ => execThawMessage_only ..) <| List.forall_mem_nil _,
    fun _ => changesOnly fun _ => execPaceWindowClose_only ..,
    fun _ _ _ _ => changesOnly fun _ => execPaceSample_only ..,
    changesOnly fun _ => execAvsSettleExpiry_only ..,
    fun _ _ => changesOnly fun _ => execAvsbusTransactionDone_only ..,
    fun _ => changesOnly fun _ => execAvsbusRetry_only ..,
    fun _ => changesOnly fun _ => execPmbusStatusPoll_only ..,
    fun _ _ => changesOnly fun _ => execBridgeOverrun_only ..,
    fun _ _ => changesOnly fun _ => execBridgeUnderrun_only ..,
    fun _ => changesOnly fun _ => execBrstPulse_only ..,
    fun _ _ => rows (changesOnly fun _ => execRssiRoundStart_only ..) <| rows (changesOnly fun _ => execTreeLosPin_only ..) <| List.forall_mem_nil _,
    fun _ _ _ => rows (changesOnly fun _ => execRssiWindow_only ..) <| rows (changesOnly fun _ => execModuleReady_only ..) <| List.forall_mem_nil _,
    fun _ _ _ => rows (changesOnly fun _ => execRssiSettleExpiry_only ..) <| rows (changesOnly fun _ => execModuleTransactionDone_only ..) <|
      List.forall_mem_nil _,
    fun _ => changesOnly fun _ => execLosWindowExpiry_only ..,
    fun _ => changesOnly fun _ => execMmsSelSetupExpiry_only ..,
    fun _ => changesOnly fun _ => execMmsBusStuck_only ..,
    fun _ => changesOnly fun _ => execMmsSelectHoldoffExpiry_only ..,
    fun _ _ => changesOnly fun _ => execModuleManageStart_only ..,
    fun _ _ => changesOnly fun _ => execModulePoll_only ..,
    fun _ _ => changesOnly fun _ => execBurstPreload_only ..,
    fun _ => rows (changesOnly fun _ => execBankSwap_only ..) <| rows (changesOnly fun _ => execLaneSleepStart_only ..) <|
      rows (changesOnly fun _ => execLaneWakeStart_only ..) <| List.forall_mem_nil _,
    fun _ _ => changesOnly fun _ => execBurstWriteBack_only ..,
    fun _ _ _ _ _ _ => rows (changesOnly fun _ => execSleepLight_only ..) <| rows (changesOnly fun _ => execProfileBroadcast_only ..) <|
      rows (changesOnly fun _ => execRogueObservation_only ..) <| rows (changesOnly fun _ => execRogueCorrelationEnd_only ..) <|
      rows (changesOnly fun _ => execReadmissionAnswer_only ..) <| List.forall_mem_nil _,
    fun _ => rows (changesOnly fun _ => execDarkWakeRunStart_only ..) <| rows (changesOnly fun _ => execDarkWakeRunEnd_only ..) <|
      List.forall_mem_nil _,
    fun _ _ _ _ _ => rows (changesOnly fun _ => execDriverSegmentFault_only ..) <| rows (changesOnly fun _ => execSliceShadowPeriod_only ..) <|
      List.forall_mem_nil _,
    fun _ => changesOnly fun _ => execLaneSegmentSwap_only ..,
    fun _ => changesOnly fun _ => execLaneSliceSwap_only ..,
    changesOnly fun _ => execFrameStart_only ..,
    fun _ => changesOnly fun _ => execPonRefLoss_only ..,
    changesOnly fun _ => execEthRefLoss_only ..,
    fun _ => changesOnly fun _ => execRefReturn_only ..,
    fun _ _ => changesOnly fun _ => execFragmentBoundary_only ..,
    fun _ _ => changesOnly fun _ => execPpsEdge_only ..,
    fun _ => rows (changesOnly fun _ => execPpsEdgeMissing_only ..) <| rows (changesOnly fun _ => execTodMessage_only ..) <| List.forall_mem_nil _,
    fun _ => changesOnly fun _ => execChannelStop_only ..,
    fun _ => changesOnly fun _ => execDiscoveryWindowDue_only ..,
    fun _ _ _ _ _ => changesOnly fun _ => execSnAnswer_only ..,
    fun _ _ _ _ _ _ _ => rows (changesOnly fun _ => execRegistrationBurst_only ..) <| rows (changesOnly fun _ => execRangingWindowMiss_only ..) <|
      rows (changesOnly fun _ => execLobDeactExpiry_only ..) <| List.forall_mem_nil _,
    fun _ _ _ => rows (changesOnly fun _ => execRangeRetryExpiry_only ..) <| rows (changesOnly fun _ => execOnuIdHoldExpiry_only ..) <|
      rows (changesOnly fun _ => execRogueHoldoffExpiry_only ..) <| List.forall_mem_nil _,
    fun _ _ _ => rows (changesOnly fun _ => execDriftSettleExpiry_only ..) <| rows (changesOnly fun _ => execRogueProbeResult_only ..) <|
      rows (changesOnly fun _ => execRogueBisectionStep_only ..) <| List.forall_mem_nil _,
    fun _ _ => changesOnly fun _ => execUpstreamBurst_only ..,
    fun _ _ => changesOnly fun _ => execDelimiterMiss_only ..,
    fun _ _ _ _ => changesOnly fun _ => execFecCodeword_only ..,
    fun _ _ _ _ => changesOnly fun _ => execPloamuMessage_only ..,
    fun _ _ _ _ _ => changesOnly fun _ => execBurstReport_only ..,
    changesOnly fun _ => execReportArrival_only ..,
    fun _ _ => changesOnly fun _ => execXgemFrame_only ..,
    changesOnly fun _ => execReasmTimeoutExpiry_only ..,
    fun _ _ => changesOnly fun _ => execBerWindowClose_only ..,
    changesOnly fun _ => execReportCutoff_only ..,
    fun _ => changesOnly fun _ => execSolverOutputPosted_only ..,
    fun _ _ => changesOnly fun _ => execMapDelivery_only ..,
    changesOnly fun _ => execFramingDeadline_only ..⟩

/-- Settles O58, row by row. -/
theorem forwardingFrames : Obligations.ForwardingFrames := by
  unfold Obligations.ForwardingFrames
  exact ⟨
    fun _ => changesOnly fun _ => execCriticalMessage_only ..,
    fun _ _ _ _ _ => changesOnly fun _ => execUplinkFrameRx_only ..,
    fun _ _ => rows (changesOnly fun _ => execParsePass_only ..) <| rows (changesOnly fun _ => execRecircPass_only ..) <| List.forall_mem_nil _,
    fun _ _ _ => changesOnly fun _ => execUpstreamSduParse_only ..,
    changesOnly fun _ => execRulesetDrained_only ..,
    fun _ => changesOnly fun _ => execLearnMessageApply_only ..,
    changesOnly fun _ => execMacFlushApply_only ..,
    fun _ => changesOnly fun _ => execAgingPassStart_only ..,
    fun _ _ _ => changesOnly fun _ => execAgingScan_only ..,
    changesOnly fun _ => execMoveWindowSweep_only ..,
    changesOnly fun _ => execEnqueue_only ..,
    fun _ => changesOnly fun _ => execSchedHandover_only ..,
    fun _ => rows (changesOnly fun _ => execGateIntervalStart_only ..) <| rows (changesOnly fun _ => execGateListSwitch_only ..) <|
      List.forall_mem_nil _,
    fun _ => changesOnly fun _ => execQueueSample_only ..,
    fun _ => changesOnly fun _ => execWatchSample_only ..,
    fun _ => rows (changesOnly fun _ => execQueueDrained_only ..) <| rows (changesOnly fun _ => execQueueDrainTimeout_only ..) <|
      List.forall_mem_nil _,
    fun _ _ _ => changesOnly fun _ => execBufferAlloc_only ..,
    fun _ _ _ => changesOnly fun _ => execBufferTake_only ..,
    fun _ _ _ _ _ => changesOnly fun _ => execBufferHandover_only ..,
    fun _ _ _ _ => changesOnly fun _ => execBufferFree_only ..,
    fun _ => changesOnly fun _ => execGlacierSpill_only ..,
    fun _ => changesOnly fun _ => execGlacierSpillAck_only ..,
    fun _ _ => changesOnly fun _ => execGlacierReturn_only ..,
    fun c a e => changesOnly fun s => execDramRequest_only c a e s,
    fun _ => rows (changesOnly fun _ => execDramRefresh_only ..) <| rows (changesOnly fun _ => execDramRetrainCheck_only ..) <| List.forall_mem_nil _,
    fun _ => changesOnly fun _ => execDramRetrainForced_only ..,
    fun _ _ _ _ _ => changesOnly fun _ => execCipherPairResult_only ..,
    fun _ _ => changesOnly fun _ => execRngReseed_only ..,
    fun _ => changesOnly fun _ => execEntropyFail_only ..,
    fun _ => changesOnly fun _ => execGeneratorStop_only ..,
    fun _ => changesOnly fun _ => execKeyGenerationDrained_only ..,
    fun _ => rows (changesOnly fun _ => execKeyExchangeStart_only ..) <| rows (changesOnly fun _ => execKeyExchTimeout_only ..) <|
      List.forall_mem_nil _,
    fun _ _ => changesOnly fun _ => execMacsecVerdict_only ..,
    fun _ => changesOnly fun _ => execUplinkLinkUp_only ..,
    fun _ _ => rows (changesOnly fun _ => execUplinkAlignmentLoss_only ..) <| rows (changesOnly fun _ => execUplinkFaultSequence_only ..) <|
      rows (changesOnly fun _ => execUplinkTrainingFail_only ..) <| List.forall_mem_nil _,
    fun _ _ _ _ _ => rows (changesOnly fun _ => execPauseFrameRx_only ..) <| rows (changesOnly fun _ => execPauseQuantaExpiry_only ..) <|
      List.forall_mem_nil _,
    fun _ => changesOnly fun _ => execPfcRefresh_only ..,
    fun _ _ _ => changesOnly fun _ => execTetherLaneFrame_only ..,
    fun _ _ _ _ => changesOnly fun _ => execTetherFrameRx_only ..,
    changesOnly fun _ => execMultiframeStart_only ..,
    fun _ _ _ _ _ _ => changesOnly fun _ => execPairMessageRx_only ..,
    changesOnly fun _ => execTetherKeyTimeout_only ..,
    fun _ _ => changesOnly fun _ => execSmpByteIn_only ..,
    fun _ _ => rows (changesOnly fun _ => execTetherIdleExpiry_only ..) <| rows (changesOnly fun _ => execTetherClockLoss_only ..) <|
      List.forall_mem_nil _,
    fun _ _ => changesOnly fun _ => execTetherWake_only ..,
    changesOnly fun _ => execMirrorRecordRx_only ..,
    changesOnly fun _ => execCheckpointEmit_only ..,
    fun _ => changesOnly fun _ => execCheckpointAbsent_only ..,
    changesOnly fun _ => execHeartbeatToggle_only ..,
    changesOnly fun _ => execHeartbeatRefresh_only ..,
    changesOnly fun _ => execProtSelfFence_only ..,
    changesOnly fun _ => execPairHbInEdge_only ..,
    changesOnly fun _ => execPeerSilent_only ..,
    fun _ => changesOnly fun _ => execSwitchTakenTimeout_only ..,
    fun _ => changesOnly fun _ => execShaperConforms_only ..,
    changesOnly fun _ => execEntropyRecovered_only ..,
    fun _ => changesOnly fun _ => execCommissionTimeout_only ..⟩

/-- Settles O59, row by row. -/
theorem deviceFrames : Obligations.DeviceFrames := by
  unfold Obligations.DeviceFrames
  exact ⟨
    changesOnly fun _ => execFunctionLevelReset_only ..,
    fun _ => changesOnly fun _ => execPciePerst_only ..,
    fun _ _ _ _ => changesOnly fun _ => execRegisterWrite_only ..,
    changesOnly fun _ => execDeviceTimeLoRead_only ..,
    changesOnly fun _ => execHostFlrCountRead_only ..,
    fun _ _ => rows (changesOnly fun _ => execDoneCountRead_only ..) <| rows (changesOnly fun _ => execDmaBurst_only ..) <| List.forall_mem_nil _,
    fun _ => changesOnly fun _ => execMbCountRead_only ..,
    fun _ _ => changesOnly fun _ => execBar2Access_only ..,
    fun _ _ _ => rows (changesOnly fun _ => execChEnableSet_only ..) <| rows (changesOnly fun _ => execChEnableClear_only ..) <|
      rows (changesOnly fun _ => execChResume_only ..) <| rows (changesOnly fun _ => execRingTailWrite_only ..) <|
      rows (changesOnly fun _ => execShadowCommit_only ..) <| rows (changesOnly fun _ => execDmaTriggerTimer_only ..) <| List.forall_mem_nil _,
    fun _ => rows (changesOnly fun _ => execChAbort_only ..) <| rows (changesOnly fun _ => execDmaDescriptorComplete_only ..) <| List.forall_mem_nil _,
    fun _ => changesOnly fun _ => execDmaMessageEnqueue_only ..,
    fun _ _ _ => rows (changesOnly fun _ => execDmaDescriptorTake_only ..) <| rows (changesOnly fun _ => execDmaOwnReread_only ..) <|
      List.forall_mem_nil _,
    fun _ => changesOnly fun _ => execDmaCoalesceTimeout_only ..,
    fun _ _ => changesOnly fun _ => execDmaBusError_only ..,
    fun _ => changesOnly fun _ => execMbDoorbell_only ..,
    fun _ _ => changesOnly fun _ => execMailboxAccept_only ..,
    fun _ => changesOnly fun _ => execRespReadyClear_only ..,
    changesOnly fun _ => execControlPairTakeover_only ..,
    changesOnly fun _ => execFwRebuildTimeout_only ..,
    fun _ => changesOnly fun _ => execFwStandbyLoadDone_only ..,
    fun _ => changesOnly fun _ => execSessionIdleExpiry_only ..,
    fun _ => changesOnly fun _ => execAuthLockoutExpiry_only ..,
    fun _ => changesOnly fun _ => execMakerEnChange_only ..,
    changesOnly fun _ => execAuditSummary_only ..,
    fun _ => rows (changesOnly fun _ => execAuditPersist_only ..) <| rows (changesOnly fun _ => execAuditPersistRetry_only ..) <|
      List.forall_mem_nil _,
    changesOnly fun _ => execFaultReport_only ..,
    fun _ _ => changesOnly fun _ => execHandshakeStall_only ..,
    fun _ _ => changesOnly fun _ => execSramUe_only ..,
    fun _ _ _ _ => rows (changesOnly fun _ => execSramCorrection_only ..) <| rows (changesOnly fun _ => execScrubRead_only ..) <|
      rows (changesOnly fun _ => execRecoveryTimeout_only ..) <| List.forall_mem_nil _,
    fun _ _ => changesOnly fun _ => execCellRepairDone_only ..,
    fun _ => changesOnly fun _ => execBlockReplacementDone_only ..,
    fun _ => changesOnly fun _ => execRegionRestartDone_only ..,
    fun _ => changesOnly fun _ => execLockstepMismatch_only ..,
    fun _ _ => changesOnly fun _ => execControlPairSelfTestDone_only ..,
    fun _ => changesOnly fun _ => execUnitSlow_only ..,
    fun _ => changesOnly fun _ => execUnitGhost_only ..,
    fun _ _ => changesOnly fun _ => execSpareSelfTest_only ..,
    changesOnly fun _ => execMaintenanceWindowStart_only ..,
    fun _ _ => changesOnly fun _ => execReadmissionTestDone_only ..,
    fun _ => changesOnly fun _ => execEventArrival_only ..,
    changesOnly fun _ => execEventShedPeriod_only ..,
    changesOnly fun _ => execEventBatchTimeout_only ..,
    fun _ => changesOnly fun _ => execEventIrqHoldoffExpiry_only ..,
    changesOnly fun _ => execTelemetryRecord_only ..,
    changesOnly fun _ => execTelemetryPeriodExpiry_only ..,
    changesOnly fun _ => execTelemetryFlushExpiry_only ..,
    fun _ _ => rows (changesOnly fun _ => execResetAssert_only ..) <| rows (changesOnly fun _ => execResetRelease_only ..) <|
      rows (changesOnly fun _ => execTempSample_only ..) <| List.forall_mem_nil _,
    fun _ => changesOnly fun _ => execBringupStepDone_only ..,
    fun _ => rows (changesOnly fun _ => execDarkIdleExpiry_only ..) <| rows (changesOnly fun _ => execDarkChannelExit_only ..) <|
      List.forall_mem_nil _,
    fun _ => changesOnly fun _ => execDramSrIdleExpiry_only ..,
    fun _ _ => changesOnly fun _ => execErrorInjection_only ..,
    changesOnly fun _ => execTapReset_only ..,
    rows (changesOnly fun _ => execExtest_only ..) <| rows (changesOnly fun _ => execIdcode_only ..) <|
      rows (changesOnly fun _ => execClamp_only ..) <| rows (changesOnly fun _ => execHighz_only ..) <|
      rows (changesOnly fun _ => execExtestPulse_only ..) <| rows (changesOnly fun _ => execExtestTrain_only ..) <|
      rows (changesOnly fun _ => execBypass_only ..) <| List.forall_mem_nil _,
    fun _ _ => changesOnly fun _ => execSamplePreload_only ..,
    changesOnly fun _ => execMaintenanceWindowEnd_only ..,
    fun _ _ _ _ => rows (changesOnly fun _ => execPrbsLock_only ..) <| rows (changesOnly fun _ => execPrbsLockLoss_only ..) <| List.forall_mem_nil _⟩

/-- Settles O60, row by row, and the slots by the lemma over every row. -/
theorem commandFrames : Obligations.CommandFrames := by
  unfold Obligations.CommandFrames
  exact ⟨
    fun _ _ _ _ => changesOnly fun _ => execRegulatorPassthrough_only ..,
    fun _ _ _ _ _ _ _ => rows (changesOnly fun _ => execModuleRead_only ..) <| rows (changesOnly fun _ => execModuleWrite_only ..) <|
      List.forall_mem_nil _,
    fun _ _ => changesOnly fun _ => execRssiMeasure_only ..,
    fun _ _ _ _ _ _ _ _ _ _ => rows (changesOnly fun _ => execBmemRead_only ..) <| rows (changesOnly fun _ => execTimeRead_only ..) <|
      rows (changesOnly fun _ => execTermRead_only ..) <| rows (changesOnly fun _ => execRogueStatus_only ..) <|
      rows (changesOnly fun _ => execCommandStepWaitTimeout_only ..) <| rows (changesOnly fun _ => execAllocContractRead_only ..) <|
      rows (changesOnly fun _ => execDbaStatusRead_only ..) <| rows (changesOnly fun _ => execGmRead_only ..) <|
      rows (changesOnly fun _ => execGmCalendarRead_only ..) <| rows (changesOnly fun _ => execSwapWaitExpiry_only ..) <|
      rows (changesOnly fun _ => execRuleRead_only ..) <| rows (changesOnly fun _ => execRulesetStatus_only ..) <|
      rows (changesOnly fun _ => execFlowRead_only ..) <| rows (changesOnly fun _ => execMacRead_only ..) <|
      rows (changesOnly fun _ => execTableStatus_only ..) <| rows (changesOnly fun _ => execQueueRead_only ..) <|
      rows (changesOnly fun _ => execMeterRead_only ..) <| rows (changesOnly fun _ => execGateStatus_only ..) <|
      rows (changesOnly fun _ => execPoolStatus_only ..) <| rows (changesOnly fun _ => execGlacierStatus_only ..) <|
      rows (changesOnly fun _ => execDramStatus_only ..) <| rows (changesOnly fun _ => execKeyStatus_only ..) <|
      rows (changesOnly fun _ => execBcastKeyExport_only ..) <| rows (changesOnly fun _ => execCipherStatus_only ..) <|
      rows (changesOnly fun _ => execUplinkStatus_only ..) <| rows (changesOnly fun _ => execTetherStatus_only ..) <|
      rows (changesOnly fun _ => execProtStatus_only ..) <| rows (changesOnly fun _ => execDmaStatus_only ..) <|
      rows (changesOnly fun _ => execIdentRead_only ..) <| rows (changesOnly fun _ => execParamDescribe_only ..) <|
      rows (changesOnly fun _ => execFwStatus_only ..) <| rows (changesOnly fun _ => execAuditRead_only ..) <|
      rows (changesOnly fun _ => execCalRead_only ..) <| rows (changesOnly fun _ => execFaultStatus_only ..) <|
      rows (changesOnly fun _ => execUnitStatus_only ..) <| rows (changesOnly fun _ => execRepairMapRead_only ..) <|
      rows (changesOnly fun _ => execPowerStatus_only ..) <| rows (changesOnly fun _ => execSelfTest_only ..) <| List.forall_mem_nil _,
    fun _ _ => changesOnly fun _ => execBmemReset_only ..,
    fun _ _ => changesOnly fun _ => execChannelEnable_only ..,
    fun _ _ => rows (changesOnly fun _ => execChannelDisable_only ..) <| rows (changesOnly fun _ => execRogueStart_only ..) <| List.forall_mem_nil _,
    fun _ _ _ _ _ _ _ => changesOnly fun _ => execTermCreate_only ..,
    fun _ _ _ => rows (changesOnly fun _ => execTermDelete_only ..) <| rows (changesOnly fun _ => execTermDeactivate_only ..) <|
      rows (changesOnly fun _ => execTermDisable_only ..) <| rows (changesOnly fun _ => execTermRerange_only ..) <| List.forall_mem_nil _,
    fun _ _ => rows (changesOnly fun _ => execTermEnable_only ..) <| rows (changesOnly fun _ => execRogueStop_only ..) <| List.forall_mem_nil _,
    fun _ _ _ _ _ => changesOnly fun _ => execAllocMap_only ..,
    fun _ _ _ _ _ _ _ _ _ => rows (changesOnly fun _ => execAllocUnmap_only ..) <| rows (changesOnly fun _ => execAllocContract_only ..) <|
      List.forall_mem_nil _,
    fun _ _ _ => changesOnly fun _ => execGemMap_only ..,
    fun _ _ => changesOnly fun _ => execGemUnmap_only ..,
    fun _ _ => changesOnly fun _ => execSnListRead_only ..,
    fun _ _ _ => rows (changesOnly fun _ => execDbaPreannounce_only ..) <| rows (changesOnly fun _ => execDbaPreannCancel_only ..) <|
      List.forall_mem_nil _,
    fun _ _ => changesOnly fun _ => execLedgerReset_only ..,
    fun _ _ _ _ => rows (changesOnly fun _ => execRuleWrite_only ..) <| rows (changesOnly fun _ => execRulesetCopy_only ..) <| List.forall_mem_nil _,
    fun _ => changesOnly fun _ => execRulesetSwap_only ..,
    fun _ _ _ => changesOnly fun _ => execFlowProfileSet_only ..,
    fun _ _ _ _ _ _ => rows (changesOnly fun _ => execFlowAdd_only ..) <| rows (changesOnly fun _ => execFlowDelete_only ..) <|
      rows (changesOnly fun _ => execMacAdd_only ..) <| rows (changesOnly fun _ => execMacDelete_only ..) <|
      rows (changesOnly fun _ => execMacUnfreeze_only ..) <| List.forall_mem_nil _,
    fun _ _ _ => changesOnly fun _ => execMacFlush_only ..,
    fun _ _ _ => changesOnly fun _ => execEvictLogRead_only ..,
    fun _ _ _ => changesOnly fun _ => execQueueConfig_only ..,
    fun _ _ => changesOnly fun _ => execQueueDisable_only ..,
    fun _ _ _ _ _ => changesOnly fun _ => execSchedNodeSet_only ..,
    fun _ _ _ _ => changesOnly fun _ => execPolicerSet_only ..,
    fun _ _ _ _ _ _ _ _ _ _ => changesOnly fun _ => execMarkerSet_only ..,
    fun _ _ _ _ _ => rows (changesOnly fun _ => execGateListSet_only ..) <| rows (changesOnly fun _ => execGateListClear_only ..) <|
      List.forall_mem_nil _,
    fun _ _ _ _ => changesOnly fun _ => execWatchSet_only ..,
    fun _ _ _ => changesOnly fun _ => execHistRead_only ..,
    fun _ _ => changesOnly fun _ => execBufFaultLogRead_only ..,
    fun _ => changesOnly fun _ => execKeyWrite_only ..,
    fun _ _ => changesOnly fun _ => execKeyErase_only ..,
    fun _ => changesOnly fun _ => execKeyGenerate_only ..,
    fun _ _ => changesOnly fun _ => execTermRekey_only ..,
    fun _ _ _ _ _ => changesOnly fun _ => execCmacJob_only ..,
    fun _ _ _ => changesOnly fun _ => execUplinkStats_only ..,
    fun _ _ => changesOnly fun _ => execUplinkRestart_only ..,
    fun _ _ _ _ _ _ _ _ => rows (changesOnly fun _ => execMacsecScSet_only ..) <| rows (changesOnly fun _ => execMacsecSaSet_only ..) <|
      List.forall_mem_nil _,
    fun _ _ => changesOnly fun _ => execMacsecSaRead_only ..,
    fun _ _ => changesOnly fun _ => execTetherRestart_only ..,
    fun _ _ _ => changesOnly fun _ => execProtPair_only ..,
    fun _ _ => changesOnly fun _ => execProtCommission_only ..,
    fun _ _ => changesOnly fun _ => execProtSwitch_only ..,
    fun _ _ => changesOnly fun _ => execProtClaim_only ..,
    fun _ => changesOnly fun _ => execProtReadmit_only ..,
    fun _ _ => changesOnly fun _ => execMirrorResync_only ..,
    fun _ _ _ => changesOnly fun _ => execDmaChannelOpen_only ..,
    fun _ _ => changesOnly fun _ => execDmaChannelClose_only ..,
    fun _ => rows (changesOnly fun _ => execParamRead_only ..) <| rows (changesOnly fun _ => execCounterSnapshot_only ..) <| List.forall_mem_nil _,
    fun _ => changesOnly fun _ => execParamWrite_only ..,
    fun _ => changesOnly fun _ => execFwImageWrite_only ..,
    fun _ _ => changesOnly fun _ => execFwActivate_only ..,
    fun _ => changesOnly fun _ => execFwCommit_only ..,
    fun _ => changesOnly fun _ => execSessionOpen_only ..,
    fun _ => changesOnly fun _ => execSessionAuth_only ..,
    fun _ => changesOnly fun _ => execSessionClose_only ..,
    fun _ _ => changesOnly fun _ => execCredEnrol_only ..,
    fun _ _ => changesOnly fun _ => execCredSet_only ..,
    fun _ => changesOnly fun _ => execCalOverlayWrite_only ..,
    fun _ _ _ => changesOnly fun _ => execReadmitPolicy_only ..,
    fun _ _ _ => changesOnly fun _ => execReadmitOverride_only ..,
    fun _ _ => changesOnly fun _ => execRepairMapWrite_only ..,
    fun _ => changesOnly fun _ => execControlPairSwitch_only ..,
    fun _ _ _ _ => changesOnly fun _ => execEventMaskSet_only ..,
    fun _ _ => changesOnly fun _ => execEventRouteSet_only ..,
    fun _ _ => changesOnly fun _ => execEventRead_only ..,
    fun _ _ _ => changesOnly fun _ => execTelemetrySet_only ..,
    fun _ => changesOnly fun _ => execPowerStateSet_only ..,
    fun _ => rows (changesOnly fun _ => execLanePrbsSet_only ..) <| rows (changesOnly fun _ => execLaneLoopSet_only ..) <| List.forall_mem_nil _,
    fun _ _ _ => rows (changesOnly fun _ => execLanePrbsRead_only ..) <| rows (changesOnly fun _ => execLaneErrInject_only ..) <|
      List.forall_mem_nil _,
    fun i s t k hi h hk => ((exec_only i s).only t h).2 hi k hk⟩

end Sys2Proof.Machine
end

section
/-! PROOFS. What every step keeps: the fuses, and the bounds of the event store. -/
namespace Sys2Proof.Machine
-- One theorem after the other: side by side, their threads outgrow the memory of the check.
set_option Elab.async false

/-! ### Commands -/

/-- A command leaves the state, or what it leaves is the begun command's state, or the body's, with the answer. -/
theorem command_cases (s : State) (n : Fin 16) (code : Nat) (body : Cmd → State → State × Reply) :
    s.command n code body = s ∨ ∃ c u, Only answered s u ∧
      (Only answered u (s.command n code body) ∨ Only answered (body c u).1 (s.command n code body)) := by
  unfold State.command State.commandWith
  split
  · exact .inl rfl
  · rename_i c _
    split
    · extract_lets _ u
      refine .inr ⟨c, u, .base, ?_⟩
      split
      · exact .inl (respond_only ..)
      · split
        · right
          split
          · rename_i h
            rw [h]
            exact respond_only ..
          · rename_i h
            rw [h]
            exact .step .base (await_only ..)
          · rename_i h
            rw [h]
            exact .step .base (park_only ..)
        · exact .inl (respond_only ..)
    · exact .inl rfl

/-- What answers and the body keep, the command keeps. -/
theorem hostCmd_keeps {P : State → Prop} {n : Fin 16} {code : Nat} {body : Cmd → State → State × Reply} {s t : State}
    (ha : ∀ {u v}, Only answered u v → P u → P v) (hb : ∀ c u, P u → P (body c u).1) (hs : P s) (h : hostCmd s n code body = .next t) : P t := by
  cases h
  obtain h | ⟨c, u, hu, h | h⟩ := command_cases s n code body
  · rwa [h]
  · exact ha h (ha hu hs)
  · exact ha h (hb c u (ha hu hs))

/-- Nothing passes in a cycle of the empty queue but time, and the slew of device time. -/
theorem tick_only (s : State) : Only (fun s t => { s with time := t.time, pon.tod := t.pon.tod }) s s.tick := by
  unfold State.tick
  exact .ite .base .base

/-! ### The fuses (R460) -/

section
variable {m : Nat} {e : Bool} {s t : State}

theorem Fused.of_only {f : State → State → State} {k : Bool} (h : Only f s t k) (hs : Fused m e s)
    (w : ∀ a b, (f a b).fw.securityMin = a.fw.securityMin ∧ (f a b).roles.enrolled = a.roles.enrolled := by intros; exact ⟨rfl, rfl⟩) :
    Fused m e t := by
  obtain ⟨hmin, henr⟩ := w s t
  rw [← h.1] at hmin henr
  unfold Fused
  rwa [hmin, henr]

/-- FW_COMMIT raises the minimum to the running image's, where that is higher (R471). -/
theorem execFwCommit_fused {mb : Fin 16} (hs : Fused m e s) (h : execFwCommit mb s = .next t) : Fused m e t :=
  hostCmd_keeps (P := Fused m e) (fun h hu => hu.of_only h) (fun _ _ ⟨hmin, henr⟩ => ⟨Nat.le_trans hmin (Nat.le_max_left ..), henr⟩) hs h

/-- CRED_ENROL enrols (R460). -/
theorem execCredEnrol_fused {mb : Fin 16} {w : Nat} (hs : Fused m e s) (h : execCredEnrol mb w s = .next t) : Fused m e t := by
  refine hostCmd_keeps (P := Fused m e) (fun h hu => hu.of_only h) (fun c u hu => ?_) hs h
  split
  · exact hu
  · split
    · exact hu
    · rename_i v h
      have hv : Fused m e v := hu.of_only (storeCredential_only h)
      have hw : Fused m e { v with roles.enrolled := true } := ⟨hv.1, fun _ => rfl⟩
      exact (hw.of_only (closeSession_only ..)).of_only (raise_only ..)

/-- No row lowers the minimum or undoes enrolment. -/
theorem exec_fused {i : Instr} (hs : Fused m e s) (h : exec i s = .next t) : Fused m e t := by
  have quiet := (exec_only i s).only t h
  cases i
  case fwCommit => exact execFwCommit_fused hs h
  case credEnrol => exact execCredEnrol_fused hs h
  all_goals exact hs.of_only quiet

end

/-- Settles O55: a step is a cycle of the empty queue, which leaves the fuses, or a row. -/
theorem fusesStay : Obligations.FusesStay := by
  unfold Obligations.FusesStay
  intro m e s t hs h
  unfold step at h
  split at h
  · cases h
    exact hs.of_only (tick_only s)
  · exact exec_fused (hs.of_only (.base : Only (fun s t => { s with pending := t.pending }) _ _)) h

/-! ### The event store (R512, R517) -/

section
variable {s t : State}

theorem StoreBounded.of_only {f : State → State → State} {k : Bool} (h : Only f s t k) (hs : StoreBounded s)
    (w : ∀ a b, (f a b).ev.store = a.ev.store ∧ (f a b).ev.seq = a.ev.seq := by intros; exact ⟨rfl, rfl⟩) : StoreBounded t := by
  obtain ⟨hstore, hseq⟩ := w s t
  rw [← h.1] at hstore hseq
  unfold StoreBounded
  rwa [hstore, hseq]

theorem StoreBounded.visible {e : EvRec × Option Nat} (hs : StoreBounded s) : StoreBounded (s.visible e) := by
  unfold StoreBounded
  rwa [visible_store, visible_seq]

theorem dropMinor_length {l m : List (EvRec × Option Nat)} (h : dropMinor l = some m) : m.length + 1 = l.length := by
  induction l generalizing m with
  | nil => cases h
  | cons x l ih =>
    rw [dropMinor] at h
    split at h
    · cases h
      rfl
    · obtain ⟨k, hk, rfl⟩ := Option.map_eq_some_iff.1 h
      simp [ih hk]

/-- A record enters where there is room, or in the place of one that is taken out. -/
theorem StoreBounded.storePut {e : EvRec × Option Nat} (hs : StoreBounded s) : StoreBounded (s.storePut e) := by
  obtain ⟨hlen, hseq⟩ := hs
  refine ⟨?_, by rwa [storePut_seq]⟩
  obtain hroom | hfull := Nat.lt_or_ge s.ev.store.length 256
  · rw [storePut_room_store e hroom, List.length_append]
    exact hroom
  · cases hd : dropMinor s.ev.store with
    | none => rwa [storePut_drop e hfull hd, loseAtStore_store]
    | some l =>
      have := dropMinor_length hd
      rw [storePut_replace e hfull hd, visible_store]
      simp
      omega

/-- A waiting loss takes the next SEQ, and enters the store where there is room (R519). -/
theorem StoreBounded.placeLoss {ring : Bool} (hs : StoreBounded s) : StoreBounded (s.placeLoss ring) := by
  have hmod : (s.ev.seq + 1) % 65536 < 65536 := Nat.mod_lt _ (by decide)
  unfold State.placeLoss
  split
  · exact hs
  · extract_lets r e _ u v
    split
    · split
      · have hu : StoreBounded u := ⟨hs.1, hmod⟩
        split
        · exact hu.of_only (closeBatch_only u)
        · exact hu
      · exact hs
    · split
      · rename_i hroom
        have hlen : v.ev.store.length ≤ 256 := by
          simp only [v, List.length_append]
          exact hroom
        have hv : StoreBounded v := ⟨hlen, hmod⟩
        exact hv.visible
      · exact hs

theorem StoreBounded.deliver {r : EvRec} (hs : StoreBounded s) : StoreBounded (s.deliver r) := by
  unfold State.deliver
  extract_lets ring u r e _ v max _ w
  have hu : StoreBounded u := hs.placeLoss
  have hv : StoreBounded v := ⟨hu.1, Nat.mod_lt _ (by decide)⟩
  have hw : StoreBounded w := hv
  split
  · split
    · exact hw.of_only (closeBatch_only w)
    · exact hw
  · exact hv.storePut

theorem execEventArrival_bounded {source : Fin 1624} (hs : StoreBounded s) (h : execEventArrival source s = .next t) : StoreBounded t := by
  cases h
  split
  · exact hs
  · extract_lets n _ u
    have hu : StoreBounded u := hs
    split
    · exact (hu.of_only (bump_only ..)).of_only (lose_only ..)
    · split
      · exact hu.of_only (bump_only ..)
      · exact hu.deliver

/-- EVENT_READ takes records out. -/
theorem execEventRead_bounded {mb : Fin 16} {count : Nat} (hs : StoreBounded s) (h : execEventRead mb count s = .next t) : StoreBounded t := by
  refine hostCmd_keeps (P := StoreBounded) (fun h hu => hu.of_only h) (fun c u ⟨hlen, hseq⟩ => ?_) hs h
  split
  · exact ⟨hlen, hseq⟩
  · exact ⟨by simp [okay]; omega, hseq⟩

/-- A batch that finds no open channel goes to the store, record by record (R516). -/
theorem execDmaMessageEnqueue_bounded {func : Fin 5} (hs : StoreBounded s) (h : execDmaMessageEnqueue func s = .next t) : StoreBounded t := by
  cases h
  split
  · exact hs
  · split
    · extract_lets _ u
      have hu : StoreBounded u := StoreBounded.of_only (freeMsg_only ..) hs
      split
      · exact foldl_keep StoreBounded _ (fun _ _ hb => hb.storePut) _ _ hu
      · exact hu
      · exact hu
    · split
      · exact hs
      · extract_lets _ v d
        have hv : StoreBounded v := hs
        split
        · exact hv.of_only (queueDrop_only ..)
        · exact (hv.of_only (setCh_only ..)).of_only (testReq_only ..)

/-- Out of a reset the store is empty. -/
theorem blank_bounded (s : State) : StoreBounded s.blank := ⟨Nat.zero_le 256, Nat.zero_lt_succ 65535⟩

theorem stopped_bounded (s : State) (r p n : Bool) : StoreBounded (s.stopped r p n) := blank_bounded s

theorem execTempSample_bounded {temps : List Int} (hs : StoreBounded s) (h : execTempSample temps s = .next t) : StoreBounded t := by
  cases h
  split
  · exact hs
  · extract_lets u
    have hu : StoreBounded u := hs.of_only (senseAll_only ..)
    split
    · exact stopped_bounded ..
    · exact hu

/-- No row takes the store over its bounds: but for its own rows and resets, none changes it. -/
theorem exec_bounded {i : Instr} (hs : StoreBounded s) (h : exec i s = .next t) : StoreBounded t := by
  have quiet := (exec_only i s).only t h
  cases i
  case eventArrival => exact execEventArrival_bounded hs h
  case eventRead => exact execEventRead_bounded hs h
  case dmaMessageEnqueue => exact execDmaMessageEnqueue_bounded hs h
  case resetAssert pwrGood =>
    cases h
    split <;> exact stopped_bounded ..
  case resetRelease =>
    cases h
    exact blank_bounded s
  case tempSample => exact execTempSample_bounded hs h
  all_goals exact hs.of_only quiet

end

/-- Settles O56: a step is a cycle of the empty queue, which leaves the store, or a row. -/
theorem storeStaysBounded : Obligations.StoreStaysBounded := by
  unfold Obligations.StoreStaysBounded
  intro s t hs h
  unfold step at h
  split at h
  · cases h
    exact hs.of_only (tick_only s)
  · exact exec_bounded (hs.of_only (.base : Only (fun s t => { s with pending := t.pending }) _ _)) h

end Sys2Proof.Machine
end

section
/-! PROOFS. A step, and the state after reset. -/
namespace Sys2Proof.Machine
-- One theorem after the other: side by side, their threads outgrow the memory of the check.
set_option Elab.async false

theorem tick_running {s : State} (h : running s = true) :
    s.tick = { s with time.up := s.time.up + refCycle s, time.dev := devAfter s, pon.tod.slew := s.pon.tod.slew - slewStep s (refCycle s) } :=
  if_pos h

theorem tick_stopped {s : State} (h : running s = false) : s.tick = { s with time.up := s.time.up + refCycle s } := by
  simp [State.tick, h]

/-- Settles O53: `step` by its two cases, and a cycle by whether the device runs. -/
theorem stepRules : Obligations.StepRules := by
  unfold Obligations.StepRules
  refine ⟨fun _ _ _ => rfl, fun s h => ⟨s.tick, by simp [step, h], ?_⟩⟩
  cases hr : running s with
  | true =>
    rw [tick_running hr]
    exact ⟨rfl, rfl, rfl⟩
  | false =>
    rw [tick_stopped hr]
    exact ⟨rfl, rfl, rfl⟩

/-- Settles O54: every table of the reset state is empty, and reads as its default. -/
theorem resetState : Obligations.ResetState := by
  unfold Obligations.ResetState
  exact ⟨rfl, by decide, rfl, rfl, rfl, rfl, rfl, rfl, rfl, fun _ => rfl, fun _ => rfl, fun _ => rfl, fun _ => rfl, fun _ _ => rfl,
    ⟨Nat.zero_le 0, nofun⟩, ⟨Nat.zero_le 256, by decide⟩⟩

end Sys2Proof.Machine
end

section
/-! PROOFS. What holds of every host command. -/
namespace Sys2Proof.Machine
-- One theorem after the other: side by side, their threads outgrow the memory of the check.
set_option Elab.async false

/-- Every command's row is `commandWith` of the mailbox and the code, with a test of its own before the flags where R435 puts rights first. -/
theorem exec_command {i : Instr} {mb : Fin 16} {code : Nat} (h : i.command = some (mb, code)) (s : State) :
    ∃ pre body, exec i s = .next (s.commandWith mb code pre body) ∧ (code ∉ rightsFirst → ∀ c s, pre c s = none) := by
  cases i <;> cases h
  case keyWrite => exact ⟨_, _, rfl, fun h => absurd (by decide) h⟩
  case keyErase => exact ⟨_, _, rfl, fun h => absurd (by decide) h⟩
  case keyGenerate => exact ⟨_, _, rfl, fun h => absurd (by decide) h⟩
  case dmaChannelOpen => exact ⟨_, _, rfl, fun h => absurd (by decide) h⟩
  case dmaChannelClose => exact ⟨_, _, rfl, fun h => absurd (by decide) h⟩
  all_goals exact ⟨_, _, rfl, fun _ _ _ => rfl⟩

/-! ### The mailbox of a response (R434) -/

@[simp] theorem dropKey_mbox (s : State) (r k : Nat) : (s.dropKey r).mbox k = s.mbox k := by
  obtain ⟨_, h, -⟩ := dropKey_frame s r
  rw [h]
  rfl

@[simp] theorem auditAdd_mbox (s : State) (a : AuditRec) (k : Nat) : (s.auditAdd a).mbox k = s.mbox k := rfl

/-- The response as it is posted. -/
theorem post_mbox_self {s : State} {n : Nat} (c : Cmd) (st : Status) (d : Nat) (b : List Int) (h : (s.mbox n).state ≠ .reset) :
    ∃ m, (s.post n c st d b).mbox n = { s.mbox n with
      state := .respReady, respReady := true, cmd := none, response := some ⟨c.code, c.seq, c.session, st.code, c.switched, d, b, m, s.now⟩,
      completed := satTo 32 ((s.mbox n).completed + 1) } := by
  unfold State.post
  simp only [h, if_false]
  rw [ite_msix_mbox, dropKey_mbox, mbox_setMbox_self]
  exact ⟨_, rfl⟩

theorem post_mbox_ne {s : State} {n k : Nat} (c : Cmd) (st : Status) (d : Nat) (b : List Int) (h : n ≠ k) :
    (s.post n c st d b).mbox k = s.mbox k := by
  unfold State.post
  simp only
  split
  · rw [dropKey_mbox, mbox_setMbox_ne s _ h]
  · rw [ite_msix_mbox, dropKey_mbox, mbox_setMbox_ne s _ h]

theorem respond_mbox_ne {s : State} {n k : Nat} (st : Status) (d : Nat) (b : List Int) (h : n ≠ k) :
    (s.respond n st d b).mbox k = s.mbox k := by
  unfold State.respond
  split
  · rfl
  · split
    · extract_lets u
      split
      · exact mbox_setMbox_ne u _ h
      · exact post_mbox_ne (s := u) _ _ _ _ h
    · exact post_mbox_ne _ _ _ _ h

/-- A response that need not wait for the flash is posted at once, with its audit record or without one. -/
theorem respond_posted {s : State} {n : Nat} {c : Cmd} (st : Status) (d : Nat) (b : List Int) (hc : (s.mbox n).cmd = some c)
    (ha : (audited c && auditCritical c) = false) :
    s.respond n st d b = (s.auditAdd (auditOf s n c st)).post n c st d b ∨ s.respond n st d b = s.post n c st d b := by
  unfold State.respond
  rw [hc]
  cases h : audited c with
  | false => simp [h]
  | true =>
    have hcrit : auditCritical c = false := by simpa [h] using ha
    simp [h, hcrit]

/-- Settles O51: every command's row is `commandWith`, whose laws say what a command that may not start and a wrong flag do, and a response is
posted in its mailbox alone. -/
theorem hostCommandRules : Obligations.HostCommandRules := by
  unfold Obligations.HostCommandRules
  refine ⟨?idle, ?flags, ?posted, fun s n k st d b h => respond_mbox_ne st d b h⟩
  case idle =>
    intro i s mb code hi hidle
    obtain ⟨pre, body, hx, -⟩ := exec_command hi s
    rw [hx, commandWith_idle pre body fun c hc => ?_]
    by_cases hcode : c.code = code
    · simp [hidle c hc hcode]
    · simp [hcode]
  case flags =>
    intro i s mb code c hi hrights hc hcode hstart hflags
    obtain ⟨pre, body, hx, hpre⟩ := exec_command hi s
    rw [hx, commandWith_flags pre body hc hcode hstart hflags (hpre hrights)]
  case posted =>
    intro s n c st d b hc hstate ha
    have key : ∃ m, (s.respond n st d b).mbox n = { s.mbox n with
        state := .respReady, respReady := true, cmd := none,
        response := some ⟨c.code, c.seq, c.session, st.code, c.switched, d, b, m, s.now⟩,
        completed := satTo 32 ((s.mbox n).completed + 1) } := by
      obtain h | h := respond_posted st d b hc ha <;> rw [h]
      · exact post_mbox_self (s := s.auditAdd _) c st d b hstate
      · exact post_mbox_self c st d b hstate
    obtain ⟨m, h⟩ := key
    rw [h]
    exact ⟨rfl, rfl, rfl, m, rfl⟩

end Sys2Proof.Machine
end

section
/-! PROOFS. A command that carries entries. -/
namespace Sys2Proof.Machine
-- One theorem after the other: side by side, their threads outgrow the memory of the check.
set_option Elab.async false

section
variable {α : Type} (f : State → α → State × Status × List Int)

theorem runEntries_cons (s : State) (i : Nat) (e : α) (es : List α) :
    runEntries f s i (e :: es) =
      ((runEntries f (f s e).1 (i + 1) es).1,
       if applied (f s e).2.1 then (runEntries f (f s e).1 (i + 1) es).2.1 + 1 else (runEntries f (f s e).1 (i + 1) es).2.1,
       if applied (f s e).2.1 then (runEntries f (f s e).1 (i + 1) es).2.2.1 else some (i, (f s e).2.1),
       (f s e).2.2 ++ (runEntries f (f s e).1 (i + 1) es).2.2.2) := rfl

theorem runEntries_state (s : State) (i : Nat) (es : List α) : (runEntries f s i es).1 = es.foldl (fun s e => (f s e).1) s := by
  induction es generalizing s i with
  | nil => rfl
  | cons e es ih => rw [runEntries_cons, ih, List.foldl_cons]

theorem runEntries_count (s : State) (i : Nat) (es : List α) :
    (runEntries f s i es).2.1 = ((entryStatuses f s es).filter applied).length := by
  induction es generalizing s i with
  | nil => rfl
  | cons e es ih =>
    rw [runEntries_cons, entryStatuses, ih]
    cases h : applied (f s e).2.1 <;> simp [h]

/-- No entry has failed where all statuses are applied. -/
theorem runEntries_good (s : State) (i : Nat) (es : List α) (h : ∀ x ∈ entryStatuses f s es, applied x = true) :
    (runEntries f s i es).2.2.1 = none := by
  induction es generalizing s i with
  | nil => rfl
  | cons e es ih =>
    obtain ⟨he, hes⟩ := List.forall_mem_cons.1 h
    rw [runEntries_cons, ih _ _ hes]
    simp [he]

/-- The first entry that failed is named. -/
theorem runEntries_bad (s : State) (i j : Nat) (es : List α) (x : Status) (hx : (entryStatuses f s es)[j]? = some x) (hf : applied x = false)
    (hb : ∀ k y, k < j → (entryStatuses f s es)[k]? = some y → applied y = true) : (runEntries f s i es).2.2.1 = some (i + j, x) := by
  induction es generalizing s i j with
  | nil => cases hx
  | cons e es ih =>
    rw [runEntries_cons]
    cases j with
    | zero =>
      obtain rfl : (f s e).2.1 = x := Option.some.inj hx
      simp [hf]
    | succ j =>
      have he : applied (f s e).2.1 = true := hb 0 _ (Nat.succ_pos j) rfl
      have ih := ih (f s e).1 (i + 1) j hx fun k y hk hy => hb (k + 1) y (Nat.succ_lt_succ hk) hy
      simp [he, ih]
      omega

theorem length_entryStatuses (s : State) (es : List α) : (entryStatuses f s es).length = es.length := by
  induction es generalizing s with
  | nil => rfl
  | cons e es ih => simp [entryStatuses, ih]

/-- A command that carries entries always ends. -/
theorem entriesCmd_done (s : State) (es : List α) : ∃ t st d b, entriesCmd f s es = (t, .done st d b) := by
  unfold entriesCmd entriesReply
  dsimp only
  split
  · exact ⟨_, _, _, _, rfl⟩
  · exact ⟨_, _, _, _, rfl⟩

end

/-- With nothing queued in the serialiser an operation is done at once (R265). -/
theorem joinSerial_empty {s : State} (h : s.fwd.serial = []) (mb : Fin 16) (o : TableOp) : s.joinSerial mb o = s.tableOp o := by
  simp [State.joinSerial, h]

/-- A command whose whole body carries entries. -/
theorem entriesCmd_row {α : Type} {f : State → α → State × Status × List Int} {s u : State} {mb : Fin 16} {code : Nat} {c : Cmd} {es : List α}
    {body : Cmd → State → State × Reply} (h : Starts s mb code c) (hb : body c (begun s mb c) = entriesCmd f u es) :
    ∃ t st d b, entriesCmd f u es = (t, .done st d b) ∧ hostCmd s mb code body = .next (t.respond mb st d b) := by
  obtain ⟨t, st, d, b, ht⟩ := entriesCmd_done f u es
  exact ⟨t, st, d, b, ht, next_done h (hb.trans ht)⟩

/-- Settles O52: by the equation of `runEntries` for one entry more. -/
theorem entryLists : Obligations.EntryLists := by
  unfold Obligations.EntryLists
  refine ⟨fun α f s es => runEntries_state f s 0 es, ?good, ?bad, ?repair, ?route, ?flow⟩
  case good =>
    intro α f s es h
    have hn : (runEntries f s 0 es).2.1 = es.length := by
      rw [runEntries_count, List.filter_eq_self.2 h, length_entryStatuses]
    refine ⟨(runEntries f s 0 es).2.2.2, ?_⟩
    simp only [entriesCmd, runEntries_good f s 0 es h, hn, entriesReply]
  case bad =>
    intro α f s es i x hx hf hb
    refine ⟨(runEntries f s 0 es).2.2.2, ?_⟩
    simp only [entriesCmd, runEntries_bad f s 0 i es x hx hf hb, runEntries_count, entriesReply, Nat.zero_add]
  case repair => exact fun s mb c l h => entriesCmd_row h rfl
  case route =>
    intro s mb c l h hne hlen
    exact entriesCmd_row h (if_neg (by simp [hne]; omega))
  case flow =>
    intro s mb c l h hcount hserial
    exact entriesCmd_row h ((if_pos hcount).trans (joinSerial_empty (s := begun s mb c) hserial mb (.flowDelete l)))

end Sys2Proof.Machine
end

section
/-! PROOFS. Reading a state past a function that does not change what is read. -/
namespace Sys2Proof.Machine
-- One theorem after the other: side by side, their threads outgrow the memory of the check.
set_option Elab.async false

/-- What a frame does not name reads as before. -/
theorem Only.same {α : Type} {f : State → State → State} {s t : State} {k : Bool} (h : Only f s t k) (π : State → α)
    (w : ∀ a b, π (f a b) = π a := by intros; rfl) : π t = π s := by
  rw [h.1, w]

@[simp] theorem raise_eq (s : State) (k : EvKind) (a r d : Nat) : s.raise k a r d = s.raiseAs k false a r d := rfl

theorem pkey_ne {p q : Param} (h : p.key ≠ q.key) (i : Nat) : pkey p i ≠ pkey q i :=
  fun he => h (Nat.eq_of_mul_eq_mul_right (by decide) (Nat.add_right_cancel he))

/-- A command whose object is at work waits for it. -/
theorem next_hold {s t : State} {mb : Fin 16} {code : Nat} {c : Cmd} (h : Starts s mb code c) {w : WaitFor}
    {body : Cmd → State → State × Reply} (hb : body c (begun s mb c) = (t, .hold w)) :
    Host.Outcome.next (σ := State) (φ := Fault) (ρ := Refusal) (s.command mb code body) = .next (t.park mb w) := by
  unfold State.command
  rw [commandWith_starts h _ _ rfl, hb]

/-! ### Fields of a counter -/

theorem bumpF_ro_self (s : State) (p : Param) (i hi lo n : Nat) : (s.bumpF p i hi lo n).ro p i = (addField (s.ro p i).toNat hi lo n : Nat) :=
  setRo_ro_self ..

theorem bumpF_ro_ne {s : State} {p q : Param} {i j hi lo n : Nat} (h : pkey p i ≠ pkey q j) : (s.bumpF p i hi lo n).ro q j = s.ro q j :=
  setRo_ro_ne _ _ h

theorem bump_ro_self (s : State) (p : Param) (i n : Nat) : (s.bump p i n).ro p i = (addField (s.ro p i).toNat 31 0 n : Nat) := setRo_ro_self ..

theorem bump_ro_ne {s : State} {p q : Param} {i j n : Nat} (h : pkey p i ≠ pkey q j) : (s.bump p i n).ro q j = s.ro q j := setRo_ro_ne _ _ h

end Sys2Proof.Machine
end

section
/-! PROOFS. Capacity reports and bridges. -/
namespace Sys2Proof.Machine
-- One theorem after the other: side by side, their threads outgrow the memory of the check.
set_option Elab.async false

/-- A report is applied where it is later than the last applied one. -/
theorem exec_capacityReport_sent {s : State} {k : Consumer} {r : Fin 13} {n : BitVec 16} {x : CapReport}
    (hx : (s.pace.capSent.get r.val).find? (fun y => y.seq == n.toNat) = some x) :
    exec (.capacityReport k r n) s = .next (if laterSeq (s.pace.held.get (consumerKey k r)).last x.seq then
      { s with pace.held := s.pace.held.set (consumerKey k r) ⟨some x.seq, some x.figures⟩ } else s) := by
  show execCapacityReport k r n s = _
  simp only [execCapacityReport, hx]

theorem exec_capacityReport_unsent {s : State} (k : Consumer) {r : Fin 13} {n : BitVec 16}
    (hx : (s.pace.capSent.get r.val).find? (fun y => y.seq == n.toNat) = none) : exec (.capacityReport k r n) s = .next s := by
  show execCapacityReport k r n s = _
  simp only [execCapacityReport, hx]

/-- The frames in transmission of the MACs `l` leave with an invalid FCS, one after the other. -/
theorem foldl_badFcs_outbox (l : List Nat) (s : State) :
    (l.foldl (fun s m => match (s.mac m).sending with
      | none => s
      | some id => s.emit (.badFcs id)) s).outbox = s.outbox ++ l.filterMap (fun m => (s.mac m).sending.map Out.badFcs) := by
  induction l generalizing s with
  | nil => simp
  | cons m l ih =>
    rw [List.foldl_cons, ih]
    cases h : (s.mac m).sending <;> simp [h]

theorem underrun_uplink_outbox (s : State) (i : Nat) : (s.underrun 1 i).outbox = s.outbox ++
    ((List.range 32).filter (fun m => macUsed s m && (macLanes s m).contains i && decide (s.up < (s.mac m).busyUntil))).filterMap
      (fun m => (s.mac m).sending.map Out.badFcs) :=
  foldl_badFcs_outbox _ s

/-- What leaves the device at an underrun does not depend on the pace domain. -/
theorem underrun_outbox (s : State) (p : PaceState) (i : Nat) :
    ∀ ty, (({ s with pace := p } : State).underrun ty i).outbox = (s.underrun ty i).outbox
  | 0 => rfl
  | 1 => by
    rw [underrun_uplink_outbox, underrun_uplink_outbox]
    rfl
  | _ + 2 => rfl

/-- An underrun counts, and changes what `underrun` says. -/
theorem exec_bridgeUnderrun (s : State) (ty : Fin 3) (i : Fin 128) : ∃ t, exec (.bridgeUnderrun ty i) s = .next t ∧
    t.outbox = (s.underrun ty i).outbox ∧ t.pace.underruns.get (laneIndex ty i) = s.pace.underruns.get (laneIndex ty i) + 1 := by
  refine ⟨_, rfl, ?_, ?_⟩
  · rw [(bridgeFault_only ..).same State.outbox]
    exact underrun_outbox s _ i ty
  · rw [(bridgeFault_only ..).same State.pace, (raise_only ..).same State.pace, (underrun_only ..).same State.pace]
    simp

/-- Settles O1: each row by its equation, and what an underrun sends by its lane type. -/
theorem signalCapacityAndBridges : Obligations.SignalCapacityAndBridges := by
  unfold Obligations.SignalCapacityAndBridges
  refine ⟨?_, ?_, ?_, ?_, ?_, fun s k r n h => exec_capacityReport_unsent k h, ?_, ?_, ?_, ?_⟩
  · exact fun s r => ⟨_, rfl, by simp, rfl⟩
  · exact fun s r => ⟨_, rfl, by simp, rfl⟩
  · intro s r
    simp [State.reportCapacity]
  · intro s k r n x hx hl
    rw [exec_capacityReport_sent hx, if_pos hl]
  · intro s k r n hl
    cases hx : (s.pace.capSent.get r.val).find? (fun y => y.seq == n.toNat) with
    | none => exact exec_capacityReport_unsent k hx
    | some x =>
      have hn : x.seq = n.toNat := by simpa using List.find?_some hx
      rw [exec_capacityReport_sent hx, hn, hl]
      rfl
  · intro s ty i
    refine ⟨_, rfl, ?_⟩
    rw [(bridgeFault_only ..).same State.pace]
    simp
  · exact fun s i => exec_bridgeUnderrun s 0 i
  · intro s i
    obtain ⟨t, ht, ho, hu⟩ := exec_bridgeUnderrun s 1 i
    exact ⟨t, ht, ho.trans (underrun_uplink_outbox s i), hu⟩
  · exact fun s i => exec_bridgeUnderrun s 2 i

end Sys2Proof.Machine
end

section
/-! PROOFS. Pace monitors and the voltage loop. -/
namespace Sys2Proof.Machine
-- One theorem after the other: side by side, their threads outgrow the memory of the check.
set_option Elab.async false

/-! ### Control pace (R40) -/

/-- A block whose pace may be the control pace: in service, not slow, its monitor good. -/
def paceCounts (s : State) (i : Nat) : Bool := blockInService s i && !(s.unit (instAddr i)).slow && !(s.blockPace i).faulty

def paceNow (s : State) (i : Nat) : Nat := (s.ro .PACE_NOW i).toNat

/-- The lower of the pace so far and block `i`'s. -/
def lowerPace (s : State) (acc : Option (Nat × Nat)) (i : Nat) : Option (Nat × Nat) :=
  if paceCounts s i then
    match acc with
    | none => some (i, paceNow s i)
    | some (_, w) => if paceNow s i < w then some (i, paceNow s i) else acc
  else acc

/-- `acc` is the lowest pace among those blocks of `seen` that count. -/
def IsControl (s : State) (seen : List Nat) (acc : Option (Nat × Nat)) : Prop :=
  match acc with
  | none => ∀ j ∈ seen, paceCounts s j = false
  | some (i, p) => i ∈ seen ∧ paceCounts s i = true ∧ p = paceNow s i ∧ ∀ j ∈ seen, paceCounts s j = true → p ≤ paceNow s j

theorem controlPace_eq (s : State) (l : List Nat) : controlPace s l = l.foldl (lowerPace s) none := rfl

theorem isControl_lowerPace {s : State} {seen : List Nat} {acc : Option (Nat × Nat)} (h : IsControl s seen acc) (i : Nat) :
    IsControl s (seen ++ [i]) (lowerPace s acc i) := by
  unfold lowerPace
  cases hi : paceCounts s i with
  | false =>
    match acc with
    | none => simpa [IsControl, or_imp, forall_and, hi] using h
    | some (_, _) => simpa [IsControl, or_imp, forall_and, hi] using ⟨.inl h.1, h.2⟩
  | true =>
    match acc with
    | none =>
      refine ⟨by simp, hi, rfl, fun j hj hjc => ?_⟩
      rcases List.mem_append.1 hj with hj | hj
      · simp [h j hj] at hjc
      · exact Nat.le_of_eq (congrArg (paceNow s) (List.mem_singleton.1 hj).symm)
    | some (k, w) =>
      obtain ⟨hk, hc, hw, hall⟩ := h
      by_cases hlt : paceNow s i < w
      · simp only [if_true, if_pos hlt]
        refine ⟨by simp, hi, rfl, fun j hj hjc => ?_⟩
        rcases List.mem_append.1 hj with hj | hj
        · exact Nat.le_of_lt (Nat.lt_of_lt_of_le hlt (hall j hj hjc))
        · exact Nat.le_of_eq (congrArg (paceNow s) (List.mem_singleton.1 hj).symm)
      · simp only [if_true, if_neg hlt]
        refine ⟨by simp [hk], hc, hw, fun j hj hjc => ?_⟩
        rcases List.mem_append.1 hj with hj | hj
        · exact hall j hj hjc
        · rw [List.mem_singleton.1 hj]
          omega

theorem isControl_foldl {s : State} (l : List Nat) : ∀ {seen : List Nat} {acc : Option (Nat × Nat)}, IsControl s seen acc →
    IsControl s (seen ++ l) (l.foldl (lowerPace s) acc) := by
  induction l with
  | nil => simp
  | cons i l ih =>
    intro seen acc h
    simpa using ih (isControl_lowerPace h i)

theorem controlPace_lowest {s : State} {l : List Nat} {i p : Nat} (h : controlPace s l = some (i, p)) : IsControl s l (some (i, p)) := by
  have := isControl_foldl (s := s) l (seen := []) (acc := none) (by simp [IsControl])
  rwa [← controlPace_eq, h] at this

/-! ### The voltage loop (R41, R42) -/

theorem sendTarget_target {s : State} (h : s.pace.avsFailed = false) (mv : Nat) : (s.sendTarget mv).pace.target = mv := by
  unfold State.sendTarget
  by_cases hm : mv = s.pace.target <;> simp [h, hm]

/-- The loop's evaluation where the rules run (R42): by the upward steps where there are any, else by the downward one. -/
def moveTarget (s : State) (p : Nat) (loads : List Nat) : State :=
  if 0 < upStep s p loads then ({ s with pace.sinceUp := 0 }).sendTarget (clampTarget s (s.pace.target + upStep s p loads))
  else s.sendTarget (clampTarget s (s.pace.target - downStep s))

theorem moveTarget_up {s : State} {p : Nat} {loads : List Nat} (h : s.pace.avsFailed = false) (hu : 0 < upStep s p loads) :
    (moveTarget s p loads).pace.target = clampTarget s (s.pace.target + upStep s p loads) := by
  rw [moveTarget, if_pos hu]
  exact sendTarget_target (s := { s with pace.sinceUp := 0 }) h _

theorem moveTarget_down {s : State} {p : Nat} {loads : List Nat} (h : s.pace.avsFailed = false) (hu : upStep s p loads = 0) :
    (moveTarget s p loads).pace.target = clampTarget s (s.pace.target - downStep s) := by
  rw [moveTarget, if_neg (by omega), sendTarget_target h]

/-- The guard's trip (R41): an event, and nothing else. -/
def guardTrip (s : State) (i p : Nat) : State :=
  if p < s.getFN .PACE_GUARD * 10 then s.raise .PACE_GUARD_TRIP (srcRegion (i / 256) 4) (i / 256) (evData [(12, i)] p) else s

theorem guardTrip_eq (s : State) (i p : Nat) : ∃ l, guardTrip s i p = { s with ev.transit := l } := by
  by_cases h : p < s.getFN .PACE_GUARD * 10
  · exact ⟨_, if_pos h⟩
  · exact ⟨_, if_neg h⟩

/-- What the loop does outside mode 1, by where the last target stands (R42). -/
def loopAt (s : State) (p : Nat) (loads : List Nat) : Settle → State
  | .ready => moveTarget s p loads
  | .settling => s
  | .partialWindow => { s with pace.settle := .fullWindow }
  | .fullWindow => moveTarget { s with pace.settle := .ready } p loads

theorem evalLoop_eq {s : State} (hm : s.getN .AVS_MODE ≠ 1) (i p : Nat) (loads : List Nat) :
    ∃ l, s.evalLoop i p loads = loopAt { s with ev.transit := l } p loads s.pace.settle := by
  obtain ⟨l, h⟩ := guardTrip_eq s i p
  have hn : (guardTrip s i p).getN .AVS_MODE ≠ 1 := by
    rw [h]
    exact hm
  have hl : s.evalLoop i p loads = loopAt (guardTrip s i p) p loads (guardTrip s i p).pace.settle := (if_neg hn).trans rfl
  rw [h] at hl
  exact ⟨l, hl⟩

theorem blockPace_setBlockPace_self (s : State) (i : Nat) (b : BlockPace) : (s.setBlockPace i b).blockPace i = b := Tab.get_set_self ..

/-- Out of range, or with a faulty monitor, a block's pace is the region median (R39). -/
theorem judge_faulty {s : State} {m i p : Nat} {st : Bool} (h : (s.blockPace i).sample = some (p, st)) (hp : p < 1000 ∨ 4500 < p) :
    ((s.judge m i).blockPace i).faulty = true ∧ (s.judge m i).ro .PACE_NOW i = m := by
  have ho : outOfRange p = true := by simpa [outOfRange] using hp
  have hread : ∀ (u : State) (x : Bool) (r : Nat), (if x then u.testCapacity r else u).blockPace i = u.blockPace i ∧
      (if x then u.testCapacity r else u).ro .PACE_NOW i = u.ro .PACE_NOW i := by
    intro u x r
    cases x
    · exact ⟨rfl, rfl⟩
    · exact ⟨(testCapacity_only u r).same (·.blockPace i), (testCapacity_only u r).same (·.ro .PACE_NOW i)⟩
  have hset : ∀ (u : State) (b : BlockPace), (u.setBlockPace i b).ro .PACE_NOW i = u.ro .PACE_NOW i := fun _ _ => rfl
  have hraise : ∀ (u : State) (x : Bool) (k : EvKind) (a r d : Nat), (if x then u.raise k a r d else u).ro .PACE_NOW i = u.ro .PACE_NOW i := by
    intro u x k a r d
    cases x <;> rfl
  have hhold : pkey .PACE_MIN_HOLD i ≠ pkey .PACE_NOW i := pkey_ne (by decide) i
  unfold State.judge
  simp only [h, ho, Bool.or_true, Bool.true_or, Bool.true_and, if_true]
  rw [(hread ..).1, (hread ..).2, hset, hraise, setRo_ro_ne _ _ hhold, setRo_ro_self, blockPace_setBlockPace_self]
  exact ⟨rfl, rfl⟩

/-! ### A window's close (R42, R45) -/

theorem foldl_setLoad_loads (f : Nat → Nat) (l : List Nat) (r : Nat) : ∀ s : State,
    (l.foldl (fun s r => s.setLoad r (f r)) s).pace.loads.get r = if r ∈ l then f r else s.pace.loads.get r := by
  induction l with
  | nil => simp
  | cons k l ih =>
    intro s
    rw [List.foldl_cons, ih]
    by_cases hl : r ∈ l
    · simp [hl]
    · by_cases hk : r = k <;> simp [hl, hk, State.setLoad, Tab.get_set, Ne.symm]

/-- The queued commands run, and none is left. -/
theorem runRegulator_pace (s : State) : s.runRegulator.pace = { s.pace with regulator := [] } := by
  unfold State.runRegulator
  have h : ∀ (l : List RegTxn) (u : State), Only answered u (l.foldl (fun s t =>
      (s.emit (.regulator t.cmd t.data)).respondAll (.regulator t.id) .ok 0 (t.answer.map Int.ofNat)) u) := fun l u =>
    .foldl .base fun _ _ => .step (.step .base (emit_only ..)) (respondAll_only ..)
  exact (h _ _).same State.pace

theorem exec_paceWindowClose (loads : List Nat) (s : State) : ∃ u t, exec (.paceWindowClose loads) s = .next t ∧
    t.pace = ((List.range 13).foldl (fun (s : State) r => s.setLoad r (loads.getD r 0)) u).runRegulator.pace := by
  have hp : ∀ (cp : Option (Nat × Nat)) (v : State), (match cp with
      | none => v
      | some (i, p) => v.produce 2 0 [p, v.pace.target, loads.foldl max 0, i / 256, 0]).pace = v.pace := by
    intro cp v
    cases cp
    · rfl
    · exact (produce_only ..).same State.pace
  exact ⟨_, _, rfl, (hp ..).trans ((enforceLoop_only _).same State.pace)⟩

/-- Settles O2: the control pace by its invariant, the loop by where the last target stands, each other row by its equation. -/
theorem paceAndVoltage : Obligations.PaceAndVoltage := by
  unfold Obligations.PaceAndVoltage
  refine ⟨fun _ _ _ _ => rfl, fun _ _ _ _ => rfl, fun s m i p st h hp => judge_faulty h hp, ?_, ?_, ?_, ?_, ?_, ?_, ?_, ?_, ?_, ?_, ?_, ?_, ?_, ?_, ?_, ?_⟩
  · intro s l i p h
    obtain ⟨hi, hc, hp, hall⟩ := controlPace_lowest h
    have hcounts : ∀ j, paceCounts s j = true ↔ blockInService s j = true ∧ (s.unit (instAddr j)).slow = false ∧ (s.blockPace j).faulty = false := by
      simp [paceCounts, and_assoc]
    obtain ⟨h1, h2, h3⟩ := (hcounts i).1 hc
    exact ⟨hi, h1, h2, h3, hp, fun j hj j1 j2 j3 => hall j hj ((hcounts j).2 ⟨j1, j2, j3⟩)⟩
  · intro s i p loads hm hs ha hu
    obtain ⟨l, h⟩ := evalLoop_eq hm i p loads
    rcases hs with hs | hs <;> rw [h, hs] <;> exact moveTarget_up (by exact ha) (by exact hu)
  · intro s i p loads hm hs ha hu
    obtain ⟨l, h⟩ := evalLoop_eq hm i p loads
    rcases hs with hs | hs <;> rw [h, hs] <;> exact moveTarget_down (by exact ha) (by exact hu)
  · intro s i p loads hm hs
    obtain ⟨l, h⟩ := evalLoop_eq hm i p loads
    rcases hs with hs | hs <;> rw [h, hs] <;> rfl
  · intro s loads
    obtain ⟨u, t, h, hp⟩ := exec_paceWindowClose loads s
    refine ⟨t, h, by rw [hp, runRegulator_pace], fun r hr => ?_⟩
    rw [hp, runRegulator_pace, foldl_setLoad_loads, if_pos (List.mem_range.2 hr)]
  · intro s h
    show execAvsSettleExpiry s = _
    simp [execAvsSettleExpiry, h]
  · intro s h
    show execAvsSettleExpiry s = _
    simp [execAvsSettleExpiry, h]
  · intro s ok h hn
    show execAvsbusTransactionDone false ok s = _
    have : s.pace.attempts + 1 < 3 := by omega
    simp [execAvsbusTransactionDone, h, this]
  · intro s ok h hn
    show execAvsbusTransactionDone false ok s = _
    have : ¬ s.pace.attempts + 1 < 3 := by omega
    simp [execAvsbusTransactionDone, h, this, State.busFault, b2n]
  · intro s h ok
    show execAvsbusTransactionDone true ok s = _
    simp [execAvsbusTransactionDone, h]
  · intro s ok h
    show execAvsbusRetry ok s = _
    cases ok
    · simp [execAvsbusRetry, h]
      simp [← h]
    · rw [execAvsbusRetry, h]
      rfl
  · intro s a
    have hne : pkey .CORE_POWER 0 ≠ pkey .VDD_READ 0 := pkey_ne (by decide) 0
    have hr : ((s.setRo .VDD_READ 0 a.mv).setRo .CORE_POWER 0 (a.mv * a.ma / 1000)).ro .VDD_READ 0 = a.mv := by
      rw [setRo_ro_ne _ _ hne, setRo_ro_self]
    by_cases hb : (s.pace.pmFailed && s.pace.avsFailed) = true
    · exact ⟨_, congrArg Host.Outcome.next (if_pos hb), hr, setRo_ro_self .., rfl, rfl, rfl, rfl⟩
    · exact ⟨_, congrArg Host.Outcome.next (if_neg hb), hr, setRo_ro_self .., rfl, rfl, rfl, rfl⟩

  · intro s h
    refine ⟨({ s with pace.pmFailed := true } : State).busFault, ?_, ?_⟩
    · show execPmbusStatusPoll none s = _
      simp [execPmbusStatusPoll, h]
    · rw [(busFault_only _).same State.pace]
  · intro s mb c cmd data ans h hm hv hp
    refine next_wait h ?_
    simp [hm, hv, hp]
  · intro s mb c data ans h hm
    refine next_done h ?_
    simp [hm, fail]
  · intro s mb c cmd data ans h hm hp
    refine next_done h ?_
    simp [hm, hp, okay]

end Sys2Proof.Machine
end

section
/-! PROOFS. Bursts, sleep, segments and slices of the lanes. -/
namespace Sys2Proof.Machine
-- One theorem after the other: side by side, their threads outgrow the memory of the check.
set_option Elab.async false

/-- The event of a late preload, or none. -/
theorem exec_burstPreload {s : State} {c : Fin 64} {p : PlanEntry} {l : List PlanEntry} (hn : (s.ln (rxLane c)).nextEntry = none)
    (hp : (s.ln (rxLane c)).plan = p :: l) (hc : p.entry.any (fun e => e.cont) = false) (late : Bool) :
    ∃ u, exec (.burstPreload c late) s = .next (if late then
      u.raise .PRELOAD_LATE (srcTree (c.val / 2) (2 + c.val % 2)) (regionOfChan c) (evData [(7, rxLane c)] ((planTerm p).getD 0)) else u) ∧
    u.ev = s.ev ∧
    (u.ln (rxLane c)).next = preloadOf s p late ∧ (u.ln (rxLane c)).nextEntry = some p ∧ (u.ln (rxLane c)).plan = l := by
  have hx : exec (.burstPreload c late) s = execBurstPreload c late s := rfl
  simp only [hx, execBurstPreload, hn, hp, hc, Bool.false_eq_true, if_false]
  cases planTerm p with
  | none => exact ⟨_, rfl, rfl, by simp, by simp, by simp⟩
  | some t =>
    refine ⟨_, rfl, (fetchKeys_only ..).same State.ev, ?_⟩
    simp [(fetchKeys_only ..).same (State.ln · (rxLane c))]

theorem sleepLane_asleep (s : State) (i : Nat) : ((s.sleepLane i).ln i).asleep = true := by
  unfold State.sleepLane
  cases h : (s.ln i).asleep <;> simp [h]

theorem sleepLane_ln_ne (s : State) {i j : Nat} (h : i ≠ j) : (s.sleepLane i).ln j = s.ln j := by
  unfold State.sleepLane
  dsimp only
  split
  · rfl
  · exact ln_setLn_ne _ _ h

theorem wakeLane_asleep (s : State) (i : Nat) : ((s.wakeLane i).ln i).asleep = false := by
  unfold State.wakeLane
  cases h : (s.ln i).asleep <;> simp [h]

/-- An observation adds at most the event that opens an investigation. -/
theorem rogueObserve_transit (s : State) (c k : Nat) (t : Option Nat) (n : Nat) :
    ∃ l, (s.rogueObserve c k t n).ev.transit = s.ev.transit ++ l := by
  unfold State.rogueObserve
  extract_lets _ _ recent collected u
  split
  · exact ⟨_, rfl⟩
  · exact ⟨[], (List.append_nil _).symm⟩

theorem reportRole_reports (s : State) (r b : Nat) (cell : Option Nat) (cause : Nat) :
    ∃ x, (s.reportRole r b cell cause).reports = s.reports ++ [x] := ⟨_, rfl⟩

/-- Driving a lane keeps its units. -/
theorem driveLane_waiting (s : State) (c : Nat) : ((s.driveLane c).ln (txLane c)).waiting = (s.ln (txLane c)).waiting ∧
    ((s.driveLane c).ln (txLane c)).sparesUsed = (s.ln (txLane c)).sparesUsed := by
  unfold State.driveLane
  extract_lets _ u d
  split
  · exact ⟨rfl, rfl⟩
  · have h : ∀ v o, ((u.setLn (txLane c) v).emit o).ln (txLane c) = v := fun _ _ => ln_setLn_self ..
    exact ⟨(congrArg LaneState.waiting (h ..)).trans rfl, (congrArg LaneState.sparesUsed (h ..)).trans rfl⟩

/-- Settles O3: each row by its equation, and the lane's own part past what the row calls. -/
theorem laneRows : Obligations.LaneRows := by
  unfold Obligations.LaneRows
  refine ⟨?_, ?_, ?_, ?_, ?_, ?_, ?_, ?_, ?_, ?_, ?_, ?_, ?_, ?_, ?_, ?_, ?_⟩
  · intro s n h1 h2 h3 h4
    have hx : exec (.brstPulse n) s = execBrstPulse n s := rfl
    have hh : ∀ v, pulsesHeld (s.setLn (rxLane (2 * n.val)) v) n = false := fun _ => h4
    simp [hx, execBrstPulse, h1, h2, h3, hh, State.brst]
  · intro s c p l hn hp hc
    obtain ⟨u, h, h4, h1, h2, h3⟩ := exec_burstPreload hn hp hc false
    exact ⟨u, h, h1, h2, h3, h4⟩
  · intro s c p l hn hp hc
    obtain ⟨u, h, h4, h1, h2, -⟩ := exec_burstPreload hn hp hc true
    exact ⟨_, h, h1, h2, _, congrArg (·.transit ++ _) h4, rfl⟩
  · intro s c p hn hp
    have hx : exec (.bankSwap c) s = execBankSwap c s := rfl
    have hd : ((planTerm p).isSome && planTerm p == (s.ln (rxLane c)).activeFor) = false := by
      rcases hp with hp | hp <;> simp [hp]
    simp [hx, execBankSwap, hn, hd, takeEntry]
  · intro s c p n hn hp ha
    have hx : exec (.bankSwap c) s = execBankSwap c s := rfl
    simp [hx, execBankSwap, hn, hp, ha, takeEntry]
  · intro s c hd hk
    have hx : exec (.laneSleepStart c) s = .next (s.sleepLane (rxLane c)) := congrArg Host.Outcome.next (if_pos (by simp [hd, hk]))
    exact ⟨_, hx, sleepLane_asleep ..⟩
  · exact fun s c => ⟨_, rfl, wakeLane_asleep ..⟩
  · intro s c h
    refine ⟨_, congrArg Host.Outcome.next (if_pos h), ?_, wakeLane_asleep ..⟩
    rw [(wakeLane_only ..).same (·.lanes.wakeRun)]
    simp
  · intro s c hd hk
    refine ⟨_, congrArg Host.Outcome.next (if_pos (by simp [hd, hk])), ?_, ?_, sleepLane_asleep ..⟩
    · rw [(sleepLane_only ..).same (·.lanes.wakeRun), (sleepLane_only ..).same (·.lanes.wakeRun)]
      simp
    · rw [sleepLane_ln_ne _ (by simp [txLane, rxLane])]
      exact sleepLane_asleep ..
  · intro s c x l n h
    refine ⟨_, congrArg Host.Outcome.next (if_pos h), ?_⟩
    obtain ⟨rest, h⟩ := rogueObserve_transit (s.raise .SLEEP_LIGHT (srcTree (c.val / 2) (2 + c.val % 2)) (regionOfChan c)
      (evData [(7, rxLane c)] x)) c 1 (l.map Fin.val) n
    exact ⟨_, rest, h.trans (List.append_assoc ..), rfl⟩
  · intro s c g hf hw
    have hn : ¬ ((s.ln (txLane c)).failedMask.testBit g || (s.ln (txLane c)).waiting.contains g.val) = true := by
      simp only [hf, hw]
      decide
    refine ⟨_, congrArg Host.Outcome.next (if_neg hn), ?_, reportRole_reports ..⟩
    rw [(reportRole_only ..).same (·.ln (txLane c)), ln_setLn_self]
  · intro s c u l hw hs
    have hx : exec (.laneSegmentSwap c) s = execLaneSegmentSwap c s := rfl
    simp only [hx, execLaneSegmentSwap, hw, if_pos hs]
    refine ⟨_, rfl, ?_, ?_, ?_⟩
    · rw [(driveLane_waiting ..).1]
      simp
    · rw [(driveLane_waiting ..).2]
      simp
    · rw [(driveLane_only ..).same (·.ev.transit)]
      exact ⟨_, rfl, rfl⟩
  · intro s c d n h
    have hx : exec (.sliceShadowPeriod c d n false) s = execSliceShadowPeriod c d n false s := rfl
    have hb : (false || decide (n < d * 1000000)) = true := by simp [h]
    simp only [hx, execSliceShadowPeriod, hb, if_true]
    refine ⟨_, rfl, ?_, reportRole_reports ..⟩
    rw [(reportRole_only ..).same (·.ln (rxLane c)), ln_setLn_self]
    cases hc : (s.ln (rxLane c)).waiting.contains (s.ln (rxLane c)).shadow
    · simp
    · simpa using hc
  · intro s c d n h
    have hx : exec (.sliceShadowPeriod c d n false) s = execSliceShadowPeriod c d n false s := rfl
    simp [hx, execSliceShadowPeriod, Nat.not_lt.2 h]
  · intro s c u l hw hs
    have hx : exec (.laneSliceSwap c) s = execLaneSliceSwap c s := rfl
    simp [hx, execLaneSliceSwap, hw, hs]
  · intro s c p l late hn hp hc
    have hx : exec (.burstPreload c late) s = execBurstPreload c late s := rfl
    simp [hx, execBurstPreload, hn, hp, hc]
  · intro s c h
    have hx : exec (.laneSleepStart c) s = execLaneSleepStart c s := rfl
    simp [hx, execLaneSleepStart, h]

end Sys2Proof.Machine
end

section
/-! PROOFS. Optics rounds, two-wire masters and modules. -/
namespace Sys2Proof.Machine
-- One theorem after the other: side by side, their threads outgrow the memory of the check.
set_option Elab.async false

/-! ### The two-wire masters -/

/-- A master at work starts nothing. -/
theorem startTxn_running {s : State} {k : Nat} (h : (s.master k).running.isSome = true) : s.startTxn k = s := if_pos h

theorem startTxn_idle {s : State} {k : Nat} (hp : (s.master k).polls = []) (hq : (s.master k).passes = []) (hr : (s.master k).reads = []) :
    s.startTxn k = s := by
  have hn : nextTxn s (s.master k) = none := by simp [nextTxn, takeUsable, hp, hq, hr]
  simp [State.startTxn, hn]

/-- A page of a master at work waits among its polls. -/
theorem queueTxn_page {s : State} {t : Nat} {m : Master} (hm : s.master (t / 8) = m) (hr : m.running.isSome = true) (p : Nat) :
    (s.queueTxn (.page t p)).master (t / 8) = { m with polls := m.polls ++ [.page t p] } := by
  subst hm
  have h : s.queueTxn (.page t p) = s.setMaster (t / 8) { s.master (t / 8) with polls := (s.master (t / 8)).polls ++ [.page t p] } :=
    startTxn_running (by simpa [txnTree] using hr)
  rw [h, master_setMaster_self]

theorem openLosWindow_loss (s : State) (t : Nat) : ((s.openLosWindow t).optic t).loss = (s.optic t).loss := by
  unfold State.openLosWindow
  extract_lets o a
  rw [(enforce_only ..).same (·.optic t), (enforce_only ..).same (·.optic t), optic_setOptic_self]

/-- Settles O4: each row by its equation; what a master queues or starts by the lemmas above. -/
theorem moduleRows : Obligations.ModuleRows := by
  unfold Obligations.ModuleRows
  refine ⟨?_, ?_, ?_, ?_, ?_, ?_, ?_, ?_, ?_, ?_, ?_, ?_, ?_, ?_, ?_, ?_⟩
  · intro s n hl hr
    have hu : (({ s.optic n with roundDue := true } : TreeOptics).roundDue && (s.optic n).rssi.isNone && (roundLeft (s.setOptic n
        { s.optic n with roundDue := true }) n).isEmpty) = true := by
      unfold roundLeft
      rw [optic_setOptic_self]
      exact (by simp [hr, hl] : (true && (s.optic n).rssi.isNone && (roundLeft s n).isEmpty) = true)
    refine ⟨_, congrArg Host.Outcome.next (if_pos ?_), ?_⟩
    · rw [optic_setOptic_self]
      exact hu
    · rw [optic_setOptic_self]
      rfl
  · intro s n x k h1 h2 h3 h4 h5
    refine ⟨_, congrArg Host.Outcome.next (if_pos ?_), ?_, rfl⟩
    · simp only [h1, h2, h3, h4, h5, k, Bool.or_true, decide_true]
      rfl
    · simp [k]
  · intro s n k h1 h2
    have hx : exec (.rssiSettleExpiry n) s = execRssiSettleExpiry n s := rfl
    refine ⟨_, by simp only [hx, execRssiSettleExpiry, h1, h2, Bool.false_eq_true, if_false, if_true]; rfl, ?_⟩
    rw [(queueTxn_only ..).same (·.optic n)]
    simp
  · intro s n v
    have hx : exec (.treeLosPin n v) s = execTreeLosPin n v s := rfl
    cases h : treeEnabled s n <;> simp [hx, execTreeLosPin, h]
  · intro s n h1 h2 h3
    have hx : exec (.losWindowExpiry n) s = execLosWindowExpiry n s := rfl
    cases hl : losHeld s n with
    | mk held failed =>
    rw [hl] at h3
    cases h3
    refine ⟨_, by simp only [hx, execLosWindowExpiry, h1, h2, hl, Bool.not_true, Bool.not_false, Bool.and_true, Bool.false_eq_true, if_false, if_true]; rfl, ?_⟩
    rw [(protFault_only ..).same (·.optic n), (raise_only ..).same (·.optic n), openLosWindow_loss, optic_setOptic_self]
    simp
  · intro s n x h1 h2
    have hx : exec (.mmsSelSetupExpiry n) s = execMmsSelSetupExpiry n s := rfl
    simp [hx, execMmsSelSetupExpiry, h1, h2]
  · intro s n x h1 h2
    have hx : exec (.mmsBusStuck n) s = execMmsBusStuck n s := rfl
    refine ⟨_, by simp only [hx, execMmsBusStuck, h1, h2, Bool.false_eq_true, if_false]; rfl, ?_⟩
    simp
  · intro s n
    refine ⟨_, rfl, ?_⟩
    rw [(startTxn_only ..).same (·.optic n)]
    simp
  · intro s n b hb
    refine ⟨_, congrArg Host.Outcome.next (if_pos hb), ?_⟩
    rw [(queueTxn_only ..).same (·.optic n), (queueTxn_only ..).same (·.optic n), (queueTxn_only ..).same (·.optic n)]
    simp
  · intro s n b hb
    refine ⟨_, congrArg Host.Outcome.next (if_neg hb), ?_, _, rfl, rfl⟩
    simp
  · intro s n h
    refine ⟨_, congrArg Host.Outcome.next (if_pos h), ?_⟩
    simp [State.applyLaneControls]
  · intro s n
    have hx : exec (.modulePoll n none) s = execModulePoll n none s := rfl
    refine ⟨_, rfl, ?_⟩
    dsimp only
    have hp : ∀ (x : Bool) (u : State) a r d, ((if x then (u.raise .MODULE_ABSENT a r d).protFault n 3 else u).optic n) = u.optic n := by
      intro x u a r d
      cases x
      · rfl
      · exact (protFault_only (u.raise ..) n 3).same (·.optic n)
    rw [hp, optic_setOptic_self]
  · intro s n k h1 h2 h3 h4 h5
    have hx : exec (.moduleTransactionDone n []) s = execModuleTransactionDone n [] s := rfl
    refine ⟨_, by simp only [hx, execModuleTransactionDone, h1, h2, Bool.false_eq_true, if_false]; rfl, ?_⟩
    rw [startTxn_idle] <;> simp [h3, h4, h5]
  · intro s n b hb hm
    refine ⟨_, congrArg Host.Outcome.next (if_pos hb), ?_⟩
    have h : ∀ u : State, u.master (n / 8) = s.master (n / 8) →
        ((((u.queueTxn (.page n 0)).queueTxn (.page n 1)).queueTxn (.page n 2)).master (n / 8)).polls =
          (s.master (n / 8)).polls ++ [.page n 0, .page n 1, .page n 2] := by
      intro u hu
      rw [queueTxn_page (queueTxn_page (queueTxn_page hu hm 0) hm 1) hm 2]
      simp
    exact h _ rfl
  · intro s n k d h1 h2 h3 h4 h5 h6
    have hx : exec (.moduleTransactionDone n d) s = execModuleTransactionDone n d s := rfl
    refine ⟨_, by simp only [hx, execModuleTransactionDone, h1, h2, Bool.false_eq_true, if_false]; rfl, ?_⟩
    rw [startTxn_idle] 
    all_goals simp [h3, h4, h5, h6, State.endPage]
  · intro s n h1 h2
    have hx : exec (.mmsBusStuck n) s = execMmsBusStuck n s := rfl
    simp [hx, execMmsBusStuck, h1, h2]

end Sys2Proof.Machine
end

section
/-! PROOFS. Commands on modules and burst memory. -/
namespace Sys2Proof.Machine
-- One theorem after the other: side by side, their threads outgrow the memory of the check.
set_option Elab.async false

/-- Settles O5: each command by its checks, in order. -/
theorem moduleCommands : Obligations.ModuleCommands := by
  unfold Obligations.ModuleCommands
  refine ⟨?_, ?_, ?_, ?_, ?_, ?_, ?_, ?_, ?_⟩
  · intro s mb c n p b o k h hn hp hb ho hk hk' hok hh
    refine next_wait h ?_
    have hk0 : k ≠ 0 := by omega
    simp [Nat.not_le.2, hn, hp, hb, ho, hk0, Nat.not_lt.2, hk', hok, hh]
  · intro s mb c n p b o d h hn hp hb ho hd hl hod hh ht
    refine next_wait h ?_
    have ht' : treeEnabled (begun s mb c) n = false := ht
    simp [Nat.not_le.2 hn, Nat.not_le.2 hp, Nat.not_le.2 hb, Nat.not_le.2 ho, hd, Nat.not_lt.2 hl, Nat.not_lt.2 hod, hh, ht']
  · intro s mb c n h hn hs hl
    refine next_wait h ?_
    have ht : rssiTarget (begun s mb c) (s.term n) = true := by simp [rssiTarget, hs, hl]
    simp [Nat.not_le.2 hn, hs, ht]
  · intro s mb c n h hn hv
    refine next_done h ?_
    simp [Nat.not_le.2 hn, hv, okay]
  · intro s mb c n h hn hv e
    refine next_done h ?_
    have hb : ¬ 8192 ≤ n := by omega
    simp [hb, hv, okay, State.seedBm, State.writeBm, toSeed, e]
  · intro s mb c n h hn
    refine next_done h ?_
    simp [hn, fail]
  · intro s mb c n h hn hv
    refine next_done h ?_
    simp [hn, hv, fail]
  · intro s mb c n h hn hv
    refine next_done h ?_
    simp [hn, hv, fail]
  · intro s mb c n p b o d h hn hp hb ho hd hl hod ht hx
    refine next_done h ?_
    have ht' : treeEnabled (begun s mb c) n = true := ht
    simp [hn, hp, hb, ho, hd, hl, hod, ht', hx, fail]

end Sys2Proof.Machine
end

section
/-! PROOFS. Frame starts, references and fragment boundaries. -/
namespace Sys2Proof.Machine
-- One theorem after the other: side by side, their threads outgrow the memory of the check.
set_option Elab.async false

/-! ### The timeline at a frame start (R91) -/

/-- The alignment test keeps where the timeline stands. -/
theorem alignTest_tl (s : State) (g : Nat) : (s.alignTest g).pon.tl.sfc = s.pon.tl.sfc ∧ (s.alignTest g).pon.tl.next = s.pon.tl.next ∧
    (s.alignTest g).pon.tl.startAt = s.pon.tl.startAt := by
  unfold State.alignTest
  extract_lets e tl n due u
  split <;> exact ⟨rfl, rfl, rfl⟩

/-- What a frame start does before the channels start the frame. -/
def readyFrame (s : State) (g : Nat) : State := ((((s.alignTest g).setRo .SFC_NOW 0 g).firstFrames.releasePulses).switchKeys g).commitForced

theorem readyFrame_tl (s : State) (g : Nat) : (readyFrame s g).pon.tl = (s.alignTest g).pon.tl := by
  unfold readyFrame
  rw [(commitForced_only _).same (·.pon.tl), (switchKeys_only ..).same (·.pon.tl), (releasePulses_only _).same (·.pon.tl),
    (firstFrames_only _).same (·.pon.tl), (setRo_only ..).same (·.pon.tl)]

theorem exec_frameStart {s : State} {g : Nat} (h : s.pon.tl.next = some g) : ∃ u, u = readyFrame
      { s with pon.tl.sfc := g, pon.tl.next := some ((g + 1) % 2 ^ 51), pon.tl.startAt := s.up } g ∧
    exec .frameStart s = .next ((liveChannels u).foldl (fun s c => s.frameOf g c) u) := by
  have hx : exec .frameStart s = execFrameStart s := rfl
  exact ⟨_, rfl, by simp only [hx, execFrameStart, h]; rfl⟩

/-! ### An express SDU in clear (R102, R103) -/

theorem sendXgem_fits {s : State} {c : Nat} {x : DsSdu} {n : Nat} (h : n + 8 ≤ (s.chan c).framer.space) (i at_ : Nat) (last : Bool) :
    (s.sendXgem c x i none at_ n last).outbox = s.outbox ++ [.xgem c (s.gem x.gem).port i (frameInfo c - 4 - (s.chan c).framer.space)
      x.frame.id at_ n last ((x.frame.bytes.drop at_).take n)] := by
  have hf : ∀ (b : Bool) (u : State), (if b then u.freeFrame 10 x.frame else u).outbox = u.outbox := by
    intro b u
    cases b
    · rfl
    · exact (freeFrame_only ..).same State.outbox
  unfold State.sendXgem
  rw [if_pos h, hf]
  rfl

/-- The SDU at the head of the express queue leaves first. -/
theorem nextXgem_express {s : State} {c : Nat} {x : DsSdu} {l : List DsSdu} (hc : (s.chan c).framer.carry = none)
    (hx : (s.chan c).framer.express = x :: l) (hk : (s.gem x.gem).cipher = 0) (n : Nat) :
    ∃ u : State, State.nextXgem (n + 1) s c = u.sendXgem c x 0 none 0 x.frame.len true ∧ u.outbox = s.outbox ∧
      (u.chan c).framer.space = (s.chan c).framer.space ∧ u.gem x.gem = s.gem x.gem := by
  simp only [State.nextXgem, hc, hx, sduKey, hk]
  refine ⟨_, rfl, rfl, ?_, rfl⟩
  simp

/-- Settles O6: each row by its equation; the frame start and the express SDU by the lemmas above. -/
theorem framingRows : Obligations.FramingRows := by
  unfold Obligations.FramingRows
  refine ⟨?_, ?_, ?_, ?_, ?_, ?_, ?_, ?_, ?_⟩
  · intro s g h
    obtain ⟨u, hu, hx⟩ := exec_frameStart h
    obtain ⟨h1, h2, h3⟩ := alignTest_tl { s with pon.tl.sfc := g, pon.tl.next := some ((g + 1) % 2 ^ 51), pon.tl.startAt := s.up } g
    refine ⟨u, ?_, ?_, ?_, hx⟩
    · rw [hu, readyFrame_tl]
      exact h1
    · rw [hu, readyFrame_tl]
      exact h2
    · rw [hu, readyFrame_tl]
      exact h3
  · intro s h
    have hx : exec .frameStart s = execFrameStart s := rfl
    simp only [hx, execFrameStart, h]
  · intro s h0 h1 hs
    have hx : exec (.ponRefLoss 0) s = execPonRefLoss 0 s := rfl
    simp [hx, execPonRefLoss, h0, h1, hs, State.setRef]
  · intro s he h0 h1
    have hx : exec .ethRefLoss s = execEthRefLoss s := rfl
    simp [hx, execEthRefLoss, he, h0, h1]
  · exact fun _ => rfl
  · intro s h0 h1 hs hd
    have hx : exec (.refReturn 1) s = execRefReturn 1 s := rfl
    simp [hx, execRefReturn, h0, h1, hs, hd, State.setRef]
  · intro s c x l hc he hi hs hk hf
    obtain ⟨u, hu, ho, hsp, hg⟩ := nextXgem_express hc he hk ((s.chan c).framer.express.length + (s.chan c).framer.round.length + 2)
    have hx : exec (.fragmentBoundary c 0) s = execFragmentBoundary c 0 s := rfl
    have h0 : ¬ ((s.chan c).framer.space = 0 || !sends s c) = true := by simp [hs]; omega
    refine ⟨u.sendXgem c x 0 none 0 x.frame.len true, ?_, ?_⟩
    · rw [hx, execFragmentBoundary]
      simp only [if_true, if_neg h0, hi, Bool.false_eq_true, if_false]
      exact congrArg Host.Outcome.next hu
    · rw [sendXgem_fits (by rw [hsp]; exact hf), ho, hsp, hg, List.drop_zero]
  · intro s c h
    have hx : exec (.channelStop c) s = execChannelStop c s := rfl
    exact ⟨_, by simp only [hx, execChannelStop, h], rfl⟩
  · intro c
    by_cases h : c % 2 = 0 <;> simp [frameBytes, frameCodewords, lineRate, h]

end Sys2Proof.Machine
end

section
/-! PROOFS. Edges and messages of device time. -/
namespace Sys2Proof.Machine
-- One theorem after the other: side by side, their threads outgrow the memory of the check.
set_option Elab.async false

/-! ### Acquiring (R114) -/

/-- An error within the step limit is slewed away. -/
theorem correct_slew {s : State} {x n : Nat} (h : ((x : Int) - n * sec9).natAbs ≤ s.getN .TOD_STEP_LIMIT) :
    (s.correct x n).pon.tod.slew = -((x : Int) - n * sec9) * 2 ^ 32 ∧ (s.correct x n).pon.tod.good = s.pon.tod.good := by
  unfold State.correct
  extract_lets e _ _ _ v
  have hv : v.getN .TOD_STEP_LIMIT = s.getN .TOD_STEP_LIMIT := by
    rw [(withTod_only ..).same (·.getN .TOD_STEP_LIMIT), (setRo_only s .TOD_PHASE_ERR 0 e).same (·.getN .TOD_STEP_LIMIT)]
  rw [hv, if_pos h]
  exact ⟨rfl, rfl⟩

/-- Before the third good edge in a row the state stays. -/
theorem goodEdge_few {s : State} (h : s.pon.tod.good = 0) (e : Int) (n : Nat) :
    (s.goodEdge e n).pon.tod.state = s.pon.tod.state ∧ (s.goodEdge e n).pon.tod.slew = s.pon.tod.slew := by
  have hn : (if e.natAbs ≤ 100 then s.pon.tod.good + 1 else 0) ≤ 1 := by
    split <;> omega
  unfold State.goodEdge
  extract_lets k _ _ u
  have hk : ¬ (u.pon.tod.state = .acquiring && 3 ≤ k) = true := by
    simp only [Bool.and_eq_true, decide_eq_true_eq, not_and]
    omega
  rw [if_neg hk]
  exact ⟨rfl, rfl⟩

theorem setTod_tod (s : State) (v : TodState) : (s.setTod v).pon.tod.state = v ∧ (s.setTod v).pon.tod.good = s.pon.tod.good ∧
    (s.setTod v).pon.tod.slew = s.pon.tod.slew := ⟨rfl, rfl, rfl⟩

theorem startAcquiring_slews {s : State} {x n : Nat} (h : ((x : Int) - n * sec9).natAbs ≤ s.getN .TOD_STEP_LIMIT) :
    (s.startAcquiring x n).pon.tod.state = .acquiring ∧ (s.startAcquiring x n).pon.tod.slew = -((x : Int) - n * sec9) * 2 ^ 32 := by
  unfold State.startAcquiring
  extract_lets _ _ u
  have hu : u.getN .TOD_STEP_LIMIT = s.getN .TOD_STEP_LIMIT := (withTod_only ..).same (·.getN .TOD_STEP_LIMIT)
  have h0 : u.pon.tod.good = 0 := rfl
  clear_value u
  obtain ⟨hs, hg⟩ := correct_slew (s := u) (hu ▸ h)
  obtain ⟨h1, h2⟩ := goodEdge_few (s := (u.correct x n).setTod .acquiring) ((setTod_tod ..).2.1.trans (hg.trans h0)) ((x : Int) - n * sec9) n
  rw [h1, h2, (setTod_tod ..).1, (setTod_tod ..).2.2]
  exact ⟨rfl, hs⟩

/-- Settles O7: the first named edge by what acquiring does, each other row by its equation. -/
theorem deviceTimeRows : Obligations.DeviceTimeRows := by
  unfold Obligations.DeviceTimeRows
  refine ⟨?_, ?_, ?_, ?_, ?_, ?_, ?_⟩
  · intro s x n hr hs hn e he
    have hx : exec (.ppsEdge x (s.getN .TOD_PPS_POLARITY == 0)) s = execPpsEdge x (s.getN .TOD_PPS_POLARITY == 0) s := rfl
    obtain ⟨h1, h2⟩ := startAcquiring_slews (s := { s with pon.tod.slewMax := s.getN .TOD_SLEW_MAX }) he
    exact ⟨_, by simp [hx, execPpsEdge, hr, hs, hn], h1, h2⟩
  · intro s x hr hs hn
    have hx : exec (.ppsEdge x (s.getN .TOD_PPS_POLARITY == 0)) s = execPpsEdge x (s.getN .TOD_PPS_POLARITY == 0) s := rfl
    simp [hx, execPpsEdge, hr, hs, hn]
  · intro s x
    have hx : exec (.ppsEdge x (!(s.getN .TOD_PPS_POLARITY == 0))) s = execPpsEdge x (!(s.getN .TOD_PPS_POLARITY == 0)) s := rfl
    simp [hx, execPpsEdge]
  · intro s hs hm
    have hx : exec .ppsEdgeMissing s = execPpsEdgeMissing s := rfl
    simp [hx, execPpsEdgeMissing, hs, hm, State.setTod]
  · intro s hs hm
    have hx : exec .ppsEdgeMissing s = execPpsEdgeMissing s := rfl
    simp [hx, execPpsEdgeMissing, hs, hm]
  · intro s bs e hr hl h0 h1 hc he hlo hhi hv hf hs
    have hx : exec (.todMessage bs) s = execTodMessage bs s := rfl
    simp [hx, execTodMessage, hr, hl, h0, h1, hc, he, hlo, hhi, hv, hf, hs]
  · intro s bs hr hl h0 h1 hc
    have hx : exec (.todMessage bs) s = execTodMessage bs s := rfl
    simp [hx, execTodMessage, hr, hl, h0, h1, hc, State.todError]

end Sys2Proof.Machine
end

section
/-! PROOFS. Commands of the tree channels. -/
namespace Sys2Proof.Machine
-- One theorem after the other: side by side, their threads outgrow the memory of the check.
set_option Elab.async false

/-- A message queued keeps when a channel is due to be enabled. -/
theorem queuePloam_enableAt (s : State) (c : Nat) (u : Bool) (m : PloamMsg) (k : Nat) :
    ((s.queuePloam c u m).chan k).enableAt = (s.chan k).enableAt := by
  unfold State.queuePloam
  extract_lets v q m
  have hs : ∀ w : ChanState, w.enableAt = v.enableAt → ((s.setChan c w).chan k).enableAt = (s.chan k).enableAt := by
    intro w hw
    rw [chan_setChan]
    split
    · subst k
      exact hw
    · rfl
  split
  · rfl
  · split
    · exact hs _ rfl
    · split <;> exact hs _ rfl

theorem foldl_queuePloam_enableAt (c k : Nat) (f : Nat → PloamMsg) (l : List Nat) (s : State) :
    ((l.foldl (fun s t => s.queuePloam c true (f t)) s).chan k).enableAt = (s.chan k).enableAt := by
  induction l generalizing s with
  | nil => rfl
  | cons t l ih => exact (ih _).trans (queuePloam_enableAt ..)

/-- Settles O8: each command by its checks, in order. -/
theorem channelCommands : Obligations.ChannelCommands := by
  unfold Obligations.ChannelCommands
  refine ⟨?_, ?_, ?_, ?_, ?_, ?_⟩
  · intro s mb c n h hn he
    refine next_done h ?_
    simp [Nat.not_le.2 hn, he, okay]
  · intro s mb c n h hn he ht hp hr hf
    have hb : ¬ 64 ≤ n := by omega
    have ht' : channelUnderTest (begun s mb c) n = false := ht
    refine ⟨_, next_wait h (by simp [hb, he, ht', hp, hr, hf]; rfl), ?_⟩
    rw [foldl_queuePloam_enableAt]
    simp
  · intro s mb c n h hn he hf ht
    have ht' : termsOf (begun s mb c) n (fun t => t.state == .operation) = [] := ht
    refine next_wait h ?_
    simp [Nat.not_le.2 hn, he, hf, ht']
  · intro s mb c n h hn he hf ht
    have ht' : termsOf (begun s mb c) n (fun t => t.state == .operation) ≠ [] := ht
    refine next_done h ?_
    simp [hn, he, hf, ht', fail]
  · intro s mb c h
    exact next_done h rfl
  · intro s mb c n h hn he hf hs
    have hs' : sends (begun s mb c) n = true := hs
    refine next_wait h ?_
    simp [Nat.not_le.2 hn, he, hf, hs']

end Sys2Proof.Machine
end

section
/-! PROOFS. Discovery, ranging, drift and loss of burst. -/
namespace Sys2Proof.Machine
-- One theorem after the other: side by side, their threads outgrow the memory of the check.
set_option Elab.async false

/-- What a hunt counts keeps the collisions. -/
theorem huntCounts_collisions (s : State) (c : Nat) (o : HuntOut) : (s.huntCounts c o).ro .DISC_COLLISIONS c = s.ro .DISC_COLLISIONS c := by
  unfold State.huntCounts
  extract_lets u v
  have hf : ∀ (l : List Nat) (w : State), Only (fun s t => { s with ev.transit := t.ev.transit, ev.rate := t.ev.rate }) w (l.foldl (fun s _ =>
      s.raiseSec .DELIM_CAND_OVERFLOW (rxLane c) (srcChan c 12) (regionOfChan c) (fun n => evData [(7, rxLane c)] n)) w) := fun l w =>
    .foldl .base fun _ _ => .step .base (raiseSec_only ..)
  rw [(hf _ _).same (·.ro .DISC_COLLISIONS c), bump_ro_ne (pkey_ne (by decide) c), bumpF_ro_ne (pkey_ne (by decide) c)]

/-- A new answer of an ABSENT terminal of the channel acquires it (R132). -/
theorem answerOf_absent {s : State} {c sn r a t o : Nat} (hs : findSerial s sn = some t) (hc : (s.term t).chan = c) (hd : (s.term t).deact = none)
    (hst : (s.term t).state = .absent) (hb : (s.term t).blocked = false) (hre : (s.term t).readmit = none)
    (hrate : (s.term t).onlyRate = none) (ho : pickOnu s t = some o) : s.answerOf c sn r a = s.acquire t o r a := by
  simp [State.answerOf, hs, hc, hd, hst, hb, hre, hrate, ho]

theorem not_free_of_burstHeld {v : Terminal} (h : burstHeld v = true) : v.state ≠ .free := by
  intro hf
  simp [burstHeld, hf] at h

/-- Settles O9: each row by its equation, its reads past what a hunt counts by that frame. -/
theorem activationRows : Obligations.ActivationRows := by
  unfold Obligations.ActivationRows
  refine ⟨fun _ _ => rfl, ?_, ?_, ?_, ?_, ?_, ?_, ?_, ?_, ?_, ?_, ?_, ?_, ?_, ?_, ?_⟩
  · intro s c he hr
    refine congrArg Host.Outcome.next ((if_pos (by simp [he, hr])).trans ?_)
    unfold State.broadcastProfiles profileSet
    rw [← List.flatMap_def, List.foldl_flatMap]
    rfl
  · intro s c w l sn mic a hw hf
    have hx : exec (.snAnswer c l sn mic a) s = execSnAnswer c l sn mic a s := rfl
    refine ⟨(s.huntCounts c (huntInterval s c onuAll w l)).bump .DISC_COLLISIONS c, ?_, ?_⟩
    · simp [hx, execSnAnswer, hw, hf]
    · rw [bump_ro_self, huntCounts_collisions]
  · intro s c w l sn a t o hw hr hf hrun hs hc hd hst hb hre hrate ho
    have hx : exec (.snAnswer c l sn (Config.ploamCode none [sn]) a) s = execSnAnswer c l sn (Config.ploamCode none [sn]) a s := rfl
    have hu := huntCounts_only s c (huntInterval s c onuAll w l)
    have ha : (s.huntCounts c (huntInterval s c onuAll w l)).answerOf c sn w.rate a =
        (s.huntCounts c (huntInterval s c onuAll w l)).acquire t o w.rate a := by
      rw [← hu.same (State.term · t)] at hc hd hst hb hre hrate
      exact answerOf_absent ((hu.same (findSerial · sn)).trans hs) hc hd hst hb hre hrate ((hu.same (pickOnu · t)).trans ho)
    simp [hx, execSnAnswer, hw, hf, hr, hu.same (runs · (c.val / 2)), hrun, ha]
  · intro s n w l m id x c hw hf hst hd hres hrun hout
    have hx : exec (.registrationBurst n l m id x (Config.ploamCode none (id.map (·.toNat)))) s = execRegistrationBurst n l m id x (Config.ploamCode none (id.map (·.toNat))) s := rfl
    have hu := huntCounts_only s c (huntInterval s c ((s.term n).onu.getD onuAll) w l)
    have hn : ¬ ((s.term n).state != .ranging || (s.term n).deact.isSome || (s.term n).result.isSome ||
        !runs (s.huntCounts c (huntInterval s c ((s.term n).onu.getD onuAll) w l)) (c / 2) ||
        (huntInterval s c ((s.term n).onu.getD onuAll) w l).found.isNone ||
        Config.ploamCode none (id.map (·.toNat)) != Config.ploamCode none (id.map (·.toNat))) = true := by
      simp [hst, hd, hres, hu.same (runs · (c / 2)), hrun, hf]
    have hw' : begunWindow s (s.term n).chan (.ranging n) = some w := hw
    simp only [hx, execRegistrationBurst, hw']
    refine ⟨_, _, congrArg Host.Outcome.next ((if_neg hn).trans (if_neg (ne_true_of_eq_false hout))), ?_⟩
    rw [term_setTerm_self, (setTerm_only ..).same (teqdPs · c), hu.same (teqdPs · c)]
  · intro s n hst hd hres hrun ho ha
    have hx : exec (.rangingWindowMiss n false) s = execRangingWindowMiss n false s := rfl
    simp [hx, execRangingWindowMiss, hst, hd, hres, hrun, ho, Nat.not_le.2 ha]
  · intro s n hst hd hres
    have hx : exec (.rangingWindowMiss n true) s = execRangingWindowMiss n true s := rfl
    simp [hx, execRangingWindowMiss]
  · intro s n hst hd hres hrun
    exact congrArg Host.Outcome.next (if_pos (by simp [hst, hd, hres, hrun]))
  · intro s n u hu ha hrun
    have hx : exec (.driftSettleExpiry n) s = execDriftSettleExpiry n s := rfl
    simp [hx, execDriftSettleExpiry, hu, ha, hrun]
  · intro s n u hu ha hrun
    have hx : exec (.driftSettleExpiry n) s = execDriftSettleExpiry n s := rfl
    simp [hx, execDriftSettleExpiry, hu, ha, hrun]
  · intro s n hst hrun
    exact congrArg Host.Outcome.next (if_pos (by simp [hst, hrun]))
  · intro s c o
    exact ⟨_, rfl, by simp⟩
  · intro s n f h
    have hx : exec (.burstWriteBack n f) s = execBurstWriteBack n f s := rfl
    simp [hx, execBurstWriteBack, h]
  · intro s n x f h hh hr
    have hx : exec (.burstWriteBack n f) s = execBurstWriteBack n f s := rfl
    have hc := carryFinal_only s (rxLane (s.term n).chan) n (finalState (some x) f)
    refine ⟨(s.carryFinal (rxLane (s.term n).chan) n (finalState (some x) f)).writeState n x (finalState (some x) f), ?_, ?_⟩
    · simp [hx, execBurstWriteBack, h, hh, not_free_of_burstHeld hh, hc.same (recovering · (s.term n).chan), hr]
    · simp [State.writeState, State.writeBm, learned, hc.same (State.bm · n)]
  · intro s n x f h hh hr u
    have hx : exec (.burstWriteBack n f) s = execBurstWriteBack n f s := rfl
    have hc := carryFinal_only s (rxLane (s.term n).chan) n (finalState (some x) f)
    simp [hx, execBurstWriteBack, h, hh, not_free_of_burstHeld hh, hc.same (recovering · (s.term n).chan), hr, u]
  · intro s c l sn mic a h
    have hx : exec (.snAnswer c l sn mic a) s = execSnAnswer c l sn mic a s := rfl
    simp [hx, execSnAnswer, h]

end Sys2Proof.Machine
end

section
/-! PROOFS. Rogue investigations and unknown serial numbers. -/
namespace Sys2Proof.Machine
-- One theorem after the other: side by side, their threads outgrow the memory of the check.
set_option Elab.async false

@[simp] theorem rogue_setRogue_self (s : State) (c : Nat) (r : Rogue) : (s.setRogue c r).rogue c = r :=
  congrArg ChanState.rogue (chan_setChan_self ..)

theorem endRogue_rogue (s : State) (c : Nat) (u v : Bool) (l : List Suspect) :
    ((s.endRogue c u v l).rogue c).phase = 0 ∧ ((s.endRogue c u v l).rogue c).suspects = l := by
  have h : ∀ (x : Bool) (t : State) (k : EvKind) (a r d : Nat), (if x then t.raise k a r d else t).rogue c = t.rogue c := by
    intro x t k a r d
    cases x <;> rfl
  unfold State.endRogue
  dsimp only
  rw [h, rogue_setRogue_self]
  exact ⟨rfl, rfl⟩

/-- Settles O10: each row by its equation; what an ended investigation leaves by `endRogue_rogue`. -/
theorem rogueRows : Obligations.RogueRows := by
  unfold Obligations.RogueRows
  refine ⟨?_, ?_, ?_, ?_, ?_, fun _ _ => rfl, ?_, ?_, ?_, ?_, ?_⟩
  · intro s c w l n hp hl
    refine ⟨_, rfl, ?_⟩
    unfold State.rogueObserve
    extract_lets r o _ collected u
    have h0 : decide (r.phase = 0) = false := by simp [r, hp]
    rw [if_neg (by simp [h0]), rogue_setRogue_self]
    simp [collected, o, r, hp, hl]
  · intro s c x hp hf
    have hx : exec (.rogueCorrelationEnd c) s = execRogueCorrelationEnd c s := rfl
    refine ⟨_, by simp only [hx, execRogueCorrelationEnd, hp, hf]; rfl, ?_⟩
    obtain ⟨h1, h2⟩ := endRogue_rogue s c false false [{ x with trailing := true }]
    exact ⟨h1, h2, _, rfl, rfl⟩
  · intro s c n hp light
    have hx : exec (.rogueProbeResult c light) s = execRogueProbeResult c light s := rfl
    simp [hx, execRogueProbeResult, hp]
  · intro s c hp hl hs h0
    have hx : exec (.rogueBisectionStep c) s = execRogueBisectionStep c s := rfl
    simp [hx, execRogueBisectionStep, hp, hl, hs, h0]
  · intro s n k o hr ho hs hst
    have hx : exec (.readmissionAnswer n) s = execReadmissionAnswer n s := rfl
    simp [hx, execReadmissionAnswer, State.answerReadmission, hr, ho, hs, hst]
  · intro s mb c n h hn hp he hr hc
    have hr' : runs (begun s mb c) (n / 2) = true := hr
    have hp' : ((begun s mb c).rogue n).phase = 0 := hp
    refine next_done h ?_
    have hb : ¬ 64 ≤ n := Nat.not_le.2 hn
    simp [hb, hp', he, hr', Nat.not_le.2 hc, okay]
  · intro s mb c n h hn
    refine next_done h ?_
    exact (if_neg (by omega)).trans rfl
  · intro s mb c n h hn hp
    have hp' : ((begun s mb c).rogue n).phase = 0 := hp
    refine next_done h ?_
    simp [Nat.not_le.2 hn, hp', okay]
  · intro s mb c n h hn hp
    have hp' : ((begun s mb c).rogue n).phase ≠ 0 := hp
    exact ⟨_, next_done h ((if_neg (Nat.not_le.2 hn)).trans (if_neg hp')), (endRogue_rogue ..).1⟩
  · intro s mb c n h hn
    refine next_done h ?_
    exact (if_neg (by omega)).trans rfl

end Sys2Proof.Machine
end

section
/-! PROOFS. Commands of the terminals. -/
namespace Sys2Proof.Machine
-- One theorem after the other: side by side, their threads outgrow the memory of the check.
set_option Elab.async false

/-- A command of a terminal that exists and makes no step acts. -/
theorem onTerm_acts {s : State} {n : Nat} (hn : n < 8192) (hs : (s.term n).state ≠ .free) (hst : stepping s n = false) (mb : Fin 16) (c : Cmd)
    (f : State → State × Reply) : onTerm (begun s mb c) n f = f (begun s mb c) :=
  (if_neg (Nat.not_le.2 hn)).trans ((if_neg hs).trans (if_neg (ne_true_of_eq_false hst)))

theorem onTerm_holds {s : State} {n : Nat} (hn : n < 8192) (hs : (s.term n).state ≠ .free) (hst : stepping s n = true) (mb : Fin 16) (c : Cmd)
    (f : State → State × Reply) : onTerm (begun s mb c) n f = (begun s mb c, .hold (.termStep n)) :=
  (if_neg (Nat.not_le.2 hn)).trans ((if_neg hs).trans (if_pos hst))

/-- Settles O11: each command by its checks, in order. -/
theorem terminalCommands : Obligations.TerminalCommands := by
  unfold Obligations.TerminalCommands
  refine ⟨?_, ?_, ?_, ?_, ?_, ?_, ?_, ?_, ?_, ?_⟩
  · intro s mb c n k sn a g h hn hk hsn ha hg hst hf hal hge hkeys ht hr hra hrg v
    refine next_done h ?_
    have hb : (decide (8192 ≤ n) || decide (64 ≤ k) || decide (32768 ≤ a) || decide (131072 ≤ g) || decide (2 ^ 64 ≤ sn) ||
        (decide (1022 < 0xFFFF) && 0xFFFF != 0xFFFF)) = false := by
      simp [hn, hk, ha, hg]
      omega
    have hu : ((s.term n).state != .free || (findSerial s sn).isSome || (0xFFFF != 0xFFFF && (onuTaken s k 0xFFFF n || (gemOfPort s k 0xFFFF).isSome))
        || (s.alloc a).valid || (s.gem g).valid
        || !(s.terms.keys (fun _ v => v.state != .free && (v.defAlloc == a || v.omciGem == g))).isEmpty) = false := by
      simp [hst, hf, hal, hge, hkeys]
    have hroom : (decide (512 ≤ treeTerms s (k / 2)) || decide (2048 ≤ regionTerms s (k / 8)) || decide (8192 ≤ regionAllocs s (k / 8)) ||
        decide (32768 ≤ regionGems s (k / 8))) = false := by
      simp [ht, hr, hra, hrg]
    exact (if_neg (ne_true_of_eq_false hb)).trans ((if_neg (ne_true_of_eq_false hu)).trans (if_neg (ne_true_of_eq_false hroom)))
  · intro s mb c n h hn hs hst ho
    refine next_done h ((onTerm_acts hn (by simp [hs]) hst mb c _).trans ?_)
    have ho' : otherMaps (begun s mb c) n = false := ho
    simp [ho', hs, isActive, inService, okay]
  · intro s mb c n h hn hs hst hd
    refine next_wait h ((onTerm_acts hn (by simp [hs]) hst mb c _).trans ?_)
    simp [hs, isActive, inService, hd]
  · intro s mb c n h hn hs hst
    refine next_done h ((onTerm_acts hn (by simp [hs]) hst mb c _).trans ?_)
    simp [hs, isActive, inService, okay]
  · intro s mb c n h hn hf hd hst t ht
    refine next_wait h ((onTerm_acts hn hf hst mb c _).trans ((if_neg ?_).trans (if_pos ht)))
    simp [hd]
  · intro s mb c n h hn hs hst k t t' ht
    refine next_wait h ((onTerm_acts hn (by simp [hs]) hst mb c _).trans ((if_neg ?_).trans (if_pos ht)))
    simp [hs]
  · intro s mb c n h hn hs
    exact next_done h ((if_neg (Nat.not_le.2 hn)).trans (if_neg hs))
  · intro s mb c n h hn hi hst t
    have hs : (s.term n).state ≠ .free := by
      intro hf
      simp [inService, hf] at hi
    refine next_done h ((onTerm_acts hn hs hst mb c _).trans ?_)
    have hi' : inService { s.term n with blocked := false } = true := hi
    simp [hi', okay, t]
  · intro s mb c n hc hw hs
    have hx : exec (.commandStepWaitTimeout mb) s = execCommandStepWaitTimeout mb s := rfl
    simp [hx, execCommandStepWaitTimeout, hc, hw, hs]
  · intro s mb c n h hn hs hst
    exact next_hold h (onTerm_holds hn hs hst mb c _)

end Sys2Proof.Machine
end

section
/-! PROOFS. Commands that bind allocation and GEM indexes. -/
namespace Sys2Proof.Machine
-- One theorem after the other: side by side, their threads outgrow the memory of the check.
set_option Elab.async false

/-- What ALLOC_UNMAP leaves of an index (R173). -/
def unmapped (v : Alloc) : Alloc :=
  { clearDemand v with
      valid := false, contract := {}, nextContract := none, ledger := clampLedger ({} : Contract) v.ledger, chan := 0, allocId := 0,
      dflt := false, term := 0 }

/-- Settles O12: each command by its checks, in order. -/
theorem mapCommands : Obligations.MapCommands := by
  unfold Obligations.MapCommands
  refine ⟨?_, ?_, ?_, ?_, ?_, ?_, ?_, ?_, ?_, ?_⟩
  · intro s mb c a k id n h ha hk hlo hhi hn hs hc hst hv hd hkeys hr e t
    have hb : (decide (32768 ≤ a) || decide (64 ≤ k) || decide (id < 1024) || decide (16383 < id)) = false := by
      simp [ha, hk, hlo, hhi]
    have hu : ((s.alloc a).valid || defaultOfSome s a ||
        !(s.dba.allocs.keys (fun _ v => v.valid && v.chan == k && v.allocId == id)).isEmpty) = false := by
      simp [hv, hd, hkeys]
    refine next_done h ((if_neg (ne_true_of_eq_false hb)).trans ((onTerm_acts hn hs hst mb c _).trans ((if_neg ?_).trans ((if_neg
      (ne_true_of_eq_false hu)).trans (if_neg (Nat.not_le.2 hr))))))
    simp [hc]
  · intro s mb c a h ha hd hv hst
    refine ⟨((begun s mb c).putAlloc a { clearDemand (s.alloc a) with
        valid := false, contract := {}, nextContract := none, ledger := clampLedger ({} : Contract) (s.alloc a).ledger }).setAlloc a (unmapped (s.alloc a)), next_done h ?_, ?_⟩
    · rw [alloc_setAlloc_self]
      exact (if_neg (Nat.not_le.2 ha)).trans ((if_neg (ne_true_of_eq_false hd)).trans ((if_neg (by simp [hv])).trans (if_neg
        (ne_true_of_eq_false hst))))
    · rw [alloc_setAlloc_self]
      exact ⟨rfl, rfl, rfl, rfl⟩
  · intro s mb c g e h hg hm hv f hcheck ho hp ht hr htp
    refine next_done h ?_
    have hf : ({ e with valid := true, dropped := 0, term := if e.mcast then 0 else e.term } : GemEntry) = f := by
      simp [hm, f]
    refine (if_neg (Nat.not_le.2 hg)).trans ?_
    have hu : ((s.gem g).valid || omciOfSome s g || (gemOfPort s f.chan f.port).isSome ||
        !(termsOf s f.chan (fun v => v.wantOnu == some f.port && v.onu != some f.port)).isEmpty) = false := by
      simp [f, hv, ho, hp, ht]
    have hn : (decide (32768 ≤ regionGems s (regionOfChan f.chan)) || !tapesOk ((begun s mb c).setGem g f) (regionOfChan f.chan)) = false := by
      simp [f, htp]
      exact hr
    rw [hf]
    simp only [begun_reads, show f.term = 0 from rfl, hcheck]
    exact (if_neg (by simp [f, hm])).trans ((if_neg (ne_true_of_eq_false hu)).trans (if_neg (ne_true_of_eq_false hn)))
  · intro s mb c g h hg ho hv hm t
    have ho' : omciOfSome (begun s mb c) g = false := ho
    refine next_done h ((if_neg (Nat.not_le.2 hg)).trans ?_)
    simp [ho', hv, hm, okay, t]
  · intro s mb c a k h ha hk hv e
    refine next_done h ?_
    simp [Nat.not_le.2 ha, hk, hv, okay, e, contractWords]
  · intro s mb c a h ha
    exact next_done h (if_neg (Nat.not_le.2 ha))
  · intro s mb c a h ha
    exact next_done h (if_neg (Nat.not_le.2 ha))
  · intro s mb c n h hn
    exact ⟨_, next_done h (if_neg (Nat.not_le.2 hn))⟩
  · intro s mb c a h ha l
    refine next_done h ((if_neg (Nat.not_le.2 ha)).trans ?_)
    simp [okay, l, bne]
  · intro s mb c h hne hl hm r hr
    refine next_done h ?_
    have hb : ((preannEntries c).isEmpty || decide (254 < (preannEntries c).length) || c.body.length % 16 != 0) = false := by
      simp [hne, hm, hl]
    refine (if_neg (ne_true_of_eq_false hb)).trans ?_
    simp [entriesCmd, entriesReply, hr, r]

end Sys2Proof.Machine
end

section
/-! PROOFS. Upstream bursts, codewords, messages, reports and defect windows. -/
namespace Sys2Proof.Machine
-- One theorem after the other: side by side, their threads outgrow the memory of the check.
set_option Elab.async false

/-- A word in a window that is open. -/
theorem countWord_ruled {w : BerWindow} (h : w.rule.isSome = true) (s : State) (c : Nat) (sf : Bool) (n k : Nat) :
    countWord s c sf w n k = { w with bits := w.bits + n, corrected := w.corrected + k } := by
  obtain ⟨r, hr⟩ := Option.isSome_iff_exists.1 h
  simp [countWord, hr]

/-- Settles O13: each row by its equation, its reads past what the reception changes by frames. -/
theorem upstreamRows : Obligations.UpstreamRows := by
  unfold Obligations.UpstreamRows
  refine ⟨?_, ?_, ?_, ?_, ?_, ?_, ?_, ?_, ?_, ?_⟩
  · intro s n b k hf hr hh hg c t
    have hx : exec (.upstreamBurst n b) s = execUpstreamBurst n b s := rfl
    have hrec : recovering t c = false := by
      simp only [t, (bump_only ..).same (recovering · c), (beginRx_only ..).same (recovering · c), (opticBurst_only ..).same (recovering · c),
        (huntCounts_only ..).same (recovering · c)]
      exact hr
    simp only [hx, execUpstreamBurst, hf, hh, hg, Bool.not_true, Bool.false_eq_true, if_false]
    exact congrArg (fun u : State => Host.Outcome.next (u.commissionBurst n b.feeder)) (if_neg (ne_true_of_eq_false hrec))
  · intro s n b hf hh
    have hx : exec (.upstreamBurst n b) s = execUpstreamBurst n b s := rfl
    obtain ⟨k, hk⟩ := Option.isSome_iff_exists.1 hf
    simp only [hx, execUpstreamBurst, hk, hh, Bool.not_false, if_true]
    refine ⟨_, rfl, ?_, ?_, ?_⟩
    · rw [chan_setChan_self, (opticBurst_only ..).same (State.chan · (s.term n).chan), (huntCounts_only ..).same (State.chan · (s.term n).chan)]
    · rw [(setChan_only ..).same State.terms, (opticBurst_only ..).same State.terms, (huntCounts_only ..).same State.terms]
    · rw [(setChan_only ..).same (State.line · n), (opticBurst_only ..).same (State.line · n), (huntCounts_only ..).same (State.line · n)]
  · intro s n l hf hr hh hl hp c t u
    have hx : exec (.delimiterMiss n l) s = execDelimiterMiss n l s := rfl
    have hu : Only (fun s t => { s with
        par.ro := t.par.ro, ev.transit := t.ev.transit, ev.rate := t.ev.rate, lanes.optics := t.lanes.optics, pon.line := t.pon.line,
        cipher.regions := t.cipher.regions }) s u :=
      .step (.step (.step (.step (.step .base (huntCounts_only ..)) (bumpF_only ..)) (opticBurst_only ..)) (setLine_only ..))
        (dropKeystream_only ..)
    have hrec : recovering u c = false := (hu.same (recovering · c)).trans hr
    have hpr : inProbe u c = false := (hu.same (inProbe · c)).trans hp
    have hn : ¬ (!burstHeld (s.term n) || recovering u c) = true := by simp [hh, hrec]
    have hm : (!(s.ln (rxLane c)).late && !inProbe u c) = true := by simp [c, hl, hpr]
    rw [← hm, hx, execDelimiterMiss]
    exact congrArg Host.Outcome.next ((if_neg (by simp [hf])).trans (if_neg hn))
  · intro s n info it errs x hx' hh hr hsd hsp hd k
    have hx : exec (.fecCodeword n info errs it) s = execFecCodeword n info errs it s := rfl
    have hok : (!(s.takeSpoiled 0 (rxLane (s.term n).chan)).1 && decodes (s.term n).chan (s.term n).rate errs it) = true := by simp [hsp, hd]
    have hrec : recovering ((s.takeSpoiled 0 (rxLane (s.term n).chan)).2.bump .US_FEC_CORR_BITS n (bitsSet errs)) (s.term n).chan = false :=
      ((bump_only ..).same (recovering · (s.term n).chan)).trans hr
    have hl : ((s.takeSpoiled 0 (rxLane (s.term n).chan)).2.bump .US_FEC_CORR_BITS n (bitsSet errs)).line n = s.line n := rfl
    refine ⟨_, by simp only [hx, execFecCodeword, hx', hh, hok, hrec, Bool.not_true, Bool.false_eq_true, if_false, if_true]; rfl, ?_⟩
    rw [line_setLine_self, hl, countWord_ruled hsd, (setLine_only ..).same (·.ro .US_FEC_CORR_BITS n), bump_ro_self]
    exact ⟨rfl, rfl, rfl, rfl⟩
  · intro s n info it errs x hx' hh hr hsd hbad k
    have hx : exec (.fecCodeword n info errs it) s = execFecCodeword n info errs it s := rfl
    have hok : (!(s.takeSpoiled 0 (rxLane (s.term n).chan)).1 && decodes (s.term n).chan (s.term n).rate errs it) = false := by
      simpa [Decidable.imp_iff_not_or] using hbad
    have hrec : recovering ((s.takeSpoiled 0 (rxLane (s.term n).chan)).2.bump .US_FEC_UNCORR n) (s.term n).chan = false :=
      ((bump_only ..).same (recovering · (s.term n).chan)).trans hr
    have hl : ((s.takeSpoiled 0 (rxLane (s.term n).chan)).2.bump .US_FEC_UNCORR n).line n = s.line n := rfl
    refine ⟨_, by simp only [hx, execFecCodeword, hx', hh, hok, hrec, Bool.not_true, Bool.false_eq_true, if_false]; rfl, ?_⟩
    rw [line_setLine_self, hl, countWord_ruled hsd, (setLine_only ..).same (·.ro .US_FEC_UNCORR n), bump_ro_self]
    exact ⟨rfl, rfl, rfl, rfl⟩
  · intro s n m mic a x hx' hh
    have hx : ∀ a, exec (.ploamuMessage n m mic a) s = execPloamuMessage n m mic a s := fun _ => rfl
    refine ⟨fun ht => ?_, fun ht hm => ?_, fun ht hm => ?_⟩
    · simp [hx, execPloamuMessage, hx', hh, ht]
    · have hb : (mic != Config.ploamCode (slotMsk s n) m) = true := by simp [hm]
      refine ⟨_, by simp only [hx, execPloamuMessage, hx', hh, ht, hb, Bool.not_true, Bool.false_eq_true, if_false, if_true]; rfl, ?_⟩
      rw [(raiseSec_only ..).same (State.line · n), (raiseSec_only ..).same State.terms, (raiseSec_only ..).same State.chans, line_setLine_self]
      exact ⟨rfl, rfl, rfl⟩
    · have hb : (mic != Config.ploamCode (slotMsk s n) m) = false := by simp [hm]
      simp only [hx, execPloamuMessage, hx', hh, ht, hb, Bool.not_true, Bool.false_eq_true, if_false]
  · intro s n a at_ w x hx' ht hv hc hw
    have hx : exec (.burstReport n a at_ true w) s = execBurstReport n a at_ true w s := rfl
    have hne : w ≠ 0xFFFFFF := by omega
    have hw' : w % 2 ^ 24 = w := Nat.mod_eq_of_lt (by omega)
    simp only [hx, execBurstReport, hx', hw']
    simp [ht, hv, hc, hne]
  · intro s n a at_ w crc x hx' ht
    have hx : exec (.burstReport n a at_ crc w) s = execBurstReport n a at_ crc w s := rfl
    refine ⟨_, by simp only [hx, execBurstReport, hx', ht, if_true], (bumpF_only ..).same State.dba, bumpF_ro_self ..⟩
  · intro s n x f ms r hrule hbits hon hj
    have hx : exec (.berWindowClose n true) s = execBerWindowClose n true s := rfl
    have hn : ¬ (decide ((s.line n).sf.bits < f * 10 ^ x) && decide (s.up - (s.line n).sf.opened < ms * msec)) = true := by
      simp [Nat.not_lt.2 hbits]
    refine ⟨_, by simp only [hx, execBerWindowClose, hrule, if_true, if_neg hn, hj, hon, beq_self_eq_true]; rfl, ?_⟩
    simp
  · intro s n x f ms r hrule hbits hon hj
    have hx : exec (.berWindowClose n false) s = execBerWindowClose n false s := rfl
    have hn : ¬ (decide ((s.line n).sd.bits < f * 10 ^ x) && decide (s.up - (s.line n).sd.opened < ms * msec)) = true := by
      simp only [Nat.not_lt.2 hbits, decide_false, Bool.and_false, Bool.false_eq_true, not_false_eq_true]
    have hne : (true == false) = false := rfl
    refine ⟨_, by simp only [hx, execBerWindowClose, hrule, Bool.false_eq_true, if_false, if_true, if_neg hn, hj, hon, hne]; rfl, ?_⟩
    simp

end Sys2Proof.Machine
end

section
/-! PROOFS. Delineation and reassembly of upstream frames. -/
namespace Sys2Proof.Machine
-- One theorem after the other: side by side, their threads outgrow the memory of the check.
set_option Elab.async false

/-- Two cells of one index in the reassembly table: a read sees the first, which is dead and holds a byte; the list of open SDUs sees the second, whose
next fragment has not come in time. -/
def twiceOpen : State :=
  { (default : State) with
      pon.reasm := [(0, some { max := 0, len := 0, bytes := [0], last := 0, dead := true }), (0, some { max := 0, len := 0, bytes := [], last := 0 })],
      time.up := 2 ^ 90 }

theorem reasm_keys_twiceOpen : twiceOpen.pon.reasm.keys (fun g o => match o with
    | some r => !r.dead && decide (twiceOpen.getN .REASM_TIMEOUT (twiceOpen.gem g).chan * 1000 < twiceOpen.up - r.last)
    | none => false) = [0] := by
  decide

theorem exec_reasmTimeoutExpiry_twiceOpen : exec .reasmTimeoutExpiry twiceOpen = .next twiceOpen :=
  (congrArg (fun l : List Nat => Host.Outcome.next (l.foldl State.dropReasm twiceOpen)) reasm_keys_twiceOpen).trans rfl

/-- Refutes O14: in a state whose reassembly table lists an index twice, the time-out finds the SDU of the second cell, and what it drops is that of the
first, whose bytes stay. -/
theorem not_delineationRows : ¬ Obligations.DelineationRows := by
  unfold Obligations.DelineationRows
  rintro ⟨-, -, -, -, -, -, h⟩
  obtain ⟨t, ht, hdropped⟩ := h twiceOpen
  rw [exec_reasmTimeoutExpiry_twiceOpen] at ht
  cases ht
  have hmem : 0 ∈ [0] := List.mem_singleton.2 rfl
  rw [← reasm_keys_twiceOpen] at hmem
  exact absurd (hdropped 0 hmem _ rfl).2 (by decide)

end Sys2Proof.Machine
end

section
/-! PROOFS. The solver run and grant maps. -/
namespace Sys2Proof.Machine
-- One theorem after the other: side by side, their threads outgrow the memory of the check.
set_option Elab.async false

/-- Posting a solution: what is left out, missed or trimmed is counted and reported, and nothing of the channels moves. -/
theorem postEffects_only (s : State) (c n : Nat) (l : List (TermGrant × Burst)) (m : List Nat) :
    Only (fun s t => { s with par.ro := t.par.ro, ev.transit := t.ev.transit, ev.rate := t.ev.rate }) s
      ((m.foldl (fun s a => s.latencyMiss a 6) (l.foldl (fun s p => s.leaveOut c p) s)).trimmed c n) :=
  .step (.foldl (.foldl .base fun _ _ => .step .base (leaveOut_only ..)) fun _ _ => .step .base (latencyMiss_only ..)) (trimmed_only ..)

/-- Settles O15: each row by its equation, the choice of a map by its cases. -/
theorem solverAndMapRows : Obligations.SolverAndMapRows := by
  unfold Obligations.SolverAndMapRows
  refine ⟨?_, ?_, ?_, ?_, ?_, ?_, ?_, ?_, ?_, ?_, ?_⟩
  · intro s c x hx ho
    have he : exec (.solverOutputPosted c) s = execSolverOutputPosted c s := rfl
    have ho' : ∀ v, outOfRole (s.setChan c v) (blockAddr regM (44 + c / 32)) = false := fun _ => ho
    refine ⟨_, by simp only [he, execSolverOutputPosted, hx, ho', Bool.false_eq_true, if_false]; rfl, ?_⟩
    rw [chan_setChan_self, (postEffects_only ..).same (State.chan · c), chan_setChan_self]
    exact ⟨_, rfl, rfl, rfl, rfl, rfl, rfl⟩
  · intro s c m e hp hd
    have he : exec (.mapDelivery c e) s = execMapDelivery c e s := rfl
    refine ⟨_, by simp only [he, execMapDelivery, hp, if_neg (Nat.not_le.2 hd)]; rfl, ?_⟩
    simp
  · intro s c m e hp hd
    have he : exec (.mapDelivery c e) s = execMapDelivery c e s := rfl
    refine ⟨_, by simp only [he, execMapDelivery, hp, if_pos hd]; rfl, ?_⟩
    simp
  · intro s g h
    have he : exec .framingDeadline s = execFramingDeadline s := rfl
    simp only [he, execFramingDeadline, h]
  · intro s c g m hb hm
    simp [State.chooseMap, hb, hm]
  · intro s c g m f hb hf
    simp [State.chooseMap, hb, hf, State.bumpF]
  · intro s c g hb hf
    simp [State.chooseMap, hb, hf, State.bumpF]
  · intro s mb c n h hn
    exact next_done h (if_neg (Nat.not_le.2 hn))
  · intro s mb c n h hn
    exact next_done h (if_neg (Nat.not_le.2 hn))
  · intro s a f o l ht hv
    have he : exec .reportArrival s = execReportArrival s := rfl
    have hv' : (({ s with dba.transit := l } : State).alloc a).valid = true := hv
    refine ⟨_, by simp only [he, execReportArrival, ht, hv', if_true]; rfl, rfl, ?_⟩
    rw [alloc_setAlloc_self]
  · intro s g h
    have he : exec .reportCutoff s = execReportCutoff s := rfl
    refine ⟨_, by simp only [he, execReportCutoff, h]; rfl, rfl, fun p hp => ?_⟩
    simpa using (List.mem_filter.1 hp).2

end Sys2Proof.Machine
end

section
/-! PROOFS. Frames from the uplinks, parsing and classification. -/
namespace Sys2Proof.Machine
-- One theorem after the other: side by side, their threads outgrow the memory of the check.
set_option Elab.async false

theorem stat_stats (s : State) (m k n : Nat) : ((s.stat m k n).mac m).stats.get k = satTo 64 ((s.mac m).stats.get k + n) := by
  simp [State.stat]

/-- A frame's start at a MAC that is up: what spoiled it is taken, and the fault run ends. -/
def frameBegun (s : State) (m : Nat) : State := (s.takeMac m).2.setMac m { (s.takeMac m).2.mac m with faults := 0 }

theorem frameBegun_only (s : State) (m : Nat) : Only (fun s t => { s with pace.spoiled := t.pace.spoiled, fwd.macs := t.fwd.macs }) s (frameBegun s m) :=
  .step (show Only (fun s t => { s with pace.spoiled := t.pace.spoiled, fwd.macs := t.fwd.macs }) s (s.takeMac m).2 from
    .step .base (takeMac_only s m)) (setMac_only ..)

theorem frameBegun_stats (s : State) (m : Nat) : ((frameBegun s m).mac m).stats = (s.mac m).stats := by
  have h : (s.takeMac m).2.mac m = s.mac m := Only.same (takeMac_only s m) (State.mac · m)
  rw [frameBegun, mac_setMac_self, h]

/-- What UPSTREAM_SDU_PARSE does with the SDU `u` of channel `c` once its header `p` is parsed and counted. -/
def sduParsed (s : State) (r second : Nat) (x : Parity) (u : UsSdu) (c : Nat) (p : Parsed) : State :=
  match outcome s (32 + c) p with
  | some none => s
  | some (some n) => s.punt n (32 + c) u.gem u.frame
  | none =>
    let l := s.lookup 1 (macKey (learnFid s u.gem u.frame p) p.smac) x
    let b := l.2.binding u.gem p x
    match spoofCheck b.2 u.gem p l.1 b.1 with
    | some k => b.2.spoofed c u.gem k u.frame
    | none => State.upLookup (if b.2.getN .LEARN_EN c = 1 && !l.1.any (fun y => macPort y == (u.gem, false)) then
        b.2.emitLearn (r * 2 + second) (learnFid s u.gem u.frame p) p.smac u.gem else b.2) u p x

theorem exec_upstreamSduParse {s : State} {r : Fin 8} {u : UsSdu}
    (h : s.pon.released.find? (fun u => (s.gem u.gem).chan / 8 == r.val) = some u) (second : Bool) (x : Parity) :
    exec (.upstreamSduParse r second x) s = .next (sduParsed (({ s with pon.released := s.pon.released.erase u } : State).countParse
      (32 + (s.gem u.gem).chan) (parse (cfgOf s (32 + (s.gem u.gem).chan)) u.frame.bytes)) r (b2n second) x u (s.gem u.gem).chan
      (parse (cfgOf s (32 + (s.gem u.gem).chan)) u.frame.bytes)) := by
  show execUpstreamSduParse r second x s = _
  simp only [execUpstreamSduParse, h]
  rfl

theorem countParse_good {p : Parsed} (hb : p.bad = 0) (hd : p.depth = false) (s : State) (n : Nat) : s.countParse n p = s := by
  simp [State.countParse, hb, hd]

/-- Without anti-spoofing and learning the SDU is looked up in the MAC and the flow table (R243, R257). -/
theorem sduParsed_plain {s : State} {u : UsSdu} {c : Nat} {p : Parsed} (ho : outcome s (32 + c) p = none) (ha : s.getN .ANTISPOOF_MODE u.gem = 0)
    (hl : s.getN .LEARN_EN c = 0) (r second : Nat) (x : Parity) :
    sduParsed s r second x u c p = (s.lookup 1 (macKey (learnFid s u.gem u.frame p) p.smac) x).2.upLookup u p x := by
  have hk : Only repairSlotParts s (s.lookup 1 (macKey (learnFid s u.gem u.frame p) p.smac) x).2 := lookup_only ..
  have ha' := (hk.same (·.getN .ANTISPOOF_MODE u.gem)).trans ha
  have hl' := (hk.same (·.getN .LEARN_EN c)).trans hl
  have hb : (s.lookup 1 (macKey (learnFid s u.gem u.frame p) p.smac) x).2.binding u.gem p x =
      (true, (s.lookup 1 (macKey (learnFid s u.gem u.frame p) p.smac) x).2) := by
    simp [State.binding, ha', bit]
  simp [sduParsed, ho, hb, spoofCheck, ha', bit, hl']

/-- Settles O16: each row by its equation, from a frame begun at its MAC and from an SDU parsed. -/
theorem classifyRows : Obligations.ClassifyRows := by
  unfold Obligations.ClassifyRows
  refine ⟨?_, ?_, ?_, ?_, ?_, ?_, ?_, ?_, ?_, ?_, ?_, ?_, ?_⟩
  · intro s m f x hu hlo hhi hsec hsp
    have he : exec (.uplinkFrameRx m f false false x) s = execUplinkFrameRx m f false false x s := rfl
    have hb := frameBegun_only s m
    have hm : ¬ (frameBegun s m).getN .UPLINK_MTU m < f.len := by
      rw [hb.same (·.getN .UPLINK_MTU m)]
      exact Nat.not_lt.2 hhi
    have hs : ∀ k n j i, secured (((frameBegun s m).stat m k n).stat m j i) m = false := fun k n j i => by
      rw [(stat_only ..).same (secured · m), (stat_only ..).same (secured · m), hb.same (secured · m), hsec]
    refine ⟨(((frameBegun s m).stat m stRxFrames).stat m stRxOctets f.len).toLane m f, ?_, ?_⟩
    · simp only [he, execUplinkFrameRx, hu, hsp, Bool.not_true, Bool.or_self, Bool.false_eq_true, if_false, if_neg (Nat.not_lt.2 hlo)]
      refine congrArg Host.Outcome.next ((if_neg hm).trans (if_pos ?_))
      exact congrArg (!·) (hs ..)
    · have ht : ∀ u : State, (u.toLane m f).fwd.toParse.get (m / 16) = u.fwd.toParse.get (m / 16) ++ [{ frame := f, mac := m }] :=
        fun _ => Tab.get_set_self ..
      rw [ht, (stat_only ..).same (·.fwd.toParse), (stat_only ..).same (·.fwd.toParse), hb.same (·.fwd.toParse)]
  · intro s m f x hu hlo hhi hsp
    have he : exec (.uplinkFrameRx m f false true x) s = execUplinkFrameRx m f false true x s := rfl
    have hb := frameBegun_only s m
    have hm : ¬ (frameBegun s m).getN .UPLINK_MTU m < f.len := by
      rw [hb.same (·.getN .UPLINK_MTU m)]
      exact Nat.not_lt.2 hhi
    refine ⟨(frameBegun s m).stat m stFcs, ?_, ?_, ?_⟩
    · simp only [he, execUplinkFrameRx, hu, hsp, Bool.not_true, Bool.or_self, Bool.false_eq_true, if_false, if_neg (Nat.not_lt.2 hlo)]
      exact congrArg Host.Outcome.next ((if_neg hm).trans (if_pos trivial))
    · rw [(stat_only ..).same (·.fwd.toParse), hb.same (·.fwd.toParse)]
    · rw [stat_stats, frameBegun_stats]
  · intro s m f x fcs hu hsp
    have he : exec (.uplinkFrameRx m f false fcs x) s = execUplinkFrameRx m f false fcs x s := rfl
    have hb := frameBegun_only s m
    refine ⟨(frameBegun s m).stat m stBlock, ?_, ?_, ?_⟩
    · simp only [he, execUplinkFrameRx, hu, hsp, Bool.not_true, Bool.or_true, Bool.false_eq_true, if_false]
      rfl
    · rw [(stat_only ..).same (·.fwd.toParse), hb.same (·.fwd.toParse)]
    · rw [stat_stats, frameBegun_stats]
  · intro s r x k l h
    have he : exec (.parsePass r x) s = execParsePass r x s := rfl
    simp only [he, execParsePass, h]
  · intro s r x k l h hp
    have he : exec (.recircPass r x) s = execRecircPass r x s := rfl
    simp only [he, execRecircPass, h, hp]
    rfl
  · intro s r x h
    have he : exec (.recircPass r x) s = execRecircPass r x s := rfl
    cases hr : s.fwd.recirc.get r with
    | nil => simp only [he, execRecircPass, hr]
    | cons k l => simp [he, execRecircPass, hr, h]
  · intro s k p x i r hm ha
    simp only [State.classify, hm, ha]
  · intro s k p x i r hs ha hm
    simp only [State.classify, hm, ha]
    rw [if_neg (by simp [hs]), if_neg (by decide)]
    exact ⟨_, rfl, rfl, rfl⟩
  · intro s r b u hf ho
    have hc := countParse_only { s with pon.released := s.pon.released.erase u } (32 + (s.gem u.gem).chan)
      (parse (cfgOf s (32 + (s.gem u.gem).chan)) u.frame.bytes)
    have ho' := (hc.same (outcome · (32 + (s.gem u.gem).chan) (parse (cfgOf s (32 + (s.gem u.gem).chan)) u.frame.bytes))).trans ho
    refine ⟨_, exec_upstreamSduParse hf b none, ?_⟩
    simp only [sduParsed, ho']
    exact ⟨hc.same (·.pon.released), hc.same State.fwd⟩
  · intro s r b u hf c p ho hb hd ha hl
    have ho' : outcome { s with pon.released := s.pon.released.erase u } (32 + c) p = none := ho
    rw [exec_upstreamSduParse hf b none, countParse_good hb hd]
    exact congrArg Host.Outcome.next (sduParsed_plain ho' ha hl r (b2n b) none)
  · intro s e hd hi
    have he : exec .rulesetDrained s = execRulesetDrained s := rfl
    simp [he, execRulesetDrained, hd, hi, State.setRules]
  · intro s e hd hi
    have he : exec .rulesetDrained s = execRulesetDrained s := rfl
    simp [he, execRulesetDrained, hd, hi]
  · intro s mb c hc h1 h2 h3
    have he : exec (.swapWaitExpiry mb) s = execSwapWaitExpiry mb s := rfl
    simp [he, execSwapWaitExpiry, hc, h1, h2, h3]

end Sys2Proof.Machine
end

section
/-! PROOFS. Commands of the rule sets. -/
namespace Sys2Proof.Machine
-- One theorem after the other: side by side, their threads outgrow the memory of the check.
set_option Elab.async false

/-! ### Reading a table by its first cell of an index -/

theorem getD_eq_find {α : Type} (d : α) (t : Tab α) (i : Nat) : Tab.getD d t i = ((t.find? (fun c => c.1 == i)).map (·.2)).getD d := by
  induction t with
  | nil => rfl
  | cons c t ih =>
    obtain ⟨k, v⟩ := c
    by_cases h : k = i <;> simp [Tab.getD, h, ih]

/-- A read of bank `a` after RULESET_COPY from bank `a`, wherever the copies stand. -/
theorem get_bank_copied {α : Type} [Inhabited α] {t : Tab α} {a b i : Nat} (hab : a ≠ b) (hi : i < 8192) (x : Prop) [Decidable x] :
    let own := t.filter (fun c => c.1 / 8192 == a)
    let moved := own.map (fun c => (b * 8192 + c.1 % 8192, c.2))
    Tab.get (if x then moved ++ own else own ++ moved) (a * 8192 + i) = Tab.get t (a * 8192 + i) ∧
    Tab.get (if x then moved ++ own else own ++ moved) (b * 8192 + i) = Tab.get t (a * 8192 + i) := by
  intro own moved
  have hin : ∀ p q : Nat × α → Bool, (∀ c, c.1 / 8192 = a → p c = q c) → own.find? p = own.find? q := by
    intro p q h
    simp only [own, List.find?_filter]
    congr 1
    funext c
    by_cases hc : c.1 / 8192 = a <;> simp [hc, h c]
  have howna : own.find? (fun c => c.1 == a * 8192 + i) = t.find? (fun c => c.1 == a * 8192 + i) := by
    simp only [own, List.find?_filter]
    congr 1
    funext c
    by_cases hc : c.1 = a * 8192 + i
    · simp [hc]
      omega
    · simp [hc]
  have hownb : own.find? (fun c => c.1 == b * 8192 + i) = none := by
    rw [hin _ (fun _ => false), List.find?_eq_none]
    · simp
    · intro c hc
      simp
      omega
  have hmoveda : moved.find? (fun c => c.1 == a * 8192 + i) = none := by
    simp only [moved, List.find?_map, Option.map_eq_none_iff]
    rw [hin _ (fun _ => false), List.find?_eq_none]
    · simp
    · intro c hc
      simp
      omega
  have hmovedb : moved.find? (fun c => c.1 == b * 8192 + i) =
      (t.find? (fun c => c.1 == a * 8192 + i)).map (fun c => (b * 8192 + c.1 % 8192, c.2)) := by
    simp only [moved, List.find?_map]
    rw [hin _ (fun c => c.1 == a * 8192 + i), howna]
    intro c hc
    rw [Function.comp, Bool.eq_iff_iff, beq_iff_eq, beq_iff_eq]
    omega
  have hmap : ∀ o : Option (Nat × α), Option.map (fun c : Nat × α => c.2) (o.map (fun c => (b * 8192 + c.1 % 8192, c.2))) = o.map (·.2) := by
    intro o
    cases o <;> rfl
  unfold Tab.get
  split <;> simp only [getD_eq_find, List.find?_append, howna, hownb, hmoveda, hmovedb, Option.or_none,
    Option.none_or, hmap, and_self]

/-- Settles O17: each command by its checks, in order; the copy by `get_bank_copied`. -/
theorem ruleCommands : Obligations.RuleCommands := by
  unfold Obligations.RuleCommands
  refine ⟨?_, ?_, ?_, ?_, ?_, ?_, ?_, ?_⟩
  · intro s mb c i e l h hne hlen hr hgood hd he t
    refine exec_ruleWrite_starts h ?_
    have hb := ruleWriteBad_eq_false hne hlen hr hgood
    have hs : staging (begun s mb c) = staging s := rfl
    simp [ruleWriteBody, hb, hd, he, okay, t, hs]
  · intro s mb c i e l h hne hlen hr hgood hd he
    exact exec_ruleWrite_staleEpoch h (ruleWriteBad_eq_false hne hlen hr hgood) hd he
  · intro s mb c i n h hn hn' hr
    refine next_done h ?_
    have hb : (decide (3 ≤ 0) || decide (n = 0) || decide (32 < n) || decide (8192 < i + n)) = false := by simp [hn, hn', hr]
    exact (if_neg (ne_true_of_eq_false hb)).trans (if_neg (by simp))
  · intro s mb c h hd ha
    have hget : ∀ i, i < 8192 → _ := fun i hi => get_bank_copied (t := s.fwd.rules.rules) (a := s.fwd.rules.active) (b := staging s) (i := i)
      (by simp only [staging]; omega) hi (staging s = 0)
    refine ⟨_, next_done h (if_neg (by simp [hd])), rfl, ?_, ?_⟩
    · exact fun i hi => (hget i hi).2
    · exact fun i hi => (hget i hi).1
  · intro s mb c e h hd
    refine next_done h ?_
    simp [hd, fail]
  · intro s mb c h hd
    exact ⟨_, next_done h (if_neg (by simp [hd])), rfl, _, rfl, rfl⟩
  · intro s mb c e h hd
    refine next_hold h ?_
    simp [hd]
  · intro s mb c h
    exact ⟨_, next_done h rfl⟩

end Sys2Proof.Machine
end

section
/-! PROOFS. Learning, aging, flushing and move windows. -/
namespace Sys2Proof.Machine
-- One theorem after the other: side by side, their threads outgrow the memory of the check.
set_option Elab.async false

theorem entryAt_writeAt_slot (s : State) (t b i : Nat) (e : Ent) : entryAt ((s.writeAt t (.slot b i) e).table t) (.slot b i) = some (toCopy e) := by
  simp [State.writeAt, putEntry, entryAt]

theorem entryAt_deleteAt_slot (s : State) (t b i : Nat) : entryAt ((s.deleteAt t (.slot b i)).table t) (.slot b i) = none := by
  simp [State.deleteAt, putEntry, entryAt]

theorem slotOf_index {b i : Nat} (hi : i < 4) : Place.slot ((b * 4 + i) / 4) ((b * 4 + i) % 4) = .slot b i := by
  congr 1 <;> omega

theorem exec_agingScan_slot {s : State} {x : Fin 2} (hs : (s.table x).scanning = true) {b i : Nat} (hi : i < 4) :
    exec (.agingScan x false (b * 4 + i)) s = .next (s.scanEntry x (.slot b i)) := by
  refine congrArg Host.Outcome.next ((if_pos hs).trans ?_)
  rw [if_neg Bool.false_ne_true, slotOf_index hi]

/-- Settles O18: each row by its equation, the scanner by what it does with one slot. -/
theorem learningRows : Obligations.LearningRows := by
  unfold Obligations.LearningRows
  refine ⟨?_, fun _ => rfl, ?_, ?_, ?_, ?_, ?_, ?_, ?_, ?_, ?_, fun _ => rfl, ?_⟩
  · intro s x m l hs hm
    have he : exec (.learnMessageApply x) s = execLearnMessageApply x s := rfl
    simp only [he, execLearnMessageApply, hs, hm, if_true]
  · intro s m l h
    simp only [State.hostTurns, h]
  · intro s t m l mb o st d b h ht
    simp only [State.hostTurns, h, ht]
  · intro s m hf hb
    simp [State.applyLearn, hf, hb]
  · intro s m p e hf he hm hs
    simp [State.applyLearn, hf, he, hm, hs]
  · intro s m l hs hm
    have he : exec .macFlushApply s = execMacFlushApply s := rfl
    rcases hm with hm | hm <;> simp [he, execMacFlushApply, hs, hm, State.applyFlush]
  · intro s x h
    have he : exec (.agingPassStart x) s = execAgingPassStart x s := rfl
    simp [he, execAgingPassStart, h, State.startPass]
  · intro s x h
    have he : exec (.agingPassStart x) s = execAgingPassStart x s := rfl
    simp [he, execAgingPassStart, h]
  · intro s b i e hi hs he hst hh
    refine ⟨s.writeAt 0 (.slot b i) { e with hit := false }, ?_, entryAt_writeAt_slot ..⟩
    rw [exec_agingScan_slot hs hi]
    simp [State.scanEntry, he, hst, hh]
  · intro s b i e hi hs he hst hh
    refine ⟨(s.deleteAt 0 (.slot b i)).bump .AGED_OUT 0, ?_, ?_, ?_⟩
    · rw [exec_agingScan_slot hs hi]
      simp [State.scanEntry, he, hst, hh]
    · rw [(bump_only ..).same (State.table · 0)]
      exact entryAt_deleteAt_slot ..
    · rw [bump_ro_self, (deleteAt_only ..).same (·.ro .AGED_OUT 0)]
  · intro s p e g n st he hv hn hw
    simp [State.sweepEntry, State.endFreeze, he, hv, hn, hw]

end Sys2Proof.Machine
end

section
/-! PROOFS. Commands of the flow and MAC tables. -/
namespace Sys2Proof.Machine
-- One theorem after the other: side by side, their threads outgrow the memory of the check.
set_option Elab.async false

/-- A command with one entry that succeeds. -/
theorem entriesCmd_one {α : Type} {f : State → α → State × Status × List Int} {s t : State} {e : α} {b : List Int} (h : f s e = (t, .ok, b)) :
    entriesCmd f s [e] = (t, .done .ok 0x1FFFF b) := by
  simp [entriesCmd, runEntries, entriesReply, h]

theorem entriesCmd_one_fails {α : Type} {f : State → α → State × Status × List Int} {s t : State} {e : α} {st : Status} {b : List Int}
    (h : f s e = (t, st, b)) (hs : applied st = false) : entriesCmd f s [e] = (t, .done st 0 b) := by
  simp [applied] at hs
  simp [entriesCmd, runEntries, entriesReply, h, hs]

/-- An operation with nothing before it in the serialiser runs at once (R265). -/
theorem joinSerial_begun {s : State} (h : s.fwd.serial = []) (mb m : Fin 16) (c : Cmd) (o : TableOp) :
    (begun s mb c).joinSerial m o = (begun s mb c).tableOp o := joinSerial_empty (s := begun s mb c) h m o

/-- Settles O19: each command by its checks, in order, an entry by `entriesCmd_one`. -/
theorem tableCommands : Obligations.TableCommands := by
  unfold Obligations.TableCommands
  refine ⟨?_, ?_, ?_, ?_, ?_, ?_, ?_, ?_, ?_, ?_, ?_, ?_, ?_⟩
  · intro s mb c n l h hn hl ho hlen
    refine next_done h ?_
    simp [Nat.not_le.2 hn, hl, ho, Nat.not_lt.2 hlen, okay]
  · intro s mb c e h hs ho hf r hr
    have hx : addEntry 0 e.key c.flags (.flow e.kind e.queue e.meter e.marker e.index) (begun s mb c) = (r.1, .ok, keyWords r.1 0 e.key) := by
      have hf' : findKey (begun s mb c) 0 e.key = none := hf
      simp [addEntry, hf', hr, r]
    refine next_done h ((if_neg (by simp [count32])).trans ((joinSerial_begun hs ..).trans ?_))
    exact entriesCmd_one (f := fun s (e : FlowArg) => if flowOk e then addEntry 0 e.key c.flags (.flow e.kind e.queue e.meter e.marker e.index) s
      else (s, .badArg, [])) ((if_pos ho).trans hx)
  · intro s mb c k p h hs hf
    refine next_done h ((if_pos (by simp [count32])).trans ((joinSerial_begun hs ..).trans ?_))
    refine entriesCmd_one (f := deleteKey 0) ?_
    have hf' : findKey (begun s mb c) 0 k = some p := hf
    simp [deleteKey, hf']
  · intro s mb c k p h hf
    refine next_done h ?_
    have hf' : findKey (begun s mb c) 0 k = some p := hf
    have hc : count32 [k].length = true := rfl
    show (if count32 [k].length then entriesCmd (readKey 0) (begun s mb c) [k] else fail (begun s mb c) .badArg) = _
    rw [if_pos hc]
    refine entriesCmd_one ?_
    simp only [readKey, hf']
    rfl
  · intro s mb c e p h hs ho hf hb t
    have hf' : findKey (begun s mb c) 1 (macKey e.fid e.addr) = some p := hf
    refine next_done h ((if_neg (by simp [count32])).trans ((joinSerial_begun hs ..).trans ?_))
    refine entriesCmd_one (f := fun s (e : MacArg) => if macArgOk e then addEntry 1 (macKey e.fid e.addr) c.flags (.mac e.gem 0 false 0) s
      else (s, .badArg, [])) ?_
    have hr : remOf (begun s mb c) 1 (macKey e.fid e.addr) = remOf s 1 (macKey e.fid e.addr) := rfl
    simp [ho, addEntry, hf', hb, t, hr]
  · intro s mb c e p h hs ho hf hb
    have hf' : findKey (begun s mb c) 1 (macKey e.fid e.addr) = some p := hf
    refine next_done h ((if_neg (by simp [count32])).trans ((joinSerial_begun hs ..).trans ?_))
    refine entriesCmd_one_fails (f := fun s (e : MacArg) => if macArgOk e then addEntry 1 (macKey e.fid e.addr) c.flags (.mac e.gem 0 false 0) s
      else (s, .badArg, [])) (st := .alreadyExists) ?_ rfl
    simp [ho, addEntry, hf', hb]
  · intro s mb c e p h hs hf
    have hf' : findKey (begun s mb c) 1 (macKey e.fid e.addr) = some p := hf
    refine next_done h ((if_pos (by simp [count32])).trans ((joinSerial_begun hs ..).trans ?_))
    refine entriesCmd_one (f := deleteKey 1) (e := macKey e.fid e.addr) ?_
    simp [deleteKey, hf']
  · intro s mb c l b n h hn hn' hb
    have hr : ¬ (decide (n = 0) || decide (64 < n) || decide (2 ^ bucketBits 1 < b + n)) = true := by
      simp [hn, hn', bucketBits, hb]
    exact ⟨_, next_done h (if_neg hr)⟩
  · intro s mb c f h hf hl
    refine next_done h ((if_neg (Nat.not_le.2 hf)).trans ?_)
    have hq : (begun s mb c).queueSer (flushMsg (begun s mb c) true f) = { begun s mb c with fwd.serial := s.fwd.serial ++ [flushMsg s true f] } :=
      if_neg (Nat.not_le.2 hl)
    rw [hq, okay]
  · intro s mb c f a g n st p e h hf ha hs hk he hv
    refine next_done h ((if_neg (by simp [hf]; omega)).trans ((joinSerial_begun hs ..).trans ?_))
    have hk' : findKey (begun s mb c) 1 (macKey f a) = some p := hk
    simp [State.tableOp, State.unfreeze, hk', he, hv, okay]
  · intro s mb c f a h hf ha hs
    refine ⟨_, next_wait h ((if_neg (by simp [hf]; omega)).trans (if_neg (by simpa using hs))), rfl⟩
  · intro s mb c x n h hx hn hn'
    refine ⟨_, next_done h (if_neg (by simp [hx, hn, hn']))⟩
  · intro s mb c h
    exact ⟨_, next_done h rfl⟩

end Sys2Proof.Machine
end

section
/-! PROOFS. Queues, shapers and gates. -/
namespace Sys2Proof.Machine
-- One theorem after the other: side by side, their threads outgrow the memory of the check.
set_option Elab.async false

theorem queueAt_setQueue_self (s : State) (w : Nat) (v : Queue) : (s.setQueue w v).queueAt w = v := by
  unfold State.setQueue State.queueAt
  split <;> simp

/-- Settles O20: each row by its own branch; a frame that joins or is refused reads back from its own queue. -/
theorem queueRows : Obligations.QueueRows := by
  unfold Obligations.QueueRows
  refine ⟨?_, ?_, ?_, ?_, ?_, ?_, ?_, ?_, ?_, ?_, ?_, ?_, ?_, fun _ _ => rfl, ?_⟩
  · intro s j l h
    have he : exec .enqueue s = execEnqueue s := rfl
    simp only [he, execEnqueue, h]
  · intro q n k he hm hc hd
    rw [admission, if_neg (by simp [he]), if_neg (Nat.not_lt.2 hm), if_neg hc, if_pos hd]
  · intro s w j hw ha hb hr
    have hj : (s.join w j.frame).queueAt w = _ := queueAt_setQueue_self ..
    simp [State.admitTo, ha, hb, hj, hr]
  · intro s w j hw ha hb
    have hf : ∀ t : State, t.freeFrame j.cls j.frame = t := fun t => by rw [State.freeFrame, hb]
    have hd : (s.countDrop w .disabled).queueAt w = _ := queueAt_setQueue_self ..
    simp [State.admitTo, ha, hf, hd]
  · intro s m h
    have h96 : ¬ 96 ≤ m := by omega
    exact congrArg Host.Outcome.next ((if_neg h96).trans (if_pos h))
  · intro s c h
    have h96 : ¬ 96 ≤ 32 + c := by omega
    have h32 : ¬ 32 + c < 32 := by omega
    refine congrArg Host.Outcome.next ((if_neg h96).trans ((if_neg h32).trans ?_))
    rw [Nat.add_sub_cancel_left]
  · intro s g h
    refine congrArg Host.Outcome.next ((if_pos (Nat.le_add_right 96 g)).trans ?_)
    rw [Nat.add_sub_cancel_left]
  · intro s i h
    have he : exec (.gateIntervalStart i) s = execGateIntervalStart i s := rfl
    simp [he, execGateIntervalStart, h]
  · intro s i c h hc hp
    have he : exec (.gateIntervalStart i) s = execGateIntervalStart i s := rfl
    simp only [he, execGateIntervalStart, h, hp, Option.any_some, Option.any_none, hc, decide_true, Bool.not_false, Bool.and_true, if_true]
  · intro s i p hp hs
    have he : exec (.gateListSwitch i) s = execGateListSwitch i s := rfl
    refine ⟨_, rfl, ?_⟩
    simp only [he, execGateListSwitch, hp, if_pos hs]
  · intro s w h
    exact congrArg Host.Outcome.next (if_neg (ne_true_of_eq_false h))
  · intro s i w n h hd
    have he : exec (.watchSample i) s = execWatchSample i s := rfl
    simp only [he, execWatchSample, h, if_neg (Nat.not_lt.2 hd)]
  · exact fun _ _ => rfl
  · intro s r h
    exact congrArg Host.Outcome.next (if_neg (ne_true_of_eq_false h))

end Sys2Proof.Machine
end

section
/-! PROOFS. Commands of queues, scheduler nodes, gates and watches. -/
namespace Sys2Proof.Machine
-- One theorem after the other: side by side, their threads outgrow the memory of the check.
set_option Elab.async false

/-- Settles O21: each command by its checks, in order. -/
theorem queueCommands : Obligations.QueueCommands := by
  unfold Obligations.QueueCommands
  refine ⟨?_, ?_, ?_, ?_, ?_, ?_, ?_, ?_, ?_, ?_, ?_, ?_, ?_⟩
  · intro s mb c w a h hw ha o q hl he hf t
    refine next_done h ?_
    have hw' : ¬ 81920 ≤ w := by omega
    have hk : decide (65536 ≤ w) = false := by simp; omega
    have ho : (begun s mb c).queueAt w = o := rfl
    have hf' : queueFault (begun s mb c) w o q (o.bind != q.bind || o.level != q.level || o.bridge != q.bridge) = none := hf
    simp only [hk]
    rw [if_neg (by simp [hw', ha])]
    simp [ho, hf', hl, he, okay, q, t]
  · intro s mb c w h hw
    exact next_done h (if_neg (Nat.not_le.2 hw))
  · intro s mb c w h hw hb
    exact next_done h ((if_neg (Nat.not_le.2 hw)).trans (if_pos hb))
  · intro s mb c w h hw hb he
    exact next_wait h ((if_neg (Nat.not_le.2 hw)).trans ((if_neg (ne_true_of_eq_false hb)).trans (if_neg (ne_true_of_eq_false he))))
  · intro s mb c n q h hn hf hq hq' t
    have hx : (((begun s mb c).term n).state == .free) = false := beq_false_of_ne hf
    exact next_done h ((if_neg (by simp [hn, inRange, hq, hq'])).trans (if_neg (ne_true_of_eq_false hx)))
  · intro s mb c k r b h hk hr hb hb' t
    exact next_done h (if_neg (by simp [hk, inRange, hr, hb, hb']))
  · intro s mb c m r h hm hu hr t
    have hu' : macUsed (begun s mb c) m = true := hu
    exact next_done h ((if_neg (by simp [hm, inRange, hr])).trans (if_neg (by simp [hu'])))
  · intro s mb c i y n l h hi hi' hl hl' hy hy' hs he hp t
    have he' : (l.map gateEntry).any (fun e => decide (e.2 < 10)) = false := List.any_eq_false.2 fun e h => by simpa using he e h
    refine next_done h ((if_neg ?_).trans ((if_neg (by simp [Nat.not_lt.2 hi])).trans (if_neg (by simp [hp]))))
    simp [-List.any_map, he', hs, hl, Nat.not_le.2 hi', Nat.not_lt.2, hl', hy, hy']
  · intro s mb c i h hi hi' ho t
    have ho' : ((begun s mb c).gate i).oper.isNone = false := by
      rw [show (begun s mb c).gate i = s.gate i from rfl, ← Option.not_isSome, ho, Bool.not_true]
    refine next_done h ((if_neg (Nat.not_le.2 hi')).trans ((if_neg (by simp [Nat.not_lt.2 hi])).trans ?_))
    simp only [ho', Bool.false_eq_true, if_false]
    rfl
  · intro s mb c i h hi
    exact next_done h (if_neg (Nat.not_le.2 hi))
  · intro s mb c i w n h hi hw he hb
    refine next_done h ((if_neg (by simp [hi, hw])).trans (if_pos ?_))
    have he' : ((begun s mb c).queueAt w).enable = true := he
    have hb' : ((begun s mb c).queueAt w).bind.isSome = true := hb
    rw [he', hb', Bool.and_self]
  · intro s mb c i n h hi
    exact next_done h (if_neg (by simp [hi]))
  · intro s mb c w n h hn hn' hw hb
    exact ⟨_, next_done h ((if_neg (by simp [hn, hn', hw])).trans (congrArg (okay · _) (if_neg (ne_true_of_eq_false hb))))⟩

end Sys2Proof.Machine
end

section
/-! PROOFS. Commands of policers, markers and meters. -/
namespace Sys2Proof.Machine
-- One theorem after the other: side by side, their threads outgrow the memory of the check.
set_option Elab.async false

/-- A bucket whose rate comes from 0 starts full (R288). -/
theorem rebucket_from_zero (content : Int) (cbs ns newCir newCbs : Nat) (h : newCir ≠ 0) :
    rebucket content 0 cbs ns newCir newCbs = newCbs * bucketUnits := by
  simp [rebucket, h]

/-- Settles O22: each command writes its own meter's place in the table. -/
theorem meterCommands : Obligations.MeterCommands := by
  unfold Obligations.MeterCommands
  refine ⟨?_, ?_, ?_, ?_, ?_⟩
  · intro s mb c n r b h hn ho
    refine ⟨_, next_done h (if_neg (by simp [hn, ho])), ?_⟩
    simp only [Tab.get_set_self]
    refine ⟨trivial, trivial, fun h0 hr => ?_, fun k hk => Tab.get_set_ne _ _ (Ne.symm hk)⟩
    rw [show (begun s mb c).fwd = s.fwd from rfl, h0, rebucket_from_zero _ _ _ _ _ hr]
  · intro s mb c n r b h hn ho
    exact next_done h (if_pos (by simp [ho]))
  · intro s mb c n m a r b p q x y h hn hm ha ho hp
    refine ⟨_, next_done h (if_neg (by simp [hn, hm, ha, ho, hp])), ?_⟩
    simp only [Tab.get_set_self]
    exact ⟨trivial, trivial, trivial, trivial, fun k hk => Tab.get_set_ne _ _ (Ne.symm hk), rfl⟩
  · intro s mb c n h hn
    exact next_done h (if_neg (Nat.not_le.2 hn))
  · intro s mb c n h hn
    exact next_done h (if_neg (Nat.not_le.2 hn))

end Sys2Proof.Machine
end

section
/-! PROOFS. Buffer allocation and return. -/
namespace Sys2Proof.Machine
-- One theorem after the other: side by side, their threads outgrow the memory of the check.
set_option Elab.async false

/-- Beyond its table, a pool's test only reports. -/
theorem poolTest_reports (s : State) (p : Nat) (v : Pool) :
    Only (fun s t => { s with ev.transit := t.ev.transit, fwd.poolMsgs := t.fwd.poolMsgs }) (s.setPool p (flagsAt s p v)) (s.poolTest p v) := by
  unfold State.poolTest
  extract_lets _ _ _ u u1 u2
  refine .via u1 (.ite .base (.ite (.step .base (raise_only ..)) (.step .base (raiseAs_only ..)))) fun h1 => ?_
  refine .via u2 (.ite h1 (.ite (.step (.step h1 (poolMsg_only ..)) (raise_only ..)) (.step (.step h1 (poolMsg_only ..)) (raiseAs_only ..)))) fun
    h2 => ?_
  exact .ite h2 (.ite (.step (.step h2 (poolMsg_only ..)) (raise_only ..)) (.step (.step h2 (poolMsg_only ..)) (raiseAs_only ..)))

theorem pool_poolTest_self (s : State) (p : Nat) (v : Pool) : (s.poolTest p v).pool p = flagsAt s p v :=
  ((poolTest_reports s p v).same (·.pool p)).trans (pool_setPool_self ..)

theorem buf_poolTest (s : State) (p : Nat) (v : Pool) (i : Nat) : (s.poolTest p v).buf i = s.buf i := (poolTest_only s p v).same (·.buf i)

/-- Settles O23: an operation's check, then the one word of the buffer that it writes. -/
theorem bufferRows : Obligations.BufferRows := by
  unfold Obligations.BufferRows
  refine ⟨?_, ?_, ?_, ?_, ?_, ?_, ?_, ?_, ?_, ?_, ?_, ?_, ?_, ?_⟩
  · intro s n i f m r z t hb hl ha
    have hx : exec (.bufferAlloc 13 n none) s = .next s.bufferMsg := rfl
    simp only [hx, State.bufferMsg, hb, hl, ha]
  · intro s n r z t mb ha
    have hx : exec (.bufferAlloc 15 n mb) s = execBufferAlloc 15 n mb s := rfl
    cases mb <;> simp [hx, execBufferAlloc, ha]
  · intro s n mb c hp hc hst hr
    have hx : exec (.bufferAlloc 15 n (some mb)) s = execBufferAlloc 15 n (some mb) s := rfl
    have hc' : ((s.bump .POOL_OVERSIZE 0).mbox mb).cmd = some c := hc
    simp [hx, execBufferAlloc, State.allocBuf, hp, hc', hst, hr]
  · intro s k n x r z t hk hw ha
    have hx : exec (.bufferAlloc k n none) s = execBufferAlloc k n none s := rfl
    have h13 : k ≠ 13 := by rintro rfl; exact absurd hk (by decide)
    have h15 : k ≠ 15 := by rintro rfl; exact absurd hk (by decide)
    simp only [hx, execBufferAlloc, h13, h15, if_false, hw, ha]
  · intro s k p n ct hp hc hb hs hf
    have hg : (s.buf (poolBase s p + (s.pool p).fresh * (bufSize s p / 256))).gen = 0 := by simp [State.buf, hb]; rfl
    refine ⟨_, by simp [State.allocBuf, hp, hc, hs, hf, hg]; exact ⟨rfl, rfl⟩, ?_⟩
    rw [pool_poolTest_self]
    rfl
  · intro s k n ct hp
    simp [State.allocBuf, hp]
  · intro s k p n ct hp hc
    simp [State.allocBuf, hp, hc]
  · intro s k i g hf
    have hx : exec (.bufferTake k i g) s = execBufferTake k i g s := rfl
    have hf' : opFault ((s.opArrived (.take k i g)).buf i) true k g = none := hf
    refine ⟨_, by simp only [hx, execBufferTake, hf']; rfl, ?_, fun j hj => ?_⟩
    · rw [buf_setBuf_self]; rfl
    · rw [buf_setBuf_ne _ _ (Ne.symm hj)]; rfl
  · intro s a b i g hf
    have hx : exec (.bufferHandover a b true i g) s = execBufferHandover a b true i g s := rfl
    have hf' : opFault ((s.opArrived (.handover a b true i g)).buf i) false a g = none := hf
    refine ⟨_, by simp only [hx, execBufferHandover, hf']; rfl, ?_, ?_, fun j hj => ?_⟩
    · rw [buf_setBuf_self]; rfl
    · rw [buf_setBuf_self]; rfl
    · rw [buf_setBuf_ne _ _ (Ne.symm hj)]; rfl
  · intro s k i g l hf hr
    have hx : exec (.bufferFree k l i g) s = execBufferFree k l i g s := rfl
    have hf' : opFault ((s.opArrived (.free k l i g)).buf i) false k g = none := hf
    have hr' : ¬ ((s.opArrived (.free k l i g)).buf i).refcnt ≤ 1 := Nat.not_le.2 hr
    refine ⟨_, by simp only [hx, execBufferFree, hf', if_neg hr']; rfl, ?_, ?_, ?_⟩
    · rw [buf_setBuf_self]; rfl
    · rw [buf_setBuf_self]; rfl
    · rfl
  · intro s k i g l hf hr
    have hx : exec (.bufferFree k l i g) s = execBufferFree k l i g s := rfl
    have hf' : opFault ((s.opArrived (.free k l i g)).buf i) false k g = none := hf
    have hr' : ((s.opArrived (.free k l i g)).buf i).refcnt ≤ 1 := hr
    refine ⟨_, by simp only [hx, execBufferFree, hf', if_pos hr']; rfl, ?_, ?_, ?_, ?_⟩
    · rw [buf_poolTest, buf_setBuf_self]
    · rw [buf_poolTest, buf_setBuf_self]; rfl
    · exact congrArg Pool.freed (pool_poolTest_self ..)
    · exact congrArg Pool.inUse (pool_poolTest_self ..)
  · intro s k i g l n hf
    have hx : exec (.bufferFree k l i g) s = execBufferFree k l i g s := rfl
    have hf' : opFault ((s.opArrived (.free k l i g)).buf i) false k g = some n := hf
    simp only [hx, execBufferFree, hf']
  · intro v take k g ha
    simp [opFault, ha]
  · intro v take k g ha hg
    simp [opFault, ha, hg]

end Sys2Proof.Machine
end

section
/-! PROOFS. Pool messages and commands that read pools. -/
namespace Sys2Proof.Machine
-- One theorem after the other: side by side, their threads outgrow the memory of the check.
set_option Elab.async false

/-- Settles O24: a message found is taken from its queue and kept at its consumer; the commands answer from the pools. -/
theorem poolRows : Obligations.PoolRows := by
  unfold Obligations.PoolRows
  refine ⟨?_, ?_, ?_, ?_, ?_, ?_, ?_⟩
  · intro s p m h
    have hx : exec (.freezeMessage p .dba) s = execFreezeMessage p .dba s := rfl
    have h' : nextMsg s p (PoolConsumer.code .dba) [0] = some m := h
    refine ⟨_, by simp only [hx, execFreezeMessage, h']; rfl, ?_, ?_⟩ <;> rfl
  · intro s p m h
    have hx : exec (.freezeMessage p .glacier) s = execFreezeMessage p .glacier s := rfl
    have h' : nextMsg s p (PoolConsumer.code .glacier) [0] = some m := h
    refine ⟨_, by simp only [hx, execFreezeMessage, h']; rfl, ?_⟩
    simp
  · intro s p m h
    have hx : exec (.thawMessage p .dba) s = execThawMessage p .dba s := rfl
    have h' : nextMsg s p (PoolConsumer.code .dba) [1] = some m := h
    refine ⟨_, by simp only [hx, execThawMessage, h']; rfl, ?_, ?_⟩ <;> rfl
  · intro s p m h hm
    have hx : exec (.criticalMessage p) s = execCriticalMessage p s := rfl
    refine ⟨_, by simp only [hx, execCriticalMessage, h, if_pos hm]; rfl, ?_⟩
    simp
  · intro s p m h hm
    have hx : exec (.criticalMessage p) s = execCriticalMessage p s := rfl
    have h2 : m.2.1 ≠ 2 := by omega
    refine ⟨_, by simp only [hx, execCriticalMessage, h, if_neg h2]; rfl, rfl⟩
  · intro s mb c h
    exact ⟨_, next_done h rfl⟩
  · intro s mb c n h hn hn'
    exact next_done h (if_neg (by simp [hn, hn']))

end Sys2Proof.Machine
end

section
/-! PROOFS. The Glacier mover. -/
namespace Sys2Proof.Machine
-- One theorem after the other: side by side, their threads outgrow the memory of the check.
set_option Elab.async false

/-- A first frame to spill (R316), as `execGlacierSpill` treats it: what follows it is no longer marked as arrived behind a run. -/
theorem glacierSpill_start {s : State} {w : Fin 81920} {k l : List QFrame} {x : QFrame} (h : spillNext s w = .start k x l)
    (hp : pageFree s (s.queueAt w) x = true) : exec (.glacierSpill w) s =
      .next ((s.spillTo w { s.queueAt w with frames := k, tail := l.map fun y => { y with arrival := false } } x).glacierTest w) := by
  have hx : exec (.glacierSpill w) s = execGlacierSpill w s := rfl
  simp only [hx, execGlacierSpill, h, hp, if_true]

theorem tail_glacierTest (s : State) (w : Nat) : ((s.glacierTest w).queueAt w).tail = (s.queueAt w).tail := by
  have hq (b : Bool) : ((s.setQueue w { s.queueAt w with returning := b }).queueAt w).tail = (s.queueAt w).tail := by rw [queueAt_setQueue_self]
  unfold State.glacierTest
  dsimp only
  split
  · split
    · exact hq false
    · rfl
  · split
    · exact hq true
    · split
      · exact hq false
      · rfl

/-- A frame that holds no buffer is appended without a handover. -/
theorem tail_spillTo {x : QFrame} (h : x.frame.buf = none) (s : State) (w : Nat) (q : Queue) : ((s.spillTo w q x).queueAt w).tail = q.tail := by
  simp only [State.spillTo, h]
  rw [queueAt_setQueue_self]

/-- The frame at the head of a deep queue, and one behind it that once arrived behind a run and came to the head when that run had returned. -/
def spillHead : QFrame := { frame := { id := 1, len := 64 }, at_ := 0 }
def spillArrived : QFrame := { frame := { id := 2, len := 64 }, at_ := 0, arrival := true }

/-- A frozen pool and a deep queue without a run, with both frames over GLACIER_HEAD. -/
def spillState : State :=
  { ((State.reset.setPar .QUEUE_DEEP 0 1).setPar .GLACIER_HEAD 0 0) with
      fwd.moverFrozen := [0], fwd.downQ := [(0, { enable := true, frames := [spillHead, spillArrived] })], dramBytes := 2 ^ 31 }

theorem spillNext_spillState : spillNext spillState 0 = .start [] spillHead [spillArrived] := by decide +kernel

theorem pageFree_spillState : pageFree spillState (spillState.queueAt 0) spillHead = true := by decide +kernel

/-- Refutes O25: a frame that arrived behind an earlier run may stand among the frames at the head; when a new run begins it stays behind it unmarked, and
not as it was. -/
theorem not_glacierRows : ¬ Obligations.GlacierRows := by
  unfold Obligations.GlacierRows
  rintro ⟨h, -⟩
  have hs := h spillState 0 [] [spillArrived] spillHead spillNext_spillState pageFree_spillState
  rw [glacierSpill_start (w := 0) spillNext_spillState pageFree_spillState] at hs
  have ht := congrArg (fun t => (t.queueAt 0).tail) (Host.Outcome.next.inj hs)
  have hb : spillHead.frame.buf = none := rfl
  simp only [Fin.val_zero, tail_glacierTest, tail_spillTo hb] at ht
  exact absurd ht (by decide)

end Sys2Proof.Machine
end

section
/-! PROOFS. The cipher field and the key store. -/
namespace Sys2Proof.Machine
-- One theorem after the other: side by side, their threads outgrow the memory of the check.
set_option Elab.async false

theorem cipherRegion_setCipher_self (s : State) (r : Nat) (v : CipherRegion) : (s.setCipher r v).cipherRegion r = v := Tab.get_set_self ..

/-- A pair that disagrees is counted, leaves the flight and is tried again on a fresh pair (R331). -/
theorem pairResult_disagrees (s : State) (r : Nat) (w : PairWork) {x y : Nat} (h : x ≠ y) (hw : w.attempts.length < 2) : ∃ t : State,
    s.pairResult r w x y = t.dispatchAll r ∧
    (t.cipherRegion r).retries = (s.cipherRegion r).retries ++ [{ w with attempts := w.attempts ++ [((w.a, x), (w.b, y))] }] ∧
    (t.cipherRegion r).flight = (s.cipherRegion r).flight.filter (fun z => z.op != w.op) ∧
    t.ro .CIPHER_MISMATCH r = (addField (s.ro .CIPHER_MISMATCH r).toNat 31 0 1 : Nat) := by
  have hl : (w.attempts ++ [((w.a, x), (w.b, y))]).length < 3 := by simp; omega
  have hm : (s.mismatch r).cipherRegion r = s.cipherRegion r := (mismatch_only s r).same (·.cipherRegion r)
  refine ⟨_, by simp only [State.pairResult, if_neg h, if_pos hl]; rfl, ?_, ?_, ?_⟩
  · simp only [cipherRegion_setCipher_self, hm]
  · simp only [cipherRegion_setCipher_self, hm]
  · exact ((raiseSec_only ..).same (·.ro .CIPHER_MISMATCH r)).trans (bump_ro_self s .CIPHER_MISMATCH r 1)

theorem gen_setGen_self (s : State) (i : Nat) (g : Generator) : (s.setGen i g).cipher.generators.get i = g := Tab.get_set_self ..

/-- Settles O26: each row by its own branch. -/
theorem cipherRows : Obligations.CipherRows := by
  unfold Obligations.CipherRows
  refine ⟨?_, ?_, ?_, ?_, ?_, ?_, fun _ => rfl, ?_, ?_, ?_, ?_, ?_, ?_⟩
  · intro s r n x j w h
    have hx : exec (.cipherPairResult r n x x j) s = execCipherPairResult r n x x j s := rfl
    simp only [hx, execCipherPairResult, h, State.pairResult, if_true]
  · intro s r n x y j w h hne hw
    have hx : exec (.cipherPairResult r n x y j) s = execCipherPairResult r n x y j s := rfl
    have hop : w.op = n := by simpa using List.find?_some h
    obtain ⟨t, ht, hr, hf, hc⟩ := pairResult_disagrees s r w hne hw
    refine ⟨t, ?_, hr, hop ▸ hf, hc⟩
    simp only [hx, execCipherPairResult, h, ht]
  · intro s r n x y h
    have hx : exec (.cipherPairResult r n x y none) s = execCipherPairResult r n x y none s := rfl
    simp only [hx, execCipherPairResult, h]
  · intro s b
    rfl
  · intro s b
    have hg : (s.setGen b { s.gen b with late := true }).cipher.generators.get b = { s.gen b with late := true } := gen_setGen_self ..
    have hx : exec (.rngReseed b true) s = execRngReseed b true s := rfl
    refine ⟨_, by simp only [hx, execRngReseed, if_true]; rfl, ?_, ?_, ?_⟩
    · exact congrArg Generator.late hg
    · exact (congrArg Generator.seed hg :)
    · exact ⟨_, rfl, rfl⟩
  · intro s x
    exact ⟨_, rfl, rfl, _, rfl, rfl, rfl⟩
  · intro s b hm hb
    have hx : exec (.generatorStop b) s = execGeneratorStop b s := rfl
    have hg : (s.setGen b { s.gen b with stopped := true }).cipher.generators.get b = { s.gen b with stopped := true } := gen_setGen_self ..
    refine ⟨_, by simp only [hx, execGeneratorStop, hm, hb, decide_true, Bool.and_true, if_true]; rfl, ?_, ?_⟩
    · exact congrArg Generator.stopped hg
    · exact Tab.get_set_self ..
  · intro s k he hd
    exact congrArg Host.Outcome.next ((if_neg (ne_true_of_eq_false he)).trans (if_pos hd))
  · intro s k he t
    exact congrArg Host.Outcome.next (if_pos he)
  · intro s n h
    exact congrArg Host.Outcome.next (if_pos h)
  · intro s n x he ht
    have hx : exec (.keyExchTimeout n) s = execKeyExchTimeout n s := rfl
    simp only [hx, execKeyExchTimeout, he, if_pos ht]
  · intro s n x he ht
    have hx : exec (.keyExchTimeout n) s = execKeyExchTimeout n s := rfl
    refine ⟨_, by simp only [hx, execKeyExchTimeout, he, if_neg (Nat.not_lt.2 ht)]; rfl, ?_, ?_, ?_⟩
    · exact congrArg Terminal.exchange (term_setTerm_self ..)
    · rfl
    · exact ⟨_, rfl, rfl⟩

end Sys2Proof.Machine
end

section
/-! PROOFS. Commands of the key store. -/
namespace Sys2Proof.Machine
-- One theorem after the other: side by side, their threads outgrow the memory of the check.
set_option Elab.async false

theorem commandWith_wait {s t : State} {mb : Fin 16} {code : Nat} {c : Cmd} (h : Starts s mb code c) {pre : Cmd → State → Option Status}
    {body : Cmd → State → State × Reply} {w : WaitFor} {k : Bool} (hp : pre c (begun s mb c) = none)
    (hb : body c (begun s mb c) = (t, .wait w k)) : s.commandWith mb code pre body = t.await mb w k := by
  rw [commandWith_starts h _ _ hp, hb]

/-- A command that the sender has no right to ends before its flags are looked at. -/
theorem commandWith_refused {s : State} {mb : Fin 16} {code : Nat} {c : Cmd} (h : Starts s mb code c) {pre : Cmd → State → Option Status}
    {body : Cmd → State → State × Reply} {st : Status} (hp : pre c (begun s mb c) = some st) :
    s.commandWith mb code pre body = (begun s mb c).respond mb st 0 [] := by
  obtain ⟨hcmd, hcode, hstart, -⟩ := h
  subst hcode
  unfold begun at hp
  unfold State.commandWith
  simp [hcmd, hstart, hp, begun]

/-- A key taken under its C.2 slot by the operator (R345). -/
theorem slotRight_operator {k : Nat} {c : Cmd} (hr : c.role = 0) (hc3 : ¬ (18576 ≤ k ∧ k ≤ 18583)) (hk : slotKind k ≠ 3) : slotRight k c = none := by
  simp [slotRight, hr, hk, hc3]

theorem slotKind_broadcast {k : Nat} (h : 16384 ≤ k) (h' : k < 16512) : slotKind k = 1 := by
  simp [slotKind, Nat.not_lt.2 h, h']

theorem slotKind_session {k : Nat} (h : 18584 ≤ k) : slotKind k = 4 := by
  have h1 : ¬ k < 16384 := by omega
  have h2 : ¬ k < 16512 := by omega
  have h3 : ¬ k < 18560 := by omega
  have h4 : ¬ k < 18576 := by omega
  simp [slotKind, h1, h2, h3, h4]

theorem whenFree_begun {s : State} {k : Nat} (hd : (s.slot k).draining = false) (he : (s.slot k).erasing = false) (mb : Fin 16) (c : Cmd)
    (f : State → State × Reply) : whenFree (begun s mb c) k f = f (begun s mb c) := by
  have hb : (((begun s mb c).slot k).draining || ((begun s mb c).slot k).erasing) = false := by
    rw [show (begun s mb c).slot k = s.slot k from rfl, hd, he, Bool.or_self]
  exact if_neg (ne_true_of_eq_false hb)

/-- A generation that is neither in force nor takes part in a switch is placed at once (R346). -/
theorem placeKey_idle {s : State} {k : Nat} {v : KeyVal} {force : Bool} {extra : List Int} (h : k < 16512) (hp : (s.pair (slotPair k)).pending = none)
    (hf : (s.pair (slotPair k)).inForce ≠ slotIndex k) :
    placeKey s k v false force extra = okay (s.commitKey k v) (slotRead (s.commitKey k v) k 0 ++ extra) := by
  simp [placeKey, h, hp, hf]

theorem placeKey_session {s : State} {k : Nat} {v : KeyVal} {commit force : Bool} {extra : List Int} (h : 18584 ≤ k) :
    placeKey s k v commit force extra = okay (s.commitKey k v) (slotRead (s.commitKey k v) k 0 ++ extra) := by
  have h2 : ¬ k < 16512 := by omega
  simp [placeKey, h2, slotKind_session h]

/-- Settles O27: each command by its right, its checks in order and its key. -/
theorem keyCommands : Obligations.KeyCommands := by
  unfold Obligations.KeyCommands
  refine ⟨?_, ?_, ?_, ?_, ?_, ?_, ?_, ?_, ?_, ?_, ?_⟩
  · intro s mb c key
    dsimp only
    intro h hr hl h0 hk hk' hz hs hkek hkey hd he hp hf hc
    have hpre : slotRight (bits (bodyWord c 0) 14 0) c = none := slotRight_operator hr (by omega) (by simp [slotKind_broadcast hk hk'])
    have hno : ¬ ∃ x ∈ c.body.drop 28, ¬ x = 0#8 := fun ⟨x, hx, hne⟩ => hne (h0 x hx)
    have hk2 : ¬ 18640 ≤ bits (bodyWord c 0) 14 0 := by omega
    have hk3 : ¬ bits (bodyWord c 0) 14 0 < 16384 := by omega
    have hkek' : kekOf (begun s mb c) c 0 = some key := hkey
    split
    · next m hm =>
      refine congrArg Host.Outcome.next (commandWith_done h hpre ?_)
      have hplace := placeKey_idle (s := begun s mb c) (v := ⟨m, false⟩) (force := bit (bodyWord c 0) 30) (extra := []) hk' hp hf
      simp [hs, hkek, hz, hl, hno, hk2, hk3, hkek', hm, hc, whenFree_begun hd he, hplace, okay]
    · next hm =>
      refine congrArg Host.Outcome.next (commandWith_done h hpre ?_)
      simp [hs, hkek, hz, hl, hno, hk2, hkek', hm, whenFree_begun hd he, fail]
  · intro s mb c h hk hk'
    have hp : slotRight (bits (bodyWord c 0) 14 0) c = some .noRight := if_pos (by simp [hk, hk'])
    exact congrArg Host.Outcome.next (commandWith_refused h hp)
  · intro s mb c k h hr hk hk' he
    have hpre : slotRight k c = none := slotRight_operator hr (by omega) (by simp [slotKind_session hk])
    have hs : ¬ k < 16512 := by omega
    have he' : ((begun s mb c).slot k).erasing = false := he
    refine congrArg Host.Outcome.next (commandWith_wait h hpre ?_)
    refine (if_neg (Nat.not_le.2 hk')).trans ((if_neg (ne_true_of_eq_false he')).trans ?_)
    simp [hs]
  · intro s mb c l h hl hn ha
    exact next_done h (if_neg (by simp [hl, hn]; exact fun a b hab => ha (a, b) hab))
  · intro s mb c key
    dsimp only
    intro h hr hk hk' hz hs hkek hb hkey hd he
    have hpre : slotRight (bits (bodyWord c 0) 14 0) c = none := slotRight_operator hr (by omega) (by simp [slotKind_session hk])
    have hkek' : kekOf (begun s mb c) c 0 = some key := hkey
    have hb' : (begun s mb c).cipher.entropyBad = false := hb
    have hk2 : ¬ 18640 ≤ bits (bodyWord c 0) 14 0 := by omega
    have hk3 : ¬ bits (bodyWord c 0) 14 0 < 16384 := by omega
    refine congrArg Host.Outcome.next (commandWith_done h hpre ?_)
    simp only [hs, hkek, hz, hk2, hk3, hkek', hb', whenFree_begun hd he, placeKey_session hk]
    rfl
  · intro s mb c
    dsimp only
    intro h hr hk hk' hz hs hkek hb
    have hpre : slotRight (bits (bodyWord c 0) 14 0) c = none := slotRight_operator hr (by omega) (by simp [slotKind_session hk])
    refine congrArg Host.Outcome.next (commandWith_done h hpre ((if_neg ?_).trans (if_pos hb)))
    have hk2 : ¬ 18640 ≤ bits (bodyWord c 0) 14 0 := by omega
    have hk3 : ¬ bits (bodyWord c 0) 14 0 < 16384 := by omega
    simp [hs, hkek, hz, hk2, hk3]
  · intro s mb c n h hn hst hm
    have hs : (s.term n).state ≠ .free := fun hf => by simp [mayRekey, hf] at hm
    exact next_done h ((onTerm_acts hn hs hst mb c _).trans (if_pos hm))
  · intro s mb c k n key h hk hk' hn hs hkey
    have hkey' : slotKey (begun s mb c) k = some key := hkey
    refine next_done h ((if_neg (by simp [slotKind_broadcast hk hk', hn])).trans ((if_neg hs).trans ?_))
    rw [hkey']
    rfl
  · intro s mb c k n key x d h hk hk' hd hn hn' hkey hf
    have hkey' : slotKey (begun s mb c) k = some key := hkey
    refine next_done h ((if_neg (by simp; omega)).trans ?_)
    simp [hkey', hf, okay]
  · intro s mb c k n key x d h hk hk' hd hn hn' hkey hf hx
    have hkey' : slotKey (begun s mb c) k = some key := hkey
    refine next_done h ((if_neg (by simp; omega)).trans ?_)
    simp [hkey', hf, hx, fail]
  · intro s mb c h
    exact ⟨_, next_done h rfl⟩

end Sys2Proof.Machine
end

section
/-! PROOFS. Uplink links, pause and sequences. -/
namespace Sys2Proof.Machine
-- One theorem after the other: side by side, their threads outgrow the memory of the check.
set_option Elab.async false

/-- A link that was up goes down with its cause (R360). -/
theorem linkDown_up {s : State} {m : Nat} (cause : Nat) (h : (s.mac m).up = true) : ((s.linkDown m cause).mac m).up = false ∧
    ((s.linkDown m cause).mac m).faultAt = (s.mac m).faultAt ∧ ((s.linkDown m cause).mac m).aligned = (s.mac m).aligned ∧
    ((s.linkDown m cause).mac m).trained = (s.mac m).trained ∧
    ∃ e, (s.linkDown m cause).ev.transit = s.ev.transit ++ [e] ∧ e.kind = .UPLINK_LINK_DOWN ∧ e.clear = false := by
  have hl : s.linkDown m cause = _ := if_pos h
  have hm := congrArg (State.mac · m) hl
  rw [raise_eq, (raiseAs_only ..).same (State.mac · m), mac_setMac_self] at hm
  rw [hm]
  exact ⟨rfl, rfl, rfl, rfl, _, congrArg (·.ev.transit) hl, rfl, rfl⟩

theorem linkDown_down {s : State} {m : Nat} (cause : Nat) (h : (s.mac m).up = false) : s.linkDown m cause = s :=
  if_neg (ne_true_of_eq_false h)

theorem sa_setSa_self (s : State) (n : Nat) (v : Option Sa) : (s.setSa n v).sa n = v := Tab.get_set_self _ _ _

/-- Settles O28: each row by its own branch. -/
theorem uplinkRows : Obligations.UplinkRows := by
  unfold Obligations.UplinkRows
  refine ⟨?_, ?_, ?_, ?_, ?_, ?_, ?_, ?_, ?_, ?_, ?_, ?_, ?_, ?_, ?_⟩
  · intro s m hu ho hf hp
    have hx : exec (.uplinkLinkUp m) s = execUplinkLinkUp m s := rfl
    have hm : ∀ v : MacState, ((s.setMac m v).raiseAs .UPLINK_LINK_DOWN true (srcMac m 8) (regionOfMac m) (evData [] m)).mac m = v :=
      fun v => ((raiseAs_only ..).same (State.mac · m)).trans (mac_setMac_self ..)
    refine ⟨_, by simp only [hx, execUplinkLinkUp, hu, ho, hf, hp, Bool.not_true, Option.any_none, Bool.or_self, Bool.false_eq_true, if_false, if_true]; rfl,
      ?_, ?_, ?_⟩
    · rw [hm]
    · rw [hm]
    · exact ⟨_, rfl, rfl, rfl⟩
  · intro s m hu
    have hu' : ((s.setMac m { s.mac m with aligned := false }).mac m).up = true := (congrArg MacState.up (mac_setMac_self ..)).trans hu
    obtain ⟨h1, -, h3, -, h5⟩ := linkDown_up 1 hu'
    exact ⟨_, rfl, h1, h3.trans (congrArg MacState.aligned (mac_setMac_self ..)), h5⟩
  · intro s m n hu hf hn
    have ha : (s.mac m).faultAt.any (fun t => decide (s.up < t + s.getN .UPLINK_UP_HOLD m * 1000000)) = true := by
      rw [hf, Option.any_some, decide_eq_true_iff]
      exact hn
    exact congrArg Host.Outcome.next (if_pos (by rw [ha, Bool.or_true]))
  · intro s m hu hn
    have hx : exec (.uplinkFaultSequence m) s = execUplinkFaultSequence m s := rfl
    have hn' : ¬ 4 ≤ (s.mac m).faults + 1 := by omega
    simp only [hx, execUplinkFaultSequence, hu, if_true, Bool.not_true, Bool.false_eq_true, if_false, if_neg hn']
  · intro s m hu hn
    have hx : exec (.uplinkFaultSequence m) s = execUplinkFaultSequence m s := rfl
    have hu' : ((s.setMac m { s.mac m with faults := (s.mac m).faults + 1, faultAt := some s.up }).mac m).up = true :=
      (congrArg MacState.up (mac_setMac_self ..)).trans hu
    obtain ⟨h1, h2, -, -, e, h5, h6, -⟩ := linkDown_up 2 hu'
    have hn' : 4 ≤ (s.mac m).faults + 1 := by omega
    refine ⟨_, by simp only [hx, execUplinkFaultSequence, hu, if_true, Bool.not_true, Bool.false_eq_true, if_false, if_pos hn'], h1,
      h2.trans (congrArg MacState.faultAt (mac_setMac_self ..)), e, h5, h6⟩
  · intro s m hu
    have hu' : ((s.setMac m { s.mac m with trained := false }).mac m).up = true := (congrArg MacState.up (mac_setMac_self ..)).trans hu
    obtain ⟨h1, -, -, h4, -⟩ := linkDown_up 3 hu'
    exact ⟨_, rfl, h1, h4.trans (congrArg MacState.trained (mac_setMac_self ..))⟩
  · intro s m hu
    have hs : (s.stat m stNoAbility).mac m = { s.mac m with stats := (s.mac m).stats.set stNoAbility (satTo 64 ((s.mac m).stats.get stNoAbility + 1)) } :=
      mac_setMac_self ..
    have hd : (((s.stat m stNoAbility).setMac m { (s.stat m stNoAbility).mac m with trained := false }).mac m).up = false := by
      rw [mac_setMac_self, hs]; exact hu
    refine ⟨_, rfl, ?_⟩
    simp only [if_true, linkDown_down 3 hd]
    rw [mac_setMac_self, hs]
    exact Tab.get_set_self ..
  · intro s m q k hu hm
    have hx : exec (.pauseFrameRx m true 0 [(k, q)]) s = execPauseFrameRx m true 0 [(k, q)] s := rfl
    simp [hx, execPauseFrameRx, hu, hm]
  · intro s m q hu hm
    have hx : exec (.pauseFrameRx m false q []) s = execPauseFrameRx m false q [] s := rfl
    simp [hx, execPauseFrameRx, hu, hm]
  · intro s m q l b hu hm
    have hx : exec (.pauseFrameRx m b q l) s = execPauseFrameRx m b q l s := rfl
    simp [hx, execPauseFrameRx, hu, hm]
  · intro s m k
    refine ⟨_, rfl, ?_⟩
    rw [mac_setMac_self]
    exact Tab.get_set_self (s.mac m).paused k none
  · intro s m hp
    exact congrArg Host.Outcome.next (if_neg hp)
  · intro s m hp
    exact congrArg Host.Outcome.next (if_pos hp)
  · intro s m n i p l h
    have hx : exec (.macsecVerdict i true) s = execMacsecVerdict i true s := rfl
    simp [hx, execMacsecVerdict, h]
  · intro s n p a h
    refine ⟨{ a with pn := max a.pn (p + 1), counts := a.counts.set 0 (satTo 64 (a.counts.get 0 + 1)) }, ?_, rfl, Tab.get_set_self ..⟩
    simp only [State.acceptPn, h]
    exact sa_setSa_self ..

end Sys2Proof.Machine
end

section
/-! PROOFS. Commands of the uplinks and of MACsec. -/
namespace Sys2Proof.Machine
-- One theorem after the other: side by side, their threads outgrow the memory of the check.
set_option Elab.async false

theorem foldl_same {α β : Type} (π : State → β) {g : State → α → State} (h : ∀ s x, π (g s x) = π s) (l : List α) (s : State) :
    π (l.foldl g s) = π s :=
  foldl_keep (fun t => π t = π s) g (fun t x ht => (h t x).trans ht) l s rfl

/-- One MAC of a port that restarts: its link goes down, and it has to align and train again (R360). -/
def restartLink (s : State) (m : Nat) : State :=
  let s := s.linkDown m 4
  s.setMac m { s.mac m with aligned := false, trained := false }

theorem up_restartLink_self (s : State) (m : Nat) : ((restartLink s m).mac m).up = false := by
  unfold restartLink
  rw [mac_setMac_self]
  cases h : (s.mac m).up with
  | false => rw [linkDown_down 4 h]; exact h
  | true => exact (linkDown_up 4 h).1

theorem mac_linkDown_ne (s : State) {m k : Nat} (cause : Nat) (h : m ≠ k) : (s.linkDown m cause).mac k = s.mac k := by
  cases hu : (s.mac m).up with
  | false => rw [linkDown_down cause hu]
  | true =>
    have hl : s.linkDown m cause = _ := if_pos hu
    rw [hl, raise_eq, (raiseAs_only ..).same (State.mac · k), mac_setMac_ne _ _ h]

theorem mac_restartLink_ne (s : State) {m k : Nat} (h : m ≠ k) : (restartLink s m).mac k = s.mac k := by
  unfold restartLink
  rw [mac_setMac_ne _ _ h, mac_linkDown_ne s 4 h]

/-- Every MAC that restarts is down. -/
theorem up_foldl_restartLink (l : List Nat) : ∀ (s : State) (k : Nat), k ∈ l ∨ (s.mac k).up = false → ((l.foldl restartLink s).mac k).up = false := by
  induction l with
  | nil => exact fun s k h => h.resolve_left List.not_mem_nil
  | cons m l ih =>
    intro s k h
    refine ih (restartLink s m) k ?_
    by_cases hk : m = k
    · exact .inr (hk ▸ up_restartLink_self s m)
    · rw [mac_restartLink_ne s hk]
      exact h.imp_left fun h => (List.mem_cons.1 h).resolve_left (Ne.symm hk)

/-- Settles O29: each command by its checks, in order. -/
theorem uplinkCommands : Obligations.UplinkCommands := by
  unfold Obligations.UplinkCommands
  refine ⟨?_, ?_, ?_, ?_, ?_, ?_, ?_, ?_⟩
  · intro s mb c b n h hn hb
    exact next_done h (if_neg (by simp [hn, hb]))
  · intro s mb c m l h hm
    exact next_done h (if_neg (Nat.not_le.2 hm))
  · intro s mb c p h hp
    refine ⟨_, next_done h (if_neg (Nat.not_le.2 hp)), fun i hi => ?_⟩
    refine Eq.trans (congrArg MacState.up ?_) (up_foldl_restartLink ((List.range 8).map (p * 8 + ·)) (begun s mb c) (p * 8 + i) (.inl ?_))
    · have enforced (u : State) (q : Param) (j : Nat) : (u.enforce q j).mac (p * 8 + i) = u.mac (p * 8 + i) := rfl
      have drained (u : State) (w : Nat) : (((u.disableQueue w).emptyQueue w).drainTest w).mac (p * 8 + i) = u.mac (p * 8 + i) :=
        ((drainTest_only ..).same (State.mac · _)).trans (((emptyQueue_only ..).same (State.mac · _)).trans ((disableQueue_only ..).same (State.mac · _)))
      refine (foldl_same (State.mac · (p * 8 + i)) (fun u x => foldl_same (State.mac · (p * 8 + i)) drained _ u) _ _).trans ?_
      exact (foldl_same (State.mac · (p * 8 + i)) (fun u x => enforced u _ _) _ _).trans ((enforced ..).trans ((enforced ..).trans (enforced ..)))
    · exact List.mem_map.2 ⟨i, List.mem_range.2 hi, rfl⟩
  · intro s mb c m x h hm hu hx hl t
    refine next_done h ((if_neg (Nat.not_le.2 hm)).trans ((if_neg (by simp [show macUsed (begun s mb c) m = true from hu])).trans ?_))
    have hx' : ((begun s mb c).mac m).scs.contains x = false := hx
    have hl' : ¬ 15 ≤ ((begun s mb c).mac m).scs.length := Nat.not_le.2 hl
    simp only [hx', hl', Bool.false_eq_true, if_false]
    rfl
  · intro s mb c m x h hm hu hx
    have hx' : ((begun s mb c).mac m).scs.contains x = false := hx
    refine next_done h ((if_neg (Nat.not_le.2 hm)).trans ((if_neg (by simp [show macUsed (begun s mb c) m = true from hu])).trans ?_))
    simp only [hx', Bool.not_false, if_true]
    rfl
  · intro s mb c n m a p h hn hm ha hp hu hk hs v
    have hu' : macUsed (begun s mb c) m = true := hu
    have hk' : ((begun s mb c).slot (16512 + n)).cur.isNone = false := by
      rw [show (begun s mb c).slot (16512 + n) = s.slot (16512 + n) from rfl, ← Option.not_isSome, hk, Bool.not_true]
    have hs' : (begun s mb c).fwd.sas = [] := hs
    have hsa : ((begun s mb c).setSa n (some v)).sa n = some v := sa_setSa_self ..
    refine next_done h ((if_neg (by simp; omega)).trans ((if_neg (by simp [hu'])).trans ((if_neg (ne_true_of_eq_false hk')).trans ?_)))
    simp only [hs', List.any_nil, Bool.false_and, Bool.false_eq_true, if_false, Bool.not_true, Option.isSome_none, if_true]
    exact congrArg (okay _ <| saWords ·) hsa
  · intro s mb c n m a p x h hn hm ha hp hu hx hk
    have hu' : macUsed (begun s mb c) m = true := hu
    have hk' : ((begun s mb c).slot (16512 + n)).cur.isNone = true := by
      rw [show (begun s mb c).slot (16512 + n) = s.slot (16512 + n) from rfl, hk]; rfl
    have hx' : x.any (fun c' => !((begun s mb c).mac m).scs.contains c') = false := by
      cases x with
      | none => rfl
      | some k => simpa using hx k rfl
    exact next_done h ((if_neg (by simp; omega)).trans ((if_neg (by rw [hu', hx']; decide)).trans (if_pos hk')))
  · intro s mb c n a h hn hs
    have hs' : (begun s mb c).sa n = some a := hs
    refine next_done h ((if_neg (Nat.not_le.2 hn)).trans ?_)
    simp only [hs']
    rfl

end Sys2Proof.Machine
end

section
/-! PROOFS. Tether lanes, management ports and tether frames. -/
namespace Sys2Proof.Machine
-- One theorem after the other: side by side, their threads outgrow the memory of the check.
set_option Elab.async false

/-- A data lane whose receiver is awake and not under test: its period gives the lane's next state, whatever else the period reports. -/
theorem tlane_tetherLaneFrame {s : State} {i : Fin 34} {b : BitVec 2048} {k : Nat} (hi : i.val % 17 < 15) (ha : tetherAsleep s (i / 17) 1 = false)
    (hu : underTest 2 (s.lane 2 i) = false) : ∃ t, exec (.tetherLaneFrame i b k) s = .next t ∧ t.tlane i = lanePeriod i (s.tlane i) b k := by
  have hx : exec (.tetherLaneFrame i b k) s = execTetherLaneFrame i b k s := rfl
  have h16 : ¬ i.val % 17 = 16 := by omega
  have h15 : ¬ i.val % 17 = 15 := by omega
  refine ⟨_, by simp only [hx, execTetherLaneFrame, if_neg h16, if_neg h15]; rfl, ?_⟩
  generalize ho : (if (tetherAsleep s (i / 17) 0 || underTest 2 (s.lane 2 i)) = true then s else s.emit (.laneFrame i (lanePattern i) (lanePreset i))) = u
  have hs : Only (fun s t => { s with outbox := t.outbox }) s u := ho ▸ .ite .base (.step .base (emit_only ..))
  have ha' : tetherAsleep u (i / 17) 1 = false := (hs.same (tetherAsleep · (i / 17) 1)).trans ha
  have hu' : underTest 2 (u.lane 2 i) = false := (hs.same (fun s => underTest 2 (s.lane 2 i))).trans hu
  simp only [ha', hu', Bool.or_self, Bool.false_eq_true, if_false]
  have judged (c : Prop) [Decidable c] (v : State) : (if c then v.judgeGroups else v).tlane i = v.tlane i := by
    split
    · exact (judgeGroups_only v).same (·.tlane i)
    · rfl
  rw [judged]
  split
  · exact ((lof_only ..).same (·.tlane i)).trans (tlane_setTlane_self ..)
  · exact tlane_setTlane_self ..

/-- What a lane in frame makes of its pattern's bit errors (R376). -/
theorem lanePeriod_inFrame {v : TetherLane} (i : Nat) (b : BitVec 2048) (k : Nat) (h : v.inFrame = true) :
    let w := v.past * 2 ^ 2048 + b.toNat
    lanePeriod i v b k = { trackLane v [(v.pos, bitErrors (patternAt w v.pos) (lanePattern i))] with
      payload := some (lanePayload i v.pos w), skew := k, past := w % 2 ^ 2111 } := by
  simp only [lanePeriod, laneHits, h, if_true]

theorem trackLane_hit {v : TetherLane} {n : Nat} (h : n ≤ 3) : trackLane v [(v.pos, n)] = { v with misses := 0 } := by
  simp [trackLane, h]

theorem trackLane_miss {v : TetherLane} {n : Nat} (h : 3 < n) : trackLane v [(v.pos, n)] =
    if 3 ≤ v.misses then { v with inFrame := false, pos := 0, cands := [], misses := 0 } else { v with misses := v.misses + 1 } := by
  simp [trackLane, Nat.not_le.2 h]

/-- Settles O30: a lane's period by its hits, a frame by its tag and its tributary, the rest by their branches. -/
theorem tetherRows : Obligations.TetherRows := by
  unfold Obligations.TetherRows
  refine ⟨?_, ?_, ?_, ?_, fun _ _ => rfl, ?_, ?_, ?_, ?_, ?_, ?_, ?_, ?_⟩
  · intro s i b k hi ha hu hf hk w he
    obtain ⟨t, ht, hl⟩ := tlane_tetherLaneFrame (b := b) (k := k) hi ha hu
    refine ⟨t, ht, ?_⟩
    rw [hl, lanePeriod_inFrame i.val b k hf, trackLane_hit he, ← hk]
  · intro s i b k hi ha hu hf hk w he
    obtain ⟨t, ht, hl⟩ := tlane_tetherLaneFrame (b := b) (k := k) hi ha hu
    rw [lanePeriod_inFrame i.val b k hf, trackLane_miss he] at hl
    refine ⟨t, ht, fun hm => ?_, fun hm => ?_⟩
    · rw [hl, if_neg (Nat.not_le.2 hm)]
      exact ⟨hf, rfl⟩
    · rw [hl, if_pos (Nat.le_of_eq hm.symm)]
  · intro s i b k hi
    exact congrArg Host.Outcome.next (if_pos hi)
  · intro v p hc
    simp [huntLane, hc]
  · intro s p he hj hp hp' ha' ha
    have hx : exec (.tetherIdleExpiry p false) s = execTetherIdleExpiry p false s := rfl
    have hb : b2n false = 0 := rfl
    simp only [hx, execTetherIdleExpiry, he, hj, hp, hp', hb, ha', ha, decide_true, Bool.not_false, Bool.and_self, Bool.false_eq_true, if_false, if_true, Nat.add_zero]
  · intro s p r he
    have hx : exec (.tetherIdleExpiry p r) s = execTetherIdleExpiry p r s := rfl
    simp [hx, execTetherIdleExpiry, he]
  · intro s p r
    refine ⟨_, rfl, ?_⟩
    exact Tab.get_set_self s.prot.sleeping _ false
  · intro s k b hp hn
    exact congrArg Host.Outcome.next ((if_neg (ne_true_of_eq_false hp)).trans (if_neg (Nat.not_le.2 hn)))
  · intro s k b hp hn
    have hm (v : SmpPort) : ((s.setSmp k v).smpOverrun k 0).smpOf k = v := ((smpOverrun_only ..).same (·.smpOf k)).trans (Tab.get_set_self ..)
    refine ⟨_, congrArg Host.Outcome.next ((if_neg (ne_true_of_eq_false hp)).trans (if_pos hn)), ?_, ?_, ?_⟩
    · rw [hm]
    · rw [hm]
    · exact ⟨_, rfl, rfl⟩
  · intro s p g x rs hu hx' hg ht k key r i hk hc hr
    have hx : exec (.tetherFrameRx p g 0 x) s = execTetherFrameRx p g 0 x s := rfl
    have hk' : (genKey (s.slot (18560 + tetherKey s p 1 true)) x.gen).isNone = false := by
      rw [← Option.not_isSome, Option.isSome_iff_ne_none.2 hk, Bool.not_true]
    have hc' : s.prot.rxCounters.get ((tetherKey s p 1 true * 8 + (4 * p.val + g.val)) * 2 + b2n x.gen) = none := hc
    have hr' := hr
    simp only [r, key, k] at hr'
    simp only [hx, execTetherFrameRx, hu, hx', hg, tribOf, payloadLen, hk', hc', ht, hr', Bool.not_true, Bool.false_eq_true, if_false, if_true, reduceCtorEq,
      Bool.or_self, Option.any_none, State.tetherPayload, r, key, k, i]
  · intro s p g x rs hu hx' hg k
    have hx : exec (.tetherFrameRx p g 0 x) s = execTetherFrameRx p g 0 x s := rfl
    simp only [hx, execTetherFrameRx, hu, hx', hg, tribOf, payloadLen, Bool.not_true, Bool.false_eq_true, if_false, if_true, reduceCtorEq,
      Bool.not_false, Bool.or_true, Bool.true_or, k]
  · intro s p g n x hu
    have hx : exec (.tetherFrameRx p g n x) s = execTetherFrameRx p g n x s := rfl
    simp [hx, execTetherFrameRx, hu]

end Sys2Proof.Machine
end

section
/-! PROOFS. Pair messages, mirror records and heartbeats. -/
namespace Sys2Proof.Machine
-- One theorem after the other: side by side, their threads outgrow the memory of the check.
set_option Elab.async false

def fenceToken (s : State) (n : Nat) : State := s.setToken n { s.token n with fenced := true }

/-- The device fences itself: every token that it holds is fenced (R391). -/
def fenceAll (s : State) : State := (trees.filter (holds s)).foldl fenceToken { s with prot.fenced := true }

theorem token_foldl_fenceToken (l : List Nat) (n : Nat) : ∀ s : State,
    (l.foldl fenceToken s).token n = if n ∈ l then { s.token n with fenced := true } else s.token n := by
  induction l with
  | nil => intro s; rfl
  | cons t l ih =>
    intro s
    rw [List.foldl_cons, ih]
    by_cases h : t = n
    · subst h
      simp [fenceToken, token_setToken_self]
    · simp [fenceToken, token_setToken_ne _ _ h, Ne.symm h]

theorem token_fenceAll {s : State} {n : Nat} (hn : n < 32) (hh : holds s n = true) : (fenceAll s).token n = { s.token n with fenced := true } :=
  (token_foldl_fenceToken ..).trans (if_pos (List.mem_filter.2 ⟨List.mem_range.2 hn, hh⟩))

theorem fenced_fenceAll (s : State) : (fenceAll s).prot.fenced = true := foldl_same (·.prot.fenced) (g := fenceToken) (fun _ _ => rfl) _ _

theorem transit_fenceAll (s : State) : (fenceAll s).ev.transit = s.ev.transit := foldl_same (·.ev.transit) (g := fenceToken) (fun _ _ => rfl) _ _

/-- A record out of sequence begins a gap (R388). -/
theorem applyRecord_gap {s : State} {r : MirrorRec} (hr : r.stream < 32) (hs : r.seq ≠ ((s.stream r.stream).applied + 1) % 2 ^ 32)
    (hb : isBulkBegin r.body = false) : ∃ t : State,
    s.applyRecord r = t.postReady r.stream 2 ∧ (t.stream r.stream).applied = r.seq ∧ (t.stream r.stream).clean = false ∧
    (t.stream r.stream).resync = true ∧ ∃ e, t.ev.transit = s.ev.transit ++ [e] ∧ e.kind = .TETHER_SEQ_GAP := by
  have hc : ¬ (decide (r.seq = ((s.stream r.stream).applied + 1) % 2 ^ 32) || isBulkBegin r.body) = true := by
    rw [decide_eq_false hs, hb]
    decide
  have hv (v : Stream) (d : Nat) : (((s.setStream r.stream { s.stream r.stream with applied := r.seq }).setStream r.stream v).raise .TETHER_SEQ_GAP
    (srcStream r.stream) regH d).stream r.stream = v := ((raise_only ..).same (·.stream r.stream)).trans (stream_setStream_self ..)
  refine ⟨_, by simp only [State.applyRecord, if_neg hc, if_pos hr]; rfl, ?_, ?_, ?_, ?_⟩
  · rw [hv]; rw [stream_setStream_self]
  · rw [hv]
  · rw [hv]; exact decide_eq_true hr
  · exact ⟨_, rfl, rfl⟩

/-- What a pair message leaves before anything is measured: the peer as it says and when it came. -/
def pairHeard (s : State) (m : PairMsg) (held : Nat) : State :=
  { s with prot.peer := some m, prot.peerAt := s.up, prot.peerStart := s.up - held, prot.lastAccepted := some m.count }

theorem matchKeys_none {s : State} (m : PairMsg) (h : s.prot.keySlot = none) : s.matchKeys m = s := by
  simp only [State.matchKeys, h]

/-- Settles O31: each row by its own branch. -/
theorem pairRows : Obligations.PairRows := by
  unfold Obligations.PairRows
  refine ⟨?_, fun _ _ _ _ _ _ => rfl, ?_, ?_, ?_, ?_, fun _ => rfl, fun _ => rfl, ?_, ?_, ?_, ?_⟩
  · intro s hc hp hk
    have hx : exec .multiframeStart s = execMultiframeStart s := rfl
    have hany : [0, 1].any (fun p => portUp { s with prot.msgCount := s.prot.msgCount + 1 } p &&
        (slotKey { s with prot.msgCount := s.prot.msgCount + 1 } (18572 + p)).isSome) = true := by
      refine List.any_eq_true.2 ⟨0, List.mem_cons_self, ?_⟩
      exact (Bool.and_eq_true ..).mpr ⟨hp, hk⟩
    refine ⟨_, by simp only [hx, execMultiframeStart, hc, hany, Bool.false_eq_true, if_false, if_true]; rfl, ?_, ?_⟩
    · rfl
    · exact ⟨_, rfl, rfl⟩
  · intro s p m h r n hk hl hp hs
    have hx : exec (.pairMessageRx p true m h r n) s = execPairMessageRx p true m h r n s := rfl
    have hk' : (slotKey s (18572 + p.val)).isNone = false := by simpa [Option.ne_none_iff_isSome] using hk
    have hl' : s.prot.lastAccepted.any (fun n => decide (m.count ≤ n)) = false := by
      cases hla : s.prot.lastAccepted with
      | none => rfl
      | some k => simpa using hl k hla
    have hm := measureOffset_only ((pairHeard s m h).measureDelay m r) m n
    have hpaired : (((pairHeard s m h).measureDelay m r).measureOffset m n).prot.paired = false := (hm.same (·.prot.paired)).trans hp
    have hmatch : State.matchKeys (((pairHeard s m h).measureDelay m r).measureOffset m n) m = _ := matchKeys_none m ((hm.same (·.prot.keySlot)).trans hs)
    refine ⟨((pairHeard s m h).measureDelay m r).measureOffset m n, congrArg Host.Outcome.next ((if_neg (by simp [hk'])).trans
      ((if_neg (ne_true_of_eq_false hl')).trans ((if_pos ?_).trans hmatch))), hm.same (·.prot.peer), hm.same (·.prot.lastAccepted), hm.same (·.prot.delay),
      hm.same (·.prot.tokens)⟩
    exact (congrArg (!·) hpaired).trans rfl
  · intro s k hk hc
    have hx : exec .tetherKeyTimeout s = execTetherKeyTimeout s := rfl
    have hv : (s.setSlot (18560 + k) { s.slot (18560 + k) with pending := none, reply := [] }).slot (18560 + k) =
        { s.slot (18560 + k) with pending := none, reply := [] } := slot_setSlot_self ..
    refine ⟨_, by simp only [hx, execTetherKeyTimeout, hk, hc, Option.isSome_none, Bool.false_eq_true, if_false]; rfl, ?_, ?_, ?_⟩
    · rfl
    · exact (congrArg KeySlot.pending hv :)
    · exact (congrArg KeySlot.cur hv :)
  · intro s r l hl hp hr hh
    have hx : exec .mirrorRecordRx s = execMirrorRecordRx s := rfl
    have hh' : holds { s with prot.mirrorIn := l } r.stream = false := hh
    have hr' : ¬ 32 < r.stream := by omega
    have hc : (!s.prot.paired || decide (32 < r.stream) || (decide (r.stream < 32) && holds { s with prot.mirrorIn := l } r.stream)) = false := by
      rw [hp, hh', decide_eq_false hr', Bool.and_false]
      rfl
    simp only [hx, execMirrorRecordRx, hl]
    exact congrArg Host.Outcome.next (if_neg (ne_true_of_eq_false hc))
  · intro s r hr hs hb
    exact applyRecord_gap hr hs hb
  · intro s hf hn
    obtain ⟨n, hn, hm⟩ := hn
    have ha : s.prot.hbRefreshed.any (fun t => decide (s.up - t ≤ 2 * msec)) = true := by
      rw [hn, Option.any_some, decide_eq_true_iff]
      exact hm
    exact ⟨_, congrArg Host.Outcome.next (if_pos (by rw [hf, ha]; rfl)), rfl, rfl⟩
  · intro s n hn hm
    have ha : s.prot.hbRefreshed.any (fun t => decide (s.up - t ≤ 2 * msec)) = false := by
      rw [hn, Option.any_some, decide_eq_false_iff_not]
      exact Nat.not_le.2 hm
    exact congrArg Host.Outcome.next (if_neg (by rw [ha, Bool.and_false]; decide))
  · intro s hp ha
    have hx : exec .heartbeatRefresh s = execHeartbeatRefresh s := rfl
    simp only [hx, execHeartbeatRefresh, hp, ha, Bool.false_eq_true, if_false, if_true]
  · intro s hf
    have hx : exec .protSelfFence s = .next ((fenceAll s).raise .PROT_SELF_FENCE (srcTether 0 44) regH 0) :=
      congrArg Host.Outcome.next (if_neg (ne_true_of_eq_false hf))
    refine ⟨_, hx, fenced_fenceAll s, fun n hn hh => ?_, _, congrArg (· ++ [_]) (transit_fenceAll s), rfl⟩
    have ht : ((fenceAll s).raise .PROT_SELF_FENCE (srcTether 0 44) regH 0).token n = _ := token_fenceAll hn hh
    rw [ht]
    exact ⟨rfl, rfl⟩

end Sys2Proof.Machine
end

section
/-! PROOFS. A silent peer, switches and commissionings that end. -/
namespace Sys2Proof.Machine
-- One theorem after the other: side by side, their threads outgrow the memory of the check.
set_option Elab.async false

/-- With four differences or more a commissioning ends with their median, and no longer stands (R392). -/
theorem endCommission_measured (s : State) (n : Nat) {k : Commission} (h : 4 ≤ k.diffs.length) : ∃ t : State,
    s.endCommission n k = t.respondAll (.commission n) .ok 0 [medianOf k.diffs] ∧ t.prot.commission.get n = none := by
  have h' : ¬ k.diffs.length < 4 := Nat.not_lt.2 h
  refine ⟨_, by simp only [State.endCommission, if_neg h']; rfl, ?_⟩
  have blocked_keeps (c : Prop) [Decidable c] (u : State) : (if c then u.blocked n 1 else u).prot.commission = u.prot.commission := by
    split
    · exact (blocked_only ..).same (·.prot.commission)
    · rfl
  have mirror_keeps (u : State) (i : Nat) (b : MirrorBody) : (u.mirror n i b).prot.commission = u.prot.commission :=
    (mirror_only ..).same (·.prot.commission)
  rw [blocked_keeps, mirror_keeps, mirror_keeps]
  exact Tab.get_set_self s.prot.commission n none

/-- Settles O32: each row by its own branch. -/
theorem silenceRows : Obligations.SilenceRows := by
  unfold Obligations.SilenceRows
  refine ⟨?_, ?_, ?_, ?_, ?_, ?_, ?_, ?_, ?_⟩
  · intro s hp ha
    exact congrArg Host.Outcome.next ((if_neg (ne_true_of_eq_false hp)).trans (if_pos ha))
  · intro s hp
    exact congrArg Host.Outcome.next (if_pos hp)
  · intro s hp ha
    exact congrArg Host.Outcome.next ((if_neg (ne_true_of_eq_false hp)).trans (if_neg (ne_true_of_eq_false ha)))
  · intro s hp ha hs hd
    have hd' : ({ s with prot.silent := true, prot.wasSilent := true } : State).getN .PROT_AUTO_DEAD = 0 := hd
    refine congrArg Host.Outcome.next ((if_neg (by rw [hp, ha, hs]; decide)).trans (if_neg ?_))
    rw [hd']
    simp
  · intro s hp ha hs hd hh ht
    have hd' : ({ s with prot.silent := true, prot.wasSilent := true } : State).getN .PROT_AUTO_DEAD = 1 := hd
    refine congrArg Host.Outcome.next ((if_neg (by rw [hp, ha, hs]; decide)).trans (if_pos ?_))
    rw [hd', ht, show ({ s with prot.silent := true, prot.wasSilent := true } : State).prot.heldState = false from hh]
    rfl
  · intro s n hh hr
    simp [State.takeSilent, hh, hr]
  · intro s n hr
    exact congrArg Host.Outcome.next (if_pos hr)
  · intro s n k hk hl
    have hx : exec (.commissionTimeout n) s = execCommissionTimeout n s := rfl
    simp [hx, execCommissionTimeout, hk, State.endCommission, Nat.not_le.2 hl]
  · intro s n k hk hl
    have hx : exec (.commissionTimeout n) s = execCommissionTimeout n s := rfl
    obtain ⟨t, ht, hc⟩ := endCommission_measured s n hl
    exact ⟨t, by simp only [hx, execCommissionTimeout, hk, ht], hc⟩

end Sys2Proof.Machine
end

section
/-! PROOFS. Commands of the tether and of protection. -/
namespace Sys2Proof.Machine
-- One theorem after the other: side by side, their threads outgrow the memory of the check.
set_option Elab.async false

/-- A later parameter shares no key with an earlier one. -/
theorem pkey_ne_of_key_lt {p q : Param} {i j : Nat} (h : p.key < q.key) (hi : i < 2 ^ 20) : pkey q j ≠ pkey p i := by
  unfold pkey
  omega

theorem getF_enforce_self (s : State) (p : Param) (i : Nat) : (s.enforce p i).getF p i = s.get p i := by
  have h : (s.enforce p i).par.inForce.get (pkey p i) = some (s.get p i) := by
    exact Tab.get_set_self s.par.inForce (pkey p i) (some (s.get p i))
  simp only [State.getF, h, Option.getD_some]

theorem getF_enforce_ne (s : State) {p q : Param} (i j : Nat) (h : pkey q j ≠ pkey p i) : (s.enforce q j).getF p i = s.getF p i := by
  have hk : (s.enforce q j).par.inForce.get (pkey p i) = s.par.inForce.get (pkey p i) := by
    exact Tab.get_set_ne s.par.inForce (some (s.get q j)) h
  simp only [State.getF, hk]
  rfl

/-- A claim of a tree that nothing stands against takes its token under the next epoch (R389, R390). -/
theorem claimTree_free {s : State} {n : Nat} (hn : n < 32) (hh : s.prot.heldState = false) (ha : tokenAllowed s = true) (hk : (s.token n).held = false)
    (hr : (s.token n).release = .none) (hc : claimRefused s n = none) :
    claimTree s n = ((s.followEpoch n).takeToken n (((s.followEpoch n).token n).epoch + 1) 3, .ok, [(n : Int)]) := by
  have hrel : releasing (s.token n) = false := by simp [releasing, hr]
  simp only [claimTree, if_neg (Nat.not_le.2 hn), hh, ha, hk, hr, hrel, hc, Bool.not_true, Bool.or_self, Bool.false_and, Bool.false_eq_true, if_false]
  rfl

/-- Settles O33: each command by its checks, in order. -/
theorem protectionCommands : Obligations.ProtectionCommands := by
  unfold Obligations.ProtectionCommands
  refine ⟨?_, ?_, ?_, ?_, ?_, ?_, ?_, ?_, ?_, ?_⟩
  · intro s mb c h
    exact ⟨_, next_done h rfl⟩
  · intro s mb c p h hp hu
    have hu' : anyUnderTest (begun s mb c) 2 (fun i => i / 17 == p) = false := hu
    have hp' : p < 2 ^ 20 := by omega
    refine ⟨_, next_done h ((if_neg (Nat.not_le.2 hp)).trans (if_neg (ne_true_of_eq_false hu'))), ?_⟩
    rw [foldl_same (fun t : State => t.getF .TETHER_GROUPING p) (fun u x => getF_enforce_ne u _ _ (pkey_ne_of_key_lt (by decide) hp')), getF_enforce_ne _ _ _ (pkey_ne_of_key_lt (by decide) hp'),
      getF_enforce_ne _ _ _ (pkey_ne_of_key_lt (by decide) hp'), getF_enforce_self]
    rfl
  · intro s mb c a b h
    exact next_done h rfl
  · intro s mb c n h hn hp hr hc
    have hr' : runs (begun s mb c) n = true := hr
    have hp' : (begun s mb c).prot.paired = true := hp
    have hc' : (begun s mb c).prot.commission.get n = none := hc
    refine ⟨_, next_wait h ((if_neg (Nat.not_le.2 hn)).trans ((if_neg (by rw [hp', hr']; decide)).trans (if_neg (by rw [hc']; decide)))), ?_⟩
    refine ⟨{ terms := ((treeTermsOf (begun s mb c) n (fun v => v.state == .operation)).filter (fun t => ((begun s mb c).bm t).state == .learned)).take 8 },
      ?_, rfl, List.length_take_le ..⟩
    refine (congrArg (·.get n) (foldl_same (·.prot.commission) (fun (u : State) t => (emit_only u (.commission t)).same (·.prot.commission)) _ _)).trans ?_
    exact Tab.get_set_self (begun s mb c).prot.commission n (some _)
  · intro s mb c l h hl hn hp hh hr hc
    have hr' : l.any (fun n => !runs (begun s mb c) n) = false := List.any_eq_false.2 fun n hm => by simp [show runs (begun s mb c) n = true from hr n hm]
    have hc' : l.any (fun n => !peerCanTake (begun s mb c) n) = false :=
      List.any_eq_false.2 fun n hm => by simp [show peerCanTake (begun s mb c) n = true from hc n hm]
    have hp' : (begun s mb c).prot.paired = true := hp
    have hh' : (begun s mb c).prot.heldState = false := hh
    refine next_wait h ((if_neg ?_).trans ((if_neg (by rw [hp', hh', hr']; decide)).trans (if_neg (ne_true_of_eq_false hc'))))
    simp [hl]
    exact hn
  · intro s mb c n h hn hh ha hk hr hc
    exact next_done h (entriesCmd_one (claimTree_free (s := begun s mb c) hn hh ha hk hr hc))
  · intro s mb c n h hn hh
    have hx : claimTree (begun s mb c) n = (begun s mb c, .notReady, [(n : Int)]) :=
      (if_neg (Nat.not_le.2 hn)).trans (if_pos (by rw [show (begun s mb c).prot.heldState = true from hh]; rfl))
    exact next_done h (entriesCmd_one_fails hx rfl)
  · intro s mb c h
    exact next_done h rfl
  · intro s mb c h
    exact ⟨_, next_done h rfl⟩
  · intro s mb c n h hn hp hh
    have hx : resyncTree (begun s mb c) n = ((begun s mb c).setStream n { s.stream n with resync := true }, .ok, [(n : Int)]) :=
      (if_neg (Nat.not_le.2 hn)).trans (if_neg (by rw [show (begun s mb c).prot.paired = true from hp, show holds (begun s mb c) n = false from hh]; decide))
    exact next_done h (entriesCmd_one hx)

end Sys2Proof.Machine
end

section
/-! PROOFS. The host port and the mailboxes. -/
namespace Sys2Proof.Machine
-- One theorem after the other: side by side, their threads outgrow the memory of the check.
set_option Elab.async false

/-- What a fold settles at each of its indexes, where a step leaves the other indexes alone. -/
theorem foldl_each {β : Type} {P : β → Prop} (π : State → Nat → β) {g : State → Nat → State} (hself : ∀ s i, P (π (g s i) i))
    (hne : ∀ s i j, i ≠ j → π (g s i) j = π s j) (l : List Nat) (k : Nat) : ∀ s, k ∈ l ∨ P (π s k) → P (π (l.foldl g s) k) := by
  induction l with
  | nil => exact fun s h => h.resolve_left List.not_mem_nil
  | cons i l ih =>
    intro s h
    refine ih (g s i) ?_
    by_cases hk : i = k
    · exact .inr (hk ▸ hself s i)
    · rw [hne s i k hk]
      exact h.imp_left fun h => (List.mem_cons.1 h).resolve_left (Ne.symm hk)

theorem state_flrMailbox (m : Mailbox) : (flrMailbox m).state = .idle ∨ (flrMailbox m).state = .reset := by
  unfold flrMailbox
  cases m.state <;> simp

theorem role_endSession (s : State) (r k : Nat) : (s.endSession r).role k = (s.setRole r { s.role r with session := none }).role k :=
  (dropKey_only ..).same (·.role k)

theorem session_closeSession_self (s : State) (r : Nat) : ((s.closeSession r).role r).session = none := by
  unfold State.closeSession
  split
  · assumption
  · have hr : ((s.endSession r).role r).session = none := by rw [role_endSession, role_setRole_self]
    exact hr

theorem role_closeSession_ne (s : State) {r k : Nat} (h : r ≠ k) : (s.closeSession r).role k = s.role k := by
  unfold State.closeSession
  split
  · rfl
  · have hr : (s.endSession r).role k = s.role k := by rw [role_endSession, role_setRole_ne _ _ h]
    exact hr

/-- A mailbox's registers stand at 64 bytes each from 30000h (R406). -/
theorem bar0Value_mbReg (s : State) {n off : Nat} (hn : n < 16) (ho : off < 0x40) : bar0Value s (0x30000 + off + 0x40 * n) = mbReg s n off := by
  have h1 : ¬ 0x30000 + off + 0x40 * n < 0x10000 := by omega
  have h2 : ¬ 0x30000 + off + 0x40 * n < 0x30000 := by omega
  have h3 : 0x30000 + off + 0x40 * n < 0x30400 := by omega
  have h4 : (0x30000 + off + 0x40 * n - 0x30000) / 0x40 = n := by omega
  have h5 : (0x30000 + off + 0x40 * n - 0x30000) % 0x40 = off := by omega
  rw [bar0Value, if_neg h1, if_neg h2, if_pos h3, h4, h5]

/-- A function level reset, one kind of object after the other (R405, R432). -/
def flrChannels (l : List Nat) (s : State) : State := l.foldl (fun s c => s.setCh c (disable (s.ch c))) s
def flrMailboxes (l : List Nat) (s : State) : State := l.foldl (fun s n => s.setMbox n (flrMailbox (s.mbox n))) s
def flrSessions (l : List Nat) (s : State) : State := l.foldl (fun s r => s.closeSession r) s

/-- The reset counted and reported. -/
def flrReport (s : State) : State :=
  let s := { s with host.flrCount := satTo 16 (s.host.flrCount + 1) }
  s.raise .HOST_FLR (srcChip 25) regC (evData [] s.host.flrCount)

theorem flrReport_only (s : State) : Only (fun s t => { s with ev.transit := t.ev.transit, host.flrCount := t.host.flrCount }) s (flrReport s) := by
  unfold flrReport
  exact .step .base (raise_only ..)

theorem exec_functionLevelReset (s : State) : exec .functionLevelReset s =
    .next (flrReport (flrSessions (List.range 4) (flrMailboxes (List.range 16) (flrChannels (List.range 64) s)))) := by
  have hx : exec .functionLevelReset s = execFunctionLevelReset s := rfl
  rw [hx]
  simp only [execFunctionLevelReset, flrReport, flrSessions, flrMailboxes, flrChannels]

theorem flrSessions_same {α : Type} (π : State → α)
    (w : ∀ (a b : State), π { a with roles.roles := b.roles.roles, roles.audit := b.roles.audit, cipher.slots := b.cipher.slots } = π a := by intros; rfl)
    (l : List Nat) (s : State) : π (flrSessions l s) = π s :=
  foldl_same π (fun s r => (closeSession_only s r).same π w) _ _

theorem mbox_flrMailboxes {l : List Nat} {n : Nat} (h : n ∈ l) (s : State) :
    ((flrMailboxes l s).mbox n).state = .idle ∨ ((flrMailboxes l s).mbox n).state = .reset :=
  foldl_each (P := fun m : Mailbox => m.state = .idle ∨ m.state = .reset) State.mbox
    (fun s i => by rw [mbox_setMbox_self]; exact state_flrMailbox _) (fun _ _ _ h => mbox_setMbox_ne _ _ h) l n s (.inl h)

theorem role_flrSessions {l : List Nat} {r : Nat} (h : r ∈ l) (s : State) : ((flrSessions l s).role r).session = none :=
  foldl_each (P := fun v : RoleState => v.session = none) State.role session_closeSession_self (fun s _ _ h => role_closeSession_ne s h) l r s (.inl h)

theorem ch_flrChannels {l : List Nat} {c : Nat} (h : c ∈ l) (s : State) :
    ((flrChannels l s).ch c).state = .disabled ∧ ((flrChannels l s).ch c).enable = false :=
  foldl_each (P := fun d : DmaCh => d.state = .disabled ∧ d.enable = false) State.ch
    (fun s i => by rw [ch_setCh_self]; exact ⟨rfl, rfl⟩) (fun _ _ _ h => ch_setCh_ne _ _ h) l c s (.inl h)

theorem ch_flrMailboxes (l : List Nat) (s : State) (c : Nat) : (flrMailboxes l s).ch c = s.ch c :=
  foldl_same (·.ch c) (g := fun (s : State) n => s.setMbox n (flrMailbox (s.mbox n))) (fun _ _ => rfl) l s

theorem flrCount_flrMailboxes (l : List Nat) (s : State) : (flrMailboxes l s).host.flrCount = s.host.flrCount :=
  foldl_same (·.host.flrCount) (g := fun (s : State) n => s.setMbox n (flrMailbox (s.mbox n))) (fun _ _ => rfl) l s

theorem flrCount_flrChannels (l : List Nat) (s : State) : (flrChannels l s).host.flrCount = s.host.flrCount :=
  foldl_same (·.host.flrCount) (g := fun (s : State) c => s.setCh c (disable (s.ch c))) (fun _ _ => rfl) l s

theorem flrCount_flrReport (s : State) : (flrReport s).host.flrCount = satTo 16 (s.host.flrCount + 1) := rfl

/-- Settles O34: each row by its own branch, a register by its place in BAR 0. -/
theorem mailboxRows : Obligations.MailboxRows := by
  unfold Obligations.MailboxRows
  refine ⟨?_, ?_, ?_, ?_, ?_, ?_, ?_, ?_, ?_, fun _ => rfl, fun _ => rfl, ?_, ?_, ?_, ?_, fun _ _ => rfl, ?_, ?_, ?_, fun _ => rfl⟩
  · intro s n h
    exact congrArg Host.Outcome.next (if_pos h)
  · intro s n h
    have hm (v : Mailbox) (i : Nat) : ((s.setMbox n v).bumpF .MBOX_STATS i 15 0).mbox n = v := ((bumpF_only ..).same (·.mbox n)).trans (mbox_setMbox_self ..)
    refine ⟨_, congrArg Host.Outcome.next (if_neg h), ?_, ?_, ?_⟩
    · rw [hm]
    · rw [hm]
    · rw [hm]
  · intro s n l hs ha hm
    exact congrArg Host.Outcome.next (if_pos (by simp [hs, ha, hm]))
  · intro s n l ha
    exact congrArg Host.Outcome.next (if_neg (by simp [ha]))
  · intro s n h
    exact congrArg Host.Outcome.next (if_pos h)
  · intro s n h
    exact congrArg Host.Outcome.next (if_neg h)
  · intro s a v b ha
    exact congrArg Host.Outcome.next (if_pos (by simp [ha]))
  · intro s a n v b h
    exact congrArg Host.Outcome.next (if_neg (by simpa [Decidable.imp_iff_not_or] using h))
  · intro s n v b hv
    have ha : (0x30000 + 0x40 * n.val) % 4 = 0 := by omega
    have h1 : ¬ 0x30000 + 0x40 * n.val = 0x1C := by omega
    have h2 : ¬ 0x30000 + 0x40 * n.val < 0x30000 := by omega
    have h3 : 0x30000 + 0x40 * n.val < 0x30400 := by omega
    have h4 : (0x30000 + 0x40 * n.val - 0x30000) / 0x40 = n := by omega
    have h5 : (0x30000 + 0x40 * n.val - 0x30000) % 0x40 = 0 := by omega
    refine congrArg Host.Outcome.next ((if_pos (by simp [ha])).trans ?_)
    rw [State.writeBar0, if_neg h1, if_neg (by simp [h2]), if_pos (by simp [h3]), h4, h5]
    exact if_pos hv
  · intro s c
    have ha : (0x4001C + c.val * 0x100) % 4 = 0 := by omega
    have h1 : ¬ 0x4001C + c.val * 0x100 = 0x0C := by omega
    have h2 : ¬ 0x4001C + c.val * 0x100 = 0x20 := by omega
    have h3 : ¬ 0x4001C + c.val * 0x100 < 0x30400 := by omega
    have h4 : 0x40000 ≤ 0x4001C + c.val * 0x100 ∧ 0x4001C + c.val * 0x100 < 0x44000 := by omega
    have h5 : (0x4001C + c.val * 0x100) % 0x100 = 0x1C := by omega
    have h6 : (0x4001C + c.val * 0x100 - 0x40000) / 0x100 = c := by omega
    have hv : bar0Value s (0x4001C + c.val * 0x100) = (s.ch c).doneCount := by
      have g1 : ¬ 0x4001C + c.val * 0x100 < 0x10000 := by omega
      have g2 : ¬ 0x4001C + c.val * 0x100 < 0x30000 := by omega
      have g5 : (0x4001C + c.val * 0x100 - 0x40000) % 0x100 = 0x1C := by omega
      rw [bar0Value, if_neg g1, if_neg g2, if_neg h3, if_pos (by simp only [h4, decide_true, Bool.and_self]), h6, g5]
      rfl
    have he : s.bar0ReadEffect (0x4001C + c.val * 0x100) = s.setCh c { s.ch c with doneCount := 0 } := by
      rw [State.bar0ReadEffect, if_neg h1, if_neg h2, if_neg (by simp [h3]), if_pos (by simp only [h4, h5, decide_true, Bool.and_self]), h6]
    refine ⟨_, congrArg Host.Outcome.next ((if_pos (by simp [ha])).trans (by rw [hv, he])), ?_, rfl⟩
    exact congrArg DmaCh.doneCount (ch_setCh_self ..)
  · intro s n
    have ha : (0x3000C + n.val * 0x40) % 4 = 0 := by omega
    have h1 : ¬ 0x3000C + n.val * 0x40 = 0x0C := by omega
    have h2 : ¬ 0x3000C + n.val * 0x40 = 0x20 := by omega
    have h4 : 0x30000 ≤ 0x3000C + n.val * 0x40 ∧ 0x3000C + n.val * 0x40 < 0x30400 := by omega
    have h5 : (0x3000C + n.val * 0x40) % 0x40 = 0x0C := by omega
    have h6 : (0x3000C + n.val * 0x40 - 0x30000) / 0x40 = n := by omega
    have hv : bar0Value s (0x3000C + n.val * 0x40) = (s.mbox n).completed :=
      (congrArg (bar0Value s) (by omega)).trans (bar0Value_mbReg s n.isLt (off := 0x0C) (by decide))
    have he : s.bar0ReadEffect (0x3000C + n.val * 0x40) = s.setMbox n { s.mbox n with completed := 0 } := by
      rw [State.bar0ReadEffect, if_neg h1, if_neg h2, if_pos (by simp only [h4, h5, decide_true, Bool.and_self]), h6]
    refine ⟨_, congrArg Host.Outcome.next ((if_pos (by simp [ha])).trans (by rw [hv, he])), ?_, rfl⟩
    exact congrArg Mailbox.completed (mbox_setMbox_self ..)
  · intro s n hn
    exact ⟨(congrArg (bar0Value s) (by omega)).trans (bar0Value_mbReg s hn (off := 4) (by decide)), bar0Value_mbReg s hn (off := 0) (by decide)⟩
  · intro s a h h'
    have g1 : ¬ a < 0x10000 := by omega
    have g2 : ¬ a < 0x30000 := by omega
    have g3 : ¬ a < 0x30400 := by omega
    have g4 : ¬ 0x40000 ≤ a := by omega
    have g5 : ¬ 0x80000 ≤ a := by omega
    have g6 : ¬ a = 0x80800 := by omega
    have g7 : ¬ a = 0x80804 := by omega
    have g8 : ¬ a = 0x0C := by omega
    have g9 : ¬ a = 0x20 := by omega
    simp [bar0Value, State.bar0ReadEffect, g1, g2, g3, g4, g5, g6, g7, g8, g9]
  · intro s o h0 h1 h2
    have hn : (List.range 3).any (fun r => (s.role r).session.isSome) = false :=
      List.any_eq_false.2 fun r hr => by
        have hr := List.mem_range.1 hr
        match r, hr with
        | 0, _ => simp [h0]
        | 1, _ => simp [h1]
        | 2, _ => simp [h2]
    have hx : exec (.bar2Access false o) s = execBar2Access false o s := rfl
    simp only [hx, execBar2Access, hn, Bool.false_and, Bool.false_eq_true, if_false]
  · intro s
    refine ⟨_, exec_functionLevelReset s, fun n hn => ?_, fun r hr => ?_, fun c hc => ?_, ?_⟩
    · rw [(flrReport_only _).same (·.mbox n), flrSessions_same (·.mbox n)]
      exact mbox_flrMailboxes (List.mem_range.2 hn) _
    · rw [(flrReport_only _).same (·.role r)]
      exact role_flrSessions (List.mem_range.2 hr) _
    · rw [(flrReport_only _).same (·.ch c), flrSessions_same (·.ch c), ch_flrMailboxes]
      exact ch_flrChannels (List.mem_range.2 hc) _
    · rw [flrCount_flrReport, flrSessions_same (·.host.flrCount), flrCount_flrMailboxes, flrCount_flrChannels]
  · intro s
    exact ⟨_, rfl, rfl, rfl, rfl, rfl, rfl, rfl⟩

end Sys2Proof.Machine
end

section
/-! PROOFS. DMA channels: states, doorbells, descriptors. -/
namespace Sys2Proof.Machine
-- One theorem after the other: side by side, their threads outgrow the memory of the check.
set_option Elab.async false

/-- Settles O35: each row by its own branch. -/
theorem dmaRows : Obligations.DmaRows := by
  unfold Obligations.DmaRows
  refine ⟨?_, ?_, ?_, ?_, ?_, ?_, ?_, ?_, ?_, ?_, ?_, ?_, ?_, ?_, ?_⟩
  · intro s c hf he
    exact congrArg Host.Outcome.next (if_neg (by simp [hf, he]))
  · intro s c hf he
    exact congrArg Host.Outcome.next (if_neg (by simp [hf, he]))
  · intro s c hf
    exact congrArg Host.Outcome.next (if_neg hf)
  · intro s c hf hs
    exact congrArg Host.Outcome.next (if_pos (by simp [hf, hs]))
  · intro s c n hf
    exact congrArg Host.Outcome.next (if_neg hf)
  · intro s c b hf
    exact congrArg Host.Outcome.next (if_neg hf)
  · intro s c n b hf
    exact ⟨congrArg Host.Outcome.next (if_pos (by simp [hf])), congrArg Host.Outcome.next (if_pos (by simp [hf])), congrArg Host.Outcome.next (if_pos hf),
      congrArg Host.Outcome.next (if_neg (by simp [hf])), congrArg Host.Outcome.next (if_pos hf), congrArg Host.Outcome.next (if_pos hf)⟩
  · intro s f m l c ht hn hb hl
    have hx : exec (.dmaMessageEnqueue f) s = execDmaMessageEnqueue f s := rfl
    have hb' : m.buf.isNone = false := by rw [← Option.not_isSome, hb, Bool.not_true]
    have hl' : ¬ dmaLimit { s with host.staged := l, host.lastOf := s.host.lastOf.set f.val (c + 1) } c <
      queueBytes (State.ch { s with host.staged := l, host.lastOf := s.host.lastOf.set f.val (c + 1) } c) + m.len := Nat.not_lt.2 hl
    refine ⟨_, by simp only [hx, execDmaMessageEnqueue, ht, hn, hb', hl', Bool.false_eq_true, if_false]; rfl, ?_, ?_, ?_⟩
    · exact congrArg DmaCh.queue (ch_setCh_self ..)
    · exact Tab.get_set_self s.host.lastOf f.val (c + 1)
    · rfl
  · intro s f m l c ht hn hb hl
    have hx : exec (.dmaMessageEnqueue f) s = execDmaMessageEnqueue f s := rfl
    have hb' : m.buf.isNone = false := by rw [← Option.not_isSome, hb, Bool.not_true]
    have hl' : dmaLimit { s with host.staged := l, host.lastOf := s.host.lastOf.set f.val (c + 1) } c <
      queueBytes (State.ch { s with host.staged := l, host.lastOf := s.host.lastOf.set f.val (c + 1) } c) + m.len := hl
    simp only [hx, execDmaMessageEnqueue, ht, hn, hb', hl', Bool.false_eq_true, if_false, if_true]
  · intro s f m l c ht hn hb
    have hx : exec (.dmaMessageEnqueue f) s = execDmaMessageEnqueue f s := rfl
    simp only [hx, execDmaMessageEnqueue, ht, hn, hb, Option.isNone_none, if_true]
  · intro s c w i hm hr hw
    exact congrArg Host.Outcome.next ((if_pos (by rw [hm, hr]; rfl)).trans (if_pos hw))
  · intro s c w i hd
    have ht : s.takeDesc c w i = _ := if_neg (ne_true_of_eq_false hd)
    refine ⟨runOfDesc (s.ch c).head w i, ?_, ?_, rfl, rfl, rfl, fun hb => ?_, fun hb => ?_⟩
    · rw [ht, ch_setCh_self]
    · rw [ht, ch_setCh_self]
    · exact if_neg (ne_true_of_eq_false hb)
    · exact ⟨if_pos hb, if_pos hb⟩
  · intro s c w i hm hr hw
    exact congrArg Host.Outcome.next ((if_pos (by rw [hm, hr]; rfl)).trans (if_neg (ne_true_of_eq_false hw)))
  · intro s c w i n hm hr hw
    have hx : exec (.dmaOwnReread c w i) s = execDmaOwnReread c w i s := rfl
    simp only [hx, execDmaOwnReread, hr, hm, hw, Bool.not_true, Bool.false_eq_true, if_false, if_true]
  · intro s c w i hm hr hw
    have hx : exec (.dmaOwnReread c w i) s = execDmaOwnReread c w i s := rfl
    have hc (v : DmaCh) (n : Nat) (k : EvKind) (a b d : Nat) : (((s.setCh c v).chError c n).raise k a b d).ch c =
        { v with state := .error, errIndex := n, run := none, burstEnded := false, rereads := none } :=
      ((raise_only ..).same (·.ch c)).trans ((ch_setCh_self ..).trans (by rw [ch_setCh_self]))
    refine ⟨_, by simp only [hx, execDmaOwnReread, hr, hm, hw, Bool.not_true, Bool.false_eq_true, if_false]; rfl, ?_, ?_, ?_, ?_, ?_⟩
    · exact congrArg DmaCh.state (hc ..)
    · exact congrArg DmaCh.descErr (hc ..)
    · exact congrArg DmaCh.errIndex (hc ..)
    · rfl
    · exact ⟨_, rfl, rfl⟩

end Sys2Proof.Machine
end

section
/-! PROOFS. DMA bursts, completions, timers and errors. -/
namespace Sys2Proof.Machine
-- One theorem after the other: side by side, their threads outgrow the memory of the check.
set_option Elab.async false

theorem burstPieces_plain {r : DescRun} {n : Nat} (he : r.elem = 0) (hn : n ≠ 0) : burstPieces r n = [((r.addr + r.moved) % 2 ^ 64, n)] := by
  simp [burstPieces, piecesFrom, he, hn]

theorem burstPieces_one {r : DescRun} {n : Nat} (hn : n ≠ 0) (he : r.elem ≠ 0) (hl : n ≤ r.elem - r.moved % r.elem) :
    burstPieces r n = [((r.addr + r.offsets.getD (r.moved / r.elem) 0 + r.moved % r.elem) % 2 ^ 64, n)] := by
  simp [burstPieces, piecesFrom, he, hn, hl]

/-- A descriptor that ends within its message, the last of fewer than 64 (R420). -/
theorem completeDesc_within {s : State} {c : Nat} {r : DescRun} {m : DmaMsg} {q : List DmaMsg} (hc : c < 32) (hr : (s.ch c).run = some r)
    (hb : (s.ch c).burstEnded = true) (hq : (s.ch c).queue = m :: q) (hm : (s.ch c).msgMoved < m.len) (hd : (s.ch c).msgDescs < 63) : ∃ t : State,
    s.completeDesc c = t.afterCompletion c r.irq ∧ (t.ch c).msgDescs = (s.ch c).msgDescs + 1 ∧
    (t.ch c).queue = m :: q ∧ (t.ch c).head = ((s.ch c).head + 1) % ringSize (s.ch c) := by
  have h1 : ((s.ch c).msgMoved == m.len) = false := beq_false_of_ne (Nat.ne_of_lt hm)
  have h2 : ((s.ch c).msgDescs == 63) = false := beq_false_of_ne (Nat.ne_of_lt hd)
  refine ⟨_, by simp only [State.completeDesc, hr, hb, hq, h1, h2, if_pos hc, Bool.not_true, Bool.not_false, Bool.and_false, Bool.false_eq_true, if_false]; rfl,
    ?_, ?_, ?_⟩
  · rw [ch_setCh_self]
  · rw [ch_setCh_self]
    exact (congrArg DmaCh.queue (ch_setCh_self ..)).trans hq
  · rw [ch_setCh_self]
    exact congrArg DmaCh.head (ch_setCh_self ..)

/-- Settles O36: a burst by its least bound, a descriptor's end by what is left of its message, the commands by their rights and checks. -/
theorem dmaBursts : Obligations.DmaBursts := by
  unfold Obligations.DmaBursts
  refine ⟨?_, ?_, fun _ _ => burstPieces_plain, fun _ _ => burstPieces_one, ?_, ?_, ?_, ?_, ?_, ?_, ?_, ?_⟩
  · intro s c l r hc hr hrun hm hb
    have hx : exec (.dmaBurst c l) s = execDmaBurst c l s := rfl
    have hc' : ¬ c.val < 32 := Nat.not_lt.2 hc
    refine ⟨_, by simp only [hx, execDmaBurst, hr, hrun, hm, hb, if_neg hc', Bool.and_self, Bool.not_true, Bool.or_self, Bool.false_eq_true, if_false]; rfl, ?_, ?_⟩
    · exact congrArg DmaCh.run (ch_setCh_self ..)
    · rfl
  · intro s c l r m q hc hr hrun hm hb hq n
    have hx : exec (.dmaBurst c l) s = execDmaBurst c l s := rfl
    refine ⟨_, by simp only [hx, execDmaBurst, hr, hrun, hm, hb, hq, if_pos hc, Bool.and_self, Bool.not_true, Bool.or_self, Bool.false_eq_true, if_false]; rfl, ?_, ?_⟩
    · exact congrArg DmaCh.msgMoved (ch_setCh_self ..)
    · rfl
  · intro s c hf hr hw
    exact congrArg Host.Outcome.next (if_pos (by simp [hf, hr, hw]))
  · intro s c r m q hc hr hrun hb hq hm hd
    obtain ⟨t, ht, h⟩ := completeDesc_within hc hr hb hq hm hd
    exact ⟨t, congrArg Host.Outcome.next ((if_pos hrun).trans ht), h⟩
  · intro s c hu
    exact congrArg Host.Outcome.next (if_neg hu)
  · intro s c b hrun hr
    have hx : exec (.dmaBusError c b) s = execDmaBusError c b s := rfl
    have hc (u : State) (v : DmaCh) (n k a d : Nat) : ((((u.setCh c v).chError c n).bumpF .PCIE_ERR_COUNT 0 15 0).raise .DMA_BUS_ERR k a d).ch c =
        { v with state := .error, errIndex := n, run := none, burstEnded := false, rereads := none } :=
      ((raise_only ..).same (·.ch c)).trans (((bumpF_only ..).same (·.ch c)).trans ((ch_setCh_self ..).trans (by rw [ch_setCh_self])))
    refine ⟨_, by simp only [hx, execDmaBusError, hrun, hr, Bool.not_true, Bool.false_eq_true, if_false]; rfl, ?_, ?_, ?_, ?_⟩
    · exact congrArg DmaCh.state (hc ..)
    · exact congrArg DmaCh.busErr (hc ..)
    · exact congrArg DmaCh.errIndex (hc ..)
    · exact ⟨_, congrArg (· ++ [_]) ((dropMessage_only s c).same (·.ev.transit)), rfl⟩
  · intro s mb c n f h hr hn hf hf' hs o
    have hp : (funcRoles f).testBit c.role = true := by
      rw [hr]
      match f, hf, hf' with
      | 1, _, _ => decide
      | 2, _, _ => decide
      | 3, _, _ => decide
      | 4, _, _ => decide
    refine congrArg Host.Outcome.next (commandWith_done h (if_neg (by simp [hp])) ((if_neg ?_).trans (if_neg ?_)))
    · simp
      omega
    · rw [show (begun s mb c).ch n = s.ch n from rfl, hs]
      decide
  · intro s mb c n h hr
    exact congrArg Host.Outcome.next (commandWith_refused h (if_pos (by rw [hr]; decide)))
  · intro s mb c n h hr hn hf hf'
    have hp : (funcRoles (s.ch n).func).testBit c.role = true := by
      rw [hr, funcRoles]
      split <;> decide
    have hp' : (funcRoles ((begun s mb c).ch n).func).testBit c.role = true := hp
    refine ⟨_, congrArg Host.Outcome.next (commandWith_done h (if_neg (by simp only [hp']; simp)) ((if_neg (Nat.not_le.2 hn)).trans (if_neg hf))), ?_, ?_, ?_⟩
    · exact congrArg DmaCh.func (ch_setCh_self ..)
    · exact congrArg DmaCh.state (ch_setCh_self ..)
    · exact congrArg DmaCh.enable (ch_setCh_self ..)
  · intro s mb c h
    exact ⟨_, next_done h rfl⟩

end Sys2Proof.Machine
end

section
/-! PROOFS. Identity, parameter and counter commands. -/
namespace Sys2Proof.Machine
-- One theorem after the other: side by side, their threads outgrow the memory of the check.
set_option Elab.async false

theorem get_writePar_self (s : State) (p : Param) (i : Nat) (v : Int) : (s.writePar p i v).get p i = v := by
  have h : (s.writePar p i v).par.vals.get (pkey p i) = some v := by
    unfold State.writePar
    dsimp only
    split <;> exact Tab.get_set_self s.par.vals (pkey p i) (some v)
  rw [State.get, h, Option.getD_some]

/-- An entry that names a counter reads it, and without CLEAR changes nothing. -/
theorem readEntry_ok {u s : State} {e : ParEntry} {p : Param} (h : entryParam e = .ok p) :
    readEntry u false s e = (s, .ok, parOut e .ok (paramValue u p e.inst)) := by
  simp only [readEntry, h, Bool.false_eq_true, if_false]

theorem runEntries_snapshot (u : State) {l : List ParEntry} (h : ∀ e ∈ l, ∃ p, entryParam e = .ok p) :
    entriesCmd (readEntry u false) u l = (u, .done .ok (l.length * 2 ^ 16 + 0xFFFF) (runEntries (readEntry u false) u 0 l).2.2.2) := by
  have hst : ∀ (s : State) (l : List ParEntry), (∀ e ∈ l, ∃ p, entryParam e = .ok p) →
      (∀ x ∈ entryStatuses (readEntry u false) s l, applied x = true) ∧ l.foldl (fun s e => (readEntry u false s e).1) s = s := by
    intro s l
    induction l generalizing s with
    | nil => intro _; exact ⟨nofun, rfl⟩
    | cons e l ih =>
      intro h
      obtain ⟨he, hl⟩ := List.forall_mem_cons.1 h
      obtain ⟨p, hp⟩ := he
      obtain ⟨h1, h2⟩ := ih s hl
      simp only [entryStatuses, List.foldl_cons, readEntry_ok hp]
      exact ⟨List.forall_mem_cons.2 ⟨rfl, h1⟩, h2⟩
  obtain ⟨h1, h2⟩ := hst u l h
  have hn : (runEntries (readEntry u false) u 0 l).2.1 = l.length := by
    rw [runEntries_count, List.filter_eq_self.2 h1, length_entryStatuses]
  simp only [entriesCmd, runEntries_good _ u 0 l h1, hn, runEntries_state, h2, entriesReply]

/-- An atomic write with a failing entry writes none and names the first (R446). -/
theorem writeAtomic_fails {s : State} {role : Nat} {l : List ParEntry} {x : Status} {i : Nat}
    (h : (l.map (jointStatus s (s.writeAll role l) role)).zipIdx.find? (fun x => x.1 != .ok) = some (x, i)) :
    ∃ b, writeAtomic s role l = (s, .done x i b) := by
  refine ⟨((l.zip (l.map (jointStatus s (s.writeAll role l) role))).map (fun x => parOut x.1 x.2 x.1.value)).flatten, ?_⟩
  simp only [writeAtomic, h]

/-- Settles O37: each command by what its entries do. -/
theorem paramCommands : Obligations.ParamCommands := by
  unfold Obligations.ParamCommands
  refine ⟨?_, ?_, ?_, ?_, ?_, get_writePar_self, ?_, ?_, ?_, ?_, fun _ => rfl⟩
  · intro s mb c h
    exact ⟨next_done h rfl, rfl⟩
  · intro s mb c l h hl r hr
    refine next_done h ?_
    have he : entriesCmd (readEntry (begun s mb c) true) (begun s mb c) l = (r.1, .done .ok (r.2.1 * 2 ^ 16 + 0xFFFF) r.2.2.2) := by
      rw [entriesCmd]
      show (r.1, entriesReply r.2.1 r.2.2.1 r.2.2.2) = _
      rw [hr]
      rfl
    simp only [hl, he]
  · intro s u e p hp hr
    simp [readEntry, hp, State.clearRo, hr]
  · intro s mb c e p h hl hb hr hc
    refine next_done h ?_
    have he : writeEntry c.role (begun s mb c) e = (((begun s mb c).writePar p e.inst e.value).applied p e.inst, .ok, parOut e .ok e.value) := by
      simp only [writeEntry, hr, hc]
    simp only [hl, hb, Bool.false_eq_true, if_false, entriesCmd_one he]
  · intro s mb c l x i h hl hb hx
    obtain ⟨b, he⟩ := writeAtomic_fails hx
    refine ⟨b, next_done h ?_⟩
    simp only [hl, hb, if_true, he]
  · intro s mb c k i p h hp hlo hhi
    refine next_done h ?_
    simp only [hp]
    exact if_neg (by simp [hlo, hhi])
  · intro s mb c k i p h hp hi
    refine next_done h ?_
    simp only [hp]
    exact if_pos (by simpa using hi)
  · intro s mb c k i h hp
    refine next_done h ?_
    simp only [hp]
    rfl
  · intro s mb c l h hl hb hp
    refine ⟨(runEntries (readEntry (begun s mb c) false) (begun s mb c) 0 l).2.2.2, next_done h ?_⟩
    simp only [hl, hb, runEntries_snapshot (begun s mb c) hp]

end Sys2Proof.Machine
end

section
/-! PROOFS. Firmware update. -/
namespace Sys2Proof.Machine
-- One theorem after the other: side by side, their threads outgrow the memory of the check.
set_option Elab.async false

theorem pairState_setPairState_self (s : State) (b : Bool) (v : PairState) : pairState (s.setPairState b v) b = v := by
  cases b <;> rfl

/-- Settles O38: each command by its checks, in order, each row by its own branch. -/
theorem firmwareRows : Obligations.FirmwareRows := by
  unfold Obligations.FirmwareRows
  refine ⟨?_, ?_, ?_, ?_, ?_, ?_, ?_⟩
  · intro s mb c
    dsimp only
    intro h hp h0 hn hl ho
    have hp' : (begun s mb c).fw.progress = .none := hp
    have hi : bodyWord c 1 ≤ imageSize := Nat.le_trans hn (by decide)
    refine next_done h ?_
    simp only [hp', ho]
    refine (if_neg (by decide)).trans ((if_neg ?_).trans (if_neg (by simp)))
    simp [h0, hl, hn, hi]
  · intro s mb c x h hp hd hd' hs hv hf
    have hc : ((begun s mb c).fw.progress != .none || decide ((begun s mb c).power.dev = .hibernate) ||
        decide ((begun s mb c).power.dev = .hibernateExit)) = false := by
      simp [hp, hd, hd']
    have hs' : (pairState (begun s mb c) (!(begun s mb c).fw.pairB) != .standby) = false := by
      rw [show pairState (begun s mb c) (!(begun s mb c).fw.pairB) = .standby from hs]; rfl
    have hv' : (!imageValid (begun s mb c) x) = false := by rw [show imageValid (begun s mb c) x = true from hv]; rfl
    have hf' : (x.stateFormat != (begun s mb c).fw.header.stateFormat) = false := by simp [hf]
    refine ⟨_, next_wait h ((if_neg (ne_true_of_eq_false hc)).trans ((if_neg (ne_true_of_eq_false hs')).trans
      ((if_neg (ne_true_of_eq_false hv')).trans (if_neg (ne_true_of_eq_false hf'))))), ?_, ?_⟩
    · exact (setPairState_only ..).same (·.fw.progress)
    · exact pairState_setPairState_self ..
  · intro s mb c x h hp hd hd' hs hv
    have hc : ((begun s mb c).fw.progress != .none || decide ((begun s mb c).power.dev = .hibernate) ||
        decide ((begun s mb c).power.dev = .hibernateExit)) = false := by
      simp [hp, hd, hd']
    have hs' : (pairState (begun s mb c) (!(begun s mb c).fw.pairB) != .standby) = false := by
      rw [show pairState (begun s mb c) (!(begun s mb c).fw.pairB) = .standby from hs]; rfl
    have hv' : (!imageValid (begun s mb c) x) = true := by rw [show imageValid (begun s mb c) x = false from hv]; rfl
    exact next_done h ((if_neg (ne_true_of_eq_false hc)).trans ((if_neg (ne_true_of_eq_false hs')).trans (if_pos hv')))
  · intro s hp
    have hx : exec .fwRebuildTimeout s = execFwRebuildTimeout s := rfl
    refine ⟨_, by simp only [hx, execFwRebuildTimeout, hp, beq_self_eq_true, if_true]; rfl, ?_, ?_, ?_⟩
    · exact ((updateFail_only ..).same (·.fw.progress)).trans ((setPairState_only ..).same (·.fw.progress))
    · exact ((updateFail_only ..).same (pairState · _)).trans (pairState_setPairState_self ..)
    · exact ⟨_, congrArg (· ++ [_]) ((setPairState_only ..).same (·.ev.transit)), rfl⟩
  · intro s hp
    have hx : exec (.fwStandbyLoadDone true) s = execFwStandbyLoadDone true s := rfl
    refine ⟨_, by simp only [hx, execFwStandbyLoadDone, hp, beq_self_eq_true, if_true]; rfl, ?_, ?_⟩
    · exact (setPairState_only ..).same (·.fw.progress)
    · exact pairState_setPairState_self ..
  · intro s mb c h
    exact ⟨_, next_done h rfl, rfl, rfl⟩
  · intro s mb c h
    exact ⟨_, next_done h rfl⟩

end Sys2Proof.Machine
end

section
/-! PROOFS. Roles and sessions. -/
namespace Sys2Proof.Machine
-- One theorem after the other: side by side, their threads outgrow the memory of the check.
set_option Elab.async false

theorem key_splitKey (s : State) (v : KeyVal) : (s.splitKey v).1.key = v.key := by
  show (s.takeBits keyGen shareOutputs).1 ^^^ (v.key ^^^ (s.takeBits keyGen shareOutputs).1) = v.key
  rw [Nat.xor_comm v.key, ← Nat.xor_assoc, Nat.xor_self, Nat.zero_xor]

theorem roleKey_loadKey (s : State) (r : Nat) (v : KeyVal) : roleKey (s.loadKey (sessionSlot r) v) r = v.key := by
  have h : ((s.loadKey (sessionSlot r) v).slot (sessionSlot r)).cur = some (s.splitKey v).1 := by
    unfold State.loadKey
    exact congrArg KeySlot.cur (slot_setSlot_self ..)
  show (((s.loadKey (sessionSlot r) v).slot (sessionSlot r)).cur.map (·.key)).getD 0 = v.key
  rw [h]
  exact key_splitKey s v

/-- A credential stored is kept wrapped under the storage key (R460, R461). -/
theorem storeCredential_key {s : State} {c : Cmd} {k v w : Nat} (r : Nat) (hk : c.key = some k) (hv : Config.keyUnwrap k w = some v) :
    storeCredential s c r w = some (s.setRole r { s.role r with wrapped := some (Config.keyWrap Config.storageKey v) }) := by
  simp [storeCredential, hk, hv]

theorem storeCredential_none {s : State} {c : Cmd} {k w : Nat} (r : Nat) (hk : c.key = some k) (hv : Config.keyUnwrap k w = none) :
    storeCredential s c r w = none := by
  simp [storeCredential, hk, hv]

theorem credential_setRole_challenge (s : State) (r : Nat) (q : Option Challenge) :
    credential (s.setRole r { s.role r with challenge := q }) r = credential s r := by
  unfold credential
  split
  · rfl
  · rfl
  · rw [role_setRole_self]

theorem wrapped_closeSession_self (s : State) (r : Nat) : ((s.closeSession r).role r).wrapped = (s.role r).wrapped := by
  unfold State.closeSession
  split
  · rfl
  · have hr : ((s.endSession r).role r).wrapped = (s.role r).wrapped := by rw [role_endSession, role_setRole_self]
    exact hr

theorem challenge_closeSession_self (s : State) (r : Nat) : ((s.closeSession r).role r).challenge = (s.role r).challenge := by
  unfold State.closeSession
  split
  · rfl
  · have hr : ((s.endSession r).role r).challenge = (s.role r).challenge := by rw [role_endSession, role_setRole_self]
    exact hr

theorem audit_endSession (s : State) (r : Nat) : (s.endSession r).roles.audit = s.roles.audit := (endSession_only s r).same (·.roles.audit)

/-- A session that ends is audited (R463). -/
theorem audit_closeSession {s : State} {r : Nat} (h : (s.role r).session.isSome = true) :
    (s.closeSession r).roles.audit.next = s.roles.audit.next + 1 := by
  obtain ⟨v, hv⟩ := Option.isSome_iff_exists.1 h
  simp only [State.closeSession, hv]
  exact congrArg (·.next + 1) (audit_endSession s r)

def drawnChallenge (s : State) (c : Cmd) : Challenge :=
  ⟨Config.freeNat s.free % (2 ^ 32 - 1) + 1, leNat ((c.body.drop 4).take 16), Config.freeNat (s.free + 1) % 2 ^ 128, s.up⟩

/-- The right answer given, the role's session is that of the challenge, its key in the role's slot (R462). -/
def authDone (s : State) (r cred : Nat) (q : Challenge) : State :=
  let s := (s.closeSession r).loadKey (sessionSlot r) ⟨sessionKey cred r q, true⟩
  s.setRole r { s.role r with session := some { id := q.id, lastUse := s.up } }

theorem up_closeSession (s : State) (r : Nat) : (s.closeSession r).up = s.up := (closeSession_only s r).same (·.up)

theorem session_authDone (s : State) (r k : Nat) (q : Challenge) :
    ((authDone s r k q).role r).session = some { id := q.id, lastUse := s.up } := by
  unfold authDone
  rw [role_setRole_self, (loadKey_only ..).same (·.up), up_closeSession]

theorem challenge_authDone (s : State) (r k : Nat) (q : Challenge) : ((authDone s r k q).role r).challenge = (s.role r).challenge := by
  unfold authDone
  rw [role_setRole_self, (loadKey_only ..).same (·.role r)]
  exact challenge_closeSession_self s r

theorem roleKey_authDone (s : State) (r k : Nat) (q : Challenge) : roleKey (authDone s r k q) r = sessionKey k r q :=
  roleKey_loadKey (s.closeSession r) r ⟨sessionKey k r q, true⟩

/-- Settles O39: each command by its refusals, in order, each row by its own branch. -/
theorem sessionRows : Obligations.SessionRows := by
  unfold Obligations.SessionRows
  refine ⟨?_, ?_, ?_, ?_, ?_, ?_, ?_, ?_, ?_, ?_, ?_⟩
  · intro s mb c h hr
    have hr' : openRefusal (begun s mb c) (bodyWord c 0) = none := hr
    refine ⟨({ begun s mb c with free := s.free + 1 + 1 } : State).setRole (bodyWord c 0)
      { s.role (bodyWord c 0) with challenge := some (drawnChallenge s c) }, drawnChallenge s c, next_done h ?_, ?_, ?_, ?_, rfl⟩
    · simp only [hr']
      rfl
    · exact congrArg RoleState.challenge (role_setRole_self ..)
    · exact Nat.succ_ne_zero _
    · exact Nat.succ_lt_succ (Nat.mod_lt _ (by decide))
  · intro s mb c x h hr
    have hr' : openRefusal (begun s mb c) (bodyWord c 0) = some x := hr
    refine next_done h ?_
    simp only [hr']
    rfl
  · intro s mb c r k q h hf hm ht hc
    have hf' : findChallenge (begun s mb c) (bodyWord c 0) = some (r, q) := hf
    have hm' : ¬ (decide (r = 2) && !c.maker) = true := by simpa using hm
    have ht' : ¬ second < s.up - q.opened := Nat.not_lt.2 ht
    have hc' : credential ((begun s mb c).setRole r { s.role r with challenge := none }) r = some k :=
      (credential_setRole_challenge (begun s mb c) r none).trans hc
    split
    · next ha =>
      refine ⟨authDone ((begun s mb c).setRole r { s.role r with challenge := none }) r k q, next_done h ?_, ?_, ?_, ?_⟩
      · simp only [hf']
        refine (if_neg hm').trans ((if_neg ht').trans ?_)
        simp only [show (begun s mb c).role r = s.role r from rfl, hc', if_pos ha]
        rfl
      · exact (challenge_authDone ..).trans (by rw [role_setRole_self])
      · exact session_authDone ..
      · exact roleKey_authDone ..
    · next ha =>
      refine next_done h ?_
      simp only [hf']
      refine (if_neg hm').trans ((if_neg ht').trans ?_)
      simp only [show (begun s mb c).role r = s.role r from rfl, hc', if_neg ha]
      rfl
  · intro s mb c r q h hf hm ht
    have hf' : findChallenge (begun s mb c) (bodyWord c 0) = some (r, q) := hf
    have hm' : ¬ (decide (r = 2) && !c.maker) = true := by simpa using hm
    refine next_done h ?_
    simp only [hf']
    exact (if_neg hm').trans (if_pos ht)
  · intro s mb c v h hs hv
    have hs' : ((begun s mb c).role c.role).session = some v := hs
    refine ⟨(begun s mb c).endSession c.role, next_done h ?_, ?_⟩
    · simp only [hs', if_pos hv]
      rfl
    · rw [role_endSession, role_setRole_self]
  · intro s r
    exact ⟨_, rfl, session_closeSession_self .., audit_closeSession⟩
  · intro s r
    refine ⟨_, rfl, ?_, ?_⟩
    · rw [role_setRole_self]
    · rw [role_setRole_self]
  · intro s hm
    have hx : exec (.makerEnChange false) s = execMakerEnChange false s := rfl
    refine ⟨_, by simp only [hx, execMakerEnChange, hm, Bool.true_eq_false, Bool.false_eq_true, if_false]; rfl, ?_, ?_, ?_⟩
    · exact (closeSession_only ..).same (·.roles.makerEn)
    · exact session_closeSession_self ..
    · exact ⟨_, congrArg (· ++ [_]) ((closeSession_only ..).same (·.ev.transit)), rfl⟩
  · intro s mb c w h he
    exact next_done h (if_pos he)
  · intro s mb c w k h he hk
    have he' : ¬ (begun s mb c).roles.enrolled = true := by rw [show (begun s mb c).roles.enrolled = false from he]; decide
    split
    · next v hv =>
      refine ⟨_, next_done h ((if_neg he').trans (by simp only [storeCredential_key 1 hk hv]; rfl)), ?_, ?_, ?_⟩
      · exact (closeSession_only ..).same (·.roles.enrolled)
      · refine (congrArg RoleState.wrapped (role_closeSession_ne _ (by decide : 3 ≠ 1))).trans ?_
        exact congrArg RoleState.wrapped (role_setRole_self ..)
      · exact session_closeSession_self ..
    · next hv =>
      exact next_done h ((if_neg he').trans (by simp only [storeCredential_none 1 hk hv]; rfl))
  · intro s mb c w k h hk
    split
    · next v hv =>
      refine ⟨_, next_done h (by simp only [storeCredential_key 0 hk hv]; rfl), ?_, ?_⟩
      · exact (wrapped_closeSession_self ..).trans (by rw [role_setRole_self])
      · exact session_closeSession_self ..
    · next hv =>
      exact next_done h (by simp only [storeCredential_none 0 hk hv]; rfl)

end Sys2Proof.Machine
end

section
/-! PROOFS. Audit trail and calibration overlay. -/
namespace Sys2Proof.Machine
-- One theorem after the other: side by side, their threads outgrow the memory of the check.
set_option Elab.async false

theorem length_ring_auditAdd (s : State) (r : AuditRec) : (s.auditAdd r).roles.audit.ring.length = min 4096 (s.roles.audit.ring.length + 1) := by
  have h (l : List (Nat × AuditRec × Nat)) (x : Nat × AuditRec × Nat) :
      ((l ++ [x]).drop ((l ++ [x]).length - 4096)).length = min 4096 (l.length + 1) := by
    rw [List.length_drop, List.length_append, List.length_singleton]
    omega
  unfold State.auditAdd
  dsimp only
  rw [h]

/-- Storing a later version in the place of the older overlay makes it the stored version (R470). -/
theorem max_replace_older {a b v : Nat} (h : max a b < v) : (if a ≤ b then max v b else max a v) = v := by
  split <;> omega

/-- The overlay stored in the place of the older of the two. -/
theorem storedVersion_place (s : State) (o : Overlay) :
    storedVersion { (if decide ((s.roles.overlayA.map (·.version)).getD 0 ≤ (s.roles.overlayB.map (·.version)).getD 0) then
        { s with roles.overlayA := some o } else { s with roles.overlayB := some o }) with roles.overlay := some o } =
      if (s.roles.overlayA.map (·.version)).getD 0 ≤ (s.roles.overlayB.map (·.version)).getD 0 then
        max o.version ((s.roles.overlayB.map (·.version)).getD 0) else max ((s.roles.overlayA.map (·.version)).getD 0) o.version := by
  by_cases h : (s.roles.overlayA.map (·.version)).getD 0 ≤ (s.roles.overlayB.map (·.version)).getD 0
  · rw [decide_eq_true h, if_pos h]
    rfl
  · rw [decide_eq_false h, if_neg h]
    rfl

/-- Settles O40: the trail by its ring, the commands by their checks, in order. -/
theorem auditRows : Obligations.AuditRows := by
  unfold Obligations.AuditRows
  refine ⟨?_, ?_, ?_, ?_, ?_, ?_, ?_, ?_, ?_⟩
  · exact fun s r => ⟨rfl, length_ring_auditAdd s r⟩
  · intro s h
    have hx : exec .auditSummary s = execAuditSummary s := rfl
    refine ⟨_, by simp only [hx, execAuditSummary, if_pos h]; rfl, ?_, ?_⟩ <;> rfl
  · intro s h
    have hx : exec .auditSummary s = execAuditSummary s := rfl
    refine ⟨_, by simp only [hx, execAuditSummary, if_neg h]; rfl, ?_, ?_, ?_⟩ <;> rfl
  · intro s h
    refine ⟨_, congrArg Host.Outcome.next (if_neg h), ?_, ?_⟩
    · exact (releaseHeld_only ..).same (·.roles.audit.persisted)
    · exact (releaseHeld_only ..).same (·.roles.audit.failing)
  · intro s h
    exact ⟨_, congrArg Host.Outcome.next (if_pos h), rfl, rfl, _, rfl, rfl⟩
  · intro s mb c b n h hn hn' hb
    obtain ⟨e, he⟩ := Option.isSome_iff_exists.1 hb
    have he' : (begun s mb c).roles.audit.ring.find? (fun e => e.1 == b) = some e := he
    exact ⟨_, next_done h (by refine (if_neg (by simp [hn, hn'])).trans ?_; simp only [he']; rfl)⟩
  · intro s mb c b n h hn hn' hb
    have hb' : (begun s mb c).roles.audit.ring.find? (fun e => e.1 == b) = none := hb
    refine next_done h ((if_neg (by simp [hn, hn'])).trans ?_)
    simp only [hb']
    rfl
  · intro s mb c k i h hi
    exact ⟨_, next_done h (if_pos hi)⟩
  · intro s mb c
    dsimp only
    intro h hn hn' hl hv hm ha
    have hn2 : ¬ (decide (bodyWord c 1 = 0) || decide (240 < bodyWord c 1) || c.body.length != 8 + 16 * bodyWord c 1 + 16) = true := by
      simp [hn, Nat.not_lt.2 hn', hl]
      omega
    have hv' : ¬ bodyWord c 0 ≤ storedVersion (begun s mb c) := Nat.not_le.2 hv
    split
    · next hs =>
      have hs' : ((credential (begun s mb c) 1).map (fun k => Config.cmac k (c.body.take (8 + 16 * bodyWord c 1))) !=
          some (c.body.drop (8 + 16 * bodyWord c 1))) = false := by
        rw [show credential (begun s mb c) 1 = credential s 1 from rfl, hs, bne_self_eq_false]
      refine ⟨_, next_done h ((if_neg hn2).trans ((if_neg (ne_true_of_eq_false hs')).trans ((if_neg hv').trans (if_pos (by rw [hm, ha]; rfl))))), ?_, ?_⟩
      · rfl
      · exact (storedVersion_place ..).trans (max_replace_older hv)
    · next hs =>
      refine next_done h ((if_neg hn2).trans (if_pos ?_))
      exact bne_iff_ne.2 hs

end Sys2Proof.Machine
end

section
/-! PROOFS. Faults, fences, recovery and spares. -/
namespace Sys2Proof.Machine
-- One theorem after the other: side by side, their threads outgrow the memory of the check.
set_option Elab.async false

/-- A report of a block that waits behind another (R482). -/
theorem take_block_waits {s : State} {f : FaultReport} {x : FaultEntry} (hl : addrLevel f.unit = 2) (hh : heldAbove s f.unit = false)
    (hf : behindFence s f.unit = false) (hs : (s.handler (regionAddr (addrRegion f.unit))).slot = some x) (hx : x.unit ≠ f.unit) (hsp : x.spare = none)
    (hq : ∀ e ∈ (s.handler (regionAddr (addrRegion f.unit))).queue, e.unit ≠ f.unit)
    (hn : (s.handler (regionAddr (addrRegion f.unit))).queue.length < 4) :
    s.take f = s.setHandler (regionAddr (addrRegion f.unit)) { s.handler (regionAddr (addrRegion f.unit)) with
      queue := (s.handler (regionAddr (addrRegion f.unit))).queue ++ [{ unit := f.unit, cause := f.cause, since := s.up, origin := f.unit }] } := by
  have h1 : ¬ addrLevel f.unit = 1 := by omega
  have hi : inSlot (s.handler (regionAddr (addrRegion f.unit))) f.unit = false := by simp [inSlot, hs, hx, hsp]
  have hany : (s.handler (regionAddr (addrRegion f.unit))).queue.any (fun x => x.unit == f.unit) = false :=
    List.any_eq_false.2 fun e he => by simpa using hq e he
  have hnone : (s.handler (regionAddr (addrRegion f.unit))).slot.isNone = false := by rw [hs]; rfl
  unfold State.take
  refine (if_neg h1).trans ((if_pos hl).trans ?_)
  unfold State.reportBlock
  exact (if_neg (ne_true_of_eq_false hh)).trans ((if_neg (ne_true_of_eq_false hf)).trans ((if_neg (ne_true_of_eq_false hi)).trans
    ((if_neg (ne_true_of_eq_false hany)).trans ((if_neg (ne_true_of_eq_false hnone)).trans (if_pos hn)))))

/-- Settles O41: a report by its handler's state, a row by its own branch. -/
theorem faultRows : Obligations.FaultRows := by
  unfold Obligations.FaultRows
  refine ⟨?_, ?_, ?_, ?_, fun _ _ _ => ⟨_, rfl, rfl⟩, ?_, fun _ _ _ => rfl, fun _ _ _ => ⟨rfl, rfl⟩, ?_, ?_, ?_, ?_, ?_, ?_⟩
  · intro s f l h
    have hx : exec .faultReport s = execFaultReport s := rfl
    simp only [hx, execFaultReport, h]
  · intro s f hl hh hf
    have h1 : ¬ addrLevel f.unit = 1 := by omega
    exact (if_neg h1).trans ((if_pos hl).trans ((if_neg (ne_true_of_eq_false hh)).trans (if_pos hf)))
  · intro s f hl hh
    exact (if_pos hl).trans (if_pos hh)
  · intro s f x a hl hh hf hs hx hsp hq hn
    exact take_block_waits hl hh hf hs hx hsp hq hn
  · intro s b k
    exact ⟨_, rfl, rfl, _, rfl, rfl⟩
  · intro s b hs hf hc hh
    have hu (v : UnitRec) : ((s.setUnit (instAddr b) v).raiseUnit .UNIT_SLOW (instAddr b) 1).unit (instAddr b) = v :=
      ((raise_only ..).same (·.unit (instAddr b))).trans (unit_setUnit_self ..)
    have hr : roleOf ((s.setUnit (instAddr b) { s.unit (instAddr b) with slow := true }).raiseUnit .UNIT_SLOW (instAddr b) 1) (instAddr b) =
        roleOf s (instAddr b) := by
      unfold roleOf
      rw [hu]
    refine ⟨(s.setUnit (instAddr b) { s.unit (instAddr b) with slow := true }).raiseUnit .UNIT_SLOW (instAddr b) 1,
      congrArg Host.Outcome.next ((if_neg (by simp [hs, hf])).trans (if_pos ?_)), ?_, rfl⟩
    · rw [hr]
      exact hc
    · rw [hu]
  · intro s u h
    exact congrArg Host.Outcome.next (if_pos h)
  · intro s r e n hs he
    have hx : exec (.blockReplacementDone r) s = execBlockReplacementDone r s := rfl
    simp only [hx, execBlockReplacementDone, hs, he]
  · intro s e hs
    have hx : exec (.regionRestartDone false) s = execRegionRestartDone false s := rfl
    simp only [hx, execRegionRestartDone, hs, Bool.not_false, if_true]
  · intro s a e ha hl hs
    have hx : exec (.recoveryTimeout a) s = execRecoveryTimeout a s := rfl
    have ha' : ¬ a.toNat = 0 := fun h => ha (BitVec.eq_of_toNat_eq h)
    simp only [hx, execRecoveryTimeout, hs, if_neg ha', if_pos hl]
  · intro s a e ha hl hs
    have hx : exec (.recoveryTimeout a) s = execRecoveryTimeout a s := rfl
    have ha' : ¬ a.toNat = 0 := fun h => ha (BitVec.eq_of_toNat_eq h)
    have hl' : ¬ addrLevel a.toNat = 2 := by omega
    simp only [hx, execRecoveryTimeout, hs, if_neg ha', if_neg hl']

end Sys2Proof.Machine
end

section
/-! PROOFS. Repairs, readmission and control pairs. -/
namespace Sys2Proof.Machine
-- One theorem after the other: side by side, their threads outgrow the memory of the check.
set_option Elab.async false

/-- An index whose entry satisfies `p`, which what an unlisted index reads as does not, is listed. -/
theorem mem_keys_of_getD {α : Type} (d : α) (p : Nat → α → Bool) (t : Tab α) (i : Nat) (hd : p i d = false) (h : p i (Tab.getD d t i) = true) :
    i ∈ Tab.keys t p := by
  induction t with
  | nil => exact absurd h (ne_true_of_eq_false hd)
  | cons e t ih =>
    obtain ⟨k, v⟩ := e
    rw [Tab.getD] at h
    unfold Tab.keys at ih ⊢
    by_cases hk : k = i
    · subst hk
      rw [if_pos rfl] at h
      rw [List.filter_cons_of_pos (p := fun c : Nat × α => p c.1 c.2) h]
      exact List.mem_cons_self
    · rw [if_neg hk] at h
      rw [List.filter_cons]
      split
      · exact List.mem_cons_of_mem _ (ih h)
      · exact ih h

theorem unitState_eq {s : State} {u : Nat} {x : UnitState} (h : (s.unit u).state = some x) : unitState s u = x := by
  rw [unitState, h, Option.getD_some]

theorem unit_condemn_self (s : State) (u cause : Nat) :
    (s.condemn u cause).unit u = { s.unit u with state := some .condemned, cause := cause, testDue := false, testPoints := 0 } := by
  unfold State.condemn
  exact ((raiseUnit_only ..).same (·.unit u)).trans (((logRepair_only ..).same (·.unit u)).trans (unit_setUnit_self ..))

theorem state_readmit_self (s : State) (u : Nat) : ((s.readmit u).unit u).state = some .spare := by
  unfold State.readmit State.toSpare
  exact congrArg UnitRec.state (((raiseUnit_only ..).same (·.unit u)).trans (((logRepair_only ..).same (·.unit u)).trans (unit_setUnit_self ..)))

/-- A unit's readmission test, due or done. -/
def setTestDue (b : Bool) (s : State) (u : Nat) : State := s.setUnit u { s.unit u with testDue := b }

theorem testDue_foldl_setTestDue (b : Bool) (l : List Nat) (s : State) (u : Nat) (h : u ∈ l ∨ (s.unit u).testDue = b) :
    ((l.foldl (setTestDue b) s).unit u).testDue = b :=
  foldl_each (P := fun v : UnitRec => v.testDue = b) State.unit (fun s i => congrArg UnitRec.testDue (unit_setUnit_self s i _))
    (fun _ _ _ h => unit_setUnit_ne _ _ h) l u s h

theorem window_foldl_setTestDue (b : Bool) (l : List Nat) (s : State) : (l.foldl (setTestDue b) s).fault.window = s.fault.window :=
  foldl_same (·.fault.window) (g := setTestDue b) (fun _ _ => rfl) l s

theorem pairTesting_setTesting_self (s : State) (b v : Bool) : pairTesting (s.setTesting b v) b = v := by
  cases b <;> rfl

/-- A third passed test in time makes the unit a spare (R501). -/
theorem readmissionTestDone_third {s : State} {u : Word} (hd : (s.unit u.toNat).testDue = true) (hs : (s.unit u.toNat).state = some .iced)
    (hp : (s.unit u.toNat).testPoints = 2) (ht : s.up - (s.unit u.toNat).firstTest ≤ s.getN .READMIT_DAYS * 86400 * second) : ∃ t : State,
    exec (.readmissionTestDone u true) s = .next t ∧ unitState t u.toNat = .spare := by
  have hx : exec (.readmissionTestDone u true) s = execReadmissionTestDone u true s := rfl
  have hlate : ((s.unit u.toNat).testPoints != 0 && decide (s.getN .READMIT_DAYS * 86400 * second < s.up - (s.unit u.toNat).firstTest)) = false := by
    rw [decide_eq_false (Nat.not_lt.2 ht), Bool.and_false]
  have hn : ¬ (s.unit u.toNat).testPoints + 1 < 3 := by omega
  refine ⟨_, by simp only [hx, execReadmissionTestDone, hd, hs, hlate, if_neg hn, Bool.not_true, bne_self_eq_false, Bool.or_self, Bool.false_eq_true, if_false]; rfl, unitState_eq ?_⟩
  exact (congrArg UnitRec.state ((auditReadmit_only ..).same (·.unit u.toNat))).trans (state_readmit_self ..)

/-- Settles O42: each row by its own branch. -/
theorem repairRows : Obligations.RepairRows := by
  unfold Obligations.RepairRows
  refine ⟨?_, ?_, ?_, ?_, ?_, ?_, ?_, ?_, ?_, fun s u => readmissionTestDone_third, ?_, ?_, ?_, ?_, ?_⟩
  · intro s b k e hs hf hc hcf t
    have hx : exec (.cellRepairDone b k) s = execCellRepairDone b k s := rfl
    have ho : s.takeOutCell e = s := if_pos hf
    simp only [hx, execCellRepairDone, hs, ho, hcf, if_neg hc, if_true, t]
  · intro s u hs
    have hx : exec (.spareSelfTest u true) s = execSpareSelfTest u true s := rfl
    have hu (v : UnitRec) : ((s.setUnit u.toNat v).addSpareCell u.toNat).unit u.toNat = v :=
      ((addSpareCell_only ..).same (·.unit u.toNat)).trans (unit_setUnit_self ..)
    refine ⟨_, by simp only [hx, execSpareSelfTest, hs, if_true]; rfl, unitState_eq ?_, ?_⟩
    · rw [hu]
    · rw [hu]
  · intro s u hs
    have hx : exec (.spareSelfTest u true) s = execSpareSelfTest u true s := rfl
    simp only [hx, execSpareSelfTest, hs, Bool.false_eq_true, if_false, Bool.true_or, if_true]
  · intro s u hl hs hst
    have hx : exec (.spareSelfTest u false) s = execSpareSelfTest u false s := rfl
    have hc : ¬ (false || fenced s u.toNat || decide (addrLevel u.toNat = 2) && unitState s u.toNat != .spare) = true := by
      simp [fenced, hst]
    have hl' : ¬ addrLevel u.toNat = 1 := by omega
    refine ⟨_, by simp only [hx, execSpareSelfTest, hs, Bool.false_eq_true, if_false, if_neg hc, if_neg hl']; rfl, unitState_eq ?_⟩
    rw [unit_condemn_self]
  · intro s hm hf hw hsw
    have hx : exec .maintenanceWindowStart s = .next ((readmittable s).foldl (setTestDue true) { s with fault.window := true }) := by
      refine congrArg Host.Outcome.next ((if_neg (by simp [hm, hf, hw])).trans ?_)
      have hn : ¬ ({ s with fault.window := true } : State).getN .SUSPECT_SWAP = 1 := by
        rw [show ({ s with fault.window := true } : State).getN .SUSPECT_SWAP = 0 from hsw]
        decide
      simp only [if_neg hn]
      rfl
    exact ⟨_, hx, window_foldl_setTestDue .., fun u hu => testDue_foldl_setTestDue true _ _ u (.inl hu)⟩
  · intro s hm
    exact congrArg Host.Outcome.next (if_pos (by simp [hm]))
  · intro s
    have hx : exec .maintenanceWindowEnd s = .next ((s.units.keys (fun _ v => v.testDue)).foldl (setTestDue false) { s with fault.window := false }) := rfl
    refine ⟨_, hx, window_foldl_setTestDue .., fun u => testDue_foldl_setTestDue false _ _ u ?_⟩
    cases hu : (s.unit u).testDue with
    | false => exact .inr hu
    | true => exact .inl (mem_keys_of_getD default _ s.units u rfl hu)
  · intro s u hd hs
    exact congrArg Host.Outcome.next ((if_neg (by simp [hd, hs])).trans (if_pos rfl))
  · intro s u hd hs hp
    have hx : exec (.readmissionTestDone u true) s = execReadmissionTestDone u true s := rfl
    refine ⟨s.setUnit u.toNat { s.unit u.toNat with testDue := false, testPoints := 1, firstTest := s.up }, ?_, ?_, ?_, ?_, ?_⟩
    · simp [hx, execReadmissionTestDone, hd, hs, hp]
    · rw [unit_setUnit_self]
    · rw [unit_setUnit_self]; exact hs
    · rw [unit_setUnit_self]
    · rw [unit_setUnit_self]
  · intro s b hb
    exact congrArg Host.Outcome.next ((if_neg (by rw [hb]; decide)).trans (if_neg (by rw [hb]; decide)))
  · intro s b hb
    exact congrArg Host.Outcome.next ((if_neg (by rw [hb]; decide)).trans (if_pos hb))
  · intro s b hb
    refine ⟨_, congrArg Host.Outcome.next ((if_neg (by simp [hb])).trans (if_pos rfl)), pairState_setPairState_self .., ?_⟩
    exact ((setPairState_only ..).same (pairTesting · b)).trans (pairTesting_setTesting_self ..)
  · intro s b hb
    exact congrArg Host.Outcome.next ((if_neg (by simp [hb])).trans (if_neg (by decide)))
  · intro s hp hh ha
    refine ⟨({ s with fw.hold := false } : State).resumeCommands, congrArg Host.Outcome.next ((if_neg (by simpa using hp)).trans
      ((if_neg (by simp [hh])).trans (if_pos (by simp [ha])))), ?_⟩
    exact (resumeCommands_only ..).same (·.fw.hold)

end Sys2Proof.Machine
end

section
/-! PROOFS. Commands of faults and repairs. -/
namespace Sys2Proof.Machine
-- One theorem after the other: side by side, their threads outgrow the memory of the check.
set_option Elab.async false

theorem pairState_setPairState_ne (s : State) (b : Bool) (v : PairState) : pairState (s.setPairState (!b) v) b = pairState s b := by
  cases b <;> rfl

/-- What the change of the active pair leaves (R490). -/
theorem pairState_flipPair (s : State) : pairState s.flipPair (!s.fw.pairB) = .active ∧ pairState s.flipPair s.fw.pairB = pairState s s.fw.pairB := by
  unfold State.flipPair
  exact ⟨pairState_setPairState_self .., pairState_setPairState_ne ..⟩

theorem pairB_flipPair (s : State) : s.flipPair.fw.pairB = (!s.fw.pairB) ∧ s.flipPair.fw.hold = true := by
  unfold State.flipPair
  exact ⟨(setPairState_only ..).same (·.fw.pairB), (setPairState_only ..).same (·.fw.hold)⟩

/-- Settles O43: each command by its checks, in order. -/
theorem faultCommands : Obligations.FaultCommands := by
  unfold Obligations.FaultCommands
  refine ⟨?_, ?_, ?_, ?_, ?_, ?_, ?_, ?_, ?_⟩
  · intro s mb c h
    exact ⟨_, next_done h rfl⟩
  · intro s mb c u h hu hl
    exact next_done h ((if_neg (by simp [hu])).trans (if_neg hl))
  · intro s mb c b h
    exact next_done h (if_pos rfl)
  · intro s mb c b u h hu
    exact next_done h ((if_neg (by simp)).trans (if_neg (by simp [hu])))
  · intro s mb c u h hu hl hf
    have hf' : fenced (begun s mb c) u.toNat = true := hf
    have h3 : ¬ addrLevel u.toNat = 3 := by omega
    have h4 : ¬ addrLevel u.toNat = 4 := by omega
    exact next_done h ((if_neg (by simp [hu, h3])).trans ((if_neg h4).trans ((if_neg (by simp [hf'])).trans (if_pos rfl))))
  · intro s mb c n h
    exact ⟨_, next_done h rfl⟩
  · intro s mb c u h hu hl hs
    have hx : repairWrite (begun s mb c) (u, 6) = ((begun s mb c).toSpare u.toNat 6, .ok, []) := by
      have h3 : ¬ addrLevel u.toNat = 3 := by omega
      have hs' : unitState (begun s mb c) u.toNat = .iced := hs
      exact (if_neg (by simp [hu, h3])).trans ((if_neg (by simp)).trans ((if_pos (by simp [hl])).trans (if_pos hs')))
    exact next_done h (entriesCmd_one hx)
  · intro s mb c h hp
    have hp' : pairState (begun s mb c) (!(begun s mb c).fw.pairB) = .standby := hp
    have hb : ((begun s mb c).setPairState s.fw.pairB .standby).fw.pairB = s.fw.pairB := (setPairState_only ..).same (·.fw.pairB)
    obtain ⟨h1, h2⟩ := pairB_flipPair ((begun s mb c).setPairState s.fw.pairB .standby)
    obtain ⟨h3, h4⟩ := pairState_flipPair ((begun s mb c).setPairState s.fw.pairB .standby)
    rw [hb] at h1 h3 h4
    exact ⟨_, next_wait h (if_pos hp'), h1, h2, h3, h4.trans (pairState_setPairState_self ..)⟩
  · intro s mb c u n h hu
    exact next_done h (if_pos hu)

end Sys2Proof.Machine
end

section
/-! PROOFS. Event delivery, vectors and telemetry. -/
namespace Sys2Proof.Machine
-- One theorem after the other: side by side, their threads outgrow the memory of the check.
set_option Elab.async false

/-- A record on the store's route takes the next SEQ and its place (R512, R517). -/
theorem store_deliver {s : State} {r : EvRec} (ht : toRing s r.kind = false) (hl : s.ev.loss = none) (hn : s.ev.store.length < 256) :
    ∃ e, (s.deliver r).ev.store = s.ev.store ++ [e] ∧ e.1 = { r with seq := s.ev.seq } ∧ (s.deliver r).ev.seq = (s.ev.seq + 1) % 65536 := by
  have hp : s.placeLoss false = s := by simp only [State.placeLoss, hl]
  have hd : s.deliver r = ({ s with ev.seq := (s.ev.seq + 1) % 65536 } : State).storePut ({ r with seq := s.ev.seq }, routeVector s { r with seq := s.ev.seq }) := by
    simp only [State.deliver, ht, hp, Bool.false_eq_true, if_false]
  refine ⟨({ r with seq := s.ev.seq }, routeVector s { r with seq := s.ev.seq }), ?_, ?_, ?_⟩
  · rw [hd, State.storePut, if_pos hn]
    exact (visible_only ..).same (·.ev.store)
  · rfl
  · rw [hd, State.storePut, if_pos hn]
    exact (visible_only ..).same (·.ev.seq)

/-- A full store of Major and Critical records loses the new one (R517, R519). -/
theorem storePut_full_major {s : State} (e : EvRec × Option Nat) (hn : 256 ≤ s.ev.store.length) (hd : dropMinor s.ev.store = none) :
    (s.storePut e).ev.store = s.ev.store ∧ ∃ l, (s.storePut e).ev.loss = some l := by
  have hs : ((s.bumpF .EVENT_LOST 0 15 0).lose 3 1).ev.store = s.ev.store := rfl
  have hx : s.storePut e = (s.bumpF .EVENT_LOST 0 15 0).lose 3 1 := by
    rw [State.storePut, if_neg (Nat.not_lt.2 hn)]
    simp only [hs, hd]
  rw [hx]
  exact ⟨rfl, _, rfl⟩

theorem closeBatch_some {s : State} (h : s.ev.batch ≠ []) : s.closeBatch =
    { s.stage 3 { len := 16 * s.ev.batch.length, meta_ := s.ev.batch.length * 2 ^ 16 + s.ev.lostSinceBatch, payload := .events s.ev.batch } with
      ev.batch := [], ev.lostSinceBatch := 0 } :=
  if_neg (by simpa using h)

theorem closeBatch_none {s : State} (h : s.ev.batch = []) : s.closeBatch = s := if_pos (by simp [h])

/-- An arrival counted in its source's burst. -/
def arrived (s : State) (n : Nat) (l : List EvRec) : State :=
  { s with ev.transit := l, ev.burst := s.ev.burst.set n (s.ev.burst.get n + 1) }

/-- An arriving record is shed, masked or delivered (R512 to R514). -/
theorem exec_eventArrival {s : State} {n : Fin 1624} {r : EvRec} {l : List EvRec} (ht : takeFirst n s.ev.transit = some (r, l)) :
    exec (.eventArrival n) s = .next
      (if s.getN .EVENT_SOURCE_BURST ≤ s.ev.burst.get n ∧ r.severity ≤ 1 then ((arrived s n l).bump .EVENT_SHED n).lose 1 1
       else if s.ev.maskKind.get r.kind.code || s.ev.maskSource.get n then (arrived s n l).bump .EVENT_MASKED r.kind.code
       else (arrived s n l).deliver r) := by
  have hx : exec (.eventArrival n) s = execEventArrival n s := rfl
  have hc (b : Nat) : (decide (b < s.ev.burst.get n + 1) && decide (r.severity ≤ 1)) = true ↔ b ≤ s.ev.burst.get n ∧ r.severity ≤ 1 := by
    rw [Bool.and_eq_true, decide_eq_true_iff, decide_eq_true_iff, Nat.lt_succ_iff]
  simp only [hx, execEventArrival, ht, hc]
  rfl

/-- Settles O44: each row by its own branch. -/
theorem eventRows : Obligations.EventRows := by
  unfold Obligations.EventRows
  refine ⟨?_, ?_, ?_, fun _ _ => store_deliver, fun _ => storePut_full_major, fun _ => rfl, ?_, ?_, ?_, ?_, ?_, ?_⟩
  · intro s n r l ht hb hk hs
    rw [exec_eventArrival ht, if_neg (fun h => Nat.not_le.2 hb h.1), if_neg (by rw [hk, hs]; decide)]
    rfl
  · intro s n r l ht hb hr
    refine ⟨_, (exec_eventArrival ht).trans (congrArg Host.Outcome.next (if_pos ⟨hb, hr⟩)), ?_, ?_, ?_, ?_⟩
    · rfl
    · rfl
    · rfl
    · exact bump_ro_self (arrived s n l) .EVENT_SHED n 1
  · intro s n r l ht hr hk
    refine ⟨_, (exec_eventArrival ht).trans (congrArg Host.Outcome.next ((if_neg fun h => Nat.not_le.2 hr h.2).trans (if_pos (by rw [hk]; rfl)))), ?_, ?_, ?_⟩
    · rfl
    · rfl
    · exact bump_ro_self (arrived s n l) .EVENT_MASKED r.kind.code 1
  · intro s h
    refine ⟨_, congrArg Host.Outcome.next (closeBatch_some h), rfl, _, rfl, rfl, rfl⟩
  · intro s h
    exact congrArg Host.Outcome.next (closeBatch_none h)
  · intro s v hh hd hm hn
    have hx : exec (.eventIrqHoldoffExpiry v) s = execEventIrqHoldoffExpiry v s := rfl
    have hms : s.msix v.val = s.emit (.msix v.val) := if_neg (ne_true_of_eq_false hm)
    refine ⟨_, by simp only [hx, execEventIrqHoldoffExpiry, hh, hd, hms, Bool.and_self, if_true]; rfl, ?_, ?_⟩
    · rfl
    · have hb : ((s.emit (.msix v.val)).getN .EVENT_IRQ_HOLDOFF != 0) = true := bne_iff_ne.2 hn
      rw [hb]
      exact Tab.get_set_self s.ev.vectors v.val ⟨true, false⟩
  · intro s v hd
    have hx : exec (.eventIrqHoldoffExpiry v) s = execEventIrqHoldoffExpiry v s := rfl
    refine ⟨_, by simp only [hx, execEventIrqHoldoffExpiry, hd, Bool.and_false, Bool.false_eq_true, if_false]; rfl, ?_, ?_⟩
    · rfl
    · exact Tab.get_set_self s.ev.vectors v.val ⟨false, false⟩
  · intro s r l hs ho ht
    have hx : exec .telemetryRecord s = execTelemetryRecord s := rfl
    have ho' : openChannels { s with ev.telStaged := l } 4 false = [] := ho
    have ht' : ¬ telemetryBytes { s with ev.telStaged := l } / 32 * 32 = 0 := fun h => ht (by have : telemetryBytes s / 32 * 32 = 0 := h; omega)
    refine ⟨_, by simp only [hx, execTelemetryRecord, hs, ho', decide_eq_false ht', List.isEmpty_nil, Bool.not_true, Bool.false_and, Bool.or_self,
      Bool.false_eq_true, if_false]; rfl, ?_, ?_, ?_⟩
    · rfl
    · exact List.mem_append_right _ (List.mem_singleton.2 rfl)
    · rfl
  · intro s h
    have hx : s.flushTelemetry = _ := if_neg (by simpa using h)
    exact ⟨_, congrArg Host.Outcome.next hx, rfl, rfl⟩

end Sys2Proof.Machine
end

section
/-! PROOFS. Commands of events and telemetry. -/
namespace Sys2Proof.Machine
-- One theorem after the other: side by side, their threads outgrow the memory of the check.
set_option Elab.async false

theorem setFlags_one_self (t : Tab Bool) (b : Bool) (k : Nat) : (setFlags t b [k]).get k = b := Tab.get_set_self ..

theorem setFlags_one_ne (t : Tab Bool) (b : Bool) {k j : Nat} (h : j ≠ k) : (setFlags t b [k]).get j = t.get j := Tab.get_set_ne _ _ (Ne.symm h)

theorem batch_closeBatch (s : State) : s.closeBatch.ev.batch = [] := by
  by_cases h : s.ev.batch = []
  · rw [closeBatch_none h, h]
  · rw [closeBatch_some h]

/-- Settles O45: each command by its checks, in order. -/
theorem eventCommands : Obligations.EventCommands := by
  unfold Obligations.EventCommands
  refine ⟨?_, ?_, ?_, ?_, ?_, ?_⟩
  · intro s mb c b k n h hk hk' hn hb
    have hc : (begun s mb c).closeBatch = begun s mb c := closeBatch_none (s := begun s mb c) hb
    refine ⟨{ begun s mb c with ev.maskKind := setFlags s.ev.maskKind b [k], ev.maskSource := setFlags s.ev.maskSource b [n] },
      next_done h ((if_pos (by simp [hk, hk', hn])).trans (by rw [hc]; rfl)), setFlags_one_self .., setFlags_one_self .., fun j hj => setFlags_one_ne _ _ hj,
      fun j hj => setFlags_one_ne _ _ hj⟩
  · intro s mb c b l h
    exact next_done h (if_neg (by simp))
  · intro s mb c k v b h hk hk' hv hv'
    have hx : setRoute (begun s mb c).closeBatch ⟨k, b, some v⟩ =
        ({ (begun s mb c).closeBatch with ev.routes := (begun s mb c).closeBatch.ev.routes.set k ⟨b, some (some v)⟩ }, .ok, [(k : Int)]) :=
      if_pos (by simp [hk, hk', hv, hv'])
    exact ⟨_, next_done h ((if_neg (by simp)).trans (entriesCmd_one hx)), Tab.get_set_self _ _ _, batch_closeBatch _⟩
  · intro s mb c n h hn
    exact next_done h (if_neg (Nat.not_lt.2 hn))
  · intro s mb c n h hn
    exact next_done h (if_pos hn)
  · intro s mb c m p h hm hp hp'
    refine ⟨_, next_done h (if_pos ⟨hm, hp, hp'⟩), rfl, ?_⟩
    have hg : ((begun s mb c).setPar .TELEMETRY_PERIOD 0 p).par.vals.get (pkey .TELEMETRY_PERIOD 0) = some (p : Int) :=
      Tab.get_set_self s.par.vals (pkey .TELEMETRY_PERIOD 0) (some (p : Int))
    exact (congrArg (Option.getD · _) hg)

end Sys2Proof.Machine
end

section
/-! PROOFS. Reset, bring-up, power states and temperature. -/
namespace Sys2Proof.Machine
-- One theorem after the other: side by side, their threads outgrow the memory of the check.
set_option Elab.async false

theorem mem_erase {α : Type} {t : Tab α} {i : Nat} {e : Nat × α} (h : e ∈ Tab.erase t i) : e ∈ t := (List.mem_filter.1 h).1

theorem mem_insert {α : Type} {t : Tab α} {i : Nat} {v : α} {e : Nat × α} (h : e ∈ Tab.insert i v t) : e = (i, v) ∨ e ∈ t := by
  induction t with
  | nil => exact .inl (List.mem_singleton.1 h)
  | cons x t ih =>
    obtain ⟨k, w⟩ := x
    rw [Tab.insert] at h
    split at h
    · exact List.mem_cons.1 h
    · rcases List.mem_cons.1 h with h | h
      · exact .inr (h ▸ List.mem_cons_self)
      · exact (ih h).imp_right (List.mem_cons_of_mem _)

theorem mem_set {α : Type} [Inhabited α] [DecidableEq α] {t : Tab α} {i : Nat} {v : α} {e : Nat × α} (h : e ∈ Tab.set t i v) : e = (i, v) ∨ e ∈ t := by
  unfold Tab.set at h
  split at h
  · exact .inr (mem_erase h)
  · exact (mem_insert h).imp_right mem_erase

/-- What holds of every entry, and of what an unlisted index reads as, holds of what is read. -/
theorem get_of_forall_mem {α : Type} [Inhabited α] {t : Tab α} {P : α → Prop} (hd : P default) (h : ∀ e ∈ t, P e.2) (i : Nat) : P (t.get i) := by
  unfold Tab.get
  induction t with
  | nil => exact hd
  | cons x t ih =>
    obtain ⟨k, v⟩ := x
    rw [Tab.getD]
    split
    · exact h _ List.mem_cons_self
    · exact ih fun e he => h e (List.mem_cons_of_mem _ he)

theorem tripRun_sense (s : State) (n : Nat) (x : Int) : ∃ k, k ≤ s.power.tripRun.get n + 1 ∧
    (s.sense n x).power.tripRun = s.power.tripRun.set n k := by
  refine ⟨if s.get .TEMP_TRIP_C * 10 ≤ x + calEffective s.roles.overlay 5 n then s.power.tripRun.get n + 1 else 0, ?_, ?_⟩
  · split
    · exact Nat.le_refl _
    · exact Nat.zero_le _
  · unfold State.sense
    dsimp only
    split
    · exact (raiseSec_only ..).same (·.power.tripRun)
    · split <;> rfl

/-- A sensor whose run is short of two does not trip the device with one sample (R544). -/
theorem tripRun_sense_lt {s : State} (h : ∀ e ∈ s.power.tripRun, e.2 < 2) (n : Nat) (x : Int) :
    (s.sense n x).power.tripRun.any (fun e => decide (3 ≤ e.2)) = false := by
  obtain ⟨k, hk, ht⟩ := tripRun_sense s n x
  have hn : s.power.tripRun.get n < 2 := get_of_forall_mem (P := (· < 2)) (by decide) h n
  rw [ht]
  refine List.any_eq_false.2 fun e he => ?_
  rw [decide_eq_true_iff]
  rcases mem_set he with rfl | he
  · show ¬ 3 ≤ k
    omega
  · have := h e he
    omega

/-- What POWER_STATE_SET does for Standby on an active device (R539). -/
theorem powerStateSet_standby {s : State} {c : Cmd} (hw : bodyWord c 0 = 0x02FFFFFF) (hd : s.power.dev = .active) :
    (if s.power.dev = .bringup || s.power.dev = .hibernateExit then fail s .busy
     else if bits (bodyWord c 0) 23 0 = 0xFFFFFF then setDevice s (bits (bodyWord c 0) 31 24)
     else setChannel s (bits (bodyWord c 0) 31 24) (bits (bodyWord c 0) 23 0)) =
    if tiedUp s = true then fail s .busy else okay s.enterStandby := by
  have h1 : bits 0x02FFFFFF 23 0 = 0xFFFFFF := by decide
  have h2 : bits 0x02FFFFFF 31 24 = 2 := by decide
  rw [hw, h1, h2, hd]
  simp [setDevice, hd]

/-- Settles O46: each row by its own branch. -/
theorem powerRows : Obligations.PowerRows := by
  unfold Obligations.PowerRows
  refine ⟨?_, ?_, ?_, ?_, ?_, ?_, ?_, ?_, ?_, ?_, ?_, ?_, ?_, ?_, ?_, ?_⟩
  · intro s
    exact ⟨_, rfl, rfl, rfl, rfl, rfl, rfl, rfl, rfl, rfl⟩
  · intro s
    exact ⟨_, rfl, rfl, rfl, rfl⟩
  · intro s
    exact ⟨_, rfl, rfl, rfl, rfl, rfl, rfl⟩
  · intro s hh hd hs
    have hx : exec (.bringupStepDone .rom) s = execBringupStepDone .rom s := rfl
    have hc : ¬ (s.power.halted || !(s.power.dev == .bringup || s.power.dev == .hibernateExit)) = true := by simp [hh, hd]
    refine ⟨s.nextStage, by simp only [hx, execBringupStepDone, if_neg hc, hs], ?_, ?_⟩
    · exact congrArg (· + 1) hs
    · have hg : s.nextStage.power.stageTime.get s.power.stage = (s.up - s.power.stepStart) / msec := Tab.get_set_self ..
      rw [hs] at hg
      exact hg
  · intro s a b hh hd hs hi hv
    have hx : exec (.bringupStepDone (.image a b)) s = execBringupStepDone (.image a b) s := rfl
    have hc : ¬ (s.power.halted || !(s.power.dev == .bringup || s.power.dev == .hibernateExit)) = true := by simp [hh, hd]
    have hb : s.bootImage a b = { s with fw.booted := false, fw.running := false, fw.header := a, fw.newHeader := b } := by
      simp only [State.bootImage, hi, Bool.false_eq_true, if_false, hv, if_true]
    refine ⟨(s.bootImage a b).nextStage, by simp only [hx, execBringupStepDone, if_neg hc, hs, hv, Bool.true_or, if_true], ?_, ?_, ?_⟩
    · rw [hb]
      exact congrArg (· + 1) hs
    · rw [hb]
      rfl
    · rw [hb]
      rfl
  · intro s a b hh hd hs ha hb
    have hx : exec (.bringupStepDone (.image a b)) s = execBringupStepDone (.image a b) s := rfl
    have hc : ¬ (s.power.halted || !(s.power.dev == .bringup || s.power.dev == .hibernateExit)) = true := by simp [hh, hd]
    show _ = Host.Outcome.next s.halt
    simp only [hx, execBringupStepDone, if_neg hc, hs, ha, hb, Bool.or_self, Bool.false_eq_true, if_false]
  · intro s n hh hd hs
    have hx : exec (.bringupStepDone (.dram n false)) s = execBringupStepDone (.dram n false) s := rfl
    have hc : ¬ (s.power.halted || !(s.power.dev == .bringup || s.power.dev == .hibernateExit)) = true := by simp [hh, hd]
    show _ = Host.Outcome.next s.halt
    simp only [hx, execBringupStepDone, if_neg hc, hs, Bool.not_false, Bool.true_or, if_true]
  · intro s c hd he hk hl
    exact congrArg Host.Outcome.next (if_pos (by simp [hd, he, hk, hl]))
  · intro s c hd ht
    exact congrArg Host.Outcome.next (if_pos (by simp [hd, ht]))
  · intro s d hd
    exact ⟨_, congrArg Host.Outcome.next (if_pos hd), Tab.get_set_self s.power.selfRefresh d.val true⟩
  · intro s d hd
    exact congrArg Host.Outcome.next (if_neg hd)
  · intro s mb c h hw hd ht
    exact next_done h ((powerStateSet_standby (s := begun s mb c) hw hd).trans (if_neg (ne_true_of_eq_false ht)))
  · intro s mb c h hw hd ht
    exact next_done h ((powerStateSet_standby (s := begun s mb c) hw hd).trans (if_pos ht))
  · intro s mb c h
    exact ⟨_, next_done h rfl⟩
  · intro s x hd ht
    exact congrArg Host.Outcome.next ((if_neg hd).trans (if_neg (ne_true_of_eq_false (tripRun_sense_lt ht 0 x))))
  · intro s l hd
    exact congrArg Host.Outcome.next (if_pos hd)

end Sys2Proof.Machine
end

section
/-! PROOFS. Lane tests and TAP instructions. -/
namespace Sys2Proof.Machine
-- One theorem after the other: side by side, their threads outgrow the memory of the check.
set_option Elab.async false

theorem lane_setLane_self (s : State) (type inst : Nat) (v : LaneTest) : (s.setLane type inst v).lane type inst = v :=
  Tab.get_set_self ..

/-- A lane that is not refused is named as Table 22.2 lays it out (R548). -/
theorem laneWordOk_of_laneRefusal {s : State} {w : Nat} (h : laneRefusal s w = none) : laneWordOk w = true := by
  cases hw : laneWordOk w with
  | true => rfl
  | false =>
    rw [laneRefusal, if_pos (by simp [hw])] at h
    cases h

/-- A PON or uplink lane that enters a test changes nothing beside itself: only a tether lane takes its port along (R557). -/
theorem enterTest_of_lt_two (s : State) {type : Nat} (inst : Nat) (h : type < 2) : s.enterTest type inst = s :=
  if_neg (Nat.ne_of_lt h)

/-- Settles O47: each row at its one branch; a test of a lane that is not refused changes that lane alone. -/
theorem laneTestRows : Obligations.LaneTestRows := by
  unfold Obligations.LaneTestRows
  refine ⟨?_, ?_, ?_, ?_, ?_, ?_, ?_, ?_, fun s => rfl, fun s => rfl, fun s => rfl⟩
  · intro s mb c w k h hr hk hz ht hc
    have hr' : laneRefusal (begun s mb c) w = none := hr
    have hc' : comboOk (bits w 31 30) (bits w 7 0) (k.testBit 31) (k.testBit 30) ((begun s mb c).lane (bits w 31 30) (bits w 7 0)).loop = true := hc
    refine next_done h ?_
    simp only [w, k] at hr' hk hz hc' ht ⊢
    simp only [hr', hc', hz, Nat.not_lt.2 hk, enterTest_of_lt_two _ _ ht, bne_self_eq_false, Bool.not_true, decide_false, Bool.or_self, Bool.false_eq_true, if_false]
    rfl
  · intro s mb c x h hr
    have hr' : laneRefusal (begun s mb c) (bodyWord c 0) = some x := hr
    refine next_done h ?_
    simp only [hr']
    rfl
  · intro s mb c n e l h hr hl hf
    have hr' : laneRefusal (begun s mb c) (bodyWord c 0) = none := hr
    have hb : (begun s mb c).lane (bits (bodyWord c 0) 31 30) (bits (bodyWord c 0) 7 0) = l := rfl
    refine ⟨(begun s mb c).setLane (bits (bodyWord c 0) 31 30) (bits (bodyWord c 0) 7 0)
      { l with compared := satTo 64 (l.compared + n), errors := satTo 64 (l.errors + e) }, next_done h ?_, ?_⟩
    · have hn : ((b2n l.locked : Nat) : Int) = 1 := by rw [hl]; rfl
      simp only [hr', hb, if_pos hl, hf, Bool.false_eq_true, if_false, hn]
      rfl
    · rw [lane_setLane_self]
  · intro s mb c l h hr hg hi hn hn' hc hz hv
    have hr' : laneRefusal (begun s mb c) (bodyWord c 0) = none := hr
    have hb : (begun s mb c).lane (bits (bodyWord c 0) 31 30) (bits (bodyWord c 0) 7 0) = l := rfl
    have hrange : (bits (bodyWord c 1) 31 24 = 0 || 64 < bits (bodyWord c 1) 31 24 || bits (bodyWord c 1) 23 0 = 0 || bodyWord c 2 = 0 ||
        1000000 < bodyWord c 2 : Bool) = false := by
      simp [Nat.ne_of_gt hn, hn', hc, hz, hv]
    have hgen : (!l.gen) = false := by simp [hg]
    let l' := { l with injBits := bits (bodyWord c 1) 31 24, injLeft := bits (bodyWord c 1) 23 0, injInterval := bodyWord c 2 }
    refine ⟨(begun s mb c).setLane (bits (bodyWord c 0) 31 30) (bits (bodyWord c 0) 7 0) l',
      [(bodyWord c 0 : Int), bits (bodyWord c 1) 31 24, bits (bodyWord c 1) 23 0, bodyWord c 2], next_done h ?_, ?_⟩
    · simp only [hr', hb, hrange, hgen, if_pos hi, Bool.false_eq_true, if_false]
      rfl
    · rw [lane_setLane_self]
  · intro s k i hg hn hl
    have hx : exec (.errorInjection k i) s = execErrorInjection k i s := rfl
    simp only [hx, execErrorInjection, hn, hg, Nat.pos_of_ne_zero hl, decide_true, Bool.and_self, if_true]
  · intro s mb c w i h ht hl hl2 hr hc
    have hr' : laneRefusal (begun s mb c) w = none := hr
    have hw : laneWordOk w = true := laneWordOk_of_laneRefusal hr
    have hc' : comboOk 1 i ((begun s mb c).lane 1 i).gen ((begun s mb c).lane 1 i).chk (bodyWord c 1) = true := hc
    have he : (begun s mb c).enterTest 1 i = begun s mb c := enterTest_of_lt_two _ _ (by decide)
    have hx : exemptLoop 1 (bodyWord c 1) = false := by simp [exemptLoop, hl2]
    have hlanes : loopLanes 1 i = [i] := rfl
    refine next_done h ?_
    simp only [w, i] at hr' hw hc' ht hx he hlanes ⊢
    simp only [ht, hr', hw, hx, Nat.not_lt.2 hl, he, hlanes, Bool.not_true, decide_false, Bool.false_or, List.all_cons, List.all_nil, hc', Bool.and_true,
      ite_self, if_true, List.foldl_cons, List.foldl_nil]
    -- the lane may be in the exempt loop already; then 0 clears it, whatever its owner
    generalize (bodyWord c 1 == 0 && exemptLoop 1 ((begun s mb c).lane 1 (bits (bodyWord c 0) 7 0)).loop) = clears
    cases clears <;> rfl
  · intro s k i hc
    exact congrArg Host.Outcome.next (if_pos hc)
  · intro s k i n e hl
    refine ⟨_, congrArg Host.Outcome.next (if_pos hl), ?_⟩
    rw [lane_setLane_self]
    exact ⟨rfl, rfl, rfl⟩

end Sys2Proof.Machine
end
